-- ==== Sys2Proof/Word.lean ====
section
/-! DEFINITION. The word types of the model. R4, R5: bit 0 is the least significant bit; every register is a
32-bit little-endian word. A `Tab` is the one shape of sparse data: key and value pairs, keys strictly rising, no pair
equal to what an unlisted key reads as. -/

namespace Sys2Proof

abbrev W8 := BitVec 8
abbrev W16 := BitVec 16
abbrev W32 := BitVec 32
abbrev W40 := BitVec 40
abbrev W64 := BitVec 64
abbrev W512 := BitVec 512

/-- Sparse data by key. -/
abbrev Tab (α : Type) := List (Nat × α)

end Sys2Proof
end

