-- ==== Sys2Proof/Syntax.lean ====
section
/-! DEFINITION. The commands the block takes: one constructor of `Instr` per row of spec/opcode_table.json, with the row's
operands. The table gives no bits, so an operand is the value the spec's text names: an instance, a register number, a value
written, or what arrives from outside (a fetched descriptor, a received frame, a converter code). -/

namespace Sys2Proof

abbrev W2 := BitVec 2
abbrev W3 := BitVec 3
abbrev W4 := BitVec 4
abbrev W5 := BitVec 5
abbrev W6 := BitVec 6
abbrev W7 := BitVec 7
abbrev W10 := BitVec 10
abbrev W11 := BitVec 11
abbrev W12 := BitVec 12
abbrev W13 := BitVec 13
abbrev W17 := BitVec 17
abbrev W22 := BitVec 22
abbrev W24 := BitVec 24
abbrev W48 := BitVec 48
/-- Bytes as they stand in memory or on a line, first byte first. -/
abbrev Bytes := List W8
/-- A page index of BAR0's 64 MiB (R35). -/
abbrev PageIx := BitVec 14
/-- A power-slot key: slot s of DPWR is s; slot s of QPWR q is 64 (q + 1) + s. -/
abbrev SlotIx := Fin 320
abbrev Quad := Fin 4
abbrev Cg := Fin 64
abbrev Lane := Fin 64
abbrev Ring := Fin 256
abbrev Cq := Fin 256
abbrev Flow := Fin 4096
/-- A cluster, numbered device-wide (R20). -/
abbrev Clu := Fin 24
/-- A tile within its cluster. -/
abbrev Tix := Fin 8
/-- A PCIe function in the OWNER encoding: 0 PF1, 1 to 32 VF n, 33 PF0. -/
abbrev Fn := Fin 34
/-- An engine: 0 FFT, 1 shaping, 2 compression, 3 coding, 4 access-burst detector. -/
abbrev Eng := Fin 5
/-- A unit that holds a job: 0 FFT, 1 shaping, 2 compression, 3 LDPC decoder, 4 LDPC encoder, 5 turbo, 6 polar,
7 trellis, 8 access-burst detector. -/
abbrev JobUnit := Fin 9
abbrev Bank := Fin 12
abbrev Stack := Fin 2
abbrev Fin2 := Fin 2
abbrev Fin3 := Fin 3
/-- A lane-quad: lanes 4n to 4n + 3 of the device (R30). -/
abbrev LaneQuad := Fin 16
/-- A Weir: 0 to 3 the quadrants', 4 the device's. -/
abbrev WeirIx := Fin 5
/-- A monitored rail: 0 to 3 VDD_CORE_Qq, 4 VDD_CORE_DEV, 5 VDD_WELL. -/
abbrev Rail := Fin 6
abbrev Rail5 := Fin 5
abbrev SReg := W5
abbrev VReg := W5
abbrev AReg := W3
abbrev PReg := W3
abbrev MReg := W4
/-- The requester of a memory access: a carrier group, or none for an unrestricted requester (R165). -/
abbrev Requester := Option Cg
/-- A memory-control block (R176): 0 to 3 CIST of Qq, 4 to 27 CMEM of cluster d, 28 and 29 HBMC n. -/
abbrev MemCtl := Fin 30
/-- The 223 cells of the boundary register (R462). -/
abbrev Boundary := BitVec 223

/-- An operation of the matrix coprocessor (R121). -/
inductive CopKind where
  | mmul (ha hb : Bool) | madd | msub | mherm | mchol | mtrs (upper herm : Bool) | mqr | minv
deriving DecidableEq, Repr

/-- A coprocessor instruction of a bundle behind a taken branch, handed over before the branch resolved (R127): a move, MSTAT or MWAIT, or
an operation with its order less one and its M registers. -/
inductive CopBehind where
  | move
  | op (kind : CopKind) (n : W3) (md mr ma mb : MReg)
deriving DecidableEq, Repr

/-- What a squash finds (R82, R127): the coprocessor instructions of the at most two squashed bundles, in order, and whether the first
operation among them had begun when it arrived. -/
structure Squash where
  behind : List CopBehind := []
  began : Bool := false
deriving DecidableEq, Repr

/-- The width of a scalar load or store (R105). -/
inductive ScalarSize where
  | word | half | byte
deriving DecidableEq, Repr

/-- The space a memory address is in (R162, R177). -/
inductive MemSpace where
  | device
  | tileData (d : Clu) (t : Tix)
  | tileProg (d : Clu) (t : Tix)
deriving DecidableEq, Repr

/-- How many attempts of an HBM command met a parity error (R189). -/
abbrev Parity := Fin 5

/-- What the memory cells themselves do at a read: which of the word's check bits and of its data bits flip, a
disagreement of its three valid cells, for HBM the severity the stack reports (0 none, 1 corrected, 2 uncorrected) and how many parity failures the
command met (R166, R167, R189). -/
structure Upset where
  chk : W8
  flip : W64
  vfix : Bool
  sev : Fin 3
  parity : Parity
deriving DecidableEq, Repr

/-- The upsets of the eight words of a scrubbed line. -/
structure LineUpset where
  w0 : Upset
  w1 : Upset
  w2 : Upset
  w3 : Upset
  w4 : Upset
  w5 : Upset
  w6 : Upset
  w7 : Upset
deriving DecidableEq, Repr

/-- What a descriptor read returned: 64 bytes, or an error or poisoned data (R136). -/
inductive FetchResp where
  | data (x : W512)
  | error
deriving DecidableEq, Repr

/-- A configuration request: a read, or a write of the fields the rules use (R399, R400, R406). -/
inductive ConfigReq where
  | read
  | busMaster (on : Bool)
  | msixEnable (on : Bool)
  | sriov (enable : Bool) (numVfs : W16)
  | ari (on : Bool)
  /-- Max_Payload_Size: 0 128, 1 256, 2 512 bytes (R397). -/
  | maxPayload (code : W3)
deriving DecidableEq, Repr

/-- What MSIX_UNMASK acts on (R406). -/
inductive MsixTarget where
  | enable
  | vector (v : W11)
  /-- The mask bit of a vector set again. -/
  | mask (v : W11)
deriving DecidableEq, Repr

/-- What a Pump descriptor fetch returned. -/
inductive PumpFetch where
  | data (x : BitVec 256)
  | error
deriving DecidableEq, Repr

/-- What the host reads of a Pump descriptor returned: the bytes that arrived, which of their 64-bit words a completion with
EP covered (word i: the i-th from the 64-bit word of DADDR on), and whether a read ended with UR or CA (R414, R415). -/
structure PumpResp where
  data : Bytes
  poison : List Nat
  err : Bool
deriving DecidableEq, Repr

/-- The 40 data bytes of a HELLO or DEPART frame, byte 0 in bits [7:0] (R222). -/
abbrev HelloData := BitVec 320

/-- The fields of a received HELLO (R202, R222). -/
structure HelloMsg where
  cls : W3
  /-- PEER_SEEN of the sender. -/
  seen : Bool
  maxRate : W3
  comma : Bool
  fecReq : Bool
  fails : W8
  caps : W16
  serial : W64
deriving DecidableEq, Repr

/-- A frame of a Birlis link as it arrived (R221, R229), with the line errors met while it arrived (R193, R200). -/
structure FrameIn where
  seq : W16
  stream : W10
  len : W16
  /-- The bytes of its data blocks, padding included. -/
  payload : Bytes
  /-- Bytes 1 to 4 of its FRAME_END. -/
  crc : W32
  /-- RS symbols corrected, uncorrectable codewords, invalid sync headers. -/
  corr : W8 := 0
  unc : W8 := 0
  code : W8 := 0
deriving DecidableEq, Repr

/-- A frame of an Ethernet port as it arrived (R234). -/
structure EcpriIn where
  fcsOk : Bool
  da : W48
  /-- It carries an IEEE 802.1Q tag; another EtherType or a second tag is `etherOk = false`. -/
  tagged : Bool
  etherOk : Bool
  rev : W4
  c : Bool
  msg : W8
  /-- PC_ID or RTC_ID. -/
  id : W16
  /-- SEQ_ID byte 0, and byte 1 with E and the subsequence number. -/
  seq : W8
  sub : W8
  payload : Bytes
  /-- The whole frame without its FCS. -/
  raw : Bytes
deriving DecidableEq, Repr
/-- How a PMBus transaction ends (R390): done with the data bytes read, a byte not acknowledged, a PEC that does not match, a
block count above 32. -/
inductive TxnRes where
  | done (data : Bytes)
  | nak (byte : W6)
  | pecError
  | blockLong
deriving DecidableEq, Repr

/-- What a READ_VOUT returned: a LINEAR16 mantissa, a byte not acknowledged, or a word whose PEC does not match. -/
inductive VoutRes where
  | word (m : W16)
  | nak
  | bad
deriving DecidableEq, Repr

/-- Where an integrity source sits (R338): a context of an engine, an FQU slot, a HRACE or TRACE map entry, a CG page, a flow's entry
of a FLOW page, or none of them. -/
inductive FaultSite where
  | other
  | context (q : Quad) (e : Eng) (i : W6)
  | slot (q : Quad) (i : W7)
  | hraceMap (q : Quad) (i : W10)
  | traceMap (q : Quad) (i : W10)
  | group (g : Cg)
  | flow (f : Flow)
deriving DecidableEq, Repr

/-- An integrity source that fires: its code, its site and the location field it carries (R338, R339). -/
structure IntegSrc where
  code : W5
  site : FaultSite := .other
  loc : W16 := 0
deriving DecidableEq, Repr

/-- What one block instance presents in a cycle (R339): the ERR_STAT bits of its page that set, and the integrity sources that fire. -/
structure BlockCycle where
  page : PageIx := 0
  errs : BitVec 32 := 0
  srcs : List IntegSrc := []
deriving DecidableEq, Repr

/-- What reading a manifest gave (R421, R422): its bytes, unless the read met an error, and whether its two signatures verify over
them. -/
structure ManifestRead where
  /-- The read itself met no error. -/
  readOk : Bool
  bytes : List W8
  ecdsaOk : Bool
  lmsOk : Bool
deriving DecidableEq, Repr

/-- The byte enables of an access, and the bits that hardware sets in the register in the same cycle (R10, R11, R38). -/
structure Beat where
  be : W4
  hwSet : W32
deriving DecidableEq, Repr

/-- A read of some bytes of a register (R38). -/
structure ReadAt where
  a : W24
  be : W4
deriving DecidableEq, Repr

/-- What a write meets at HBM: how many parity errors, how many of them in the command or address, and the severity of the read of a
partial write (R189, R190). -/
structure Meets where
  par : Parity
  ca : Parity
  rd : Fin3
deriving DecidableEq, Repr

/-- A HELLO or DEPART frame as it arrived, with the code violations met on the way (R217, R222). -/
structure HelloIn where
  data : HelloData
  code : W8
deriving DecidableEq, Repr

/-- Why lanes lost lock in one cycle: the lane's own cause, its code violations, and the other lanes with theirs (R200, R217, R243). -/
structure Losses where
  cause : W4
  code : W11
  also : List (Lane × W4)
deriving DecidableEq, Repr

/-- A lane, and what arrived or happened on it. -/
structure OnLane (α : Type) where
  lane : Lane
  it : α
deriving DecidableEq, Repr

/-- Two consecutive samples of a rail (R345). -/
structure Samples where
  prev : W16
  mv : W16
deriving DecidableEq, Repr

/-- The commands of the block. -/
inductive Instr where
  /-- R48: A host write to a register that has no row of its own, accepted or dropped under its scope and access type. -/
  | regWrite (a : W24) (v : W32) (x : Beat)
  /-- R37: A read or write to an unpopulated page returns zero or is discarded and is counted as a bad access. -/
  | unpopulatedAccess (a : W24) (write : Bool)
  /-- R11: A read of a read-to-clear field returns its value and clears it, keeping any set that happens in the same
  cycle. -/
  | rcRead (a : W24) (x : Beat)
  /-- R311: A read of the _LO half of a 64-bit RO pair latches the _HI half until the next _LO read. -/
  | latchedPairRead (x : ReadAt)
  /-- R51: A read of a dark page returns 0xFFFF_FFFF, sets DARK_READ in the Weir word and increments WEIR_DARK_RD_CNT. -/
  | darkRead (x : ReadAt)
  /-- R51: A write to a dark page is discarded and increments WEIR_DARK_WR_CNT. -/
  | darkWrite (a : W24) (v : W32)
  /-- R43: A PAGE_CTRL RUN command on an R page starts the copy of shadows to live state, or is rejected under the command
  table. -/
  | run (page : PageIx) (v : W32)
  /-- R66: A PAGE_CTRL HALT command starts the halt sequence of a carrier group. -/
  | halt (page : PageIx) (v : W32)
  /-- R43: A PAGE_CTRL SOFT_RESET command resets the block's registers, or is rejected while the block is ACTIVE. -/
  | softReset (page : PageIx) (v : W32)
  /-- R43: RESETTING clears when a block's soft reset completes, within 64 CLK_WELL cycles. -/
  | softResetEnd (page : PageIx)
  /-- R358: INJ_ARM in ERR_INJ raises error INJ_BIT through the block's normal error path in the next cycle, in FACTORY
  only. -/
  | errInj (page : PageIx) (n : W5)
  /-- R55: A write of WAKE in PWR_CTRL or a power-slot mirror sets or releases the level wake of a block. -/
  | wakeWrite (slot : SlotIx) (mirror : Bool) (v : W32)
  /-- R61: DEV_MODE_REQ with TARGET 1 moves the device from DORMANT to BOOT and starts the boot steps. -/
  | modeReqBoot (key : W16)
  /-- R61: DEV_MODE_REQ with TARGET 2 starts the SERVICE to CONFIG transition when every carrier group is halted. -/
  | modeReqConfig (key : W16)
  /-- R61: DEV_MODE_REQ with TARGET 3 starts the CONFIG to SERVICE transition. -/
  | modeReqService (key : W16)
  /-- R61: DEV_MODE_REQ with TARGET 4 starts DRAIN from CONFIG, SERVICE or FACTORY. -/
  | modeReqDrain (key : W16)
  /-- R58: A CONFIG and SERVICE transition ends, MODE changes, IN_TRANSITION clears and MODE_DONE is raised. -/
  | modeDone
  /-- R62: The debounced assertion of EJECT_L starts DRAIN, is held during BOOT, or in DORMANT may order the hot-swap
  power-down. -/
  | ejectAssert
  /-- R395: The debounced release of EJECT_L sets EJECT_RELEASE and does not stop a running DRAIN. -/
  | ejectRelease
  /-- R74: A DRAIN step finishes its work and the next step starts, ending in DORMANT after step 7. -/
  | drainStepEnd
  /-- R74: A DRAIN step reaches its latest time, is cut short as its row states, sets its CUT_SHORT bit, and the next step
  starts. -/
  | drainStepCut
  /-- R66: Dispatch of a halting group's tasks has stopped and the LIMIT_US timer starts. -/
  | cgDispatchStopped (g : Cg)
  /-- R66: The LIMIT_US timer of a STOPPING group expires and every task in service is abandoned and completed HALTED. -/
  | cgHaltLimit (g : Cg)
  /-- R66: A FLUSHING group has no queued task and every record written, enters HALTED and raises IRQ HALTED. -/
  | cgFlushDone (g : Cg)
  /-- R66: Every block holding an SH field of a STARTING group is at IDLE, so all shadows copy to live state in one cycle
  and dispatch resumes. -/
  | cgStartCopy (g : Cg)
  /-- R105: A NOP instruction does nothing in its slot. -/
  | nop (d : Clu) (t : Tix) (y : Bool)
  /-- R105: A vector ALU add operates on the complex elements of V registers. -/
  | vecAdd (d : Clu) (t : Tix) (y : Bool) (vd : VReg) (va : VReg) (vb : VReg)
  /-- R105: A vector ALU subtract operates on the complex elements of V registers. -/
  | vecSubtract (d : Clu) (t : Tix) (y : Bool) (vd : VReg) (va : VReg) (vb : VReg)
  /-- R105: A vector ALU negate operates on the complex elements of a V register. -/
  | vecNegate (d : Clu) (t : Tix) (y : Bool) (vd : VReg) (va : VReg)
  /-- R105: A vector ALU conjugate operates on the complex elements of a V register. -/
  | vecConjugate (d : Clu) (t : Tix) (y : Bool) (vd : VReg) (va : VReg)
  /-- R105: A vector ALU shift operates on the components of a V register. -/
  | vecShift (d : Clu) (t : Tix) (y : Bool) (vd : VReg) (va : VReg) (vb : VReg) (func : W11)
  /-- R105: A vector ALU min operates on V registers. -/
  | vecMin (d : Clu) (t : Tix) (y : Bool) (vd : VReg) (va : VReg) (vb : VReg)
  /-- R105: A vector ALU max operates on V registers. -/
  | vecMax (d : Clu) (t : Tix) (y : Bool) (vd : VReg) (va : VReg) (vb : VReg)
  /-- R105: A permute instruction rearranges the elements of V registers. -/
  | permute (d : Clu) (t : Tix) (y : Bool) (vd : VReg) (va : VReg) (vb : VReg) (func : W11)
  /-- R105: A broadcast instruction copies one element across a V register. -/
  | broadcast (d : Clu) (t : Tix) (y : Bool) (vd : VReg) (va : VReg) (elem : W4)
  /-- R105: A compare instruction compares the elements of V registers. -/
  | compare (d : Clu) (t : Tix) (y : Bool) (vd : VReg) (va : VReg) (vb : VReg) (func : W11)
  /-- R105: A select instruction chooses elements between V registers. -/
  | select (d : Clu) (t : Tix) (y : Bool) (vd : VReg) (va : VReg) (vb : VReg) (func : W11)
  /-- R83: CMAC accumulates element-wise complex products into an accumulator, with saturation and freezing under R84. -/
  | cmac (d : Clu) (t : Tix) (y : Bool) (ad : AReg) (sfx : W2) (va : VReg) (vb : VReg)
  /-- R83: CMAC2 accumulates two element-wise complex products per lane into an accumulator. -/
  | cmac2 (d : Clu) (t : Tix) (y : Bool) (ad : AReg) (sfx : W2) (va : VReg) (vb : VReg)
  /-- R83: CMACB accumulates products of a vector with one broadcast element. -/
  | cmacb (d : Clu) (t : Tix) (y : Bool) (ad : AReg) (sfx : W2) (va : VReg) (vb : VReg) (elem : W4)
  /-- R83: CMACB2 accumulates products of two vectors with two broadcast elements. -/
  | cmacb2 (d : Clu) (t : Tix) (y : Bool) (ad : AReg) (sfx : W2) (va : VReg) (vb : VReg) (elem : W4)
  /-- R107: ACLR clears and unfreezes every lane of an accumulator. -/
  | aclr (d : Clu) (t : Tix) (y : Bool) (ad : AReg)
  /-- R85: ASCALE shifts every unfrozen lane right by k with rounding under MODE.RND. -/
  | ascale (d : Clu) (t : Tix) (y : Bool) (ad : AReg) (k : W4)
  /-- R85: ASCALE.T shifts every unfrozen lane right by k with truncation. -/
  | ascaleT (d : Clu) (t : Tix) (y : Bool) (ad : AReg) (k : W4)
  /-- R107: AADD adds one accumulator into another with the range test of R84. -/
  | aadd (d : Clu) (t : Tix) (y : Bool) (ad : AReg) (src : AReg)
  /-- R107: AMOV copies an accumulator with its frozen state. -/
  | amov (d : Clu) (t : Tix) (y : Bool) (ad : AReg) (src : AReg)
  /-- R107: The vector form of AMOV loads an accumulator from a V register shifted left by K and unfreezes the lanes. -/
  | amovVector (d : Clu) (t : Tix) (y : Bool) (ad : AReg) (va : VReg) (k : W4)
  /-- R86: EXT extracts an accumulator into a V register with rounding and saturation. -/
  | ext (d : Clu) (t : Tix) (y : Bool) (vd : VReg) (src : AReg) (sh : W5)
  /-- R86: EXT.T extracts an accumulator into a V register with truncation and saturation. -/
  | extT (d : Clu) (t : Tix) (y : Bool) (vd : VReg) (src : AReg) (sh : W5)
  /-- R87: VLD loads a vector from tile data memory through a pointer and addressing mode. -/
  | vld (d : Clu) (t : Tix) (y : Bool) (v : VReg) (pn : PReg) (amode : W2) (imm : W16)
  /-- R87: VST stores a vector to tile data memory through a pointer and addressing mode. -/
  | vst (d : Clu) (t : Tix) (y : Bool) (v : VReg) (pn : PReg) (amode : W2) (imm : W16)
  /-- R90: VLDS loads 17 elements into a sliding pair of V registers. -/
  | vlds (d : Clu) (t : Tix) (y : Bool) (v : VReg) (pn : PReg) (amode : W2) (imm : W16)
  /-- R89: A scalar word, halfword or byte load reads tile data memory into an S register. -/
  | scalarLoad (d : Clu) (t : Tix) (y : Bool) (sd : SReg) (size : ScalarSize) (pn : PReg) (amode : W2) (imm : W16)
  /-- R89: A scalar word, halfword or byte store writes an S register to tile data memory. -/
  | scalarStore (d : Clu) (t : Tix) (y : Bool) (sd : SReg) (size : ScalarSize) (pn : PReg) (amode : W2) (imm : W16)
  /-- R105: A scalar ALU instruction computes on S registers. -/
  | scalarAlu (d : Clu) (t : Tix) (y : Bool) (fn : W5) (sd : SReg) (sa : SReg) (sb : SReg)
  /-- R81: A scalar multiply computes on S registers with a latency of 3. -/
  | scalarMultiply (d : Clu) (t : Tix) (y : Bool) (sd : SReg) (sa : SReg) (sb : SReg)
  /-- R105: An immediate move writes a constant to an S register. -/
  | immediateMove (d : Clu) (t : Tix) (y : Bool) (sd : SReg) (imm : W16)
  /-- R105: PMOV writes an address pointer. -/
  | pmov (d : Clu) (t : Tix) (y : Bool) (pn : PReg) (sa : SReg)
  /-- R90: PADD adds an immediate to a pointer without access. -/
  | padd (d : Clu) (t : Tix) (y : Bool) (pn : PReg) (imm : W16)
  /-- R90: PADD.M adds an immediate to a pointer under the modulo rule. -/
  | paddM (d : Clu) (t : Tix) (y : Bool) (pn : PReg) (imm : W16)
  /-- R105: BMOV writes a buffer base register. -/
  | bmov (d : Clu) (t : Tix) (y : Bool) (pn : PReg) (sa : SReg)
  /-- R105: LMOV writes a buffer length register. -/
  | lmov (d : Clu) (t : Tix) (y : Bool) (pn : PReg) (sa : SReg)
  /-- R108: A branch tests an S register by COND and, when taken, squashes the bundles behind it. -/
  | branch (d : Clu) (t : Tix) (y : Bool) (cond : W4) (sa : SReg) (off : W17) (sq : Squash)
  /-- R93: CALL pushes a return address and jumps, keeping active repeat levels. -/
  | call (d : Clu) (t : Tix) (y : Bool) (off : W17) (sq : Squash)
  /-- R92: RET pops the return stack and jumps. -/
  | ret (d : Clu) (t : Tix) (y : Bool) (sq : Squash)
  /-- R91: REPEAT pushes a loop level for the following body or skips it when the count is 0. -/
  | repeatLoop (d : Clu) (t : Tix) (y : Bool) (src : Bool) (count : W12) (sa : SReg) (len : W13)
  /-- R96: END stops issue, disarms landing windows and waits for the tile DMA entries to complete. -/
  | endTask (d : Clu) (t : Tix) (y : Bool)
  /-- R96: After the last DMA acknowledgement the tile reports the task's finish to the Sluice port. -/
  | taskFinishReport (d : Clu) (t : Tix)
  /-- R81: MOVC reads a control register into an S register. -/
  | movcRead (d : Clu) (t : Tix) (y : Bool) (sd : SReg) (idx : W6)
  /-- R81: MOVC writes a control register from an S register under its access type. -/
  | movcWrite (d : Clu) (t : Tix) (y : Bool) (idx : W6) (sa : SReg)
  /-- R100: DMAQ.IN queues a tile DMA entry from far memory to tile data memory. -/
  | dmaqIn (d : Clu) (t : Tix) (y : Bool) (pn : PReg) (sf : SReg) (sl : SReg) (tag : W3) (adv : Bool)
  /-- R100: DMAQ.OUT queues a tile DMA entry from tile data memory to far memory. -/
  | dmaqOut (d : Clu) (t : Tix) (y : Bool) (pn : PReg) (sf : SReg) (sl : SReg) (tag : W3) (adv : Bool)
  /-- R100: A tile DMA entry completes, freeing its queue entry and its tag. -/
  | dmaEntryDone (d : Clu) (t : Tix) (slot : W3)
  /-- R100: DMAWAIT waits until no entry with a tag in its mask is outstanding and reports DMA_ERR for a failed entry. -/
  | dmawait (d : Clu) (t : Tix) (y : Bool) (mask : W8)
  /-- R102: WINARM arms a landing window with a key, or is refused when the key is armed on another tile. -/
  | winarm (d : Clu) (t : Tix) (y : Bool) (w : W2) (sa : SReg) (sb : SReg) (sc : SReg)
  /-- R97: A task in service for LIMIT_KC × 1,024 cycles before END raises TASK_LIMIT. -/
  | taskLimit (d : Clu) (t : Tix)
  /-- R116: MV.M copies two rows from a V register into an M register, clearing its flags and optionally setting E. -/
  | mvM (d : Clu) (t : Tix) (y : Bool) (md : MReg) (va : VReg) (q : W2) (sete : Bool) (ex : W5)
  /-- R116: MV.V copies two rows of an M register into a V register. -/
  | mvV (d : Clu) (t : Tix) (y : Bool) (vd : VReg) (ma : MReg) (q : W2)
  /-- R121: MMUL queues a matrix multiply, with optional conjugate transposes. -/
  | mmul (d : Clu) (t : Tix) (y : Bool) (n : W3) (md : MReg) (ma : MReg) (mb : MReg) (ha : Bool) (hb : Bool)
  /-- R121: MADD queues a matrix addition. -/
  | madd (d : Clu) (t : Tix) (y : Bool) (n : W3) (md : MReg) (ma : MReg) (mb : MReg)
  /-- R121: MSUB queues a matrix subtraction. -/
  | msub (d : Clu) (t : Tix) (y : Bool) (n : W3) (md : MReg) (ma : MReg) (mb : MReg)
  /-- R121: MHERM queues a conjugate transpose. -/
  | mherm (d : Clu) (t : Tix) (y : Bool) (n : W3) (md : MReg) (ma : MReg)
  /-- R121: MCHOL queues a Cholesky factorisation. -/
  | mchol (d : Clu) (t : Tix) (y : Bool) (n : W3) (md : MReg) (ma : MReg)
  /-- R121: MTRS queues a triangular solve. -/
  | mtrs (d : Clu) (t : Tix) (y : Bool) (n : W3) (md : MReg) (ma : MReg) (mb : MReg) (upper : Bool) (herm : Bool)
  /-- R121: MQR queues a QR factorisation. -/
  | mqr (d : Clu) (t : Tix) (y : Bool) (n : W3) (mq : MReg) (mr : MReg) (ma : MReg)
  /-- R121: MINV queues a matrix inverse. -/
  | minv (d : Clu) (t : Tix) (y : Bool) (n : W3) (md : MReg) (ma : MReg)
  /-- R126: MSTAT waits for the coprocessor to idle and writes each M register's exponent and flags into a V register. -/
  | mstat (d : Clu) (t : Tix) (y : Bool) (vd : VReg)
  /-- R126: MWAIT waits for the coprocessor to idle and writes nothing. -/
  | mwait (d : Clu) (t : Tix) (y : Bool)
  /-- R118: A queued coprocessor operation starts when it is oldest, the unit is free and its sources have no pending
  write. -/
  | copOpStart (d : Clu) (t : Tix)
  /-- R123: A running coprocessor operation writes its normalised result and flags and frees the unit. -/
  | copOpWriteback (d : Clu) (t : Tix)
  /-- R109: GO in CLU_KLOAD_CTRL starts a kernel load into all eight tiles of a cluster, or rejects it. -/
  | kloadGo (d : Clu) (kid : W8)
  /-- R110: A kernel load ends, making the entry valid with RESULT 1 or leaving it invalid with RESULT 3. -/
  | kloadDone (d : Clu)
  /-- R111: A write of VALID 0 to a kernel table entry stops new dispatches of that kernel in the cluster. -/
  | kernelInvalidate (d : Clu)
  /-- R133: A submission ring doorbell write sets the new TAIL, or stops the ring on overrun, or is ignored during DRAIN. -/
  | ringDoorbell (fn : Fn) (r : Ring) (v : W32)
  /-- R134: The central Sluice accepts the descriptor at a ring's HEAD once it passes its checks and has a table entry and
  credit. -/
  | descriptorFetch (r : Ring) (resp : FetchResp)
  /-- R136: RESTART in SLC_RING_CTRL clears STOPPED and CAUSE and fetches again from HEAD. -/
  | ringRestart
  /-- R140: A write of SLC_EVT_SIGNAL adds INC to a Sluice event count. -/
  | evtSignal (evt : W8) (inc : W8)
  /-- R139: A task gated on a time sets READY when presented time passes GATE_VAL. -/
  | gateTimeReady (r : Ring) (seq : W16)
  /-- R148: A DL_MODE 2 task not yet in service whose deadline passes takes EXPIRED. -/
  | deadlineExpired (r : Ring) (seq : W16)
  /-- R142: A ready flow head is placed in a cluster Hopper or engine queue, waiting for room if needed. -/
  | taskPlace (flow : Flow)
  /-- R145: A cluster selects a Hopper head, performs the dispatch check and starts the task on the longest-idle tile. -/
  | taskDispatch (d : Clu)
  /-- R146: A task that left its Hopper on a kernel miss is placed again under R142. -/
  | taskReplace (flow : Flow)
  /-- R270: An engine serves its queues by strict priority and accepts the next job when the needed unit is free. -/
  | engineJobOffer (q : Quad) (e : Eng)
  /-- R138: A task's status is decided, it ends, the next task of its flow becomes head and its record goes to the
  completion engine. -/
  | taskEnd (r : Ring) (seq : W16)
  /-- R159: A completion engine writes the ready record that became ready first, frees its task entry and advances TAIL. -/
  | completionRecordWrite (eng : Bool)
  /-- R160: A queue's MSI-X vector fires when TIME_US has passed since the oldest unreported record. -/
  | cqCoalTimer (c : Cq)
  /-- R160: A completion queue head doorbell returns credits, or is discarded with DB_RANGE when it runs past TAIL. -/
  | cqHeadDoorbell (fn : Fn) (c : Cq) (v : W32)
  /-- R156: SLC_CANCEL with BY_FLOW 0 sets CANCEL on one named task if it is parked or placed. -/
  | cancelTask (r : Ring) (seq : W16)
  /-- R156: SLC_CANCEL with BY_FLOW 1 sets CANCEL on every parked and placed task of a flow. -/
  | cancelFlow (flow : Flow)
  /-- R156: A cancel completes within 1 µs, setting RESULT and COUNT and clearing BUSY. -/
  | cancelDone
  /-- R154: A write of 1 to a FLOW_STOPPED bit takes the flow out of STOPPED. -/
  | flowResume (k : W7) (v : W32)
  /-- R161: CLR in CLU_HIST_CFG clears all wait-histogram bins and every Hopper PEAK. -/
  | histClr (d : Clu)
  /-- R161: At the end of each WIN_KC × 1,024-cycle window all tile load records update and LOAD_WINDOW sets. -/
  | loadWindow (d : Clu)
  /-- R169: A read of Cistern, cluster, tile or HBM memory returns data corrected, clean or poisoned, reporting CE or
  UE_READ. -/
  | memoryRead (sp : MemSpace) (a : W64) (who : Requester) (up : Upset)
  /-- R171: A write enters the merge buffer for partial words or goes directly to memory for whole words. -/
  | memoryWrite (sp : MemSpace) (a : W64) (data : W512) (be : W64) (poison : W8) (who : Requester) (x : Meets)
  /-- R169: A corrected word is written back in the bank's next free cycle unless a full write arrives first. -/
  | eccWriteback (sp : MemSpace) (a : W64)
  /-- R172: A merge buffer line drains on full coverage, eviction, 32 idle cycles, scrub or power entry, merging partial
  words. -/
  | mergeLineDrain (sp : MemSpace) (a : W64) (ups : LineUpset)
  /-- R168: CLEAR in CBANK_CTRL clears every valid bit of a Cistern bank and discards its merge lines. -/
  | cbankClear (q : Quad) (b : Bank)
  /-- R168: CLEAR in CMEM_CTRL clears every valid bit of a cluster memory and discards its merge lines. -/
  | cmemClear (d : Clu)
  /-- R178: GO with MODE 0 starts a scrub of a memory range, or is rejected with SCRUB_REJECT. -/
  | scrubGo (m : MemCtl) (v : W32)
  /-- R181: GO with MODE 1 on an HBMC page fills a range with zeros and fresh codes. -/
  | scrubFillGo (m : MemCtl) (v : W32)
  /-- R180: ABORT stops a running scrub at the next line boundary with RESULT 3. -/
  | scrubAbort (m : MemCtl) (v : W32)
  /-- R179: The scrub engine visits its next line every 2^RATE cycles, correcting, counting or skipping words. -/
  | scrubLine (m : MemCtl) (ups : LineUpset)
  /-- R176: CLR in MEM_LOG_CTRL empties the correctable-error log, OVERFLOW and the uncorrectable capture. -/
  | memLogClr (m : MemCtl)
  /-- R182: A write of CIST_RETIRE retires granules or returns them to use with their valid bits cleared. -/
  | granuleRetire (q : Quad) (b : Bank) (v : W32)
  /-- R183: A write of a CIST_OWN byte sets a bank's owner, retires it with 0x7F or returns it to use cleared. -/
  | bankOwnerWrite (q : Quad) (k : Fin3) (v : W32)
  /-- R185: HBMC_REMAP_GO starts the retirement of an HBM row into a spare, or is rejected. -/
  | rowRemapGo (n : Stack)
  /-- R185: An HBM row copy ends, the row is redirected to its spare and REMAP_DONE is raised. -/
  | remapDone (n : Stack) (bad : W16)
  /-- R191: A stack temperature above 85 °C doubles the refresh rate and sets REFRESH_2X. -/
  | hbmTempHigh (n : Stack) (temp : W8)
  /-- R206: A lane in DISABLED with ENABLE in effect and LOCKED enters HUNT, ETH_WAIT or TEST by its MODE. -/
  | laneStart (l : Lane)
  /-- R199: A lane in HUNT aligns to K28.5 and enters HELLO. -/
  | laneAlign (l : Lane)
  /-- R222: A lane at rate 0 sends a HELLO every 20 µs. -/
  | helloSend (l : Lane)
  /-- R202: A valid HELLO updates PEER_SEEN and failure counts and may take the lane from HELLO to STEP or UP. -/
  | helloReceive (l : Lane) (x : HelloIn)
  /-- R224: A DEPART frame on a lane in HELLO makes the lane's partner depart at once. -/
  | departFrameReceive (x : OnLane HelloData)
  /-- R199: A receiver gains block or codeword lock at the lane's rate. -/
  | blockLock (x : OnLane W10)
  /-- R203: A received TRAIN block counts towards the four consecutive RX_OK blocks that take a lane to UP. -/
  | trainReceive (l : Lane) (rxOk : Bool)
  /-- R204: A STEP attempt that does not reach UP within its timeout fails under R205. -/
  | stepTimeout (l : Lane)
  /-- R205: The 100 µs transmitter squelch after a failed attempt ends. -/
  | txSquelchEnd (l : Lane)
  /-- R206: The CDR locks in STEP with a partner sending no commas, and the lane enters SLIP_WAIT raising SLIP_REQ. -/
  | cdrLock (l : Lane)
  /-- R210: A window of 1,024 blocks completes, updating SYNC_ERR and WIN_SEQ. -/
  | syncWindowEnd (l : Lane) (errs : W11)
  /-- R210: A SLIP write moves the receive boundary one bit later and restarts the sync-header window. -/
  | slip (l : Lane)
  /-- R210: An ACCEPT write takes a SLIP_WAIT lane to UP, or is ignored with SLIP_REJECT. -/
  | accept (l : Lane)
  /-- R204: The 20 ms slip limit expires in SLIP_WAIT and the attempt fails. -/
  | slipLimit (l : Lane)
  /-- R200: A lane in HELLO, STEP, SLIP_WAIT or UP declares lock loss at the first criterion that holds and returns to
  HUNT. -/
  | lockLoss (l : Lane) (x : Losses)
  /-- R209: An accepted LANE_CFG write that changes a restarting field restarts the lane from DISABLED. -/
  | laneCfgWrite (l : Lane) (v : W32)
  /-- R206: RETRAIN restarts a lane's bring-up with its failure counts cleared. -/
  | retrain (l : Lane)
  /-- R209: An accepted write of LANE_QREF.SEL changes a lane-quad's reference and restarts its four lanes. -/
  | qrefSelWrite (l : Lane) (sel : Bool)
  /-- R198: A lane-quad reference locks and LOCKED sets, releasing its lanes from DISABLED. -/
  | qrefLock (n : LaneQuad)
  /-- R198: LOCKED falls and all four lanes go to DISABLED, counting PHASE lock losses. -/
  | qrefUnlock (n : LaneQuad)
  /-- R209: A lane's signal detector sees signal and acts as a level wake. -/
  | signalDetect (l : Lane)
  /-- R212: Once a whole Ethernet port is aligned every lane of the port enters ETH_UP in the same cycle. -/
  | ethPortAligned (l : Lane)
  /-- R212: A loss of lock on any lane of an Ethernet port returns every lane to ETH_WAIT and puts the port link down. -/
  | ethLockLoss (l : Lane)
  /-- R213: The PRBS checker locks after 64 consecutive matching bits. -/
  | prbsCheckLock (x : OnLane (BitVec 95))
  /-- R213: The PRBS checker loses lock at 16 or more errors in 1,024 bits. -/
  | prbsCheckUnlock (l : Lane) (errs : W32) (bits : W64)
  /-- R214: A read of LANE_PRBS_ERR returns and clears the error count and copies the compared-bit count. -/
  | prbsErrRead (l : Lane) (errs : W32) (bits : W64)
  /-- R216: GO in LANE_EYE_CTRL starts an eye sweep, or is ignored with EYE_REJECT. -/
  | eyeSweepGo (l : Lane) (v : W32)
  /-- R216: ABORT ends an eye sweep at the next point with VALID 0. -/
  | eyeSweepAbort (l : Lane)
  /-- R216: An eye sweep point finishes its dwell and the sweep steps on, ending the direction or the sweep. -/
  | eyePointDone (l : Lane) (dis : W32)
  /-- R218: A write of BLNK_LINK_CFG sets link widths or is a bad access. -/
  | linkCfgWrite (q : Quad) (v : W32)
  /-- R194: Every 16,384th block a lane sends a comma block, followed by LSTATE on member lanes. -/
  | commaSend (x : OnLane (BitVec 14))
  /-- R227: A received LSTATE announces the partner's receive-good mask and its apply point. -/
  | lstateReceive (l : Lane) (num : W8) (mask : W8) (at_ : W8)
  /-- R227: At the apply comma both ends apply the new mask to striping and destriping and resend from the oldest
  unacknowledged frame. -/
  | maskApply (l : Lane)
  /-- R229: A frame arrives whole and is accepted in sequence and delivered through the Headrace, or NAKed and discarded. -/
  | frameReceive (l : Lane) (f : FrameIn)
  /-- R239: After every write of a delivered frame is acknowledged its Sluice event is incremented. -/
  | frameDeliveredEvent (l : Lane) (stream : W10)
  /-- R234: An eCPRI frame on an Ethernet port is checked and delivered to the Headrace or Fantail, or discarded. -/
  | ecpriReceive (l : Lane) (f : EcpriIn)
  /-- R221: A control block of an unlisted type is discarded and counted in CODE_ERR. -/
  | controlBlockUnknown (x : OnLane W8)
  /-- R229: An ACK with NAK 0 advances the transmitter's acknowledged number and frees replay store. -/
  | ackReceive (l : Lane) (nxt : W16)
  /-- R230: An ACK with NAK 1 makes the transmitter resend from the named number. -/
  | nakReceive (l : Lane) (nxt : W16)
  /-- R229: While accepting frames the receiver sends an ACK at least every 256 ns. -/
  | ackSend (l : Lane)
  /-- R230: 8 µs without the acknowledged number advancing makes the transmitter resend from the oldest frame. -/
  | replayTimeout (l : Lane)
  /-- R224: A DEPART block makes the lane's partner depart at once. -/
  | departReceive (l : Lane)
  /-- R224: 3 ms in HUNT without a HELLO of the partner, or out of ETH_UP, makes the lane or port depart. -/
  | partnerTimeout (l : Lane)
  /-- R241: The Tailrace sends the next n bytes of an entry's source ring as one frame on its link. -/
  | tailraceFrameSend (q : Quad) (entry : W10) (n : W16)
  /-- R242: BLNK_INJ ACT 1 withholds the next frame once. -/
  | injDrop (q : Quad) (link : W4)
  /-- R242: BLNK_INJ ACT 2 inverts one payload bit of the next frame. -/
  | injCorrupt (q : Quad) (link : W4)
  /-- R242: BLNK_INJ ACT 3 sends the next two frames in swapped order. -/
  | injReorder (q : Quad) (link : W4)
  /-- R242: BLNK_INJ ACT 4 squelches a lane's transmitter for COUNT comma periods. -/
  | injLaneDrop (q : Quad) (link : W4) (lane : W4) (count : W8)
  /-- R251: An FFT job transforms COUNT symbols from time to frequency with prefix removal. -/
  | fft (q : Quad)
  /-- R252: An IFFT job transforms COUNT symbols from frequency to time with prefix insertion. -/
  | ifft (q : Quad)
  /-- R252: A DFT job runs a forward prime-length transform. -/
  | dft (q : Quad)
  /-- R252: An IDFT job runs an inverse prime-length transform. -/
  | idft (q : Quad)
  /-- R255: A shaping job filters COUNT samples of a carrier with its history and optionally checks the spectral mask. -/
  | filter (q : Quad)
  /-- R261: An EXPAND job decompresses each stream's section into samples and updates its state block. -/
  | expand (q : Quad)
  /-- R265: A PACK job compresses every block of every downlink stream at widths from the modulation codes. -/
  | pack (q : Quad)
  /-- R262: An UPDATE job gates, updates noise and peak estimates and writes width messages per stream. -/
  | update (q : Quad)
  /-- R279: An LDPC_DEC job decodes a transport block with optional HARQ soft combining. -/
  | ldpcDec (q : Quad)
  /-- R281: An LDPC_ENC job encodes and rate-matches a transport block. -/
  | ldpcEnc (q : Quad)
  /-- R282: A TURBO_DEC job decodes an LTE transport block by max-log-MAP. -/
  | turboDec (q : Quad)
  /-- R282: A TURBO_ENC job encodes and rate-matches an LTE transport block. -/
  | turboEnc (q : Quad)
  /-- R283: A POLAR_DEC job decodes a polar codeword by CRC-aided list decoding. -/
  | polarDec (q : Quad)
  /-- R283: A POLAR_ENC job encodes a polar payload into E bits. -/
  | polarEnc (q : Quad)
  /-- R284: A TRELLIS_DEC job Viterbi-decodes a convolutional code. -/
  | trellisDec (q : Quad)
  /-- R285: A CONV_ENC job convolutionally encodes NBITS bits. -/
  | convEnc (q : Quad)
  /-- R298: A PRACH job correlates DFT bins against preambles and writes detection records per window. -/
  | prach (q : Quad)
  /-- R299: A GSM job correlates samples against the synchronisation sequence and writes access-burst records. -/
  | gsm (q : Quad)
  /-- R244: An engine writes a job's result words and reports its finish to the Sluice port. -/
  | engineJobFinish (q : Quad) (u : JobUnit)
  /-- R308: RAW wraps from 2^64 − 1 to 0 and EPOCH increments. -/
  | rawWrap
  /-- R309: Presented time wraps and PT_EPOCH increments. -/
  | ptWrap
  /-- R310: A write of FTB_RATE_HI commits a new RATE from the next cycle, rebasing PT, or is a bad access when too large. -/
  | rateCommit (v : W32)
  /-- R311: SNAP captures RAW, EPOCH, PT and PT_EPOCH from one cycle. -/
  | snap
  /-- R312: A write of FTB_ADJ starts or extends a slew, or is rejected with SLEW_REJECT. -/
  | ftbAdjWrite (v : W32)
  /-- R312: A running slew's remainder reaches 0 and SLEW_DONE is raised. -/
  | slewDone
  /-- R313: GO in FTB_STEP_CTRL sets PT and PT_EPOCH, cancels any slew, sets STEPPED and raises STEP_DONE. -/
  | ftbStep (epoch : W16)
  /-- R317: An EEC input becomes qualified and the EEC may leave FREE_RUN to ACQUIRING. -/
  | eecInputQualify (sec : Bool) (freq : W32)
  /-- R317: The tracked EEC input disqualifies and the EEC switches input, enters HOLDOVER or FREE_RUN. -/
  | eecInputDisqualify (sec : Bool)
  /-- R317: The phase error stays within the lock limit for 1 s and the EEC enters LOCKED. -/
  | eecLock
  /-- R317: With REVERT 1 and the primary qualified for 10 s the EEC switches hitlessly back to the primary. -/
  | eecRevert
  /-- R317: An enabled input qualified for 1 s takes the EEC from HOLDOVER to LOCKED. -/
  | eecHoldoverExit (sec : Bool)
  /-- R317: ENABLE written 0 returns the EEC to FREE_RUN. -/
  | eecDisable
  /-- R320: A received PTP or eCPRI type 5 frame is timestamped and written with its header into the PTP receive ring. -/
  | ptpReceive (l : Lane) (bytes : Bytes)
  /-- R321: GO in FQU_PTP_TX_CTRL queues a host PTP frame for sending, or discards it when the link is down. -/
  | ptpTxGo (q : Quad) (v : W32)
  /-- R321: A host PTP frame has been sent and its outcome is reported in FQU_PTP_TX_STAT. -/
  | ptpTxDone (q : Quad)
  /-- R323: ARM in FQU_SLOT_CTRL arms a slot and clears MISSED, making it LATE if already due. -/
  | slotArm (q : Quad)
  /-- R333: DISARM in FQU_SLOT_CTRL disarms a slot, taking precedence over ARM. -/
  | slotDisarm (q : Quad) (arm : Bool)
  /-- R323: A commit of a slot's TIME sets its next due time, making it LATE if already due. -/
  | slotTimeCommit (q : Quad) (v : W32)
  /-- R323: An armed slot becomes due and is delivered to its target in ascending slot order, then disarms or advances its
  TIME. -/
  | slotDue (q : Quad)
  /-- R325: The LEN word of a LEN_MODE 1 slot returns and the Tailrace frames are sent, or LEN_ERR is raised. -/
  | slotLenReadDone (q : Quad)
  /-- R328: A frame's first block leaves the balls and takes a timestamp queue entry and ID. -/
  | txTimestamp (l : Lane)
  /-- R329: POP removes the head entry of the timestamp queue. -/
  | tsqPop (q : Quad)
  /-- R330: PPS_OUT rises when PT passes PPS_NEXT and PPS_NEXT advances by the period. -/
  | ppsOutEdge
  /-- R330: PPS_OUT falls after WIDTH_US. -/
  | ppsOutFall
  /-- R331: A rising edge of PPS_IN captures PT less IN_DLY and raises PPS_IN. -/
  | ppsInEdge
  /-- R331: 1.1 s without a PPS_IN edge raises PPS_IN_MISS. -/
  | ppsInMiss
  /-- R332: ARM in FTB_ALARM_CTRL arms an alarm. -/
  | alarmArm (k : W2)
  /-- R332: An armed alarm fires when PT passes its time, sets FIRED, raises ALARM and may hold a wake level. -/
  | alarm (k : W2)
  /-- R332: Clearing FIRED by W1C ends the alarm's wake level. -/
  | alarmFiredClear (k : W2)
  /-- R338: An integrity source fires with its fixed class and reports to its Weir. ev is the cycle of its block; others are the blocks
  whose events reach the same Weir in that cycle (R339, R343). -/
  | integrityFault (weir : WeirIx) (page : PageIx) (errs : BitVec 32) (srcs : List IntegSrc) (others : List BlockCycle)
  /-- R345: Two consecutive rail samples below 93 % of reference raise a sag warning. -/
  | sagWarn (rail : Rail) (x : Samples)
  /-- R345: Two consecutive rail samples below the action threshold fence the quadrant or reset the device. -/
  | sagAction (rail : Rail) (x : Samples)
  /-- R347: A rail that has stayed at or above its warning threshold for 10 µs rearms its warning. -/
  | sagWarnRearm (rail : Rail) (mv : W16)
  /-- R349: Requests accepted before isolation complete, tasks of the quadrant end QUADRANT_LOST and the quadrant reset is
  asserted. -/
  | fenceRequestsDrained (q : Quad)
  /-- R348: The quadrant rail has stayed at or above 93 % of reference for 100 µs and PHASE moves to 3. -/
  | fenceRailOk (q : Quad)
  /-- R350: The quadrant reset ends, its pages become readable and FENCE_DONE is raised. -/
  | fenceDone (q : Quad)
  /-- R358: ARM in WEIR_INJ raises an integrity code in the next CLK_WELL cycle, in FACTORY only. -/
  | weirInj (weir : WeirIx) (v : W32)
  /-- R364: After LINGER_US without work the power controller asks a block to enter its floor and the block answers
  REFUSE, DEFER or ACCEPT. -/
  | powerEntryRequest (slot : SlotIx) (outstanding : Bool)
  /-- R364: A deferring block's deferral ends and it answers the entry request again. -/
  | powerDeferEnd (slot : SlotIx)
  /-- R364: A deferral lasting 64 µs counts as a REFUSE with cause 4. -/
  | powerDeferLimit (slot : SlotIx)
  /-- R365: After ACCEPT the block drains, saves, isolates, stops its clock and shows its new state. -/
  | powerEntryComplete (slot : SlotIx)
  /-- R371: A voting domain with no vote for LINGER_US enters its effective floor. -/
  | voteLingerExpiry (slot : SlotIx)
  /-- R367: A level wake source aims at a block below IDLE and its restore sequence starts. -/
  | wakeEvent (slot : SlotIx)
  /-- R368: A routed GPIO or window pulse wakes a DPWR slot, abandons an entry, or is lost with LOST set. -/
  | pulseWake (k : W3) (phase : W2)
  /-- R369: A woken block finishes its restore, releases isolation and reads IDLE. -/
  | wakeComplete (slot : SlotIx) (canaryOk : Bool)
  /-- R374: A quadrant domain whose entry conditions held for LINGER_US isolates and goes to its FLOOR. -/
  | quadDomainEntry (q : Quad)
  /-- R375: A quadrant domain wakes, requesting its level voltage, restoring its control blocks and starting PLL_A. -/
  | quadDomainWake (q : Quad)
  /-- R375: A failed quadrant wake is retried every 1 ms while a level wake persists. -/
  | quadWakeRetry (q : Quad)
  /-- R378: A write of DPWR_PLEVEL.TARGET starts a level change or becomes the pending target. -/
  | plevelWrite (q : Quad) (v : W32)
  /-- R360: A started PLL locks and its clocks may switch to it. -/
  | pllLock (q : Quad) (b : Bool)
  /-- R377: After POLL_US a READ_VOUT is sent and a reading within TOL_MV completes the voltage request. -/
  | voutPoll (q : Quad) (res : VoutRes)
  /-- R377: 500 µs without a good read-back fails the voltage request with VREG_TIMEOUT. -/
  | vregTimeout (q : Quad)
  /-- R379: DPWR_EST updates its rail power estimates every 100 µs. -/
  | powerEstUpdate (k : Rail5) (mw : W16)
  /-- R384: START in BMON_CTRL triggers a regular scan, or counts an overrun. -/
  | scanStart
  /-- R384: The scan timer triggers a regular scan every PERIOD_US. -/
  | scanTimer
  /-- R383: The converter's 3 µs start-up ends and pending work begins. -/
  | adcStartupDone
  /-- R385: INJ_GO requests one injected conversion, or is rejected with INJ_REJECT. -/
  | injGo (ch : W6)
  /-- R385: CAL_GO requests a calibration of the converter. -/
  | calGo
  /-- R387: A conversion ends, writing a queue entry or dropping it, feeding the comparators and choosing the next work. -/
  | conversionDone (code : W12)
  /-- R386: A calibration completes, setting BMON_CAL and CAL_VALID. -/
  | calDone (gain : W16) (offset : W16)
  /-- R388: A read of BMON_Q_DATA removes and returns the head entry, or the empty value. -/
  | bmonQueueRead
  /-- R391: GO in PMB_TXN queues a host PMBus transaction. -/
  | pmbTxnGo (b : Fin2) (v : W32)
  /-- R391: At a transaction boundary a PMBus host starts the first waiting item in priority order. -/
  | pmbTxnStart (b : Fin2)
  /-- R390: A PMBus transaction ends with its result. -/
  | txnDone (b : Fin2) (res : TxnRes)
  /-- R390: SCL held low for 25 ms fails the transaction with TIMEOUT. -/
  | pmbTimeout (b : Fin2)
  /-- R391: PMBx_ALERT_L low with ALERT_EN sets the ALERT interrupt bit. -/
  | pmbAlert (b : Fin2)
  /-- R392: Every POLL_MS the hot-swap host reads VIN and IIN from the controller. -/
  | hscPoll
  /-- R393: PMB_HSC_OFF with KEY 0x4F46 in DORMANT orders the hot-swap power-down. -/
  | hscOff (v : W32)
  /-- R394: A pin's debounced level changes and its configured edge sets its IRQ bit and acts as a wake route or scan
  trigger. -/
  | gpioEdge (n : W4) (level : Bool)
  /-- R400: A PCIe configuration request is answered, or Retry Status is returned, by mode. -/
  | configRequest (fn : Fn) (w : ConfigReq)
  /-- R397: The PCIe link trains to DL_Active. -/
  | pcieLinkUp (speed : W3) (width : W5)
  /-- R402: A read of a doorbell by its owner returns HEAD and TAIL counts, otherwise 0. -/
  | doorbellRead (fn : Fn) (off : W22)
  /-- R406: A write of 1 to a PCIE_IRQ_REARM bit resends the vector's message if it is still asserted. -/
  | irqRearm (hi : Bool) (v : W32)
  /-- R406: Unmasking a vector or setting MSI-X Enable sends any message still pending. -/
  | msixUnmask (fn : Fn) (vec : MsixTarget)
  /-- R408: An FLR of PF0, PF1 or a VF resets its configuration and stops or abandons what it owns. -/
  | functionLevelReset (fn : Fn)
  /-- R409: A hot reset or DL_Down acts as an FLR of every function, clears Bus Master Enable and retrains the link. -/
  | linkReset
  /-- R411: A Pump channel doorbell sets the new TAIL, or stops the channel on overrun. -/
  | pumpDoorbell (fn : Fn) (ch : W4) (v : W32)
  /-- R411: A write of PUMP_CH_DB is the doorbell of a PF0-owned channel, otherwise a bad access. -/
  | pumpChDb (v : W32)
  /-- R413: A channel fetches its next descriptor and starts it, respecting FENCE and the two-descriptor limit. -/
  | pumpDescFetch (ch : W4) (resp : PumpFetch)
  /-- R414: A descriptor's data writes complete and its status word is written in ring order, advancing HEAD. -/
  | pumpDescComplete (ch : W4) (resp : PumpResp)
  /-- R414: A host read that gets no completion within the completion timeout ends its descriptor HOST_ERR. -/
  | cplTimeout (ch : W4) (resp : PumpResp)
  /-- R414: ABORT in PUMP_CH_CTRL abandons every descriptor of a channel not yet completed. -/
  | pumpAbort
  /-- R414: RESUME in PUMP_CH_CTRL takes a channel out of STOPPED or ABANDONED and fetches from the next count. -/
  | pumpResume
  /-- R420: FUSE_CMD OP 1 burns the staged owner hash and sets OWNER 1. -/
  | burnOwner (key : W16)
  /-- R420: FUSE_CMD OP 2 revokes the owner key. -/
  | revokeOwner (key : W16)
  /-- R420: FUSE_CMD OP 3 advances the fused SVN to ARG. -/
  | advanceSvn (key : W16) (arg : W7)
  /-- R420: FUSE_CMD OP 4 revokes vendor key slot ARG. -/
  | revokeVendor (key : W16) (arg : W7)
  /-- R420: FUSE_CMD OP 5 burns VENDOR_BOOT_DIS. -/
  | vendorBootDis (key : W16)
  /-- R420: A fuse burn completes and sets its RESULT. -/
  | burnDone (ok : Bool)
  /-- R426: BOOT begins at a reset's release or a DORMANT request and the BTU reads fuses and the security class. -/
  | bootBegin (src : W2)
  /-- R425: The BTU completes its fuse read and, for host push, opens the push window. -/
  | fuseReadDone
  /-- R425: GO in BTU_PUSH_CTRL closes the push window and starts reading the pushed manifest. -/
  | pushGo
  /-- R425: The push window closes 850 ms after power-good without GO and BOOT fails with FAIL 12. -/
  | pushWindowTimeout
  /-- R422: A manifest read completes and is checked, falling to slot B or failing BOOT. -/
  | manifestReadDone (m : ManifestRead)
  /-- R426: An HBM stack finishes training or recalibration and TRAINED sets. -/
  | hbmStackTrained (n : Stack) (height : W2)
  /-- R426: Every image has been read, hashed and loaded, ending BOOT step 5. -/
  | imagesLoaded (images : List (List W8))
  /-- R426: The quadrants have woken and the device enters CONFIG or FACTORY with MODE_DONE. -/
  | bootEnd
  /-- R429: BTU_ATT_CTRL OP 1 starts a signed attestation report, or refuses it. -/
  | attReport
  /-- R429: BTU_ATT_CTRL OP 2 writes the 156-byte identity block. -/
  | attIdentity
  /-- R432: An attestation command ends with its RESULT and ATT_DONE is raised. -/
  | attDone (ok : Bool)
  /-- R436: A write of RSTO_STAGE_DATA stores a word in the staging buffer and advances the pointer. -/
  | rstoStageWrite (v : W32)
  /-- R436: COMMIT in RSTO_CMD starts a class 1 commit now, or is rejected. -/
  | commit (key : W16)
  /-- R436: ARM in RSTO_CMD sets PENDING so class 1 commits at DRAIN step 5. -/
  | arm (key : W16)
  /-- R436: DISARM in RSTO_CMD clears PENDING. -/
  | disarm (key : W16)
  /-- R435: A retention-store commit ends after read-back, making the new bank in force or failing with COMMIT_FAIL. -/
  | commitDone (ok : Bool)
  /-- R442: VDD_WELL comes up or PWR_GOOD rises, clearing the Well state and starting BOOT. -/
  | wellPor
  /-- R438: PWR_GOOD low for two CLK_XTAL cycles stops every block as a loss of VDD_WELL. -/
  | pwrGoodLoss
  /-- R442: SYS_RST_L low for 1 µs or more starts a SYSTEM reset. -/
  | sysRst
  /-- R444: A SYSTEM reset is released when SYS_RST_L has been high for 1 µs and BOOT follows. -/
  | systemResetRelease
  /-- R442: WELL_RST_CMD with TYPE 2 starts a SYSTEM reset. -/
  | wellRstSystem (key : W16)
  /-- R442: WELL_RST_CMD with TYPE 1 starts a DEVICE reset. -/
  | wellRstDevice (key : W16)
  /-- R444: A DEVICE reset is released at least 100 µs after assertion and after any commit in progress, and BOOT begins. -/
  | deviceResetRelease
  /-- R445: PERST_L low for 1 µs starts a PERST or DEVICE reset as PERST_DEV selects. -/
  | perstAssert
  /-- R442: TRST_L low or five TCK cycles with TMS high reset the test logic and select IDCODE. -/
  | tapReset
  /-- R457: A temperature sensor above 125 °C for two cycles drives THERMTRIP_L low until PWR_GOOD falls. -/
  | thermtrip
  /-- R462: The EXTEST instruction drives and captures the boundary register at the balls. -/
  | extest (balls : Boundary) (din : Boundary)
  /-- R462: The IDCODE instruction selects the 0x1724_056F identification register. -/
  | idcode
  /-- R462: The SAMPLE/PRELOAD instruction samples and preloads the boundary register. -/
  | samplePreload (balls : Boundary) (din : Boundary)
  /-- R462: The EXTEST_PULSE instruction tests AC-coupled pairs under IEEE 1149.6. -/
  | extestPulse (balls : Boundary) (din : Boundary)
  /-- R462: The EXTEST_TRAIN instruction tests AC-coupled pairs with a pulse train under IEEE 1149.6. -/
  | extestTrain (balls : Boundary) (din : Boundary)
  /-- R462: The CLAMP instruction holds outputs at the boundary register values with BYPASS selected. -/
  | clamp
  /-- R462: The HIGHZ instruction places outputs in high impedance. -/
  | highz
  /-- R462: The BYPASS instruction selects the one-bit bypass register. -/
  | bypass
  /-- R463: The Fyil port sends the next queued trace frame of a Weir event or completion record, dropping frames when the
  queue is full. -/
  | fyilFrame
  /-- R235: A FRAME_HDR block (or eCPRI header) arrives, the Headrace looks up the live stream-map entry and, for a
  landing entry with its key armed, starts writing payload cut-through into the window before the frame check ends. -/
  | frameHdrReceive (l : Lane) (f : FrameIn)
  /-- R127: A running coprocessor operation removed by a squash, by END or by a contained fault stops at the end of its
  current internal step, cancels its write-back and frees the unit. -/
  | copUnitStop (d : Clu) (t : Tix)
  /-- R445: PERST_L is released and the PCIe link, held down while it was low, begins to train again. -/
  | perstRelease
deriving DecidableEq, Repr

end Sys2Proof
end

