-- ==== Sys2Proof/Decode.lean ====
section
/-! DEFINITION. The command a word spells. No row of the opcode table gives bits (every row's `fields` is empty): commands arrive as
terms of `Instr`, and no word spells one. -/

namespace Sys2Proof

/-- The command that the nbits bits w spell, over the rows that give bits. -/
def decodeTableWord (_nbits _w : Nat) : Option Instr := none

end Sys2Proof
end

