-- ==== Sys2Proof/Config.lean ====
section
/-! DEFINITION. The free values: what the spec leaves open. Each is a constant with no body, so nothing can be proved of a value
of it. -/

namespace Sys2Proof.Config

open Sys2Proof

/-- The n-th free word the block draws; a result the spec bounds but does not fix takes its choice from it. -/
opaque freeWord : Nat → W64
/-- Which of the odd-weight columns not yet taken is that of stored bit n (R166 gives the columns' weight, not the columns). -/
opaque eccPick : Nat → Nat
/-- What the device puts in the CLASS and CAPS fields of its own HELLO (R222 gives the fields, not the device's values). -/
opaque helloClass : W8
opaque helloCaps : W16
/-- What byte a of HBM holds before it is written, under the n-th undefined contents (R181, R443). -/
opaque hbmByte : Nat → Nat → W8
/-- The bank, counted across stack IDs, and the row the controller gives stack offset s of a stack (R188). -/
opaque hbmBank : Nat → Nat
opaque hbmRow : Nat → Nat
/-- The 64-byte unit of its row. -/
opaque hbmUnit : Nat → Nat
/-- The vector ALU where R105 names the operation and states no result: FUNC, the two operands and the component. -/
opaque vecShift : W11 → W512 → W512 → W512
opaque vecPermute : W11 → W512 → W512 → W512
opaque vecCompare : W11 → W512 → W512 → W512
opaque vecSelect : W11 → W512 → W512 → W512
/-- A 16-bit component of a sum, difference or negation that lies outside int16 (R105 states none). -/
opaque vecOverflow : Int → W16
/-- The minimum and the maximum of two vectors (R105 states neither the order of complex elements nor of components). -/
opaque vecMin : W512 → W512 → W512
opaque vecMax : W512 → W512 → W512
/-- The scalar ALU function fn of two words (R105 gives the class, not the functions). -/
opaque scalarAlu : W5 → W32 → W32 → W32
/-- A scalar product outside 32 bits (R81 gives the latency, not the result's width). -/
opaque scalarProduct : W32 → W32 → W32
/-- What a narrow scalar load puts above the byte or halfword it loads (R105 states neither extension). -/
opaque loadExtend : Bool → W16 → W32
/-- The upper half of an immediate move whose immediate has bit 15 set (R105 states no extension). -/
opaque immExtend : W16 → W16
/-- A MOVC read of an unlisted control register. -/
opaque ctrlReserved : BitVec 6 → W32
/-- The coprocessor's last units (R124): operation, order, the stored inputs, and the component. -/
opaque copUlp : Nat → Nat → List W32 → Nat → Nat
/-- The coprocessor's results before they are normalised, in units of 2^-31, where R124 sets no bound: beyond condition number 256. -/
opaque copFree : Nat → Nat → List W32 → Nat → Int

/-- Transforms within their bounds (R254), the mask checker's powers (R257): parameters, samples, component. -/
opaque fftUlp : List Nat → List W32 → Nat → Nat
opaque maskUlp : List W32 → Nat → Nat
/-- The width of a block whose modulation byte is no code (R265). -/
opaque packCode : W8 → Nat
/-- The identity key pair's signature of a report's first 256 bytes, r then s (R428, R430). -/
opaque ecdsaSig : List W8 → BitVec 768
/-- The HSS signature of them under an index (R428, R430). -/
opaque hssSig : Nat → List W8 → BitVec 45728
/-- The identity public key and the HSS public key (R429). -/
opaque identityKey : BitVec 768
opaque hssKey : BitVec 480
/-- The first 16 bytes of the HMAC over a security record, whose key is derived from the device secret (R433). -/
opaque recordTag : List W8 → BitVec 128
/-- The BTU's own state behind NEXT_FREE in the security record (R434: its layout is not part of the interface). -/
opaque btuState : List W8

/-- A hard decision of a value that is 0, which R279 and R282 do not state: the decode's parameters, its inputs, iteration, index. -/
opaque codeTie : List Nat → List Int → Nat → Nat → Bool
/-- Which neighbour a scaled extrinsic value takes where (8 - NORM) / 8 of it is no integer (R282 states no rounding). -/
opaque turboRound : List Nat → List Int → Nat → Nat → Bool
/-- Polar decoding (R283 names the decoder, not its arithmetic): the value of a check of two values, what a bit decided against or with
its value adds to a path's metric, the value of a bit known to be 0, and a coded bit beyond both segments of an odd length. -/
opaque polarCheck : Int → Int → Int
opaque polarCost : Int → Bool → Int
opaque polarKnown : Int
opaque polarOdd : List Bool → Bool

/-- The detector: the unit by which a metric may differ (R300), NOISE where N is 0 (R296 states none), and how the 36 combined values
of a burst become soft values (R302 gives no scale). -/
opaque metricUlp : Nat → Nat → Int → Nat
opaque noiseOfZero : W16
opaque gsmSoft : List Int → List W8

end Sys2Proof.Config
end

