-- ==== Sys2Proof/Machine/Bits.lean ====
section
/-! DEFINITION. Bit fields, saturation and byte order (R4, R5), and the sparse tables every indexed piece of state
is held in. -/

namespace Sys2Proof.Machine

open Sys2Proof

/-- The field [hi:lo] of a word, as a number (R4). -/
def bitsOf {w : Nat} (x : BitVec w) (hi lo : Nat) : Nat := (x.toNat >>> lo) % 2 ^ (hi + 1 - lo)

/-- Bit n of a word. -/
def bit {w : Nat} (x : BitVec w) (n : Nat) : Bool := x.getLsbD n

/-- The mask of the field [hi:lo]. -/
def fmask (w hi lo : Nat) : BitVec w := BitVec.ofNat w ((2 ^ (hi + 1 - lo) - 1) <<< lo)

/-- A word with its field [hi:lo] replaced by v modulo the field's width. -/
def putFld {w : Nat} (x : BitVec w) (hi lo v : Nat) : BitVec w :=
  (x &&& ~~~ fmask w hi lo) ||| BitVec.ofNat w ((v % 2 ^ (hi + 1 - lo)) <<< lo)

/-- A Bool as the number a one-bit field shows. -/
def b2n (b : Bool) : Nat := if b then 1 else 0

/-- Addition that stops at the largest value of w bits. -/
def satAdd (w a b : Nat) : Nat := if a + b < 2 ^ w then a + b else 2 ^ w - 1

/-- An integer brought into [lo, hi]. -/
def clampI (lo hi x : Int) : Int := if x < lo then lo else if hi < x then hi else x

/-- R18's rounding shift: round half up by s bits, s ≥ 1; s = 0 leaves the value. -/
def roundShift (a : Int) (s : Nat) : Int := if s = 0 then a else (a + 2 ^ (s - 1)) / 2 ^ s

/-- The bytes of a number, least significant first (R5). -/
def bytesLE : Nat → Nat → List W8
  | 0, _ => []
  | n + 1, v => BitVec.ofNat 8 v :: bytesLE n (v / 256)

/-- The number a list of bytes spells, least significant first (R5). -/
def natLE : List W8 → Nat
  | [] => 0
  | b :: bs => b.toNat + 256 * natLE bs

/-- One bit of a CRC-32C, least significant first: the Castagnoli polynomial reflected. PRESUMED: the parameters of the published CRC of that
name. -/
def crc32cBit (r : Nat) : Nat := if r % 2 = 1 then (r / 2) ^^^ 0x82F63B78 else r / 2
def crc32cByte (r : Nat) (b : W8) : Nat := (List.range 8).foldl (fun x _ => crc32cBit x) (r ^^^ b.toNat)
/-- The CRC-32C of bytes (R221, R222, R433): all ones to begin with, inverted at the end. -/
def crc32c (bs : List W8) : Nat := 0xFFFFFFFF - bs.foldl crc32cByte 0xFFFFFFFF

/-- The positions below n at which p holds, rising. -/
def indices (n : Nat) (p : Nat → Bool) : List Nat := (List.range n).filter p

/-- The lowest set bit of a word, if any. -/
def lowestBit {w : Nat} (x : BitVec w) : Option Nat := (indices w (fun n => x.getLsbD n)).head?

/-- The number of set bits. -/
def popCount {w : Nat} (x : BitVec w) : Nat := (indices w (fun n => x.getLsbD n)).length

/-- What key k holds. -/
def tabGet {α : Type} (dflt : Nat → α) : Tab α → Nat → α
  | [], k => dflt k
  | (a, v) :: t, k => if a = k then v else tabGet dflt t k

/-- The table without key k. -/
def tabErase {α : Type} (t : Tab α) (k : Nat) : Tab α := t.filter (fun p => decide (p.1 ≠ k))

/-- The table without the keys at which p holds. -/
def tabDrop {α : Type} (t : Tab α) (p : Nat → Bool) : Tab α := t.filter (fun e => !p e.1)

/-- A pair put in its place among rising keys. -/
def tabInsert {α : Type} : Tab α → Nat → α → Tab α
  | [], k, v => [(k, v)]
  | (a, w) :: t, k, v => if k < a then (k, v) :: (a, w) :: t else (a, w) :: tabInsert t k v

/-- The table with key k holding v; writing what an unlisted key reads as removes the entry. -/
def tabSet {α : Type} [DecidableEq α] (dflt : Nat → α) (t : Tab α) (k : Nat) (v : α) : Tab α :=
  if v = dflt k then tabErase t k else tabInsert (tabErase t k) k v

/-- Keys strictly rise. -/
def tabRising {α : Type} : Tab α → Bool
  | [] => true
  | (a, _) :: t => t.all (fun p => decide (a < p.1)) && tabRising t

/-- The canonical form: keys strictly rise and no entry equals what an unlisted key reads as. -/
def tabWf {α : Type} [DecidableEq α] (dflt : Nat → α) (t : Tab α) : Bool :=
  tabRising t && t.all (fun p => decide (p.2 ≠ dflt p.1))

end Sys2Proof.Machine
end

