-- ==== Sys2Proof/Machine/RegMap.lean ====
section
/-! DEFINITION. The register map: the pages of BAR0 (R35, R36, R56, R57), and every register's fields with access type
(R9), scope (R47) and reset value (R15), from the register tables of the chapters. A register selected by an index
register has one word per entry; `entKey` places them above the 64 MiB of BAR0. -/

namespace Sys2Proof.Machine

open Sys2Proof

/-- The block types of R56 and R57. -/
inductive Block where
  | dev | well | dpwr | weir | ftb | bmon | pmb | gpio | rsto | fuse | btu | pcie | pump | hbmc | slc | cmpl | fyil
  | cg | flow
  | qctl | qpwr | slp | fqu | mill | cist | cbank | fft | shp | nsc | code | abd | hrace | trace | blnk | lane
  | clu | cmem
deriving DecidableEq, Repr

/-- One populated page: its block, the device-wide instance number of PAGE_ID, its position in the instance, the quadrant it lies in (4: the device region) and its own
number within the owner of its power slot. -/
structure Page where
  blk : Block
  inst : Nat
  seq : Nat
  quad : Nat
deriving DecidableEq, Repr

/-- The BAR0 size, R35. -/
def barSize : Nat := 0x4000000

/-- The device region's pages, R56. -/
def devicePage (i : Nat) : Option Page :=
  if i = 0x000 then some ⟨.dev, 0, 0, 4⟩
  else if i = 0x001 then some ⟨.well, 0, 0, 4⟩
  else if i = 0x002 then some ⟨.dpwr, 0, 0, 4⟩
  else if i = 0x003 then some ⟨.weir, 0, 0, 4⟩
  else if i = 0x004 ∨ i = 0x005 then some ⟨.ftb, 0, i - 0x004, 4⟩
  else if i = 0x006 then some ⟨.bmon, 0, 0, 4⟩
  else if i = 0x007 ∨ i = 0x008 then some ⟨.pmb, i - 0x007, 0, 4⟩
  else if i = 0x009 then some ⟨.gpio, 0, 0, 4⟩
  else if i = 0x00A then some ⟨.rsto, 0, 0, 4⟩
  else if i = 0x00B then some ⟨.fuse, 0, 0, 4⟩
  else if i = 0x010 ∨ i = 0x011 then some ⟨.btu, 0, i - 0x010, 4⟩
  else if i = 0x012 ∨ i = 0x013 then some ⟨.pcie, 0, i - 0x012, 4⟩
  else if i = 0x014 ∨ i = 0x015 then some ⟨.pump, 0, i - 0x014, 4⟩
  else if 0x018 ≤ i ∧ i ≤ 0x01B then some ⟨.hbmc, (i - 0x018) / 2, (i - 0x018) % 2, 4⟩
  else if 0x020 ≤ i ∧ i ≤ 0x023 then some ⟨.slc, 0, i - 0x020, 4⟩
  else if i = 0x024 ∨ i = 0x025 then some ⟨.cmpl, 0, i - 0x024, 4⟩
  else if i = 0x028 then some ⟨.fyil, 0, 0, 4⟩
  else if 0x040 ≤ i ∧ i ≤ 0x07F then some ⟨.cg, i - 0x040, 0, 4⟩
  else if 0x080 ≤ i ∧ i ≤ 0x087 then some ⟨.flow, 0, i - 0x080, 4⟩
  else none

/-- A quadrant region's pages, R57; i is the page index within the region. -/
def quadPage (q i : Nat) : Option Page :=
  if i = 0x00 then some ⟨.qctl, q, 0, q⟩
  else if i = 0x01 then some ⟨.qpwr, q, 0, q⟩
  else if i = 0x02 then some ⟨.weir, q, 0, q⟩
  else if i = 0x03 then some ⟨.slp, q, 0, q⟩
  else if i = 0x04 ∨ i = 0x05 then some ⟨.fqu, q, i - 0x04, q⟩
  else if i = 0x06 then some ⟨.mill, q, 0, q⟩
  else if i = 0x07 then some ⟨.cist, q, 0, q⟩
  else if 0x08 ≤ i ∧ i ≤ 0x13 then some ⟨.cbank, 12 * q + (i - 0x08), 0, q⟩
  else if i = 0x14 then some ⟨.fft, q, 0, q⟩
  else if i = 0x15 then some ⟨.shp, q, 0, q⟩
  else if i = 0x16 then some ⟨.nsc, q, 0, q⟩
  else if i = 0x17 ∨ i = 0x18 then some ⟨.code, q, i - 0x17, q⟩
  else if i = 0x19 then some ⟨.abd, q, 0, q⟩
  else if i = 0x1A then some ⟨.hrace, q, 0, q⟩
  else if i = 0x1B then some ⟨.trace, q, 0, q⟩
  else if i = 0x1C then some ⟨.blnk, q, 0, q⟩
  else if 0x20 ≤ i ∧ i ≤ 0x2F then some ⟨.lane, 16 * q + (i - 0x20), 0, q⟩
  else if 0x100 ≤ i ∧ i < 0x400 then
    if (i - 0x100) % 128 = 0 then some ⟨.clu, 6 * q + (i - 0x100) / 128, 0, q⟩
    else if (i - 0x100) % 128 = 1 then some ⟨.cmem, 6 * q + (i - 0x100) / 128, 0, q⟩
    else none
  else none

/-- The page a BAR0 byte address lies in; none for an unpopulated page (R37). A cluster's window holds 128 pages and
a quadrant has six clusters, which end at relative page 0x400. -/
def pageOf (a : Nat) : Option Page :=
  if a / 0x400000 = 0 then devicePage (a / 0x1000)
  else if a / 0x400000 ≤ 4 then quadPage (a / 0x400000 - 1) (a % 0x400000 / 0x1000)
  else none

/-! Page addresses of R36, one per block. -/

/-- The page of device index i. -/
def devPg (i : Nat) : Nat := i * 0x1000
/-- The page of index i of quadrant q. -/
def quadPg (q i : Nat) : Nat := 0x400000 + q * 0x400000 + i * 0x1000
/-- The page of index i of device-wide cluster d (R20). -/
def cluPgI (d i : Nat) : Nat := 0x400000 + d / 6 * 0x400000 + 0x100000 + d % 6 * 0x80000 + i * 0x1000

def pgDEV : Nat := devPg 0x000
def pgWELL : Nat := devPg 0x001
def pgDPWR : Nat := devPg 0x002
def pgDWEIR : Nat := devPg 0x003
def pgFTB : Nat := devPg 0x004
def pgFTB1 : Nat := devPg 0x005
def pgBMON : Nat := devPg 0x006
def pgPMB (b : Nat) : Nat := devPg (0x007 + b)
def pgGPIO : Nat := devPg 0x009
def pgRSTO : Nat := devPg 0x00A
def pgFUSE : Nat := devPg 0x00B
def pgBTU : Nat := devPg 0x010
def pgBTU1 : Nat := devPg 0x011
def pgPCIE : Nat := devPg 0x012
def pgPUMP : Nat := devPg 0x014
def pgPUMP1 : Nat := devPg 0x015
def pgHBMC (n : Nat) : Nat := devPg (0x018 + 2 * n)
def pgHBMC1 (n : Nat) : Nat := devPg (0x019 + 2 * n)
def pgSLC : Nat := devPg 0x020
def pgSLC1 : Nat := devPg 0x021
def pgSLC2 : Nat := devPg 0x022
def pgCMPL : Nat := devPg 0x024
def pgCMPL1 : Nat := devPg 0x025
def pgFYIL : Nat := devPg 0x028
def pgCG (g : Nat) : Nat := devPg (0x040 + g)
def pgFLOW (m : Nat) : Nat := devPg (0x080 + m)
def pgQCTL (q : Nat) : Nat := quadPg q 0x00
def pgQPWR (q : Nat) : Nat := quadPg q 0x01
def pgQWEIR (q : Nat) : Nat := quadPg q 0x02
def pgSLP (q : Nat) : Nat := quadPg q 0x03
def pgFQU (q : Nat) : Nat := quadPg q 0x04
def pgFQU1 (q : Nat) : Nat := quadPg q 0x05
def pgMILL (q : Nat) : Nat := quadPg q 0x06
def pgCIST (q : Nat) : Nat := quadPg q 0x07
def pgCBANK (q b : Nat) : Nat := quadPg q (0x08 + b)
def pgFFT (q : Nat) : Nat := quadPg q 0x14
def pgSHP (q : Nat) : Nat := quadPg q 0x15
def pgNSC (q : Nat) : Nat := quadPg q 0x16
def pgCODE (q : Nat) : Nat := quadPg q 0x17
def pgCODE1 (q : Nat) : Nat := quadPg q 0x18
def pgABD (q : Nat) : Nat := quadPg q 0x19
def pgHRACE (q : Nat) : Nat := quadPg q 0x1A
def pgTRACE (q : Nat) : Nat := quadPg q 0x1B
def pgBLNK (q : Nat) : Nat := quadPg q 0x1C
/-- The page of device lane l. -/
def pgLANE (l : Nat) : Nat := quadPg (l / 16) (0x20 + l % 16)
def pgCLU (d : Nat) : Nat := cluPgI d 0
def pgCMEM (d : Nat) : Nat := cluPgI d 1
/-- The Weir page of quadrant q, the device Weir for q = 4. -/
def pgWEIR (q : Nat) : Nat := if q < 4 then pgQWEIR q else pgDWEIR

/-- Every populated page: 101 at device level, 45 per quadrant, 2 per cluster (R57). -/
def allPages : List Nat :=
  (List.range 0x400).filterMap (fun i => (devicePage i).map (fun _ => devPg i))
  ++ (List.range 4).flatMap (fun q =>
      (List.range 0x400).filterMap (fun i => (quadPage q i).map (fun _ => quadPg q i)))

/-- Block type codes of R56 and R57. -/
def Block.typeCode : Block → Nat
  | .dev => 0x0001 | .well => 0x0002 | .dpwr => 0x0003 | .weir => 0x0004 | .ftb => 0x0005 | .bmon => 0x0006
  | .pmb => 0x0007 | .gpio => 0x0008 | .rsto => 0x0009 | .btu => 0x000A | .pcie => 0x000B | .pump => 0x000C
  | .hbmc => 0x000D | .slc => 0x000E | .cmpl => 0x000F | .cg => 0x0010 | .flow => 0x0012 | .fyil => 0x0013
  | .fuse => 0x0014
  | .qctl => 0x0020 | .qpwr => 0x0021 | .slp => 0x0022 | .fqu => 0x0023 | .mill => 0x0024 | .cist => 0x0025
  | .cbank => 0x0026 | .fft => 0x0027 | .shp => 0x0028 | .nsc => 0x0029 | .code => 0x002A | .abd => 0x002B
  | .hrace => 0x002C | .trace => 0x002D | .blnk => 0x002E | .lane => 0x002F | .clu => 0x0040 | .cmem => 0x0041

/-- Pages of one instance (R56, R57). -/
def Block.pageCount : Block → Nat
  | .ftb => 2 | .btu => 2 | .pcie => 2 | .pump => 2 | .hbmc => 2 | .slc => 4 | .cmpl => 2 | .flow => 8 | .fqu => 2
  | .code => 2 | _ => 1

/-- The block accepts SOFT_RESET: marked S in the index. -/
def Block.softReset : Block → Bool
  | .ftb => true | .bmon => true | .pmb => true | .pump => true | .hbmc => true | .slc => true | .fyil => true
  | .slp => true | .fqu => true | .fft => true | .shp => true | .nsc => true | .code => true | .abd => true
  | .hrace => true | .trace => true | .blnk => true | .lane => true | .clu => true
  | _ => false

/-- Hierarchy level of PAGE_ID: 5 device, 4 quadrant, 3 cluster (R42). -/
def Page.level (p : Page) : Nat :=
  if p.blk = .clu ∨ p.blk = .cmem then 3 else if p.quad < 4 then 4 else 5

/-- PAGE_ID of R42. -/
def Page.id (p : Page) : W32 := BitVec.ofNat 32 (p.blk.typeCode * 65536 + p.inst * 256 + p.level)

/-- PAGE_VER of R42, version 1.0 in stepping A1. -/
def Page.ver (p : Page) : W32 := BitVec.ofNat 32 (p.blk.pageCount * 16777216 + p.seq * 65536 + 0x0100)

/-! Power slots (R54, R56, R57). A slot's key is its number for DPWR and 64 (q + 1) + number for QPWR of quadrant q. -/

/-- The slot key of quadrant q's slot s. -/
def qSlot (q s : Nat) : Nat := 64 * (q + 1) + s

/-- The power slot of a page; none for a block that has none. -/
def Page.slot (p : Page) : Option Nat :=
  match p.blk with
  | .btu => some 0 | .pcie => some 1 | .pump => some 2 | .hbmc => some (3 + p.inst) | .slc => some 5 | .cmpl => some 6
  | .fyil => some 7 | .cg => some 5 | .flow => some 5
  | .slp => some (qSlot p.quad 0) | .fqu => some (qSlot p.quad 1) | .mill => some (qSlot p.quad 2)
  | .cist => some (qSlot p.quad 3) | .cbank => some (qSlot p.quad (4 + p.inst % 12))
  | .fft => some (qSlot p.quad 16) | .shp => some (qSlot p.quad 17) | .nsc => some (qSlot p.quad 18)
  | .code => some (qSlot p.quad 19) | .abd => some (qSlot p.quad 20) | .hrace => some (qSlot p.quad 21)
  | .trace => some (qSlot p.quad 22) | .blnk => some (qSlot p.quad 23) | .lane => some (qSlot p.quad (24 + p.inst % 16))
  | .clu => some (qSlot p.quad (40 + 2 * (p.inst % 6))) | .cmem => some (qSlot p.quad (41 + 2 * (p.inst % 6)))
  | _ => none

/-- The page that stands first in a slot; its PWR_CTRL is the slot's storage. Slots 8 to 11 of DPWR are the quadrant
domains and have no page of their own. -/
def slotPage (k : Nat) : Option Nat :=
  if k < 64 then
    if k = 0 then some pgBTU else if k = 1 then some pgPCIE else if k = 2 then some pgPUMP
    else if k = 3 ∨ k = 4 then some (pgHBMC (k - 3)) else if k = 5 then some pgSLC else if k = 6 then some pgCMPL
    else if k = 7 then some pgFYIL else none
  else if k < 320 then
    let q := k / 64 - 1
    let s := k % 64
    if s = 0 then some (pgSLP q) else if s = 1 then some (pgFQU q) else if s = 2 then some (pgMILL q)
    else if s = 3 then some (pgCIST q) else if s < 16 then some (pgCBANK q (s - 4)) else if s = 16 then some (pgFFT q)
    else if s = 17 then some (pgSHP q) else if s = 18 then some (pgNSC q) else if s = 19 then some (pgCODE q)
    else if s = 20 then some (pgABD q) else if s = 21 then some (pgHRACE q) else if s = 22 then some (pgTRACE q)
    else if s = 23 then some (pgBLNK q) else if s < 40 then some (pgLANE (16 * q + (s - 24)))
    else if s < 52 then
      some (if (s - 40) % 2 = 0 then pgCLU (6 * q + (s - 40) / 2) else pgCMEM (6 * q + (s - 40) / 2))
    else none
  else none

/-- The register that holds a slot's WAKE and PWR_FLOOR: the PWR_CTRL of its first page, or the mirror itself for a
quadrant domain (R54). -/
def slotCtrlKey (k : Nat) : Nat :=
  match slotPage k with
  | some p => p + 0x020
  | none => pgDPWR + 0x100 + 4 * k

/-- PWR_FLOOR and LINGER_US after reset, R363. R42 gives both a reset "per type" on every page, and R363 has a row for blocks with a
slot only: that both are 0 on a page without a slot, and PWR_FLOOR 0 in DPWR_SLOT[8] to [11] of the quadrant domains, is the model's
choice (DESIGN CHOICE). -/
def Block.powerReset : Block → Nat × Nat
  | .clu => (3, 20) | .cmem => (3, 20) | .slp => (2, 10) | .cist => (2, 10) | .fqu => (3, 100) | .mill => (3, 5)
  | .cbank => (3, 50) | .fft => (3, 20) | .shp => (3, 20) | .nsc => (3, 20) | .code => (3, 20) | .abd => (3, 20)
  | .hrace => (3, 10) | .trace => (3, 10) | .blnk => (3, 10) | .lane => (3, 1000) | .btu => (3, 100) | .pump => (3, 20)
  | .pcie => (1, 0) | .hbmc => (3, 100) | .slc => (2, 10) | .cmpl => (2, 10) | .fyil => (4, 0) | .cg => (2, 10)
  | .flow => (2, 10) | _ => (0, 0)

/-- The deepest state of a block: 1 IDLE, 2 NAP, 3 DOZE, 4 OFF (R363). -/
def Block.deepest : Block → Nat
  | .clu => 4 | .cmem => 4 | .slp => 2 | .cist => 2 | .fqu => 3 | .mill => 3 | .cbank => 4 | .fft => 4 | .shp => 4
  | .nsc => 4 | .code => 4 | .abd => 4 | .hrace => 3 | .trace => 3 | .blnk => 3 | .lane => 3 | .btu => 3 | .pump => 3
  | .pcie => 1 | .hbmc => 3 | .slc => 2 | .cmpl => 2 | .fyil => 4 | .cg => 2 | .flow => 2 | _ => 1

/-! Registers. -/

/-- The access types of R9. -/
inductive FTy where
  | rw | ro | w1c | wo | rc | sh | rwf
deriving DecidableEq, Repr

/-- The scopes of R47. -/
inductive Scope where
  | free | live | quad | config | factory
deriving DecidableEq, Repr

/-- A field of a register. -/
structure FieldDesc where
  hi : Nat
  lo : Nat
  ty : FTy
  scope : Scope
deriving DecidableEq, Repr

/-- A register: the page of its instance, its offset, how many stand in a row and how far apart, the index register that
selects its entry (offset and width), its reset value and its fields. -/
structure RegDesc where
  seq : Nat
  off : Nat
  cnt : Nat
  stride : Nat
  sel : Option (Nat × Nat)
  reset : Nat
  fields : List FieldDesc
deriving DecidableEq, Repr

def rw (h l : Nat) : FieldDesc := ⟨h, l, .rw, .free⟩
def ro (h l : Nat) : FieldDesc := ⟨h, l, .ro, .free⟩
def w1c (h l : Nat) : FieldDesc := ⟨h, l, .w1c, .free⟩
def wo (h l : Nat) : FieldDesc := ⟨h, l, .wo, .free⟩
def rc (h l : Nat) : FieldDesc := ⟨h, l, .rc, .free⟩
def shd (h l : Nat) : FieldDesc := ⟨h, l, .sh, .free⟩
def rwf (h l : Nat) : FieldDesc := ⟨h, l, .rwf, .factory⟩
def cfg (h l : Nat) : FieldDesc := ⟨h, l, .rw, .config⟩
def qua (h l : Nat) : FieldDesc := ⟨h, l, .rw, .quad⟩
def liv (h l : Nat) : FieldDesc := ⟨h, l, .rw, .live⟩

/-- A single register on page 0 of its instance. -/
def reg (off : Nat) (fields : List FieldDesc) (reset : Nat := 0) : RegDesc := ⟨0, off, 1, 4, none, reset, fields⟩
/-- A row of registers on a page of its instance. -/
def regs (seq off cnt stride : Nat) (fields : List FieldDesc) (reset : Nat := 0) : RegDesc :=
  ⟨seq, off, cnt, stride, none, reset, fields⟩
/-- A register selected by an index register of width w at offset i of the same page. -/
def ent (i w off : Nat) (fields : List FieldDesc) (reset : Nat := 0) : RegDesc :=
  ⟨0, off, 1, 4, some (i, w), reset, fields⟩

/-- The memory-control block of CIST, CMEM and HBMC pages (R175, R176, R178). -/
def memCtlRegs : List RegDesc :=
  [ reg 0x100 [rw 31 0], reg 0x104 [rw 31 0], reg 0x108 [rw 31 0]
  , reg 0x10C [rw 9 8, rw 7 4, wo 1 1, wo 0 0] 0x40
  , reg 0x110 [ro 31 31, ro 30 28, ro 15 0], regs 0 0x114 3 4 [ro 31 0], regs 0 0x120 4 4 [ro 31 0]
  , reg 0x140 [rw 4 0], ent 0x140 5 0x144 [ro 31 0], ent 0x140 5 0x148 [ro 31 0]
  , ent 0x140 5 0x14C [ro 31 16, ro 15 8, ro 7 0], reg 0x150 [ro 31 16, ro 5 0], reg 0x154 [wo 0 0]
  , reg 0x158 [ro 31 0], reg 0x15C [ro 31 0], reg 0x160 [ro 31 16, ro 15 8], reg 0x164 [rc 31 0], reg 0x168 [rc 31 0] ]

/-- The registers every Weir page holds (R340 to R345, R51). -/
def weirRegs : List RegDesc :=
  [ regs 0 0x040 2 4 [w1c 31 0], reg 0x048 [ro 31 0], reg 0x04C [ro 31 16, ro 15 15, ro 5 0], reg 0x050 [ro 31 0]
  , reg 0x054 [ro 15 0], regs 0 0x060 6 4 [rc 31 0], reg 0x078 [w1c 31 0]
  , reg 0x07C [ro 31 16, rc 15 0] 0x0000FFFF
  , reg 0x1C0 [rwf 31 31, rwf 21 16, rwf 4 0], regs 0 0x200 4 4 [rc 31 0], reg 0x210 [ro 31 31, ro 27 26, ro 25 0] ]

/-- The registers only the device Weir page holds. -/
def dweirRegs : List RegDesc :=
  [ reg 0x080 [ro 31 16, rc 15 0] 0x02EEFFFF, regs 0 0x100 12 4 [ro 31 0], regs 0 0x130 4 4 [ro 31 0]
  , regs 0 0x140 4 4 [ro 26 24, ro 15 0], regs 0 0x160 8 4 [ro 31 0]
  , reg 0x180 [w1c 31 31, ro 20 16, ro 15 0], reg 0x184 [ro 31 0] ]

/-- The job counters every engine page holds (R246, R247). -/
def engRegs : List RegDesc := [ reg 0x080 [rc 31 0], reg 0x084 [rc 31 0], reg 0x088 [ro 31 31, ro 30 28, ro 17 12, ro 11 0] ]

/-- The stream map of the Headrace (R236, R240), and the Tailrace's, of which CLUSTER, bits [11:10] of KEY and EVT are reserved. -/
def hraceRegs : List RegDesc :=
  [ reg 0x040 [rw 9 0]
  , ent 0x040 10 0x044 [shd 31 31, shd 30 30, shd 29 24, shd 23 20, shd 19 19, shd 17 15, shd 11 0]
  , ent 0x040 10 0x048 [shd 28 24, shd 18 0] 0x0C000000, ent 0x040 10 0x04C [shd 7 0] ]
def traceRegs : List RegDesc :=
  [ reg 0x040 [rw 9 0]
  , ent 0x040 10 0x044 [shd 31 31, shd 30 30, shd 29 24, shd 23 20, shd 19 19, shd 9 0]
  , ent 0x040 10 0x048 [shd 28 24, shd 18 0] 0x0C000000 ]

/-- The registers of a block, those of the common header apart. -/
def blockRegs (b : Block) (inst : Nat) : List RegDesc :=
  match b with
  | .dev =>
    [ reg 0x040 [ro 31 0] 0x11, reg 0x044 [wo 31 16, wo 2 0], reg 0x048 [rw 15 8, rw 2 2, rw 1 1, rw 0 0] 0x2805
    , reg 0x04C [ro 23 17, ro 15 0], reg 0x050 [ro 17 0] ]
  | .well => [ reg 0x040 [rw 0 0], reg 0x044 [wo 31 16, wo 1 0], reg 0x048 [ro 31 0] ]
  | .dpwr =>
    [ regs 0 0x040 4 4 [ro 31 31, ro 30 30, ro 26 24, ro 18 16, ro 9 8, rw 2 0] 0x40000000
    , regs 0 0x050 4 4 [rw 31 31, rw 30 28, rw 27 16, rw 9 0] 0x33E80226
    , regs 0 0x060 5 4 [cfg 31 31, cfg 30 30, cfg 29 29, cfg 28 24, cfg 23 16, cfg 6 0] 0x14000000
    , reg 0x074 [cfg 23 16, cfg 7 0] 0x000A0014, regs 0 0x080 5 4 [ro 15 0]
    , regs 0 0x0A0 8 4 [rw 31 31, rw 30 30, rw 21 16, rw 3 0], reg 0x0C0 [w1c 15 8, w1c 7 0]
    , regs 0 0x100 12 4 [ro 18 16, rw 3 3, rw 2 0] ]
  | .weir => weirRegs
  | .ftb =>
    [ reg 0x040 [wo 0 0], regs 0 0x044 5 4 [ro 31 0], reg 0x058 [rw 31 0], reg 0x05C [rw 15 0]
    , reg 0x060 [rw 18 0] 100000, reg 0x064 [wo 31 0], reg 0x068 [ro 31 0], regs 0 0x06C 2 4 [rw 31 0]
    , reg 0x074 [wo 31 16, wo 0 0], reg 0x078 [w1c 1 1, ro 0 0]
    , regs 1 0x040 1 4 [rw 31 31, rw 30 30, rw 29 29, rw 28 28, rw 13 8, rw 5 0] 0x10000000
    , regs 1 0x044 1 4 [ro 4 4, ro 3 3, ro 2 2, ro 1 0], regs 1 0x048 1 4 [ro 31 0]
    , regs 1 0x04C 1 4 [rw 31 31, rw 30 30, rw 19 0] 100000, regs 1 0x050 2 4 [rw 31 0]
    , regs 1 0x058 1 4 [rw 31 0] 1000000000, regs 1 0x05C 2 4 [ro 31 0], regs 1 0x064 1 4 [rw 23 0]
    , regs 1 0x080 4 16 [rw 31 0], regs 1 0x084 4 16 [rw 31 0]
    , regs 1 0x088 4 16 [wo 31 31, w1c 30 30, ro 29 29, rw 3 0] 15 ]
  | .bmon =>
    [ reg 0x040 [rw 31 31, rw 29 28, rw 27 24, rw 23 16, rw 15 0] 0x000C0000, reg 0x044 [rw 31 0], reg 0x048 [rw 15 0]
    , reg 0x04C [wo 31 31, wo 30 30, wo 29 29, wo 5 0], reg 0x050 [ro 31 31, ro 30 30, ro 29 29, ro 28 28, ro 27 27, ro 26 26, ro 5 0]
    , reg 0x054 [ro 31 0] 0x0003F000, reg 0x058 [rw 15 8, ro 7 0] 0x0100, reg 0x05C [rc 31 16, rc 15 0], reg 0x060 [ro 31 0]
    , reg 0x064 [ro 31 16, ro 15 0], reg 0x068 [w1c 15 0], regs 0 0x080 16 8 [rw 31 31, ro 30 30, rw 18 16, rw 5 0]
    , regs 0 0x084 16 8 [rw 27 16, rw 11 0] 0x0FFF0000 ]
  | .pmb =>
    [ reg 0x040 [rw 31 30, rw 0 0], reg 0x044 [wo 31 31, rw 30 30, rw 29 29, rw 28 28, rw 21 16, rw 14 8, rw 7 0]
    , reg 0x048 [ro 31 31, ro 30 28, ro 21 16, ro 5 0], regs 0 0x060 8 4 [rw 31 0] ]
    ++ (if inst = 0 then
        [ reg 0x080 [rw 31 31, rw 30 30, rw 29 29, rw 23 16, rw 6 0] 0x000A0000, reg 0x084 [ro 31 0]
        , reg 0x088 [ro 31 31, rc 15 0], reg 0x08C [wo 31 16, wo 0 0] ] else [])
  | .gpio =>
    [ reg 0x040 [rw 15 0], reg 0x044 [rw 15 0], reg 0x048 [ro 31 31, ro 30 30, ro 15 0] 0x80000000, reg 0x04C [rw 31 0]
    , reg 0x050 [rw 31 16, rw 15 0] 0x27100001 ]
  | .rsto =>
    [ regs 0 0x040 2 8 [ro 31 0], regs 0 0x044 2 8 [ro 31 0], reg 0x050 [rw 15 2], reg 0x054 [wo 31 0], reg 0x058 [rw 16 0]
    , reg 0x05C [rw 15 2], reg 0x060 [ro 31 0], reg 0x064 [wo 31 16, wo 2 2, wo 1 1, wo 0 0], reg 0x068 [ro 30 28] ]
  | .fuse =>
    [ regs 0 0x040 3 4 [ro 31 0], reg 0x04C [rw 2 0], regs 0 0x050 12 4 [ro 31 0], regs 0 0x080 12 4 [rw 31 0]
    , reg 0x0B0 [wo 31 16, wo 10 8, wo 6 0], reg 0x0B4 [ro 31 31, ro 30 28] ]
  | .btu =>
    [ reg 0x040 [ro 31 0], reg 0x044 [ro 31 0], regs 0 0x048 2 4 [rw 31 0], reg 0x050 [wo 0 0], regs 0 0x080 12 4 [ro 31 0]
    , regs 1 0x040 8 4 [rw 31 0], regs 1 0x060 2 4 [rw 31 0], regs 1 0x068 1 4 [wo 8 8, wo 1 0]
    , regs 1 0x06C 1 4 [ro 31 31, ro 30 28], regs 1 0x070 1 4 [ro 31 0], regs 1 0x074 1 4 [ro 7 0] ]
  | .pcie =>
    [ reg 0x040 [ro 31 31, ro 30 28, ro 27 23, ro 15 0], reg 0x044 [cfg 5 0] 32, reg 0x048 [ro 31 0], reg 0x04C [ro 1 0]
    , reg 0x050 [rc 31 16, rc 15 0], reg 0x054 [rc 31 0], regs 0 0x058 2 4 [ro 31 0], regs 0 0x060 2 4 [wo 31 0] ]
  | .pump =>
    [ reg 0x040 [rw 3 0], ent 0x040 4 0x044 [cfg 31 0], ent 0x040 4 0x048 [cfg 31 0]
    , ent 0x040 4 0x04C [cfg 31 31, cfg 29 24, rw 18 8, rw 7 4, cfg 3 0] 0x16
    , ent 0x040 4 0x050 [ro 31 16, ro 15 14, ro 2 0], ent 0x040 4 0x054 [ro 15 0], ent 0x040 4 0x058 [wo 1 1, wo 0 0]
    , ent 0x040 4 0x05C [wo 15 0], regs 1 0x040 1 4 [ro 15 0], regs 1 0x044 2 4 [rc 31 0] ]
  | .hbmc =>
    [ reg 0x040 (if inst = 0 then [cfg 9 8] else []) (if inst = 0 then 0x100 else 0)
    , reg 0x044 [ro 31 31, ro 30 30, ro 29 28, ro 27 27, ro 23 16], reg 0x048 [rc 31 16, rc 15 0]
    , regs 1 0x040 2 4 [rw 31 0], regs 1 0x048 1 4 [wo 0 0], regs 1 0x04C 1 4 [ro 31 31, ro 30 28, ro 8 0]
    , regs 1 0x050 1 4 [rw 7 0], regs 1 0x054 1 4 [ro 31 0], regs 1 0x058 1 4 [ro 15 0] ] ++ memCtlRegs
  | .slc =>
    [ reg 0x040 [ro 31 31, ro 15 0], reg 0x044 [rw 7 0], ent 0x044 8 0x048 [cfg 31 0], ent 0x044 8 0x04C [cfg 31 0]
    , ent 0x044 8 0x050 [cfg 31 31, cfg 21 16, cfg 3 0] 6, ent 0x044 8 0x054 [ro 31 16, ro 12 12, ro 11 11, ro 7 7, ro 2 0]
    , ent 0x044 8 0x058 [ro 15 0], ent 0x044 8 0x05C [wo 0 0], reg 0x060 [wo 31 31, wo 23 16, wo 15 0]
    , reg 0x064 [ro 31 31, ro 27 16, ro 2 0], reg 0x068 [wo 23 16, wo 7 0], reg 0x06C [rc 31 0]
    , regs 1 0x040 128 4 [ro 31 0], regs 2 0x040 16 4 [ro 31 0] ]
  | .cmpl =>
    [ reg 0x040 [rw 7 0], ent 0x040 8 0x044 [cfg 31 0], ent 0x040 8 0x048 [cfg 31 0]
    , ent 0x040 8 0x04C [cfg 31 31, cfg 29 24, rw 18 8, cfg 3 0] 6, ent 0x040 8 0x050 [rw 31 16, rw 7 0] 1
    , ent 0x040 8 0x054 [ro 31 16, ro 15 0], ent 0x040 8 0x058 [ro 16 0], regs 1 0x040 8 4 [ro 31 0] ]
  | .fyil => [ reg 0x040 [rw 31 31, rw 1 1, rw 0 0], reg 0x044 [rc 31 0] ]
  | .cg =>
    [ reg 0x040 [shd 3 0], reg 0x044 [rw 19 0] 10000, reg 0x048 [ro 10 10, ro 9 8, ro 2 0] 0x303, reg 0x04C [ro 31 20, ro 12 0]
    , reg 0x050 [ro 31 0] ]
  | .flow =>
    [ regs 0 0x040 128 4 [shd 31 0], regs 0 0x240 128 4 [w1c 31 0] ]
    ++ [1, 2, 3, 4].map (fun m => regs m 0x040 256 4 [liv 31 31, liv 29 24, liv 23 23, liv 21 16, liv 15 15, liv 13 8, liv 7 7, liv 5 0])
    ++ [5, 6].map (fun m => regs m 0x040 512 4 [rc 31 24, rc 23 16, rc 15 8, rc 7 0])
    ++ [ regs 7 0x040 1 4 [rw 11 0], regs 7 0x044 1 4 [ro 31 0] ]
  | .qctl => []
  | .qpwr => [ reg 0x040 [ro 31 16, ro 15 15, ro 7 0], regs 0 0x100 52 4 [ro 18 16, rw 3 3, rw 2 0] ]
  | .slp => [ regs 0 0x040 5 4 [ro 15 15, ro 14 12, ro 8 0] ]
  | .fqu =>
    [ reg 0x040 [rw 6 0], ent 0x040 7 0x044 [shd 31 31, shd 30 29, shd 28 28, shd 27 22, shd 21 12, shd 9 0]
    , ent 0x040 7 0x048 [rw 31 0], ent 0x040 7 0x04C [rw 31 0], ent 0x040 7 0x050 [rw 31 0], ent 0x040 7 0x054 [rw 7 0]
    , ent 0x040 7 0x058 [rw 31 0], ent 0x040 7 0x05C [rw 31 0], ent 0x040 7 0x060 [rw 31 0], ent 0x040 7 0x064 [wo 1 1, wo 0 0]
    , ent 0x040 7 0x068 [ro 31 31, w1c 30 30, w1c 29 29, ro 15 0], ent 0x040 7 0x06C [ro 31 0], ent 0x040 7 0x070 [ro 31 0]
    , regs 1 0x040 1 4 [w1c 31 31, ro 22 16, ro 15 0], regs 1 0x044 1 4 [rc 31 0], regs 1 0x048 4 4 [ro 31 0]
    , regs 1 0x058 1 4 [wo 0 0], regs 1 0x060 2 4 [rw 31 0], regs 1 0x068 1 4 [rw 31 31, rw 30 30, rw 23 16, rw 4 0] 12
    , regs 1 0x06C 1 4 [ro 31 0], regs 1 0x070 2 4 [rw 31 0], regs 1 0x078 1 4 [wo 31 31, wo 19 16, wo 10 0]
    , regs 1 0x07C 1 4 [ro 31 31, ro 30 28, ro 15 0], regs 1 0x080 16 4 [rw 31 16, rw 15 0] ]
  | .mill => []
  | .cist => [ regs 0 0x040 3 4 [qua 31 24, qua 23 16, qua 15 8, qua 7 0] 0x40404040, regs 0 0x050 12 4 [qua 31 0] ] ++ memCtlRegs
  | .cbank => [ reg 0x040 [wo 0 0], reg 0x044 [ro 19 16, ro 5 0] ]
  | .fft =>
    [ reg 0x040 [rw 5 0], ent 0x040 6 0x044 [shd 31 31, shd 30 30, shd 29 24, shd 23 20, shd 19 19, shd 12 0]
    , ent 0x040 6 0x048 [shd 28 16, shd 10 0], ent 0x040 6 0x04C [shd 26 16, shd 10 0] ] ++ engRegs
  | .shp =>
    [ reg 0x040 [rw 5 0], ent 0x040 6 0x044 [shd 31 31, shd 30 30, shd 29 24, shd 23 23, shd 8 0] 1
    , reg 0x050 [rw 31 31, rw 30 30, rw 12 8, rw 7 0] 0x80000000, reg 0x054 [shd 31 0] ] ++ engRegs
  | .nsc =>
    [ reg 0x040 [rw 5 0], ent 0x040 6 0x044 [shd 31 31, shd 30 30, shd 29 24, shd 23 18, shd 17 9]
    , ent 0x040 6 0x048 [shd 31 22, shd 21 18, shd 17 15, shd 14 10] 0x00098000, ent 0x040 6 0x04C [shd 31 0]
    , ent 0x040 6 0x050 [shd 31 0] 0xFCA87543 ] ++ engRegs
  | .code =>
    [ reg 0x040 [rw 4 0], ent 0x040 5 0x044 [shd 31 31, shd 29 24, shd 23 20, shd 19 16, shd 15 13] 0x00814000
    , ent 0x040 5 0x048 [shd 27 0], reg 0x060 [ro 4 0], regs 0 0x090 3 4 [rc 31 0]
    , regs 1 0x040 128 4 [liv 31 0], regs 1 0x240 64 4 [liv 15 0] ] ++ engRegs
  | .abd =>
    [ reg 0x040 [rw 3 0], ent 0x040 4 0x044 [shd 31 31, shd 30 30, shd 29 24, shd 23 23, shd 22 21, shd 20 15, shd 9 0] 0x001F8000
    , ent 0x040 4 0x048 [shd 31 20, shd 19 12, shd 8 0] 0x0C060000, ent 0x040 4 0x04C [shd 5 0], ent 0x040 4 0x050 [ro 31 0]
    , ent 0x040 4 0x054 [ro 31 31, ro 15 0], regs 0 0x090 4 4 [rc 31 0] ] ++ engRegs
  | .hrace => hraceRegs ++ [ regs 0 0x060 3 4 [rc 31 0] ]
  | .trace => traceRegs ++ [ reg 0x060 [rc 31 0] ]
  | .blnk =>
    [ reg 0x040 ((List.range 16).map (fun l => qua (2 * l + 1) (2 * l))), regs 0 0x080 16 4 [ro 31 30, ro 29 27, ro 23 16, ro 15 8]
    , regs 0 0x0C0 16 4 [rc 31 16, ro 11 0], reg 0x100 [rw 3 0], ent 0x100 4 0x104 [ro 31 31, ro 30 28, ro 23 16, ro 15 0]
    , ent 0x100 4 0x108 [ro 31 0], ent 0x100 4 0x10C [ro 31 0], ent 0x100 4 0x110 [ro 31 0]
    , reg 0x140 [rwf 31 31, rwf 26 24, rwf 23 20, rwf 19 16, rwf 7 0] ]
  | .lane =>
    [ reg 0x040 [qua 31 31, qua 15 15, qua 14 14, qua 11 10, qua 9 9, qua 8 8, qua 2 0] 0x80000004
    , reg 0x044 [ro 31 28, ro 27 27, ro 26 26, ro 25 25, ro 24 24, ro 23 23, ro 22 20, ro 19 17, ro 15 8, ro 3 0]
    , reg 0x048 [wo 0 0], reg 0x04C [rw 29 24, rw 21 16, rw 13 8, rw 5 0] 0x00063306
    , reg 0x050 [wo 31 31, wo 30 30, ro 26 20, ro 19 16, ro 10 0], reg 0x054 [rc 31 16, rc 15 0], reg 0x058 [ro 31 28, ro 23 0]
    , reg 0x05C [rc 31 0], reg 0x060 [rc 31 0], reg 0x064 [qua 31 31, qua 30 30, qua 29 28, qua 27 26, qua 25 23] 0x20000000
    , reg 0x068 [ro 31 31], reg 0x06C [rc 31 0], reg 0x070 [ro 31 0]
    , reg 0x074 [wo 31 31, wo 30 30, rw 29 28, rw 23 20, rw 15 0] 0x00400000
    , reg 0x078 [ro 31 31, ro 30 30, ro 29 24, ro 21 16, ro 14 8, ro 6 0], reg 0x07C [ro 1 1, qua 0 0]
    , reg 0x100 [ro 31 0], reg 0x104 [ro 31 0], reg 0x108 [ro 31 0], reg 0x10C [ro 31 31, ro 30 30, ro 27 16, rc 15 0]
    , reg 0x200 [ro 31 31], regs 0 0x204 3 4 [rc 31 0], reg 0x210 [qua 31 0], reg 0x214 [qua 15 0], reg 0x218 [qua 31 0]
    , reg 0x21C [qua 15 0], reg 0x220 [qua 31 31, qua 30 28, qua 27 22, qua 11 0] ]
  | .clu =>
    [ reg 0x040 [cfg 2 2, cfg 1 1, cfg 0 0] 3, reg 0x044 [rw 23 0], regs 0 0x048 2 4 [rw 31 0], reg 0x050 [rw 29 16, rw 14 0]
    , reg 0x054 [rw 13 0], reg 0x058 [wo 8 8, wo 7 0], reg 0x05C [ro 15 8, ro 2 1, ro 0 0], reg 0x060 [rw 7 0]
    , reg 0x064 [rw 31 31, ro 30 30, ro 29 16, ro 3 0], reg 0x068 [ro 30 16, ro 13 0]
    , reg 0x080 [qua 31 31, qua 23 16, qua 2 0] 0x00100000, regs 0 0x084 8 4 [ro 25 16, ro 9 0], reg 0x0A4 [wo 8 8, rw 4 0] 6
    , reg 0x0A8 [rw 15 0], regs 0 0x0C0 8 4 [ro 31 16, ro 15 0], regs 0 0x400 128 4 [ro 31 0] ]
  | .cmem => [ reg 0x040 [wo 0 0] ] ++ memCtlRegs

/-- The registers of the common header (R42). Only the first page of an instance has those from 0x008. -/
def headerRegs (p : Page) : List RegDesc :=
  [ reg 0x008 [rw 3 3, wo 2 2, wo 1 1, wo 0 0], reg 0x00C [ro 31 0], reg 0x010 [w1c 31 0], reg 0x014 [rw 31 0], reg 0x018 [ro 31 0]
  , reg 0x01C [rwf 8 8, rwf 4 0]
  , reg 0x020 [rw 31 20, rw 3 3, rw 2 0] (p.blk.powerReset.2 * 0x100000 + p.blk.powerReset.1)
  , reg 0x024 [ro 31 0], reg 0x028 [rw 31 0], reg 0x02C [w1c 31 0] ]

/-- A register of a page that stands at an offset. -/
def RegDesc.at (r : RegDesc) (seq off : Nat) : Bool :=
  decide (r.seq = seq) && decide (r.off ≤ off) && decide ((off - r.off) % r.stride = 0) && decide ((off - r.off) / r.stride < r.cnt)

/-- The registers of a page. -/
def Page.regs (p : Page) : List RegDesc :=
  (if p.seq = 0 then headerRegs p else [])
  ++ (if p.blk = .weir ∧ p.quad = 4 then weirRegs ++ dweirRegs else blockRegs p.blk p.inst)

/-- The register at an offset of a page; none at a reserved offset (R13). A live copy (R49) stands 0x800 above its
shadow and is all RO. -/
def Page.reg (p : Page) (off : Nat) : Option RegDesc :=
  match p.regs.find? (fun r => r.at p.seq off) with
  | some r => some r
  | none =>
    if 0x840 ≤ off then
      (p.regs.find? (fun r => r.at p.seq (off - 0x800) && r.fields.any (fun f => decide (f.ty = .sh)))).map
        (fun r => { r with off := r.off + 0x800, fields := r.fields.map (fun f => { f with ty := .ro }) })
    else none

/-- The key of entry i of the register at BAR0 address a. -/
def entKey (a i : Nat) : Nat := (i + 1) * barSize + a

/-- The entry of SHP_COEF_DATA for a carrier's coefficient or mask limit. -/
def coefEntry (limit : Bool) (carrier i : Nat) : Nat := if limit then 8192 + 64 * carrier + i % 64 else 256 * carrier + i

/-- What a register key reads as before anything has written it: the Reset column (R15). A shaping coefficient resets
to 0 and a mask limit to all ones. -/
def resetWord (k : Nat) : W32 :=
  match pageOf (k % barSize) with
  | none => 0
  | some p =>
    match p.reg (k % 0x1000) with
    | none => 0
    | some r =>
      if p.blk = .shp ∧ k % 0x800 = 0x054 ∧ 8193 ≤ k / barSize then 0xFFFFFFFF else BitVec.ofNat 32 r.reset

end Sys2Proof.Machine
end

