-- ==== Sys2Proof/Machine/State.lean ====
section
/-! DEFINITION. The state of the block, plain data. Registers have one home: `State.regs`, keyed by BAR0 byte address (an
indexed register's entry i of address a by (i + 1) 2^26 + a), an unlisted key reading as its Reset column. What no
register holds stands in the other fields. -/

namespace Sys2Proof.Machine

open Sys2Proof

/-- Why a step may stop. No command of the spec leaves this block without an effect, so none is raised; the type is part of
the host's interface. -/
inductive Fault where
  /-- Raised by no meaning: every error of the block is state (ERR_STAT, a Weir word, an interrupt). Safe. -/
  | none
deriving DecidableEq, Repr

/-- Why a command may be refused. -/
inductive Refusal where
  /-- A command whose meaning is not written yet; raised by `exec`'s arms only. Safe: nothing is claimed of it. -/
  | notModelled (mnemonic : String)
deriving DecidableEq, Repr

/-- A 64b/66b block as a lane sends it (R194, R220): its sync header, its payload, and the payload's bits on the line, after the
scrambler. -/
structure LineBlock where
  lane : Nat
  hdr : W2
  pay : W64
  line : W64
deriving DecidableEq, Repr

/-- What a transmitter under test sends (R213, R215): nothing the spec names, a pattern from a seed with its bits paired into symbols or not,
or the bits it received. -/
inductive TestSource where
  | quiet
  | pattern (pat : Nat) (seed : Nat) (pam4 : Bool)
  | received
deriving DecidableEq, Repr

/-- What the device sends out, in the order it sends it. -/
inductive Output where
  /-- A posted write on the one ordered path of R403. -/
  | hostWrite (fn : Nat) (addr : Nat) (data : Bytes) (poison : Bool)
  /-- An MSI-X message (R405, R407). -/
  | msix (fn : Nat) (vec : Nat)
  /-- The answer to a configuration request: successful completion, or Configuration Request Retry Status (R400). -/
  | cfgAnswer (fn : Nat) (retry : Bool)
  /-- The answer to a memory request: the data of a read, or Unsupported Request (R400). -/
  | memAnswer (fn : Nat) (ur : Bool) (data : W32)
  /-- The transmitter of a lane: off, in electrical idle, or sending (R205, R74). -/
  | laneTx (l : Nat) (on : Bool)
  /-- Characters of 8b/10b on a lane at rate 0: whether each is a control character, and its byte (R222). -/
  | chars (l : Nat) (x : List (Bool × W8))
  /-- Blocks of 64b/66b, in the order they leave (R194, R220, R221). -/
  | blocks (x : List LineBlock)
  /-- What the transmitter of a lane under test sends from here on (R213, R215). -/
  | testStream (l : Nat) (x : TestSource)
  /-- An Ethernet frame of a port, as the sections of its header and its payload (R234). -/
  | ethFrame (link : Nat) (bytes : Bytes)
  /-- A PMBus transaction started on a host: address, command, read, data bytes (R390). -/
  | pmbus (host : Nat) (addr : Nat) (cmd : Nat) (read : Bool) (pec : Bool) (block : Bool) (len : Nat) (data : Bytes)
  /-- PPS_OUT changes (R330). -/
  | pps (level : Bool)
  /-- THERMTRIP_L is driven low, or released (R457). -/
  | thermtrip (low : Bool)
  /-- What the TAP makes of the balls (R462): the instruction, and the boundary register's values at the balls it drives. -/
  | balls (inst : W8) (x : BitVec 223)
  /-- A frame of the Fyil port (R463). -/
  | fyil (x : BitVec 256)
deriving DecidableEq, Repr

/-- What only the loss of VDD_WELL clears: RAW and EPOCH (R308), FACTORY_SEEN (R60). -/
structure Kept where
  raw : W64 := 0
  epoch : W16 := 0
  factorySeen : Bool := false
deriving DecidableEq, Repr

/-- Presented time (R309 to R313). -/
structure TimeSt where
  baseRaw : W64 := 0
  basePt : W64 := 0
  ptEpoch : W16 := 0
  /-- RATE, a signed fraction in units of 2^-48. -/
  rate : BitVec 48 := 0
  /-- What a running slew had still to apply when F last changed, in units of 2^-10 ns (R312). -/
  slewRem : Int := 0
  slewOn : Bool := false
  /-- PPS_OUT is high (R330). -/
  ppsOut : Bool := false
  /-- EPOCH and RAW when the EEC last entered LOCKED and when the primary last qualified, and the frequency of the primary and of the
  secondary input (R317). -/
  lockAt : BitVec 80 := 0
  qualAt : BitVec 80 := 0
  freqPri : W32 := 0
  freqSec : W32 := 0
  /-- A STEP written and not yet made: presented time and PT_EPOCH of the next CLK_TIME cycle (R313). -/
  stepPend : Option (W64 × W16) := none
deriving DecidableEq, Repr

/-- The entry into a power state in progress (R364, R365). -/
inductive EntryPhase where
  | none | deferring | accepted
deriving DecidableEq, Repr

/-- A power slot (R54, R361). -/
structure PowerSlot where
  /-- 0 ACTIVE, 1 IDLE, 2 NAP, 3 DOZE, 4 OFF. -/
  st : Nat := 0
  entry : EntryPhase := .none
  /-- A wake is in progress (WAKE_PENDING). -/
  waking : Bool := false
  /-- A wake that arrived after the isolation step and follows the entry (R368). -/
  latched : Bool := false
  entries : W16 := 0
  lastRefuse : Nat := 0
  /-- The state the accepted entry goes to. -/
  goal : Nat := 0
deriving DecidableEq, Repr

/-- Why a voltage is requested: a level change (R378), a domain's wake (R375), its entry into DOZE or the return to its
previous setting after a wake that failed (R373, R375), BOOT (R438). -/
inductive VoltWhy where
  | change | wake | hold | boot
deriving DecidableEq, Repr

/-- The next transaction of a voltage request; poll: the readings have begun (R377). -/
inductive VoltStep where
  | page | command | poll
deriving DecidableEq, Repr

/-- A voltage request on a quadrant rail (R377). -/
structure VoltReq where
  mv : Nat
  why : VoltWhy
  next : VoltStep
deriving DecidableEq, Repr

/-- An item of a PMBus host (R391). -/
inductive PmbJob where
  /-- The next transaction of the voltage request of rail q. -/
  | rail (q : Nat)
  /-- OPERATION of rail q, 4: VDD_CORE_DEV. -/
  | railOp (q : Nat) (on : Bool)
  | hscOff | hscVin | hscIin
  | host
  /-- A transaction whose voltage request has ended. -/
  | stale
deriving DecidableEq, Repr

/-- A PMBus host: the waiting items, and the item whose transaction is in progress (R391). -/
structure PmbSt where
  queue : List PmbJob := []
  cur : Option PmbJob := none
deriving DecidableEq, Repr

/-- A quadrant's domain, its PLLs and its rail (R360, R373 to R378). -/
structure QuadSt where
  /-- 0 on, 3 DOZE, 4 OFF. -/
  dom : Nat := 4
  waking : Bool := false
  pllA : Bool := false
  pllB : Bool := false
  /-- The PLL that drives the quadrant's clocks: false A, true B. -/
  onB : Bool := false
  /-- A PLL of the quadrant is locking for a level change. -/
  locking : Bool := false
  /-- The level a running change goes to. -/
  changeTo : Option Nat := none
  /-- A TARGET written during the change (R378). -/
  pendTarget : Option Nat := none
  vreq : Option VoltReq := none
  /-- A wake aimed at blocks of the quadrant, to be served when the domain is on. -/
  wakeSlots : List Nat := []
  /-- The last wake of the domain failed (R375). -/
  failed : Bool := false
  /-- The fence in progress is for sag (R347), and for one that was injected (R358). -/
  fenceSag : Bool := false
  fenceInj : Bool := false
deriving DecidableEq, Repr

/-- A wide reset in progress (R442, R444); power: PWR_GOOD is low, and every block stands still (R438). -/
inductive WideReset where
  | system | device | power
deriving DecidableEq, Repr

/-- Where a task is (R138). -/
inductive Place where
  | parked
  | hopper (d : Nat)
  | engQ (q e : Nat)
  | tile (d t : Nat)
  | engine (q u : Nat)
  /-- Its finish was reported and waits for its status (R147). -/
  | reported
  /-- It has ended and its record waits to be written (R159). -/
  | ended
deriving DecidableEq, Repr

/-- An entry of the task table (R132 to R152). -/
structure Task where
  ring : Nat
  /-- Its count, whose low 16 bits are the ring's: the higher ones tell it from an older task of the ring that still waits. -/
  seq : Nat
  desc : W512
  place : Place := .parked
  cancel : Bool := false
  stop : Bool := false
  expired : Bool := false
  departed : Bool := false
  ready : Bool := false
  /-- The partner entry's departure count at fetch (R149). -/
  dep : Nat := 0
  /-- Fetched while its group was STOPPING, FLUSHING or HALTED (R66). -/
  haltFetch : Bool := false
  /-- Order of its entry into its Hopper or engine queue, and the cluster's CLK_VANE time then (R144, R161). -/
  stamp : Nat := 0
  enterCyc : Nat := 0
  /-- Set while in service: a CONTAINED fault or a poisoned job; an abandonment; a fence (R152). -/
  poisoned : Bool := false
  abandoned : Bool := false
  lost : Bool := false
  partnerLost : Bool := false
  status : Nat := 0
  finish : W64 := 0
  loc : W16 := 0
deriving DecidableEq, Repr

/-- An entry of a cluster's kernel table (R110, R111). -/
structure Kernel where
  valid : Bool := false
  entry : Nat := 0
  base : Nat := 0
  len : Nat := 0
deriving DecidableEq, Repr

/-- A kernel load in progress (R110). -/
structure KernelLoad where
  kid : Nat
  src : Nat
  dst : Nat
  len : Nat
  entry : Nat
deriving DecidableEq, Repr

/-- The central Sluice, the Sluice ports and the completion engines. -/
structure SluiceSt where
  /-- The task table in fetch order (R134). -/
  tasks : List Task := []
  /-- The 256 event counts (R140). -/
  evt : Tab W16 := []
  /-- The departure count of each partner entry (R149). -/
  dep : Tab W8 := []
  /-- Kernel id k of cluster d at 256 d + k. -/
  kern : Tab Kernel := []
  kload : Tab (Option KernelLoad) := []
  /-- A tile barred for a kernel (R99): 2048 d + 256 t + k. -/
  barred : Tab Bool := []
  /-- Completion queues in the order in which each came to hold a ready record (R159). -/
  readyQ : List Nat := []
  /-- Records of a queue not yet reported by its vector (R160). -/
  unreported : Tab Nat := []
  /-- A counter that orders Hopper entries and idle tiles. -/
  stamp : Nat := 1
  /-- Order in which tiles became idle: 8 d + t. -/
  idle : Tab Nat := []
  /-- CLK_VANE_d of each cluster, in thousandths of a cycle since the reset (R144, R161). -/
  vane : Tab Nat := []
  /-- The ring being served and the descriptors its turn has taken (R134). Before the first turn: ring 255, its turn over. -/
  turn : Nat := 255
  took : Nat := 4
  /-- Busy time of a tile in the load window under way, in thousandths of a CLK_VANE cycle (R161): 8 d + t. -/
  busy : Tab Nat := []
  /-- A cancel in progress (R156): its RESULT, and COUNT for a flow cancel. -/
  cancelJob : Option (Nat × Option Nat) := none
  /-- The cluster's CLK_VANE time from which the task in service counts in the window. -/
  busyFrom : Tab Nat := []
deriving DecidableEq, Repr

/-- A lane of an accumulator (R77, R84). -/
structure AccLane where
  re : W40 := 0
  im : W40 := 0
  frozen : Bool := false
deriving DecidableEq, Repr

/-- An active block repeat (R91). -/
structure Loop where
  lc : W32
  ls : Nat
  le : Nat
deriving DecidableEq, Repr

/-- The registers a task sees (R77, R114). -/
structure TileRegs where
  s : Tab W32 := []
  v : Tab W512 := []
  /-- Lane i of Aa at 16 a + i. -/
  a : Tab AccLane := []
  p : Tab W32 := []
  b : Tab W32 := []
  l : Tab W32 := []
  /-- Active repeats, innermost first. -/
  loops : List Loop := []
  /-- Return addresses, newest first. -/
  ret : List Nat := []
  pc : Nat := 0
  /-- MODE.RND as MOVC reads it, as it acts in the next bundle, and as it acts in this one (R81). -/
  rndReg : Bool := false
  rndNext : Bool := false
  rnd : Bool := false
  /-- Lane i of Aa at 16 a + i: ACC_SAT_0 to ACC_SAT_3. -/
  accSat : BitVec 128 := 0
  extSat : W16 := 0
  /-- The bits of ACC_SAT and EXT_SAT that the bundle in issue has set: a MOVC of the same bundle does not clear them (R10). -/
  accNew : BitVec 128 := 0
  extNew : W16 := 0
  /-- Mantissa (i, j) of Mm at 64 m + 8 i + j, real part in [15:0]. -/
  m : Tab W32 := []
  mExp : Tab W5 := []
  /-- [0] SAT, [1] NOTPD, [2] SINGULAR. -/
  mFlags : Tab W3 := []
deriving DecidableEq, Repr

/-- A register an instruction of a bundle writes (R80). -/
inductive RegId where
  | s (n : Nat) | v (n : Nat) | a (n : Nat) | p (n : Nat) | b (n : Nat) | l (n : Nat) | m (n : Nat) | ctrl (n : Nat)
deriving DecidableEq, Repr

/-- An operation in the coprocessor's queue (R113, R118). -/
structure CopOp where
  tag : Nat
  kind : CopKind
  /-- The order n, 1 to 8. -/
  n : Nat
  md : Nat
  /-- Mr of MQR. -/
  mr : Nat
  ma : Nat
  mb : Nat
deriving DecidableEq, Repr

/-- An entry of the tile DMA queue (R100). -/
structure DmaEntry where
  out : Bool
  near : Nat
  bn : Nat
  ln : Nat
  far : Nat
  len : Nat
  tag : Nat
  /-- It was queued before the fence of its quadrant began: its requests were accepted (R24). -/
  old : Bool := false
deriving DecidableEq, Repr

/-- A landing window (R102). -/
structure Window where
  armed : Bool := false
  base : Nat := 0
  len : Nat := 0
  key : Nat := 0
  /-- It has taken its frame since it was armed (R237). -/
  full : Bool := false
  /-- How often it has been armed. -/
  gen : Nat := 0
deriving DecidableEq, Repr

/-- How far the task of a tile has come. -/
inductive TilePhase where
  /-- No task. -/
  | idle
  | running
  /-- END has issued: the tile waits for its DMA entries (R96). -/
  | ending
  /-- A CONTAINED fault stopped it: the tile drains its DMA writes (R104). -/
  | faulted
deriving DecidableEq, Repr

/-- A tile (R77, R100, R102, R114). -/
structure Tile where
  phase : TilePhase := .idle
  ring : Nat := 0
  seq : Nat := 0
  cg : Nat := 0
  kid : Nat := 0
  kbase : Nat := 0
  klen : Nat := 0
  limitKc : Nat := 0
  /-- The cluster's CLK_VANE time at dispatch (CYC). -/
  startCyc : Nat := 0
  regs : TileRegs := {}
  /-- The registers and the coprocessor queue as they stood when the bundle in issue read its operands, once its
  slot X has issued (R80, R104). -/
  snap : Option (TileRegs × List CopOp) := none
  /-- What slot X of the bundle in issue writes. -/
  xDst : List RegId := []
  /-- The bundle in issue stalls on its slot X, or on its slot Y. -/
  stallX : Bool := false
  stallY : Bool := false
  dma : List DmaEntry := []
  /-- Tags of which an entry failed and no DMAWAIT has covered (R101). -/
  dmaErr : W8 := 0
  win : Tab Window := []
  winRefused : W4 := 0
  /-- Windows armed so far. -/
  armings : Nat := 0
  copQ : List CopOp := []
  copUnit : Option CopOp := none
  /-- The unit is stopping: its write-back is cancelled (R127). -/
  copStop : Bool := false
  copTag : Nat := 0
deriving DecidableEq, Repr

/-- A line of a merge buffer (R171). -/
structure MergeLine where
  /-- The internal address of its first byte. -/
  addr : Nat
  mask : W64
  data : W512
  poison : W64
deriving DecidableEq, Repr

/-- A retired HBM row (R185); in a copy that is in progress, poison marks the units not written whole since it began. -/
structure Remap where
  valid : Bool := false
  pch : Nat := 0
  bank : Nat := 0
  row : Nat := 0
  poison : W16 := 0
deriving DecidableEq, Repr

/-- A scrub or fill in progress (R178 to R181). -/
structure Scrub where
  busy : Bool := false
  fill : Bool := false
  abort : Bool := false
  next : Nat := 0
  left : Nat := 0
deriving DecidableEq, Repr

/-- The memories (ch. 07). -/
structure MemSt where
  /-- On-chip bytes by internal address; an unlisted byte is 0. Cistern and cluster memory stand at their device
  address, tile data memory at 2^64 + (8 d + t) 2^18, tile program memory at 2^65 + (8 d + t) 2^17. -/
  cells : List Host.Cell := []
  /-- Words whose valid bit is set (R167), by internal address of the word. -/
  valid : Tab Bool := []
  /-- The syndrome a read of a stored word computes (R166): 0 clean, 0xFF poisoned. -/
  ecc : Tab W8 := []
  /-- Data bits in which a stored word's cells differ from what was written. -/
  flip : Tab W64 := []
  /-- Words whose correction waits to be written back (R169). -/
  wb : List Nat := []
  /-- Merge buffers by memory unit, oldest line first: Cistern bank 12 q + b, cluster memory 64 + d, tile 128 + 8 d + t. -/
  merge : Tab (List MergeLine) := []
  /-- HBM bytes written since the last time its contents became undefined. -/
  hbm : Tab (Option W8) := []
  /-- Which undefined contents HBM holds (R181, R443). -/
  hbmGen : Nat := 0
  /-- HBM words written poisoned (R415). -/
  hbmPoison : Tab Bool := []
  /-- Entry i of stack n at 256 n + i. -/
  remap : Tab Remap := []
  /-- The row copy in progress on a stack (R185). -/
  remapJob : Tab (Option Remap) := []
  scrub : Tab Scrub := []
deriving DecidableEq, Repr

/-- PCIe configuration state the spec's rules use (R399, R403, R406). Functions in the OWNER encoding. -/
structure PcieSt where
  bme : Tab Bool := []
  msixEn : Tab Bool := []
  /-- Vectors unmasked, at 4096 fn + vector. -/
  unmasked : Tab Bool := []
  /-- Pending bits, at 4096 fn + vector. -/
  pend : Tab Bool := []
  vfEnable : Bool := false
  numVfs : Nat := 0
  ari : Bool := false
  /-- Max_Payload_Size of Device Control: 0 128, 1 256, 2 512 bytes. -/
  mps : Nat := 0
  /-- PERST_L is low (R445). -/
  perstLow : Bool := false
deriving DecidableEq, Repr

/-- A descriptor a Pump channel has started (R413). -/
structure PumpDesc where
  count : Nat
  desc : BitVec 256
  /-- 0, or the RESULT it ends with because its fetch failed (2) or it is invalid (4). -/
  bad : Nat := 0
deriving DecidableEq, Repr


/-- An eye sweep (R216): the direction, 0 left, 1 right, 2 up, 3 down, and the step of the point in its dwell. -/
structure EyeSweep where
  dir : Nat := 0
  step : Nat := 1
  abort : Bool := false
deriving DecidableEq, Repr

/-- What a lane holds beside its registers (ch. 08, R222 to R228). -/
structure LaneSt where
  /-- SERIAL of the last valid HELLO, whether one has come, and how many consecutive ones carried it (up to 3). -/
  known : Bool := false
  run : Nat := 0
  /-- HELLOs sent and received with PEER_SEEN = 1, up to 3 (R202). -/
  sent : Nat := 0
  got : Nat := 0
  /-- Consecutive TRAIN blocks with RX_OK = 1 (R203). -/
  train : Nat := 0
  /-- RAW at the entry into STEP (R203). -/
  stepRaw : W64 := 0
  /-- The transmitter is squelched after a failed attempt (R205). -/
  squelch : Bool := false
  /-- Comma periods of an injected LANE_DROP still to run (R242). -/
  inj : Nat := 0
  /-- The serial number of the partner the lane holds (R223, R224). -/
  partner : Option W64 := none
  /-- RAW at which the timer of R224 started. -/
  timer : Option W64 := none
  /-- Blocks that commands have sent since the last comma (R194). -/
  blocks : Nat := 0
  /-- Blocks by which the lane's commas trail those of its group (R220). -/
  skew : Nat := 0
  /-- Out of its group until retrained (R219). -/
  excluded : Bool := false
  /-- The taps in force: PRE2, PRE1, MAIN, POST. -/
  eq : W32 := 0
  /-- Bits compared by the PRBS checker since LANE_PRBS_ERR was read (R214). -/
  prbsBits : Nat := 0
  eye : Option EyeSweep := none
deriving DecidableEq, Repr

/-- A frame in a link's replay store (R230). -/
structure TxFrame where
  seq : W16
  stream : Nat
  payload : Bytes
  /-- It has been on the line. -/
  sent : Bool
deriving DecidableEq, Repr

/-- A frame whose header has been looked up and whose payload is landing (R237): its link position, the map entry of the
header cycle, and the tile and window it lands in; no window: the ring. -/
structure Landing where
  seq : W16
  stream : Nat
  mapA : W32
  mapB : W32
  mapC : W32
  /-- 32 t + w for window w of tile t. -/
  win : Option Nat
  torn : Bool := false
  /-- A map entry was found (R235). -/
  found : Bool := true
  /-- The arming of the window that it lands in, and RAW at the lookup. -/
  gen : Nat := 0
  raw : W64 := 0
deriving DecidableEq, Repr

/-- What a link holds beside its registers (R219, R227 to R231). -/
structure LinkSt where
  /-- The receive-good mask; the transmit mask in force. -/
  rx : W8 := 0
  tx : W8 := 0
  /-- A change of the own mask has been announced: the comma of the partner's stream at which it acts. -/
  rxAt : Option W8 := none
  /-- The received mask that waits, and the own comma at which it acts. -/
  txAt : Option (W8 × W8) := none
  /-- Own and partner's comma numbers. -/
  comma : W8 := 0
  peerComma : W8 := 0
  /-- The receiver discards the group stream until the apply point (R228). -/
  discard : Bool := false
  /-- Lanes that have been members since the partner arrived. -/
  was : W8 := 0
  txSeq : W16 := 0
  rxSeq : W16 := 0
  store : List TxFrame := []
  /-- Sequence numbers received and not yet accepted (R238 REPLAYED). -/
  seen : List W16 := []
  /-- Blocks of the group stream since the last comma (R220). -/
  striped : Nat := 0
  /-- A NAK waits for the end of a mask change (R227). -/
  nakDue : Bool := false
  /-- The number last NAKed and RAW then (R229). -/
  nak : Option (W16 × W64) := none
  landing : Option Landing := none
  /-- The first of two frames to be swapped (R242). -/
  held : Option TxFrame := none
deriving DecidableEq, Repr

/-- A send request of Fantail (R241, R326). -/
structure SendReq where
  entry : Nat
  n : Nat
  /-- The span it belongs to, numbered within its queue: the entries of one send in ascending order (R325). -/
  span : Nat
deriving DecidableEq, Repr

/-- A frame that will take a transmit timestamp (R328). -/
structure TsReq where
  /-- 0 Tailrace, 1 host. -/
  src : Nat
  link : Nat
  entry : Nat
  seq : W16
deriving DecidableEq, Repr

/-- The read of a LEN word in progress (R325). -/
structure LenRead where
  first : Nat
  span : Nat
  owner : Nat
  addr : W64
deriving DecidableEq, Repr

/-- A host frame being sent (R321). -/
structure PtpTx where
  link : Nat
  bytes : Bytes
  err : Bool
  id : Option W16 := none
deriving DecidableEq, Repr

/-- An image entry of a manifest (R421): LOAD, else MEASURE. -/
structure ImageEntry where
  load : Bool
  len : Nat
  srcOff : Nat
  dest : Nat
  hash : BitVec 384
deriving DecidableEq, Repr

/-- What an accepted manifest holds (R421). -/
structure Manifest where
  factory : Bool
  ownerKey : Bool
  svn : W32
  keySlot : Nat
  /-- The digest D. -/
  digest : BitVec 384
  /-- PLATFORM: words 0 to 5, and the required HEIGHT of word 6. -/
  vreg : List W32
  vregTime : W32
  height : Nat
  images : List ImageEntry
deriving DecidableEq, Repr

/-- A commit in progress (R435): its class, the bank it writes (true: B), the new SEQ and payload, and whether an attestation report
waits for it. -/
structure Commit where
  cls : Nat
  bankB : Bool
  seq : W32
  payload : Bytes
  /-- DRAIN step 5 started it. -/
  drain : Bool := false
deriving DecidableEq, Repr

/-- A BOOT in progress (R423 to R426). -/
structure BootSt where
  src : Nat
  /-- It began in DORMANT (R441). -/
  fromDormant : Bool := false
  slotB : Bool := false
  /-- The manifest is being read from host memory. -/
  push : Bool := false
  manifest : Option Manifest := none
  /-- Stacks that have finished step 4. -/
  trained : List Nat := []
  /-- PF0 answers configuration requests: the push window has opened (R400). -/
  opened : Bool := false
deriving DecidableEq, Repr

/-- An attestation command in progress (R429 to R432): a report of an HSS index, or the identity block; what it writes and where. -/
structure AttJob where
  report : Bool
  index : Nat := 0
  /-- The index has been reserved by a commit that has ended, or needed none. -/
  reserved : Bool := true
  head : Bytes := []
  dst : Nat
deriving DecidableEq, Repr

/-- A fuse burn in progress (R420). -/
structure Burn where
  op : Nat
  arg : Nat
  hash : BitVec 384
deriving DecidableEq, Repr

/-- A job an engine unit holds (R244, R246): its task, the descriptor's words 0 to 11, the live context as it stood at acceptance,
how far it has come, and what it will report. -/
structure EngJob where
  ring : Nat
  seq : Nat
  cg : Nat
  /-- The quadrant of its engine. -/
  quad : Nat
  argp : Nat
  op : Nat
  words : BitVec 384
  ctx : List W32
  /-- Shaping: the carrier's coefficients, and its mask limits. -/
  coef : List W32 := []
  limit : List W32 := []
  /-- The soft buffers of a coding job: first address and length (R286). -/
  soft : Nat × Nat := (0, 0)
  cause : Nat := 0
  ran : Bool := false
  /-- Its task had been abandoned when its work was done (R247). -/
  abandoned : Bool := false
  /-- Result words 12 to 15, CAUSE and DONE apart. -/
  res : List Nat := []
deriving DecidableEq, Repr

/-- What a GSM context of the detector holds (R301, R303): its sample position, the antennas of its history and the last 80
samples of each, newest first, and the open detection's p and q. -/
structure GsmSt where
  pos : W32 := 0
  nant : Nat := 0
  hist : List (List W32) := []
  det : Option (W32 × Int) := none
deriving DecidableEq, Repr

/-- What the converter is busy with (R385): a scan's channel, an injected channel, a calibration. -/
inductive BmonWork where
  | scan (ch : Nat)
  | inj (ch : Nat)
  | cal
deriving DecidableEq, Repr

/-- The converter (R383 to R389). -/
structure BmonSt where
  powered : Bool := false
  starting : Bool := false
  /-- The channels a running scan has still to begin. -/
  scan : Option (List Nat) := none
  /-- The injected channel pending or running. -/
  inj : Option Nat := none
  /-- A calibration is pending or running. -/
  cal : Bool := false
  cur : Option BmonWork := none
  /-- The result queue, oldest first. -/
  queue : List W32 := []
  /-- A trigger was ignored or a result dropped since the last entry. -/
  ovr : Bool := false
  /-- Results of comparator k out in a row, and its event raised since the last one in. -/
  outs : Tab (Nat × Bool) := []
deriving DecidableEq, Repr

/-- The TAP (R462): the instruction, the boundary register's held values, and what the last scan shifted out. -/
structure TapSt where
  inst : W8 := 0x01
  held : BitVec 223 := 0
  shifted : BitVec 223 := 0
deriving DecidableEq, Repr

/-- The block. -/
structure State where
  /-- The commands waiting, first in first out. -/
  pending : List Instr := []
  kept : Kept := {}
  time : TimeSt := {}
  /-- Every register that is storage, by key; an unlisted key reads as its Reset column. -/
  regs : Tab W32 := []
  /-- The latched _HI half of a 64-bit pair, by its address (R311, R341). -/
  latch : Tab (Option W32) := []
  /-- What the last register or doorbell read returned. -/
  readData : W32 := 0
  /-- Everything the device has sent, oldest first. -/
  out : List Output := []
  /-- The model's own: how many free values have been drawn. -/
  free : Nat := 0
  power : Tab PowerSlot := []
  quad : Tab QuadSt := []
  /-- Pages whose soft reset is in progress (RESETTING), by page address. -/
  resetting : Tab Bool := []
  /-- A BOOT holds an EJECT_L assertion (R62). -/
  ejectHeld : Bool := false
  wide : Option WideReset := none
  /-- Dispatch of a halting group's tasks has stopped (R66). -/
  cgStop : Tab Bool := []
  /-- A FUNCTION fault waits for a group to leave STARTING (R70). -/
  cgFault : Tab Bool := []
  /-- A rail's warning has been raised and is not rearmed (R347). -/
  sagWarned : Tab Bool := []
  sluice : SluiceSt := {}
  /-- Tile t of cluster d at 8 d + t. -/
  tiles : Tab Tile := []
  mem : MemSt := {}
  pcie : PcieSt := {}
  /-- The descriptors a Pump channel has started, oldest first. -/
  pump : Tab (List PumpDesc) := []
  /-- Bytes moved that PUMP_BYTES_IN (0) and PUMP_BYTES_OUT (1) do not show yet, less than a KiB. -/
  pumpBytes : Tab Nat := []
  /-- The frames of the Fyil port waiting, oldest first (R463). -/
  fyil : List (BitVec 256) := []
  /-- What the last MEMORY_READ or MEMORY_WRITE was answered with: data, poison marker, error response. -/
  memData : W64 := 0
  memPoison : Bool := false
  memErr : Bool := false
  /-- Device lane l at l; link l of quadrant q at 16 q + l. -/
  lanes : Tab LaneSt := []
  links : Tab LinkSt := []
  /-- Send requests of quadrant q that wait, oldest first; the read position of entry e's ring and its SEQ_ID byte at
  1024 q + e; the last SEQ_ID byte accepted of a stream at 1024 q + stream (R234, R241). -/
  sends : Tab (List SendReq) := []
  traceAt : Tab Nat := []
  ethSeq : Tab W8 := []
  ethLast : Tab (Option W8) := []
  /-- The write position of a stream's ring at 1024 q + stream (R236). -/
  hraceAt : Tab Nat := []
  /-- Events of delivered frames whose writes are acknowledged (R239), by link. -/
  events : Tab (List Nat) := []
  /-- The committed value of a 64-bit RW pair of ch. 13, by the key of its LO half (R311). -/
  pairs : Tab W64 := []
  /-- Pairs whose _LO half has been written since their last commit (R311). -/
  pairLo : Tab Bool := []
  /-- A slot that is LATE at its next delivery (R323): 128 q + slot. -/
  slotLate : Tab Bool := []
  /-- Transmit timestamps queued, frames that wait for one, LEN words being read, the host frame in hand, by quadrant. -/
  tsq : Tab (List (BitVec 128)) := []
  tsPend : Tab (List TsReq) := []
  lenReads : Tab (List LenRead) := []
  ptpTx : Tab (Option PtpTx) := []
  pmb : Tab PmbSt := []
  /-- Route k of DPWR_WAKE_ROUTE holds a pulse that has not acted (R367). -/
  pulses : Tab Bool := []
  /-- The last 255 input samples of shaping carrier c of quadrant q, newest first, at 256 (32 q + c) + i (R255). -/
  shpHist : Tab W32 := []
  /-- RAW at the trigger of the DRAIN in progress. -/
  drainRaw : W64 := 0
  /-- Bank A of class c at 2 c, bank B at 2 c + 1; the staging buffer by word; the commit in progress. -/
  rsto : Tab Bytes := []
  stage : Tab W32 := []
  commit : Option Commit := none
  /-- Fused hashes: vendor slots 0 to 3, 4 the owner's, 5 the factory token's (R419). -/
  khash : Tab (BitVec 384) := []
  burn : Option Burn := none
  boot : Option BootSt := none
  /-- BOOT is entered from DORMANT and has not begun (R441). -/
  bootDormant : Bool := false
  att : Option AttJob := none
  /-- The job of unit u of quadrant q's engines at 16 q + u. -/
  eng : Tab (Option EngJob) := []
  /-- Detector context c of quadrant q at 16 q + c. -/
  gsm : Tab GsmSt := []
  bmon : BmonSt := {}
  /-- THERMTRIP_L is low (R457). -/
  thermtrip : Bool := false
  tap : TapSt := {}
deriving DecidableEq, Repr

/-- The block right after WELL_POR (R443): every register at its Reset column, no memory word valid, no work, the quadrant
domains switched off and isolated until BOOT step 6 (R438), mode BOOT (R61). -/
def State.reset : State := {}

end Sys2Proof.Machine
end

