-- ==== Sys2Proof/Machine/Ops.lean ====
section
/-! DEFINITION. The named operations every family is written over: registers, outputs, free values, RAW and presented time
(R308, R309), modes and carrier groups (R58, R64, R66), the Weirs' record of an event (R339 to R344), the error bits and
interrupts of a page (R44, R45, R405, R406), dark pages and the access counters (R51, R465). -/

namespace Sys2Proof.Machine

open Sys2Proof

/-! ## Registers -/

/-- What a register key holds. -/
def State.reg (s : State) (k : Nat) : W32 := tabGet resetWord s.regs k

/-- A register key takes a value. -/
def State.setReg (s : State) (k : Nat) (v : W32) : State := { s with regs := tabSet resetWord s.regs k v }

/-- The field [hi:lo] of a register. -/
def State.fld (s : State) (k hi lo : Nat) : Nat := bitsOf (s.reg k) hi lo

/-- The field [hi:lo] of a register takes a value. -/
def State.put (s : State) (k hi lo v : Nat) : State := s.setReg k (putFld (s.reg k) hi lo v)

/-- A counting field grows by n and stops at its largest value. -/
def State.inc (s : State) (k hi lo n : Nat) : State := s.put k hi lo (satAdd (hi + 1 - lo) (s.fld k hi lo) n)

/-- Bits of a register set. -/
def State.orReg (s : State) (k : Nat) (m : W32) : State := s.setReg k (s.reg k ||| m)

/-- A 64-bit quantity whose halves stand at k and k + 4. -/
def State.reg64 (s : State) (k : Nat) : W64 := (s.reg (k + 4)) ++ (s.reg k)

/-- Both halves of a 64-bit quantity. -/
def State.setReg64 (s : State) (k : Nat) (v : W64) : State :=
  (s.setReg k (v.setWidth 32)).setReg (k + 4) ((v >>> 32).setWidth 32)

/-- A row of register bits as one bit number: bit n of the words that stand from k on. -/
def State.rowBit (s : State) (k n : Nat) : Bool := bit (s.reg (k + 4 * (n / 32))) (n % 32)

/-- The same bit takes a value. -/
def State.setRowBit (s : State) (k n : Nat) (b : Bool) : State := s.put (k + 4 * (n / 32)) (n % 32) (n % 32) (b2n b)

/-! ## Outputs and free values -/

/-- The device sends o. -/
def State.emit (s : State) (o : Output) : State := { s with out := s.out ++ [o] }

/-- The next free value. -/
def State.freeVal (s : State) : W64 := Config.freeWord s.free

/-- A free value has been drawn. -/
def State.drawn (s : State) (n : Nat) : State := { s with free := s.free + n }

/-! ## Time -/

/-- Bits [33:10] of RAW, in ns (R45). -/
def State.rawNs24 (s : State) : Nat := bitsOf s.kept.raw 33 10

/-- Bits [41:10] of RAW, in ns (R342). -/
def State.rawNs32 (s : State) : Nat := bitsOf s.kept.raw 41 10

/-- Nanoseconds of RAW between an earlier value and now. -/
def State.nsSince (s : State) (r : W64) : Nat := (s.kept.raw - r).toNat / 1024

/-- EPOCH and RAW as one count, and the nanoseconds of it since a value of it. -/
def State.fullRaw (s : State) : BitVec 80 := s.kept.epoch ++ s.kept.raw
def State.nsSinceFull (s : State) (r : BitVec 80) : Nat := (s.fullRaw - r).toNat / 1024

/-- The slew term s of R312, in units of 2^-48. -/
def State.slewTerm (s : State) : Int :=
  let ppb := min (s.fld (pgFTB + 0x060) 18 0) 500000
  ((2 * (ppb * 2 ^ 48) + 1000000000) / (2 * 1000000000) : Nat)

/-- F of R309. -/
def State.rateNow (s : State) : Int :=
  s.time.rate.toInt + (if s.time.slewOn then (if s.time.slewRem < 0 then - s.slewTerm else s.slewTerm) else 0)

/-- Presented time (R309). -/
def State.pt (s : State) : W64 :=
  let d := (s.kept.raw - s.time.baseRaw).toNat
  s.time.basePt + BitVec.ofNat 64 d + BitVec.ofInt 64 (((d : Int) * s.rateNow) / 2 ^ 48)

/-- The signed difference of two presented times (R314). -/
def timeDiff (a b : W64) : Int := (a - b).toInt

/-- What a running slew has applied since F last changed: PT less what RATE alone gives (R312). -/
def State.slewApplied (s : State) : Int :=
  let d := (s.kept.raw - s.time.baseRaw).toNat
  ((d : Int) * s.rateNow) / 2 ^ 48 - ((d : Int) * s.time.rate.toInt) / 2 ^ 48

/-- FTB_ADJ_REM: what a running slew has still to apply. -/
def State.slewLeft (s : State) : Int := if s.time.slewOn then s.time.slewRem - s.slewApplied else 0

/-- F changes: BASE_RAW and BASE_PT take the present values (R309). -/
def State.rebase (s : State) : State :=
  { s with time := { s.time with baseRaw := s.kept.raw, basePt := s.pt, slewRem := s.slewLeft } }

/-! ## Modes and carrier groups -/

/-- DEV_MODE.MODE: 0 DORMANT, 1 BOOT, 2 CONFIG, 3 SERVICE, 4 DRAIN, 5 FACTORY (R58). -/
def State.mode (s : State) : Nat := s.fld (pgDEV + 0x040) 2 0
def State.inTransition (s : State) : Bool := decide (s.fld (pgDEV + 0x040) 7 7 = 1)
def State.drainStep (s : State) : Nat := s.fld (pgDEV + 0x040) 15 12
/-- CONFIG-scope fields are open (R47, R60). -/
def State.configOpen (s : State) : Bool := decide (s.mode = 2) || decide (s.mode = 5)
/-- Error injection and test access are open (R61). -/
def State.factory (s : State) : Bool := decide (s.mode = 5)

/-- CG_HALT_STAT.PHASE: 0 RUNNING, 1 STOPPING, 2 FLUSHING, 3 HALTED, 4 STARTING. -/
def State.cgPhase (s : State) (g : Nat) : Nat := s.fld (pgCG g + 0x048) 2 0
def State.cgHalted (s : State) (g : Nat) : Bool := decide (s.cgPhase g = 3)
def State.cgRunning (s : State) (g : Nat) : Bool := decide (s.cgPhase g = 0)
/-- CG_QUAD_MASK_LIVE (R49). -/
def State.cgLive (s : State) (g q : Nat) : Bool := bit (s.reg (pgCG g + 0x840)) q
/-- The group touches the quadrant (R64). -/
def State.touches (s : State) (g q : Nat) : Bool := bit (s.reg (pgCG g + 0x040)) q || s.cgLive g q
/-- Every group touching the quadrant is halted (R47). -/
def State.quadHalted (s : State) (q : Nat) : Bool :=
  (List.range 64).all (fun g => !s.touches g q || s.cgHalted g)

/-! ## Fences -/

/-- WEIR_FENCE_STAT[q].PHASE. -/
def State.fencePhase (s : State) (q : Nat) : Nat := s.fld (pgDWEIR + 0x140 + 4 * q) 26 24
/-- The quadrant is fenced or in reset (R51, R348). -/
def State.fenced (s : State) (q : Nat) : Bool := decide (s.fencePhase q ≠ 0)
/-- The group treats the quadrant as fenced (R351). -/
def State.qlost (s : State) (q g : Nat) : Bool := s.rowBit (pgDWEIR + 0x160 + 8 * q) g

/-! ## Power slots and dark pages -/

def State.slot (s : State) (k : Nat) : PowerSlot := tabGet (fun _ => {}) s.power k
def State.setSlot (s : State) (k : Nat) (p : PowerSlot) : State := { s with power := tabSet (fun _ => {}) s.power k p }
def State.quadSt (s : State) (q : Nat) : QuadSt := tabGet (fun _ => {}) s.quad q
def State.setQuad (s : State) (q : Nat) (x : QuadSt) : State := { s with quad := tabSet (fun _ => {}) s.quad q x }

/-- The quadrant's domain is on (R373). -/
def State.quadOn (s : State) (q : Nat) : Bool := decide ((s.quadSt q).dom = 0)

/-- A device slot of VDD_CORE_DEV below IDLE in DORMANT, PCIe management apart (R74). -/
def State.slotDormant (s : State) (k : Nat) : Bool := decide (s.mode = 0) && decide (k < 8) && decide (k ≠ 1)

/-- The state a slot shows (R361); in DORMANT the HBM controllers are held in DOZE, their stacks in self-refresh (R191, R441). -/
def State.slotState (s : State) (k : Nat) : Nat :=
  if 8 ≤ k ∧ k < 12 then (s.quadSt (k - 8)).dom
  else if s.slotDormant k then (if k = 3 ∨ k = 4 then 3 else 4)
  else (s.slot k).st

/-- A whole quadrant is dark: fenced, in reset or below ACTIVE (R51, R52). -/
def State.quadDark (s : State) (q : Nat) : Bool := s.fenced q || !s.quadOn q

/-- A page is dark (R51). -/
def State.dark (s : State) (p : Page) : Bool :=
  (decide (p.quad < 4) && s.quadDark p.quad)
  || (match p.slot with
      | some k => decide (2 ≤ s.slotState k)
      | none => false)

/-! ## PCIe -/

def pf0 : Nat := 33

/-- TotalVFs (R399). -/
def State.totalVfs (s : State) : Nat :=
  let n := min (s.fld (pgPCIE + 0x044) 5 0) 32
  if s.pcie.ari then n else min n 6

/-- VF n is enabled (R399). -/
def State.vfOn (s : State) (n : Nat) : Bool :=
  s.pcie.vfEnable && decide (1 ≤ n) && decide (n ≤ s.pcie.numVfs) && decide (n ≤ s.totalVfs)

/-- A function's Bus Master Enable; 0 for a VF not enabled and for a number that names no function (R399). -/
def State.busMaster (s : State) (fn : Nat) : Bool :=
  tabGet (fun _ => false) s.pcie.bme fn && (decide (fn = 0) || decide (fn = pf0) || s.vfOn fn)

/-- The link carries traffic. -/
def State.linkUp (s : State) : Bool := decide (s.fld (pgPCIE + 0x040) 31 31 = 1) && !s.pcie.perstLow

/-- The device issues no request but PF0 MSI-X messages: DRAIN from step 6, DORMANT; in BOOT only image reads (R400). -/
def State.quiet (s : State) : Bool :=
  decide (s.mode = 0) || decide (s.mode = 1) || (decide (s.mode = 4) && decide (6 ≤ s.drainStep))

/-- The device may issue a write for a function (R400, R403, R404). -/
def State.canWrite (s : State) (fn : Nat) : Bool := s.linkUp && s.busMaster fn && !s.quiet

/-- The device may issue an MSI-X message of a function. -/
def State.canMsix (s : State) (fn : Nat) : Bool :=
  s.linkUp && s.busMaster fn && (!s.quiet || (decide (fn = pf0) && decide (s.mode ≠ 1)))

/-! ## Location fields of R23 -/

def locQuad (q : Nat) : W16 := BitVec.ofNat 16 (0x8000 + q * 0x2000 + 7 * 0x400 + 7 * 0x80)
def locClu (d : Nat) : W16 := BitVec.ofNat 16 (0x8000 + d / 6 * 0x2000 + d % 6 * 0x400 + 7 * 0x80)
def locTile (d t : Nat) : W16 := BitVec.ofNat 16 (0x8000 + d / 6 * 0x2000 + d % 6 * 0x400 + t * 0x80)

/-- Where an event of a page happened, when nothing nearer is known. -/
def Page.loc (p : Page) : W16 :=
  if p.blk = .clu ∨ p.blk = .cmem then locClu p.inst else if p.quad < 4 then locQuad p.quad else 0

/-! ## Error classes and Weir words -/

/-- The class of an ERR_STAT bit (R337): 1 INFO, 2 CORRECTED, 3 CONTAINED. -/
def errClass (b : Block) (n : Nat) : Nat :=
  if 30 ≤ n then 1 else
  match b with
  | .clu => if n ≤ 8 then 3 else 1
  | .slc => if n = 1 then 3 else 1
  | .cbank => if n = 2 ∨ n = 5 ∨ n = 8 then 2 else 1
  | .cmem => if n = 2 ∨ n = 5 then 2 else 1
  | .hbmc => if n = 2 ∨ n = 5 then 2 else 1
  | .qpwr => if n ≤ 1 then 2 else 1
  | .fft => if n ≤ 3 then 3 else 1
  | .shp => if n ≤ 3 then 3 else 1
  | .nsc => if n ≤ 3 then 3 else 1
  | .code => if n ≤ 3 then 3 else 1
  | .abd => if n ≤ 3 then 3 else 1
  | _ => 1

/-- A page's bit in its Weir's word (R340, R341). -/
def Page.weirBit (p : Page) : Nat :=
  match p.blk with
  | .dev => 0 | .well => 1 | .dpwr => 2 | .ftb => 4 | .bmon => 5 | .pmb => 6 + p.inst | .gpio => 8 | .rsto => 9
  | .fuse => 10 | .btu => 11 | .pcie => 12 | .pump => 13 | .hbmc => 14 + p.inst | .slc => 16 | .cmpl => 17 | .fyil => 18
  | .cg => 19 | .flow => 20
  | .qctl => 0 | .qpwr => 1 | .slp => 3 | .fqu => 4 | .mill => 5 | .cist => 6 | .fft => 7 | .shp => 8
  | .nsc => 9 | .code => 10 | .abd => 11 | .hrace => 12 | .trace => 13 | .blnk => 14 | .cbank => 16 + p.inst % 12
  | .lane => 28 + p.inst % 16 | .clu => 44 + p.inst % 6 | .cmem => 50 + p.inst % 6
  | .weir => if p.quad < 4 then 2 else 3

/-- An event as a Weir receives it (R339). -/
structure WeirEvent where
  cls : Nat
  bit : Nat
  /-- CODE is an integrity code. -/
  integ : Bool
  code : Nat
  loc : W16
  cg : Option Nat
  injected : Bool
deriving DecidableEq, Repr

/-- The event in the layout of WEIR_FIRST. -/
def WeirEvent.first (e : WeirEvent) : W32 :=
  BitVec.ofNat 32 (2 ^ 31 + b2n e.injected * 2 ^ 30 + e.cls * 2 ^ 27 + e.bit * 2 ^ 16 + b2n e.integ * 32 + e.code)

/-- The event in the layout of WEIR_FIRST_LOC. -/
def WeirEvent.firstLoc (e : WeirEvent) : W32 :=
  BitVec.ofNat 32 (e.loc.toNat * 65536 + (match e.cg with | some g => 0x8000 + g | none => 0))

/-- A frame joins the Fyil queue, or is dropped and counted (R463). -/
def State.fyilPush (s : State) (kind weir : Nat) (body : Nat) : State :=
  if s.fyil.length < 64 then
    { s with fyil := s.fyil ++ [BitVec.ofNat 256 (kind * 2 ^ 252 + weir * 2 ^ 248 + s.rawNs32 * 2 ^ 192 + body)] }
  else s.inc (pgFYIL + 0x044) 31 0 1

/-- The Fyil port takes frames of a source. -/
def State.fyilOn (s : State) (src : Nat) : Bool :=
  decide (s.fld (pgFYIL + 0x040) 31 31 = 1) && bit (s.reg (pgFYIL + 0x040)) src && decide (s.slotState 7 < 2)

/-- A quadrant Weir takes no event from the assertion of the quadrant's reset to its end, nor with its domain off
(R468). -/
def State.weirAlive (s : State) (w : Nat) : Bool :=
  decide (4 ≤ w) || (s.quadOn w && !(decide (s.fencePhase w = 4) || decide (s.fencePhase w = 3)))

/-- A Weir records an event: word bit, capture or merge, class count, its own IRQ_STAT (R340 to R344). -/
def State.weirRecord (s : State) (w : Nat) (e : WeirEvent) : State :=
  let pg := pgWEIR w
  let s1 := s.setRowBit (pg + 0x040) e.bit true
  let s2 :=
    if s.fld (pg + 0x048) 31 31 = 0 then
      ((s1.setReg (pg + 0x048) e.first).setReg (pg + 0x04C) e.firstLoc).setReg (pg + 0x050) (BitVec.ofNat 32 s.rawNs32)
    else s1.inc (pg + 0x054) 15 0 1
  let s3 := s2.inc (pg + 0x05C + 4 * e.cls) 31 0 1
  let s4 := if e.cls ≤ 5 then s3.setRowBit (pg + 0x02C) (e.cls - 1) true else s3
  if s4.fyilOn 1 then s4.fyilPush 1 w (e.first.toNat + e.firstLoc.toNat * 2 ^ 32) else s4

/-- An event reaches a Weir. -/
def State.weirEvent (s : State) (w : Nat) (e : WeirEvent) : State :=
  if s.weirAlive w then s.weirRecord w e else s

/-- Of two events in one cycle a Weir captures the one of higher class, then of the lower word bit, then of the lower code (R343). -/
def WeirEvent.before (a b : WeirEvent) : Bool :=
  decide (b.cls < a.cls) || (decide (a.cls = b.cls) && (decide (a.bit < b.bit) || (decide (a.bit = b.bit) && decide (a.code ≤ b.code))))

/-- An event put in its place among the events of a cycle. -/
def putEvent (e : WeirEvent) : List WeirEvent → List WeirEvent
  | [] => [e]
  | f :: l => if e.before f then e :: f :: l else f :: putEvent e l

/-- The events that reach a Weir in one cycle: the first in the order of R343 may be captured, the others are merged (R342). -/
def State.weirCycle (s : State) (w : Nat) (es : List WeirEvent) : State :=
  (es.foldr putEvent []).foldl (fun t e => t.weirEvent w e) s

/-! ## PF0 interrupt vectors -/

/-- The vector a page's interrupt belongs to (R405). -/
def Page.vector (p : Page) : Nat :=
  match p.blk with
  | .dev => 0 | .dpwr => 2 | .ftb => 3 | .bmon => 4 | .pmb => 5 | .gpio => 6 | .rsto => 7 | .fuse => 7 | .btu => 7
  | .pcie => 8 | .pump => 8 | .hbmc => 9 | .slc => 10 | .cmpl => 10 | .cg => 11
  | .qctl => 16 + 8 * p.quad | .qpwr => 16 + 8 * p.quad | .fqu => 17 + 8 * p.quad | .cist => 18 + 8 * p.quad
  | .cbank => 18 + 8 * p.quad | .fft => 19 + 8 * p.quad | .shp => 19 + 8 * p.quad | .nsc => 19 + 8 * p.quad
  | .code => 19 + 8 * p.quad | .abd => 19 + 8 * p.quad | .hrace => 20 + 8 * p.quad | .trace => 20 + 8 * p.quad
  | .blnk => 20 + 8 * p.quad | .lane => 21 + 8 * p.quad | .clu => 22 + 8 * p.quad | .cmem => 23 + 8 * p.quad
  | .weir => if p.quad < 4 then 16 + 8 * p.quad else 1
  | .well => 63 | .fyil => 63 | .flow => 63 | .slp => 63 | .mill => 63

/-- The pages whose interrupts a vector carries (R405). -/
def vecPages (v : Nat) : List Nat :=
  if v < 16 then
    match v with
    | 0 => [pgDEV] | 1 => [pgDWEIR] | 2 => [pgDPWR] | 3 => [pgFTB] | 4 => [pgBMON] | 5 => [pgPMB 0, pgPMB 1]
    | 6 => [pgGPIO] | 7 => [pgRSTO, pgFUSE, pgBTU] | 8 => [pgPCIE, pgPUMP] | 9 => [pgHBMC 0, pgHBMC 1]
    | 10 => [pgSLC, pgCMPL] | 11 => (List.range 64).map pgCG | _ => []
  else if v < 48 then
    let q := (v - 16) / 8
    match v % 8 with
    | 0 => [pgQCTL q, pgQPWR q, pgQWEIR q] | 1 => [pgFQU q]
    | 2 => pgCIST q :: (List.range 12).map (pgCBANK q)
    | 3 => [pgFFT q, pgSHP q, pgNSC q, pgCODE q, pgABD q] | 4 => [pgHRACE q, pgTRACE q, pgBLNK q]
    | 5 => (List.range 16).map (fun i => pgLANE (16 * q + i))
    | 6 => (List.range 6).map (fun c => pgCLU (6 * q + c))
    | _ => (List.range 6).map (fun c => pgCMEM (6 * q + c))
  else []

/-- A page asserts its interrupt (R406); a dark page does not. -/
def State.pageIrq (s : State) (pg : Nat) : Bool :=
  decide (s.reg (pg + 0x02C) &&& s.reg (pg + 0x028) ≠ 0)
  && (match pageOf pg with | some p => !s.dark p | none => false)

/-- A PF0 vector is asserted. -/
def State.vecOn (s : State) (v : Nat) : Bool := (vecPages v).any s.pageIrq

/-- A dropped write or message is counted (R404). -/
def State.countDrop (s : State) : State := s.inc (pgPCIE + 0x050) 15 0 1

/-- A message of a function falls due: sent, dropped, or held back under the MSI-X capability (R404, R406). The second
component says that it was dropped. -/
def State.message (s : State) (fn v : Nat) : State × Bool :=
  if tabGet (fun _ => false) s.pcie.msixEn fn && tabGet (fun _ => false) s.pcie.unmasked (4096 * fn + v) then
    if s.canMsix fn then
      ({ s with pcie := { s.pcie with pend := tabErase s.pcie.pend (4096 * fn + v) } }.emit (.msix fn v), false)
    else (s.countDrop, true)
  else ({ s with pcie := { s.pcie with pend := tabSet (fun _ => false) s.pcie.pend (4096 * fn + v) true } }, false)

/-! ## Raising errors and interrupts -/

/-- The bits of a word whose class is the highest among them, and that class. -/
def highestClass (b : Block) (newly : W32) : Nat :=
  (indices 32 (fun n => newly.getLsbD n)).foldl (fun c n => max c (errClass b n)) 0

/-- Unmasked ERR_STAT bits of a page that would become set (R44). -/
def State.newErrs (s : State) (pg : Nat) (bits : W32) : W32 := bits &&& ~~~ s.reg (pg + 0x010) &&& ~~~ s.reg (pg + 0x014)

/-- ERR_STAT bits of a page set, and ERR_FIRST captures the lowest unmasked one of them (R44, R45). -/
def State.setErrs (s : State) (pg : Nat) (bits : W32) : State :=
  let s1 := s.setReg (pg + 0x010) (s.reg (pg + 0x010) ||| bits)
  match lowestBit (s.newErrs pg bits) with
  | some low =>
    if s.fld (pg + 0x018) 31 31 = 0 then s1.setReg (pg + 0x018) (BitVec.ofNat 32 (2 ^ 31 + low * 2 ^ 24 + s.rawNs24)) else s1
  | none => s1

/-- The event of unmasked bits that become set on a page: the highest class among them and its lowest bit (R339). -/
def errEvent (p : Page) (newly : W32) (loc : W16) (cg : Option Nat) (injected : Bool) : WeirEvent :=
  let c := highestClass p.blk newly
  ⟨c, p.weirBit, false, ((indices 32 (fun n => newly.getLsbD n && decide (errClass p.blk n = c))).head?).getD 0, loc, cg, injected⟩

/-- Error bits set on a page, before any interrupt message: ERR_STAT, ERR_FIRST and the Weir's record (R44, R45, R339). -/
def State.raiseQuiet (s : State) (pg : Nat) (p : Page) (bits : W32) (loc : W16) (cg : Option Nat) (injected : Bool) : State :=
  if s.newErrs pg bits = 0 then s.setErrs pg bits
  else (s.setErrs pg bits).weirEvent p.quad (errEvent p (s.newErrs pg bits) loc cg injected)

/-- PF0's vector v may have become asserted: its message (R406), and WRITE_DROP when it cannot be issued. -/
def State.vecEdge (s : State) (v : Nat) (was : Bool) : State :=
  if !was && s.vecOn v && decide (v < 64) then
    let r := s.message pf0 v
    if r.2 then
      let was1 := r.1.vecOn 1
      let s2 := r.1.raiseQuiet pgPCIE ⟨.pcie, 0, 0, 4⟩ 4 0 none false
      if !was1 && s2.vecOn 1 then (s2.message pf0 1).1 else s2
    else r.1
  else s

/-- A change of state with the edges of the vectors it can touch. -/
def State.withVecs (s : State) (vs : List Nat) (f : State → State) : State :=
  vs.foldl (fun t v => t.vecEdge v (s.vecOn v)) (f s)

/-- Error bits set on a page, with everything that follows (R42 to R45, R339, R406). -/
def State.raiseAt (s : State) (pg : Nat) (bits : W32) (loc : W16) (cg : Option Nat) (injected : Bool) : State :=
  match pageOf pg with
  | none => s
  | some p => s.withVecs [if p.quad < 4 then 16 + 8 * p.quad else 1] (fun t => t.raiseQuiet pg p bits loc cg injected)

/-- Error bit n of a page. -/
def State.raise (s : State) (pg n : Nat) (cg : Option Nat := none) : State :=
  match pageOf pg with
  | none => s
  | some p => s.raiseAt pg (BitVec.ofNat 32 (2 ^ n)) p.loc cg false

/-- IRQ_STAT bits of a page set; the vector's message on its edge (R405, R406). -/
def State.irq (s : State) (pg : Nat) (bits : W32) : State :=
  match pageOf pg with
  | none => s
  | some p => s.withVecs [p.vector] (fun t => t.orReg (pg + 0x02C) bits)

/-- IRQ_STAT bit n of a page. -/
def State.irqBit (s : State) (pg n : Nat) : State := s.irq pg (BitVec.ofNat 32 (2 ^ n))

/-- MSI-X vectors in a function's table (R398). -/
def msixSize (fn : Nat) : Nat := if fn = 0 then 2048 else if fn = pf0 then 64 else 256

/-- The message of a completion queue or Pump channel (R407). -/
def State.sendVector (s : State) (fn v : Nat) : State :=
  if msixSize fn ≤ v then s.raise pgPCIE 3
  else
    let r := s.message fn v
    if r.2 then r.1.raise pgPCIE 2 else r.1

/-- A posted write of the device, or its drop (R403, R404). -/
def State.hostWrite (s : State) (fn addr : Nat) (data : Bytes) (poison record : Bool) : State :=
  if s.canWrite fn then s.emit (.hostWrite fn addr data poison)
  else (if record then s.inc (pgPCIE + 0x050) 31 16 1 else s.countDrop).raise pgPCIE 2

/-! ## Weir words after a clearing write -/

/-- WEIR_WORD_HI:LO with the QSUM bits of the device word (R341). -/
def State.weirWord (s : State) (w : Nat) : W64 :=
  let x := s.reg64 (pgWEIR w + 0x040)
  if w < 4 then x
  else (List.range 4).foldl (fun (a : W64) q =>
    putFld a (28 + q) (28 + q) (b2n (!s.quadDark q && decide (s.reg64 (pgQWEIR q + 0x040) ≠ 0)))) x

/-- Handling ends in the first cycle in which the word and WEIR_INTEG read all zero (R342). -/
def State.weirSettle (s : State) (w : Nat) : State :=
  if s.weirWord w = 0 ∧ s.reg (pgWEIR w + 0x078) = 0 then
    (s.put (pgWEIR w + 0x048) 31 31 0).setReg (pgWEIR w + 0x054) 0
  else s

/-! ## Access counters -/

/-- The Weir that counts an access to a page: the quadrant's, or the device's for device pages and for a quadrant that is
dark as a whole (R51, R52). -/
def State.accWeir (s : State) (p : Page) : Nat := if p.quad < 4 ∧ s.quadDark p.quad = false then p.quad else 4

/-- A counted access: the counter at off and WEIR_LAST_ACC (R51, R465); kind 0 dark read, 1 dark write, 2 dropped write,
3 bad access. -/
def State.countAcc (s : State) (w off kind addr : Nat) : State :=
  (s.inc (pgWEIR w + off) 31 0 1).setReg (pgWEIR w + 0x210) (BitVec.ofNat 32 (2 ^ 31 + kind * 2 ^ 26 + addr % 2 ^ 26))

/-- A bad access (R465). -/
def State.badAccess (s : State) (addr : Nat) : State := s.countAcc 4 0x20C 3 addr

/-- A dropped write: LIVE_DROP of the instance, whose ERR_STAT stands on its first page (R42), and the count of its Weir (R48). -/
def State.liveDrop (s : State) (addr : Nat) : State :=
  match pageOf addr with
  | none => s
  | some p => (s.countAcc (s.accWeir p) 0x208 2 addr).raise (addr - addr % 0x1000 - p.seq * 0x1000) 30

/-- A PAGE_CTRL command rejected under R43 (R465). -/
def State.ctrlReject (s : State) (pg : Nat) : State :=
  match pageOf pg with
  | none => s
  | some p =>
    let s1 := s.badAccess (pg + 0x008)
    let s2 := if p.quad < 4 then s1.countAcc p.quad 0x20C 3 (pg + 0x008) else s1
    s2.raise pg 31

/-- A read of a dark page (R51). -/
def State.darkReadAt (s : State) (p : Page) (addr : Nat) : State :=
  let w := s.accWeir p
  { (s.countAcc w 0x200 0 addr).setRowBit (pgWEIR w + 0x040) (if w < 4 then 56 else 32) true with readData := 0xFFFFFFFF }

/-- A write to a dark page (R51). -/
def State.darkWriteAt (s : State) (p : Page) (addr : Nat) : State := s.countAcc (s.accWeir p) 0x204 1 addr

/-- A register command of a page: dark pages and unpopulated pages take no command (R37, R51), and none arrives while a wide
reset holds the link down (R443). -/
def State.access (s : State) (addr : Nat) (k : State → State) : State :=
  if s.wide.isSome then s else
  match pageOf addr with
  | none => s.badAccess addr
  | some p => if s.dark p then s.darkWriteAt p addr else k s

/-- A register read: an unpopulated page returns 0 and counts (R37), a dark page all ones (R51). -/
def State.readAccess (s : State) (addr : Nat) (k : State → State) : State :=
  if s.wide.isSome then s else
  match pageOf addr with
  | none => { s.badAccess addr with readData := 0 }
  | some p => if s.dark p then s.darkReadAt p addr else k s

/-! ## Registers that resets return -/

/-- Registers at the BAR0 addresses for which p holds take their reset values. -/
def State.dropRegs (s : State) (p : Nat → Bool) : State :=
  { s with
    regs := tabDrop s.regs (fun k => p (k % barSize)),
    latch := tabDrop s.latch (fun k => p (k % barSize)),
    pairs := tabDrop s.pairs (fun k => p (k % barSize)), pairLo := tabDrop s.pairLo (fun k => p (k % barSize)) }

/-- An address lies in the n pages from pg on. -/
def inPages (pg n a : Nat) : Bool := decide (pg ≤ a) && decide (a < pg + n * 0x1000)

/-- An offset that a return from OFF resets: all but PWR_CTRL, of which the slot's mirror holds WAKE and PWR_FLOOR (R54); its
LINGER_US is the block's own and returns to its reset value (`State.slotReset`). -/
def offOff (o : Nat) : Bool := decide (o ≠ 0x020)

/-- The registers of an instance, from its first page on, take their reset values at the offsets for which p holds. -/
def State.dropInstance (s : State) (pg : Nat) (b : Block) (p : Nat → Bool) : State :=
  s.dropRegs (fun a => inPages pg b.pageCount a && p (a % 0x1000))

/-- The registers of a slot's block as they stand after its return from OFF (R361): the block's at their reset values, and
LINGER_US. -/
def State.slotReset (s : State) (k : Nat) : State :=
  match slotPage k with
  | none => s
  | some pg => match pageOf pg with
    | none => s
    | some p => (s.dropInstance pg p.blk offOff).put (slotCtrlKey k) 31 20 (bitsOf (resetWord (slotCtrlKey k)) 31 20)

/-! ## Tiles -/

def State.tile (s : State) (d t : Nat) : Tile := tabGet (fun _ => {}) s.tiles (8 * d + t)
def State.setTile (s : State) (d t : Nat) (x : Tile) : State := { s with tiles := tabSet (fun _ => {}) s.tiles (8 * d + t) x }

end Sys2Proof.Machine
end

