-- ==== Sys2Proof/Machine/Mem.lean ====
section
/-! DEFINITION. The memories: device addresses and their checks (R162 to R165), words with valid bits and SECDED classes (R166
to R170), the merge buffers (R171 to R174), HBM (R187 to R190), the error log and capture (R176, R177), and reads and writes of
bytes as every requester makes them. -/

namespace Sys2Proof.Machine

open Sys2Proof

/-! ## Addresses -/

def cisternBase : Nat := 0x100000000
def clusterBase : Nat := 0x200000000
def hbmBase : Nat := 0x1000000000
def tileDataBase : Nat := 2 ^ 64
def tileProgBase : Nat := 2 ^ 65

/-- The internal address of byte x of a tile's data memory. -/
def tileAddr (d t x : Nat) : Nat := tileDataBase + (8 * d + t) * 0x40000 + x
/-- The internal address of byte x of a tile's program memory. -/
def progAddr (d t x : Nat) : Nat := tileProgBase + (8 * d + t) * 0x20000 + x

/-- What a device address names (R162, R163). -/
inductive DevMem where
  | cistern (q b off : Nat)
  | cluster (d off : Nat)
  | hbm (o : Nat)
deriving DecidableEq, Repr

/-- The capacity of a stack, from HBMC_STAT.HEIGHT (R187). -/
def State.hbmCap (s : State) : Nat :=
  match s.fld (pgHBMC 0 + 0x044) 29 28 with
  | 1 => 16 * 2 ^ 30
  | 2 => 24 * 2 ^ 30
  | _ => 0x40000

/-- The usable bytes of a stack (R188). -/
def State.hbmUse (s : State) : Nat := s.hbmCap - 0x40000

/-- The memory a device address is assigned to (R162); none for an address the table does not assign. -/
def State.devMem (s : State) (a : Nat) : Option DevMem :=
  if cisternBase ≤ a ∧ a < cisternBase + 4 * 0x2000000 then
    let o := a - cisternBase
    if o % 0x2000000 < 0x1800000 then some (.cistern (o / 0x2000000) (o % 0x2000000 / 0x200000) (o % 0x200000)) else none
  else if clusterBase ≤ a ∧ a < clusterBase + 24 * 0x200000 then
    some (.cluster ((a - clusterBase) / 0x200000) ((a - clusterBase) % 0x200000))
  else if hbmBase ≤ a ∧ a < hbmBase + 2 * s.hbmUse then some (.hbm (a - hbmBase))
  else none

/-- Stack and offset within it of an offset in the HBM window (R188). -/
def State.hbmMap (s : State) (o : Nat) : Nat × Nat :=
  if s.fld (pgHBMC 0 + 0x040) 9 8 = 0 then (o / s.hbmUse, o % s.hbmUse)
  else ((o >>> 12) % 2, ((o >>> 13) <<< 12) ||| (o % 0x1000))

/-- The row of a stack offset: pseudo channel, bank and row (R188). -/
def State.hbmRowOf (s : State) (x : Nat) : Nat × Nat × Nat :=
  ((x >>> 8) % 32, Config.hbmBank x % (if s.fld (pgHBMC 0 + 0x044) 29 28 = 2 then 48 else 32), Config.hbmRow x % 0x4000)

/-- Owner of a Cistern bank: byte b of CIST_OWN (R164). -/
def State.bankOwner (s : State) (q b : Nat) : Nat := s.fld (pgCIST q + 0x040 + 4 * (b / 4)) (8 * (b % 4) + 7) (8 * (b % 4))
/-- A granule is retired (R182). -/
def State.granRetired (s : State) (q b g : Nat) : Bool := bit (s.reg (pgCIST q + 0x050 + 4 * b)) g

/-- Where an internal on-chip address lies: its merge-buffer unit, the page its errors set, the page of its log, the SPACE
code, the address a record carries and the location (R171, R176, R177). -/
structure MemLoc where
  unit : Nat
  errPg : Nat
  logPg : Nat
  space : Nat
  addr : Nat
  loc : W16
  prog : Bool
deriving DecidableEq, Repr

def memLoc (k : Nat) : MemLoc :=
  if tileProgBase ≤ k then
    let i := (k - tileProgBase) / 0x20000
    ⟨128 + i, pgCMEM (i / 8), pgCMEM (i / 8), 2, (k - tileProgBase) % 0x20000, locTile (i / 8) (i % 8), true⟩
  else if tileDataBase ≤ k then
    let i := (k - tileDataBase) / 0x40000
    ⟨128 + i, pgCMEM (i / 8), pgCMEM (i / 8), 1, (k - tileDataBase) % 0x40000, locTile (i / 8) (i % 8), false⟩
  else if k < clusterBase then
    let o := k - cisternBase
    let q := o / 0x2000000
    let b := o % 0x2000000 / 0x200000
    ⟨12 * q + b, pgCBANK q b, pgCIST q, 0, k, 0, false⟩
  else
    let d := (k - clusterBase) / 0x200000
    ⟨64 + d, pgCMEM d, pgCMEM d, 0, k, 0, false⟩

/-! ## The correctable-error log and the uncorrectable capture -/

/-- MEM_LOG_ADDR_HI of an event (R177). -/
def logHi (space addr : Nat) : W32 := BitVec.ofNat 32 (2 ^ 31 + space * 2 ^ 29 + (addr >>> 32) % 256)

/-- A correctable event in the log of a page (R176). -/
def State.logCe (s : State) (pg space addr : Nat) (loc : W16) (syn : Nat) : State :=
  let s0 := s.inc (pg + 0x168) 31 0 1
  let lo := BitVec.ofNat 32 addr
  let hi := logHi space addr
  let same := fun i => decide (s.reg (entKey (pg + 0x144) i) = lo) && decide (s.reg (entKey (pg + 0x148) i) = hi)
    && decide (s.fld (entKey (pg + 0x14C) i) 31 16 = loc.toNat)
  match (indices 32 same).head? with
  | some i => s0.inc (entKey (pg + 0x14C) i) 7 0 1
  | none =>
    match (indices 32 (fun i => decide (s.fld (entKey (pg + 0x148) i) 31 31 = 0))).head? with
    | some i =>
      (((s0.setReg (entKey (pg + 0x144) i) lo).setReg (entKey (pg + 0x148) i) hi).setReg (entKey (pg + 0x14C) i)
        (BitVec.ofNat 32 (loc.toNat * 65536 + syn * 256 + 1))).inc (pg + 0x150) 5 0 1
    | none =>
      let s1 := s0.inc (pg + 0x150) 31 16 1
      if s.fld (pg + 0x150) 31 16 = 0 then s1.raise pg 1 else s1

/-- An uncorrectable event of a page: the count, and the capture when none is held (R177). -/
def State.captureUe (s : State) (pg space addr : Nat) (loc : W16) (syn : Nat) : State :=
  let s0 := s.inc (pg + 0x164) 31 0 1
  if s.fld (pg + 0x15C) 31 31 = 0 then
    ((s0.setReg (pg + 0x158) (BitVec.ofNat 32 addr)).setReg (pg + 0x15C) (logHi space addr)).setReg (pg + 0x160)
      (BitVec.ofNat 32 (loc.toNat * 65536 + syn * 256))
  else s0

/-! ## On-chip words -/

/-- How a read classifies a word (R166). -/
inductive EccClass where
  | clean | correctable | uncorrectable
deriving DecidableEq, Repr

/-- n columns drawn without repetition from a list: column i is the one the implementation picks of those left. -/
def pickColumns : Nat → Nat → List W8 → List W8
  | 0, _, _ => []
  | n + 1, i, l =>
    let j := Config.eccPick i % l.length
    l.getD j 0 :: pickColumns n (i + 1) (l.eraseIdx j)

/-- The columns of the 72 stored bits of a word, data bits first: 72 different words of odd weight (R166). -/
def eccColumns : List W8 :=
  pickColumns 72 0 (((List.range 256).map (BitVec.ofNat 8)).filter (fun x => decide (popCount x % 2 = 1)))

/-- The stored bit whose column a syndrome is: 0 to 63 data, 64 to 71 check bits. -/
def eccBit (syn : W8) : Option Nat := (List.range 72).find? (fun n => decide (eccColumns.getD n 0 = syn))

/-- What flipped data bits and check bits change in a word's syndrome. -/
def synChange (flip : W64) (chk : W8) : W8 :=
  (List.range 72).foldl (fun x n =>
    if (if n < 64 then flip.getLsbD n else chk.getLsbD (n - 64)) then x ^^^ eccColumns.getD n 0 else x) 0

/-- The class of a syndrome (R166). -/
def eccClass (syn : W8) : EccClass :=
  if syn = 0 then .clean
  else if popCount syn % 2 = 1 ∧ (eccBit syn).isSome = true then .correctable
  else .uncorrectable

def zero8 : Nat → W8 := fun _ => 0
def zero64 : Nat → W64 := fun _ => 0
def State.cell (s : State) (a : Nat) : W8 := tabGet zero8 s.mem.cells a
def State.isValid (s : State) (k : Nat) : Bool := tabGet (fun _ => false) s.mem.valid k
def State.syndrome (s : State) (k : Nat) : W8 := tabGet zero8 s.mem.ecc k

/-- Bytes of memory from address a on take the bytes of a list. -/
def putBytes : List Host.Cell → Nat → Bytes → List Host.Cell
  | m, _, [] => m
  | m, a, b :: bs => putBytes (tabSet zero8 m a b) (a + 1) bs

/-- The eight stored bytes of a word, as a word. -/
def State.storedWord (s : State) (k : Nat) : W64 :=
  BitVec.ofNat 64 (natLE ((List.range 8).map (fun i => s.cell (k + i))))

/-- The bits the cells of a word hold: what was written, with the bits in error. -/
def State.rawWord (s : State) (k : Nat) : W64 := s.storedWord k ^^^ tabGet zero64 s.mem.flip k

/-- The data bit a correctable syndrome names; none for a check bit. -/
def eccFix (syn : W8) : W64 :=
  match eccBit syn with
  | some n => if n < 64 then BitVec.ofNat 64 (2 ^ n) else 0
  | none => 0

/-- The corrected data of a correctable word: the one bit the syndrome names, flipped (R166). -/
def State.correctedWord (s : State) (k : Nat) : W64 := s.rawWord k ^^^ eccFix (s.syndrome k)

/-- The stored word of key k, its valid bit set, with syndrome syn; a correction waiting for it is dropped (R167, R169,
R170). -/
def State.storeWord (s : State) (k : Nat) (x : W64) (syn : W8) : State :=
  { s with mem := { s.mem with
      cells := putBytes s.mem.cells k (bytesLE 8 x.toNat),
      valid := tabSet (fun _ => false) s.mem.valid k true,
      ecc := tabSet zero8 s.mem.ecc k syn,
      flip := tabErase s.mem.flip k,
      wb := s.mem.wb.filter (fun j => decide (j ≠ k)) } }

/-- A correctable word is seen: CE or TILE_CE, the log (R169, R176). -/
def State.seeCe (s : State) (k : Nat) : State :=
  let l := memLoc k
  (s.raiseAt l.errPg (if l.space = 0 then 4 else 64) (if l.space = 0 then (match pageOf l.errPg with | some p => p.loc | none => 0) else l.loc) none false).logCe
    l.logPg l.space l.addr l.loc (s.syndrome k).toNat

/-- An uncorrectable word is seen: an error bit (UE_READ 3, PARTIAL_UE 4) and the capture (R169, R174, R177). -/
def State.seeUe (s : State) (k n : Nat) : State :=
  let l := memLoc k
  (s.raiseAt l.errPg (BitVec.ofNat 32 (2 ^ n)) (if l.space = 0 then (match pageOf l.errPg with | some p => p.loc | none => 0) else l.loc) none false).captureUe
    l.logPg l.space l.addr l.loc (s.syndrome k).toNat

/-- A stored word as a read sees it: the state after its reports, the data, the poison marker (R167, R169). -/
def State.readStored (s : State) (k : Nat) : State × W64 × Bool :=
  if s.isValid k = false ∧ (memLoc k).prog = false then (s, 0, false)
  else match eccClass (s.syndrome k) with
    | .clean => (s, s.rawWord k, false)
    | .correctable =>
      let s1 := s.seeCe k
      ({ s1 with mem := { s1.mem with wb := s1.mem.wb ++ (if s1.mem.wb.contains k then [] else [k]) } }, s.correctedWord k, false)
    | .uncorrectable => (s.seeUe k 3, s.rawWord k, true)

/-! ## Merge buffers -/

def State.mergeLines (s : State) (u : Nat) : List MergeLine := tabGet (fun _ => []) s.mem.merge u
def State.setMerge (s : State) (u : Nat) (l : List MergeLine) : State :=
  { s with mem := { s.mem with merge := tabSet (fun _ => []) s.mem.merge u l } }

/-- The eight bits of word i of a line's mask. -/
def maskWord (m : W64) (i : Nat) : Nat := (m.toNat >>> (8 * i)) % 256
/-- Word i of a line's data. -/
def lineWord (x : W512) (i : Nat) : W64 := x.extractLsb' (64 * i) 64

/-- The bytes of a word chosen by a byte mask from new, the others from old. -/
def mergeBytes (old new : W64) (mask : Nat) : W64 :=
  BitVec.ofNat 64 (natLE ((List.range 8).map (fun i =>
    if mask.testBit i then (new >>> (8 * i)).setWidth 8 else (old >>> (8 * i)).setWidth 8)))

/-- One word of a draining line (R172, R174). -/
def State.drainWord (s : State) (l : MergeLine) (i : Nat) : State :=
  let k := l.addr + 8 * i
  let mask := maskWord l.mask i
  let bad := decide (maskWord (l.poison &&& l.mask) i ≠ 0)
  let x := lineWord l.data i
  if mask = 0 then s
  else if mask = 255 then s.storeWord k x (if bad then 0xFF else 0)
  else if s.isValid k = false then s.storeWord k (mergeBytes 0 x mask) (if bad then 0xFF else 0)
  else
    match eccClass (s.syndrome k) with
    | .clean => s.storeWord k (mergeBytes (s.rawWord k) x mask) (if bad then 0xFF else 0)
    | .correctable => (s.seeCe k).storeWord k (mergeBytes (s.correctedWord k) x mask) (if bad then 0xFF else 0)
    | .uncorrectable => (if bad then s else s.seeUe k 4).storeWord k (mergeBytes (s.rawWord k) x mask) 0xFF

/-- A line leaves its buffer (R172). -/
def State.drainLine (s : State) (u : Nat) (l : MergeLine) : State :=
  (List.range 8).foldl (fun t i => t.drainWord l i)
    (s.setMerge u ((s.mergeLines u).filter (fun m => decide (m.addr ≠ l.addr))))

/-- Every line of a unit drains, oldest first: the memory's entry into a power state reaches the step before isolation (R172). -/
def State.drainUnit (s : State) (u : Nat) : State := (s.mergeLines u).foldl (fun t l => t.drainLine u l) s

/-- Bytes join a line (R171): later bytes and their markers replace earlier ones. -/
def MergeLine.join (l : MergeLine) (i : Nat) (x : W64) (mask poison : Nat) : MergeLine :=
  let w := mergeBytes (lineWord l.data i) x mask
  { l with
    mask := l.mask ||| BitVec.ofNat 64 (mask <<< (8 * i)),
    data := putFld l.data (64 * i + 63) (64 * i) w.toNat,
    poison := putFld l.poison (8 * i + 7) (8 * i)
      ((maskWord l.poison i &&& (255 - mask)) ||| (poison &&& mask)) }

/-- Whole words drop the buffered bytes they cover (R171). -/
def State.dropBuffered (s : State) (u k : Nat) : State :=
  let line := k - k % 64
  let i := k % 64 / 8
  let ls := (s.mergeLines u).map (fun l => if l.addr = line then { l with mask := putFld l.mask (8 * i + 7) (8 * i) 0 } else l)
  s.setMerge u (ls.filter (fun l => decide (l.mask ≠ 0)))

/-- A write of the bytes of word k that mask names, each with its poison marker (R171, R172). -/
def State.writeChip (s : State) (k : Nat) (x : W64) (mask poison : Nat) : State :=
  let u := (memLoc k).unit
  if mask = 0 then s
  else if mask = 255 then (s.dropBuffered u k).storeWord k x (if poison = 0 then 0 else 0xFF)
  else
    let line := k - k % 64
    let ls := s.mergeLines u
    match ls.find? (fun l => decide (l.addr = line)) with
    | some l =>
      let l' := l.join (k % 64 / 8) x mask poison
      let s1 := s.setMerge u (ls.map (fun m => if m.addr = line then l' else m))
      if l'.mask = BitVec.allOnes 64 then s1.drainLine u l' else s1
    | none =>
      let s1 := if 8 ≤ ls.length then (match ls with | l :: _ => s.drainLine u l | [] => s) else s
      s1.setMerge u (s1.mergeLines u ++ [MergeLine.join ⟨line, 0, 0, 0⟩ (k % 64 / 8) x mask poison])

/-- A read of word k of an on-chip memory, the buffered bytes over the stored ones (R173). -/
def State.readChip (s : State) (k : Nat) : State × W64 × Bool :=
  let u := (memLoc k).unit
  match (s.mergeLines u).find? (fun l => decide (l.addr = k - k % 64)) with
  | none => s.readStored k
  | some l =>
    let i := k % 64 / 8
    let mask := maskWord l.mask i
    let bad := decide (maskWord (l.poison &&& l.mask) i ≠ 0)
    if mask = 255 then (s, lineWord l.data i, bad)
    else
      let r := s.readStored k
      (r.1, mergeBytes r.2.1 (lineWord l.data i) mask, r.2.2 || bad)

/-- Valid bits of a range of internal addresses cleared and the unit's lines in it discarded (R168). -/
def State.clearRange (s : State) (u lo len : Nat) : State :=
  { s with mem := { s.mem with
      valid := tabDrop s.mem.valid (fun k => decide (lo ≤ k) && decide (k < lo + len)),
      ecc := tabDrop s.mem.ecc (fun k => decide (lo ≤ k) && decide (k < lo + len)),
      wb := s.mem.wb.filter (fun k => !(decide (lo ≤ k) && decide (k < lo + len))),
      flip := tabDrop s.mem.flip (fun k => decide (lo ≤ k) && decide (k < lo + len)),
      merge := tabSet (fun _ => []) s.mem.merge u
        ((s.mergeLines u).filter (fun l => !(decide (lo ≤ l.addr) && decide (l.addr < lo + len)))) } }

def cbankAddr (q b : Nat) : Nat := cisternBase + q * 0x2000000 + b * 0x200000
def State.clearBank (s : State) (q b : Nat) : State := s.clearRange (12 * q + b) (cbankAddr q b) 0x200000
def State.clearCluster (s : State) (d : Nat) : State := s.clearRange (64 + d) (clusterBase + d * 0x200000) 0x200000
def State.clearTile (s : State) (d t : Nat) : State := s.clearRange (128 + 8 * d + t) (tileAddr d t 0) 0x40000

/-! ## HBM words -/

def State.hbmByteAt (s : State) (a : Nat) : W8 :=
  match tabGet (fun _ => none) s.mem.hbm a with
  | some b => b
  | none => Config.hbmByte s.mem.hbmGen a

def State.hbmWord (s : State) (k : Nat) : W64 := BitVec.ofNat 64 (natLE ((List.range 8).map (fun i => s.hbmByteAt (k + i))))

def putHbm : Tab (Option W8) → Nat → Bytes → Tab (Option W8)
  | m, _, [] => m
  | m, a, b :: bs => putHbm (tabSet (fun _ => none) m a (some b)) (a + 1) bs

def remapDflt : Nat → Remap := fun _ => {}

/-- The remap entry of the row that holds offset o of the HBM window (R185). -/
def State.remapOf (s : State) (o : Nat) : Option Nat :=
  let m := s.hbmMap o
  let r := s.hbmRowOf m.2
  (indices 256 (fun i =>
    let e := tabGet remapDflt s.mem.remap (256 * m.1 + i)
    e.valid && decide (e.pch = r.1) && decide (e.bank = r.2.1) && decide (e.row = r.2.2))).head?.map (fun i => 256 * m.1 + i)

/-- Which of the 16 units of its 1 KiB row an offset of a stack is in; the controller fixes the bits (R188). -/
def hbmUnitOf (x : Nat) : Nat := Config.hbmUnit x % 16

/-- A unit of HBM reads poisoned: a word written so, or the POISON bit of its retired row (R185, R415). -/
def State.hbmBad (s : State) (k : Nat) : Bool :=
  tabGet (fun _ => false) s.mem.hbmPoison k
  || (match s.remapOf (k - hbmBase) with
      | some i => bit (tabGet remapDflt s.mem.remap i).poison (hbmUnitOf (s.hbmMap (k - hbmBase)).2)
      | none => false)

/-- The eight words of the 64-byte unit of word k stay uncorrectable until a whole write (R190). -/
def State.markUnit (s : State) (k : Nat) : State :=
  { s with mem := { s.mem with
      hbmPoison := (List.range 8).foldl (fun t i => tabSet (fun _ => false) t (k - k % 64 + 8 * i) true) s.mem.hbmPoison } }

/-- A read of an HBM word with the severity its stack reports (R189); a unit that reads uncorrected reads so again (R190). -/
def State.readHbm (s : State) (k : Nat) (sev : Nat) : State × W64 × Bool :=
  let pg := pgHBMC (s.hbmMap (k - hbmBase)).1
  let x := s.hbmWord k
  if sev = 2 then (((s.markUnit k).raise pg 3).captureUe pg 0 k 0 2, x, true)
  else if s.hbmBad k then ((s.raise pg 3).captureUe pg 0 k 0 2, x, true)
  else if sev = 1 then ((s.raise pg 2).logCe pg 0 k 0 1, x, false)
  else (s, x, false)

/-- A write of the whole unit of word k while its row is being copied lands after the copy: the unit does not end POISON (R185). -/
def State.copyMissed (s : State) (k : Nat) : Tab (Option Remap) :=
  let m := s.hbmMap (k - hbmBase)
  let r := s.hbmRowOf m.2
  match tabGet (fun _ => none) s.mem.remapJob m.1 with
  | some j => if j.pch = r.1 ∧ j.bank = r.2.1 ∧ j.row = r.2.2 then
      tabSet (fun _ => none) s.mem.remapJob m.1 (some { j with poison := putFld j.poison (hbmUnitOf m.2) (hbmUnitOf m.2) 0 })
    else s.mem.remapJob
  | none => s.mem.remapJob

/-- The read of a partial HBM write of the unit of word k, with the severity the stack reports: the second component says that the
write is performed (R189, R190). -/
def State.partialRead (s : State) (k sev : Nat) : State × Bool :=
  let unit := k - k % 64
  let pg := pgHBMC (s.hbmMap (k - hbmBase)).1
  if sev = 2 then (((s.markUnit k).raise pg 4).captureUe pg 0 unit 0 2, false)
  else if (List.range 8).any (fun i => s.hbmBad (unit + 8 * i)) then ((s.raise pg 4).captureUe pg 0 unit 0 2, false)
  else if sev = 1 then ((s.raise pg 2).logCe pg 0 unit 0 1, true)
  else (s, true)

/-- The bytes of an HBM word that mask names take new values. A write that covers part of a 64-byte unit which reads
uncorrectable is not performed (R190): the second component says it was. A word of a whole unit clears its marks. -/
def State.writeHbm (s : State) (k : Nat) (x : W64) (mask poison : Nat) (whole : Bool) : State × Bool :=
  let unit := k - k % 64
  let pg := pgHBMC (s.hbmMap (k - hbmBase)).1
  if whole = false ∧ ((List.range 8).any (fun i => s.hbmBad (unit + 8 * i))) = true then
    ((s.raise pg 4).captureUe pg 0 unit 0 2, false)
  else
    let y := mergeBytes (s.hbmWord k) x mask
    let rm := match s.remapOf (k - hbmBase) with
      | some i => if whole then
          tabSet remapDflt s.mem.remap i
            (let e := tabGet remapDflt s.mem.remap i
             let u := hbmUnitOf (s.hbmMap (k - hbmBase)).2
             { e with poison := putFld e.poison u u 0 })
        else s.mem.remap
      | none => s.mem.remap
    ({ s with mem := { s.mem with
        hbm := putHbm s.mem.hbm k (bytesLE 8 y.toNat),
        hbmPoison := tabSet (fun _ => false) s.mem.hbmPoison k (decide (poison ≠ 0)),
        remapJob := if whole then s.copyMissed k else s.mem.remapJob,
        remap := rm } }, true)

/-! ## Requests at device addresses -/

/-- A request to a domain below IDLE wakes it and waits (R371): the domain is at IDLE when it is served. From OFF its registers stand
at their reset values and clear, the memory's, empties it (R361, R369). -/
def State.wakeDomain (s : State) (k : Nat) (clear : State → State) : State :=
  if 2 ≤ (s.slot k).st then
    let s1 := if (s.slot k).st = 4 then clear (s.slotReset k) else s
    s1.setSlot k { s.slot k with st := 1, entry := .none, waking := false, latched := false }
  else s

/-- Who makes a request: its carrier group, none for an unrestricted requester (R165), and its quadrant, 4 for a block of the
device; old: a bridge accepted it before the fence of its quadrant (R24). -/
structure Req where
  cg : Option Nat := none
  quad : Nat := 4
  old : Bool := false
deriving DecidableEq, Repr

/-- A fence stands between a requester and a memory of quadrant q (4: HBM): the request would cross a bridge or the spine towards a
fenced quadrant, or out of one that did not accept it in time (R24). -/
def State.fencedOff (s : State) (who : Req) (q : Nat) : Bool :=
  decide (who.quad ≠ q) && ((decide (q < 4) && s.fenced q) || (decide (who.quad < 4) && s.fenced who.quad && !who.old))

/-- Whether a request of a requester may reach a device address; false is an error response (R24, R162, R164, R165). -/
def State.devCheck (s : State) (who : Req) (a : Nat) : State × Bool :=
  match s.devMem a with
  | none => (s, false)
  | some (.cistern q b off) =>
    if s.fencedOff who q then (s, false)
    else if s.bankOwner q b = 0x7F ∨ s.granRetired q b (off / 0x10000) = true then (s.raise (pgCBANK q b) 7, false)
    else
      let own := s.bankOwner q b
      let woken := s.wakeDomain (qSlot q (4 + b)) (fun t => t.clearBank q b)
      match who.cg with
      | some g => if own < 0x40 ∧ own ≠ g then (s.raise (pgCBANK q b) 6, false) else (woken, true)
      | none => (woken, true)
  | some (.cluster d _) =>
    if s.fencedOff who (d / 6) then (s, false)
    else (s.wakeDomain (qSlot (d / 6) (41 + 2 * (d % 6))) (fun t => t.clearCluster d), true)
  | some (.hbm o) => if s.fencedOff who 4 then (s, false) else (s.wakeDomain (3 + (s.hbmMap o).1) id, true)

/-- Whether an address is HBM. -/
def isHbm (k : Nat) : Bool := decide (hbmBase ≤ k) && decide (k < tileDataBase)

/-- A byte and whether it carries the poison marker (R170). -/
abbrev PByte := W8 × Bool

/-- A read of the word at an internal address. -/
def State.readWord (s : State) (k : Nat) : State × W64 × Bool := if isHbm k then s.readHbm k 0 else s.readChip k

/-- Bytes lo to hi - 1 of a word. -/
def wordBytes (x : W64) (bad : Bool) (lo hi : Nat) : List PByte :=
  ((List.range 8).filter (fun i => decide (lo ≤ i) && decide (i < hi))).map (fun i => ((x >>> (8 * i)).setWidth 8, bad))

/-- A read of n words from word k on, of the bytes in [a, e); an error response ends it. -/
def State.readSpan (s : State) (who : Req) (a e : Nat) : Nat → Nat → State × List PByte × Bool
  | 0, _ => (s, [], true)
  | n + 1, k =>
    let c := s.devCheck who k
    if c.2 = false then (c.1, [], false)
    else
      let r := c.1.readWord k
      let rest := r.1.readSpan who a e n (k + 8)
      (rest.1, wordBytes r.2.1 r.2.2 (a - k) (e - k) ++ rest.2.1, rest.2.2)

/-- A read of n bytes at a device address: the bytes that came and whether no error response came. -/
def State.devRead (s : State) (who : Req) (a n : Nat) : State × List PByte × Bool :=
  if n = 0 then (s, [], true) else s.readSpan who a (a + n) ((a + n + 7) / 8 - a / 8) (a - a % 8)

/-- The bytes of a list that fall in word k of a write from address a: data, mask, poison mask. -/
def wordOf (a : Nat) (bs : List PByte) (k : Nat) : W64 × Nat × Nat :=
  let at? := fun i => if a ≤ k + i then bs[k + i - a]? else none
  (BitVec.ofNat 64 (natLE ((List.range 8).map (fun i => match at? i with | some b => b.1 | none => 0))),
   ((List.range 8).map (fun i => match at? i with | some _ => 2 ^ i | none => 0)).sum,
   ((List.range 8).map (fun i => match at? i with | some b => if b.2 then 2 ^ i else 0 | none => 0)).sum)

/-- A write covers the whole 64-byte unit of word k. -/
def coversUnit (a n k : Nat) : Bool := decide (a ≤ k - k % 64) && decide (k - k % 64 + 64 ≤ a + n)

/-- A write of n words from word k on; an error response ends it. -/
def State.writeSpan (s : State) (who : Req) (a : Nat) (bs : List PByte) : Nat → Nat → State × Bool
  | 0, _ => (s, true)
  | n + 1, k =>
    let c := s.devCheck who k
    if c.2 = false then (c.1, false)
    else
      let w := wordOf a bs k
      let r := if isHbm k then c.1.writeHbm k w.1 w.2.1 w.2.2 (coversUnit a bs.length k)
               else (c.1.writeChip k w.1 w.2.1 w.2.2, true)
      if r.2 = false then r else r.1.writeSpan who a bs n (k + 8)

/-- A write of bytes at a device address, and whether no error response came. -/
def State.devWrite (s : State) (who : Req) (a : Nat) (bs : List PByte) : State × Bool :=
  if bs.length = 0 then (s, true) else s.writeSpan who a bs ((a + bs.length + 7) / 8 - a / 8) (a - a % 8)

/-- Bytes written to an on-chip memory at its internal address, word by word: n words from word k on. -/
def State.chipSpan (s : State) (a : Nat) (bs : List PByte) : Nat → Nat → State
  | 0, _ => s
  | n + 1, k =>
    let w := wordOf a bs k
    (s.writeChip k w.1 w.2.1 w.2.2).chipSpan a bs n (k + 8)
def State.chipWrite (s : State) (a : Nat) (bs : List PByte) : State :=
  if bs.length = 0 then s else s.chipSpan a bs ((a + bs.length + 7) / 8 - a / 8) (a - a % 8)

/-- Plain bytes without a poison marker. -/
def plain (bs : Bytes) : List PByte := bs.map (fun b => (b, false))
/-- The bytes without their markers. -/
def unmark (bs : List PByte) : Bytes := bs.map (fun b => b.1)
/-- Some byte carries the marker. -/
def anyPoison (bs : List PByte) : Bool := bs.any (fun b => b.2)

/-! ## A tile's own data memory -/

/-- A read of the 4-byte element at tile address x, as the core or the tile DMA makes it. -/
def State.readElem (s : State) (d t x : Nat) : State × W32 × Bool :=
  let r := s.readChip (tileAddr d t (x - x % 8))
  (r.1, if x % 8 < 4 then r.2.1.setWidth 32 else (r.2.1 >>> 32).setWidth 32, r.2.2)

/-- A write of n bytes (n at most 4, within one word) at tile address x. -/
def State.writeElem (s : State) (d t x n : Nat) (v : W32) (poison : Bool) : State :=
  let mask := (2 ^ n - 1) <<< (x % 8)
  s.writeChip (tileAddr d t (x - x % 8)) (v.setWidth 64 <<< (8 * (x % 8))) mask (if poison then mask else 0)

/-- A number put in its place among rising numbers, once. -/
def insertNat (k : Nat) : List Nat → List Nat
  | [] => [k]
  | a :: l => if k < a then k :: a :: l else if k = a then a :: l else a :: insertNat k l

/-- The words that hold the elements at a list of tile addresses, rising: each is read once, in this order (R175). -/
def elemWords (xs : List Nat) : List Nat := xs.foldr (fun x l => insertNat (x - x % 8) l) []

/-- Words of a tile's data memory read in order. -/
def State.readTileWords (s : State) (d t : Nat) : List Nat → State × List (Nat × W64 × Bool)
  | [] => (s, [])
  | k :: ks =>
    let r := s.readChip (tileAddr d t k)
    let q := r.1.readTileWords d t ks
    (q.1, (k, r.2.1, r.2.2) :: q.2)

/-- The 4-byte elements at a list of tile addresses, and whether any word was uncorrectable. -/
def State.readElems (s : State) (d t : Nat) (xs : List Nat) : State × List W32 × Bool :=
  let r := s.readTileWords d t (elemWords xs)
  let word : Nat → W64 := fun x => match r.2.find? (fun e => decide (e.1 = x - x % 8)) with | some e => e.2.1 | none => 0
  (r.1, xs.map (fun x => if x % 8 < 4 then (word x).setWidth 32 else ((word x) >>> 32).setWidth 32), r.2.any (fun e => e.2.2))

/-- Two halves of a word that an access covers together are one whole-word write (R171): a list of element writes is carried
out word by word. -/
def State.writeElems (s : State) (d t : Nat) : List (Nat × W32 × Bool) → State
  | [] => s
  | [e] => s.writeElem d t e.1 4 e.2.1 e.2.2
  | e :: f :: es =>
    if e.1 % 8 = 0 ∧ f.1 = e.1 + 4 then
      (s.writeChip (tileAddr d t e.1) (f.2.1 ++ e.2.1) 255 (if e.2.2 || f.2.2 then 255 else 0)).writeElems d t es
    else (s.writeElem d t e.1 4 e.2.1 e.2.2).writeElems d t (f :: es)

end Sys2Proof.Machine
end

