-- ==== Sys2Proof/Machine/Sched.lean ====
section
/-! DEFINITION. The Sluice's shared operations (ch. 06): descriptor fields, the task table, what a task's end does, marks and
gates, group halts, abandonment, departures, and the choice of a cluster, a Hopper head and a tile. -/

namespace Sys2Proof.Machine

open Sys2Proof

/-! ## Descriptor fields (R132) -/

def Task.tag (t : Task) : Nat := bitsOf t.desc 31 0
def Task.flow (t : Task) : Nat := bitsOf t.desc 43 32
def Task.cg (t : Task) : Nat := bitsOf t.desc 49 44
def Task.prio (t : Task) : Nat := bitsOf t.desc 52 50
def Task.dlMode (t : Task) : Nat := bitsOf t.desc 55 54
def Task.kid (t : Task) : Nat := bitsOf t.desc 63 56
def Task.affinity (t : Task) : Nat := bitsOf t.desc 87 64
def Task.engine (t : Task) : Nat := bitsOf t.desc 91 88
def Task.gate (t : Task) : Nat := bitsOf t.desc 93 92
def Task.cq (t : Task) : Nat := bitsOf t.desc 103 96
def Task.sigEvt (t : Task) : Nat := bitsOf t.desc 111 104
def Task.sigEn (t : Task) : Bool := bit t.desc 112
def Task.partner (t : Task) : Nat := bitsOf t.desc 118 113
def Task.partnerEn (t : Task) : Bool := bit t.desc 119
def Task.deadline (t : Task) : W64 := t.desc.extractLsb' 128 64
def Task.gateVal (t : Task) : W64 := t.desc.extractLsb' 192 64
def Task.argp (t : Task) : W64 := t.desc.extractLsb' 256 64
def Task.arg (t : Task) (i : Nat) : W32 := t.desc.extractLsb' (320 + 32 * i) 32

/-- Check 1 of R136: a reserved bit or an invalid value. -/
def Task.malformed (t : Task) : Bool :=
  bit t.desc 53 || decide (bitsOf t.desc 95 94 ≠ 0) || decide (bitsOf t.desc 127 120 ≠ 0) || decide (bitsOf t.desc 511 448 ≠ 0)
  || decide (t.dlMode = 3) || decide (t.gate = 3) || decide (6 ≤ t.engine)
  || (decide (t.gate = 2) && (decide (bitsOf t.desc 207 200 ≠ 0) || decide (bitsOf t.desc 255 224 ≠ 0)))

/-- The one quadrant of an accelerator job (R132); none where AFFINITY does not name exactly one. -/
def Task.jobQuad (t : Task) : Option Nat :=
  if t.affinity = 1 then some 0 else if t.affinity = 2 then some 1 else if t.affinity = 4 then some 2
  else if t.affinity = 8 then some 3 else none

/-! ## Where a task is -/

def Place.inService : Place → Bool
  | .tile _ _ => true | .engine _ _ => true | .reported => true | _ => false
def Place.placed : Place → Bool
  | .hopper _ => true | .engQ _ _ => true | _ => false
def Task.ended (t : Task) : Bool := decide (t.place = .ended)
/-- Queued under R65. -/
def Task.queued (t : Task) : Bool := decide (t.place = .parked) || t.place.placed
/-- CANCEL, STOP, EXPIRED or DEPARTED. -/
def Task.marked (t : Task) : Bool := t.cancel || t.stop || t.expired || t.departed

def State.tasks (s : State) : List Task := s.sluice.tasks
def State.setTasks (s : State) (l : List Task) : State := { s with sluice := { s.sluice with tasks := l } }
/-- Every task for which p holds is changed by f. -/
def State.mapTasks (s : State) (p : Task → Bool) (f : Task → Task) : State :=
  s.setTasks (s.tasks.map (fun t => if p t then f t else t))
/-- The task of a ring and full count. -/
def Task.is (r q : Nat) (t : Task) : Bool := decide (t.ring = r) && decide (t.seq = q)
def State.findTask (s : State) (r q : Nat) : Option Task := s.tasks.find? (Task.is r q)
def State.mapTask (s : State) (r q : Nat) (f : Task → Task) : State := s.mapTasks (Task.is r q) f
/-- The oldest task of a ring with a 16-bit count for which p holds. -/
def State.named (s : State) (r : Nat) (q : W16) (p : Task → Bool) : Option Task :=
  s.tasks.find? (fun t => decide (t.ring = r) && decide (t.seq % 65536 = q.toNat) && p t)
/-- The full count of a task fetched with the ring's count n: no task of the ring has it. -/
def State.newSeq (s : State) (r n : Nat) : Nat :=
  (((List.range (s.tasks.length + 1)).map (fun k => n + 65536 * k)).find? (fun q => (s.findTask r q).isNone)).getD n
/-- The flow head: the oldest task of a flow that has not ended (R137). -/
def State.flowHead (s : State) (f : Nat) : Option Task := s.tasks.find? (fun t => decide (t.flow = f) && !t.ended)

/-- Tasks of a group in service, and queued (R65). -/
def State.cgInService (s : State) (g : Nat) : Nat := (s.tasks.filter (fun t => decide (t.cg = g) && t.place.inService)).length
def State.cgQueued (s : State) (g : Nat) : Nat := (s.tasks.filter (fun t => decide (t.cg = g) && t.queued)).length

/-! ## Flows -/

/-- FLOW_CG of a flow: enabled, and its group (R155). -/
def flowCgKey (f : Nat) : Nat := pgFLOW (1 + f / 1024) + 0x040 + 4 * (f % 1024 / 4)
def State.flowByte (s : State) (f : Nat) : Nat := s.fld (flowCgKey f) (8 * (f % 4) + 7) (8 * (f % 4))
def State.flowEnabled (s : State) (f : Nat) : Bool := decide (128 ≤ s.flowByte f)
def State.flowCg (s : State) (f : Nat) : Nat := s.flowByte f % 64
/-- The live policy is STOP (R153). -/
def State.flowStopPolicy (s : State) (f : Nat) : Bool := s.rowBit (pgFLOW 0 + 0x840) f
def State.flowStopped (s : State) (f : Nat) : Bool := s.rowBit (pgFLOW 0 + 0x240) f

/-! ## Clocks -/

def cluSlot (d : Nat) : Nat := qSlot (d / 6) (40 + 2 * (d % 6))
def cmemSlot (d : Nat) : Nat := qSlot (d / 6) (41 + 2 * (d % 6))
def engSlot (q e : Nat) : Nat := qSlot q (16 + e)

/-- CLK_VANE of a quadrant in MHz, by its level (R29). -/
def State.vaneMHz (s : State) (q : Nat) : Nat :=
  match s.fld (pgDPWR + 0x040 + 4 * q) 26 24 with
  | 0 => 1600 | 1 => 1400 | 2 => 1200 | 3 => 1000 | 4 => 800 | _ => 600

/-- CLK_VANE_d runs: the quadrant is on and the cluster above NAP. -/
def State.vaneRuns (s : State) (d : Nat) : Bool := !s.quadDark (d / 6) && decide (s.slotState (cluSlot d) < 2)
/-- CLK_VANE time of a cluster, in thousandths of a cycle. -/
def State.vaneNow (s : State) (d : Nat) : Nat := tabGet (fun _ => 0) s.sluice.vane d
/-- Whole CLK_VANE cycles of a cluster since a time. -/
def State.vaneSince (s : State) (d t : Nat) : Nat := (s.vaneNow d - t) / 1000
/-- A nanosecond passes: MHz thousandths of a cycle in every cluster whose clock runs. -/
def State.vaneTick (s : State) : State :=
  { s with sluice := { s.sluice with
      vane := (List.range 24).foldl (fun t d => if s.vaneRuns d then tabSet (fun _ => 0) t d (s.vaneNow d + s.vaneMHz (d / 6)) else t)
        s.sluice.vane } }

/-! ## Events -/

def State.evtCount (s : State) (e : Nat) : W16 := tabGet (fun _ => 0) s.sluice.evt e
/-- Whether a gate stands open (R139). -/
def State.gateOpen (s : State) (t : Task) : Bool :=
  match t.gate with
  | 0 => true
  | 1 => decide (0 ≤ timeDiff s.pt t.gateVal)
  | _ => decide (0 ≤ (s.evtCount (bitsOf t.gateVal 7 0) - BitVec.ofNat 16 (bitsOf t.gateVal 31 16)).toInt)
/-- READY of a waiting task gated on an event. -/
def State.regate (s : State) : State :=
  s.mapTasks (fun t => decide (t.place = .parked) && decide (t.gate = 2) && !t.ready && s.gateOpen t) (fun t => { t with ready := true })
/-- An event count grows (R140). -/
def State.evtAdd (s : State) (e n : Nat) : State :=
  State.regate { s with sluice := { s.sluice with evt := tabSet (fun _ => 0) s.sluice.evt e (s.evtCount e + BitVec.ofNat 16 n) } }

/-! ## Deadlines -/

/-- The deadline has passed at presented time x (R148). -/
def Task.missed (t : Task) (x : W64) : Bool := decide (t.dlMode ≠ 0) && decide (0 < timeDiff x t.deadline)

/-! ## Kernels -/

def kern0 : Nat → Kernel := fun _ => {}
def State.kernel (s : State) (d k : Nat) : Kernel := tabGet kern0 s.sluice.kern (256 * d + k)
def State.setKernel (s : State) (d k : Nat) (x : Kernel) : State :=
  { s with sluice := { s.sluice with kern := tabSet kern0 s.sluice.kern (256 * d + k) x } }
def State.barred (s : State) (d t k : Nat) : Bool := tabGet (fun _ => false) s.sluice.barred (2048 * d + 256 * t + k)
/-- A kernel is runnable in a cluster (R21, R142). -/
def State.runnable (s : State) (d k : Nat) : Bool :=
  (s.kernel d k).valid && (List.range 8).any (fun t => !s.barred d t k)

/-! ## Completion order -/

/-- The oldest task that names a completion queue. -/
def State.cqFirst (s : State) (c : Nat) : Option Task := s.tasks.find? (fun t => decide (t.cq = c))
/-- What one cycle does: of the records that it made ready, the lower-numbered queue's comes first (R159). -/
def State.inOneCycle (s : State) (f : State → State) : State :=
  let t := f s
  let n := s.sluice.readyQ.length
  { t with sluice := { t.sluice with readyQ := t.sluice.readyQ.take n ++ (t.sluice.readyQ.drop n).foldr insertNat [] } }

/-- A queue whose oldest task has ended joins the queues with a ready record (R159). -/
def State.noteReady (s : State) (c : Nat) : State :=
  match s.cqFirst c with
  | some t => if t.ended && !s.sluice.readyQ.contains c then { s with sluice := { s.sluice with readyQ := s.sluice.readyQ ++ [c] } } else s
  | none => s

/-! ## The end of a task -/

/-- STATUS codes of R158. -/
def stOK : Nat := 0
def stCancelled : Nat := 1
def stHalted : Nat := 2
def stPoisoned : Nat := 3
def stLate : Nat := 4
def stFlowStopped : Nat := 5
def stPartnerLost : Nat := 6
def stQuadrantLost : Nat := 7

/-- The miss count of a flow grows (R148). -/
def State.countMiss (s : State) (f : Nat) : State :=
  s.inc (pgFLOW (5 + f / 2048) + 0x040 + 4 * (f % 2048 / 4)) (8 * (f % 4) + 7) (8 * (f % 4)) 1

/-- A STOP flow enters STOPPED, and its later tasks take STOP (R153). -/
def State.stopFlow (s : State) (f : Nat) : State :=
  (s.setRowBit (pgFLOW 0 + 0x240) f true).mapTasks (fun t => decide (t.flow = f) && t.queued) (fun t => { t with stop := true })

/-- A task ends with a status (R138, R148, R153, R140). -/
def State.endTask (s : State) (t : Task) (status : Nat) (finish : W64) (loc : W16) : State :=
  let s1 := s.mapTask t.ring t.seq (fun u => { u with place := .ended, status := status, finish := finish, loc := loc })
  let s2 := if status = stLate then s1.countMiss t.flow else s1
  let s3 :=
    if s.flowStopPolicy t.flow = true ∧ (status = stPoisoned ∨ status = stPartnerLost ∨ status = stQuadrantLost) then s2.stopFlow t.flow
    else s2
  let s4 := if t.sigEn then s3.evtAdd t.sigEvt 1 else s3
  s4.noteReady t.cq

/-- A job whose quadrant its group treats as fenced, once no request accepted before the fence is outstanding
(R349, R351). -/
def State.jobLost (s : State) (t : Task) : Bool :=
  match t.jobQuad with
  | some q => decide (t.engine ≠ 0) && t.ready && s.cgRunning t.cg && s.qlost q t.cg && decide (s.fencePhase q ≠ 1)
  | none => false

/-- A placed task stands in a fenced quadrant. -/
def State.placedFenced (s : State) (t : Task) : Bool :=
  match t.place with
  | .hopper d => s.fenced (d / 6)
  | .engQ q _ => s.fenced q
  | _ => s.jobLost t

/-- The status of a task that ends without being dispatched (R150). -/
def State.waitStatus (s : State) (t : Task) : Nat :=
  if s.placedFenced t then stQuadrantLost
  else if s.cgPhase t.cg = 2 ∨ t.haltFetch = true then stHalted
  else if t.cancel then stCancelled
  else if t.stop then stFlowStopped
  else if t.departed then stPartnerLost
  else if t.expired then stLate
  else stPoisoned

/-- A waiting task must end now (R138). -/
def State.mustEnd (s : State) (t : Task) : Bool :=
  match t.place with
  | .parked =>
    (t.marked || t.haltFetch || decide (s.cgPhase t.cg = 2) || s.jobLost t)
    && (match s.flowHead t.flow with | some h => Task.is t.ring t.seq h | none => false)
  | .hopper d => decide (s.cgPhase t.cg = 2) && !s.fenced (d / 6)
  | .engQ q _ => decide (s.cgPhase t.cg = 2) && !s.fenced q
  | _ => false

/-- A STOPPING group whose dispatch has stopped and which has nothing in service goes to FLUSHING (R66). -/
def State.mustFlush (s : State) (g : Nat) : Bool :=
  decide (s.cgPhase g = 1) && tabGet (fun _ => false) s.cgStop g && decide (s.cgInService g = 0)

def State.setPhase (s : State) (g p : Nat) : State := s.put (pgCG g + 0x048) 2 0 p

/-- Everything that follows at once from the present marks, phases and flow heads, in fetch order (R137, R138, R66). -/
def State.settleN : Nat → State → State
  | 0, s => s
  | n + 1, s =>
    match s.tasks.find? s.mustEnd with
    | some t => State.settleN n (s.endTask t (s.waitStatus t) s.pt 0)
    | none =>
      match (List.range 64).find? s.mustFlush with
      | some g => State.settleN n (s.setPhase g 2)
      | none => s

def State.settle (s : State) : State := s.inOneCycle (fun t => State.settleN (t.tasks.length + 65) t)

/-- A task ends, with all that follows in the same cycle. -/
def State.endNow (s : State) (t : Task) (status : Nat) (finish : W64) (loc : W16) : State :=
  s.inOneCycle (fun u => (u.endTask t status finish loc).settle)

/-- A task ends without dispatch, with what follows. -/
def State.endWaiting (s : State) (t : Task) (status : Nat) : State := s.endNow t status s.pt 0

/-- The departure count of a partner entry. -/
def State.depCount (s : State) (e : Nat) : W8 := tabGet (fun _ => 0) s.sluice.dep e

/-- A partner entry departs (R149): waiting tasks take DEPARTED. -/
def State.partnerDeparts (s : State) (e : Nat) : State :=
  ({ s with sluice := { s.sluice with dep := tabSet (fun _ => 0) s.sluice.dep e (s.depCount e + 1) } } : State).mapTasks
    (fun t => t.partnerEn && decide (t.partner = e) && t.queued) (fun t => { t with departed := true })

/-! ## The finish of a task in service -/

/-- The tile's task has finished; its time in the load window is added and the tile idles (R145, R161). -/
def State.freeTile (s : State) (d t : Nat) : State :=
  let i := 8 * d + t
  let b := tabGet (fun _ => 0) s.sluice.busy i + (s.vaneNow d - tabGet (fun _ => 0) s.sluice.busyFrom i)
  { s with
    tiles := tabErase s.tiles i,
    sluice := { s.sluice with
      busy := tabSet (fun _ => 0) s.sluice.busy i b,
      idle := tabSet (fun _ => 0) s.sluice.idle i s.sluice.stamp,
      stamp := s.sluice.stamp + 1 } }

/-- The finish report of a task: the time, unless it was abandoned, and whether its partner departed (R149, R152). -/
def State.reportTask (s : State) (t : Task) (loc : W16) : State :=
  let gone := t.partnerEn && decide (s.depCount t.partner ≠ BitVec.ofNat 8 t.dep)
  s.mapTask t.ring t.seq (fun u => { u with
    place := .reported, finish := if u.abandoned then u.finish else s.pt, partnerLost := gone, loc := loc })

/-- The status of a dispatched task (R152). -/
def Task.serviceStatus (t : Task) : Nat :=
  if t.lost then stQuadrantLost
  else if t.poisoned then stPoisoned
  else if t.abandoned then stHalted
  else if t.partnerLost then stPartnerLost
  else if t.missed t.finish then stLate
  else stOK

/-! ## Tiles in the hands of the Sluice -/

/-- A tile stops issue for good: windows disarmed, the running coprocessor operation stopped, its queue discarded; it then
drains its DMA writes (R96, R104, R127). -/
def Tile.halt (x : Tile) (p : TilePhase) : Tile :=
  { x with phase := p, win := [], snap := none, xDst := [], stallX := false, stallY := false, copQ := [], copStop := x.copUnit.isSome }

/-- A task in service is abandoned (R66): its tile or unit stops and drains, and it completes HALTED. -/
def State.abandonTask (s : State) (t : Task) : State :=
  let s1 := s.mapTask t.ring t.seq (fun u => { u with abandoned := true, finish := s.pt })
  match t.place with
  | .tile d k => s1.setTile d k ((s1.tile d k).halt .faulted)
  | _ => s1

/-- Every task of a group on a tile or engine is abandoned; in DRAIN each is counted (R66, R74). -/
def State.abandonGroup (s : State) (g : Nat) : State :=
  let l := s.tasks.filter (fun t => decide (t.cg = g) && !t.abandoned
    && (match t.place with | .tile _ _ => true | .engine _ _ => true | _ => false))
  let s1 := l.foldl State.abandonTask s
  if s.mode = 4 then s1.inc (pgDEV + 0x04C) 15 0 l.length else s1

/-! ## Halting a group -/

/-- HALT of a group with a cause: 0 host, 1 FUNCTION fault, 2 DRAIN (R66, R70). -/
def State.haltGroup (s : State) (g cause : Nat) : State :=
  let pg := pgCG g
  if s.cgPhase g = 0 then
    State.settle { ((s.setPhase g 1).put (pg + 0x048) 9 8 cause).put (pg + 0x048) 10 10 0 with cgStop := tabErase s.cgStop g }
  else if s.cgPhase g = 4 then
    if cause = 1 then { s with cgFault := tabSet (fun _ => false) s.cgFault g true }
    else
      State.settle { ((s.setPhase g 2).put (pg + 0x048) 9 8 cause).put (pg + 0x048) 10 10 0 with cgFault := tabErase s.cgFault g }
  else s

/-! ## Placement -/

/-- A cluster is in the effective affinity of a task (R141, R351). -/
def State.inAffinity (s : State) (t : Task) (d : Nat) : Bool :=
  t.affinity.testBit d && s.cgLive t.cg (d / 6) && !s.fenced (d / 6) && !s.qlost (d / 6) t.cg

def State.hopper (s : State) (d p : Nat) : List Task :=
  s.tasks.filter (fun t => decide (t.place = .hopper d) && decide (t.prio = p))

/-- The score of a cluster for priority p (R142). -/
def State.score (s : State) (d p : Nat) : Nat :=
  ((List.range (p + 1)).map (fun k => (s.hopper d k).length)).sum
  + ((List.range 8).filter (fun k => decide ((s.tile d k).phase ≠ .idle))).length

/-- The element of a list with the least key, the earliest on a tie. -/
def leastBy {α : Type} (key : α → Nat) : List α → Option α
  | [] => none
  | x :: xs => match leastBy key xs with
    | none => some x
    | some y => if key y < key x then some y else some x

/-- The clusters whose Hopper may take a tile task (R142). -/
def State.candidates (s : State) (t : Task) : List Nat :=
  (List.range 24).filter (fun d => s.inAffinity t d && s.runnable d t.kid && decide ((s.hopper d t.prio).length < 512))

/-- The cluster a ready tile task goes to (R142): first those at ACTIVE or IDLE, then the least score, then the lower d. -/
def State.chooseCluster (s : State) (t : Task) : Option Nat :=
  let cand := s.candidates t
  let up := cand.filter (fun d => decide (s.slotState (cluSlot d) < 2))
  leastBy (fun d => s.score d t.prio) (if up.isEmpty then cand else up)

/-- The cluster of a Hopper; an engine's queue counts no cycles. -/
def Place.hopperOf : Place → Option Nat
  | .hopper d => some d
  | _ => none

/-- A task enters a Hopper or an engine queue. -/
def State.enter (s : State) (t : Task) (p : Place) : State :=
  ({ s with sluice := { s.sluice with stamp := s.sluice.stamp + 1 } } : State).mapTask t.ring t.seq
    (fun u => { u with place := p, stamp := s.sluice.stamp, enterCyc := match p.hopperOf with | some d => s.vaneNow d | none => 0 })

/-- PEAK of a Hopper (R161). -/
def State.notePeak (s : State) (d p : Nat) : State :=
  let n := (s.hopper d p).length
  if s.fld (pgCLU d + 0x084 + 4 * p) 25 16 < n then s.put (pgCLU d + 0x084 + 4 * p) 25 16 n else s

def State.engQueue (s : State) (q e p : Nat) : List Task :=
  s.tasks.filter (fun t => decide (t.place = .engQ q e) && decide (t.prio = p))

/-- A flow head that is ready to be placed (R138). -/
def State.placeable (s : State) (t : Task) : Bool :=
  decide (t.place = .parked) && t.ready && !t.marked && !t.haltFetch && s.cgRunning t.cg
  && (match s.flowHead t.flow with | some h => Task.is t.ring t.seq h | none => false)

/-- An older task that is ready to be placed would take the same Hopper or engine queue: it goes first (R143). -/
def State.outwaited (s : State) (t : Task) (p : Place) : Bool :=
  (s.tasks.takeWhile (fun u => !Task.is t.ring t.seq u)).any (fun u => s.placeable u && decide (u.prio = t.prio) &&
    (match p with
      | .hopper d => decide (u.engine = 0) && (s.candidates u).contains d
      | .engQ q e => decide (u.engine = e + 1) && decide (u.jobQuad = some q)
      | _ => false))

/-- A ready flow head of a running group is placed, waits for room, or ends (R138, R142, R143). -/
def State.placeHead (s : State) (f : Nat) : State :=
  match s.flowHead f with
  | none => s
  | some t =>
    if s.placeable t then
      if t.engine = 0 then
        if (List.range 24).any (fun d => s.inAffinity t d && s.runnable d t.kid) = false then
          (s.endWaiting t stPoisoned).raise pgSLC 1
        else match s.chooseCluster t with
          | some d => if s.outwaited t (.hopper d) then s else (s.enter t (.hopper d)).notePeak d t.prio
          | none => s
      else match t.jobQuad with
        | some q =>
          if s.fenced q = false ∧ s.qlost q t.cg = false ∧ (s.engQueue q (t.engine - 1) t.prio).length < 64
              ∧ s.outwaited t (.engQ q (t.engine - 1)) = false then
            s.enter t (.engQ q (t.engine - 1))
          else s
        | none => s
    else s

/-! ## Dispatch -/

/-- A placed task may be selected: its group runs, or its halt has not yet stopped dispatch (R66, R138). -/
def State.selectable (s : State) (t : Task) : Bool :=
  s.cgRunning t.cg || (decide (s.cgPhase t.cg = 1) && !tabGet (fun _ => false) s.cgStop t.cg)

/-- The oldest selectable entry of a queue. -/
def State.queueHead (s : State) (l : List Task) : Option Task := leastBy (fun t => t.stamp) (l.filter s.selectable)

/-- The effective level of a Hopper head (R144). -/
def State.effLevel (s : State) (d : Nat) (t : Task) : Nat :=
  let cfg := s.reg (pgCLU d + 0x080)
  let floor := bitsOf cfg 2 0
  let step := max (bitsOf cfg 23 16) 1
  let w := s.vaneSince d t.enterCyc
  if bit cfg 31 = false ∨ t.prio ≤ floor then t.prio else max floor (t.prio - w / (step * 256))

/-- The Hopper head a cluster selects (R144): least level, then the longer wait, then the lower priority number. -/
def State.selectHead (s : State) (d : Nat) : Option Task :=
  let heads := (List.range 8).filterMap (fun p => s.queueHead (s.hopper d p))
  match leastBy (s.effLevel d) heads with
  | none => none
  | some m => leastBy (fun t => t.enterCyc) (heads.filter (fun t => decide (s.effLevel d t = s.effLevel d m)))

/-- The idle tile that takes a task: not barred for its kernel, idle longest, the lowest on a tie (R145). -/
def State.chooseTile (s : State) (d k : Nat) : Option Nat :=
  leastBy (fun t => tabGet (fun _ => 0) s.sluice.idle (8 * d + t))
    ((List.range 8).filter (fun t => decide ((s.tile d t).phase = .idle) && !s.barred d t k))

/-- The registers at task entry (R94, R95). -/
def State.entryRegs (s : State) (d : Nat) (t : Task) (entry : Nat) : TileRegs :=
  let v : List (Nat × W32) :=
    [ (0, t.argp.setWidth 32), (1, (t.argp >>> 32).setWidth 32), (2, BitVec.ofNat 32 t.tag)
    , (3, BitVec.ofNat 32 (t.prio * 0x4000000 + t.cg * 0x40000 + t.flow))
    , (4, t.arg 0), (5, t.arg 1), (6, t.arg 2), (7, t.arg 3) ]
  { s := v.filter (fun p => decide (p.2 ≠ 0)), pc := entry, rndReg := bit (s.reg (pgCLU d + 0x040)) 0,
    rndNext := bit (s.reg (pgCLU d + 0x040)) 0, rnd := bit (s.reg (pgCLU d + 0x040)) 0 }

/-- The bin of a wait of w cycles (R161). -/
def waitBin (b w : Nat) : Nat := ((List.range 16).find? (fun k => decide (w < 2 ^ (b + k)) || decide (k = 15))).getD 15

/-- The wait of a dispatched task in the histogram. -/
def State.countWait (s : State) (d : Nat) (t : Task) : State :=
  let w := s.vaneSince d t.enterCyc
  let key := pgCLU d + 0x400 + 64 * t.prio + 4 * waitBin (min (s.fld (pgCLU d + 0x0A4) 4 0) 17) w
  let s1 := s.inc key 31 0 1
  if s.reg key = 0xFFFFFFFF then s1.raise (pgCLU d) 17 else s1

/-- A task starts on a tile (R94 to R97, R145). The tags of its coprocessor instructions begin at 0 (DESIGN CHOICE: R113 names no first
tag). -/
def State.startTask (s : State) (d k : Nat) (t : Task) : State :=
  let e := s.kernel d t.kid
  let s1 := (s.countWait d t).clearTile d k
  let s2 := s1.mapTask t.ring t.seq (fun u => { u with place := .tile d k })
  let s3 := s2.setTile d k
    { phase := .running, ring := t.ring, seq := t.seq, cg := t.cg, kid := t.kid, kbase := e.base, klen := e.len,
      limitKc := s.fld (pgCLU d + 0x044) 23 0, startCyc := s.vaneNow d, regs := s.entryRegs d t e.entry }
  { s3 with sluice := { s3.sluice with busyFrom := tabSet (fun _ => 0) s3.sluice.busyFrom (8 * d + k) (s.vaneNow d) } }

/-- The dispatch check on marks and deadline (R145): the task with EXPIRED set when its deadline has passed. -/
def State.checkMarks (s : State) (t : Task) : Task × Bool :=
  let t' := if t.dlMode = 2 ∧ t.missed s.pt = true then { t with expired := true } else t
  (t', t'.marked)

end Sys2Proof.Machine
end

