-- ==== Sys2Proof/Machine/Kernel.lean ====
section
/-! DEFINITION. Kernel loads and the kernel table (R109 to R111). -/

namespace Sys2Proof.Machine

open Sys2Proof

/-- Tiles of a cluster in service with a kernel. -/
def State.kernelUsers (s : State) (d k : Nat) : Nat :=
  ((List.range 8).filter (fun t => decide ((s.tile d t).phase ≠ .idle) && decide ((s.tile d t).kid = k))).length

/-- VALID = 1 or DRAINING = 1. -/
def State.kernelHeld (s : State) (d k : Nat) : Bool := (s.kernel d k).valid || decide (s.kernelUsers d k ≠ 0)

/-- The span of a held kernel meets bundles lo to lo + len - 1. -/
def State.spanTaken (s : State) (d lo len : Nat) : Bool :=
  (List.range 256).any (fun k =>
    s.kernelHeld d k && decide (lo < (s.kernel d k).base + (s.kernel d k).len) && decide ((s.kernel d k).base < lo + len))

/-- GO in CLU_KLOAD_CTRL (R109, R110). -/
def State.kloadGo (s : State) (d kid : Nat) : State :=
  let pg := pgCLU d
  let dst := s.fld (pg + 0x054) 13 0
  let len := s.fld (pg + 0x050) 14 0
  let entry := s.fld (pg + 0x050) 29 16
  if s.fld (pg + 0x05C) 0 0 = 1 then s.raise pg 9
  else if s.kernelHeld d kid = true ∨ s.spanTaken d dst len = true ∨ 16384 < dst + len ∨ len ≤ entry then
    ((s.put (pg + 0x05C) 2 1 2).put (pg + 0x05C) 15 8 kid).raise pg 9
  else
    let src := (s.reg64 (pg + 0x048)).toNat
    let s1 := s.setReg (pg + 0x05C) (BitVec.ofNat 32 (kid * 256 + 1))
    { s1 with sluice := { s1.sluice with
        kload := tabSet (fun _ => none) s1.sluice.kload d (some ⟨kid, src - src % 8, dst, len, entry⟩) } }

def execKloadGo (d : Clu) (kid : W8) (s : State) : Host.Outcome State Fault Refusal :=
  .next (s.access (pgCLU d + 0x058) (fun s => s.kloadGo d kid.toNat))

/-- The words of a list of bytes, before the first marked one, and whether none was marked. -/
def cleanWords : List PByte → List W64
  | a :: b :: c :: d :: e :: f :: g :: h :: rest =>
    if [a, b, c, d, e, f, g, h].any (fun x => x.2) then []
    else BitVec.ofNat 64 (natLE ([a, b, c, d, e, f, g, h].map (fun x => x.1))) :: cleanWords rest
  | _ => []

/-- A bundle written into all eight tiles of a cluster. -/
def State.writeBundle (s : State) (d b : Nat) (x : W64) : State :=
  (List.range 8).foldl (fun t k => t.storeWord (progAddr d k (8 * b)) x 0) s

/-- Bundles written into all eight tiles of a cluster, from bundle b on. -/
def State.writeBundles (s : State) (d b : Nat) (xs : List W64) : State :=
  (xs.zip (List.range xs.length)).foldl (fun t p => t.writeBundle d (b + p.2) p.1) s

/-- R110: the load reads its source and ends. -/
def execKloadDone (d : Clu) (s : State) : Host.Outcome State Fault Refusal :=
  .next (match tabGet (fun _ => none) s.sluice.kload d.val with
    | none => s
    | some j =>
      let pg := pgCLU d
      let r := s.devRead {} j.src (8 * j.len)
      let words := cleanWords r.2.1
      let s1 := (r.1.writeBundles d j.dst words)
      let s2 : State := { s1 with sluice := { s1.sluice with kload := tabErase s1.sluice.kload d.val } }
      if r.2.2 = true ∧ words.length = j.len then
        let s3 := s2.setKernel d j.kid ⟨true, j.dst + j.entry, j.dst, j.len⟩
        let s4 : State := { s3 with sluice := { s3.sluice with
          barred := tabDrop s3.sluice.barred (fun x => decide (x / 2048 = d.val) && decide (x % 256 = j.kid)) } }
        (((s4.put (pg + 0x05C) 2 1 1).put (pg + 0x05C) 0 0 0)).irqBit pg 0
      else (((s2.put (pg + 0x05C) 2 1 3).put (pg + 0x05C) 0 0 0).raise pg 10).irqBit pg 0)

/-- R111: VALID = 0 written to the entry CLU_KTAB_IDX selects. -/
def State.kernelInvalidate (s : State) (d : Nat) : State :=
  let k := s.fld (pgCLU d + 0x060) 7 0
  s.setKernel d k { s.kernel d k with valid := false }

def execKernelInvalidate (d : Clu) (s : State) : Host.Outcome State Fault Refusal :=
  .next (s.access (pgCLU d + 0x064) (fun s => s.kernelInvalidate d))

end Sys2Proof.Machine
end

