-- ==== Sys2Proof/Machine/MemOps.lean ====
section
/-! DEFINITION. The commands of chapter 07: reads and writes of memory, the merge buffers, clearing, scrubs and fills, the
correctable-error log, retirement, and the stacks' row retirement and temperature. -/

namespace Sys2Proof.Machine

open Sys2Proof

/-! ## Addresses of a command -/

/-- The internal address of byte a of a space; none where the space holds no such byte. -/
def spaceAddr (sp : MemSpace) (a : Nat) : Option Nat :=
  match sp with
  | .device => some a
  | .tileData d t => if a < 0x40000 then some (tileAddr d.val t.val a) else none
  | .tileProg d t => if a < 0x20000 then some (progAddr d.val t.val a) else none

/-- A tile runs a task of the requester's group: its data memory is private to that task, and what lands in its windows comes by a
stream of the same group (R22, R165). -/
def State.tileServes (s : State) (d t : Nat) (who : Requester) : Bool :=
  match who with
  | some g => decide ((s.tile d t).phase ≠ .idle) && decide ((s.tile d t).cg = g.val)
  | none => false

/-- Whether a command's access is answered, after the checks of R22, R162 and R165. Program memory is written by kernel loads, which
are unrestricted, and fetched from by the task. -/
def State.spaceCheck (s : State) (sp : MemSpace) (who : Requester) (a : Nat) : State × Bool :=
  match sp with
  | .device => s.devCheck { cg := who.map Fin.val } a
  | .tileData d t => (s, (spaceAddr (.tileData d t) a).isSome && !s.quadDark (d.val / 6) && s.tileServes d t who)
  | .tileProg d t => (s, (spaceAddr (.tileProg d t) a).isSome && !s.quadDark (d.val / 6) && (who.isNone || s.tileServes d t who))

/-- What the cells of an on-chip word do before a read (R166, R167): upset bits, and a valid cell outvoted. -/
def State.upset (s : State) (k : Nat) (up : Upset) : State :=
  let l := memLoc k
  let s1 : State :=
    if s.isValid k = true ∨ l.prog = true then
      { s with mem := { s.mem with
          ecc := tabSet zero8 s.mem.ecc k (s.syndrome k ^^^ synChange up.flip up.chk),
          flip := tabSet zero64 s.mem.flip k (tabGet zero64 s.mem.flip k ^^^ up.flip) } }
    else s
  if up.vfix = true ∧ l.prog = false then
    s1.raiseAt l.errPg 32 (if l.space = 0 then (match pageOf l.errPg with | some p => p.loc | none => 0) else l.loc) none false
  else s1

/-- The parity errors an HBM command met, ca of them in the command or address and the others in the write data (R189): each of the
first three is retried and counted; a fourth ends the request in an error response. -/
def State.parityRetries (s : State) (n : Nat) (p ca : Parity) : State × Bool :=
  let c := min (min ca.val p.val) 3
  let s1 := if p.val = 0 then s
    else ((s.inc (pgHBMC n + 0x048) 31 16 c).inc (pgHBMC n + 0x048) 15 0 (min p.val 3 - c)).raise (pgHBMC n) 5
  if p.val = 4 then (s1.raise (pgHBMC n) 6, false) else (s1, true)

/-- The answer of a memory command. -/
def State.memAnswer (s : State) (x : W64) (bad err : Bool) : State := { s with memData := x, memPoison := bad, memErr := err }

/-- R169, R173, R189: a read of the word that holds address a. -/
def execMemoryRead (sp : MemSpace) (a : W64) (who : Requester) (up : Upset) (s : State) : Host.Outcome State Fault Refusal :=
  .next (
    let c := s.spaceCheck sp who a.toNat
    match spaceAddr sp (a.toNat - a.toNat % 8), c.2 with
    | some k, true =>
      if isHbm k then
        let p := c.1.parityRetries (c.1.hbmMap (k - hbmBase)).1 up.parity up.parity
        if p.2 then
          let r := p.1.readHbm k up.sev.val
          r.1.memAnswer (if r.2.2 then r.2.1 ^^^ up.flip else r.2.1) r.2.2 false
        else p.1.memAnswer 0 false true
      else
        let r := (c.1.upset k up).readChip k
        r.1.memAnswer r.2.1 r.2.2 false
    | _, _ => c.1.memAnswer 0 false true)

/-- The eight bits of a command's byte enables or markers for word i. -/
def wordMask (m : W64) (i : Nat) : Nat := maskWord m i

/-- The words of a 64-byte line written under byte enables, and whether no error response came (R171, R190). -/
def State.writeLine (s : State) (k : Nat) (data : W512) (be : W64) (poison : W8) : State × Bool :=
  (List.range 8).foldl (fun (r : State × Bool) i =>
    if r.2 = false ∨ wordMask be i = 0 then r
    else
      let bad := if bit poison i then wordMask be i else 0
      if isHbm k then r.1.writeHbm (k + 8 * i) (lineWord data i) (wordMask be i) bad (decide (be = BitVec.allOnes 64))
      else (r.1.writeChip (k + 8 * i) (lineWord data i) (wordMask be i) bad, true)) (s, true)

/-- What a write to HBM meets before it lands: parity errors, and the read of a partial write (R189, R190). -/
def State.hbmBefore (s : State) (k : Nat) (be : W64) (par ca : Parity) (rd : Fin3) : State × Bool :=
  let p := s.parityRetries (s.hbmMap (k - hbmBase)).1 par ca
  if p.2 = false then p else if be = 0 ∨ be = BitVec.allOnes 64 then p else p.1.partialRead k rd.val

/-- R171, R172, R189, R190: a write of bytes of the 64-byte line that holds address a; bit i of poison marks word i. -/
def execMemoryWrite (sp : MemSpace) (a : W64) (data : W512) (be : W64) (poison : W8) (who : Requester) (x : Meets)
    (s : State) : Host.Outcome State Fault Refusal :=
  .next (
    let c := s.spaceCheck sp who a.toNat
    match spaceAddr sp (a.toNat - a.toNat % 64), c.2 with
    | some k, true =>
      let p := if isHbm k then c.1.hbmBefore k be x.par x.ca x.rd else (c.1, true)
      if p.2 then
        let r := p.1.writeLine k data be poison
        r.1.memAnswer 0 false (!r.2)
      else p.1.memAnswer 0 false true
    | _, _ => c.1.memAnswer 0 false true)

/-- A corrected word goes back into its cells (R169): the data bit its syndrome names flips back, and its check bits are those of the
word as it then stands. -/
def State.correctWord (s : State) (k : Nat) : State :=
  { s with mem := { s.mem with
      ecc := tabErase s.mem.ecc k,
      flip := tabSet zero64 s.mem.flip k (tabGet zero64 s.mem.flip k ^^^ eccFix (s.syndrome k)),
      wb := s.mem.wb.filter (fun j => decide (j ≠ k)) } }

/-- R169: the write-back of a corrected word, if it still waits. -/
def execEccWriteback (sp : MemSpace) (a : W64) (s : State) : Host.Outcome State Fault Refusal :=
  .next (match spaceAddr sp (a.toNat - a.toNat % 8) with
    | some k => if s.mem.wb.contains k then s.correctWord k else s
    | none => s)

/-- The upsets of a line's words, word 0 first. -/
def upsetWords (u : LineUpset) : List Upset := [u.w0, u.w1, u.w2, u.w3, u.w4, u.w5, u.w6, u.w7]

/-- The upsets of the words of an on-chip line that p names. -/
def State.upsetLine (s : State) (k : Nat) (ups : LineUpset) (p : Nat → Bool) : State :=
  ((upsetWords ups).zip (List.range 8)).foldl (fun t x => if p x.2 then t.upset (k + 8 * x.2) x.1 else t) s

/-- R172, R174: the merge-buffer line that holds address a drains, if there is one; a word it covers in part is read. -/
def execMergeLineDrain (sp : MemSpace) (a : W64) (ups : LineUpset) (s : State) : Host.Outcome State Fault Refusal :=
  .next (match spaceAddr sp (a.toNat - a.toNat % 64) with
    | some k =>
      if isHbm k || (s.devMem a.toNat).isNone && decide (sp = MemSpace.device) then s
      else
        let u := (memLoc k).unit
        match (s.mergeLines u).find? (fun l => decide (l.addr = k)) with
        | some l => (s.upsetLine k ups (fun i => decide (maskWord l.mask i ≠ 0) && decide (maskWord l.mask i ≠ 255))).drainLine u l
        | none => s
    | none => s)

/-! ## Clearing and retirement -/

/-- A write whose scope is CIST_RETIRE's is accepted: the owner group of the bank is halted, or, for a bank without an owner
group, every group touching the quadrant is (R182). -/
def State.bankOpen (s : State) (q b : Nat) : Bool :=
  if s.bankOwner q b < 0x40 then s.cgHalted (s.bankOwner q b) else s.quadHalted q

/-- R168: CLEAR in CBANK_CTRL. -/
def execCbankClear (q : Quad) (b : Bank) (s : State) : Host.Outcome State Fault Refusal :=
  .next (s.access (pgCBANK q b + 0x040) (fun s =>
    if s.bankOpen q b then s.clearBank q b else s.liveDrop (pgCBANK q b + 0x040)))

/-- R168: CLEAR in CMEM_CTRL. -/
def execCmemClear (d : Clu) (s : State) : Host.Outcome State Fault Refusal :=
  .next (s.access (pgCMEM d + 0x040) (fun s => s.clearCluster d))

/-- R182: a write of CIST_RETIRE[b]; a granule returned to use has its valid bits cleared. -/
def State.writeRetire (s : State) (q b : Nat) (v : W32) : State :=
  let key := pgCIST q + 0x050 + 4 * b
  let old := s.reg key
  if v = old then s
  else if s.bankOpen q b = false then s.liveDrop key
  else
    (indices 32 (fun g => old.getLsbD g && !v.getLsbD g)).foldl
      (fun t g => t.clearRange (12 * q + b) (cbankAddr q b + g * 0x10000) 0x10000) (s.setReg key v)

def execGranuleRetire (q : Quad) (b : Bank) (v : W32) (s : State) : Host.Outcome State Fault Refusal :=
  .next (s.access (pgCIST q + 0x050 + 4 * b) (fun s => s.writeRetire q b v))

/-- An owner value R164 lists. -/
def ownerOk (o : Nat) : Bool := decide (o ≤ 0x40) || decide (o = 0x7F)

/-- A bank goes to OFF and is held there: no entry, wake or latched wake of its slot goes on (R183, R371). -/
def State.holdOff (s : State) (q b : Nat) : State :=
  let k := qSlot q (4 + b)
  (s.setSlot k { s.slot k with st := 4, entry := .none, waking := false, latched := false }).setQuad q
    { s.quadSt q with wakeSlots := (s.quadSt q).wakeSlots.filter (fun j => decide (j ≠ k)) }

/-- R183: bank b of a quadrant changes from owner byte o to n. A retired bank is at OFF (R371). -/
def State.ownerChange (s : State) (q b o n : Nat) : State :=
  if n = 0x7F ∧ o ≠ 0x7F then (s.clearBank q b).holdOff q b
  else if o = 0x7F ∧ n ≠ 0x7F then s.clearBank q b
  else s

/-- R164, R183: a write of CIST_OWN[k]. -/
def State.writeOwner (s : State) (q k : Nat) (v : W32) : State :=
  let key := pgCIST q + 0x040 + 4 * k
  let byte := fun (x : W32) j => bitsOf x (8 * j + 7) (8 * j)
  if (List.range 4).all (fun j => ownerOk (byte v j)) = false then s.badAccess key
  else if v = s.reg key then s
  else if s.quadHalted q = false then s.liveDrop key
  else (List.range 4).foldl (fun t j => t.ownerChange q (4 * k + j) (byte (s.reg key) j) (byte v j)) (s.setReg key v)

def execBankOwnerWrite (q : Quad) (k : Fin3) (v : W32) (s : State) : Host.Outcome State Fault Refusal :=
  .next (s.access (pgCIST q + 0x040 + 4 * k) (fun s => s.writeOwner q k v))

/-! ## Scrubs and fills -/

/-- The page of a memory-control block. -/
def memCtlPg (m : Nat) : Nat := if m < 4 then pgCIST m else if m < 28 then pgCMEM (m - 4) else pgHBMC (m - 28)

def State.scrub (s : State) (m : Nat) : Scrub := tabGet (fun _ => {}) s.mem.scrub m
def State.setScrub (s : State) (m : Nat) (x : Scrub) : State :=
  { s with mem := { s.mem with scrub := tabSet (fun _ => {}) s.mem.scrub m x } }

/-- The page's own memory, as the first address and the length (R178). -/
def State.scrubWindow (s : State) (m : Nat) : Nat × Nat :=
  if m < 4 then (cisternBase + m * 0x2000000, 0x2000000)
  else if m < 28 then (clusterBase + (m - 4) * 0x200000, 0x200000)
  else if s.fld (pgHBMC 0 + 0x040) 9 8 = 0 then (hbmBase + (m - 28) * s.hbmUse, s.hbmUse)
  else (hbmBase, 2 * s.hbmUse)

/-- A write of MEM_SCRUB_CTRL with GO (R178, R181). GO and ABORT in one write, of which the spec says nothing, are the model's choice:
an accepted GO starts a scrub whose abort is already asked for, and a GO that a running scrub rejects still aborts that scrub
(DESIGN CHOICE). -/
def State.scrubGo (s : State) (m : Nat) (v : W32) : State :=
  let pg := memCtlPg m
  let s0 := (s.put (pg + 0x10C) 9 8 (bitsOf v 9 8)).put (pg + 0x10C) 7 4 (bitsOf v 7 4)
  let base := (s.reg64 (pg + 0x100)).toNat
  let len := (s.reg (pg + 0x108)).toNat
  let win := s.scrubWindow m
  let x := s.scrub m
  if x.busy = true ∨ len = 0 ∨ base % 64 ≠ 0 ∨ base < win.1 ∨ win.1 + win.2 < base + 64 * len
      ∨ (bitsOf v 9 8 ≠ 0 ∧ (m < 28 ∨ bitsOf v 9 8 ≠ 1)) then
    let s1 := (s0.put (pg + 0x110) 30 28 2).raise pg 0
    if x.busy = true ∧ bit v 1 = true then s1.setScrub m { x with abort := true } else s1
  else
    let s1 := [0x114, 0x118, 0x11C, 0x120, 0x124, 0x128, 0x12C].foldl (fun t o => t.setReg (pg + o) 0) s0
    ((s1.put (pg + 0x110) 15 0 0).put (pg + 0x110) 31 31 1).setScrub m
      { busy := true, fill := decide (bitsOf v 9 8 = 1), abort := bit v 1, next := base, left := len }

/-- A write of MEM_SCRUB_CTRL without GO. -/
def State.scrubCtl (s : State) (m : Nat) (v : W32) : State :=
  let pg := memCtlPg m
  let s0 := (s.put (pg + 0x10C) 9 8 (bitsOf v 9 8)).put (pg + 0x10C) 7 4 (bitsOf v 7 4)
  let x := s.scrub m
  if x.busy = true ∧ bit v 1 = true then s0.setScrub m { x with abort := true } else s0

/-- MEM_SCRUB_CTRL (R178 to R181). -/
def State.writeScrubCtrl (s : State) (m : Nat) (v : W32) : State := if bit v 0 then s.scrubGo m v else s.scrubCtl m v

/-- R178: GO with MODE 0; v gives RATE and ABORT. -/
def execScrubGo (m : MemCtl) (v : W32) (s : State) : Host.Outcome State Fault Refusal :=
  .next (s.access (memCtlPg m + 0x10C) (fun s => s.scrubGo m (putFld v 9 8 0)))

/-- R181: GO with MODE 1. -/
def execScrubFillGo (m : MemCtl) (v : W32) (s : State) : Host.Outcome State Fault Refusal :=
  .next (s.access (memCtlPg m + 0x10C) (fun s => s.scrubGo m (putFld v 9 8 1)))

/-- R180: ABORT without GO. -/
def execScrubAbort (m : MemCtl) (v : W32) (s : State) : Host.Outcome State Fault Refusal :=
  .next (s.access (memCtlPg m + 0x10C) (fun s => s.scrubCtl m (v ||| 2)))

/-- A scrub ends (R180). -/
def State.scrubEnd (s : State) (m res : Nat) : State :=
  let pg := memCtlPg m
  ((((s.setScrub m {}).put (pg + 0x110) 31 31 0).put (pg + 0x110) 30 28 res)).irqBit pg 0

/-- A failing word is counted and its address recorded (R180). -/
def State.scrubFound (s : State) (m off k : Nat) : State :=
  let pg := memCtlPg m
  let lo := BitVec.ofNat 32 k
  let hi := BitVec.ofNat 32 (2 ^ 31 + (k >>> 32) % 256)
  let s1 := s.inc (pg + off) 31 0 1
  let s2 := if s.fld (pg + 0x124) 31 31 = 0 then (s1.setReg (pg + 0x120) lo).setReg (pg + 0x124) hi else s1
  (s2.setReg (pg + 0x128) lo).setReg (pg + 0x12C) hi

/-- An on-chip word under the scrub (R179). -/
def State.scrubWord (s : State) (m k : Nat) : State :=
  if s.isValid k = false then s
  else match eccClass (s.syndrome k) with
    | .clean => s
    | .correctable =>
      let l := memLoc k
      ((s.scrubFound m 0x118 k).logCe l.logPg l.space l.addr l.loc (s.syndrome k).toNat).correctWord k
    | .uncorrectable =>
      let l := memLoc k
      (s.scrubFound m 0x11C k).captureUe l.logPg l.space l.addr l.loc (s.syndrome k).toNat

/-- An HBM unit under the scrub, with the severity its stack reports (R179, R189). -/
def State.scrubUnit (s : State) (m k sev : Nat) : State :=
  let pg := memCtlPg m
  if sev = 2 then ((s.markUnit k).scrubFound m 0x11C k).captureUe pg 0 k 0 2
  else if (List.range 8).any (fun i => s.hbmBad (k + 8 * i)) then (s.scrubFound m 0x11C k).captureUe pg 0 k 0 2
  else if sev = 1 then (s.scrubFound m 0x118 k).logCe pg 0 k 0 1
  else s

/-- Whether a line of a scrub is read: not retired, not unpopulated, of the page's own stack (R178, R179). -/
def State.scrubReads (s : State) (k : Nat) : Bool :=
  match s.devMem k with
  | some (.cistern q b off) => decide (s.bankOwner q b ≠ 0x7F) && !s.granRetired q b (off / 0x10000)
  | some _ => true
  | none => false

/-- The next line of a scrub at or after address a: an HBMC scrub passes over lines of the other stack, 4 KiB at a time under
INTLV 1 (R178, R188). -/
def State.scrubNext (s : State) (m a : Nat) : Nat :=
  if m < 28 ∨ s.fld (pgHBMC 0 + 0x040) 9 8 = 0 ∨ (s.hbmMap (a - hbmBase)).1 = m - 28 then a else a - a % 0x1000 + 0x1000

/-- One line of a scrub or fill. -/
def State.scrubLine (s : State) (m k : Nat) (ups : LineUpset) : State :=
  let pg := memCtlPg m
  if s.scrubReads k = false then s.inc (pg + 0x110) 15 0 1
  else if 28 ≤ m then
    if (s.scrub m).fill then
      (s.writeLine k 0 (BitVec.allOnes 64) 0).1
    else
      let p := s.parityRetries (m - 28) ups.w0.parity ups.w0.parity
      if p.2 then p.1.scrubUnit m k ups.w0.sev.val else p.1
  else
    let s1 := (s.devCheck { quad := if m < 4 then m else (m - 4) / 6 } k).1
    let u := (memLoc k).unit
    let s2 := match (s1.mergeLines u).find? (fun l => decide (l.addr = k)) with
      | some l => s1.drainLine u l
      | none => s1
    (List.range 8).foldl (fun t i => t.scrubWord m (k + 8 * i)) (s2.upsetLine k ups (fun _ => true))

/-- R179, R180: the scrub engine comes to its next line, or to the end. -/
def execScrubLine (m : MemCtl) (ups : LineUpset) (s : State) : Host.Outcome State Fault Refusal :=
  .next (
    let x := s.scrub m
    if x.busy = false then s
    else if x.abort then s.scrubEnd m 3
    else
      let a := s.scrubNext m x.next
      let e := x.next + 64 * x.left
      if e ≤ a then s.scrubEnd m 1
      else
        let s1 := (s.scrubLine m a ups).inc (memCtlPg m + 0x114) 31 0 1
        let n := s.scrubNext m (a + 64)
        if e ≤ n then s1.scrubEnd m 1 else s1.setScrub m { x with next := n, left := (e - n) / 64 })

/-- R176, R177: CLR in MEM_LOG_CTRL. -/
def State.memLogClr (s : State) (m : Nat) : State :=
  let pg := memCtlPg m
  let s1 := (List.range 32).foldl (fun (t : State) i =>
    ((t.setReg (entKey (pg + 0x144) i) 0).setReg (entKey (pg + 0x148) i) 0).setReg (entKey (pg + 0x14C) i) 0) s
  (((s1.setReg (pg + 0x150) 0).setReg (pg + 0x158) 0).setReg (pg + 0x15C) 0).setReg (pg + 0x160) 0

def execMemLogClr (m : MemCtl) (s : State) : Host.Outcome State Fault Refusal :=
  .next (s.access (memCtlPg m + 0x154) (fun s => s.memLogClr m))

/-! ## HBM rows and temperature -/

def remapBusy (s : State) (n : Nat) : Option Remap := tabGet (fun _ => none) s.mem.remapJob n

/-- HBMC_REMAP_GO (R185, R186). -/
def State.remapGo (s : State) (n : Nat) : State :=
  let pg := pgHBMC1 n
  let a := (s.reg64 (pg + 0x040)).toNat
  let m := s.hbmMap (a - hbmBase)
  if s.fld (pg + 0x04C) 31 31 = 1 then s.badAccess (pg + 0x048)
  else if 256 ≤ s.fld (pg + 0x04C) 8 0 ∨ a < hbmBase ∨ hbmBase + 2 * s.hbmUse ≤ a ∨ m.1 ≠ n ∨ (s.remapOf (a - hbmBase)).isSome then
    s.put (pg + 0x04C) 30 28 2
  else
    let r := s.hbmRowOf m.2
    let s1 := s.put (pg + 0x04C) 31 31 1
    { s1 with mem := { s1.mem with remapJob := tabSet (fun _ => none) s1.mem.remapJob n (some ⟨true, r.1, r.2.1, r.2.2, 0xFFFF⟩) } }

def execRowRemapGo (n : Stack) (s : State) : Host.Outcome State Fault Refusal :=
  .next (s.access (pgHBMC1 n + 0x048) (fun s => s.remapGo n))

/-- The units of the row under copy on stack n that are marked uncorrectable (R190, R415): the words that stand so. -/
def State.knownBad (s : State) (n : Nat) (r : Remap) : W16 :=
  s.mem.hbmPoison.foldl (fun (x : W16) e =>
    let m := s.hbmMap (e.1 - hbmBase)
    let w := s.hbmRowOf m.2
    if e.2 = true ∧ m.1 = n ∧ r.pch = w.1 ∧ r.bank = w.2.1 ∧ r.row = w.2.2 then putFld x (hbmUnitOf m.2) (hbmUnitOf m.2) 1 else x) 0

/-- R185: the copy ends; bit u of bad: unit u of the row read uncorrectable. A unit known to be so reads so; one written whole since the
copy began is not. -/
def execRemapDone (n : Stack) (bad : W16) (s : State) : Host.Outcome State Fault Refusal :=
  .next (
    let pg := pgHBMC1 n
    match remapBusy s n with
    | none => s
    | some r =>
      let i := s.fld (pg + 0x04C) 8 0
      let mask := (bad ||| s.knownBad n r) &&& r.poison
      let s1 : State := { s with mem := { s.mem with
        remap := tabSet remapDflt s.mem.remap (256 * n.val + i) { r with poison := mask },
        remapJob := tabErase s.mem.remapJob n } }
      (((s1.put (pg + 0x04C) 31 31 0).put (pg + 0x04C) 30 28 (if mask = 0 then 1 else 3)).put (pg + 0x04C) 8 0 (i + 1)).irqBit
        (pgHBMC n) 1)

/-- A stack's remap table and the copy in progress are forgotten (R184, R186): the redirected rows hold again what they held before,
undefined contents. -/
def State.forgetRemap (s : State) (n : Nat) : State :=
  let spare := fun a => match s.remapOf (a - hbmBase) with | some i => decide (i / 256 = n) | none => false
  { s with mem := { s.mem with
      hbm := tabDrop s.mem.hbm spare, hbmPoison := tabDrop s.mem.hbmPoison spare,
      remap := tabDrop s.mem.remap (fun i => decide (i / 256 = n)), remapJob := tabErase s.mem.remapJob n } }

/-- R191: the temperature a stack reports; above 85 °C the refresh rate doubles. -/
def execHbmTempHigh (n : Stack) (temp : W8) (s : State) : Host.Outcome State Fault Refusal :=
  .next (
    let pg := pgHBMC n
    let s1 := s.put (pg + 0x044) 23 16 temp.toNat
    if 85 < temp.toNat then
      if s.fld (pg + 0x044) 27 27 = 0 then (s1.put (pg + 0x044) 27 27 1).raise pg 7 else s1
    else s1.put (pg + 0x044) 27 27 0)

end Sys2Proof.Machine
end

