-- ==== Sys2Proof/Machine/Line.lean ====
section
/-! DEFINITION. What stands on a Birlis line: the comma, the control blocks and frames of R194, R203, R220 and R221 with the scrambler,
HELLO and DEPART frames (R222), and the test patterns of R213. -/

namespace Sys2Proof.Machine

open Sys2Proof

/-! ## Blocks (R194, R203, R220, R221) -/

/-- A block before the scrambler: its sync header and its payload, byte 0 in bits [7:0]. -/
structure LineWord where
  hdr : W2
  pay : W64
deriving DecidableEq, Repr

/-- Every 16,384th block is a comma (R194). -/
def commaEvery : Nat := 16384
def commaBlock : LineWord := ⟨0, 0xF0E1D2C3B4A59687⟩
/-- A control block: its type in byte 0, and bytes 1 to 7 as one number. -/
def ctlBlock (type rest : Nat) : LineWord := ⟨2, BitVec.ofNat 64 (type + 256 * rest)⟩
def lstateBlock (num mask at_ : W8) : LineWord := ctlBlock 0x2D (num.toNat + 256 * mask.toNat + 65536 * at_.toNat)
def ackBlock (nak : Bool) (nxt : W16) : LineWord := ctlBlock 0x4B (b2n nak + 256 * nxt.toNat)
def departBlock : LineWord := ctlBlock 0x55 0
def trainBlock (l : Nat) (rxOk : Bool) (fails : Nat) : LineWord := ctlBlock 0xB4 (l + 256 * b2n rxOk + 65536 * fails)
/-- FRAME_HDR: the sequence number in bytes 2 and 3, the stream in 4 and 5, the length in 6 and 7. -/
def hdrBlock (seq stream len : Nat) : LineWord := ctlBlock 0x78 (256 * (seq + 65536 * stream + 2 ^ 32 * len))
def endBlock (crc : Nat) : LineWord := ctlBlock 0x87 crc
/-- The types R221 lists. -/
def blockTypes : List Nat := [0x1E, 0x2D, 0x4B, 0x55, 0x78, 0x87, 0xB4]

/-- Payload in data blocks, the last padded with zeros (R221). -/
def dataBlocks (pay : Bytes) : List LineWord :=
  (List.range ((pay.length + 7) / 8)).map (fun i => ⟨1, BitVec.ofNat 64 (natLE ((pay.drop (8 * i)).take 8))⟩)

/-- The CRC of a frame: over bytes 2 to 7 of its FRAME_HDR and every payload byte. -/
def frameCrc (seq stream len : Nat) (pay : Bytes) : Nat := crc32c (bytesLE 2 seq ++ bytesLE 2 stream ++ bytesLE 2 len ++ pay)

/-- The blocks of a frame (R221). -/
def frameBlocks (seq stream : Nat) (pay : Bytes) : List LineWord :=
  hdrBlock seq stream pay.length :: dataBlocks pay ++ [endBlock (frameCrc seq stream pay.length pay)]

/-- A received frame is good: its CRC matches after exactly the blocks its length asks for. -/
def frameGood (f : FrameIn) : Bool :=
  decide (f.crc.toNat = frameCrc f.seq.toNat f.stream.toNat f.len.toNat (f.payload.take f.len.toNat))
  && decide (8 ≤ f.len.toNat) && decide (f.len.toNat ≤ 16384)
  && decide ((f.payload.length + 7) / 8 = (f.len.toNat + 7) / 8)

/-- The scrambler x^58 + x^39 + 1 over a payload, bit 0 first; h holds the last 58 bits it put out, the oldest in bit 0 (R194). Bits 39 on
feed on bits of the same payload. -/
def scramble (h : BitVec 58) (x : W64) : W64 × BitVec 58 :=
  let t0 : BitVec 122 := h.setWidth 122
  let lo := (x ^^^ (t0 >>> 19).setWidth 64 ^^^ t0.setWidth 64) &&& 0x7FFFFFFFFF
  let t1 := t0 ||| (lo.setWidth 122 <<< 58)
  let hi := (x ^^^ (t1 >>> 19).setWidth 64 ^^^ t1.setWidth 64) &&& 0xFFFFFF8000000000
  (lo ||| hi, ((t0 ||| ((lo ||| hi).setWidth 122 <<< 58)) >>> 64).setWidth 58)

/-- A block on the line: the comma passes by the scrambler and does not feed it. -/
def LineWord.onLine (b : LineWord) (h : BitVec 58) : W64 × BitVec 58 := if b.hdr = 0 then (b.pay, h) else scramble h b.pay

/-! ## HELLO and DEPART frames (R222) -/

/-- Bytes 0 to 35 and their CRC. -/
def helloBytes (type cls : Nat) (seen fecReq : Bool) (maxRate fails lane caps : Nat) (serial : W64) : Bytes :=
  let b := bytesLE 3 (type + 256 + 65536 * (cls + 8 * b2n seen + 16 + 32 * b2n fecReq)) ++ bytesLE 3 (maxRate + 256 * fails + 65536 * lane)
    ++ bytesLE 2 caps ++ bytesLE 8 serial.toNat ++ List.replicate 20 0
  b ++ bytesLE 4 (crc32c b)

/-- K28.5 and K27.7, the data bytes, K29.7. -/
def helloChars (data : Bytes) : List (Bool × W8) :=
  [(true, 0xBC), (true, 0xFB)] ++ data.map (fun b => (false, b)) ++ [(true, 0xFD)]

/-- The frame is a valid one of a type: CRC-32C and VERSION hold. -/
def helloValid (type : W8) (x : HelloData) : Bool :=
  decide (x.extractLsb' 0 8 = type) && decide (x.extractLsb' 8 8 = 1)
  && decide ((x.extractLsb' 288 32).toNat = crc32c ((List.range 36).map (fun i => x.extractLsb' (8 * i) 8)))

/-- The fields of the 40 bytes. -/
def helloFields (x : HelloData) : HelloMsg where
  cls := x.extractLsb' 16 3
  seen := bit x 19
  comma := bit x 20
  fecReq := bit x 21
  maxRate := x.extractLsb' 24 3
  fails := x.extractLsb' 32 8
  caps := x.extractLsb' 48 16
  serial := x.extractLsb' 64 64

/-! ## Test patterns (R213) -/

/-- The two taps of a pattern: PRBS7 x^7 + x^6 + 1, PRBS15 x^15 + x^14 + 1, PRBS31 x^31 + x^28 + 1. -/
def prbsTaps (pat : Nat) : Nat × Nat := match pat with | 0 => (7, 6) | 1 => (15, 14) | _ => (31, 28)

/-- The next bit of a pattern; the last bits sent stand in st, the latest in bit 0. -/
def prbsNext (pat st : Nat) : Bool := st.testBit ((prbsTaps pat).1 - 1) != st.testBit ((prbsTaps pat).2 - 1)

/-- The first n bits that follow st. -/
def prbsBits (pat : Nat) : Nat → Nat → List Bool
  | _, 0 => []
  | st, n + 1 => prbsNext pat st :: prbsBits pat (2 * st + b2n (prbsNext pat st)) n

/-- A pair of bits as the Gray-coded level of a PAM4 symbol, the first bit the most significant (R193). -/
def grayLevel (a b : Bool) : Nat := 2 * b2n a + b2n (a != b)
def graySymbols : List Bool → List Nat
  | a :: b :: rest => grayLevel a b :: graySymbols rest
  | _ => []

/-- The last 64 of 95 received bits, bit 0 the first, match the pattern predicted from the bits before each. -/
def prbsMatches (pat : Nat) (rx : BitVec 95) : Bool :=
  (List.range 64).all (fun i =>
    decide (rx.getLsbD (31 + i) = (rx.getLsbD (31 + i - (prbsTaps pat).1) != rx.getLsbD (31 + i - (prbsTaps pat).2))))

end Sys2Proof.Machine
end

