-- ==== Sys2Proof/Machine/RegOps.lean ====
section
/-! DEFINITION. The general register write: the entry an index register selects, the scopes of R47 with the whole-word rule of
R48, what a field's access type lets a write do (R9), and the values that the chapters call a bad access. -/

namespace Sys2Proof.Machine

open Sys2Proof

/-- Entries an index register reaches: higher values act modulo the count. -/
def entryCount (b : Block) (w : Nat) : Nat :=
  match b with
  | .fft => 16
  | .shp => 32
  | _ => 2 ^ w

/-- The key of the register at a BAR0 address: the entry its index register selects, or the address. SHP_COEF_DATA is
selected by SHP_COEF_IDX. -/
def State.regKey (s : State) (addr : Nat) (d : RegDesc) : Nat :=
  match pageOf addr with
  | none => addr
  | some p =>
    let pg := addr - addr % 0x1000
    if p.blk = .shp ∧ addr % 0x800 = 0x054 then
      let x := s.reg (pg + 0x050)
      entKey addr (coefEntry (bit x 30) (bitsOf x 12 8) (bitsOf x 7 0))
    else match d.sel with
      | none => addr
      | some (i, w) => entKey addr (s.fld (pg + i) (w - 1) 0 % entryCount p.blk w)

/-- A changed byte of FLOW_CG may change: the groups it named and names are halted (R48, R155). -/
def State.flowByteOpen (s : State) (o n : Nat) : Bool :=
  decide (o = n) || ((decide (o < 128) || s.cgHalted (o % 64)) && (decide (n < 128) || s.cgHalted (n % 64)))

/-- The live-only fields of a register may change (R47): the owning group of a HARQ window, the groups of a FLOW_CG byte. -/
def State.liveOpen (s : State) (p : Page) (off : Nat) (f : FieldDesc) (old v : W32) : Bool :=
  match p.blk with
  | .flow => s.flowByteOpen (bitsOf old (f.lo / 8 * 8 + 7) (f.lo / 8 * 8)) (bitsOf v (f.lo / 8 * 8 + 7) (f.lo / 8 * 8))
  | .code => s.cgHalted (if off < 0x240 then (off - 0x040) / 8 else (off - 0x240) / 4)
  | _ => true

/-- A field's scope accepts a change (R47). -/
def State.scopeOpen (s : State) (p : Page) (off : Nat) (f : FieldDesc) (old v : W32) : Bool :=
  match f.scope with
  | .free => true
  | .live => s.liveOpen p off f old v
  | .quad => s.quadHalted p.quad
  | .config => s.configOpen
  | .factory => s.factory

/-- A write is accepted as a whole: every field it would change accepts the change (R48). -/
def State.scopesOpen (s : State) (p : Page) (off : Nat) (d : RegDesc) (old v : W32) : Bool :=
  d.fields.all (fun f => decide (bitsOf old f.hi f.lo = bitsOf v f.hi f.lo) || s.scopeOpen p off f old v)

/-- The word a write leaves: RW, SH and RWF fields take the value written, W1C bits written 1 clear, the others stay (R9). -/
def RegDesc.newWord (d : RegDesc) (old v : W32) : W32 :=
  d.fields.foldl (fun x f =>
    match f.ty with
    | .rw => putFld x f.hi f.lo (bitsOf v f.hi f.lo)
    | .sh => putFld x f.hi f.lo (bitsOf v f.hi f.lo)
    | .rwf => putFld x f.hi f.lo (bitsOf v f.hi f.lo)
    | .w1c => putFld x f.hi f.lo (bitsOf (old &&& ~~~ v) f.hi f.lo)
    | .ro => x
    | .rc => x
    | .wo => x) old

/-- Bits that a write of 1 clears. -/
def RegDesc.w1cMask (d : RegDesc) : W32 :=
  d.fields.foldl (fun x f => if f.ty = .w1c then x ||| fmask 32 f.hi f.lo else x) 0

/-- Bits of a read-to-clear register (R11). -/
def RegDesc.rcMask (d : RegDesc) : W32 :=
  d.fields.foldl (fun x f => if f.ty = .rc then x ||| fmask 32 f.hi f.lo else x) 0

/-- Bits a write can store in. -/
def RegDesc.storeMask (d : RegDesc) : W32 :=
  d.fields.foldl (fun x f => match f.ty with
    | .rw => x ||| fmask 32 f.hi f.lo
    | .sh => x ||| fmask 32 f.hi f.lo
    | .rwf => x ||| fmask 32 f.hi f.lo
    | _ => x) 0

/-- The description of the register at a BAR0 address, with its page. -/
def regAt (addr : Nat) : Option (Page × RegDesc) :=
  match pageOf addr with
  | none => none
  | some p => match p.reg (addr % 0x1000) with
    | none => none
    | some d => some (p, d)

/-- A write of a register, accepted or dropped under R48; k follows an accepted one and sees the word as it was. -/
def State.scoped (s : State) (addr : Nat) (v : W32) (k : W32 → State → State) : State :=
  match regAt addr with
  | none => s
  | some (p, d) =>
    let key := s.regKey addr d
    let old := s.reg key
    if s.scopesOpen p (addr % 0x1000) d old v then k old (s.setReg key (d.newWord old v)) else s.liveDrop addr

/-- Two bytes or fields of a word differ. -/
def changed (a b : W32) (hi lo : Nat) : Bool := decide (bitsOf a hi lo ≠ bitsOf b hi lo)

end Sys2Proof.Machine
end

