-- ==== Sys2Proof/Machine/LaneOps.lean ====
section
/-! DEFINITION. Lanes, links and partners: the bring-up states of R206, links and groups (R218, R219), the partner table (R223 to
R225), the receive-good mask and its announcement (R227, R228). -/

namespace Sys2Proof.Machine

open Sys2Proof

/-! ## Fields -/

def lane0 : Nat → LaneSt := fun _ => {}
def State.lane (s : State) (l : Nat) : LaneSt := tabGet lane0 s.lanes l
def State.setLane (s : State) (l : Nat) (x : LaneSt) : State := { s with lanes := tabSet lane0 s.lanes l x }
def State.modLane (s : State) (l : Nat) (f : LaneSt → LaneSt) : State := s.setLane l (f (s.lane l))
def link0 : Nat → LinkSt := fun _ => {}
def State.link (s : State) (e : Nat) : LinkSt := tabGet link0 s.links e
def State.setLink (s : State) (e : Nat) (x : LinkSt) : State := { s with links := tabSet link0 s.links e x }
def State.modLink (s : State) (e : Nat) (f : LinkSt → LinkSt) : State := s.setLink e (f (s.link e))

/-- LANE_STAT.STATE: 0 DISABLED, 1 HUNT, 2 HELLO, 3 STEP, 4 SLIP_WAIT, 5 UP, 6 ETH_WAIT, 7 ETH_UP, 8 TEST. -/
def State.laneState (s : State) (l : Nat) : Nat := s.fld (pgLANE l + 0x044) 31 28
def State.laneRate (s : State) (l : Nat) : Nat := s.fld (pgLANE l + 0x044) 22 20
def State.rxLock (s : State) (l : Nat) : Bool := decide (s.fld (pgLANE l + 0x044) 25 25 = 1)
/-- LANE_STAT.FORERUNNER: the partner sends no commas. -/
def State.forerunner (s : State) (l : Nat) : Bool := decide (s.fld (pgLANE l + 0x044) 23 23 = 1)
def State.laneTarget (s : State) (l : Nat) : Nat := s.fld (pgLANE l + 0x044) 19 17
/-- The failure count of rate r, 1 to 4; rate 0 has none (R201). -/
def State.failCount (s : State) (l r : Nat) : Nat :=
  if 1 ≤ r ∧ r ≤ 4 then s.fld (pgLANE l + 0x044) (7 + 2 * r) (6 + 2 * r) else 0
def State.laneEnable (s : State) (l : Nat) : Bool := decide (s.fld (pgLANE l + 0x040) 31 31 = 1)
/-- LANE_CFG.MODE: 0 Birlis, 1 Ethernet, 2 test. -/
def State.laneMode (s : State) (l : Nat) : Nat := s.fld (pgLANE l + 0x040) 11 10
def State.maxRate (s : State) (l : Nat) : Nat := s.fld (pgLANE l + 0x040) 2 0
def State.fecReq (s : State) (l : Nat) : Bool := decide (s.fld (pgLANE l + 0x040) 9 9 = 1)
def State.allow3120 (s : State) (l : Nat) : Bool := decide (s.fld (pgLANE l + 0x040) 8 8 = 1)
/-- LANE_QREF of a lane-quad stands on the page of its first lane. -/
def qrefKey (l : Nat) : Nat := pgLANE (l / 4 * 4) + 0x07C
def State.qrefLocked (s : State) (l : Nat) : Bool := decide (s.fld (qrefKey l) 1 1 = 1)
def State.qrefSel (s : State) (l : Nat) : Bool := decide (s.fld (qrefKey l) 0 0 = 1)
def State.hasSignal (s : State) (l : Nat) : Bool := decide (s.fld (pgLANE l + 0x044) 27 27 = 1)
def laneSlot (l : Nat) : Nat := qSlot (l / 16) (24 + l % 16)

/-- Lanes may run: not in DORMANT, nor from DRAIN step 3 to the end of BOOT (R206). -/
def State.lanesOpen (s : State) : Bool :=
  decide (s.mode ≠ 0) && decide (s.mode ≠ 1) && !(decide (s.mode = 4) && decide (3 ≤ s.drainStep))

/-- A lane may leave DISABLED (R206, R209). -/
def State.laneOpen (s : State) (l : Nat) : Bool :=
  s.laneEnable l && s.qrefLocked l && s.lanesOpen && !s.quadDark (l / 16) && decide (s.slotState (laneSlot l) < 2)

/-- The lane's own logic runs: its page is not dark (R209). -/
def State.laneOn (s : State) (l : Nat) : Bool := !s.quadDark (l / 16) && decide (s.slotState (laneSlot l) < 2)

/-- LANE_TEST.LOOPBACK of a lane in TEST: 0 none, 1 near-end serial, 2 far-end (R215). -/
def State.loopback (s : State) (l : Nat) : Nat := if s.laneState l = 8 then s.fld (pgLANE l + 0x064) 27 26 else 0

/-- The transmitter of a lane reaches its balls, unless it is squelched (R205, R242) or loops back inside the lane (R215). -/
def State.txOpen (s : State) (l : Nat) : Bool :=
  !(s.lane l).squelch && decide ((s.lane l).inj = 0) && decide (s.loopback l ≠ 1)
def State.txOn (s : State) (l : Nat) : State := if s.txOpen l then s.emit (.laneTx l true) else s

/-! ## Blocks onto the lines (R194, R220) -/

/-- Blocks leave on their lanes, each with the bits that the line inverts. How many IDLE blocks went before is not commanded, so what a
lane's scrambler holds at its first block is free; a squelched transmitter sends none. -/
def State.sendBlocks (s : State) (bs : List (Nat × LineWord × W64)) : State :=
  let r := bs.foldl (fun (a : Tab (BitVec 58) × List LineBlock) b =>
    let h := tabGet (fun l => (Config.freeWord (s.free + l % 16)).setWidth 58) a.1 b.1
    let o := b.2.1.onLine h
    (tabInsert (tabErase a.1 b.1) b.1 o.2, a.2 ++ (if s.txOpen b.1 then [⟨b.1, b.2.1.hdr, b.2.1.pay, o.1 ^^^ b.2.2⟩] else []))) ([], [])
  let s1 := bs.foldl (fun t b => t.modLane b.1 (fun x => { x with blocks := x.blocks + 1 })) s
  if bs.isEmpty then s else if r.2.isEmpty then s1.drawn 16 else (s1.drawn 16).emit (.blocks r.2)

/-- The same block on each of some lanes. -/
def State.sendOn (s : State) (ls : List Nat) (b : LineWord) : State := s.sendBlocks (ls.map (fun l => (l, b, 0)))

/-! ## Links (R218) -/

/-- The width a code of BLNK_LINK_CFG names. -/
def linkWidthCode (c : Nat) : Nat := 2 ^ c
/-- The width code of lane i in a word of BLNK_LINK_CFG. -/
def widthCode (v : W32) (i : Nat) : Nat := bitsOf v (2 * i + 1) (2 * i)

/-- The link that lane i of a quadrant belongs to under a word of BLNK_LINK_CFG: its first lane and its width. -/
def linkIn (v : W32) (i : Nat) : Nat × Nat :=
  if widthCode v (i / 8 * 8) = 3 then (i / 8 * 8, 8)
  else if widthCode v (i / 4 * 4) = 2 then (i / 4 * 4, 4)
  else if widthCode v (i / 2 * 2) = 1 then (i / 2 * 2, 2)
  else (i, 1)

def State.linkCfg (s : State) (q : Nat) : W32 := s.reg (pgBLNK q + 0x040)
/-- The link of a device lane, as the number of its partner entry and its width. -/
def State.linkOf (s : State) (l : Nat) : Nat × Nat :=
  let r := linkIn (s.linkCfg (l / 16)) (l % 16)
  (l / 16 * 16 + r.1, r.2)
/-- The lanes of link e. -/
def State.linkLanes (s : State) (e : Nat) : List Nat := (List.range (s.linkOf e).2).map (fun i => e + i)
/-- Lane e starts a link. -/
def State.isLink (s : State) (e : Nat) : Bool := decide ((s.linkOf e).1 = e)
/-- The mode of a link is its first lane's; a lane whose mode differs, and a Varne 3120 lane in a wide link, is no
member (R218). -/
def State.modeMember (s : State) (e l : Nat) : Bool :=
  decide (s.laneMode l = s.laneMode e) && !(s.forerunner l && decide ((s.linkOf e).2 ≠ 1))

/-- The members of a link's transmit mask, ascending. -/
def State.txMembers (s : State) (e : Nat) : List Nat := (s.linkLanes e).filter (fun l => (s.link e).tx.getLsbD (l - e))

/-- Blocks of the group stream, block k on the (k mod m)-th of m members (R220); the numbering restarts at each comma, before which
every member has sent equally many. -/
def State.sendStriped (s : State) (e : Nat) (bs : List (LineWord × W64)) : State :=
  let ls := s.txMembers e
  let k := (s.link e).striped
  if ls.isEmpty then s
  else (s.modLink e (fun x => { x with striped := k + bs.length })).sendBlocks
    (bs.mapIdx (fun i b => (ls.getD ((k + i) % ls.length) e, b)))

/-! ## The partner table (R223) -/

def ptabKey (off e : Nat) : Nat := entKey (pgBLNK (e / 16) + off) (e % 16)
def State.ptPresent (s : State) (e : Nat) : Bool := decide (s.fld (ptabKey 0x104 e) 31 31 = 1)
def State.ptLanes (s : State) (e : Nat) : Nat := s.fld (ptabKey 0x104 e) 23 16
def State.ptSerial (s : State) (e : Nat) : W64 := s.reg64 (ptabKey 0x108 e)
/-- SERIAL of a lane's last valid HELLO. -/
def State.rxSerial (s : State) (l : Nat) : W64 := s.reg64 (pgLANE l + 0x104)

/-! ## Groups (R219) -/

/-- The lanes of a link in UP. -/
def State.upLanes (s : State) (e : Nat) : List Nat :=
  (s.linkLanes e).filter (fun l => decide (s.laneState l = 5) && s.modeMember e l)

/-- The rate of a group: held by most of its lanes in UP, the higher on a tie. -/
def State.groupRate (s : State) (e : Nat) : Nat :=
  let n := fun r => ((s.upLanes e).filter (fun l => decide (s.laneRate l = r))).length
  (List.range 5).foldl (fun best r => if n best ≤ n r then r else best) 0

/-- A lane is member-capable. -/
def State.memberCapable (s : State) (e l : Nat) : Bool :=
  decide (s.laneState l = 5) && s.modeMember e l && decide (s.laneRate l = s.groupRate e) && s.ptPresent e
  && decide ((s.lane l).partner = some (s.ptSerial e))

/-- The lanes that fail R219 leave the group until they are retrained, and raise BOND_EXCLUDED. -/
def State.excludeLanes (s : State) (e : Nat) : State :=
  let other := fun l => match (s.lane l).partner with | some y => decide (y ≠ s.ptSerial e) | none => false
  let bad := (s.upLanes e).filter (fun l =>
    s.ptPresent e && (decide (s.laneRate l ≠ s.groupRate e) || other l) && !(s.lane l).excluded)
  let s1 := bad.foldl (fun t l => t.modLane l (fun x => { x with excluded := true })) s
  if bad.isEmpty then s1 else s1.raise (pgBLNK (e / 16)) 1

/-- A lane's commas lie within 32 blocks of its group's (R220). -/
def State.skewOk (s : State) (l : Nat) : Bool := decide ((s.linkOf l).2 = 1) || decide ((s.lane l).skew ≤ 32)

/-- The receive-good mask as it should stand. -/
def State.goodMask (s : State) (e : Nat) : W8 :=
  BitVec.ofNat 8 (((s.linkLanes e).filter (fun l => s.memberCapable e l && !(s.lane l).excluded && s.skewOk l)).map
    (fun l => 2 ^ (l - e))).sum

/-- BLNK_LINK_STAT of link e. -/
def linkStatKey (e : Nat) : Nat := pgBLNK (e / 16) + 0x080 + 4 * (e % 16)

/-- STATE of a link: 0 DOWN, 1 UP, 2 DEGRADED; an Ethernet port is UP while its link is. -/
def State.linkState (s : State) (e : Nat) : Nat :=
  if s.laneMode e = 1 then s.fld (pgLANE e + 0x200) 31 31
  else
    let n := popCount (s.link e).rx
    if n = 0 then 0 else if n < (s.linkOf e).2 then 2 else 1

/-- BLNK_LINK_STAT takes the present state of every lane's link; LINK_DEGRADED on entry to DEGRADED or DOWN. -/
def State.showLink (s : State) (e : Nat) : State :=
  let old := s.fld (linkStatKey e) 31 30
  if s.isLink e = false then s.setReg (linkStatKey e) 0xC0000000
  else
    let st := s.linkState e
    let rate := if s.laneMode e = 1 then s.maxRate e else s.groupRate e
    let s1 := s.setReg (linkStatKey e)
      (BitVec.ofNat 32 (st * 2 ^ 30 + rate * 2 ^ 27 + (s.link e).rx.toNat * 65536 + (s.link e).tx.toNat * 256))
    if old ≠ st ∧ (st = 0 ∨ st = 2) then s1.irqBit (pgBLNK (e / 16)) 2 else s1

/-- The lanes in either mask of a link. -/
def State.members (s : State) (e : Nat) : List Nat := (s.linkLanes e).filter (fun l => ((s.link e).rx ||| (s.link e).tx).getLsbD (l - e))

/-- LSTATE on every member lane (R227). -/
def State.sendLstate (s : State) (e : Nat) : State :=
  let k := s.link e
  s.sendOn (s.members e) (lstateBlock k.comma k.rx (k.rxAt.getD 0))

/-- MEMBER of each lane of a link. -/
def State.showMembers (s : State) (e : Nat) : State :=
  (s.linkLanes e).foldl (fun t l => t.put (pgLANE l + 0x10C) 31 31 (b2n ((s.link e).rx.getLsbD (l - e)))) s

/-- A link without members is DOWN: nothing is sent until a mask of the partner's admits a lane again (R228, R231). -/
def State.linkStops (s : State) (e : Nat) : State := s.modLink e (fun k => { k with tx := 0, txAt := none, nakDue := false })

/-- A link whose mode is not Birlis has no members (R218). -/
def State.noGroup (s : State) (e : Nat) : State :=
  if (s.link e).rx = 0 ∧ (s.link e).tx = 0 then s.showLink e
  else (((s.modLink e (fun k => { k with rx := 0, rxAt := none, discard := false })).linkStops e).showMembers e).showLink e

/-- The receive-good mask follows its lanes: a change is announced at once and names its apply point, the first comma of the
partner's stream at least 1,024 blocks away, which is its next or the one after; a lane lost is no longer used, and the
receiver discards until then (R227, R228). -/
def State.regroup (s : State) (e : Nat) : State :=
  if s.laneMode e ≠ 0 then s.noGroup e
  else
    let s0 := s.excludeLanes e
    let new := s0.goodMask e
    let k := s0.link e
    if new = k.rx then s0.showLink e
    else
      let back := new &&& ~~~ k.rx &&& k.was
      let at_ := k.peerComma + 1 + (if s0.freeVal.getLsbD 0 then 1 else 0)
      let s1 := (s0.drawn 1).setLink e
        { k with rx := new, rxAt := some at_, discard := k.discard || decide (k.rx &&& ~~~ new ≠ 0), was := k.was ||| new }
      let s2 := if back ≠ 0 then s1.raise (pgBLNK (e / 16)) 4 else s1
      let s3 := (s2.showMembers e).sendLstate e
      (if new = 0 then s3.linkStops e else s3).showLink e

/-- The links of some lanes, each once. -/
def State.linksOf (s : State) (ls : List Nat) : List Nat := (ls.map (fun l => (s.linkOf l).1)).eraseDups

/-- What several lanes do in one cycle changes each of their groups once (R243). -/
def State.regroupAll (s : State) (ls : List Nat) : State := (s.linksOf ls).foldl (fun t e => t.regroup e) s

/-! ## Arrival and departure (R223 to R225, R232) -/

/-- An entry becomes present: the fields from the lane's last HELLO, or those of an Ethernet port; the sequence numbers
start at 0. -/
def State.linkArrives (s : State) (e l : Nat) (serial : W64) (cls caps : Nat) : State :=
  let s1 := s.setReg (ptabKey 0x104 e) (BitVec.ofNat 32 (2 ^ 31 + cls * 2 ^ 28 + 2 ^ (16 + (l - e)) + caps))
  let s2 := (s1.setReg64 (ptabKey 0x108 e) serial).setReg (ptabKey 0x110 e) (BitVec.ofNat 32 s.rawNs32)
  let s3 := s2.setLink e { s2.link e with txSeq := 0, rxSeq := 0, seen := [], nak := none, was := 0 }
  s3.irqBit (pgBLNK (e / 16)) 0

/-- A lane reaches UP with its partner: it brings the entry, or joins it when it holds the same partner. -/
def State.laneArrives (s : State) (l : Nat) : State :=
  let e := (s.linkOf l).1
  let serial := s.rxSerial l
  let s1 := s.modLane l (fun x => { x with partner := some serial, timer := none })
  let hello := s.reg (pgLANE l + 0x100)
  if s.ptPresent e = false then s1.linkArrives e l serial (bitsOf hello 31 29) (bitsOf hello 15 0)
  else if s.ptSerial e = serial then s1.put (ptabKey 0x104 e) 23 16 (s.ptLanes e ||| 2 ^ (l - e))
  else s1

/-- BLNK_REPLAY.UNACKED of a link. -/
def State.showUnacked (s : State) (e : Nat) : State :=
  s.put (pgBLNK (e / 16) + 0x0C0 + 4 * (e % 16)) 11 0 (s.link e).store.length

/-- Frames that wait for a transmit timestamp (R328). -/
def State.tsWaiting (s : State) (q : Nat) : List TsReq := tabGet (fun _ => []) s.tsPend q
def State.setTsWaiting (s : State) (q : Nat) (l : List TsReq) : State := { s with tsPend := tabSet (fun _ => []) s.tsPend q l }

/-- The replay store of a link is discarded; each frame is counted in TRACE_CNT_LOST (R232), and one that has not left the balls gets no
timestamp. A frame whose header was looked up in this cycle is still delivered (R243). -/
def State.dropStore (s : State) (e : Nat) : State :=
  let k := s.link e
  let gone := fun (r : TsReq) => decide (r.src = 0) && decide (r.link = e) && k.store.any (fun f => decide (f.seq = r.seq) && !f.sent)
  let s1 := s.setTsWaiting (e / 16) ((s.tsWaiting (e / 16)).filter (fun r => !gone r))
  let s2 := s1.setLink e { k with store := [], held := none, landing := k.landing.filter (fun l => decide (l.raw = s.kept.raw)) }
  (s2.inc (pgTRACE (e / 16) + 0x060) 31 0 k.store.length).showUnacked e

/-- An entry departs (R225). -/
def State.entryDeparts (s : State) (e : Nat) : State :=
  if s.ptPresent e = false then s
  else
    let s1 := ((s.put (ptabKey 0x104 e) 31 31 0).put (ptabKey 0x104 e) 23 16 0).dropStore e
    ((s1.irqBit (pgBLNK (e / 16)) 1).partnerDeparts e).settle

/-- A lane departs (R224): it holds its partner no longer; the entry departs with the last lane that held it. -/
def State.laneDeparts (s : State) (l : Nat) : State :=
  let e := (s.linkOf l).1
  match (s.lane l).partner with
  | none => s
  | some _ =>
    let s1 := s.modLane l (fun x => { x with partner := none, timer := none })
    let left := s.ptLanes e &&& (0xFF - 2 ^ (l - e))
    if s.ptPresent e = false ∨ left = s.ptLanes e then s1
    else if left = 0 then s1.entryDeparts e
    else s1.put (ptabKey 0x104 e) 23 16 left

/-! ## States of a lane (R206) -/

/-- The eye sweep of a lane ends (R208, R216). -/
def State.eyeEnd (s : State) (l : Nat) (ok : Bool) : State :=
  match (s.lane l).eye with
  | none => s
  | some _ =>
    (((s.modLane l (fun x => { x with eye := none })).put (pgLANE l + 0x078) 31 31 0).put (pgLANE l + 0x078) 30 30 (b2n ok)).irqBit
      (pgLANE l) 3

/-- A lane takes a state; a sweep ends when it leaves UP, ETH_UP or TEST. -/
def State.setLaneState (s : State) (l st : Nat) : State :=
  let s1 := if (s.laneState l = 5 ∨ s.laneState l = 7 ∨ s.laneState l = 8) ∧ s.laneState l ≠ st then s.eyeEnd l false else s
  s1.put (pgLANE l + 0x044) 31 28 st

/-- RATE, RX_LOCK and FEC_ACTIVE of LANE_STAT. -/
def State.setRx (s : State) (l rate : Nat) (lock fec : Bool) : State :=
  ((s.put (pgLANE l + 0x044) 22 20 rate).put (pgLANE l + 0x044) 25 25 (b2n lock)).put (pgLANE l + 0x044) 24 24 (b2n fec)

/-- The taps of LANE_TX_EQ as applied; a sum above 63 lowers MAIN and raises TXEQ_CLIP. -/
def State.applyEq (s : State) (l : Nat) : State :=
  let v := s.reg (pgLANE l + 0x04C)
  let rest := bitsOf v 29 24 + bitsOf v 21 16 + bitsOf v 5 0
  if 63 < rest + bitsOf v 13 8 then
    (s.modLane l (fun x => { x with eq := putFld v 13 8 (63 - rest) })).raise (pgLANE l) 5
  else s.modLane l (fun x => { x with eq := v })

/-- The exchange of HELLOs starts afresh. -/
def LaneSt.forget (x : LaneSt) : LaneSt := { x with run := 0, sent := 0, got := 0, train := 0 }

/-- HUNT, at rate 0, sending idle unless squelched; the timer of R224 starts for a lane with a partner. Its group follows. -/
def State.hunt (s : State) (l : Nat) : State :=
  (((s.setLaneState l 1).setRx l 0 false false).modLane l (fun x =>
    { x.forget with timer := if x.partner.isSome ∧ x.timer.isNone then some s.kept.raw else x.timer })).txOn l
def State.toHunt (s : State) (l : Nat) : State := (s.hunt l).regroup (s.linkOf l).1

/-- The rows of R211: widths and rate codes that make an Ethernet port. -/
def ethRow (w rate : Nat) : Bool :=
  (decide (w = 1) && (decide (rate = 2) || decide (rate = 3) || decide (rate = 4)))
  || (decide (w = 4) && (decide (rate = 2) || decide (rate = 3) || decide (rate = 4)))
  || (decide (w = 2) && (decide (rate = 3) || decide (rate = 4)))
  || (decide (w = 8) && decide (rate = 3))

/-- FEC of a port (R211, R233). -/
def State.ethFec (s : State) (e : Nat) : Bool :=
  if s.maxRate e = 2 then decide ((s.linkOf e).2 = 4) || s.fecReq e else true

/-- A lane in TEST sends what LANE_TEST says: received bits again, or its pattern; the pattern's first bits are free (R213, R215). -/
def State.applyTest (s : State) (l : Nat) : State :=
  let v := s.reg (pgLANE l + 0x064)
  let n := (prbsTaps (bitsOf v 29 28)).1
  let src : TestSource :=
    if bitsOf v 27 26 = 2 then .received
    else if bit v 31 then .pattern (bitsOf v 29 28) (1 + s.freeVal.toNat % (2 ^ n - 1)) (decide (3 ≤ bitsOf v 25 23))
    else .quiet
  ((s.drawn 1).emit (.testStream l src)).emit (.laneTx l (s.txOpen l))

/-- A lane leaves DISABLED by its mode, when it may (R206). -/
def State.laneStart (s : State) (l : Nat) : State :=
  let e := (s.linkOf l).1
  if s.laneState l ≠ 0 ∨ s.laneOpen l = false then s
  else
    let s1 := if s.laneMode l = s.laneMode e then s else s.raise (pgBLNK (l / 16)) 0
    if s.laneMode l = 0 then s1.toHunt l
    else if s.laneMode l = 1 then
      let s2 := ((((s1.setLaneState l 6).setRx l (s.maxRate e) false (s.ethFec e)).applyEq l).txOn l).showLink e
      if l = e ∧ ethRow (s.linkOf e).2 (s.maxRate e) = false then s2.raise (pgBLNK (l / 16)) 3 else s2
    else (((s1.setLaneState l 8).setRx l (s.fld (pgLANE l + 0x064) 25 23) false false).applyEq l).applyTest l

/-- The link of an Ethernet port goes down: its lanes wait, with LANE_TX_EQ applied anew, and the entry's timer starts (R212, R224). -/
def State.portDown (s : State) (e : Nat) : State :=
  let s1 := (s.linkLanes e).foldl (fun t l =>
    if t.laneState l = 7 then ((t.setLaneState l 6).put (pgLANE l + 0x044) 25 25 0).applyEq l else t) s
  ((s1.put (pgLANE e + 0x200) 31 31 0).modLane e (fun x => { x with timer := some s.kept.raw })).showLink e

/-- The waiting lanes of a port run at its first lane's rate (R233). -/
def State.portRate (s : State) (e : Nat) : State :=
  if s.laneMode e ≠ 1 then s
  else (s.linkLanes e).foldl (fun t l =>
    if t.laneState l = 6 ∧ t.laneMode l = 1 then
      (t.put (pgLANE l + 0x044) 22 20 (t.maxRate e)).put (pgLANE l + 0x044) 24 24 (b2n (t.ethFec e))
    else t) s

/-- DISABLED: the transmitter is off, an injected squelch has ended, and the lane departs (R206, R224, R242). Its group follows. -/
def State.disable (s : State) (l : Nat) : State :=
  let s1 := if s.laneState l = 7 then s.portDown (s.linkOf l).1 else s
  let s2 := if (s.lane l).inj = 0 then s1 else s1.put (pgBLNK (l / 16) + 0x140) 31 31 0
  let s3 := (((s2.setLaneState l 0).setRx l 0 false false).put (pgLANE l + 0x068) 31 31 0).modLane l (fun x =>
    { x.forget with squelch := false, inj := 0 })
  (s3.emit (.laneTx l false)).laneDeparts l

/-- An entry departs once every lane of its link is in DISABLED, a port's too (R224). -/
def State.portGone (s : State) (e : Nat) : State :=
  if (s.linkLanes e).all (fun i => decide (s.laneState i = 0)) then s.entryDeparts e else s

/-- Lanes go to DISABLED in one cycle. -/
def State.disableAll (s : State) (ls : List Nat) : State :=
  let on := ls.filter (fun l => decide (s.laneState l ≠ 0))
  let t := on.foldl (fun t l => t.disable l) s
  (t.linksOf on).foldl (fun u e => (u.regroup e).portGone e) t
def State.toDisabled (s : State) (l : Nat) : State := s.disableAll [l]

/-- Failure counts cleared (R205). -/
def State.clearFails (s : State) (l : Nat) : State := s.put (pgLANE l + 0x044) 15 8 0

/-- A restart: counts cleared, DISABLED, then the first DISABLED row that matches, in one cycle (R206). -/
def State.laneRestart (s : State) (l : Nat) : State :=
  (((s.clearFails l).modLane l (fun x => { x with excluded := false })).toDisabled l).laneStart l

/-- A lock loss is counted and recorded (R200). -/
def State.countLoss (s : State) (l cause : Nat) : State :=
  (s.inc (pgLANE l + 0x054) 15 0 1).setReg (pgLANE l + 0x058) (BitVec.ofNat 32 (cause * 2 ^ 28 + s.rawNs24))

/-- A STEP or slip attempt fails (R205): the count is that of the rate tried. Its group follows. -/
def State.attemptLost (s : State) (l last : Nat) : State :=
  let t := s.laneTarget l
  let n := min (s.failCount l t + 1) 2
  let s1 := if 1 ≤ t ∧ t ≤ 4 then s.put (pgLANE l + 0x044) (7 + 2 * t) (6 + 2 * t) n else s
  let s2 := (s1.put (pgLANE l + 0x044) 3 0 last).raise (pgLANE l) 1
  let s3 := if s.failCount l t < 2 ∧ n = 2 then s2.raise (pgLANE l) 2 else s2
  ((s3.modLane l (fun x => { x with squelch := true })).emit (.laneTx l false)).hunt l
def State.attemptFails (s : State) (l last : Nat) : State := (s.attemptLost l last).regroup (s.linkOf l).1

/-- A lane enters UP: STATE_UP, its partner, its group; a lane of a group that lags too far raises SKEW (R203, R206, R220, R223). -/
def State.toUp (s : State) (l : Nat) : State :=
  let s1 := if s.skewOk l then s else s.raise (pgBLNK (l / 16)) 2
  (((s1.setLaneState l 5).irqBit (pgLANE l) 0).laneArrives l).regroup (s.linkOf l).1

/-- The target of R201 from two MAX_RATEs, the limit of a partner without commas, and four failure counts. -/
def targetOf (a b limit : Nat) (fails : Nat → Nat) : Nat :=
  let m := min (min a b) (min limit 4)
  if m = 4 ∧ fails 4 ≠ 2 then 4
  else if 3 ≤ m ∧ fails 3 ≠ 2 then 3
  else if 2 ≤ m ∧ fails 2 ≠ 2 then 2
  else if 1 ≤ m ∧ fails 1 ≠ 2 then 1
  else 0

/-- What the partner's COMMA limits the target to (R201). -/
def State.commaLimit (s : State) (l : Nat) : Nat := if s.forerunner l then (if s.allow3120 l then 1 else 0) else 4

/-- The own target and the partner's, from its last HELLO. -/
def State.targets (s : State) (l : Nat) : Nat × Nat :=
  let h := s.reg (pgLANE l + 0x100)
  let peer := bitsOf h 28 26
  (targetOf (s.maxRate l) peer (s.commaLimit l) (s.failCount l),
   targetOf (s.maxRate l) peer (s.commaLimit l) (fun r => if 1 ≤ r ∧ r ≤ 4 then bitsOf h (15 + 2 * r) (14 + 2 * r) else 0))

/-- The leave condition of HELLO, and what follows (R202, R203). -/
def State.helloLeave (s : State) (l : Nat) : State :=
  let x := s.lane l
  let t := s.targets l
  if s.laneState l = 2 ∧ 3 ≤ x.sent ∧ 3 ≤ x.got ∧ t.1 = t.2 then
    if t.1 = 0 then s.toUp l
    else
      let fec := decide (3 ≤ t.1) || (decide (t.1 = 2) && (s.fecReq l || decide (s.fld (pgLANE l + 0x100) 24 24 = 1)))
      ((((s.setLaneState l 3).setRx l t.1 false fec).applyEq l).modLane l (fun x =>
        { x with stepRaw := s.kept.raw, train := 0, blocks := 0, skew := 0 })).txOn l
  else s

/-- The UP condition of STEP (R203): four more TRAIN blocks with RX_OK follow. -/
def State.stepLeave (s : State) (l : Nat) : State :=
  if s.laneState l = 3 ∧ s.rxLock l = true ∧ 4 ≤ (s.lane l).train then
    (s.sendOn [l, l, l, l] (trainBlock l true (s.failCount l (s.laneTarget l)))).toUp l
  else s

/-- The reference of a lane-quad is lost: all four lanes to DISABLED, a PHASE loss counted for those in HELLO, STEP, SLIP_WAIT or
UP (R198, R206). -/
def State.qrefLost (s : State) (n : Nat) : State :=
  let ls := [4 * n, 4 * n + 1, 4 * n + 2, 4 * n + 3]
  (ls.foldl (fun t l => if 2 ≤ t.laneState l ∧ t.laneState l ≤ 5 then t.countLoss l 5 else t) (s.put (qrefKey (4 * n)) 1 1 0)).disableAll ls

/-- The reference of a lane-quad locks: its lanes leave DISABLED (R198). -/
def State.qrefGained (s : State) (n : Nat) : State :=
  (List.range 4).foldl (fun t i => t.laneStart (4 * n + i)) (s.put (qrefKey (4 * n)) 1 1 1)

/-- LOCKED of every lane-quad with SEL = 1 follows Fantail's lock (R198). -/
def State.qrefFollow (s : State) (locked : Bool) : State :=
  (List.range 16).foldl (fun t n =>
    if t.qrefSel (4 * n) && !t.quadDark (n / 4) then
      if locked then (if t.qrefLocked (4 * n) then t else t.qrefGained n)
      else (if t.qrefLocked (4 * n) then t.qrefLost n else t)
    else t) s

/-- The serial number and the fields of a HELLO or DEPART frame of a lane (R222). -/
def State.fuseSerial (s : State) : W64 := s.reg64 (pgFUSE + 0x040)
def State.sendFrame0 (s : State) (l type : Nat) (seen : Bool) : State :=
  if s.txOpen l then
    s.emit (.chars l (helloChars (helloBytes type (Config.helloClass.toNat % 8) seen (s.fecReq l) (s.maxRate l)
      (s.fld (pgLANE l + 0x044) 15 8) l (Config.helloCaps.toNat % 8) s.fuseSerial)))
  else s

/-- DRAIN step 3 (R74, R226): the notices, then transmitters off. -/
def State.lanesDepart (s : State) (notify : Bool) : State :=
  let notice := fun (t : State) (l : Nat) =>
    if t.laneMode l ≠ 0 then t
    else if t.laneState l = 5 then t.sendOn [l, l, l] departBlock
    else if t.laneState l = 2 then t.sendFrame0 l 0x44 (decide (3 ≤ (t.lane l).run))
    else t
  (if notify then (List.range 64).foldl notice s else s).disableAll (List.range 64)

end Sys2Proof.Machine
end

