-- ==== Sys2Proof/Machine/TimeOps.lean ====
section
/-! DEFINITION. Time as the device keeps it: one CLK_TIME cycle of RAW and presented time (R308, R309, R312), the committed pairs
(R311), the EEC (R317), action slots (R323 to R325), rings in Cistern (R236, R320) and transmit timestamps (R328). -/

namespace Sys2Proof.Machine

open Sys2Proof

/-! ## Pairs -/

/-- The committed value of a 64-bit RW pair. -/
def State.pair (s : State) (key : Nat) : W64 := tabGet zero64 s.pairs key
def State.setPair (s : State) (key : Nat) (v : W64) : State := { s with pairs := tabSet zero64 s.pairs key v }
/-- The _LO half of a pair has been written and not committed. -/
def State.loWritten (s : State) (key : Nat) : Bool := tabGet (fun _ => false) s.pairLo key
def State.setLoWritten (s : State) (key : Nat) (b : Bool) : State := { s with pairLo := tabSet (fun _ => false) s.pairLo key b }
/-- A write of the _HI half commits both halves (R311). -/
def State.commitPair (s : State) (key : Nat) : State := (s.setPair key (s.reg64 key)).setLoWritten key false
/-- Hardware changes a committed pair; a _LO half the host has written and not committed stays for its commit (R311). -/
def State.movePair (s : State) (key : Nat) (v : W64) : State :=
  (if s.loWritten key then s.setReg (key + 4) (v.extractLsb' 32 32) else s.setReg64 key v).setPair key v

/-! ## RAW and a slew's end -/

/-- The running slew is consumed at this RAW (R312). -/
def State.slewSpent (s : State) : Bool :=
  let d := (s.kept.raw - s.time.baseRaw).toNat
  s.time.slewOn && decide (s.slewTerm ≠ 0) && decide (s.time.slewRem.natAbs * 2 ^ 48 ≤ d * s.slewTerm.toNat)

/-- The last cycle of a slew applies only the remainder, and the slew ends (R312). -/
def State.endSlew (s : State) : State :=
  let d := (s.kept.raw - s.time.baseRaw).toNat
  let pt := s.time.basePt + BitVec.ofNat 64 d + BitVec.ofInt 64 (((d : Int) * s.time.rate.toInt) / 2 ^ 48 + s.time.slewRem)
  State.irqBit { s with time := { s.time with baseRaw := s.kept.raw, basePt := pt, slewRem := 0, slewOn := false } } pgFTB 0

/-- RAW advances by 1,024; EPOCH counts its wrap (R308). -/
def State.advanceRaw (s : State) : State :=
  let wraps := decide (2 ^ 64 ≤ s.kept.raw.toNat + 1024)
  let s1 : State := { s with kept := { s.kept with
    raw := s.kept.raw + 1024, epoch := if wraps then s.kept.epoch + 1 else s.kept.epoch } }
  if wraps then s1.irqBit pgFTB 2 else s1

/-! ## The EEC (R317) -/

/-- FTB_EEC_STAT.STATE: 0 FREE_RUN, 1 ACQUIRING, 2 LOCKED, 3 HOLDOVER. -/
def State.eec (s : State) : Nat := s.fld (pgFTB1 + 0x044) 1 0
/-- LOCKED or HOLDOVER: Fantail gives its reference (R318). -/
def State.eecHolds (s : State) : Bool := decide (s.eec = 2) || decide (s.eec = 3)
def State.eecOnSec (s : State) : Bool := decide (s.fld (pgFTB1 + 0x044) 2 2 = 1)
def State.eecEnable (s : State) : Bool := decide (s.fld (pgFTB1 + 0x040) 31 31 = 1)
/-- An input is enabled and qualified. -/
def State.inputOk (s : State) (sec : Bool) : Bool :=
  if sec then decide (s.fld (pgFTB1 + 0x040) 29 29 = 1) && decide (s.fld (pgFTB1 + 0x044) 4 4 = 1)
  else decide (s.fld (pgFTB1 + 0x044) 3 3 = 1)
def State.setEec (s : State) (st : Nat) : State := s.put (pgFTB1 + 0x044) 1 0 st
/-- The EEC tracks an input; FTB_EEC_FREQ reports its offset. -/
def State.track (s : State) (sec : Bool) : State :=
  (s.put (pgFTB1 + 0x044) 2 2 (b2n sec)).setReg (pgFTB1 + 0x048) (if sec then s.time.freqSec else s.time.freqPri)

/-- FREE_RUN with an enabled, qualified input: ACQUIRING. -/
def State.eecAcquire (s : State) : State :=
  if s.eec = 0 ∧ s.eecEnable = true ∧ (s.inputOk false = true ∨ s.inputOk true = true) then
    (s.setEec 1).track (!s.inputOk false)
  else s

/-- The EEC enters LOCKED on an input. -/
def State.eecLockOn (s : State) (sec : Bool) : State :=
  let s1 := ((s.setEec 2).track sec).irqBit pgFTB 3
  ({ s1 with time := { s1.time with lockAt := s.fullRaw } } : State).qrefFollow true

/-- LOCKED or ACQUIRING loses its tracked input (R317). -/
def State.eecLose (s : State) : State :=
  if s.eec = 1 then
    (if s.inputOk (!s.eecOnSec) then s.track (!s.eecOnSec) else (s.setEec 0).eecAcquire)
  else if s.eec = 2 then
    if 10000000000 ≤ s.nsSinceFull s.time.lockAt then (s.setEec 3).raise pgFTB 1
    else (((s.setEec 0).raise pgFTB 2).qrefFollow false).eecAcquire
  else s

/-- ENABLE written 0: FREE_RUN. -/
def State.eecOff (s : State) : State := (s.setEec 0).qrefFollow false

/-- Qualification and frequency of a lane as the two inputs had it before a write of FTB_EEC_CFG; another lane has yet to qualify. -/
def State.laneQual (s : State) (old : W32) (lane : Nat) : Bool × W32 :=
  if lane = bitsOf old 5 0 then (decide (s.fld (pgFTB1 + 0x044) 3 3 = 1), s.time.freqPri)
  else if lane = bitsOf old 13 8 then (decide (s.fld (pgFTB1 + 0x044) 4 4 = 1), s.time.freqSec)
  else (false, 0)

/-- A write of FTB_EEC_CFG has taken effect: old is the word before it. A tracked lane that either field still names goes on being
tracked; one that neither names any more is lost (R317). -/
def State.eecReconfig (s : State) (old : W32) : State :=
  let new := s.reg (pgFTB1 + 0x040)
  let p := s.laneQual old (bitsOf new 5 0)
  let c := s.laneQual old (bitsOf new 13 8)
  let tracked := if s.eecOnSec then bitsOf old 13 8 else bitsOf old 5 0
  let s1 := (s.put (pgFTB1 + 0x044) 3 3 (b2n p.1)).put (pgFTB1 + 0x044) 4 4 (b2n c.1)
  let s2 : State := { s1 with time := { s1.time with
    freqPri := p.2, freqSec := c.2, qualAt := if bitsOf new 5 0 = bitsOf old 5 0 then s.time.qualAt else s.fullRaw } }
  if bit new 31 = false then (if s2.eec = 0 then s2 else s2.eecOff)
  else if s2.eec = 0 ∨ s2.eec = 3 then s2.eecAcquire
  else if bitsOf new 5 0 = tracked ∧ s2.inputOk false = true then s2.track false
  else if bitsOf new 13 8 = tracked ∧ s2.inputOk true = true then s2.track true
  else s2.eecLose

/-! ## Rings in Cistern -/

/-- Bytes written to a ring of `size` bytes at `base` from position `pos` on, wrapping at its end (R236). -/
def State.ringWrite (s : State) (who : Req) (base size pos : Nat) (bs : Bytes) : State :=
  let p := pos % size
  let first := bs.take (size - p)
  let s1 := (s.devWrite who (base + p) (plain first)).1
  (s1.devWrite who base (plain (bs.drop (size - p)))).1

/-- n bytes read from a ring, wrapping at its end. -/
def State.ringRead (s : State) (who : Req) (base size pos n : Nat) : State × List PByte × Bool :=
  let p := pos % size
  let m := min n (size - p)
  let r := s.devRead who (base + p) m
  if r.2.2 = false then r
  else
    let t := r.1.devRead who base (n - m)
    (t.1, r.2.1 ++ t.2.1, t.2.2)

/-- Zeros that pad n bytes to a multiple of k. -/
def padTo (k n : Nat) : Bytes := List.replicate ((k - n % k) % k) 0

/-- SIZE_LOG2 of a ring of R236, R241 or R320: 12 to 22, other values as 12. -/
def streamLog (x : Nat) : Nat := if 12 ≤ x ∧ x ≤ 22 then x else 12

/-! ## PTP receive ring (R319, R320) -/

/-- A frame of a port is timestamped and written with its header. -/
def State.ptpDeliver (s : State) (e : Nat) (raw : Bytes) (ecpri : Bool) : State :=
  let q := e / 16
  let cfg := s.reg (pgFQU1 q + 0x068)
  if bit cfg 31 = false then s
  else
    let ts := s.pt - BitVec.ofNat 64 (s.fld (pgFQU1 q + 0x080 + 4 * (e % 16)) 15 0)
    let body := raw.take 2048
    let hdr := bytesLE 8 ts.toNat ++ bytesLE 1 (e % 16) ++ bytesLE 1 (b2n ecpri + 2 * b2n (decide (2048 < raw.length)))
      ++ bytesLE 2 raw.length ++ bytesLE 4 0
    let bs := hdr ++ body
    let all := bs ++ padTo 64 bs.length
    let base := (s.pair (pgFQU1 q + 0x060)).toNat
    let pos := (s.reg (pgFQU1 q + 0x06C)).toNat
    let s1 := s.ringWrite { quad := q } (base - base % 64) (2 ^ streamLog (bitsOf cfg 4 0)) pos all
    let s2 := (s1.setReg (pgFQU1 q + 0x06C) (BitVec.ofNat 32 (pos + all.length))).irqBit (pgFQU q) 2
    if bit cfg 30 then (s2.evtAdd (bitsOf cfg 23 16) 1).settle else s2

/-! ## Transmit timestamps (R328, R329) -/

def State.tsQueue (s : State) (q : Nat) : List (BitVec 128) := tabGet (fun _ => []) s.tsq q
def State.setTsQueue (s : State) (q : Nat) (l : List (BitVec 128)) : State := { s with tsq := tabSet (fun _ => []) s.tsq q l }

/-- A frame takes its ID, and its entry unless the queue is full. -/
def State.takeTimestamp (s : State) (q : Nat) (r : TsReq) : State × W16 :=
  let id := s.fld (pgFQU1 q + 0x040) 15 0
  let s1 := s.put (pgFQU1 q + 0x040) 15 0 (id + 1)
  let ts := s.pt + BitVec.ofNat 64 (s.fld (pgFQU1 q + 0x080 + 4 * (r.link % 16)) 31 16)
  let w0 := id * 65536 + r.src * 16384 + (r.link % 16) * 1024 + r.entry
  let e := BitVec.ofNat 128 (w0 + r.seq.toNat * 2 ^ 48 + ts.toNat * 2 ^ 64)
  (if 64 ≤ (s.tsQueue q).length then
    ((s1.put (pgFQU1 q + 0x040) 31 31 1).inc (pgFQU1 q + 0x044) 31 0 1).raise (pgFQU q) 1
  else (s1.setTsQueue q (s.tsQueue q ++ [e])).irqBit (pgFQU q) 1, BitVec.ofNat 16 id)

/-! ## Action slots -/

def slotKey (off q k : Nat) : Nat := entKey (pgFQU q + off) k
/-- The live SLOT_A of a slot. -/
def State.slotA (s : State) (q k : Nat) : W32 := s.reg (slotKey 0x844 q k)
def State.slotArmed (s : State) (q k : Nat) : Bool := decide (s.fld (slotKey 0x068 q k) 31 31 = 1)
def State.slotTime (s : State) (q k : Nat) : W64 := s.pair (slotKey 0x048 q k)
/-- PERIOD, 40 bits. -/
def State.slotPeriod (s : State) (q k : Nat) : Nat := bitsOf (s.pair (slotKey 0x050 q k)) 39 0
/-- An armed slot is due (R323). -/
def State.slotDue (s : State) (q k : Nat) : Bool :=
  s.slotArmed q k && bit (s.slotA q k) 31 && decide (0 ≤ timeDiff s.pt (s.slotTime q k))
def State.setLate (s : State) (q k : Nat) (b : Bool) : State :=
  { s with slotLate := tabSet (fun _ => false) s.slotLate (128 * q + k) b }
def State.isLate (s : State) (q k : Nat) : Bool := tabGet (fun _ => false) s.slotLate (128 * q + k)
/-- Disarmed. -/
def State.slotOff (s : State) (q k : Nat) : State := (s.put (slotKey 0x068 q k) 31 31 0).setLate q k false

/-- Slots that became due between two states are LATE (R323). -/
def State.markLate (s t : State) : State :=
  (List.range 4).foldl (fun u q => (List.range 128).foldl (fun v k =>
    if !s.slotDue q k && v.slotDue q k then v.setLate q k true else v) u) t

def State.sendsOf (s : State) (q : Nat) : List SendReq := tabGet (fun _ => []) s.sends q
def State.setSends (s : State) (q : Nat) (l : List SendReq) : State := { s with sends := tabSet (fun _ => []) s.sends q l }

/-- Entries first to first + span - 1 of a quadrant's Tailrace are asked for a frame of n bytes each; entries above 1,023 are
ignored; an n outside 8 to 16,384 sends nothing and raises LEN_ERR (R325). -/
def State.requestSends (s : State) (q first span n : Nat) : State :=
  if n < 8 ∨ 16384 < n then s.raise (pgFQU q) 0
  else
    let id := ((s.sendsOf q).map (fun r => r.span)).foldl max 0 + 1
    s.setSends q (s.sendsOf q ++ ((List.range span).filter (fun i => decide (first + i < 1024))).map (fun i => ⟨first + i, n, id⟩))

/-- The action of a slot (R325). -/
def State.slotAct (s : State) (q k : Nat) : State :=
  let a := s.slotA q k
  let cnt := s.reg (slotKey 0x058 q k)
  match bitsOf a 30 29 with
  | 1 =>
    if bit a 28 then
      let l := tabGet (fun _ => []) s.lenReads q
      let r : LenRead := ⟨bitsOf a 9 0, bitsOf a 21 12 + 1, bitsOf a 27 22, s.pair (slotKey 0x05C q k)⟩
      { s with lenReads := tabSet (fun _ => []) s.lenReads q (l ++ [r]) }
    else s.requestSends q (bitsOf a 9 0) (bitsOf a 21 12 + 1) cnt.toNat
  | 2 => (s.evtAdd (bitsOf a 7 0) (bitsOf cnt 7 0)).settle
  | _ => s

/-- The least k ≥ 1 that takes a due time past the present one, for a period p ≥ 1 (R324). -/
def stepsPast (diff : Int) (p : Nat) : Nat := diff.toNat / p + 1

/-- After a delivery (R324). -/
def State.slotNext (s : State) (q k : Nat) : State :=
  let p := s.slotPeriod q k
  if p = 0 then s.slotOff q k
  else
    let n := stepsPast (timeDiff s.pt (s.slotTime q k)) p
    (s.movePair (slotKey 0x048 q k) (s.slotTime q k + BitVec.ofNat 64 (n * p))).inc (slotKey 0x068 q k) 15 0 (n - 1)

/-- R323: a due slot is delivered, or suppressed when its owner is not RUNNING. -/
def State.deliverSlot (s : State) (q k : Nat) : State :=
  let s1 := s.setReg64 (slotKey 0x06C q k) s.pt
  let s2 := if s.isLate q k then ((s1.put (slotKey 0x068 q k) 30 30 1).irqBit (pgFQU q) 0).setLate q k false else s1
  let s3 := if s.cgRunning (bitsOf (s.slotA q k) 27 22) then s2.slotAct q k else s2.put (slotKey 0x068 q k) 29 29 1
  s3.slotNext q k

/-- The FQU of a quadrant runs. -/
def State.fquOn (s : State) (q : Nat) : Bool := !s.quadDark q && decide (s.slotState (qSlot q 1) < 2)

/-! ## One cycle of CLK_TIME -/

/-- Gates of GATE = 1 whose time has passed set READY, and DL_MODE 2 tasks whose deadline has passed take EXPIRED (R313). -/
def State.timeMarks (s : State) : State :=
  let s1 := s.mapTasks (fun t => decide (t.place = .parked) && decide (t.gate = 1) && s.gateOpen t) (fun t => { t with ready := true })
  (s1.mapTasks (fun t => t.queued && decide (t.dlMode = 2) && t.missed s.pt) (fun t => { t with expired := true })).settle

/-- The cycle a STEP sets (R313): presented time and PT_EPOCH take its values, a running slew is cancelled; old is the state before
the cycle, whose slots were not due. -/
def State.makeStep (s old : State) (pt : W64) (epoch : W16) : State :=
  let s1 : State := { s with time := { s.time with
    baseRaw := s.kept.raw, basePt := pt, ptEpoch := epoch, slewRem := 0, slewOn := false, stepPend := none } }
  (State.markLate old ((s1.put (pgFTB + 0x078) 1 1 1).irqBit pgFTB 1)).timeMarks

/-- One CLK_TIME cycle: RAW, a STEP or a slew that ends, the wrap of presented time, and the clusters' clocks (R308, R309, R312,
R313). -/
def State.cycle (s : State) : State :=
  let s1 := s.vaneTick.advanceRaw
  match s.time.stepPend with
  | some p => s1.makeStep s p.1 p.2
  | none =>
    let s2 := if s1.slewSpent then s1.endSlew else s1
    if s2.pt.toNat < s.pt.toNat then { s2 with time := { s2.time with ptEpoch := s2.time.ptEpoch + 1 } } else s2

/-- The next cycle wraps presented time. -/
def State.ptWraps (s : State) : Bool := decide (s.time.stepPend = none) && decide (s.cycle.pt.toNat < s.pt.toNat)
/-- The next cycle ends the running slew. -/
def State.slewEnds (s : State) : Bool := decide (s.time.stepPend = none) && s.advanceRaw.slewSpent

end Sys2Proof.Machine
end

