-- ==== Sys2Proof/Machine/ResetOps.lean ====
section
/-! DEFINITION. What resets clear: the registers of a page, what a block holds beside them (R43, R217, R268, R294, R307, R315, R335,
R418, R467), a whole quadrant (R350), and the wide resets of R443. -/

namespace Sys2Proof.Machine

open Sys2Proof

/-! ## What resets return -/

/-- An offset a SOFT_RESET returns to its reset value (R43): block-specific registers, ERR_STAT, ERR_FIRST and IRQ_STAT. R43 names
ERR_INJ neither among what is reset nor among what is kept: that it is reset too is the model's choice (DESIGN CHOICE). -/
def softOff (o : Nat) : Bool :=
  decide (0x040 ≤ o) || decide (o = 0x010) || decide (o = 0x018) || decide (o = 0x01C) || decide (o = 0x02C)

/-! ## What a block holds beside its registers -/

/-- Presented time after a reset of the FTB page (R309, R315). -/
def State.resetTime (s : State) : State :=
  let t : State := { s with time := { s.time with
    baseRaw := s.kept.raw, basePt := s.kept.raw, ptEpoch := s.kept.epoch, rate := 0, slewRem := 0, slewOn := false, ppsOut := false,
    stepPend := none } }
  if s.time.ppsOut then t.emit (.pps false) else t

/-- Keys of a table of quadrant q with n keys a quadrant. -/
def ofQuad (n q k : Nat) : Bool := decide (k / n = q)

/-- An FQU: every slot disarmed, its queues empty (R326, R335). -/
def State.resetFqu (s : State) (q : Nat) : State :=
  { s with
    slotLate := tabDrop s.slotLate (ofQuad 128 q), tsq := tabErase s.tsq q, tsPend := tabErase s.tsPend q,
    lenReads := tabErase s.lenReads q, ptpTx := tabErase s.ptpTx q }

/-- The links of a quadrant start fresh, and its lanes hold no partner. -/
def State.resetLinks (s : State) (q : Nat) : State :=
  (List.range 16).foldl (fun t i => t.modLane (16 * q + i) (fun x => { x with partner := none, timer := none, excluded := false }))
    ({ s with links := tabDrop s.links (ofQuad 16 q), events := tabDrop s.events (ofQuad 16 q) } : State)

def State.resetHrace (s : State) (q : Nat) : State :=
  { s with hraceAt := tabDrop s.hraceAt (ofQuad 1024 q), ethLast := tabDrop s.ethLast (ofQuad 1024 q) }

def State.resetTrace (s : State) (q : Nat) : State :=
  { s with traceAt := tabDrop s.traceAt (ofQuad 1024 q), ethSeq := tabDrop s.ethSeq (ofQuad 1024 q), sends := tabErase s.sends q }

/-- The event counts, which are registers of the SLC page (R140). -/
def State.resetSlc (s : State) : State := { s with sluice := { s.sluice with evt := [], cancelJob := none } }

/-- What a block holds beside its registers, at a reset of its page. -/
def State.resetInner (s : State) (p : Page) : State :=
  match p.blk with
  | .lane => { s with lanes := tabErase s.lanes p.inst }
  | .ftb => s.resetTime
  | .fqu => s.resetFqu p.quad
  | .blnk => s.resetLinks p.quad
  | .hrace => s.resetHrace p.quad
  | .trace => s.resetTrace p.quad
  | .slc => s.resetSlc
  | .pump => { s with pump := [], pumpBytes := [] }
  | .fyil => { s with fyil := [] }
  | .shp => { s with shpHist := tabDrop s.shpHist (ofQuad 8192 p.quad) }
  | .abd => { s with gsm := tabDrop s.gsm (ofQuad 16 p.quad) }
  | .pmb => { s with pmb := tabErase s.pmb p.inst }
  | .bmon => { s with bmon := {} }
  | .hbmc => s.forgetRemap p.inst
  | _ => s

/-- The kernels, bars and tiles of a cluster are gone (R110, R350). -/
def State.dropKernels (s : State) (d : Nat) : State :=
  { s with sluice := { s.sluice with
      kern := tabDrop s.sluice.kern (ofQuad 256 d), barred := tabDrop s.sluice.barred (ofQuad 2048 d),
      kload := tabErase s.sluice.kload d } }

/-- Every tile memory of a cluster cleared. -/
def State.clearTiles (s : State) (d : Nat) : State := (List.range 8).foldl (fun t k => t.clearTile d k) s

/-! ## A quadrant (R350) -/

/-- The base of a quadrant's region. -/
def quadBase (q : Nat) : Nat := quadPg q 0

/-- An internal address lies in a memory of quadrant q. -/
def inQuadMem (q k : Nat) : Bool :=
  (decide (cisternBase + q * 0x2000000 ≤ k) && decide (k < cisternBase + q * 0x2000000 + 0x1800000))
  || (decide (clusterBase + 6 * q * 0x200000 ≤ k) && decide (k < clusterBase + 6 * (q + 1) * 0x200000))
  || (decide (tileAddr (6 * q) 0 0 ≤ k) && decide (k < tileAddr (6 * (q + 1)) 0 0))
  || (decide (progAddr (6 * q) 0 0 ≤ k) && decide (k < progAddr (6 * (q + 1)) 0 0))

/-- A memory unit with a merge buffer lies in quadrant q. -/
def inQuadUnit (q u : Nat) : Bool :=
  (decide (u < 64) && decide (u / 12 = q)) || (decide (64 ≤ u) && decide (u < 128) && decide ((u - 64) / 6 = q))
  || (decide (128 ≤ u) && decide ((u - 128) / 48 = q))

/-- A memory-control block lies in quadrant q. -/
def inQuadCtl (q m : Nat) : Bool := decide (m = q) || (decide (4 ≤ m) && decide (m < 28) && decide ((m - 4) / 6 = q))

/-- Every valid bit of a quadrant's memories cleared and its merge buffers discarded. -/
def State.clearQuadMem (s : State) (q : Nat) : State :=
  { s with mem := { s.mem with
      valid := tabDrop s.mem.valid (inQuadMem q), ecc := tabDrop s.mem.ecc (inQuadMem q), flip := tabDrop s.mem.flip (inQuadMem q),
      wb := s.mem.wb.filter (fun k => !inQuadMem q k), merge := tabDrop s.mem.merge (inQuadUnit q),
      scrub := tabDrop s.mem.scrub (inQuadCtl q) } }

/-- The quadrant reset. -/
def State.quadReset (s : State) (q : Nat) : State :=
  let s1 := s.dropRegs (inPages (quadBase q) 0x400)
  let s2 : State := { s1 with
    power := tabDrop s1.power (fun k => decide (k / 64 = q + 1)),
    resetting := tabDrop s1.resetting (inPages (quadBase q) 0x400),
    tiles := tabDrop s1.tiles (ofQuad 48 q), lanes := tabDrop s1.lanes (ofQuad 16 q) }
  let s3 := ((s2.resetFqu q).resetHrace q).resetTrace q
  let s4 := ((List.range 6).foldl (fun t c => t.dropKernels (6 * q + c)) s3).clearQuadMem q
  { s4 with
    shpHist := tabDrop s4.shpHist (ofQuad 8192 q), eng := tabDrop s4.eng (ofQuad 16 q), gsm := tabDrop s4.gsm (ofQuad 16 q),
    links := tabDrop s4.links (ofQuad 16 q), events := tabDrop s4.events (ofQuad 16 q),
    sluice := { s4.sluice with
      idle := tabDrop s4.sluice.idle (ofQuad 48 q), busy := tabDrop s4.sluice.busy (ofQuad 48 q),
      busyFrom := tabDrop s4.sluice.busyFrom (ofQuad 48 q) } }

/-! ## A soft reset (R43) -/

/-- The registers a SOFT_RESET keeps beside those of R43: the EEC's state (R315), a SEL = 1 quad's or a kept reference's
LOCKED, which the lane does not own. -/
def keptSoft (b : Block) (pg a : Nat) : Bool :=
  match b with
  | .ftb => decide (a = pg + 0x1044) || decide (a = pg + 0x1048)
  | _ => false

/-- SOFT_RESET accepted. -/
def State.softReset (s : State) (pg : Nat) (p : Page) : State :=
  let s1 := s.dropRegs (fun a => inPages pg p.blk.pageCount a && softOff (a % 0x1000) && !keptSoft p.blk pg a)
  let s2 := s1.resetInner p
  { s2 with resetting := tabSet (fun _ => false) s2.resetting pg true }

/-- The block of slot k returns from OFF at its reset values (R361, R369). -/
def State.offReset (s : State) (k : Nat) (p : Page) : State :=
  let s1 := (s.slotReset k).resetInner p
  match p.blk with
  | .clu => (s1.dropKernels p.inst).clearTiles p.inst
  | .cmem => s1.clearCluster p.inst
  | .cbank => s1.clearBank (p.inst / 12) (p.inst % 12)
  | _ => s1

/-! ## Wide resets (R443) -/

/-- A page whose registers a DEVICE reset keeps: FTB, BMON, the PMBus hosts, GPIO, RSTO and WELL. -/
def keptByDevice (a : Nat) : Bool :=
  inPages pgFTB 2 a || inPages pgBMON 1 a || inPages (pgPMB 0) 2 a || inPages pgGPIO 1 a || inPages pgRSTO 1 a || inPages pgWELL 1 a

/-- Registers every reset short of the loss of VDD_WELL keeps: the fuses as FUSE_SERIAL and FUSE_STATE show them,
WEIR_RESET_CAUSE and WEIR_RESET_TIME, WELL_RST_STAT. -/
def keptAlways (a : Nat) : Bool :=
  (decide (pgFUSE + 0x040 ≤ a) && decide (a ≤ pgFUSE + 0x048)) || decide (a = pgDWEIR + 0x180) || decide (a = pgDWEIR + 0x184)
  || decide (a = pgWELL + 0x048)

/-- Everything a wide reset other than PERST takes: tasks, lanes, links, memories, quadrants, configuration space. -/
def State.resetWork (s : State) : State :=
  { s with
    power := [], quad := [], resetting := [], cgStop := [], cgFault := [], sagWarned := [], pulses := [],
    sluice := {}, tiles := [],
    mem := { ({} : MemSt) with cells := s.mem.cells, hbmGen := s.mem.hbmGen + 1 },
    pcie := { ({} : PcieSt) with perstLow := s.pcie.perstLow },
    shpHist := [], eng := [], gsm := [], att := none, boot := none, bootDormant := false, burn := none,
    pump := [], pumpBytes := [], fyil := [], lanes := [], links := [], sends := [], traceAt := [], ethSeq := [], ethLast := [], hraceAt := [],
    events := [], slotLate := [], tsq := [], tsPend := [], lenReads := [], ptpTx := [] }

/-- Every transmitter turns off. -/
def State.lanesOff (s : State) : State :=
  (List.range 64).foldl (fun t l => if t.laneState l = 0 then t else t.emit (.laneTx l false)) s

/-- DEVICE: asserted. -/
def State.deviceReset (s : State) : State :=
  (s.lanesOff.dropRegs (fun a => !keptByDevice a && !keptAlways a)).resetWork

/-- What the FTB's SOFT_RESET keeps: ERR_MASK, IRQ_EN and the rest of its header (R43, R315). -/
def keptBySystem (a : Nat) : Bool := keptAlways a || (inPages pgFTB 2 a && !softOff (a % 0x1000))

/-- SYSTEM: as DEVICE, and the Well's pages, and the FTB as by its SOFT_RESET with the EEC in FREE_RUN. -/
def State.systemReset (s : State) : State :=
  let s1 := (s.lanesOff.dropRegs (fun a => !keptBySystem a)).resetWork
  ({ s1 with pmb := [], bmon := {}, stage := [] } : State).resetTime

/-- The fuses as FUSE_SERIAL and FUSE_STATE show them. -/
def isFuse (a : Nat) : Bool := decide (pgFUSE + 0x040 ≤ a) && decide (a ≤ pgFUSE + 0x048)

/-- The loss of VDD_WELL: nothing is left but the fuses, the retention store, and what lies outside the block. -/
def State.wellReset (s : State) : State :=
  let s0 := if s.time.ppsOut then s.lanesOff.emit (.pps false) else s.lanesOff
  let s1 := if s.thermtrip then s0.emit (.thermtrip false) else s0
  { State.reset with
    pending := s1.pending, out := s1.out, free := s1.free, rsto := s1.rsto, khash := s1.khash,
    regs := tabDrop s1.regs (fun k => !isFuse k),
    mem := { ({} : MemSt) with cells := s1.mem.cells, hbmGen := s1.mem.hbmGen + 1 },
    pcie := { ({} : PcieSt) with perstLow := s1.pcie.perstLow } }

end Sys2Proof.Machine
end

