-- ==== Sys2Proof/Machine/PowerOps.lean ====
section
/-! DEFINITION. Block power states (R361 to R372), quadrant domains (R373 to R375), performance levels (R376 to R378), the PMBus
items they put in a host's queue (R391), and the modes' end of a transition (R58). -/

namespace Sys2Proof.Machine

open Sys2Proof

/-! ## The end of a transition (R58) -/

/-- MODE and TARGET. -/
def State.setMode (s : State) (m : Nat) : State := (s.put (pgDEV + 0x040) 2 0 m).put (pgDEV + 0x040) 6 4 m
/-- A transition ends in mode m with LAST_RESULT res; MODE_DONE. -/
def State.endTransition (s : State) (m res : Nat) : State :=
  (((s.setMode m).put (pgDEV + 0x040) 7 7 0).put (pgDEV + 0x040) 11 8 res).irqBit pgDEV 0

/-! ## PMBus queues (R391) -/

def State.pmbOf (s : State) (b : Nat) : PmbSt := tabGet (fun _ => {}) s.pmb b
def State.setPmb (s : State) (b : Nat) (x : PmbSt) : State := { s with pmb := tabSet (fun _ => {}) s.pmb b x }
/-- An item waits at a host. -/
def State.pmbPush (s : State) (b : Nat) (j : PmbJob) : State := s.setPmb b { s.pmbOf b with queue := (s.pmbOf b).queue ++ [j] }
/-- An item no longer waits. -/
def State.pmbDrop (s : State) (b : Nat) (j : PmbJob) : State :=
  s.setPmb b { s.pmbOf b with queue := (s.pmbOf b).queue.filter (fun i => decide (i ≠ j)) }

/-- DPWR_VREG[r], and the host and the exponent it names. -/
def State.vreg (s : State) (r : Nat) : W32 := s.reg (pgDPWR + 0x060 + 4 * r)
def State.vregHost (s : State) (r : Nat) : Nat := bitsOf (s.vreg r) 29 29
def State.vregExp (s : State) (r : Nat) : Int := ((s.vreg r).extractLsb' 24 5).toInt
def State.pageEn (s : State) (r : Nat) : Bool := bit (s.vreg r) 30

/-- OPERATION on or off of a rail, 4: VDD_CORE_DEV (R373, R376). -/
def State.orderRail (s : State) (r : Nat) (on : Bool) : State := s.pmbPush (s.vregHost r) (.railOp r on)

/-- The LINEAR16 mantissa of a voltage: round(V 2^-EXP) (R376). -/
def linear16 (mv : Nat) (e : Int) : Nat :=
  match e with
  | .ofNat n => (2 * mv + 1000 * 2 ^ n) / (2000 * 2 ^ n)
  | .negSucc n => (2 * mv * 2 ^ (n + 1) + 1000) / 2000

/-- A LINEAR16 word lies within tol mV of mv (R377). -/
def withinTol (m mv tol : Nat) (e : Int) : Bool :=
  match e with
  | .ofNat n => decide (((m * 2 ^ n * 1000 : Int) - mv).natAbs ≤ tol)
  | .negSucc n => decide (((m * 1000 : Int) - mv * 2 ^ (n + 1)).natAbs ≤ tol * 2 ^ (n + 1))

/-- A voltage request begins (R377). -/
def State.requestVoltage (s : State) (q mv : Nat) (why : VoltWhy) : State :=
  (s.setQuad q { s.quadSt q with vreq := some ⟨mv, why, if s.pageEn q then .page else .command⟩ }).pmbPush (s.vregHost q) (.rail q)

/-! ## Performance levels (R376 to R378) -/

/-- The voltage of a level in mV. -/
def levelMv (l : Nat) : Nat := match l with | 0 => 850 | 1 => 800 | 2 => 750 | 3 => 700 | 4 => 650 | _ => 600

/-- The level of a voltage. -/
def levelOf (mv : Nat) : Nat := if 850 ≤ mv then 0 else if 800 ≤ mv then 1 else if 750 ≤ mv then 2 else if 700 ≤ mv then 3 else if 650 ≤ mv then 4 else 5

def plKey (q : Nat) : Nat := pgDPWR + 0x040 + 4 * q
def State.level (s : State) (q : Nat) : Nat := s.fld (plKey q) 26 24
def State.railLevel (s : State) (q : Nat) : Nat := s.fld (plKey q) 18 16
def State.plTarget (s : State) (q : Nat) : Nat := s.fld (plKey q) 2 0
def State.plBusy (s : State) (q : Nat) : Bool := decide (s.fld (plKey q) 31 31 = 1)

/-- One PLL of a quadrant runs or stops: false A, true B. -/
def QuadSt.setPll (x : QuadSt) (b on : Bool) : QuadSt := if b then { x with pllB := on } else { x with pllA := on }

/-- The glitchless switch to the standby PLL; the other stands by (R360, R378). -/
def State.switchPll (s : State) (q level : Nat) : State :=
  let x := s.quadSt q
  (s.setQuad q ({ x with onB := !x.onB } : QuadSt)).put (plKey q) 26 24 level

/-- A change to level t starts, from a state with none running. -/
def State.startChange (s : State) (q t : Nat) : State :=
  let cur := s.level q
  let x := s.quadSt q
  if t = cur ∧ s.railLevel q = t ∧ s.fld (plKey q) 30 30 = 1 then s.put (plKey q) 31 31 0
  else
    let s1 := (s.put (plKey q) 31 31 1).setQuad q { x with changeTo := some t, pendTarget := none, locking := decide (t ≠ cur) }
    if cur < t then s1 else s1.requestVoltage q (levelMv t) .change

/-- The PLLs of a quadrant that nothing needs stop: with no level change in progress the one that stands by, and with no block at
ACTIVE or IDLE the one that drives the clocks (R360). -/
def State.idlePll (s : State) (q : Nat) : State :=
  if s.plBusy q then s
  else
    let x := (s.quadSt q).setPll (!(s.quadSt q).onB) false
    s.setQuad q (if (List.range 52).any (fun i => decide ((s.slot (qSlot q i)).st < 2)) then x else x.setPll x.onB false)

/-- The device PLL runs: a block of VDD_CORE_DEV is at ACTIVE or IDLE. PCIe has the clock of its own link (R360). -/
def State.devPll (s : State) : Bool := [0, 2, 5, 6, 7].any (fun k => decide (s.slotState k < 2))

/-- The PLL of HBM controller n runs (R360). -/
def State.hbmPll (s : State) (n : Nat) : Bool := decide (s.slotState (3 + n) < 2)

/-- A change ends with LAST_RESULT: 1 done, 2 timeout, 3 not acknowledged. A pending target follows; else BUSY clears. -/
def State.endChange (s : State) (q res : Nat) : State :=
  let x := s.quadSt q
  let s1 := (s.put (plKey q) 9 8 res).setQuad q { x with changeTo := none, pendTarget := none, locking := false }
  let s2 := match x.pendTarget with
    | some t => s1.startChange q t
    | none => s1.put (plKey q) 31 31 0
  if s2.plBusy q then s2 else (s2.idlePll q).irqBit pgDPWR 0

/-- The rail has read back good during a level change. -/
def State.changeRailGood (s : State) (q t : Nat) : State :=
  let s1 := (s.put (plKey q) 18 16 t).put (plKey q) 30 30 1
  if s.level q = t then s1.endChange q 1
  else if (s.quadSt q).locking then s1
  else (s1.switchPll q t).endChange q 1

/-! ## BOOT's rails (R426 step 3) -/

def State.bootStep (s : State) : Nat := s.fld (pgBTU + 0x040) 27 24

/-- What of the Sluice stands in the clusters and their slots, and not in the device blocks: kernel tables, barred tiles, the order
and load of tiles (R99, R161, R363). -/
def SluiceSt.clusterSide (x : SluiceSt) : SluiceSt :=
  { kern := x.kern, barred := x.barred, stamp := x.stamp, idle := x.idle, busy := x.busy, busyFrom := x.busyFrom, vane := x.vane }

/-- The blocks of VDD_CORE_DEV are off in DORMANT and return at their reset values; PCIe management stays, and each HBMC keeps its
remap table, with its count, and INTLV (R61, R74, R363, R441).
BTU_BOOT_STAT, the outcome of the last BOOT, stands until the next. -/
def State.coreOff (s : State) : State :=
  let off := fun a =>
    (inPages pgBTU 2 a && !decide (a = pgBTU + 0x040)) || inPages pgPUMP 2 a || (inPages (pgHBMC 0) 4 a && !decide (a = pgHBMC 0 + 0x040)
      && !decide (a = pgHBMC1 0 + 0x04C) && !decide (a = pgHBMC1 1 + 0x04C)) || inPages pgSLC 4 a
    || inPages pgCMPL 2 a || inPages pgFYIL 1 a || inPages (pgCG 0) 64 a || inPages (pgFLOW 0) 8 a
  let s1 := s.dropRegs off
  { s1 with
    power := tabDrop s1.power (fun k => decide (k < 8) && decide (k ≠ 1)), resetting := tabDrop s1.resetting off, pump := [], pumpBytes := [], fyil := [], sluice := s1.sluice.clusterSide,
    cgStop := [], cgFault := [], att := none }

/-- BOOT fails (R427): FAIL, BOOT_FAIL, and DORMANT with LAST_RESULT 3. -/
def State.bootFail (s : State) (code : Nat) : State :=
  let s1 := (({ s with boot := none } : State).coreOff.put (pgBTU + 0x040) 23 20 code).put (pgBTU + 0x040) 19 19 0
  (s1.raise pgBTU 0).endTransition 0 3

/-- Step 4 follows once all four rails have read back good. -/
def State.bootRails (s : State) : State :=
  if s.mode = 1 ∧ s.bootStep = 3 ∧ (List.range 4).all (fun q => decide ((s.quadSt q).vreq = none)) = true then
    s.put (pgBTU + 0x040) 27 24 4
  else s

/-! ## The end of a voltage request (R377, R378, R375) -/

/-- VRET_MV as it acts (500 to 600). -/
def State.vretMv (s : State) (q : Nat) : Nat := max 500 (min 600 (s.fld (pgDPWR + 0x050 + 4 * q) 9 0))
/-- FLOOR as it acts: 4 OFF, else 3 DOZE. -/
def State.quadFloor (s : State) (q : Nat) : Nat := if s.fld (pgDPWR + 0x050 + 4 * q) 30 28 = 4 then 4 else 3

/-- The rail of quadrant q has read back within tolerance. -/
def State.railGood (s : State) (q : Nat) : State :=
  let x := s.quadSt q
  match x.vreq with
  | none => s
  | some r =>
    let s1 := s.setQuad q { x with vreq := none }
    match r.why with
    | .change => (match x.changeTo with | some t => s1.changeRailGood q t | none => s1)
    | .wake =>
      let t := levelOf r.mv
      let s2 := ((s1.put (plKey q) 18 16 t).put (plKey q) 26 24 t).put (plKey q) 30 30 1
      s2.setQuad q { s2.quadSt q with onB := false, pllB := false, locking := true }
    | .hold => s1
    | .boot => (((s1.put (plKey q) 18 16 0).put (plKey q) 26 24 0).put (plKey q) 30 30 1).bootRails

/-- The voltage request of a rail leaves its host: its item no longer waits, and a transaction in progress serves none. -/
def State.pmbRetire (s : State) (q : Nat) : State :=
  let b := s.vregHost q
  let x := (s.pmbDrop b (.rail q)).pmbOf b
  (s.pmbDrop b (.rail q)).setPmb b { x with cur := if x.cur = some (.rail q) then some .stale else x.cur }

/-- A voltage request fails: LAST_RESULT code 2 VREG_TIMEOUT or 3 VREG_NAK. -/
def State.railFails (s : State) (q res : Nat) : State :=
  let x := s.quadSt q
  match x.vreq with
  | none => s
  | some r =>
    let s1 := ((s.setQuad q { x with vreq := none }).pmbRetire q).raise pgDPWR (if res = 2 then 0 else 1)
    match r.why with
    | .change =>
      let s2 := match x.changeTo with
        | some t => if s.level q = t then s1.put (plKey q) 30 30 0 else s1
        | none => s1
      s2.endChange q res
    | .wake =>
      let s2 := (s1.setQuad q { s1.quadSt q with waking := false, failed := true, locking := false }).raise pgDPWR 2
      let s3 := s2.irqBit pgDPWR 1
      if x.dom = 4 then s3.orderRail q false else s3.requestVoltage q (s.vretMv q) .hold
    | .hold => s1
    | .boot => s1.bootFail 10

/-! ## Slots -/

/-- The pages of a slot: its block's first page; slot 5 also holds the CG and FLOW pages. -/
def slotPages (k : Nat) : List Nat :=
  match slotPage k with
  | none => []
  | some p => if k = 5 then p :: pgFLOW 0 :: (List.range 64).map pgCG else [p]

def slotBlk (k : Nat) : Option Page := match slotPage k with | some p => pageOf p | none => none
def slotQuad (k : Nat) : Nat := if 64 ≤ k then k / 64 - 1 else 4

/-- A slot enters by votes: MILL, CBANK, HBMC (R363). -/
def slotVotes (k : Nat) : Bool :=
  decide (k = 3) || decide (k = 4) || (decide (64 ≤ k) && (decide (k % 64 = 2) || (decide (4 ≤ k % 64) && decide (k % 64 < 16))))

/-- A slot that exists and belongs to a block. -/
def slotReal (k : Nat) : Bool := (slotPage k).isSome

/-- PWR_FLOOR as it acts (R362). -/
def floorCode (x : Nat) : Nat := if x = 0 ∨ 5 ≤ x then 1 else x

/-- The effective floor (R362). -/
def State.effFloor (s : State) (k : Nat) : Nat :=
  match slotBlk k, slotPage k with
  | some p, some pg =>
    let c := s.reg (slotCtrlKey k)
    if bit (s.reg (pg + 0x008)) 3 = false ∨ bit c 3 = true then 1 else min (floorCode (bitsOf c 2 0)) p.blk.deepest
  | _, _ => 1

/-- A retired bank: held at OFF (R183, R371). -/
def State.bankRetired (s : State) (k : Nat) : Bool :=
  decide (64 ≤ k) && decide (4 ≤ k % 64) && decide (k % 64 < 16) && decide (s.bankOwner (k / 64 - 1) (k % 64 - 4) = 0x7F)

def State.modSlot (s : State) (k : Nat) (f : PowerSlot → PowerSlot) : State := s.setSlot k (f (s.slot k))

/-! ## Work in progress (PAGE_STAT.ACTIVE, R42, R66) -/

/-- A job of an engine is in service: units 0, 1, 2 and 8 are FFT, SHP, NSC and ABD, 3 to 7 the units of CODE. -/
def State.jobIn (s : State) (q : Nat) (p : Nat → Bool) : Bool :=
  s.tasks.any (fun t => match t.place with | .engine q' u => decide (q' = q) && p u | _ => false)

/-- A bus has a transaction in progress or waiting (R396). -/
def State.pmbActive (s : State) (b : Nat) : Bool := (s.pmbOf b).cur.isSome || !(s.pmbOf b).queue.isEmpty

def State.channelState (s : State) (c : Nat) : Nat := s.fld (entKey (pgPUMP + 0x050) c) 15 14

/-- A link of the quadrant is UP or DEGRADED. -/
def State.anyLinkUp (s : State) (q : Nat) : Bool :=
  (List.range 16).any (fun i => s.isLink (16 * q + i) && decide (s.linkState (16 * q + i) ≠ 0))

/-- PAGE_STAT.ACTIVE of a page. -/
def State.pageActive (s : State) (p : Page) : Bool :=
  match p.blk with
  | .cg => decide (s.cgInService p.inst ≠ 0) || decide (s.cgQueued p.inst ≠ 0)
  | .lane => decide (s.laneState p.inst ≠ 0)
  | .ftb => s.time.slewOn
  | .fqu => (List.range 128).any (s.slotArmed p.quad) || !(s.tsQueue p.quad).isEmpty
  | .fft => s.jobIn p.quad (fun u => decide (u = 0))
  | .shp => s.jobIn p.quad (fun u => decide (u = 1))
  | .nsc => s.jobIn p.quad (fun u => decide (u = 2))
  | .code => s.jobIn p.quad (fun u => decide (3 ≤ u) && decide (u ≤ 7))
  | .abd => s.jobIn p.quad (fun u => decide (u = 8))
  | .bmon => s.bmon.starting || s.bmon.scan.isSome || s.bmon.inj.isSome || s.bmon.cal
  | .pmb => s.pmbActive p.inst
  | .pump => (List.range 16).any (fun c => decide (s.channelState c = 1))
  | .slc => !s.tasks.isEmpty || decide (s.fld (pgSLC + 0x064) 31 31 = 1)
  | .cmpl => !s.sluice.readyQ.isEmpty
  | .hbmc => (s.scrub (28 + p.inst)).busy || (remapBusy s p.inst).isSome
  | .cist => (s.scrub p.inst).busy
  | .cmem => (s.scrub (4 + p.inst)).busy
  | .cbank => !(s.mergeLines p.inst).isEmpty
  | .clu => (List.range 8).any (fun t => decide ((s.tile p.inst t).phase ≠ .idle))
      || (tabGet (fun _ => none) s.sluice.kload p.inst).isSome
  | .slp => s.tasks.any (fun t => match t.place with
      | .hopper d => decide (d / 6 = p.quad) | .engQ q _ => decide (q = p.quad) | _ => false)
  | .trace => !(s.sendsOf p.quad).isEmpty
  | .hrace => (List.range 16).any (fun i => (s.link (16 * p.quad + i)).landing.isSome)
  | .blnk => s.anyLinkUp p.quad
  | .fyil => !s.fyil.isEmpty
  | .btu => decide (s.mode = 1) || decide (s.fld (pgBTU1 + 0x06C) 31 31 = 1)
  | .rsto => decide (s.fld (pgRSTO + 0x040) 26 26 = 1) || decide (s.fld (pgRSTO + 0x048) 26 26 = 1)
  | .fuse => decide (s.fld (pgFUSE + 0x0B4) 31 31 = 1)
  | .dpwr => (List.range 4).any (fun q => s.plBusy q)
  | .dev => s.inTransition || decide (s.mode = 4)
  | _ => false

/-- A hold of R363. -/
def State.holdStands (s : State) (k : Nat) : Bool :=
  match slotBlk k with
  | none => false
  | some p => match p.blk with
    | .clu => (tabGet (fun _ => none) s.sluice.kload p.inst).isSome
    | .cmem => (s.scrub (4 + p.inst)).busy
    | .cist => (s.scrub p.inst).busy
    | .fqu => (List.range 128).any (s.slotArmed p.quad) || !(s.tsQueue p.quad).isEmpty
        || decide (s.fld (pgFQU1 p.quad + 0x068) 31 31 = 1)
    | .hrace => s.anyLinkUp p.quad
    | .trace => s.anyLinkUp p.quad
    | .blnk => s.anyLinkUp p.quad
    | .lane => !(decide (s.laneState p.inst = 0) || (decide (s.laneState p.inst = 1) && !s.hasSignal p.inst))
    | .btu => decide (s.mode = 1)
    | _ => false

/-- ACTIVE as the entry handshake tests it: a lane in HUNT may enter (R209). -/
def State.slotBusy (s : State) (k : Nat) : Bool :=
  match slotBlk k with
  | none => false
  | some p =>
    (match p.blk with | .lane => false | _ => s.pageActive p)
    || (slotPages k).any (fun pg => tabGet (fun _ => false) s.resetting pg)

/-- Why a block refuses entry (R364): 1 an enabled interrupt pending, 2 ACTIVE or RESETTING, 3 a hold; 0 it does not. -/
def State.refuseCause (s : State) (k : Nat) : Nat :=
  if (slotPages k).any (fun pg => decide (s.reg (pg + 0x02C) &&& s.reg (pg + 0x028) ≠ 0)) then 1
  else if s.slotBusy k then 2
  else if s.holdStands k then 3
  else 0

/-! ## Votes (R371) -/

/-- A vote stands for a voting domain. -/
def State.voted (s : State) (k : Nat) : Bool :=
  if k < 64 then (s.scrub (28 + (k - 3))).busy || (remapBusy s (k - 3)).isSome
  else
    let q := k / 64 - 1
    if k % 64 = 2 then
      (List.range 52).any (fun i => decide (i ≠ 2) && (decide ((s.slot (qSlot q i)).st < 2) || (s.slot (qSlot q i)).waking))
    else
      let b := k % 64 - 4
      !(s.mergeLines (12 * q + b)).isEmpty
      || ((s.scrub q).busy && decide (cbankAddr q b ≤ (s.scrub q).next) && decide ((s.scrub q).next < cbankAddr q b + 0x200000))

/-! ## Level wakes (R367) -/

/-- A fired alarm holds a wake on a DPWR slot (R332). -/
def State.alarmWakes (s : State) (k : Nat) : Bool :=
  (decide (s.mode = 2) || decide (s.mode = 3) || decide (s.mode = 5))
  && (List.range 4).any (fun i => bit (s.reg (pgFTB1 + 0x088 + 16 * i)) 30 && decide (s.fld (pgFTB1 + 0x088 + 16 * i) 3 0 = k))

/-- The owner a context word names: [29:24]; [27:22] in an FQU slot. -/
def ownerOf (b : Block) (v : W32) : Nat := if b = .fqu then bitsOf v 27 22 else bitsOf v 29 24

/-- Entries of a page with SH fields: contexts, carriers, slots, map entries. -/
def ctxCount (b : Block) : Nat :=
  match b with
  | .fqu => 128 | .fft => 16 | .shp => 32 | .nsc => 64 | .code => 32 | .abd => 16 | .hrace => 1024 | .trace => 1024 | _ => 0

/-- A page holds an SH field of the group: an entry whose shadow names it and is valid, or stands to replace a valid live one (R66). -/
def State.holdsShadow (s : State) (b : Block) (pg g : Nat) : Bool :=
  (List.range (ctxCount b)).any (fun i =>
    let sh := s.reg (entKey (pg + 0x044) i)
    decide (ownerOf b sh = g) && (bit sh 31 || bit (s.reg (entKey (pg + 0x844) i)) 31))

/-- A group in STARTING holds an SH field of a page. -/
def State.startingHolds (s : State) (b : Block) (pg : Nat) : Bool :=
  (List.range 64).any (fun g => decide (s.cgPhase g = 4) && s.holdsShadow b pg g)

/-- A group in STARTING, and one that touches a quadrant. -/
def State.anyStarting (s : State) : Bool := (List.range 64).any (fun g => decide (s.cgPhase g = 4))
def State.startingTouches (s : State) (q : Nat) : Bool :=
  (List.range 64).any (fun g => decide (s.cgPhase g = 4) && s.touches g q)

/-- A level wake stands at a slot. -/
def State.wakeLevel (s : State) (k : Nat) : Bool :=
  bit (s.reg (slotCtrlKey k)) 3 || (s.slot k).latched || (decide (k < 12) && s.alarmWakes k)
  || (slotVotes k && s.voted k)
  || (match slotBlk k with
      | none => false
      | some p =>
        match p.blk with
        | .slc => s.anyStarting || (List.range 256).any (fun r =>
            decide (s.fld (entKey (pgSLC + 0x050) r) 31 31 = 1)
            && decide (s.fld (entKey (pgSLC + 0x054) r) 31 16 ≠ s.fld (entKey (pgSLC + 0x058) r) 15 0))
        | .cmpl => !s.sluice.readyQ.isEmpty
        | .clu => s.tasks.any (fun t => decide (t.place = .hopper p.inst))
        | .cmem => s.tasks.any (fun t => decide (t.place = .hopper p.inst))
        | .fft => s.startingTouches p.quad || s.startingHolds p.blk (pgFFT p.quad) || s.tasks.any (fun t => decide (t.place = .engQ p.quad 0))
        | .shp => s.startingTouches p.quad || s.startingHolds p.blk (pgSHP p.quad) || s.tasks.any (fun t => decide (t.place = .engQ p.quad 1))
        | .nsc => s.startingTouches p.quad || s.startingHolds p.blk (pgNSC p.quad) || s.tasks.any (fun t => decide (t.place = .engQ p.quad 2))
        | .code => s.startingTouches p.quad || s.startingHolds p.blk (pgCODE p.quad) || s.tasks.any (fun t => decide (t.place = .engQ p.quad 3))
        | .abd => s.startingTouches p.quad || s.startingHolds p.blk (pgABD p.quad) || s.tasks.any (fun t => decide (t.place = .engQ p.quad 4))
        | .slp => s.tasks.any (fun t => match t.place with
            | .hopper d => decide (d / 6 = p.quad) | .engQ q _ => decide (q = p.quad) | _ => false)
        | .fqu => s.startingTouches p.quad || s.startingHolds p.blk (pgFQU p.quad)
        | .hrace => s.startingTouches p.quad || s.startingHolds p.blk (pgHRACE p.quad)
        | .trace => s.startingTouches p.quad || s.startingHolds p.blk (pgTRACE p.quad) || !(s.sendsOf p.quad).isEmpty
        | .pump => (List.range 16).any (fun c =>
            decide (s.fld (entKey (pgPUMP + 0x04C) c) 31 31 = 1) && decide (s.channelState c < 2)
            && decide (s.fld (entKey (pgPUMP + 0x050) c) 31 16 ≠ s.fld (entKey (pgPUMP + 0x054) c) 15 0))
        | .lane => s.hasSignal p.inst
        | _ => false)

/-- Wakes act: not in DORMANT, nor while DRAIN step 7 runs (R380). -/
def State.wakesAct (s : State) : Bool := decide (s.mode ≠ 0) && !(decide (s.mode = 4) && decide (s.drainStep = 7))

/-- A wake reaches a slot (R367 to R369): it abandons an entry not yet isolated, starts a restore, or aims at the quadrant's domain;
a quadrant block's wake votes for its MILL. -/
def State.wakeSlot (s : State) (k : Nat) : State :=
  let x := s.slot k
  if slotReal k = false ∨ s.bankRetired k = true then s
  else if x.entry ≠ .none then
    s.setSlot k { x with entry := .none, latched := false, lastRefuse := 5 }
  else if x.st < 2 ∨ x.waking = true then s
  else if 64 ≤ k then
    let q := slotQuad k
    if s.fenced q then s
    else if s.quadOn q then
      let s1 := s.setSlot k { x with waking := true }
      if 2 ≤ (s1.slot (qSlot q 2)).st then s1.modSlot (qSlot q 2) (fun m => { m with waking := true }) else s1
    else if (s.quadSt q).wakeSlots.contains k then s
    else s.setQuad q { s.quadSt q with wakeSlots := (s.quadSt q).wakeSlots ++ [k] }
  else s.setSlot k { x with waking := true }

/-! ## Entry (R364, R365, R371) -/

/-- A block below which an entry may start: awake, its quadrant on, no entry and no wake in progress. -/
def State.slotAwake (s : State) (k : Nat) : Bool :=
  slotReal k && decide (s.slotState k < 2) && !(s.slot k).waking && decide ((s.slot k).entry = .none)
  && (decide (k < 64) || (s.quadOn (slotQuad k) && !s.fenced (slotQuad k)))

/-- REFUSE with a cause. -/
def State.refuse (s : State) (k cause : Nat) : State := s.modSlot k (fun x => { x with entry := .none, lastRefuse := cause })

/-- Merge lines of a handshake block's memory are outstanding: the block defers (R172, R364). -/
def State.linesWait (s : State) (k : Nat) : Bool :=
  match slotBlk k with
  | none => false
  | some p => match p.blk with
    | .cmem => !(s.mergeLines (64 + p.inst)).isEmpty
    | .clu => (List.range 8).any (fun i => !(s.mergeLines (128 + 8 * p.inst + i)).isEmpty)
    | _ => false

/-- The answer to an entry request (R364). -/
def State.answerEntry (s : State) (k : Nat) (outstanding : Bool) : State :=
  let c := s.refuseCause k
  if c ≠ 0 then s.refuse k c
  else if outstanding || s.linesWait k then s.modSlot k (fun x => { x with entry := .deferring })
  else s.modSlot k (fun x => { x with entry := .accepted, goal := s.effFloor k })

/-- The merge buffers of a slot's memory drain: the step before isolation (R172, R365). -/
def State.drainSlot (s : State) (k : Nat) : State :=
  match slotBlk k with
  | none => s
  | some p => match p.blk with
    | .cbank => s.drainUnit p.inst
    | .cmem => s.drainUnit (64 + p.inst)
    | .clu => (List.range 8).foldl (fun t i => t.drainUnit (128 + 8 * p.inst + i)) s
    | _ => s

/-- The end of an entry (R365): merge buffers have drained, the new state shows; what the state does not keep is lost. A REFUSE
condition that arose after the ACCEPT is held as a level wake (R380). -/
def State.finishEntry (s0 : State) (k : Nat) : State :=
  let s := s0.drainSlot k
  let x := s.slot k
  let held := !slotVotes k && decide (s.refuseCause k ≠ 0)
  let s1 := s.setSlot k { x with st := x.goal, entry := .none, entries := x.entries + 1, latched := x.latched || held }
  let s2 := match slotBlk k with
    | none => s1
    | some p => match p.blk with
      | .clu => if 3 ≤ x.goal then s1.clearTiles p.inst else s1
      | .lane => if s.laneState p.inst = 0 then s1 else s1.emit (.laneTx p.inst false)
      | _ => s1
  if 64 ≤ k then s2.idlePll (slotQuad k) else s2

/-! ## The end of a wake (R369, R370, R372) -/

/-- A retention loss on the QPWR page: KIND 0 cluster memory, 1 program memory (R372). -/
def State.retLoss (s : State) (d kind : Nat) : State :=
  let pg := pgQPWR (d / 6)
  let n := satAdd 8 (s.fld (pg + 0x040) 7 0) 1
  (s.setReg (pg + 0x040) (BitVec.ofNat 32 ((locClu d).toNat * 65536 + kind * 32768 + n))).raiseAt pg
    (BitVec.ofNat 32 (2 ^ kind)) (locClu d) none false

/-- The canary check of a memory woken from DOZE fails. -/
def State.canaryFails (s : State) (p : Page) : State :=
  match p.blk with
  | .cbank => (s.clearBank p.quad (p.inst % 12)).raise (pgCBANK p.quad (p.inst % 12)) 8
  | .cmem => (s.clearCluster p.inst).retLoss p.inst 0
  | .clu => (s.dropKernels p.inst).retLoss p.inst 1
  | _ => s

/-- Isolation is released and PWR_STATE reads 1. -/
def State.finishWake (s : State) (k : Nat) (canaryOk : Bool) : State :=
  let x := s.slot k
  match slotBlk k, slotPage k with
  | some p, some _ =>
    let s1 := if x.st = 4 then s.offReset k p else s
    let s2 := if x.st = 3 ∧ canaryOk = false then s1.canaryFails p else s1
    let s3 := s2.setSlot k { x with st := 1, waking := false, latched := false }
    let s4 := if 64 ≤ k then s3.setQuad (slotQuad k) ((s3.quadSt (slotQuad k)).setPll (s3.quadSt (slotQuad k)).onB true) else s3
    match p.blk with
    | .lane => if s4.laneState p.inst = 1 then s4.toHunt p.inst else s4.laneStart p.inst
    | _ => s4
  | _, _ => s

/-! ## Domains (R373 to R375) -/

/-- A wake stands at a quadrant's domain: its own slot's, or any of its blocks'. -/
def State.domainWanted (s : State) (q : Nat) : Bool :=
  s.wakeLevel (8 + q) || !(s.quadSt q).wakeSlots.isEmpty
  || (List.range 52).any (fun i => decide (2 ≤ (s.slot (qSlot q i)).st) && s.wakeLevel (qSlot q i))

/-- The rail is requested at the voltage of TARGET, from OFF after OPERATION on. -/
def State.startDomain (s : State) (q : Nat) : State :=
  let x := s.quadSt q
  let s1 := s.setQuad q { x with waking := true, failed := false, locking := false }
  (if x.dom = 4 then s1.orderRail q true else s1).requestVoltage q (levelMv (s.plTarget q)) .wake

/-- The domain is on: from OFF as after a quadrant reset, from DOZE with what its blocks kept; the blocks aimed at wake, and LOCKED of
its lane-quads on Fantail's reference is as the EEC stands now (R318). -/
def State.domainOn (s : State) (q : Nat) : State :=
  let x := s.quadSt q
  let s1 := if x.dom = 4 then s.quadReset q else s
  let s2 := (s1.setQuad q { x with dom := 0, waking := false, locking := false, pllA := true, onB := false, wakeSlots := [] }).modSlot
    (8 + q) (fun y => { y with latched := false })
  let s3 := x.wakeSlots.foldl (fun t k => t.wakeSlot k) (if s2.plTarget q = s2.level q then s2 else s2.startChange q (s2.plTarget q))
  let s4 := s3.qrefFollow s3.eecHolds
  if x.dom = 4 then (List.range 16).foldl (fun t i => t.laneStart (16 * q + i)) s4 else s4

/-- Every slotted block of the quadrant is at DOZE or OFF, or at the deepest state it has. -/
def State.quadAsleep (s : State) (q : Nat) : Bool :=
  (List.range 52).all (fun i => match slotBlk (qSlot q i) with
    | some p => decide (min 3 p.blk.deepest ≤ (s.slot (qSlot q i)).st) && decide (2 ≤ (s.slot (qSlot q i)).st)
        && !(s.slot (qSlot q i)).waking
    | none => true)

/-- The conditions of R374. -/
def State.domainMaySleep (s : State) (q : Nat) : Bool :=
  s.quadOn q && !(s.quadSt q).waking && decide (s.fld (pgDPWR + 0x050 + 4 * q) 31 31 = 1) && s.quadAsleep q && !s.fenced q
  && !s.plBusy q && (decide (s.mode = 2) || decide (s.mode = 3) || decide (s.mode = 5)) && !s.domainWanted q
  && !(List.range 128).any (s.slotArmed q)

/-- The domain isolates, its PLLs stop, and the rail is requested down (R373, R374). -/
def State.domainSleep (s : State) (q floor : Nat) : State :=
  let x := s.quadSt q
  let s1 := (s.setQuad q { x with dom := floor, pllA := false, pllB := false, onB := false, locking := false, waking := false, wakeSlots := [] }).weirSettle 4
  if floor = 4 then s1.orderRail q false else s1.requestVoltage q (s.vretMv q) .hold

end Sys2Proof.Machine
end

