-- ==== Sys2Proof/Machine/Sluice.lean ====
section
/-! DEFINITION. The commands of chapter 06: descriptor fetch, events and gates, placement, dispatch, the end of a task, completion
records, cancels, flow resumption and telemetry. The doorbells stand in Pcie. -/

namespace Sys2Proof.Machine

open Sys2Proof

/-! ## Rings -/

/-- SIZE_LOG2 as it acts: 6 to 16, other values as 6 (R133). -/
def sizeLog (x : Nat) : Nat := if 6 ≤ x ∧ x ≤ 16 then x else 6

def ringKey (off r : Nat) : Nat := entKey (pgSLC + off) r
def cqKey (off c : Nat) : Nat := entKey (pgCMPL + off) c

def State.ringHead (s : State) (r : Nat) : Nat := s.fld (ringKey 0x054 r) 31 16
def State.ringTail (s : State) (r : Nat) : Nat := s.fld (ringKey 0x058 r) 15 0
def State.ringOwner (s : State) (r : Nat) : Nat := s.fld (ringKey 0x050 r) 21 16
def State.ringSize (s : State) (r : Nat) : Nat := 2 ^ sizeLog (s.fld (ringKey 0x050 r) 3 0)
/-- Descriptors posted (R133). -/
def State.ringPosted (s : State) (r : Nat) : Nat := (s.ringTail r + 65536 - s.ringHead r) % 65536

/-- A ring stops with a cause (R136). STALL_TABLE and STALL_CREDIT stay as its last fetch set them (DESIGN CHOICE: R135 and R136 do not
say). -/
def State.stopRing (s : State) (r cause : Nat) : State :=
  (((s.put (ringKey 0x054 r) 7 7 1).put (ringKey 0x054 r) 2 0 cause).raise pgSLC 0).irqBit pgSLC 0

/-- A ring is served: enabled, not stopped, an owner that exists and is a bus master, fetching not stopped by DRAIN, and the
central Sluice awake (R134, R403). -/
def State.ringServed (s : State) (r : Nat) : Bool :=
  decide (s.fld (ringKey 0x050 r) 31 31 = 1) && decide (s.fld (ringKey 0x054 r) 7 7 = 0) && decide (s.ringOwner r ≤ 32)
  && s.canWrite (s.ringOwner r) && decide (s.fld (pgSLC + 0x040) 31 31 = 0) && decide (s.slotState 5 < 2)
  && decide (s.ringPosted r ≠ 0)

/-- The ring whose descriptor the central Sluice takes next: round robin in rising order, up to 4 descriptors a turn (R134). -/
def State.ringTurn (s : State) : Option Nat :=
  if s.sluice.took < 4 ∧ s.ringServed s.sluice.turn = true then some s.sluice.turn
  else ((List.range 256).map (fun i => (s.sluice.turn + 1 + i) % 256)).find? s.ringServed

/-- A ring's turn has taken n descriptors; 4 ends it. -/
def State.setTurn (s : State) (r n : Nat) : State := { s with sluice := { s.sluice with turn := r, took := n } }

/-! ## Completion queues -/

def State.cqEnabled (s : State) (c : Nat) : Bool := decide (s.fld (cqKey 0x04C c) 31 31 = 1)
def State.cqOwner (s : State) (c : Nat) : Nat := s.fld (cqKey 0x04C c) 29 24
def State.cqSize (s : State) (c : Nat) : Nat := 2 ^ sizeLog (s.fld (cqKey 0x04C c) 3 0)
def State.cqTail (s : State) (c : Nat) : Nat := s.fld (cqKey 0x054 c) 31 16
def State.cqHead (s : State) (c : Nat) : Nat := s.fld (cqKey 0x054 c) 15 0
def State.cqOut (s : State) (c : Nat) : Nat := s.fld (cqKey 0x058 c) 16 0
/-- A queue has a credit (R135). -/
def State.cqCredit (s : State) (c : Nat) : Bool := decide (s.cqOut c < min (s.cqSize c) 65535)

/-! ## Fetching -/

/-- The first check of R136 that a descriptor fails, as its CAUSE; 0 when it passes. -/
def State.fetchCause (s : State) (r : Nat) (t : Task) : Nat :=
  if t.malformed then 1
  else if s.cqEnabled t.cq = false ∨ s.cqOwner t.cq ≠ s.ringOwner r then 4
  else if s.flowEnabled t.flow = false ∨ s.flowCg t.flow ≠ t.cg then 5
  else if t.engine = 0 ∧ (List.range 24).any (s.inAffinity t) = false then 6
  else if t.engine ≠ 0 ∧ (match t.jobQuad with | some q => s.cgLive t.cg q | none => false) = false then 6
  else 0

/-- A partner entry is present (R149, R223). -/
def State.partnerPresent (s : State) (e : Nat) : Bool := decide (s.fld (entKey (pgBLNK (e / 16) + 0x104) (e % 16)) 31 31 = 1)

/-- The marks of a task at fetch (R139, R148, R149, R153, R66). -/
def State.fetchMarks (s : State) (t : Task) : Task :=
  { t with
    stop := s.flowStopped t.flow,
    departed := t.partnerEn && !s.partnerPresent t.partner,
    dep := (s.depCount t.partner).toNat,
    expired := decide (t.dlMode = 2) && t.missed s.pt,
    ready := s.gateOpen t,
    haltFetch := decide (s.cgPhase t.cg = 1) || decide (s.cgPhase t.cg = 2) || decide (s.cgPhase t.cg = 3) }

/-- R134 to R136: what the read of the descriptor at a ring's HEAD returned. A descriptor read ahead of its ring's turn waits; a ring that
waits for a table entry or a credit lets the turn pass. -/
def execDescriptorFetch (r : Ring) (resp : FetchResp) (s : State) : Host.Outcome State Fault Refusal :=
  .next (
    if s.ringServed r = false ∨ s.ringTurn ≠ some r.val then s
    else match resp with
      | .error => s.stopRing r 2
      | .data x =>
        let t : Task := { ring := r, seq := s.newSeq r (s.ringHead r), desc := x }
        let cause := s.fetchCause r t
        if cause ≠ 0 then s.stopRing r cause
        else
          let table := decide (s.tasks.length < 32768)
          let credit := s.cqCredit t.cq
          let s1 := (s.put (ringKey 0x054 r) 11 11 (b2n (!table))).put (ringKey 0x054 r) 12 12 (b2n (!credit))
          if table = true ∧ credit = true then
            let s2 := (s1.put (ringKey 0x054 r) 31 16 (s.ringHead r + 1)).put (cqKey 0x058 t.cq) 16 0 (s.cqOut t.cq + 1)
            ((s2.setTasks (s2.tasks ++ [s.fetchMarks t])).setTurn r (if s.sluice.turn = r then s.sluice.took % 4 + 1 else 1)).settle
          else s1.setTurn r 4)

/-- R136: RESTART of the ring that SLC_RING_IDX selects. -/
def State.ringRestart (s : State) : State :=
  let r := s.fld (pgSLC + 0x044) 7 0
  (s.put (ringKey 0x054 r) 7 7 0).put (ringKey 0x054 r) 2 0 0

def execRingRestart (s : State) : Host.Outcome State Fault Refusal :=
  .next (s.access (pgSLC + 0x05C) State.ringRestart)

/-! ## Events, gates and deadlines -/

/-- R140: a write of SLC_EVT_SIGNAL. -/
def execEvtSignal (evt inc : W8) (s : State) : Host.Outcome State Fault Refusal :=
  .next (s.access (pgSLC + 0x068) (fun s => (s.evtAdd evt.toNat inc.toNat).settle))

/-- R139: presented time reaches GATE_VAL. -/
def execGateTimeReady (r : Ring) (seq : W16) (s : State) : Host.Outcome State Fault Refusal :=
  .next (match s.named r seq (fun t => decide (t.place = .parked) && decide (t.gate = 1) && s.gateOpen t) with
    | some t => (s.mapTask t.ring t.seq (fun u => { u with ready := true })).settle
    | none => s)

/-- R148: the deadline of a DL_MODE 2 task not yet in service has passed. -/
def execDeadlineExpired (r : Ring) (seq : W16) (s : State) : Host.Outcome State Fault Refusal :=
  .next (match s.named r seq (fun t => t.queued && decide (t.dlMode = 2) && t.missed s.pt) with
    | some t => (s.mapTask t.ring t.seq (fun u => { u with expired := true })).settle
    | none => s)

/-! ## Placement and dispatch -/

/-- R142, R143. -/
def execTaskPlace (flow : Flow) (s : State) : Host.Outcome State Fault Refusal := .next (s.placeHead flow)

/-- R146: a task that left its Hopper is placed again. -/
def execTaskReplace (flow : Flow) (s : State) : Host.Outcome State Fault Refusal := .next (s.placeHead flow)

/-- A cluster can dispatch: its quadrant on and not fenced, CLU and CMEM at ACTIVE or IDLE (R142). -/
def State.cluReady (s : State) (d : Nat) : Bool :=
  !s.quadDark (d / 6) && decide (s.slotState (cluSlot d) < 2) && decide (s.slotState (cmemSlot d) < 2)

/-- R144 to R146. -/
def execTaskDispatch (d : Clu) (s : State) : Host.Outcome State Fault Refusal :=
  .next (
    if s.cluReady d = false then s
    else match s.selectHead d with
      | none => s
      | some t =>
        let c := s.checkMarks t
        if c.2 then s.endWaiting t (s.waitStatus c.1)
        else if s.runnable d t.kid = false then
          (s.mapTask t.ring t.seq (fun u => { u with place := .parked })).raise (pgCLU d) 16
        else match s.chooseTile d t.kid with
          | some k => s.startTask d k t
          | none => s)

/-- R138, R152: the status of a task whose finish was reported is decided. -/
def execTaskEnd (r : Ring) (seq : W16) (s : State) : Host.Outcome State Fault Refusal :=
  .next (match s.named r seq (fun t => decide (t.place = .reported)) with
    | some t => s.endNow t t.serviceStatus t.finish t.loc
    | none => s)

/-! ## Completion records -/

/-- The 16 bytes of a record (R158). -/
def recordBytes (t : Task) (phase : Nat) : Bytes :=
  bytesLE 4 t.tag ++ bytesLE 4 (t.loc.toNat * 65536 + phase * 32768 + t.status * 4096 + t.flow) ++ bytesLE 8 t.finish.toNat

/-- The records of a queue not yet reported grow; the vector fires at COUNT (R160). -/
def State.coalesce (s : State) (c : Nat) : State :=
  let n := tabGet (fun _ => 0) s.sluice.unreported c + 1
  let thr := s.fld (cqKey 0x050 c) 7 0
  if thr ≠ 0 ∧ thr ≤ n then
    ({ s with sluice := { s.sluice with unreported := tabErase s.sluice.unreported c } } : State).sendVector (s.cqOwner c)
      (s.fld (cqKey 0x04C c) 18 8)
  else { s with sluice := { s.sluice with unreported := tabSet (fun _ => 0) s.sluice.unreported c n } }

/-- The ready record of queue c is written, its task's entry freed and TAIL advanced (R159, R404). -/
def State.writeRecord (s : State) (c : Nat) (t : Task) : State :=
  let size := s.cqSize c
  let tail := s.cqTail c
  let bytes := recordBytes t ((tail / size + 1) % 2)
  let base := (s.reg64 (cqKey 0x044 c)).toNat
  let s1 := s.hostWrite (s.cqOwner c) (base - base % 16 + 16 * (tail % size)) bytes false true
  let s2 := (s1.setTasks (s1.tasks.filter (fun u => !Task.is t.ring t.seq u))).put (cqKey 0x054 c) 31 16 (tail + 1)
  let s3 := State.noteReady
    { s2 with sluice := { s2.sluice with readyQ := s2.sluice.readyQ.filter (fun k => decide (k ≠ c)) } } c
  let s4 := s3.coalesce c
  if s4.fyilOn 0 then s4.fyilPush 2 0 (natLE bytes) else s4

/-- An engine writes the record that became ready first (R159). -/
def State.writeReady (s : State) (eng : Bool) : State :=
  match s.sluice.readyQ.find? (fun c => decide (c % 2 = b2n eng)) with
  | some c =>
    match s.cqFirst c with
    | some t => if t.ended = true ∧ s.slotState 6 < 2 then s.writeRecord c t else s
    | none => s
  | none => s

/-- R159: completion engine 0 or 1. -/
def execCompletionRecordWrite (eng : Bool) (s : State) : Host.Outcome State Fault Refusal := .next (s.writeReady eng)

/-- Both engines write every record that is ready (R74: completion records are always written). -/
def State.writeAllReady (s : State) : State :=
  (List.range s.tasks.length).foldl (fun t _ => (t.writeReady false).writeReady true) s

/-- R160: TIME_US has passed since the oldest unreported record. -/
def execCqCoalTimer (c : Cq) (s : State) : Host.Outcome State Fault Refusal :=
  .next (
    if s.fld (cqKey 0x050 c) 31 16 ≠ 0 ∧ tabGet (fun _ => 0) s.sluice.unreported c ≠ 0 then
      ({ s with sluice := { s.sluice with unreported := tabErase s.sluice.unreported c } } : State).sendVector (s.cqOwner c)
        (s.fld (cqKey 0x04C c) 18 8)
    else s)

/-! ## Cancels -/

/-- A cancel starts (R156): BUSY, and the outcome its completion will show. -/
def State.startCancel (s : State) (res : Nat) (count : Option Nat) : State :=
  { s.put (pgSLC + 0x064) 31 31 1 with sluice := { s.sluice with cancelJob := some (res, count) } }

/-- R156: a cancel of one task. -/
def State.cancelTask (s : State) (r : Nat) (q : W16) : State :=
  if s.fld (pgSLC + 0x064) 31 31 = 1 then s.raise pgSLC 2
  else match s.named r q Task.queued with
    | some t => ((s.startCancel 1 none).mapTask t.ring t.seq (fun u => { u with cancel := true })).settle
    | none => if (s.named r q (fun t => t.place.inService)).isSome then s.startCancel 2 none else s.startCancel 3 none

/-- R156: a cancel of a flow. -/
def State.cancelFlow (s : State) (f : Nat) : State :=
  if s.fld (pgSLC + 0x064) 31 31 = 1 then s.raise pgSLC 2
  else
    let waiting := fun (t : Task) => decide (t.flow = f) && t.queued
    let n := (s.tasks.filter waiting).length
    let res := if n ≠ 0 then 1 else if s.tasks.any (fun t => decide (t.flow = f) && t.place.inService) then 2 else 3
    ((s.startCancel res (some n)).mapTasks waiting (fun t => { t with cancel := true })).settle

def execCancelTask (r : Ring) (seq : W16) (s : State) : Host.Outcome State Fault Refusal :=
  .next (s.access (pgSLC + 0x060) (fun s => s.cancelTask r seq))

def execCancelFlow (flow : Flow) (s : State) : Host.Outcome State Fault Refusal :=
  .next (s.access (pgSLC + 0x060) (fun s => s.cancelFlow flow))

/-- R156: the cancel completes. A count that COUNT cannot hold is not stated: a free value. -/
def execCancelDone (s : State) : Host.Outcome State Fault Refusal :=
  .next (match s.sluice.cancelJob with
    | none => s
    | some (res, count) =>
      let s1 := (s.put (pgSLC + 0x064) 31 31 0).put (pgSLC + 0x064) 2 0 res
      let s2 : State := { s1 with sluice := { s1.sluice with cancelJob := none } }
      match count with
      | none => s2
      | some n => if n < 4096 then s2.put (pgSLC + 0x064) 27 16 n else (s2.put (pgSLC + 0x064) 27 16 s.freeVal.toNat).drawn 1)

/-- R154: a write of FLOW_STOPPED[k]. -/
def execFlowResume (k : W7) (v : W32) (s : State) : Host.Outcome State Fault Refusal :=
  .next (s.access (pgFLOW 0 + 0x240 + 4 * k.toNat) (fun s =>
    s.setReg (pgFLOW 0 + 0x240 + 4 * k.toNat) (s.reg (pgFLOW 0 + 0x240 + 4 * k.toNat) &&& ~~~ v)))

/-! ## Telemetry -/

/-- CLR of CLU_HIST_CFG (R161): all bins and every PEAK. -/
def State.histClr (s : State) (d : Nat) : State :=
  let s1 := (List.range 128).foldl (fun t i => t.setReg (pgCLU d + 0x400 + 4 * i) 0) s
  (List.range 8).foldl (fun t p => t.put (pgCLU d + 0x084 + 4 * p) 25 16 0) s1

def execHistClr (d : Clu) (s : State) : Host.Outcome State Fault Refusal :=
  .next (s.access (pgCLU d + 0x0A4) (fun s => s.histClr d))

/-- A load record takes the busy time of its tile, which starts again (R161). -/
def State.loadRecord (s : State) (d k : Nat) : State :=
  let i := 8 * d + k
  let busy := tabGet (fun _ => 0) s.sluice.busy i
    + (if (s.tile d k).phase = .idle then 0 else s.vaneNow d - tabGet (fun _ => 0) s.sluice.busyFrom i)
  let s1 := s.setReg (pgCLU d + 0x0C0 + 4 * k)
    (BitVec.ofNat 32 ((locTile d k).toNat * 65536 + (busy / 1024000) % 65536))
  { s1 with sluice := { s1.sluice with
      busy := tabErase s1.sluice.busy i, busyFrom := tabSet (fun _ => 0) s1.sluice.busyFrom i (s.vaneNow d) } }

/-- Load windows of a cluster start: its tiles' busy time counts from now on. -/
def State.startWindows (s : State) (d : Nat) : State :=
  (List.range 8).foldl (fun t k => { t with sluice := { t.sluice with
    busy := tabErase t.sluice.busy (8 * d + k),
    busyFrom := tabSet (fun _ => 0) t.sluice.busyFrom (8 * d + k) (s.vaneNow d) } }) s

/-- R161: the end of a load window. -/
def execLoadWindow (d : Clu) (s : State) : Host.Outcome State Fault Refusal :=
  .next (
    if s.fld (pgCLU d + 0x0A8) 15 0 = 0 then s
    else ((List.range 8).foldl (fun t k => t.loadRecord d k) s).irqBit (pgCLU d) 1)

end Sys2Proof.Machine
end

