-- ==== Sys2Proof/Machine/EngOps.lean ====
section
/-! DEFINITION. What the engines share (R244 to R249, R269, R270): jobs, their reads and writes, acceptance, outcomes; and samples
as they stand in memory (R78). -/

namespace Sys2Proof.Machine

open Sys2Proof

/-! ## Jobs -/

def State.engJob (s : State) (q u : Nat) : Option EngJob := tabGet (fun _ => none) s.eng (16 * q + u)
def State.setEng (s : State) (q u : Nat) (j : Option EngJob) : State := { s with eng := tabSet (fun _ => none) s.eng (16 * q + u) j }

/-- The engine a unit belongs to. -/
def unitEng (u : Nat) : Nat := if u < 3 then u else if u < 8 then 3 else 4
/-- The page of an engine. -/
def engPg (q e : Nat) : Nat := quadPg q (0x14 + if e = 4 then 5 else e)
/-- The unit that takes an OP of an engine; an OP of the coding complex that is none goes to LDPC-D. -/
def opUnit (e op : Nat) : Nat :=
  match e with
  | 0 => 0 | 1 => 1 | 2 => 2
  | 3 => (match op with | 1 => 4 | 2 => 5 | 3 => 5 | 4 => 6 | 5 => 6 | 6 => 7 | 7 => 7 | _ => 3)
  | _ => 8

/-- The field [hi:lo] of word i of a descriptor. -/
def wordFld (w : BitVec 384) (i hi lo : Nat) : Nat := bitsOf w (32 * i + hi) (32 * i + lo)
def EngJob.f (j : EngJob) (i hi lo : Nat) : Nat := wordFld j.words i hi lo
def EngJob.src (j : EngJob) : Nat := bitsOf j.words 127 64
def EngJob.dst (j : EngJob) : Nat := bitsOf j.words 191 128
/-- The field [hi:lo] of context word i. -/
def EngJob.c (j : EngJob) (i hi lo : Nat) : Nat := bitsOf (j.ctx.getD i 0) hi lo

/-- The context a descriptor names. -/
def ctxIndex (e : Nat) (w : BitVec 384) : Nat :=
  match e with
  | 0 => wordFld w 0 27 24 | 1 => wordFld w 0 27 23 | 2 => wordFld w 0 27 22 | 3 => wordFld w 0 27 23 | _ => wordFld w 0 27 24

/-- A live context: n words of entry i from 0x044 of an engine's page. -/
def State.liveCtx (s : State) (pg i n : Nat) : List W32 := (List.range n).map (fun k => s.reg (entKey (pg + 0x844 + 4 * k) i))

/-! ## Reads and writes of a job -/

/-- A job's accesses so far: the state, and the cause that stopped it (3 error response, 4 poison marker). -/
structure JobRun where
  st : State
  who : Req
  cause : Nat := 0

/-- A job makes its requests as its carrier group, from its quadrant. -/
def EngJob.who (j : EngJob) : Req := { cg := some j.cg, quad := j.quad }
/-- A job before its first access. -/
def EngJob.begin (j : EngJob) (s : State) : JobRun := { st := s, who := j.who }
/-- A task's requests at the port of an engine of quadrant q. -/
def Task.whoAt (t : Task) (q : Nat) : Req := { cg := some t.cg, quad := q }

/-- The job goes on. -/
def JobRun.ok (r : JobRun) : Bool := decide (r.cause = 0)

/-- n bytes at a device address; nothing is read once a cause stands. -/
def JobRun.read (r : JobRun) (a n : Nat) : JobRun × Bytes :=
  if r.cause ≠ 0 then (r, [])
  else
    let x := r.st.devRead r.who a n
    ({ r with st := x.1, cause := if x.2.2 = false then 3 else if anyPoison x.2.1 then 4 else 0 }, unmark x.2.1)

/-- Bytes at a device address; nothing is written once a cause stands. -/
def JobRun.write (r : JobRun) (a : Nat) (bs : Bytes) : JobRun :=
  if r.cause ≠ 0 then r
  else
    let x := r.st.devWrite r.who a (plain bs)
    { r with st := x.1, cause := if x.2 then 0 else 3 }

/-! ## Samples -/

/-- A 32-bit element's real and imaginary part. -/
def cplx (x : W32) : Int × Int := ((x.extractLsb' 0 16).toInt, (x.extractLsb' 16 16).toInt)
/-- Two int16 components as an element. -/
def elemInt (re im : Int) : W32 := BitVec.ofInt 16 im ++ BitVec.ofInt 16 re
/-- Bytes as 32-bit words. -/
def wordsOf : Bytes → List W32
  | a :: b :: c :: d :: t => BitVec.ofNat 32 (natLE [a, b, c, d]) :: wordsOf t
  | _ => []
/-- 32-bit words as bytes. -/
def wordBytesOf (l : List W32) : Bytes := l.flatMap (fun x => bytesLE 4 x.toNat)
/-- A component brought into int16, and whether it was outside. -/
def clamp16 (x : Int) : Int × Nat := if x < -32768 then (-32768, 1) else if 32767 < x then (32767, 1) else (x, 0)

/-! ## Acceptance (R246, R270) -/

/-- The head of queue p of an engine. -/
def State.engHead (s : State) (q e p : Nat) : Option Task := s.queueHead (s.engQueue q e p)

/-- OP of the job a task names, as the port reads it. -/
def State.peekOp (s : State) (q : Nat) (t : Task) : Nat :=
  bitsOf (BitVec.ofNat 32 (natLE (unmark ((s.devRead (t.whoAt q) t.argp.toNat 4).2.1)))) 31 28

/-- The unit the head of a queue needs. -/
def State.headUnit (s : State) (q e : Nat) (t : Task) : Nat := if e = 3 then opUnit 3 (s.peekOp q t) else opUnit e 0

/-- The head the port passes on: strict priority, a head whose unit is busy passed over (R144, R270). -/
def State.engPick (s : State) (q e : Nat) : Option Task :=
  ((List.range 8).filterMap (fun p => s.engHead q e p)).find? (fun t => (s.engJob q (s.headUnit q e t)).isNone)

/-- A unit's job takes the results of its work. -/
def State.jobRan (s : State) (q u : Nat) (j : EngJob) (cause : Nat) (res : List Nat) : State :=
  s.setEng q u (some { j with ran := true, cause := cause, res := res })

/-- The task of a job was abandoned (R247). -/
def State.jobAbandoned (s : State) (j : EngJob) : Bool :=
  match s.findTask j.ring j.seq with | some t => t.abandoned | none => false

/-- The work of an OP on a unit's job: of an abandoned job, a free number of its units of work. -/
def State.runOp (s : State) (q u op : Nat) (units : EngJob → Nat) (work : EngJob → Nat → State → State × Nat × List Nat) : State :=
  match s.engJob q u with
  | none => s
  | some j =>
    if j.op ≠ op ∨ j.ran = true ∨ s.quadDark q = true then s
    else
      let ab := s.jobAbandoned j
      let n := if ab then s.freeVal.toNat % (units j + 1) else units j
      let k := { j with abandoned := ab }
      let r := work k n (if ab then s.drawn 1 else s)
      r.1.jobRan q u k (if r.2.1 = 0 ∧ ab = true then 5 else r.2.1) r.2.2

/-! ## Values a fence leaves open (R247, R292, R303) -/

/-- n bytes at a device address hold no defined value. -/
def State.spoil (s : State) (who : Req) (a n : Nat) : State :=
  let w := s.devWrite who a (plain ((List.range n).map (fun i => Config.hbmByte (2 ^ 32 + s.free) (a + i))))
  if w.2 then w.1.drawn 1 else s

/-- The result words and soft buffers of a job whose quadrant was fenced. -/
def State.spoilJob (s : State) (j : EngJob) : State := (s.spoil j.who (j.argp + 48) 16).spoil j.who j.soft.1 j.soft.2

/-- History and position of a detector context without defined values. -/
def State.spoilGsm (s : State) (k : Nat) : State :=
  let w := fun (i : Nat) => (Config.freeWord (s.free + i)).setWidth 32
  let g : GsmSt :=
    { pos := w 0, nant := (w 1).toNat % 65
      hist := (List.range 64).map (fun a => (List.range 80).map (fun i => w (2 + 80 * a + i))) }
  ({ s with gsm := tabSet (fun _ => {}) s.gsm k g } : State).drawn 5122

/-- What the jobs and contexts of a lost quadrant leave behind. -/
def State.spoilQuad (s : State) (q : Nat) (jobs : Tab (Option EngJob)) (ctx : Tab GsmSt) : State :=
  let s1 := (jobs.filter (fun e => decide (e.1 / 16 = q))).foldl (fun t e => match e.2 with | some j => t.spoilJob j | none => t) s
  (ctx.filter (fun e => decide (e.1 / 16 = q))).foldl (fun t e => t.spoilGsm e.1) s1

/-! ## The finish (R244, R246, R247) -/

/-- The result words. -/
def resultBytes (cause : Nat) (res : List Nat) : Bytes :=
  bytesLE 4 (2 ^ 31 + cause * 2 ^ 28 + res.getD 0 0) ++ bytesLE 4 (res.getD 1 0) ++ bytesLE 4 (res.getD 2 0) ++ bytesLE 4 (res.getD 3 0)

/-- A job is reported poisoned: the count, ENG_LAST_CAUSE, the error bit, and the task's mark. -/
def State.poisonReport (s : State) (q u : Nat) (j : EngJob) (cause : Nat) : State :=
  let pg := engPg q (unitEng u)
  let flow := match s.findTask j.ring j.seq with | some t => t.flow | none => 0
  let s1 := (s.inc (pg + 0x084) 31 0 1).setReg (pg + 0x088) (BitVec.ofNat 32 (2 ^ 31 + cause * 2 ^ 28 + j.cg * 4096 + flow))
  (s1.mapTask j.ring j.seq (fun t => { t with poisoned := true })).raiseAt pg (BitVec.ofNat 32 (2 ^ (cause - 1))) (locQuad q)
    (some j.cg) false

/-- What the words of a job that did no work hold beside its cause: CRC_OK of an encoder or the trellis decoder (R274), the position
of a GSM context (R296). -/
def State.idleRes (s : State) (q u : Nat) (j : EngJob) : List Nat :=
  if unitEng u = 3 ∧ [1, 3, 5, 6, 7].contains j.op = true then [2 ^ 24, 0, 0, 0]
  else if unitEng u = 4 ∧ j.op = 1 then [0, 0, 0, ((tabGet (fun _ => ({} : GsmSt)) s.gsm (16 * q + j.f 0 27 24)).pos).toNat]
  else [0, 0, 0, 0]

/-- Words at a device address hold no defined value though no access of theirs was let through (R247). -/
def State.smudge (s : State) (a n : Nat) : State :=
  let bs := plain ((List.range n).map (fun i => Config.hbmByte (2 ^ 32 + s.free) (a + i)))
  let t := (List.range ((a + n + 7) / 8 - a / 8)).foldl (fun t i =>
    let k := a / 8 * 8 + 8 * i
    let w := wordOf a bs k
    match t.devMem k with
    | none => t
    | some (.hbm _) => (t.writeHbm k w.1 w.2.1 0 false).1
    | some _ => t.writeChip k w.1 w.2.1 0) s
  t.drawn 1

/-- The result words are written and the finish is reported; a job abandoned since its work was done reports cause 5. -/
def State.finishJob (s : State) (q u : Nat) (j : EngJob) : State :=
  let cause := if j.cause = 0 ∧ s.jobAbandoned j = true then 5 else j.cause
  let r := s.devWrite j.who (j.argp + 48) (plain (resultBytes cause (if j.res = [] then s.idleRes q u j else j.res)))
  let w := if r.2 then r else (r.1.smudge (j.argp + 48) 16, false)
  let s1 := (w.1.setEng q u none).inc (engPg q (unitEng u) + 0x080) 31 0 1
  let bad := if 1 ≤ cause ∧ cause ≤ 4 then cause else if w.2 then 0 else 3
  let s2 := if bad = 0 then s1 else s1.poisonReport q u j bad
  match s2.findTask j.ring j.seq with
  | some t => s2.reportTask t (locQuad q)
  | none => s2

end Sys2Proof.Machine
end

