-- ==== Sys2Proof/Machine/Ldpc.lean ====
section
/-! DEFINITION. The LDPC code of TS 38.212 clause 5.3.2 and the layered normalised min-sum of R279. A column of the base graph is
a list of Z bits or of Z values. -/

namespace Sys2Proof.Machine

open Sys2Proof

/-! ## The graph -/

/-- The set index of a lifting size: the odd factor of table 5.3.2-1. -/
def ldpcSet (z : Nat) : Nat :=
  ([2, 3, 5, 7, 9, 11, 13, 15].findIdx? (fun a => (List.range 8).any (fun j => decide (z = a * 2 ^ j)))).getD 0

/-- The rows of a base graph lifted by Z: columns with their shifts. -/
def ldpcRows (bg2 : Bool) (z : Nat) : List (List (Nat × Nat)) :=
  (if bg2 then ldpcBg2 else ldpcBg1).map (fun r => r.map (fun e => (e.1, e.2.getD (ldpcSet z) 0 % z)))

/-- k_b: the systematic columns (R278). -/
def ldpcInfo (bg2 : Bool) : Nat := if bg2 then 10 else 22

/-- A column as a check row with shift v sees it, and back. -/
def turn {α : Type} (v : Nat) (l : List α) : List α := l.drop v ++ l.take v
def turnBack {α : Type} (v : Nat) (l : List α) : List α := turn (l.length - v) l

/-- A sequence cut into n columns of z. -/
def columns {α : Type} (z n : Nat) (l : List α) : List (List α) := (List.range n).map (fun i => (l.drop (z * i)).take z)

/-! ## Encoding -/

/-- The sum of a row over the columns there are. -/
def ldpcSum (z : Nat) (row : List (Nat × Nat)) (cols : List (List Bool)) : List Bool :=
  (row.filter (fun e => decide (e.1 < cols.length))).foldl (fun a e => List.zipWith Bool.xor a (turn e.2 (cols.getD e.1 [])))
    (List.replicate z false)

/-- The shift of a column that stands in an odd number of the first four rows: those of a repeated shift cancel. -/
def oddShift (rows : List (List (Nat × Nat))) (col : Nat) : Nat :=
  let l := ((rows.take 4).flatMap (fun r => r.filter (fun e => decide (e.1 = col)))).map (fun e => e.2)
  (l.find? (fun v => decide (l.count v % 2 = 1))).getD 0

/-- The columns of a codeword, with the parity of the first `layers` rows (R278): the four core rows give the first parity column
by their sum, then each row but the fourth gives the column after those there are. -/
def ldpcColumns (bg2 : Bool) (z layers : Nat) (info : List Bool) : List (List Bool) :=
  let rows := ldpcRows bg2 z
  let kb := ldpcInfo bg2
  let sys := columns z kb info
  let sum := (rows.take 4).foldl (fun a r => List.zipWith Bool.xor a (ldpcSum z r sys)) (List.replicate z false)
  let first := sys ++ [turnBack (oddShift rows kb) sum]
  ((List.range layers).filter (fun i => decide (i ≠ 3))).foldl (fun cols i => cols ++ [ldpcSum z (rows.getD i []) cols]) first

/-- The circular buffer: the codeword without its first two columns. -/
def ldpcBuffer (bg2 : Bool) (z layers : Nat) (info : List Bool) : List Bool :=
  ((ldpcColumns bg2 z layers info).drop 2).flatten

/-! ## Decoding (R279) -/

/-- A message scaled by (8 - NORM) / 8, rounded half away from zero. -/
def normMsg (norm : Nat) (m : Int) : Int :=
  let a := (((8 - norm) * m.natAbs + 4) / 8 : Nat)
  if m < 0 then - (a : Int) else a

/-- The min-sum messages of a check: to each edge the product of the other signs and the least of the other magnitudes. -/
def minSum (norm : Nat) (qs : List Int) : List Int :=
  (List.range qs.length).map (fun k =>
    let o := qs.eraseIdx k
    let neg := (o.filter (fun x => decide (x < 0))).length % 2
    let m := (o.map Int.natAbs).foldl min ((o.headD 0).natAbs)
    normMsg norm (if neg = 1 then - (m : Int) else m))

/-- The decoder's columns of values, and the last messages of each layer to its columns. -/
structure LdpcState where
  post : List (List Int)
  msgs : List (List (List Int))

/-- Layer i. -/
def ldpcLayer (norm : Nat) (rows : List (List (Nat × Nat))) (x : LdpcState) (i : Nat) : LdpcState :=
  let row := rows.getD i []
  let old := x.msgs.getD i []
  let q := (row.zip old).map (fun e => List.zipWith (fun a b => a - b) (turn e.1.2 (x.post.getD e.1.1 [])) e.2)
  let z := (q.headD []).length
  let byCheck := (List.range z).map (fun t => minSum norm (q.map (fun c => c.getD t 0)))
  let new := (List.range row.length).map (fun k => byCheck.map (fun m => m.getD k 0))
  let post := ((row.zip q).zip new).foldl (fun p e =>
    p.set e.1.1.1 (turnBack e.1.1.2 (List.zipWith (fun a b => a + b) e.1.2 e.2))) x.post
  { post := post, msgs := x.msgs.set i new }

/-- The hard decision of a value; the spec states none for 0, which is free. -/
def hardBit (free : Nat → Bool) (i : Nat) (v : Int) : Bool := if v = 0 then free i else decide (v < 0)

/-- The hard decisions, column by column. -/
def ldpcHard (free : Nat → Bool) (z : Nat) (x : LdpcState) : List (List Bool) :=
  (List.range x.post.length).map (fun c => (List.range z).map (fun t => hardBit free (z * c + t) ((x.post.getD c []).getD t 0)))

/-- The syndrome of the layers is zero. -/
def ldpcZero (z : Nat) (rows : List (List (Nat × Nat))) (layers : Nat) (cols : List (List Bool)) : Bool :=
  (rows.take layers).all (fun r => (ldpcSum z r cols).all (fun b => !b))

/-- Iterations i, i + 1 and on, at most `left` of them: how many were run in all, whether the syndrome was zero, the decisions. -/
def ldpcIterate (z norm layers minIter : Nat) (rows : List (List (Nat × Nat))) (free : Nat → Nat → Bool) :
    Nat → Nat → LdpcState → Nat × Bool × List (List Bool)
  | 0, i, x => let h := ldpcHard (free (i - 1)) z x; (i - 1, ldpcZero z rows layers h, h)
  | left + 1, i, x =>
    let y := (List.range layers).foldl (ldpcLayer norm rows) x
    let h := ldpcHard (free i) z y
    let ok := ldpcZero z rows layers h
    if minIter ≤ i ∧ ok = true then (i, true, h) else ldpcIterate z norm layers minIter rows free left (i + 1) y

/-- The decoder over the values of the circular buffer, filler positions already at +127: punctured columns start as erasures. -/
def ldpcDecode (bg2 : Bool) (z layers norm maxIter minIter : Nat) (v : List Int) : Nat × Bool × List Bool :=
  let rows := ldpcRows bg2 z
  let n := ldpcInfo bg2 + layers
  let all := List.replicate (2 * z) 0 ++ v ++ List.replicate (n * z) 0
  let start : LdpcState :=
    { post := columns z n all, msgs := (rows.take layers).map (fun r => r.map (fun _ => List.replicate z 0)) }
  let r := ldpcIterate z norm layers minIter rows (fun i k => Config.codeTie [b2n bg2, z, layers, norm, maxIter, minIter] v i k) maxIter 1 start
  (r.1, r.2.1, r.2.2.flatten)

end Sys2Proof.Machine
end

