-- ==== Sys2Proof/Machine/CodeOps.lean ====
section
/-! DEFINITION. What the coding complex computes over: soft inputs and packed bits (R271, R272), CRCs, segmentation and rate
matching of TS 38.212 and TS 36.212 (R277, R278, R282). -/

namespace Sys2Proof.Machine

open Sys2Proof

/-! ## Bits and soft values -/

/-- The bits of packed bytes. -/
def bitsOfBytes (bs : Bytes) : List Bool := bs.flatMap (fun b => (List.range 8).map (fun i => b.getLsbD (7 - i)))

/-- Bits as a number, first bit most significant. -/
def natOfBits (l : List Bool) : Nat := l.foldl (fun a b => 2 * a + b2n b) 0

/-- Packed bytes of bits; the unused low bits of the last byte are 0. -/
def packBits (l : List Bool) : Bytes :=
  (List.range ((l.length + 7) / 8)).map (fun i => BitVec.ofNat 8 (natOfBits ((List.range 8).map (fun k => l.getD (8 * i + k) false))))

/-- A soft input; -128 reads as -127. -/
def softOf (b : W8) : Int := max (-127) b.toInt
/-- A stored soft value. -/
def softByte (x : Int) : W8 := BitVec.ofInt 8 x

/-! ## CRCs (TS 38.212 clause 5.1, TS 36.212 clause 5.1.1) -/

def crcStep (n poly r : Nat) (b : Bool) : Nat :=
  let x := 2 * r + b2n b
  if 2 ^ n ≤ x then x ^^^ (2 ^ n + poly) else x
/-- The remainder of a bit sequence. -/
def crcRem (n poly : Nat) (l : List Bool) : Nat := l.foldl (crcStep n poly) 0
/-- The n check bits of a message. -/
def crcBits (n poly : Nat) (l : List Bool) : List Bool :=
  let r := crcRem n poly (l ++ List.replicate n false)
  (List.range n).map (fun i => decide (r / 2 ^ (n - 1 - i) % 2 = 1))
/-- A message with its check bits passes. -/
def crcOk (n poly : Nat) (l : List Bool) : Bool := decide (crcRem n poly l = 0)

def crc24A : Nat := 0x864CFB
def crc24B : Nat := 0x800063
def crc16 : Nat := 0x1021

/-! ## What a transport block turns into -/

/-- The code blocks of a job. -/
structure CodePlan where
  /-- LDPC; turbo otherwise. -/
  ldpc : Bool
  bg2 : Bool := false
  /-- Transport block bits and the length of its CRC. -/
  a : Nat
  tbCrc : Nat
  /-- C. -/
  c : Nat
  /-- Information bits of a block with its CRC24B, filler apart. -/
  info : Nat → Nat
  /-- K: information bits with filler. -/
  k : Nat → Nat
  z : Nat := 0
  ncb : Nat → Nat
  e : Nat → Nat
  /-- Where the circular buffer starts. -/
  k0 : Nat → Nat
  /-- What a position of the circular buffer holds: none a dummy; false a coded bit, true a filler. -/
  at_ : Nat → Nat → Option Bool
  /-- The index before bit interleaving of transmitted bit t of block r. -/
  idx : Nat → Nat → Nat

/-- The positions of block r that carry bits, in the order they are sent. -/
def CodePlan.slots (p : CodePlan) (r : Nat) : List Nat :=
  (List.range (p.ncb r)).filterMap (fun i =>
    let x := (p.k0 r + i) % p.ncb r
    if p.at_ r x = some false then some x else none)

/-- The position bit t of block r goes to. -/
def CodePlan.pos (p : CodePlan) (r : Nat) (sl : List Nat) (t : Nat) : Nat := sl.getD (p.idx r t % sl.length) 0

/-- P_END of a transmission (R278). -/
def CodePlan.pEnd (p : CodePlan) (r : Nat) (sl : List Nat) : Nat :=
  let front := sl.filter (fun x => decide (p.k0 r ≤ x))
  if front.length < p.e r then p.ncb r else front.getD (p.e r - 1) 0 + 1

/-- SB of R286, of the longest block. -/
def CodePlan.sb (p : CodePlan) : Nat := 64 + 64 * ((p.ncb (p.c - 1) + 63) / 64)

/-- E_r: G over the blocks in multiples of N_L Q_m, the last ones longer. -/
def rateE (g nl qm c r : Nat) : Nat :=
  let g' := g / (nl * qm)
  if r < c - g' % c then nl * qm * (g' / c) else nl * qm * ((g' + c - 1) / c)

/-! ## LDPC (TS 38.212) -/

/-- The lifting sizes. -/
def liftings : List Nat :=
  (List.range 385).filter (fun z => [2, 3, 5, 7, 9, 11, 13, 15].any (fun a => (List.range 8).any (fun j => decide (z = a * 2 ^ j))))

/-- K_b of clause 5.2.2. -/
def ldpcKb (bg2 : Bool) (b : Nat) : Nat :=
  if !bg2 then 22 else if 640 < b then 10 else if 560 < b then 9 else if 192 < b then 8 else 6

/-- Numerators of k0 (table 5.4.2.1-2). -/
def ldpcK0 (bg2 : Bool) (rv : Nat) : Nat :=
  match rv with | 0 => 0 | 1 => if bg2 then 13 else 17 | 2 => if bg2 then 25 else 33 | _ => if bg2 then 43 else 56

/-- The plan of an LDPC job. -/
def ldpcPlan (w : BitVec 384) (limit : Nat) : CodePlan :=
  let bg2 := decide (wordFld w 0 22 22 = 1)
  let a := wordFld w 1 23 0
  let l := if 3824 < a then 24 else 16
  let b := a + l
  let kcb := if bg2 then 3840 else 8448
  let c := if b ≤ kcb then 1 else (b + kcb - 25) / (kcb - 24)
  let k' := (if c = 1 then b else b + 24 * c) / c
  let z := (liftings.find? (fun z => decide (k' ≤ ldpcKb bg2 b * z))).getD 384
  let k := (if bg2 then 10 else 22) * z
  let cols := if bg2 then 50 else 66
  let ncb := if limit = 0 then cols * z else min (cols * z) limit
  let qm := wordFld w 0 17 14
  let e := rateE (wordFld w 10 27 0) (wordFld w 0 13 12 + 1) qm c
  { ldpc := true, bg2 := bg2, a := a, tbCrc := l, c := c, info := fun _ => k', k := fun _ => k, z := z, ncb := fun _ => ncb, e := e
    k0 := fun _ => ldpcK0 bg2 (wordFld w 0 19 18) * ncb / (cols * z) * z
    at_ := fun _ x => some (decide (k' ≤ x + 2 * z) && decide (x + 2 * z < k))
    idx := fun r t => t % qm * (e r / qm) + t / qm }

/-- The count of layers of a P_END (R278). -/
def CodePlan.layers (p : CodePlan) (pEnd : Nat) : Nat :=
  let kb := if p.bg2 then 10 else 22
  max 4 (min (if p.bg2 then 42 else 46) ((pEnd - 1) / p.z + 2 + 1 - kb))

/-! ## Turbo (TS 36.212) -/

/-- The interleaver sizes of table 5.1.3-3. -/
def turboSizes : List Nat :=
  (List.range 60).map (fun i => 40 + 8 * i) ++ (List.range 32).map (fun i => 528 + 16 * i)
  ++ (List.range 32).map (fun i => 1056 + 32 * i) ++ (List.range 64).map (fun i => 2112 + 64 * i)

/-- The column permutation of the sub-block interleaver. -/
def subBlockCols : List Nat :=
  [0, 16, 8, 24, 4, 20, 12, 28, 2, 18, 10, 26, 6, 22, 14, 30, 1, 17, 9, 25, 5, 21, 13, 29, 3, 19, 11, 27, 7, 23, 15, 31]

/-- Rows of the sub-block interleaver of a block of size k. -/
def turboRows (k : Nat) : Nat := (k + 4 + 31) / 32

/-- The stream and index a position of the circular buffer holds; none where the interleaver holds a dummy (5.1.4.1). -/
def turboAt (k x : Nat) : Option (Nat × Nat) :=
  let r := turboRows k
  let kp := 32 * r
  let i := if x < kp then x else (x - kp) / 2
  let st := if x < kp then 0 else 1 + (x - kp) % 2
  let y := subBlockCols.getD (i / r) 0 + 32 * (i % r)
  let y1 := if st = 2 then (y + 1) % kp else y
  let nd := kp - (k + 4)
  if y1 < nd then none else some (st, y1 - nd)

/-- The plan of a turbo job. -/
def turboPlan (w : BitVec 384) (limit : Nat) : CodePlan :=
  let a := wordFld w 1 23 0
  let b := a + 24
  let c := if b ≤ 6144 then 1 else (b + 6119) / 6120
  let b' := if c = 1 then b else b + 24 * c
  let kPlus := (turboSizes.find? (fun k => decide (b' ≤ c * k))).getD 6144
  let kMinus := if c = 1 then 0 else ((turboSizes.filter (fun k => decide (k < kPlus))).getLast?).getD 0
  let cMinus := if c = 1 then 0 else (c * kPlus - b') / (kPlus - kMinus)
  let k := fun r => if r < cMinus then kMinus else kPlus
  let fill := (c - cMinus) * kPlus + cMinus * kMinus - b'
  let ncb := fun r => if limit = 0 then 96 * turboRows (k r) else min (limit / c) (96 * turboRows (k r))
  { ldpc := false, a := a, tbCrc := 24, c := c, info := fun r => if r = 0 then k 0 - fill else k r, k := k, ncb := ncb
    e := rateE (wordFld w 10 27 0) (wordFld w 0 13 12 + 1) (wordFld w 0 17 14) c
    k0 := fun r =>
      let rows := turboRows (k r)
      rows * (2 * ((ncb r + 8 * rows - 1) / (8 * rows)) * wordFld w 0 19 18 + 2)
    at_ := fun r x => (turboAt (k r) x).map (fun y => decide (r = 0) && decide (y.1 < 2) && decide (y.2 < fill))
    idx := fun _ t => t }

/-- The plan of a job. -/
def codePlan (w : BitVec 384) (limit : Nat) : CodePlan := if wordFld w 0 31 28 < 2 then ldpcPlan w limit else turboPlan w limit

/-- Sizes the clauses allow (R273, R277): C, the block size, G. -/
def CodePlan.ok (p : CodePlan) (w : BitVec 384) : Bool :=
  let unit := (wordFld w 0 13 12 + 1) * wordFld w 0 17 14
  let g := wordFld w 10 27 0
  decide (1 ≤ p.a) && decide (p.c ≤ 256) && decide (g % unit = 0) && decide (p.c * unit ≤ g)
  && (!p.ldpc || decide ((p.a + p.tbCrc) % p.c = 0))

/-! ## Segmentation and encoding -/

/-- Bits of the transport block and its CRC that block r carries. -/
def CodePlan.share (p : CodePlan) (r : Nat) : Nat := if p.c = 1 then p.info r else p.info r - 24

/-- The first bit of block r in the transport block. -/
def CodePlan.first (p : CodePlan) (r : Nat) : Nat := ((List.range r).map p.share).sum

def CodePlan.tbPoly (p : CodePlan) : Nat := if p.tbCrc = 16 then crc16 else crc24A

/-- The information bits of block r with CRC24B when C > 1. -/
def CodePlan.block (p : CodePlan) (tb : List Bool) (r : Nat) : List Bool :=
  let x := (tb.drop (p.first r)).take (p.share r)
  if p.c = 1 then x else x ++ crcBits 24 crc24B x

/-- A recursive constituent encoder of TS 36.212 clause 5.1.3.2: parity bits and the state at the end, most recent first. -/
def rscParity (l : List Bool) : List Bool × (Bool × Bool × Bool) :=
  l.foldl (fun x u =>
    let s := x.2
    let a := u ^^ s.2.1 ^^ s.2.2
    (x.1 ++ [a ^^ s.1 ^^ s.2.2], (a, s.1, s.2.1))) ([], (false, false, false))

/-- The three termination steps: feedback and parity bits. -/
def rscTail (s : Bool × Bool × Bool) : List (Bool × Bool) :=
  let t := fun (s : Bool × Bool × Bool) => ((s.2.1 ^^ s.2.2, s.1 ^^ s.2.2), (false, s.1, s.2.1))
  let a := t s
  let b := t a.2
  let c := t b.2
  [a.1, b.1, c.1]

/-- The QPP interleaver of a block: the index each output bit is taken from. -/
def qppPerm (k : Nat) : List Nat :=
  let f := ((qppTable.find? (fun e => decide (e.1 = k))).map (fun e => e.2)).getD (0, 0)
  (List.range k).map (fun i => (f.1 * i + f.2 * i * i) % k)

/-- The three streams of a turbo-coded block. -/
def turboStreams (c : List Bool) : List (List Bool) :=
  let k := c.length
  let c' := (qppPerm k).map (fun i => c.getD i false)
  let p := rscParity c
  let p' := rscParity c'
  let x := fun (i : Nat) => ((rscTail p.2).getD i (false, false)).1
  let z := fun (i : Nat) => ((rscTail p.2).getD i (false, false)).2
  let x' := fun (i : Nat) => ((rscTail p'.2).getD i (false, false)).1
  let z' := fun (i : Nat) => ((rscTail p'.2).getD i (false, false)).2
  [c ++ [x 0, z 1, x' 0, z' 1], p.1 ++ [z 0, x 2, z' 0, x' 2], p'.1 ++ [x 1, z 2, x' 1, z' 2]]

/-- The circular buffer of a block's information bits: filler coded as zeros (in front for turbo, behind for LDPC). An LDPC encode
computes the parity of the layers the span reaches (R278). -/
def CodePlan.coded (p : CodePlan) (r : Nat) (c : List Bool) : Nat → Bool :=
  let fill := List.replicate (p.k r - p.info r) false
  if p.ldpc then
    let d := ldpcBuffer p.bg2 p.z (p.layers (p.pEnd r (p.slots r))) (c ++ fill)
    fun i => d.getD i false
  else
    let d := turboStreams (fill ++ c)
    fun i => match turboAt (p.k r) i with | some y => (d.getD y.1 []).getD y.2 false | none => false

/-- The rate-matched bits of block r. -/
def CodePlan.sent (p : CodePlan) (r : Nat) (c : List Bool) : List Bool :=
  let sl := p.slots r
  let d := p.coded r c
  (List.range (p.e r)).map (fun t => d (p.pos r sl t))

end Sys2Proof.Machine
end

