-- ==== Sys2Proof/Machine/Polar.lean ====
section
/-! DEFINITION. Polar coding of TS 38.212 clauses 5.3.1 and 5.4.1 for the channels of R283, and the successive-cancellation list
decoder. -/

namespace Sys2Proof.Machine

open Sys2Proof

/-! ## Parameters of a segment -/

/-- A segment's code: K information bits with CRC, E transmitted bits, n, parity-check bits and those placed by row weight,
input interleaving and interleaving of coded bits. -/
structure PolarCode where
  k : Nat
  e : Nat
  n : Nat
  nPc : Nat
  nWm : Nat
  il : Bool
  bil : Bool

/-- ceil(log2 x). -/
def ceilLog2 (x : Nat) : Nat := if x ≤ 1 then 0 else Nat.log2 (x - 1) + 1

/-- n of clause 5.3.1. -/
def polarLog (k e nMax : Nat) : Nat :=
  let c := ceilLog2 e
  let n1 := if 8 * e ≤ 9 * 2 ^ (c - 1) ∧ 16 * k < 9 * e then c - 1 else c
  max 5 (min (min n1 (ceilLog2 (8 * k))) nMax)

/-- The code of a segment of channel ch (clauses 6.3.1.3.1, 6.3.1.4.1, 7.1.4, 7.1.5, 7.3.3, 7.3.4). -/
def polarCode (ch k e : Nat) : PolarCode :=
  let uci := decide (ch = 2)
  let pc := uci && decide (18 ≤ k) && decide (k ≤ 25)
  { k := k, e := e, n := polarLog k e (if uci then 10 else 9), nPc := if pc then 3 else 0
    nWm := if pc && decide (192 + k < e + 3) then 1 else 0, il := !uci, bil := uci }

def PolarCode.len (c : PolarCode) : Nat := 2 ^ c.n

/-! ## Rate matching (5.4.1) -/

/-- J(i). -/
def PolarCode.subBlock (c : PolarCode) (i : Nat) : Nat :=
  polarSubBlock.getD (32 * i / c.len) 0 * (c.len / 32) + i % (c.len / 32)

/-- K / E is at most 7 / 16: puncturing rather than shortening. -/
def PolarCode.punctured (c : PolarCode) : Bool := decide (16 * c.k ≤ 7 * c.e)

/-- The bit of the interleaved codeword that transmitted bit i is. -/
def PolarCode.select (c : PolarCode) (i : Nat) : Nat :=
  if c.len ≤ c.e then i % c.len else if c.punctured then i + c.len - c.e else i

/-- The order of the triangular interleaver of E bits: column by column of the rows of its triangle. -/
def triangle (e : Nat) : List Nat :=
  let t := ((List.range (e + 1)).find? (fun t => decide (2 * e ≤ t * (t + 1)))).getD e
  (List.range t).flatMap (fun j => ((List.range (t - j)).map (fun i => i * t - i * (i - 1) / 2 + j)).filter (fun x => decide (x < e)))

/-- For each bit sent, its index in the codeword d. -/
def PolarCode.sentIx (c : PolarCode) : List Nat :=
  let f := (List.range c.e).map (fun i => c.subBlock (c.select i))
  if c.bil then (triangle c.e).map (fun i => f.getD i 0) else f

/-! ## Where bits go (5.3.1.2, 5.4.1.1) -/

/-- Indices no information may take. -/
def PolarCode.barred (c : PolarCode) (i : Nat) : Bool :=
  let n := c.len
  if n ≤ c.e then false
  else if c.punctured then
    ((List.range (n - c.e)).map c.subBlock).contains i
    || decide (i < if 3 * n ≤ 4 * c.e then (3 * n - 2 * c.e + 3) / 4 else (9 * n - 4 * c.e + 15) / 16)
  else (((List.range n).drop c.e).map c.subBlock).contains i

/-- The indices of information and parity-check bits, most reliable first. -/
def PolarCode.used (c : PolarCode) : List Nat :=
  ((polarOrder.filter (fun i => decide (i < c.len) && !c.barred i)).reverse).take (c.k + c.nPc)

/-- The parity-check indices: the least reliable ones, and of the others one of least row weight, the most reliable of them. -/
def PolarCode.checks (c : PolarCode) : List Nat :=
  let u := c.used
  let low := u.drop (c.k + c.nWm)
  if c.nWm = 0 then low
  else
    let w := fun (i : Nat) => popCount (BitVec.ofNat 10 i)
    let top := u.take c.k
    let m := (top.map w).foldl min 10
    low ++ ((top.find? (fun i => decide (w i = m))).toList)

/-- The kinds of an index: none frozen; true a parity-check bit; false an information bit. -/
def PolarCode.kind (c : PolarCode) (i : Nat) : Option Bool :=
  if c.used.contains i then some (c.checks.contains i) else none

/-- The parity-check bit at index i: the information bits before it whose index agrees with it modulo 5. -/
def PolarCode.checkBit (c : PolarCode) (u : List Bool) (i : Nat) : Bool :=
  (List.range i).foldl (fun a j => if j % 5 = i % 5 ∧ c.kind j = some false then a ^^ u.getD j false else a) false

/-- The input interleaver (5.3.1.1): the index each bit is taken from. -/
def PolarCode.inputIx (c : PolarCode) : List Nat :=
  if c.il then (polarPattern.filter (fun x => decide (164 ≤ x + c.k))).map (fun x => x + c.k - 164) else List.range c.k

/-! ## Encoding -/

/-- u G with G the n-th Kronecker power of the kernel. -/
def polarTransform : Nat → List Bool → List Bool
  | 0, u => u
  | n + 1, u =>
    let a := polarTransform n (u.take (2 ^ n))
    let b := polarTransform n (u.drop (2 ^ n))
    List.zipWith Bool.xor a b ++ b

/-- The bits u of a segment's bits with CRC. -/
def PolarCode.place (c : PolarCode) (x : List Bool) : List Bool :=
  let info := c.inputIx.map (fun i => x.getD i false)
  ((List.range c.len).foldl (fun (s : List Bool × List Bool) i =>
    match c.kind i with
    | none => (s.1 ++ [false], s.2)
    | some true => (s.1 ++ [c.checkBit s.1 i], s.2)
    | some false => (s.1 ++ [s.2.headD false], s.2.drop 1)) ([], info)).1

/-- The E bits sent for a segment's bits with CRC. -/
def PolarCode.encode (c : PolarCode) (x : List Bool) : List Bool :=
  let d := polarTransform c.n (c.place x)
  c.sentIx.map (fun i => d.getD i false)

/-! ## Decoding: successive cancellation with a list of 8 -/

/-- The value of the next bit, its block's earlier bits decided: the checks of both halves, then their sum. -/
def polarValue : Nat → List Int → List Bool → Int
  | 0, v, _ => v.headD 0
  | n + 1, v, u =>
    let a := v.take (2 ^ n)
    let b := v.drop (2 ^ n)
    if u.length < 2 ^ n then polarValue n (List.zipWith Config.polarCheck a b) u
    else
      let x := polarTransform n (u.take (2 ^ n))
      polarValue n ((List.zipWith (fun p b => if p.1 then b - p.2 else b + p.2) (x.zip a) b)) (u.drop (2 ^ n))

/-- A path of the list: its metric and its bits. -/
abbrev PolarPath := Int × List Bool

/-- The eight best of a list of paths, in their order; a tie goes to the lower index. -/
def bestEight (l : List PolarPath) : List PolarPath :=
  let ix := l.zip (List.range l.length)
  (ix.filter (fun p => decide ((ix.filter (fun o => decide (p.1.1 < o.1.1) || (decide (p.1.1 = o.1.1) && decide (o.2 < p.2)))).length < 8))).map
    (fun p => p.1)

/-- A path goes on with a bit. -/
def PolarCode.extend (c : PolarCode) (v : List Int) (p : PolarPath) (b : Bool) : PolarPath :=
  (p.1 + Config.polarCost (polarValue c.n v p.2) b, p.2 ++ [b])

/-- Bit i of every path. -/
def PolarCode.listStep (c : PolarCode) (v : List Int) (l : List PolarPath) (i : Nat) : List PolarPath :=
  match c.kind i with
  | none => l.map (fun p => c.extend v p false)
  | some true => l.map (fun p => c.extend v p (c.checkBit p.2 i))
  | some false => bestEight (l.flatMap (fun p => [c.extend v p false, c.extend v p true]))

/-- The values of the codeword's bits: repeated ones added, punctured ones erased, shortened ones known. -/
def PolarCode.values (c : PolarCode) (r : List Int) : List Int :=
  let got := c.sentIx.zip r
  (List.range c.len).map (fun i =>
    let l := got.filter (fun g => decide (g.1 = i))
    if l = [] ∧ c.punctured = false then Config.polarKnown else (l.map (fun g => g.2)).sum)

/-- The bits with CRC of a path. -/
def PolarCode.infoOf (c : PolarCode) (u : List Bool) : List Bool :=
  let info := ((List.range c.len).filter (fun i => decide (c.kind i = some false))).map (fun i => u.getD i false)
  let ix := c.inputIx
  (List.range c.k).map (fun i => info.getD ((ix.findIdx? (fun x => decide (x = i))).getD 0) false)

/-- The first of the paths with the largest metric. -/
def bestPath (l : List (Int × List Bool)) : Int × List Bool := l.foldl (fun a p => if a.1 < p.1 then p else a) (l.headD (0, []))

/-- A segment's bits with CRC, whether the CRC passes, the metric: the best path that passes, else the best. -/
def PolarCode.decode (c : PolarCode) (check : List Bool → Bool) (r : List Int) : List Bool × Bool × Int :=
  let v := c.values r
  let l := ((List.range c.len).foldl (c.listStep v) [(0, [])]).map (fun p => (p.1, c.infoOf p.2))
  let ok := l.filter (fun p => check p.2)
  let b := if ok = [] then bestPath l else bestPath ok
  (b.2, decide (ok ≠ []), b.1)

/-! ## CRCs and segments -/

/-- The CRC length of a payload (6.3.1.2.1, 7.1.3, 7.3.2) and its segments (5.2.1, 6.3.1.2.1). -/
def polarSegments (ch a e : Nat) : Nat := if ch = 2 ∧ (1013 ≤ a ∨ 360 ≤ a ∧ 1088 ≤ e) then 2 else 1
def polarCrc (ch a : Nat) : Nat := if ch = 2 then (if a < 20 then 6 else 11) else 24
def polarPoly (len : Nat) : Nat := match len with | 6 => 0x21 | 11 => 0x621 | _ => 0xB2B117

/-- A payload with its check bits: of a DCI, behind 24 ones, the last 16 check bits scrambled with the RNTI. -/
def polarAttach (ch len rnti : Nat) (m : List Bool) : List Bool :=
  let crc := crcBits len (polarPoly len) (if ch = 0 then List.replicate 24 true ++ m else m)
  m ++ (List.range len).map (fun i => crc.getD i false ^^ (decide (ch = 0) && decide (8 ≤ i) && rnti.testBit (23 - i)))

/-- The payload of segment i, a leading zero in front of an odd one. -/
def polarSegment (segs : Nat) (a : List Bool) (i : Nat) : List Bool :=
  let n := (a.length + segs - 1) / segs
  ((List.replicate (n * segs - a.length) false ++ a).drop (n * i)).take n

/-- What a job of A payload bits and E transmitted bits runs on: segments, CRC length, the code of one segment. -/
structure PolarJob where
  ch : Nat
  a : Nat
  e : Nat
  rnti : Nat

def PolarJob.segs (p : PolarJob) : Nat := polarSegments p.ch p.a p.e
def PolarJob.crc (p : PolarJob) : Nat := polarCrc p.ch p.a
/-- Payload bits of a segment. -/
def PolarJob.part (p : PolarJob) : Nat := (p.a + p.segs - 1) / p.segs
def PolarJob.code (p : PolarJob) : PolarCode := polarCode p.ch (p.part + p.crc) (p.e / p.segs)

/-- The bits sent for the first n segments. -/
def PolarJob.encode (p : PolarJob) (m : List Bool) (n : Nat) : List Bool :=
  let x := (List.range n).flatMap (fun i => p.code.encode (polarAttach p.ch p.crc p.rnti (polarSegment p.segs m i)))
  if n = p.segs ∧ p.e % p.segs ≠ 0 then x ++ [Config.polarOdd m] else x

/-- The segments decoded: their payloads, passes and metrics. -/
def PolarJob.decode (p : PolarJob) (r : List Int) (n : Nat) : List (List Bool × Bool × Int) :=
  (List.range n).map (fun i =>
    let d := p.code.decode (fun x => decide (polarAttach p.ch p.crc p.rnti (x.take p.part) = x)) ((r.drop (p.e / p.segs * i)).take (p.e / p.segs))
    (d.1.take p.part, d.2.1, d.2.2))

/-- The payload bits of decoded segments, a leading zero dropped. -/
def PolarJob.payload (p : PolarJob) (l : List (List Bool × Bool × Int)) : List Bool :=
  (l.flatMap (fun d => d.1)).drop (p.part * p.segs - p.a)

end Sys2Proof.Machine
end

