-- ==== Sys2Proof/Machine/Turbo.lean ====
section
/-! DEFINITION. The turbo decoder of R282: max-log-MAP over the two constituent codes of TS 36.212 clause 5.1.3.2. A state of a
constituent encoder is s1 + 2 s2 + 4 s3, the most recent bit first. Metrics are exact integers. -/

namespace Sys2Proof.Machine

open Sys2Proof

/-- The bit that enters the register for input u, the parity bit, and the next state. -/
def rscIn (s : Nat) (u : Bool) : Bool := u ^^ s.testBit 1 ^^ s.testBit 2
def rscOut (s : Nat) (u : Bool) : Bool := rscIn s u ^^ s.testBit 0 ^^ s.testBit 2
def rscNext (s : Nat) (u : Bool) : Nat := b2n (rscIn s u) + 2 * (s % 4)

/-- A trellis step's inputs: systematic value with its a priori value, parity value, and whether the register is being emptied. -/
structure RscStep where
  sys : Int
  par : Int
  tail : Bool := false

/-- The branches of a step: from, input, to. -/
def rscBranches (x : RscStep) : List (Nat × Bool × Nat) :=
  ((List.range 8).flatMap (fun s => [(s, false, rscNext s false), (s, true, rscNext s true)])).filter
    (fun e => !x.tail || !rscIn e.1 e.2.1)

/-- The metric of a branch. -/
def rscGamma (x : RscStep) (s : Nat) (u : Bool) : Int := (if u then - x.sys else 0) + if rscOut s u then - x.par else 0

/-- The larger of two metrics; none where no path has come. -/
def maxOpt (a b : Option Int) : Option Int :=
  match a, b with
  | none, b => b
  | a, none => a
  | some a, some b => some (max a b)

/-- The best of the branches a test takes: their metric after (and before) the branch. -/
def rscBest (x : RscStep) (al be : List (Option Int)) (p : Nat × Bool × Nat → Bool) : Option Int :=
  (rscBranches x).foldl (fun a e =>
    if p e then maxOpt a ((al.getD e.1 none).bind (fun f => (be.getD e.2.2 none).map (fun b => f + rscGamma x e.1 e.2.1 + b))) else a) none

/-- A recursion on its own starts the other side at 0. -/
def rscFlat : List (Option Int) := List.replicate 8 (some 0)

/-- The metrics before each step. -/
def rscForward : List (Option Int) → List RscStep → List (List (Option Int))
  | _, [] => []
  | al, x :: xs => al :: rscForward ((List.range 8).map (fun n => rscBest x al rscFlat (fun e => decide (e.2.2 = n)))) xs

/-- The metrics after each step and, first, before them all: the last state is 0. -/
def rscBackward : List RscStep → List (List (Option Int))
  | [] => [(some 0) :: List.replicate 7 none]
  | x :: xs =>
    let r := rscBackward xs
    (List.range 8).map (fun s => rscBest x rscFlat (r.headD []) (fun e => decide (e.1 = s))) :: r

/-- The a posteriori values of a constituent code's steps. -/
def rscPosterior (xs : List RscStep) : List Int :=
  ((xs.zip (rscForward ((some 0) :: List.replicate 7 none) xs)).zip ((rscBackward xs).drop 1)).map (fun e =>
    (rscBest e.1.1 e.1.2 e.2 (fun b => !b.2.1)).getD 0 - (rscBest e.1.1 e.1.2 e.2 (fun b => b.2.1)).getD 0)

/-- (8 - NORM) / 8 of an extrinsic value; where that is no whole number, which of its two neighbours is free. -/
def turboScale (norm : Nat) (up : Bool) (e : Int) : Int :=
  let x := (8 - norm : Nat) * e
  if x % 8 ≠ 0 ∧ up = true then x / 8 + 1 else x / 8

/-- What a decode runs on: the block size and interleaver, systematic, first and second parity values, the tails. -/
structure TurboIn where
  k : Nat
  perm : List Nat
  norm : Nat
  sys : List Int
  par1 : List Int
  par2 : List Int
  tail1 : List RscStep
  tail2 : List RscStep

/-- One half-iteration: a posteriori values and scaled extrinsic values. -/
def turboHalf (norm : Nat) (up : Nat → Bool) (sys par apriori : List Int) (tail : List RscStep) : List Int × List Int :=
  let steps := ((sys.zip apriori).zip par).map (fun e => ({ sys := e.1.1 + e.1.2, par := e.2 } : RscStep))
  let post := (rscPosterior (steps ++ tail)).take sys.length
  (post, (List.range sys.length).map (fun i => turboScale norm (up i) (post.getD i 0 - sys.getD i 0 - apriori.getD i 0)))

/-- A full iteration: the second half's a posteriori values in the order of the block, and its extrinsic values. -/
def TurboIn.iteration (x : TurboIn) (up : Nat → Bool) (apriori : List Int) : List Int × List Int :=
  let inter := fun (l : List Int) => x.perm.map (fun i => l.getD i 0)
  let back := fun (l : List Int) => (List.range x.k).map (fun i => l.getD ((x.perm.findIdx? (fun p => decide (p = i))).getD 0) 0)
  let h1 := turboHalf x.norm up x.sys x.par1 apriori x.tail1
  let h2 := turboHalf x.norm (fun i => up (x.k + i)) (inter x.sys) x.par2 (inter h1.2) x.tail2
  (back h2.1, back h2.2)

/-- Iterations i and on, at most `left` of them, until the check passes: how many were run, the decisions. -/
def TurboIn.iterate (x : TurboIn) (minIter : Nat) (up tie : Nat → Nat → Bool) (check : List Bool → Bool) :
    Nat → Nat → List Int → List Bool → Nat × List Bool
  | 0, i, _, bits => (i - 1, bits)
  | left + 1, i, apriori, _ =>
    let r := x.iteration (up i) apriori
    let bits := (List.range x.k).map (fun k => hardBit (tie i) k (r.1.getD k 0))
    if minIter ≤ i ∧ check bits = true then (i, bits) else x.iterate minIter up tie check left (i + 1) r.2 bits

/-- The streams of a circular buffer's values: systematic, parity, interleaved parity, each with its four tail values. -/
def turboSplit (k : Nat) (v : List Int) : List (List Int) :=
  (List.range 3).map (fun st =>
    (List.range (k + 4)).map (fun i => v.getD (((List.range v.length).find? (fun x => decide (turboAt k x = some (st, i)))).getD v.length) 0))

/-- The decoder over the values of the circular buffer, filler positions already at +127. -/
def turboDecode (k norm maxIter minIter : Nat) (check : List Bool → Bool) (v : List Int) : Nat × List Bool :=
  let d := turboSplit k v
  let at_ := fun (st i : Nat) => (d.getD st []).getD (k + i) 0
  let t := fun (a b : Int) => ({ sys := a, par := b, tail := true } : RscStep)
  let x : TurboIn :=
    { k := k, perm := qppPerm k, norm := norm, sys := (d.getD 0 []).take k, par1 := (d.getD 1 []).take k, par2 := (d.getD 2 []).take k
      tail1 := [t (at_ 0 0) (at_ 1 0), t (at_ 2 0) (at_ 0 1), t (at_ 1 1) (at_ 2 1)]
      tail2 := [t (at_ 0 2) (at_ 1 2), t (at_ 2 2) (at_ 0 3), t (at_ 1 3) (at_ 2 3)] }
  let pars := [k, norm, maxIter, minIter]
  x.iterate minIter (fun i n => Config.turboRound pars v i n) (fun i n => Config.codeTie pars v i n) check maxIter 1 (List.replicate k 0) []

end Sys2Proof.Machine
end

