-- ==== Sys2Proof/Machine/Code.lean ====
section
/-! DEFINITION. LDPC, turbo and polar jobs of the coding complex (R273 to R283, R286 to R292). -/

namespace Sys2Proof.Machine

open Sys2Proof

/-! ## Descriptor and context -/

def codeOp (w : BitVec 384) : Nat := wordFld w 0 31 28
def isDecoder (op : Nat) : Bool := decide (op = 0) || decide (op = 2)

/-- QM of R273. -/
def qmOk (op qm : Nat) : Bool := (if op < 2 then [1, 2, 4, 6, 8, 10] else [2, 4, 6, 8, 10]).contains qm

/-- An LDPC or turbo descriptor is valid. -/
def blockDescOk (w : BitVec 384) (limit : Nat) : Bool :=
  let op := codeOp w
  let dec := isDecoder op
  qmOk op (wordFld w 0 17 14) && (decide (op < 2) || decide (wordFld w 0 22 22 = 0))
  && (dec || decide (wordFld w 0 21 20 = 0)) && (decide (wordFld w 0 20 20 = 0) || decide (wordFld w 0 21 21 = 1))
  && decide (wordFld w 1 31 24 = 0)
  && (if dec then decide (bitsOf w 255 192 % 64 = 0) && decide (bitsOf w 319 256 % 8 = 0) else decide (bitsOf w 319 192 = 0))
  && decide (wordFld w 10 31 28 = 0) && decide (wordFld w 11 31 0 = 0) && (codePlan w limit).ok w

/-- A polar descriptor is valid. -/
def polarDescOk (w : BitVec 384) : Bool :=
  let a := wordFld w 1 10 0
  let ch := wordFld w 1 12 11
  let e := wordFld w 10 16 0
  decide (wordFld w 0 22 12 = 0) && decide (wordFld w 1 31 13 = 0) && decide (12 ≤ a)
  && decide (a ≤ if ch = 2 then 1706 else 140) && decide (ch ≤ 2) && decide (bitsOf w 319 192 = 0)
  && decide (1 ≤ e) && decide (e ≤ 8192) && decide (wordFld w 10 31 17 = 0) && decide (wordFld w 11 31 16 = 0)
  && (decide (ch = 0) || decide (wordFld w 11 15 0 = 0))
  && decide ((a + polarSegments ch a e - 1) / polarSegments ch a e + polarCrc ch a ≤ e / polarSegments ch a e)

/-- A trellis descriptor is valid. -/
def trellisDescOk (w : BitVec 384) : Bool :=
  let n := wordFld w 1 15 0
  let term := wordFld w 1 17 16
  let nout := wordFld w 1 21 19
  decide (wordFld w 0 22 12 = 0) && decide (wordFld w 1 31 23 = 0) && decide (1 ≤ n) && decide (n ≤ 8192)
  && (decide (term ≠ 1) || decide (6 ≤ n)) && decide (term ≤ 2) && decide (2 ≤ nout) && decide (nout ≤ 6)
  && decide (bitsOf w 255 192 = 0) && decide (bitsOf w 383 320 = 0)
  && [7, 15, 23, 31].all (fun b => decide (wordFld w 8 b b = 0)) && decide (wordFld w 9 7 7 = 0) && decide (wordFld w 9 31 15 = 0)
  && (List.range 6).all (fun k => decide (k < nout) || decide (bitsOf w (256 + 8 * k + 6) (256 + 8 * k) = 0))

/-- The descriptor is invalid (R246, R273); limit is the context's. -/
def codeInvalid (w : BitVec 384) (limit : Nat) : Bool :=
  let op := codeOp w
  decide (8 ≤ op) || decide (wordFld w 0 11 0 ≠ 0) || decide (bitsOf w 127 64 % 8 ≠ 0) || decide (bitsOf w 191 128 % 8 ≠ 0)
  || !(if op < 4 then blockDescOk w limit else if op < 6 then polarDescOk w else trellisDescOk w)

/-- A job has soft buffers. -/
def hasSoft (w : BitVec 384) : Bool := isDecoder (codeOp w) && decide (wordFld w 0 21 21 = 1)

/-- The window of a group (R286): base and bytes. -/
def State.harqWindow (s : State) (q g : Nat) : Nat × Nat :=
  let base := (s.reg64 (quadPg q 0x18 + 0x040 + 8 * g)).toNat
  (base - base % 64, s.fld (quadPg q 0x18 + 0x240 + 4 * g) 15 0 * 65536)

/-- The soft buffers of a job, and whether R286 allows them. -/
def State.softRange (s : State) (q g : Nat) (w : BitVec 384) (limit : Nat) : (Nat × Nat) × Bool :=
  let h := s.harqWindow q g
  let p := codePlan w limit
  let off := bitsOf w 255 192
  ((h.1 + off, p.c * p.sb), decide (h.2 ≠ 0) && decide (off + p.c * p.sb ≤ h.2))

/-! ## Decoding (R278, R279, R282, R286 to R288) -/

def EngJob.plan (j : EngJob) : CodePlan := codePlan j.words (j.c 1 27 0)
/-- The iteration limits of R279 and R282. -/
def EngJob.maxIter (j : EngJob) : Nat :=
  let m := j.c 0 23 20
  if j.op = 0 then (if m = 0 then 16 else m) else if m = 0 ∨ 8 < m then 8 else m
def EngJob.minIter (j : EngJob) : Nat := min (max 1 (j.c 0 19 16)) j.maxIter

/-- The soft buffer a block starts from: P_END and N_cb values. -/
def EngJob.readSoft (j : EngJob) (p : CodePlan) (r : JobRun) (b : Nat) : JobRun × Nat × List Int :=
  if j.f 0 20 20 = 1 then
    let x := r.read (j.soft.1 + b * p.sb) (64 + 64 * ((p.ncb b + 63) / 64))
    (x.1, natLE (x.2.take 4), (List.range (p.ncb b)).map (fun i => softOf (x.2.getD (64 + i) 0)))
  else (r, 0, List.replicate (p.ncb b) 0)

/-- A soft buffer as it is written back: header, values, padding. -/
def softBytes (pEnd : Nat) (v : List Int) : Bytes :=
  bytesLE 64 pEnd ++ v.map softByte ++ List.replicate ((64 - v.length % 64) % 64) 0

/-- The values of a transmission added where they belong, saturating. -/
def combine (p : CodePlan) (b : Nat) (llr : Bytes) (v : List Int) : List Int :=
  let sl := p.slots b
  (List.range llr.length).foldl (fun v t =>
    let x := p.pos b sl t
    v.set x (clampI (-127) 127 (v.getD x 0 + softOf (llr.getD t 0)))) v

/-- A block's bits pass their check: CRC24B, or the transport block's CRC where there is one block (R280). -/
def CodePlan.blockOk (p : CodePlan) (x : List Bool) : Bool := if p.c = 1 then crcOk p.tbCrc p.tbPoly x else crcOk 24 crc24B x

/-- What a decoded block answers: iterations, zero syndrome, its information bits. -/
def EngJob.decodeBlock (j : EngJob) (p : CodePlan) (b pEnd : Nat) (v : List Int) : Nat × Bool × List Bool :=
  let start := (List.range v.length).map (fun x => match p.at_ b x with | some true => (127 : Int) | some false => v.getD x 0 | none => 0)
  if p.ldpc then
    let d := ldpcDecode p.bg2 p.z (p.layers pEnd) (j.c 0 15 13) j.maxIter j.minIter start
    (d.1, d.2.1, d.2.2.take (p.info b))
  else
    let fill := p.k b - p.info b
    let d := turboDecode (p.k b) (j.c 0 15 13) j.maxIter j.minIter (fun x => p.blockOk (x.drop fill)) start
    (d.1, false, d.2.drop fill)

/-- A decode so far: the transport block's bits, blocks that failed, blocks done, iterations. -/
structure DecRun where
  run : JobRun
  src : Nat
  tb : List Bool := []
  fail : Nat := 0
  done : Nat := 0
  iters : Nat := 0

/-- The bits of a transport block from a bit on, as far as they go: whole bytes, the last one padded. -/
def EngJob.putBits (j : EngJob) (r : JobRun) (tb : List Bool) (from_ : Nat) : JobRun :=
  r.write (j.dst + from_ / 8) (packBits (tb.drop (from_ / 8 * 8)))

/-- Steps 1 to 3 of R288 for block b with its values at src: the run, P_END and the values the block is decoded from. -/
def EngJob.gather (j : EngJob) (p : CodePlan) (r : JobRun) (src b : Nat) : JobRun × Nat × List Int :=
  let s := j.readSoft p r b
  let l := s.1.read src (p.e b)
  let v := combine p b l.2 s.2.2
  let pe := max (p.pEnd b (p.slots b)) s.2.1
  (if l.1.ok && hasSoft j.words then l.1.write (j.soft.1 + b * p.sb) (softBytes pe v) else l.1, pe, v)

/-- Code block b (R288). -/
def EngJob.decode (j : EngJob) (p : CodePlan) (x : DecRun) (b : Nat) : DecRun :=
  if x.run.ok then
    let g := j.gather p x.run x.src b
    if g.1.ok then
      let w := g.1
      let d := j.decodeBlock p b g.2.1 g.2.2
      let ok := p.blockOk d.2.2
      let tb := x.tb ++ d.2.2.take (p.share b)
      let o := j.putBits w (tb.take p.a) (min p.a x.tb.length)
      let stat := 2048 + b2n (hasSoft j.words) * 1024 + b2n ok * 512 + b2n (d.2.1 && p.ldpc) * 256 + d.1
      let at_ := bitsOf j.words 319 256
      let z := if at_ = 0 then o else o.write (at_ + 4 * b) (bytesLE 4 stat)
      if z.ok then ⟨z, x.src + p.e b, tb, x.fail + b2n (!ok), x.done + 1, x.iters + d.1⟩ else { x with run := z }
    else { x with run := g.1 }
  else x

/-- The counters of a decode and DEC_FAIL (R275). -/
def State.decCount (s : State) (q cg blocks fail iters : Nat) (ok : Bool) : State :=
  let pg := pgCODE q
  let s1 := ((s.inc (pg + 0x090) 31 0 blocks).inc (pg + 0x094) 31 0 fail).inc (pg + 0x098) 31 0 iters
  if ok then s1 else s1.raiseAt pg 16 (locQuad q) (some cg) false

/-- Blocks from n on, which an abandoned job did not complete (R292): one a core had begun may have had its write-back in progress,
which completes; `busy` says so. Their entries have DONE = 0. -/
def EngJob.statRest (j : EngJob) (p : CodePlan) (busy : Nat → Bool) (x : DecRun) (n : Nat) : JobRun :=
  let at_ := bitsOf j.words 319 256
  ((List.range (p.c - n)).foldl (fun (y : JobRun × Nat) i =>
    let b := n + i
    let back := decide (i < 4) && hasSoft j.words && busy i
    let g := if back then (j.gather p y.1 y.2 b).1 else y.1
    (if at_ = 0 then g else g.write (at_ + 4 * b) (bytesLE 4 (b2n (back && g.ok) * 1024)), y.2 + p.e b)) (x.run, x.src)).1

def decodeWork (q : Nat) (j : EngJob) (n : Nat) (s : State) : State × Nat × List Nat :=
  let p := j.plan
  let x := (List.range n).foldl (j.decode p) { run := (j.begin s), src := j.src }
  let r := j.statRest p s.freeVal.getLsbD x n
  let ok := decide (x.done = p.c) && decide (x.fail = 0) && crcOk p.tbCrc p.tbPoly x.tb
  ((r.st.drawn 1).decCount q j.cg x.done x.fail x.iters ok, r.cause,
    [b2n ok * 2 ^ 24 + min x.fail 255 * 65536 + x.done, x.iters, min p.a x.tb.length, 0])

def planUnits (j : EngJob) : Nat := j.plan.c

/-! ## Encoding (R277, R281, R282) -/

/-- Blocks 0 to n - 1 of an encode. -/
def encodeWork (j : EngJob) (n : Nat) (s : State) : State × Nat × List Nat :=
  let p := j.plan
  let r := (j.begin s).read j.src ((p.a + 7) / 8)
  let m := (bitsOfBytes r.2).take p.a
  let tb := m ++ crcBits p.tbCrc p.tbPoly m
  let bits := (List.range n).flatMap (fun b => p.sent b (p.block tb b))
  let w := r.1.write j.dst (packBits bits)
  (w.st, w.cause, if w.ok then [2 ^ 24 + n, 0, bits.length, 0] else [2 ^ 24, 0, 0, 0])

/-! ## Polar (R283) -/

/-- The polar job of a descriptor. -/
def EngJob.polar (j : EngJob) : PolarJob := { ch := j.f 1 12 11, a := j.f 1 10 0, e := j.f 10 16 0, rnti := j.f 11 15 0 }
def polarUnits (j : EngJob) : Nat := j.polar.segs

/-- Segments 0 to n - 1: CRC_OK needs every segment to pass. -/
def polarDecWork (q : Nat) (j : EngJob) (n : Nat) (s : State) : State × Nat × List Nat :=
  let p := j.polar
  let r := (j.begin s).read j.src p.e
  let d := p.decode (r.2.map softOf) n
  let bits := p.payload d
  let w := r.1.write j.dst (packBits bits)
  let done := if w.ok then n else 0
  let fail := if w.ok then (d.filter (fun x => !x.2.1)).length else 0
  let ok := w.ok && decide (n = p.segs) && decide (fail = 0)
  (w.st.decCount q j.cg done fail 0 ok, w.cause,
    [b2n ok * 2 ^ 24 + fail * 65536 + done, if w.ok then (BitVec.ofInt 32 ((d.map (fun x => x.2.2)).sum)).toNat else 0,
      if w.ok then bits.length else 0, 0])

def polarEncWork (j : EngJob) (n : Nat) (s : State) : State × Nat × List Nat :=
  let p := j.polar
  let r := (j.begin s).read j.src ((p.a + 7) / 8)
  let bits := p.encode ((bitsOfBytes r.2).take p.a) n
  let w := r.1.write j.dst (packBits bits)
  (w.st, w.cause, if w.ok then [2 ^ 24 + n, 0, bits.length, 0] else [2 ^ 24, 0, 0, 0])

/-- R277 to R280, R286 to R288. -/
def execLdpcDec (q : Quad) (s : State) : Host.Outcome State Fault Refusal := .next (s.runOp q 3 0 planUnits (decodeWork q))
/-- R277, R281. -/
def execLdpcEnc (q : Quad) (s : State) : Host.Outcome State Fault Refusal := .next (s.runOp q 4 1 planUnits encodeWork)
/-- R282. -/
def execTurboDec (q : Quad) (s : State) : Host.Outcome State Fault Refusal := .next (s.runOp q 5 2 planUnits (decodeWork q))
/-- R282. -/
def execTurboEnc (q : Quad) (s : State) : Host.Outcome State Fault Refusal := .next (s.runOp q 5 3 planUnits encodeWork)
/-- R283. -/
def execPolarDec (q : Quad) (s : State) : Host.Outcome State Fault Refusal := .next (s.runOp q 6 4 polarUnits (polarDecWork q))
/-- R283. -/
def execPolarEnc (q : Quad) (s : State) : Host.Outcome State Fault Refusal := .next (s.runOp q 6 5 polarUnits polarEncWork)

end Sys2Proof.Machine
end

