-- ==== Sys2Proof/Machine/Trellis.lean ====
section
/-! DEFINITION. The trellis decoder and the convolutional encoder (R284, R285). A state's bit j - 1 is the coefficient of D^j. -/

namespace Sys2Proof.Machine

open Sys2Proof

/-- The code of a trellis job: K, outputs per stage, RSC, termination, generators. -/
structure TrellisCode where
  k : Nat
  nout : Nat
  rsc : Bool
  term : Nat
  nbits : Nat
  g : List Nat

def EngJob.code (j : EngJob) : TrellisCode :=
  { k := if j.f 1 18 18 = 1 then 7 else 5, nout := j.f 1 21 19, rsc := decide (j.f 1 22 22 = 1), term := j.f 1 17 16
    nbits := j.f 1 15 0, g := (List.range 6).map (fun i => bitsOf j.words (256 + 8 * i + 6) (256 + 8 * i)) }

/-- The parity of the bits of x under a polynomial. -/
def parityOf (x g : Nat) : Bool := decide (popCount (BitVec.ofNat 8 (x &&& g)) % 2 = 1)

/-- The feedback a state gives. -/
def TrellisCode.feedback (c : TrellisCode) (st : Nat) : Bool := c.rsc && parityOf (2 * st) (c.g.getD 0 0)

/-- The bit that enters the register for an input bit, or the input bit for one that enters it. -/
def TrellisCode.enter (c : TrellisCode) (st : Nat) (u : Bool) : Bool := u ^^ c.feedback st

/-- The register: bit 0 the bit that enters, then the state. -/
def TrellisCode.register (c : TrellisCode) (st : Nat) (u : Bool) : Nat := b2n (c.enter st u) + 2 * st

def TrellisCode.next (c : TrellisCode) (st : Nat) (u : Bool) : Nat := c.register st u % 2 ^ (c.k - 1)

/-- The outputs of a stage. -/
def TrellisCode.outs (c : TrellisCode) (st : Nat) (u : Bool) : List Bool :=
  (List.range c.nout).map (fun i => if c.rsc && decide (i = 0) then u else parityOf (c.register st u) (c.g.getD i 0))

/-- S. -/
def TrellisCode.stages (c : TrellisCode) : Nat := if c.term = 0 then c.nbits + c.k - 1 else c.nbits

/-- Encoding from a state, one stage for each input bit. -/
def TrellisCode.run (c : TrellisCode) : Nat → List Bool → List Bool × Nat
  | st, [] => ([], st)
  | st, u :: us =>
    let r := c.run (c.next st u) us
    (c.outs st u ++ r.1, r.2)

/-- The bits that drive the register to zero: those that leave it empty at each stage. -/
def TrellisCode.tail (c : TrellisCode) : Nat → Nat → List Bool
  | 0, _ => []
  | n + 1, st =>
    let u := c.feedback st
    c.outs st u ++ c.tail n (c.next st u)

/-- The register of tail-biting: the last K - 1 input bits, the last one most recent. -/
def TrellisCode.biteState (c : TrellisCode) (bits : List Bool) : Nat :=
  (bits.drop (bits.length - (c.k - 1))).foldl (fun st u => (b2n u + 2 * st) % 2 ^ (c.k - 1)) 0

/-- The coded sequence of R285. -/
def TrellisCode.encode (c : TrellisCode) (bits : List Bool) : List Bool :=
  let r := c.run (if c.term = 1 then c.biteState bits else 0) bits
  if c.term = 0 then r.1 ++ c.tail (c.k - 1) r.2 else r.1

/-! ## The Viterbi decoder (R284) -/

/-- A path: its metric and its bits, last first; none where no path has reached the state. -/
abbrev Path := Option (Int × List Bool)

/-- A soft input of six bits. -/
def trellisSoft (b : W8) : Int := clampI (-31) 31 (softOf b)

/-- The metric of a branch. -/
def branch (outs : List Bool) (v : List Int) : Int :=
  ((outs.zip v).map (fun x => if x.1 then - x.2 else x.2)).sum

/-- The path into state n from a predecessor. -/
def TrellisCode.extend (c : TrellisCode) (v : List Int) (ps : List Path) (n pred : Nat) : Path :=
  match ps.getD pred none with
  | none => none
  | some p =>
    let u := decide (n % 2 = 1) ^^ c.feedback pred
    some (p.1 + branch (c.outs pred u) v, u :: p.2)

/-- The better of two paths, the first on a tie. -/
def better : Path → Path → Path
  | none, b => b
  | a, none => a
  | some a, some b => if a.1 < b.1 then some b else some a

/-- A stage: the lower predecessor wins a tie. -/
def TrellisCode.stage (c : TrellisCode) (ps : List Path) (v : List Int) : List Path :=
  (List.range (2 ^ (c.k - 1))).map (fun n => better (c.extend v ps n (n / 2)) (c.extend v ps n (n / 2 + 2 ^ (c.k - 2))))

/-- The inputs of each stage. -/
def TrellisCode.split (c : TrellisCode) (v : List Int) : List (List Int) :=
  (List.range c.stages).map (fun i => (v.drop (c.nout * i)).take c.nout)

/-- The metric and bits of the path traced back. -/
def TrellisCode.decode (c : TrellisCode) (v : List Int) : Int × List Bool :=
  let n := 2 ^ (c.k - 1)
  let vs := c.split v
  let start : List Path := if c.term = 1 then List.replicate n (some (0, [])) else some (0, []) :: List.replicate (n - 1) none
  let one := vs.foldl c.stage start
  let fin := if c.term = 1 then vs.foldl c.stage (one.map (fun p => p.map (fun x => (x.1, ([] : List Bool))))) else one
  match (if c.term = 0 then fin.getD 0 none else fin.foldl better none) with
  | some p => (p.1, p.2.reverse.take c.nbits)
  | none => (0, [])

/-- Nonzero inputs whose sign disagrees with the coded bits. -/
def errCount (v : List Int) (bits : List Bool) : Nat :=
  ((v.zip bits).filter (fun x => decide (x.1 ≠ 0) && decide (decide (x.1 < 0) ≠ x.2))).length

def trellisDecWork (q : Nat) (j : EngJob) (n : Nat) (s : State) : State × Nat × List Nat :=
  let c := j.code
  let r := (j.begin s).read j.src (c.nout * c.stages)
  let v := r.2.map trellisSoft
  let d := c.decode v
  let w := if n = 1 then r.1.write j.dst (packBits d.2) else r.1
  if w.ok ∧ n = 1 then
    (w.st.decCount q j.cg 1 0 0 true, 0, [2 ^ 24 + 1, (BitVec.ofInt 32 d.1).toNat, c.nbits, errCount v (c.encode d.2)])
  else (w.st, w.cause, [2 ^ 24, 0, 0, 0])

def convEncWork (j : EngJob) (n : Nat) (s : State) : State × Nat × List Nat :=
  let c := j.code
  let r := (j.begin s).read j.src ((c.nbits + 7) / 8)
  let x := c.encode ((bitsOfBytes r.2).take c.nbits)
  let w := if n = 1 then r.1.write j.dst (packBits x) else r.1
  (w.st, w.cause, if w.ok ∧ n = 1 then [2 ^ 24 + 1, 0, x.length, 0] else [2 ^ 24, 0, 0, 0])

/-- One codeword. -/
def oneUnit (_ : EngJob) : Nat := 1

/-- R284. -/
def execTrellisDec (q : Quad) (s : State) : Host.Outcome State Fault Refusal := .next (s.runOp q 7 6 oneUnit (trellisDecWork q))
/-- R285. -/
def execConvEnc (q : Quad) (s : State) : Host.Outcome State Fault Refusal := .next (s.runOp q 7 7 oneUnit convEncWork)

end Sys2Proof.Machine
end

