-- ==== Sys2Proof/Machine/Trig.lean ====
section
/-! DEFINITION. Fixed-point cosines and sines, and results the spec bounds around an exact value (R254, R257). -/

namespace Sys2Proof.Machine

open Sys2Proof

/-- 2 pi in units of 2^-128. -/
def twoPi : Nat := 2138057168129933495719360746323741566601

/-- One in units of 2^-128. -/
def unity : Int := 2 ^ 128

/-- The terms x^i / i! of the exponential series, in units of 2^-128, with alternating signs: cosine and sine of x. -/
def cosSinSum (x : Int) : Nat → Nat → Int → Int × Int → Int × Int
  | 0, _, _, a => a
  | n + 1, i, t, a =>
    let b := match i % 4 with | 0 => (a.1 + t, a.2) | 1 => (a.1, a.2 + t) | 2 => (a.1 - t, a.2) | _ => (a.1, a.2 - t)
    cosSinSum x n (i + 1) (t * x / (unity * (i + 1))) b

/-- Cosine and sine of 2 pi i / m in units of 2^-128, each within 2^8 of them: the quarter turns exactly, the rest by the series. -/
def unitRoot (i : Int) (m : Nat) : Int × Int :=
  let k := 4 * (i % m).toNat
  let w := if k % m = 0 then (unity, 0) else cosSinSum ((twoPi * (k % m) / (4 * m) : Nat) : Int) 70 0 unity (0, 0)
  match k / m with | 0 => w | 1 => (- w.2, w.1) | 2 => (- w.1, - w.2) | _ => (w.2, - w.1)

/-- The sum of samples, each turned by the angle of its index, in units of 2^-128. -/
def phaseSum (xs : List (Int × Int)) (ix : List Int) (m : Nat) : Int × Int :=
  (xs.zip ix).foldl (fun a p =>
    let w := unitRoot p.2 m
    (a.1 + p.1.1 * w.1 - p.1.2 * w.2, a.2 + p.1.1 * w.2 + p.1.2 * w.1)) (0, 0)

/-- The error a fixed-point sum may carry: 4,096 samples of 16 bits, roots within 2^8. -/
def slack : Int := 2 ^ 40

/-- A result within tol of (v + half) / 2^bits rounded down: u says which. v is known within err, and a value that close below a
step counts as on it. -/
def nearby (v : Int) (bits : Nat) (half err : Int) (tol u : Nat) : Int :=
  (v + half + err) / 2 ^ bits + ((u % (2 * tol + 1) : Nat) : Int) - tol

end Sys2Proof.Machine
end

