-- ==== Sys2Proof/Machine/Abd.lean ====
section
/-! DEFINITION. The access-burst detector (R295 to R304). -/

namespace Sys2Proof.Machine

open Sys2Proof

/-! ## Descriptor and context -/

def EngJob.nAnt (j : EngJob) : Nat := j.f 0 22 17 + 1
def EngJob.count (j : EngJob) : Nat := j.f 0 15 0
def EngJob.maxRec (j : EngJob) : Nat := j.f 1 15 0
def EngJob.prachL (j : EngJob) : Nat := if j.c 0 23 23 = 1 then 839 else 139
def EngJob.nCs (j : EngJob) : Nat := j.c 1 8 0
def EngJob.thresh (j : EngJob) : Int := (BitVec.ofNat 12 (j.c 1 31 20)).toInt
def EngJob.capMargin (j : EngJob) : Int := (j.c 1 19 12 : Nat)
def EngJob.tsc (j : EngJob) : Nat := j.c 0 22 21

/-- The descriptor is invalid (R246, R296). -/
def abdInvalid (w : BitVec 384) : Bool :=
  let op := wordFld w 0 31 28
  decide (2 ≤ op) || decide (wordFld w 0 16 16 ≠ 0) || (decide (op = 0) && decide (wordFld w 0 23 23 ≠ 0))
  || decide (wordFld w 0 15 0 = 0) || decide (wordFld w 1 15 0 = 0) || (decide (op = 1) && decide (wordFld w 1 31 16 ≠ 0))
  || (decide (op = 1) && decide (wordFld w 7 31 0 ≠ 0)) || decide (bitsOf w 383 256 ≠ 0)
  || decide (bitsOf w 127 64 % 8 ≠ 0) || decide (bitsOf w 191 128 % 8 ≠ 0) || decide (wordFld w 6 31 0 % 8 ≠ 0)
  || decide (wordFld w 7 31 0 % 8 ≠ 0)

/-- The context checks of R295. -/
def abdCtxOk (j : EngJob) : Bool :=
  decide (j.c 0 30 30 = j.op) && decide (j.tsc ≠ 3) && decide (j.c 0 9 0 ≤ j.prachL - 2) && decide (j.nCs ≤ j.prachL)

/-! ## Metrics (R298 to R300) -/

/-- 160 log10 (num / den) is at least m - 1/2. -/
def dbAtLeast (num den : Nat) (m : Int) : Bool :=
  decide (den ^ 320 * 10 ^ (2 * m - 1).toNat ≤ num ^ 320 * 10 ^ (1 - 2 * m).toNat)

/-- 160 log10 (num / den), rounded: 16 times the value in dB. -/
def logDb (num den : Nat) : Int :=
  (List.range 14).foldl (fun m i => if dbAtLeast num den (m + 2 ^ (13 - i)) then m + 2 ^ (13 - i) else m) (-8192)

/-- A value within 1 of another. -/
def withinOne (num den : Nat) (x : Int) : Int := x + ((Config.metricUlp num den x % 3 : Nat) : Int) - 1

/-- M of R298. -/
def metric (num den : Nat) : Int := if num = 0 then -2048 else clampI (-2048) 2047 (withinOne num den (logDb num den))

/-- NOISE of a noise power num / den. -/
def noiseField (num den : Nat) : Nat :=
  if num = 0 then Config.noiseOfZero.toNat else (BitVec.ofInt 16 (withinOne num den (logDb num den))).toNat

/-- X_u[k] in units of 2^-128. -/
def zcBin (l u k : Nat) : Int × Int :=
  (List.range l).foldl (fun a n =>
    let w := unitRoot (-((u * n * (n + 1) + 2 * k * n : Nat) : Int)) (2 * l)
    (a.1 + w.1, a.2 + w.2)) (0, 0)

/-- P[d] of R298 in units of 2^-256. -/
def prachPower (l u : Nat) (ys : List (List W32)) (d : Nat) : Nat :=
  (ys.map (fun y =>
    let t := (List.range l).foldl (fun a k =>
      let s := cplx (y.getD k 0)
      let x := zcBin l u k
      let w := unitRoot (k * d) l
      let p := ((s.1 * x.1 + s.2 * x.2), (s.2 * x.1 - s.1 * x.2))
      (a.1 + (p.1 * w.1 - p.2 * w.2) / unity, a.2 + (p.1 * w.2 + p.2 * w.1) / unity)) ((0, 0) : Int × Int)
    (t.1 * t.1 + t.2 * t.2).toNat)).sum

/-! ## The record machine (R301 to R304) -/

/-- A job so far: its run, the open detection's p and q, records produced, written and dropped by kind, NOISE. -/
structure AbdRun where
  run : JobRun
  det : Option (Nat × Int) := none
  n : Nat := 0
  detected : Nat := 0
  preempted : Nat := 0
  crcFail : Nat := 0
  dropped : Nat := 0
  noise : Nat := 0

/-- A record: STATUS, PREAMBLE, METRIC, POSITION, word 2. One whose write fails is not written, and the job goes no further. -/
def EngJob.putRec (j : EngJob) (x : AbdRun) (status preamble : Nat) (m : Int) (pos w2 : Nat) : AbdRun :=
  if x.run.ok = false then x
  else if x.n < j.maxRec then
    let w0 := status * 2 ^ 28 + j.op * 2 ^ 27 + preamble * 2 ^ 21 + (BitVec.ofInt 16 m).toNat
    let w := x.run.write (j.dst + 16 * x.n) (bytesLE 4 w0 ++ bytesLE 4 pos ++ bytesLE 4 w2 ++ bytesLE 4 0)
    if w.ok then
      { x with run := w, n := x.n + 1, detected := x.detected + b2n (decide (status = 0))
               preempted := x.preempted + b2n (decide (status = 1)), crcFail := x.crcFail + b2n (decide (status = 2)) }
    else { x with run := w }
  else { x with n := x.n + 1, dropped := x.dropped + 1 }

/-- A candidate at position x with metric m (R301), the close apart: at gives the POSITION word of a position. -/
def EngJob.candidate (j : EngJob) (r : AbdRun) (preamble : Nat) (at_ : Nat → Nat) (x : Nat) (m : Int) : AbdRun :=
  match r.det with
  | none => if j.thresh ≤ m then { r with det := some (x, m) } else r
  | some (p, q) =>
    if 0 < j.capMargin ∧ q + j.capMargin ≤ m then
      { j.putRec r 1 preamble q (at_ p) ((BitVec.ofInt 16 m).toNat * 65536) with det := some (x, m) }
    else if q < m then { r with det := some (x, m) }
    else r

/-! ## PRACH -/

def EngJob.shifts (j : EngJob) : Nat := if j.nCs = 0 then 1 else j.prachL / j.nCs
def EngJob.nPre (j : EngJob) : Nat := j.c 0 20 15 + 1
def EngJob.roots (j : EngJob) : Nat := (j.nPre + j.shifts - 1) / j.shifts
/-- Bytes of an antenna block and of an occasion (R297). -/
def EngJob.antBlock (j : EngJob) (n : Nat) : Nat := if j.f 6 31 0 = 0 then (4 * n + 7) / 8 * 8 else j.f 6 31 0
def EngJob.occBlock (j : EngJob) : Nat :=
  if j.f 7 31 0 = 0 then (j.nAnt - 1) * j.antBlock j.prachL + (4 * j.prachL + 7) / 8 * 8 else j.f 7 31 0

/-- Antennas' samples read, n of each. -/
def EngJob.readAnts (j : EngJob) (r : JobRun) (base n : Nat) : JobRun × List (List W32) :=
  (List.range j.nAnt).foldl (fun x a =>
    let y := x.1.read (base + a * j.antBlock n) (4 * n)
    (y.1, x.2 ++ [wordsOf y.2])) (r, [])

/-- The window of shift v of a root: opens IDLE, closes at its end. -/
def EngJob.window (j : EngJob) (occ root v : Nat) (ms : List Int) (x : AbdRun) : AbdRun :=
  let l := j.prachL
  let i := root * j.shifts + v
  let at_ := fun (d : Nat) => (j.f 1 31 16 + occ) % 65536 * 65536 + d
  let r := (List.range (if j.nCs = 0 then l else j.nCs)).foldl (fun r d =>
    j.candidate r i at_ d (ms.getD ((l - v * j.nCs + d) % l) 0)) { x with det := none }
  match r.det with
  | none => r
  | some (p, q) => { j.putRec r 0 i q (at_ p) 0 with det := none }

/-- One occasion. -/
def EngJob.occasion (j : EngJob) (x : AbdRun) (occ : Nat) : AbdRun :=
  let y := j.readAnts x.run (j.src + occ * j.occBlock) j.prachL
  if y.1.ok then
    (List.range j.roots).foldl (fun x root =>
      let u := prachRoot j.prachL ((j.c 0 9 0 + root) % (j.prachL - 1))
      let ps := (List.range j.prachL).map (prachPower j.prachL u y.2)
      let ms := ps.map (fun p => metric (p * j.prachL) ps.sum)
      let vs := (List.range j.shifts).filter (fun v => decide (root * j.shifts + v < j.nPre))
      vs.foldl (fun x v => j.window occ root v ms x) { x with noise := noiseField ps.sum (j.prachL * 2 ^ 256) }) { x with run := y.1 }
  else { x with run := y.1 }

/-- What a job leaves on the page: counters, REC_DROP, DETECT. -/
def State.abdCount (s : State) (q cg : Nat) (x : AbdRun) : State :=
  let pg := pgABD q
  let s1 := (((s.inc (pg + 0x090) 31 0 x.detected).inc (pg + 0x094) 31 0 x.preempted).inc (pg + 0x098) 31 0 x.crcFail).inc (pg + 0x09C) 31 0 x.dropped
  let s2 := if x.dropped = 0 then s1 else s1.raiseAt pg 16 (locQuad q) (some cg) false
  if x.detected = 0 then s2 else s2.irqBit pg 0

/-- The result words of a job. -/
def AbdRun.words (x : AbdRun) (posEnd : Nat) : List Nat :=
  [x.n - x.dropped, min x.dropped 0xFFFF * 65536 + x.detected, x.noise, posEnd]

def prachWork (q : Nat) (j : EngJob) (n : Nat) (s : State) : State × Nat × List Nat :=
  let x := (List.range n).foldl (fun x o => if x.run.ok then j.occasion x o else x) { run := (j.begin s) }
  (x.run.st.abdCount q j.cg x, x.run.cause, x.words 0)

/-! ## GSM -/

def State.gsmSt (s : State) (q c : Nat) : GsmSt := tabGet (fun _ => {}) s.gsm (16 * q + c)
def State.setGsm (s : State) (q c : Nat) (x : GsmSt) : State := { s with gsm := tabSet (fun _ => {}) s.gsm (16 * q + c) x }

/-- A sample at a position derotated by (-j)^(position mod 4). -/
def derotate (x : W32) (pos : Nat) : Int × Int :=
  let c := cplx x
  match pos % 4 with | 0 => c | 1 => (c.2, - c.1) | 2 => (- c.1, - c.2) | _ => (- c.2, c.1)

/-- c_a of the window that starts at index i of an antenna's samples, index 80 being position pos. -/
def gsmCorr (tsc pos : Nat) (full : List W32) (i : Nat) : Int × Int :=
  (List.range 41).foldl (fun a k =>
    let r := derotate (full.getD (i + k) 0) (pos + 2 ^ 32 + i + k - 80)
    if gsmSync tsc k then (a.1 - r.1, a.2 - r.2) else (a.1 + r.1, a.2 + r.2)) (0, 0)

def sqMag (x : Int × Int) : Nat := (x.1 * x.1 + x.2 * x.2).toNat

/-- The code of a GSM access burst (R302). -/
def gsmCode : TrellisCode := { k := 5, nout := 2, rsc := false, term := 0, nbits := 14, g := [0x19, 0x1B] }

/-- The combined value of each coded bit of a burst that starts at index i: over the antennas, the part of a derotated sample in the
direction of the channel estimate. Derotated symbols carry the bits before differential encoding. -/
def gsmCombine (tsc pos : Nat) (fulls : List (List W32)) (i : Nat) : List Int :=
  (List.range 36).map (fun k =>
    (fulls.map (fun f =>
      let c := gsmCorr tsc pos f i
      let r := derotate (f.getD (i + 41 + k) 0) (pos + 2 ^ 32 + i + 41 + k - 80)
      c.1 * r.1 + c.2 * r.2)).sum)

/-- The parity remainder and the RA bits of the 14 information bits (TS 45.003 clause 4.6): eight data bits, d(0) the least
significant of RA, and six parity bits with BSIC added, whose division by D^6 + D^5 + D^3 + D^2 + D + 1 leaves all ones. -/
def rachParity (bits : List Bool) (bsic : Nat) : Nat × Nat :=
  let l := (List.range 14).map (fun i => bits.getD i false ^^ (decide (8 ≤ i) && bsic.testBit (13 - i)))
  (crcRem 6 0x2F l ^^^ 0x3F, natOfBits ((l.take 8).reverse))

/-- The close of a detection with peak at index i of the samples (R302). -/
def EngJob.close (j : EngJob) (pos : Nat) (fulls : List (List W32)) (r : AbdRun) (p : Nat) (m : Int) (i : Nat) : AbdRun :=
  let soft := Config.gsmSoft (gsmCombine j.tsc pos fulls i)
  let d := gsmCode.decode ((List.range 36).map (fun k => trellisSoft (soft.getD k 0)))
  let y := rachParity d.2 (j.c 2 5 0)
  { j.putRec r (if y.1 = 0 then 0 else 2) 0 m p (y.1 * 256 + y.2) with det := none }

/-- Candidate number c of a job that starts at position pos: its position is pos - 40 + c. -/
def EngJob.gsmCandidate (j : EngJob) (pos : Nat) (fulls : List (List W32)) (noise : Nat) (r : AbdRun) (c : Nat) : AbdRun :=
  let t := (pos + 2 ^ 32 - 40 + c) % 2 ^ 32
  let m := metric ((fulls.map (fun f => sqMag (gsmCorr j.tsc pos f (40 + c)))).sum * j.count) (41 * noise)
  let r1 := match r.det with
    | some (p, q) =>
      let back := (t + 2 ^ 32 - p) % 2 ^ 32
      if 40 ≤ back then j.close pos fulls r p q (40 + c - back) else r
    | none => r
  j.candidate r1 0 (fun p => p) t m

/-- CUT for an open detection. -/
def EngJob.cut (j : EngJob) (x : AbdRun) : AbdRun :=
  match x.det with
  | none => x
  | some (p, q) => { j.putRec x 3 0 q p 0 with det := none }

def gsmUnits (j : EngJob) : Nat := (j.count + 63) / 64

/-- A context as RESTART leaves it for a job's antennas (R303). -/
def EngJob.gsmFresh (j : EngJob) : GsmSt := { nant := j.nAnt, hist := List.replicate j.nAnt (List.replicate 80 0) }

/-- A restart, a changed antenna count and an abandonment cut the open detection; the first two before the job reads. -/
def gsmWork (q : Nat) (j : EngJob) (n : Nat) (s : State) : State × Nat × List Nat :=
  let c := j.f 0 27 24
  let g0 := s.gsmSt q c
  let fresh := decide (j.f 0 23 23 = 1) || decide (g0.nant ≠ j.nAnt)
  let open_ : AbdRun := { run := j.begin s, det := g0.det.map (fun d => (d.1.toNat, d.2)) }
  let x0 := if fresh then j.cut open_ else open_
  let g := if fresh then j.gsmFresh else g0
  let y := j.readAnts x0.run j.src j.count
  if y.1.ok then
    let pos := g.pos.toNat
    let hist := fun (a : Nat) => (List.range 80).map (fun i => (g.hist.getD a []).getD (79 - i) 0)
    let fulls := (y.2.zip (List.range j.nAnt)).map (fun e => hist e.2 ++ e.1)
    let noise := ((y.2.map (fun l => (l.map (fun v => sqMag (cplx v))).sum)).sum)
    let k := min j.count (64 * n)
    let x2 := (List.range k).foldl (fun r i => if r.run.ok then j.gsmCandidate pos fulls noise r i else r)
      { x0 with run := y.1, noise := noiseField (41 * noise) j.count }
    let x3 := if j.abandoned then j.cut x2 else x2
    let g' : GsmSt :=
      if j.abandoned then j.gsmFresh
      else { pos := BitVec.ofNat 32 (pos + j.count), nant := j.nAnt
             hist := fulls.map (fun f => (f.drop (f.length - 80)).reverse), det := x3.det.map (fun d => (BitVec.ofNat 32 d.1, d.2)) }
    ((x3.run.st.setGsm q c g').abdCount q j.cg x3, x3.run.cause, x3.words g'.pos.toNat)
  else ((y.1.st.setGsm q c g).abdCount q j.cg x0, y.1.cause, x0.words g.pos.toNat)

/-- A GSM job abandoned after its work and before its finish report: its open detection is cut and its context left as RESTART leaves
it (R301, R303). -/
def State.gsmLate (s : State) (q : Nat) (j : EngJob) : State × EngJob :=
  if j.op = 1 ∧ j.cause = 0 ∧ j.ran = true ∧ j.abandoned = false ∧ s.jobAbandoned j = true then
    let c := j.f 0 27 24
    let drop := j.res.getD 1 0 / 65536
    let x0 : AbdRun := { run := j.begin s, det := (s.gsmSt q c).det.map (fun d => (d.1.toNat, d.2)), n := j.res.getD 0 0 + drop, dropped := drop
                         noise := j.res.getD 2 0 }
    let x := j.cut x0
    let s1 := (x.run.st.setGsm q c j.gsmFresh).abdCount q j.cg { x with dropped := x.dropped - drop }
    (s1, { j with cause := x.run.cause, res := { x with detected := j.res.getD 1 0 % 65536 }.words 0 })
  else (s, j)

/-- R298, R301, R304. -/
def execPrach (q : Quad) (s : State) : Host.Outcome State Fault Refusal := .next (s.runOp q 8 0 (fun j => j.count) (prachWork q))
/-- R299, R301 to R304. -/
def execGsm (q : Quad) (s : State) : Host.Outcome State Fault Refusal := .next (s.runOp q 8 1 gsmUnits (gsmWork q))

end Sys2Proof.Machine
end

