-- ==== Sys2Proof/Machine/Insn.lean ====
section
/-! DEFINITION. The words of a bundle (R79, R105 to R108, R130, R131): the slot of a major opcode, the fields of each format, and the
command a half of a bundle spells. R105 names classes whose further encoding no rule gives; a word of such a class spells no command
here, and only its slot is checked. -/

namespace Sys2Proof.Machine

open Sys2Proof

/-- The slots that accept a class (R79). -/
inductive Side where
  | both | x | y | none
deriving DecidableEq, Repr

/-- The slot of a major opcode (R105); the coprocessor's are reserved while COP_EN is 0. -/
def majorSide (cop : Bool) (m : Nat) : Side :=
  if m = 0 then .both
  else if 4 ≤ m ∧ m ≤ 17 then .x
  else if 20 ≤ m ∧ m ≤ 23 then .x
  else if 32 ≤ m ∧ m ≤ 34 then .y
  else if 36 ≤ m ∧ m ≤ 56 then .y
  else if m = 58 ∨ m = 59 then .y
  else if 60 ≤ m then (if cop then .x else .none)
  else .none

/-- A slot accepts a class. -/
def Side.accepts (c : Side) (y : Bool) : Bool :=
  match c with | .both => true | .x => !y | .y => y | .none => false

/-- What a half of a bundle is: a word that raises ILLEGAL_INSN, an instruction, or a word of a class whose encoding is not given. -/
inductive Half where
  | illegal
  | insn (i : Instr)
  | unlisted

/-- An instruction whose reserved fields are 0, else an illegal word. -/
def Half.when (ok : Bool) (i : Instr) : Half := if ok then .insn i else .illegal

/-- The field of n bits from bit lo up, as an operand. -/
def opField (w : W32) (lo n : Nat) : BitVec n := w.extractLsb' lo n

/-- The MAC format: CMAC, CMAC2, CMACB, CMACB2 (R83, R106). -/
def readMac (d : Clu) (t : Tix) (y : Bool) (m : Nat) (w : W32) : Half :=
  let ad := opField w 23 3
  let sfx := opField w 21 2
  let va := opField w 16 5
  let vb := opField w 11 5
  let elem := opField w 7 4
  let low := decide (bitsOf w 6 0 = 0)
  match m with
  | 8 => .when (low && decide (elem = 0)) (.cmac d t y ad sfx va vb)
  | 9 => .when (low && decide (elem = 0) && decide (va ≠ 31) && decide (vb ≠ 31)) (.cmac2 d t y ad sfx va vb)
  | 10 => .when low (.cmacb d t y ad sfx va vb elem)
  | _ => .when (low && decide (va ≠ 31) && !bit w 7) (.cmacb2 d t y ad sfx va vb elem)

/-- The ACC format (R106, R107). -/
def readAcc (d : Clu) (t : Tix) (y : Bool) (m : Nat) (w : W32) : Half :=
  let ad := opField w 23 3
  let src := opField w 20 3
  let k := opField w 11 4
  let fn := bitsOf w 10 0
  let kOk := decide (k ≠ 0) && decide (k.toNat ≤ 8)
  match m with
  | 12 => .when (decide (fn = 0)) (.aclr d t y ad)
  | 13 => if fn = 0 then .when kOk (.ascale d t y ad k) else .when (decide (fn = 1) && kOk) (.ascaleT d t y ad k)
  | 14 => .when (decide (fn = 0)) (.aadd d t y ad src)
  | _ => if fn = 0 then .insn (.amov d t y ad src) else .when (decide (fn = 1)) (.amovVector d t y ad (opField w 15 5) k)

/-- The EXT format. -/
def readExt (d : Clu) (t : Tix) (y : Bool) (m : Nat) (w : W32) : Half :=
  let low := decide (bitsOf w 12 0 = 0)
  if m = 16 then .when low (.ext d t y (opField w 21 5) (opField w 18 3) (opField w 13 5))
  else .when low (.extT d t y (opField w 21 5) (opField w 18 3) (opField w 13 5))

/-- The MEM format: VLD, VST, VLDS (R90, R106). -/
def readMem (d : Clu) (t : Tix) (y : Bool) (m : Nat) (w : W32) : Half :=
  let v := opField w 21 5
  let pn := opField w 18 3
  let am := opField w 16 2
  let imm := opField w 0 16
  match m with
  | 32 => .insn (.vld d t y v pn am imm)
  | 33 => .insn (.vst d t y v pn am imm)
  | _ => .when (decide (v ≠ 31)) (.vlds d t y v pn am imm)

/-- Control flow: the BR and REP formats and END (R91, R96, R106, R108). -/
def readFlow (d : Clu) (t : Tix) (y : Bool) (m : Nat) (w : W32) : Half :=
  match m with
  | 52 => .when (decide (bitsOf w 25 22 ≤ 6)) (.branch d t y (opField w 22 4) (opField w 17 5) (opField w 0 17) {})
  | 53 =>
    if bitsOf w 25 22 = 0 then .when (decide (bitsOf w 21 17 = 0)) (.call d t y (opField w 0 17) {})
    else .when (decide (bitsOf w 25 22 = 1) && decide (bitsOf w 21 0 = 0)) (.ret d t y {})
  | 54 =>
    .when (decide (bitsOf w 12 0 ≠ 0) && (!bit w 25 || decide (bitsOf w 24 18 = 0)))
      (.repeatLoop d t y (bit w 25) (opField w 13 12) (opField w 13 5) (opField w 0 13))
  | _ => .when (decide (bitsOf w 25 0 = 0)) (.endTask d t y)

/-- The DMA format: DMAQ (R100, R106). -/
def readDma (d : Clu) (t : Tix) (y : Bool) (w : W32) : Half :=
  let ok := decide (bitsOf w 7 0 = 0) && !bit w 16
  if bit w 25 then .when ok (.dmaqOut d t y (opField w 21 3) (opField w 16 5) (opField w 11 5) (opField w 8 3) (bit w 24))
  else .when ok (.dmaqIn d t y (opField w 21 3) (opField w 16 5) (opField w 11 5) (opField w 8 3) (bit w 24))

/-- The coprocessor's moves (R131). -/
def readMove (d : Clu) (t : Tix) (y : Bool) (w : W32) : Half :=
  let low := decide (bitsOf w 7 0 = 0)
  if bit w 25 then .when (low && decide (bitsOf w 13 8 = 0)) (.mvV d t y (opField w 16 5) (opField w 21 4) (opField w 14 2))
  else .when low (.mvM d t y (opField w 21 4) (opField w 16 5) (opField w 14 2) (bit w 13) (opField w 8 5))

/-- The coprocessor's operations (R130, R131). -/
def readCop (d : Clu) (t : Tix) (y : Bool) (m : Nat) (w : W32) : Half :=
  let md := opField w 22 4
  let ma := opField w 18 4
  let mb := opField w 14 4
  let n := opField w 11 3
  let low := decide (bitsOf w 3 0 = 0)
  let noMod := low && decide (bitsOf w 6 4 = 0)
  let noB := noMod && decide (mb = 0)
  let twoMod := low && !bit w 6
  match m, bitsOf w 10 7 with
  | 61, 0 => .when twoMod (.mmul d t y n md ma mb (bit w 4) (bit w 5))
  | 61, 1 => .when noMod (.madd d t y n md ma mb)
  | 61, 2 => .when noMod (.msub d t y n md ma mb)
  | 61, 3 => .when noB (.mherm d t y n md ma)
  | 62, 0 => .when noB (.mchol d t y n md ma)
  | 62, 1 => .when twoMod (.mtrs d t y n md ma mb (bit w 4) (bit w 5))
  | 62, 2 => .when (noMod && decide (md ≠ mb)) (.mqr d t y n md mb ma)
  | 62, 3 => .when noB (.minv d t y n md ma)
  | _, _ => .illegal

/-- MSTAT and MWAIT (R131). -/
def readWait (d : Clu) (t : Tix) (y : Bool) (w : W32) : Half :=
  let rest := decide (bitsOf w 20 11 = 0) && decide (bitsOf w 6 0 = 0)
  match bitsOf w 10 7 with
  | 0 => .when rest (.mstat d t y (opField w 21 5))
  | 1 => .when (rest && decide (bitsOf w 25 21 = 0)) (.mwait d t y)
  | _ => .illegal

/-- What the word in a slot of a bundle is (R79, R105, R106). -/
def readHalf (cop : Bool) (d : Clu) (t : Tix) (y : Bool) (w : W32) : Half :=
  let m := bitsOf w 31 26
  if (majorSide cop m).accepts y = false then .illegal
  else if m = 0 then .when (decide (w = 0)) (.nop d t y)
  else if 8 ≤ m ∧ m ≤ 11 then readMac d t y m w
  else if 12 ≤ m ∧ m ≤ 15 then readAcc d t y m w
  else if m = 16 ∨ m = 17 then readExt d t y m w
  else if 32 ≤ m ∧ m ≤ 34 then readMem d t y m w
  else if 52 ≤ m ∧ m ≤ 55 then readFlow d t y m w
  else if m = 58 then readDma d t y w
  else if m = 60 then readMove d t y w
  else if m = 61 ∨ m = 62 then readCop d t y m w
  else if m = 63 then readWait d t y w
  else .unlisted

/-- A word raises ILLEGAL_INSN in its slot. -/
def illegalHalf (cop y : Bool) (w : W32) : Bool := match readHalf cop 0 0 y w with | .illegal => true | _ => false

/-- A bundle holds such a word: slot X is [31:0], slot Y [63:32] (R79). -/
def illegalBundle (cop : Bool) (b : W64) : Bool := illegalHalf cop false (b.setWidth 32) || illegalHalf cop true (b.extractLsb' 32 32)

end Sys2Proof.Machine
end

