-- ==== Sys2Proof/Machine/VaneOps.lean ====
section
/-! DEFINITION. How a tile executes a bundle (R79 to R82), its registers and lanes (R77, R78, R83 to R86), addressing (R87 to R90)
and control flow (R91 to R93). A bundle is issued as one or two commands: the instruction of slot X acts and leaves a copy of the
registers behind, from which the instruction of slot Y reads its operands and to which a fault of slot Y returns (R80, R104). A slot
for which no command comes holds a NOP. -/

namespace Sys2Proof.Machine

open Sys2Proof

/-! ## Registers -/

def TileRegs.getS (r : TileRegs) (n : Nat) : W32 := tabGet (fun _ => 0) r.s n
def TileRegs.setS (r : TileRegs) (n : Nat) (x : W32) : TileRegs := { r with s := tabSet (fun _ => 0) r.s n x }
def TileRegs.getV (r : TileRegs) (n : Nat) : W512 := tabGet (fun _ => 0) r.v n
def TileRegs.setV (r : TileRegs) (n : Nat) (x : W512) : TileRegs := { r with v := tabSet (fun _ => 0) r.v n x }
def TileRegs.getP (r : TileRegs) (n : Nat) : W32 := tabGet (fun _ => 0) r.p n
def TileRegs.setP (r : TileRegs) (n : Nat) (x : W32) : TileRegs := { r with p := tabSet (fun _ => 0) r.p n x }
def TileRegs.getB (r : TileRegs) (n : Nat) : W32 := tabGet (fun _ => 0) r.b n
def TileRegs.setB (r : TileRegs) (n : Nat) (x : W32) : TileRegs := { r with b := tabSet (fun _ => 0) r.b n x }
def TileRegs.getL (r : TileRegs) (n : Nat) : W32 := tabGet (fun _ => 0) r.l n
def TileRegs.setL (r : TileRegs) (n : Nat) (x : W32) : TileRegs := { r with l := tabSet (fun _ => 0) r.l n x }
/-- Lane i of accumulator a. -/
def TileRegs.getA (r : TileRegs) (a i : Nat) : AccLane := tabGet (fun _ => {}) r.a (16 * a + i)
def TileRegs.setA (r : TileRegs) (a i : Nat) (x : AccLane) : TileRegs :=
  { r with a := tabSet (fun _ => {}) r.a (16 * a + i) x }
/-- ACC_SAT of lane i of accumulator a sets. -/
def TileRegs.satA (r : TileRegs) (a i : Nat) : TileRegs :=
  { r with accSat := putFld r.accSat (16 * a + i) (16 * a + i) 1, accNew := putFld r.accNew (16 * a + i) (16 * a + i) 1 }

/-- Real and imaginary part of element i of a vector (R78). -/
def elemRe (x : W512) (i : Nat) : Int := (x.extractLsb' (32 * i) 16).toInt
def elemIm (x : W512) (i : Nat) : Int := (x.extractLsb' (32 * i + 16) 16).toInt

/-- A vector from its 32-bit elements, element 0 first. -/
def vecOf (l : List W32) : W512 := BitVec.ofNat 512 (l.foldr (fun x n => x.toNat + 4294967296 * n) 0)
/-- An element from its parts. -/
def elemOf (re im : W16) : W32 := im ++ re
/-- The vector whose element i is f i. -/
def vecMap (f : Nat → W32) : W512 := vecOf ((List.range 16).map f)
/-- Element i of a vector as a word. -/
def vecElem (x : W512) (i : Nat) : W32 := x.extractLsb' (32 * i) 32

/-- A component of a sum, difference or negation: exact inside int16, open outside (R105). -/
def alu16 (x : Int) : W16 := if -32768 ≤ x ∧ x ≤ 32767 then BitVec.ofInt 16 x else Config.vecOverflow x

/-! ## Accumulator arithmetic (R83 to R86, R107) -/

def accLo : Int := -549755813888
def accHi : Int := 549755813887
def inAcc (x : Int) : Bool := decide (accLo ≤ x) && decide (x ≤ accHi)

/-- The range test of R84: lane i of Ad takes the exact result (re, im), or limits, ACC_SAT and the freeze. -/
def TileRegs.accPut (r : TileRegs) (ad i : Nat) (re im : Int) : TileRegs :=
  let ok := inAcc re && inAcc im
  let r1 := r.setA ad i ⟨BitVec.ofInt 40 (clampI accLo accHi re), BitVec.ofInt 40 (clampI accLo accHi im), !ok⟩
  if ok then r1 else r1.satA ad i

/-- Lane i of Ad takes or joins a product sum, by the suffix: 0 add, 1 .Z, 2 .N, 3 .C (R83, R84). -/
def TileRegs.accAdd (r : TileRegs) (ad i sfx : Nat) (re im : Int) : TileRegs :=
  let l := r.getA ad i
  if sfx = 1 then r.accPut ad i re im
  else if l.frozen then r
  else if sfx = 2 then r.accPut ad i (l.re.toInt - re) (l.im.toInt - im)
  else r.accPut ad i (l.re.toInt + re) (l.im.toInt + im)

/-- A complex product; the second factor conjugated for suffix .C. -/
def cmul (sfx : Nat) (ar ai br bi : Int) : Int × Int :=
  let bi' := if sfx = 3 then -bi else bi
  (ar * br - ai * bi', ar * bi' + ai * br)

/-- Element i of x times element j of y. -/
def elemMul (sfx : Nat) (x y : W512) (i j : Nat) : Int × Int := cmul sfx (elemRe x i) (elemIm x i) (elemRe y j) (elemIm y j)

/-- Every lane of a register file operation. -/
def TileRegs.lanes (r : TileRegs) (f : TileRegs → Nat → TileRegs) : TileRegs := (List.range 16).foldl f r

/-- The extraction of one component (R86): the value and whether it was limited. -/
def extract (a : Int) (s : Nat) (round : Bool) : Int × Bool :=
  let t := if round then roundShift a s else a / 2 ^ s
  (clampI (-32768) 32767 t, decide (t < -32768) || decide (32767 < t))

/-! ## Addressing (R87 to R90) -/

/-- An element address, or the fault a constraint raises: 2 MISALIGN, 3 ADDR_RANGE, 0 ILLEGAL_INSN. -/
inductive AddrRes where
  | ok (addrs : List Nat) (p : W32)
  | fault (n : Nat)
deriving DecidableEq, Repr

/-- An integer brought to 32 bits. -/
def w32 (x : Int) : W32 := BitVec.ofInt 32 x

/-- The constraints of modulo mode on P, B and L (R88): the fault, if any. L is not 0. -/
def moduloFault (p b l : Nat) : Option Nat :=
  if l % 4 ≠ 0 then some 2 else if 262144 < l ∨ p < b ∨ b + l ≤ p then some 3 else none

/-- The modulo rule of R87: P moved by off within the buffer. -/
def moduloAt (p b l : Nat) (off : Int) : Int := (b : Int) + ((p : Int) - b + off) % (l : Int)

/-- The n low bits of a number in reverse order. -/
def revBits : Nat → Nat → Nat
  | 0, _ => 0
  | n + 1, x => (x % 2) * 2 ^ n + revBits n (x / 2)

/-- The exponent of a power of two from 8 to 262,144. -/
def log2Of (l : Nat) : Option Nat := ((List.range 16).map (· + 3)).find? (fun k => decide (l = 2 ^ k))

/-- revadd of R87, of the byte offset of P in the buffer; the increment imm16 >> 2 is signed (R106). -/
def revadd (off : Nat) (inc : Int) (n : Nat) : Nat :=
  let k := n - 2
  (revBits k ((revBits k (off / 4 % 2 ^ k) + revBits k ((inc / 4) % ((2 ^ k : Nat) : Int)).toNat) % 2 ^ k)) * 4 + off % 4

/-- The addresses of cnt elements and the pointer's update. scalar forbids strided mode; imm is the field IMM16. -/
def TileRegs.address (r : TileRegs) (pn mode : Nat) (imm : W16) (cnt : Nat) (scalar : Bool) : List Int × W32 × Option Nat :=
  let p := (r.getP pn).toNat
  let b := (r.getB pn).toNat
  let l := (r.getL pn).toNat
  let linear := (List.range cnt).map (fun i => ((p + 4 * i : Nat) : Int))
  let post := w32 ((p : Int) + imm.toInt)
  match mode with
  | 0 => (linear, post, none)
  | 1 =>
    if l = 0 then (linear, post, none)
    else match moduloFault p b l with
      | some f => ([], 0, some f)
      | none => ((List.range cnt).map (fun i => moduloAt p b l ((4 * i : Nat) : Int)), w32 (moduloAt p b l imm.toInt), none)
  | 2 =>
    match log2Of l with
    | some n => if p < b ∨ b + l ≤ p then ([], 0, some 3) else (linear, w32 ((b + revadd (p - b) imm.toInt n : Nat) : Int), none)
    | none => ([], 0, some 3)
  | _ =>
    if scalar then ([], 0, some 0)
    else
      let stride := (r.getS (bitsOf imm 15 11)).toInt
      if stride % 4 ≠ 0 then ([], 0, some 2)
      else ((List.range cnt).map (fun i : Nat => (p : Int) + (i : Int) * stride), w32 ((p : Int) + 4 * (imm.extractLsb' 0 11).toInt), none)

/-- The addresses after the tests of R89 for elements of the given size and alignment. -/
def TileRegs.addressOf (r : TileRegs) (pn mode : Nat) (imm : W16) (cnt size : Nat) (scalar : Bool) : AddrRes :=
  match r.address pn mode imm cnt scalar with
  | (_, _, some f) => .fault f
  | (l, p, none) =>
    if l.any (fun x => decide (x % (size : Int) ≠ 0)) then .fault 2
    else if l.any (fun x => decide (x < 0) || decide (0x40000 < x + size)) then .fault 3
    else .ok (l.map Int.toNat) p

/-! ## Control flow (R91 to R93) -/

/-- What slot Y does to the flow of control. -/
inductive Ctl where
  | next
  | jump (target : Nat)
  | call (target : Nat)
  | ret
  | rep (count n : Nat)
deriving DecidableEq, Repr

/-- The end-of-body evaluation of R91 at bundle pc: the levels that remain, innermost first, and the bundle it selects. -/
def endBody (pc : Nat) : List Loop → List Loop × Nat
  | [] => ([], (pc + 1) % 16384)
  | x :: xs =>
    if x.le = pc then
      if 1 < x.lc.toNat then ({ x with lc := x.lc - 1 } :: xs, x.ls) else endBody pc xs
    else
      let r := endBody pc xs
      (x :: r.1, r.2)

/-- The levels that stay when control is taken to a target: a level whose body does not hold it goes, with every level inside it
(R92). -/
def keepLoops (target : Nat) : List Loop → List Loop
  | [] => []
  | x :: xs =>
    let rest := keepLoops target xs
    if rest.length < xs.length then rest
    else if x.ls ≤ target ∧ target ≤ x.le then x :: rest else rest

/-- The levels after a RET to a target: in the bundle at an LE it acts as a taken branch (R92), elsewhere it pops none (R93). -/
def retLoops (pc target : Nat) (l : List Loop) : List Loop := if l.any (fun x => decide (x.le = pc)) then keepLoops target l else l

/-- The registers after a bundle whose slot Y did c: PC, levels, return stack, and MODE one bundle on (R81, R91 to R93). A taken branch
inside a called subroutine pops the caller's levels whose bodies do not hold its target, by the words of R92, though R93 has them stay
active across the call (DEDUCED: R93 excepts the CALL alone). -/
def TileRegs.endBundle (r : TileRegs) (c : Ctl) : TileRegs :=
  let r0 := { r with rnd := r.rndNext, rndNext := r.rndReg, accNew := 0, extNew := 0 }
  match c with
  | .next => let e := endBody r.pc r.loops; { r0 with loops := e.1, pc := e.2 }
  | .jump t => { r0 with loops := keepLoops t r.loops, pc := t }
  | .call t => let e := endBody r.pc r.loops; { r0 with loops := e.1, ret := e.2 :: r.ret, pc := t }
  | .ret =>
    match r.ret with
    | a :: rest => { r0 with loops := retLoops r.pc a r.loops, ret := rest, pc := a }
    | [] => r0
  | .rep count n =>
    if count = 0 then { r0 with pc := (r.pc + n + 1) % 16384 }
    else
      let e := endBody r.pc (⟨BitVec.ofNat 32 count, (r.pc + 1) % 16384, (r.pc + n) % 16384⟩ :: r.loops)
      { r0 with loops := e.1, pc := e.2 }

/-! ## Faults of a tile (R103, R104) -/

def Tile.running (x : Tile) : Bool := decide (x.phase = .running)

/-- A tile stops at a CONTAINED fault: the bundle in issue leaves no effect, the task is poisoned, the tile drains (R104). -/
def State.stopTile (s : State) (d t : Nat) : State :=
  let x := s.tile d t
  let x1 := match x.snap with | some (r, _) => { x with regs := r } | none => x
  (s.setTile d t (x1.halt .faulted)).mapTask x.ring x.seq (fun u => { u with poisoned := true })

/-- A CONTAINED fault of a tile. -/
def State.tileFault (s : State) (d t n : Nat) : State :=
  (s.stopTile d t).raiseAt (pgCLU d) (BitVec.ofNat 32 (2 ^ n)) (locTile d t) (some (s.tile d t).cg) false

/-! ## Issuing a bundle -/

/-- COP_EN of the cluster (R112). -/
def State.copEn (s : State) (d : Nat) : Bool := bit (s.reg (pgCLU d + 0x040)) 1

/-- The fetch and checks with which a bundle begins (R79, R99, R105 to R108): true when it may issue. A word fetched that raises
ILLEGAL_INSN as its encoding stands does so whatever the command; which instruction issues is the command's word. The registers it
reads are kept. -/
def State.beginBundle (s : State) (d t : Nat) : State × Bool :=
  let x := s.tile d t
  if x.regs.pc < x.kbase ∨ x.kbase + x.klen ≤ x.regs.pc then (s.tileFault d t 0, false)
  else
    let r := s.readChip (progAddr d t (8 * x.regs.pc))
    if r.2.2 then
      (({ r.1 with sluice := { r.1.sluice with
          barred := tabSet (fun _ => false) r.1.sluice.barred (2048 * d + 256 * t + x.kid) true } } : State).tileFault d t 7, false)
    else if illegalBundle (s.copEn d) r.2.1 then (r.1.tileFault d t 0, false)
    else (r.1.setTile d t { x with snap := some (x.regs, x.copQ), xDst := [] }, true)

/-- The bundle in issue ends, its slot Y having done c. -/
def State.finishBundle (s : State) (d t : Nat) (c : Ctl) : State :=
  let x := s.tile d t
  s.setTile d t { x with regs := x.regs.endBundle c, snap := none, xDst := [], stallX := false, stallY := false }

/-- What an instruction does once its bundle has issued. -/
inductive Res where
  /-- It faults with an ERR_STAT bit. -/
  | fault (s : State) (n : Nat)
  /-- Its bundle stalls. -/
  | stall
  | done (s : State) (c : Ctl)
deriving DecidableEq, Repr

/-- An instruction of slot X: dst is what it writes, f what it does to the state from the registers it reads. A command that names
slot Y misplaces it (R79). -/
def State.slotX (s : State) (d t : Nat) (y : Bool) (dst : List RegId) (f : State → TileRegs → Res) : State :=
  let x := s.tile d t
  if x.running = false ∨ x.stallY = true then s
  else if y then
    let b := if x.snap.isSome then (s, true) else s.beginBundle d t
    if b.2 then b.1.tileFault d t 0 else b.1
  else
    let s0 := if x.snap.isSome then s.finishBundle d t .next else s
    let b := s0.beginBundle d t
    if b.2 = false then b.1
    else match f b.1 (b.1.tile d t).regs with
      | .fault s1 n => s1.tileFault d t n
      | .stall => s0.setTile d t { s0.tile d t with stallX := true }
      | .done s1 _ => s1.setTile d t { s1.tile d t with xDst := dst, stallX := false }

/-- An instruction of slot Y. A command that names slot X misplaces it. -/
def State.slotY (s : State) (d t : Nat) (y : Bool) (dst : List RegId) (f : State → TileRegs → Res) : State :=
  let x := s.tile d t
  if x.running = false ∨ x.stallX = true then s
  else if y = false then
    let s0 := if x.snap.isSome then s.finishBundle d t .next else s
    let b := s0.beginBundle d t
    if b.2 then b.1.tileFault d t 0 else b.1
  else
    let b := if x.snap.isSome then (s, true) else s.beginBundle d t
    if b.2 = false then b.1
    else
      let z := b.1.tile d t
      if dst.any (fun r => z.xDst.contains r) then b.1.tileFault d t 0
      else match f b.1 (match z.snap with | some p => p.1 | none => z.regs) with
        | .fault s1 n => s1.tileFault d t n
        | .stall => b.1.setTile d t { z with stallY := true }
        | .done s1 c => s1.finishBundle d t c

/-- The registers of a tile take an update. -/
def State.upd (s : State) (d t : Nat) (f : TileRegs → TileRegs) : State :=
  let x := s.tile d t
  s.setTile d t { x with regs := f x.regs }

/-- A slot X instruction that only computes on registers. -/
def State.opX (s : State) (d t : Nat) (y : Bool) (dst : List RegId) (f : TileRegs → TileRegs) : State :=
  s.slotX d t y dst (fun s r => .done (s.upd d t (fun _ => f r)) .next)

/-- A slot Y instruction that only computes on registers: f says what is written from the registers read. -/
def State.opY (s : State) (d t : Nat) (y : Bool) (dst : List RegId) (f : TileRegs → TileRegs → TileRegs) : State :=
  s.slotY d t y dst (fun s r => .done (s.upd d t (f r)) .next)

/-! ## DMA and windows -/

/-- The tag bits of outstanding entries. -/
def Tile.outstanding (x : Tile) : W8 := x.dma.foldl (fun (w : W8) e => putFld w e.tag e.tag 1) 0

def Tile.window (x : Tile) (w : Nat) : Window := tabGet (fun _ => {}) x.win w
def Tile.setWindow (x : Tile) (w : Nat) (v : Window) : Tile := { x with win := tabSet (fun _ => {}) x.win w v }

/-- Near addresses of an entry, element by element (R100). -/
def DmaEntry.nearAddrs (e : DmaEntry) : List Nat :=
  (List.range (e.len / 4)).map (fun i =>
    if e.ln = 0 then e.near + 4 * i else (moduloAt e.near e.bn e.ln ((4 * i : Nat) : Int)).toNat)

end Sys2Proof.Machine
end

