-- ==== Sys2Proof/Machine/FaultOps.lean ====
section
/-! DEFINITION. Integrity events and their class actions (R338, R339, R344, R353, R354), the fence of a quadrant (R348 to R352), the
assertion of DEVICE and SYSTEM resets (R443, R444, R446 to R448), and the supply references (R345, R346). -/

namespace Sys2Proof.Machine

open Sys2Proof

/-! ## Integrity codes (R338) -/

/-- The class of an integrity code; 0: no such code. -/
def integClass (code : Nat) : Nat :=
  match code with
  | 1 => 5 | 2 => 5 | 3 => 4 | 4 => 5 | 5 => 5 | 6 => 1 | 7 => 5 | 8 => 5
  | 16 => 5 | 17 => 6 | 18 => 6 | 19 => 4 | 20 => 1 | 21 => 6 | 22 => 1 | 23 => 6 | 24 => 6
  | _ => 0

/-- A Weir receives a code: 1 to 8 the quadrants', 16 to 24 the device's. -/
def weirTakes (w code : Nat) : Bool :=
  decide (integClass code ≠ 0) && (if w < 4 then decide (code ≤ 8) else decide (16 ≤ code))

/-! ## Wide resets asserted -/

/-- WELL_RST_STAT (R443 to R448): LAST_TYPE, SOURCE, the DRAIN it met, and the count. -/
def State.recordReset (s : State) (ty src : Nat) : State :=
  let inDrain := decide (s.mode = 4)
  let n := satAdd 16 (s.fld (pgWELL + 0x048) 15 0) 1
  s.setReg (pgWELL + 0x048)
    (BitVec.ofNat 32 (ty * 2 ^ 28 + src * 2 ^ 26 + b2n inDrain * 2 ^ 25 + (if inDrain then s.drainStep else 0) * 2 ^ 20 + n))

/-- A commit of the retention store is in progress. -/
def State.committing (s : State) : Bool := bit (s.reg (pgRSTO + 0x040)) 26 || bit (s.reg (pgRSTO + 0x048)) 26

/-- A DEVICE reset is asserted (R443, R444): an EJECT_L still asserted is held when it ends a DRAIN (R446). Two triggers before
release make one reset, counted once (R448); none acts during a SYSTEM reset. -/
def State.assertDevice (s : State) (src : Nat) : State :=
  match s.wide with
  | some _ => s
  | none =>
    let held := decide (s.mode = 4) && bit (s.reg (pgGPIO + 0x048)) 30
    { (s.recordReset 2 src).deviceReset with wide := some .device, ejectHeld := s.ejectHeld || held }

/-! ## The fence -/

/-- The lane an EEC input tracks lies in the quadrant: the input disqualifies (R317, R352). -/
def State.fenceEec (s : State) (q : Nat) : State :=
  let c := s.reg (pgFTB1 + 0x040)
  let drop := fun (t : State) (b lo : Nat) =>
    if bitsOf c (lo + 5) lo / 16 = q ∧ t.fld (pgFTB1 + 0x044) b b = 1 then
      let t1 := t.put (pgFTB1 + 0x044) b b 0
      if t1.eec ≠ 0 ∧ t1.inputOk t1.eecOnSec = false then t1.eecLose else t1
    else t
  drop (drop s 3 0) 4 8

/-- DMA entries a tile of the quadrant has queued by now: their requests were accepted before the isolation (R24). -/
def State.markDma (s : State) (q : Nat) : State :=
  { s with tiles := s.tiles.map (fun e =>
      if e.1 / 48 = q then (e.1, { e.2 with dma := e.2.dma.map (fun d => { d with old := true }) }) else e) }

/-- Time 0 of R348 to the isolation: the device Weir's record, QLOST, departures, lanes off, entries and wakes abandoned. -/
def State.startFence (s : State) (q code : Nat) (loc : W16) (injected : Bool) : State :=
  if s.fencePhase q ≠ 0 then s
  else
    let s1 := s.withVecs [1] (fun t => t.weirEvent 4 ⟨5, 24 + q, true, code, loc, none, injected⟩)
    let s2 := (s1.put (pgDWEIR + 0x140 + 4 * q) 26 24 1).inc (pgDWEIR + 0x140 + 4 * q) 15 0 1
    let s3 := (List.range 64).foldl (fun t g => if t.touches g q then t.setRowBit (pgDWEIR + 0x160 + 8 * q) g true else t) (s2.markDma q)
    let s4 := s3.setQuad q { s3.quadSt q with
      fenceSag := decide (code = 7), fenceInj := decide (code = 7) && injected, wakeSlots := [] }
    let s5 := (List.range 52).foldl (fun t i => t.modSlot (qSlot q i) (fun x => { x with entry := .none, waking := false, latched := false })) s4
    let ls := (List.range 16).map (fun i => 16 * q + i)
    let s6 := ls.foldl (fun t e => t.entryDeparts e) (s5.disableAll ls)
    ((s6.fenceEec q).weirSettle 4).settle

/-- The tasks placed or in service in a fenced quadrant, finish reports already accepted apart (R349). -/
def Task.inQuad (q : Nat) (t : Task) : Bool :=
  match t.place with
  | .hopper d => decide (d / 6 = q)
  | .engQ q' _ => decide (q' = q)
  | .tile d _ => decide (d / 6 = q)
  | .engine q' _ => decide (q' = q)
  | _ => false

/-- Where a lost task was. -/
def Task.lostLoc (t : Task) : W16 :=
  match t.place with
  | .tile d k => locTile d k
  | .engine q _ => locQuad q
  | _ => 0

/-- The tasks of a fenced quadrant end QUADRANT_LOST in fetch order; the word, WEIR_INTEG and the capture are copied to the device
Weir, and the quadrant reset is asserted (R348 to R350); after an injected sag the rail condition is met at once (R358). FINISH_TIME of a
lost task that made no finish report and was not abandoned, of which R152 says nothing, is the presented time of this step (DESIGN
CHOICE). -/
def State.loseQuad (s : State) (q : Nat) : State :=
  let s0 := s.put (pgDWEIR + 0x140 + 4 * q) 26 24 2
  let lost := s0.tasks.filter (Task.inQuad q)
  let s1 := s0.inOneCycle (fun u => (lost.foldl (fun t k => t.endTask k stQuadrantLost t.pt k.lostLoc) u).settle)
  let w := s1.reg64 (pgQWEIR q + 0x040)
  let s2 := s1.setReg64 (pgDWEIR + 0x100 + 12 * q) w
  let s3 := s2.setReg (pgDWEIR + 0x108 + 12 * q) (s1.reg (pgQWEIR q + 0x078))
  let s4 := s3.setReg (pgDWEIR + 0x130 + 4 * q) (s1.reg (pgQWEIR q + 0x048))
  ((s4.quadReset q).spoilQuad q s4.eng s4.gsm).put (pgDWEIR + 0x140 + 4 * q) 26 24 (if (s4.quadSt q).fenceInj then 3 else 4)

/-! ## A CONTAINED error (R337, R358) -/

/-- The lowest busy tile of a cluster. -/
def State.busyTile (s : State) (d : Nat) : Option Nat := (List.range 8).find? (fun t => decide ((s.tile d t).phase ≠ .idle))

/-- The unit of an engine page that holds a job. -/
def State.busyUnit (s : State) (q e : Nat) : Option Nat :=
  (List.range 9).find? (fun u => decide (unitEng u = e) && (s.engJob q u).isSome)

/-- The engine of a page. -/
def pageEng (b : Block) : Option Nat :=
  match b with | .fft => some 0 | .shp => some 1 | .nsc => some 2 | .code => some 3 | .abd => some 4 | _ => none

/-- What a CONTAINED error stops: the task on the lowest busy tile, or the job in service, which then finishes with the cause of
the bit. -/
def State.containAct (s : State) (p : Page) (n : Nat) : State :=
  if p.blk = .clu then
    match s.busyTile p.inst with
    | some t => if (s.tile p.inst t).phase = .faulted then s else s.stopTile p.inst t
    | none => s
  else match pageEng p.blk with
    | none => s
    | some e => match s.busyUnit p.quad e with
      | none => s
      | some u => match s.engJob p.quad u with
        | some j => s.setEng p.quad u (some { j with ran := true, cause := n + 1 })
        | none => s

/-- Where a CONTAINED error of a page happens, and the group the block can name: its busy tile's, or its job's. -/
def State.containAt (s : State) (p : Page) : W16 × Option Nat :=
  if p.blk = .clu then
    match s.busyTile p.inst with
    | some t => (locTile p.inst t, some (s.tile p.inst t).cg)
    | none => (p.loc, none)
  else match pageEng p.blk with
    | none => (p.loc, none)
    | some e => match s.busyUnit p.quad e with
      | none => (p.loc, none)
      | some u => (p.loc, (s.engJob p.quad u).map (fun j => j.cg))

/-! ## An integrity event -/

/-- The block of an engine. -/
def engBlk (e : Nat) : Block := match e with | 0 => .fft | 1 => .shp | 2 => .nsc | 3 => .code | _ => .abd

/-- The group a FUNCTION code names: the live OWNER or CG of the faulty context, slot or entry (code 3), or the group, or the group of
the flow (code 19) (R338). -/
def State.siteCg (s : State) (code : Nat) (x : FaultSite) : Option Nat :=
  match code, x with
  | 3, .context q e i => some (ownerOf (engBlk e.val) (s.reg (entKey (engPg q e.val + 0x844) i.toNat)))
  | 3, .slot q i => some (ownerOf .fqu (s.reg (entKey (pgFQU q + 0x844) i.toNat)))
  | 3, .hraceMap q i => some (ownerOf .hrace (s.reg (entKey (pgHRACE q + 0x844) i.toNat)))
  | 3, .traceMap q i => some (ownerOf .trace (s.reg (entKey (pgTRACE q + 0x844) i.toNat)))
  | 19, .group g => some g.val
  | 19, .flow f => some (s.flowCg f.val)
  | _, _ => none

/-- The jobs in service on a faulty context end POISONED (R353). -/
def State.poisonSite (s : State) (x : FaultSite) : State :=
  match x with
  | .context q e i => (List.range 9).foldl (fun t u =>
      match t.engJob q u with
      | some j => if unitEng u = e.val ∧ ctxIndex e.val j.words = i.toNat then
          t.mapTask j.ring j.seq (fun k => { k with poisoned := true }) else t
      | none => t) s
  | _ => s

/-- The quadrant a QUADRANT code fences: the quadrant Weir's own, or the one at the spine link's far end. -/
def fenceTarget (w : Nat) (loc : W16) : Nat := if w < 4 then w else bitsOf loc 14 13

/-- The class action of a code (R344, R353, R354); cg is the group a FUNCTION code names. -/
def State.integAct (s : State) (w code : Nat) (cg : Option Nat) (site : FaultSite) (loc : W16) (injected : Bool) : State :=
  let c := integClass code
  if c = 4 then ((match cg with | some g => s.haltGroup g 1 | none => s)).poisonSite site
  else if c = 5 then s.startFence (fenceTarget w loc) code loc injected
  else if c = 6 then
    let s2 := (s.setReg (pgDWEIR + 0x180)
      (BitVec.ofNat 32 (2 ^ 31 + code * 65536 + satAdd 16 (s.fld (pgDWEIR + 0x180) 15 0) 1))).setReg
      (pgDWEIR + 0x184) (BitVec.ofNat 32 s.rawNs32)
    s2.assertDevice 2
  else s

/-- A Weir's vector. -/
def weirVec (w : Nat) : Nat := if w < 4 then 16 + 8 * w else 1

/-- A code sets in WEIR_INTEG, and SAG_WARN for a warning. -/
def State.setInteg (s : State) (w code : Nat) : State :=
  let s1 := s.orReg (pgWEIR w + 0x078) (BitVec.ofNat 32 (2 ^ code))
  if code = 6 ∨ code = 20 ∨ code = 22 then s1.setRowBit (pgWEIR w + 0x02C) 5 true else s1

/-- The event of an integrity code. -/
def integEvent (w code : Nat) (loc : W16) (cg : Option Nat) (injected : Bool) : WeirEvent :=
  ⟨integClass code, if w < 4 then 57 else 33, true, code, loc, cg, injected⟩

/-- A code fires alone at a Weir: the record and the class action (R344, R353, R354). -/
def State.integrity (s : State) (w code : Nat) (cg : Option Nat) (site : FaultSite) (loc : W16) (injected : Bool) : State :=
  if weirTakes w code = false ∨ s.weirAlive w = false ∨ s.wide.isSome = true then s
  else
    (s.withVecs [weirVec w] (fun t => (t.setInteg w code).weirRecord w (integEvent w code loc cg injected))).integAct w code cg site loc injected

/-! ## The events of one cycle (R339, R343) -/

/-- The sources of a block that this Weir receives. -/
def cycleCodes (b : BlockCycle) (w : Nat) : List IntegSrc := b.srcs.filter (fun x => weirTakes w x.code.toNat)

/-- The block's page, if this Weir receives its events. -/
def cyclePage (b : BlockCycle) (w : Nat) : Option Page :=
  match pageOf (0x1000 * b.page.toNat) with
  | some p => if p.quad = w then some p else none
  | none => none

/-- Its unmasked bits that become set. -/
def State.cycleErrs (s : State) (w : Nat) (b : BlockCycle) : W32 :=
  match cyclePage b w with | some _ => s.newErrs (0x1000 * b.page.toNat) b.errs | none => 0

/-- The one event of a block's cycle: of its highest class, and of its ERR_STAT bits before its integrity codes, the lowest (R339). -/
def State.blockEvent (s : State) (w : Nat) (b : BlockCycle) : Option WeirEvent :=
  let newly := s.cycleErrs w b
  let err := (cyclePage b w).map (fun p => errEvent p newly (s.containAt p).1 (s.containAt p).2 false)
  let top := (cycleCodes b w).foldl (fun c x => max c (integClass x.code.toNat)) 0
  let best := ((List.range 32).filterMap (fun n =>
    (cycleCodes b w).find? (fun x => decide (x.code.toNat = n) && decide (integClass n = top)))).head?
  match err, best with
  | some e, some x => some (if newly ≠ 0 ∧ top ≤ e.cls then e else integEvent w x.code.toNat x.loc (s.siteCg x.code.toNat x.site) false)
  | some e, none => if newly = 0 then none else some e
  | none, some x => some (integEvent w x.code.toNat x.loc (s.siteCg x.code.toNat x.site) false)
  | none, none => none

/-- What a block's cycle sets: ERR_STAT with ERR_FIRST, WEIR_INTEG, and INTEG of the word when a code fired. -/
def State.blockSets (s : State) (w : Nat) (b : BlockCycle) : State :=
  let s1 := match cyclePage b w with | some _ => s.setErrs (0x1000 * b.page.toNat) b.errs | none => s
  let s2 := (cycleCodes b w).foldl (fun t x => t.setInteg w x.code.toNat) s1
  if (cycleCodes b w).isEmpty then s2 else s2.setRowBit (pgWEIR w + 0x040) (if w < 4 then 57 else 33) true

/-- The class actions of a block's cycle: what its CONTAINED bits stop, and every code's. -/
def State.blockActs (s s0 : State) (w : Nat) (b : BlockCycle) : State :=
  let s1 := match cyclePage b w with
    | some p => (indices 32 (fun n => (b.errs &&& ~~~ s0.reg (0x1000 * b.page.toNat + 0x010)).getLsbD n && decide (errClass p.blk n = 3))).foldl
        (fun t n => t.containAct p n) s
    | none => s
  (cycleCodes b w).foldl (fun t x => t.integAct w x.code.toNat (s0.siteCg x.code.toNat x.site) x.site x.loc false) s1

/-- What the blocks of a Weir present in one cycle: the bits and codes, the events in the order of R343, and every class action. -/
def State.blocksCycle (s : State) (w : Nat) (bs : List BlockCycle) : State :=
  if s.weirAlive w = false ∨ s.wide.isSome = true then s
  else
    let s1 := s.withVecs [weirVec w] (fun t => (bs.foldl (fun u b => u.blockSets w b) t).weirCycle w (bs.filterMap (t.blockEvent w)))
    bs.foldl (fun t b => t.blockActs s w b) s1

/-! ## Supply (R345, R346) -/

/-- A quadrant rail is monitored: its domain is on, or wakes and its voltage has read back good (R346, R375). -/
def State.railWatched (s : State) (q : Nat) : Bool :=
  s.quadOn q || ((s.quadSt q).waking && decide ((s.quadSt q).vreq = none))
/-- The reference of a rail in mV: 0 while it is not monitored. -/
def State.sagRef (s : State) (r : Nat) : Nat :=
  if r < 4 then (if s.railWatched r then levelMv (s.level r) else 0) else if r = 4 then 800 else 750
/-- A sample lies below the warning, and below the action threshold. -/
def State.sagWarns (s : State) (r mv : Nat) : Bool := if r = 5 then decide (mv < 700) else decide (mv * 100 < s.sagRef r * 93)
def State.sagActs (s : State) (r mv : Nat) : Bool := if r = 5 then decide (mv < 660) else decide (mv * 100 < s.sagRef r * 88)

/-- The record of the rail, and its Weir. -/
def sagKey (r : Nat) : Nat := if r < 4 then pgQWEIR r + 0x07C else if r = 4 then pgDWEIR + 0x07C else pgDWEIR + 0x080
def sagWeir (r : Nat) : Nat := if r < 4 then r else 4

/-- A sample enters MIN_MV. -/
def State.noteSample (s : State) (r mv : Nat) : State :=
  if s.sagRef r ≠ 0 ∧ s.weirAlive (sagWeir r) = true ∧ mv < s.fld (sagKey r) 15 0 then s.put (sagKey r) 15 0 mv else s

end Sys2Proof.Machine
end

