-- ==== Sys2Proof/Machine/BootOps.lean ====
section
/-! DEFINITION. The retention store (R433 to R436), HSS indices (R431), the checks of a manifest (R422) and what BOOT's steps share
(R424 to R427, R441). -/

namespace Sys2Proof.Machine

open Sys2Proof

/-! ## The retention store -/

def bank0 : Nat → Bytes := fun _ => []
/-- The bytes of bank A (false) or B (true) of a class as far as they have been written; the rest is zero (R433). -/
def State.bankOf (s : State) (c : Nat) (b : Bool) : Bytes := tabGet bank0 s.rsto (2 * c + b2n b)
def State.setBank (s : State) (c : Nat) (b : Bool) (x : Bytes) : State :=
  { s with rsto := tabSet bank0 s.rsto (2 * c + b2n b) x }

/-- Header bytes 0 to 7 of a bank with a FORMAT: MAGIC, CLASS, BANK. -/
def bankWord (c : Nat) (b : Bool) (format : Nat) : Bytes :=
  bytesLE 4 0x57494C4C ++ bytesLE 1 c ++ bytesLE 1 (b2n b) ++ bytesLE 2 format

/-- The pending marker of a commit (R435). -/
def pendingMark (c : Nat) (b : Bool) : Bytes := bankWord c b 0xFFFF

/-- Header bytes 0 to 59 of a record: TAG is zero in class 1 (R433). -/
def bankHead (c : Nat) (b : Bool) (seq : W32) (payload : Bytes) : Bytes :=
  let h := bankWord c b 1 ++ bytesLE 4 seq.toNat ++ bytesLE 4 payload.length
  h ++ bytesLE 16 (if c = 0 then (Config.recordTag (h ++ payload)).toNat else 0) ++ List.replicate 28 0

/-- A record as its bank holds it: header, CRC-32C over header and payload, payload (R433). -/
def bankRecord (c : Nat) (b : Bool) (seq : W32) (payload : Bytes) : Bytes :=
  let h := bankHead c b seq payload
  h ++ bytesLE 4 (crc32c (h ++ payload)) ++ payload

/-- SEQ and the payload of a bank's bytes. -/
def bankSeq (x : Bytes) : W32 := BitVec.ofNat 32 (natLE ((x.drop 8).take 4))
def bankPayload (x : Bytes) : Bytes :=
  let n := natLE ((x.drop 12).take 4)
  let p := (x.drop 64).take n
  p ++ List.replicate (n - p.length) 0

/-- A bank's bytes are a valid record (R434): MAGIC, CLASS, BANK and FORMAT are its position's, LEN is in range, the CRC and, for
class 0, the TAG match. -/
def bankValid (c : Nat) (b : Bool) (x : Bytes) : Bool :=
  decide (x.take 8 = bankWord c b 1) && decide (natLE ((x.drop 12).take 4) ≤ 65472)
  && decide (natLE ((x.drop 60).take 4) = crc32c (x.take 60 ++ bankPayload x))
  && (decide (c ≠ 0) || decide (natLE ((x.drop 16).take 16) = (Config.recordTag (x.take 16 ++ bankPayload x)).toNat))

/-- Bank b of class c is valid; it holds the pending marker; a byte of it is not zero. -/
def State.bankGood (s : State) (c : Nat) (b : Bool) : Bool := bankValid c b (s.bankOf c b)
def State.bankPending (s : State) (c : Nat) (b : Bool) : Bool := decide ((s.bankOf c b).take 8 = pendingMark c b)
def State.bankUsed (s : State) (c : Nat) (b : Bool) : Bool := (s.bankOf c b).any (fun x => decide (x ≠ 0))

/-- The bank in force: none, or A or B; of two valid ones the newer SEQ (R334, R434). -/
def State.inForce (s : State) (c : Nat) : Option Bool :=
  if s.bankGood c false then
    (if s.bankGood c true then some (decide (0 < (bankSeq (s.bankOf c true) - bankSeq (s.bankOf c false)).toInt)) else some false)
  else if s.bankGood c true then some true else none

/-- The payload in force. -/
def State.forcePayload (s : State) (c : Nat) : Bytes := match s.inForce c with | some b => bankPayload (s.bankOf c b) | none => []

/-- The store examines its banks: a non-zero invalid one raises BANK_INVALID (R434). -/
def State.examine (s : State) : State :=
  if [(0, false), (0, true), (1, false), (1, true)].any (fun p => s.bankUsed p.1 p.2 && !s.bankGood p.1 p.2) then s.raise pgRSTO 2 else s

def rstoKey (c : Nat) : Nat := pgRSTO + 0x040 + 8 * c

/-- A commit of a class begins: BUSY, and step 1 writes the pending marker into the bank that is not in force (R435). -/
def State.startCommit (s : State) (c : Nat) (payload : Bytes) : State :=
  let b := match s.inForce c with | some x => !x | none => false
  let n : W32 := match s.inForce c with | some x => bankSeq (s.bankOf c x) + 1 | none => 0
  { (s.setBank c b (pendingMark c b ++ (s.bankOf c b).drop 8)).put (rstoKey c) 26 26 1 with commit := some { cls := c, bankB := b, seq := n, payload := payload } }

/-- The commit in progress is cut: its bank keeps the pending marker (R435, R447). -/
def State.cutCommit (s : State) : State :=
  match s.commit with
  | none => s
  | some k => { s.put (rstoKey k.cls) 26 26 0 with commit := none }

/-- The staged record (R436). -/
def State.stagedRecord (s : State) : Bytes :=
  (List.range (s.fld (pgRSTO + 0x058) 16 0)).map (fun j => BitVec.ofNat 8 ((tabGet (fun _ => (0 : W32)) s.stage (j / 4)).toNat >>> (8 * (j % 4))))

/-- PENDING of class 1. -/
def State.pendingRecord (s : State) : Bool := decide (s.fld (rstoKey 1) 27 27 = 1)

/-! ## HSS indices (R431) -/

/-- NEXT_FREE of class 0's bank in force. -/
def State.nextFree (s : State) : Nat := natLE ((s.forcePayload 0).take 8)
/-- The next index to be used, as BTU_HSS_NEXT shows it. -/
def State.hssNext (s : State) : Nat := s.fld (pgBTU1 + 0x070) 31 0 + s.fld (pgBTU1 + 0x074) 7 0 * 2 ^ 32
def State.setHssNext (s : State) (n : Nat) : State :=
  (s.setReg (pgBTU1 + 0x070) (BitVec.ofNat 32 n)).setReg (pgBTU1 + 0x074) (BitVec.ofNat 32 (n / 2 ^ 32 % 256))

/-- The BTU takes its next index at BOOT: past the block of a reservation commit that was cut short. -/
def State.takeHssIndex (s : State) : State :=
  let cut := match s.inForce 0 with | some b => s.bankPending 0 (!b) | none => s.bankPending 0 false || s.bankPending 0 true
  s.setHssNext (s.nextFree + (if cut then 64 else 0))

/-! ## Fuses (R419) -/

def State.fuseOwner (s : State) : Nat := s.fld (pgFUSE + 0x048) 31 30
def State.vendorBootDis (s : State) : Bool := decide (s.fld (pgFUSE + 0x048) 29 29 = 1)
def State.factoryDis (s : State) : Bool := decide (s.fld (pgFUSE + 0x048) 28 28 = 1)
def State.hssInit (s : State) : Bool := decide (s.fld (pgFUSE + 0x048) 27 27 = 1)
def State.vendorRevoked (s : State) (k : Nat) : Bool := decide (s.fld (pgFUSE + 0x048) (20 + k) (20 + k) = 1)
def State.fuseSvn (s : State) : Nat := s.fld (pgFUSE + 0x048) 6 0
def State.fuseHash (s : State) (k : Nat) : BitVec 384 := tabGet (fun _ => 0) s.khash k

/-! ## Manifests (R421, R422) -/

/-- The field of n bytes at an offset. -/
def mfld (x : Bytes) (off n : Nat) : Nat := natLE ((x.drop off).take n)
/-- The n bytes at an offset are zero. -/
def mzero (x : Bytes) (off n : Nat) : Bool := ((x.drop off).take n).all (fun b => decide (b = 0))

def mImages (x : Bytes) : Nat := mfld x 0x0D 1
/-- B: where the keys begin. -/
def mKeys (x : Bytes) : Nat := 0x80 + 80 * mImages x
/-- The digest D, and the hash of both keys. -/
def mDigest (x : Bytes) : BitVec 384 := sha384 (x.take (mKeys x + 152))
def mKeyHash (x : Bytes) : BitVec 384 := sha384 ((x.drop (mKeys x)).take 152)

/-- Image entry i. -/
def mEntry (x : Bytes) (i : Nat) : ImageEntry :=
  let o := 0x80 + 80 * i
  { load := decide (mfld x o 1 = 1), len := mfld x (o + 4) 4, srcOff := mfld x (o + 8) 8, dest := mfld x (o + 16) 8
    hash := BitVec.ofNat 384 (mfld x (o + 32) 48) }

/-- The manifest that bytes spell. -/
def parseManifest (x : Bytes) : Manifest :=
  { factory := decide (mfld x 6 2 % 2 = 1), ownerKey := decide (mfld x 6 2 / 2 % 2 = 1), svn := BitVec.ofNat 32 (mfld x 8 4)
    keySlot := mfld x 0x0C 1, digest := mDigest x
    vreg := (List.range 5).map (fun i => BitVec.ofNat 32 (mfld x (0x40 + 4 * i) 4)), vregTime := BitVec.ofNat 32 (mfld x 0x54 4)
    height := mfld x 0x58 4 % 4, images := (List.range (mImages x)).map (mEntry x) }

/-- An entry is as R421 lays down. -/
def mEntryOk (x : Bytes) (i : Nat) : Bool :=
  let o := 0x80 + 80 * i
  let e := mEntry x i
  (decide (mfld x o 1 = 1) || decide (mfld x o 1 = 2)) && mzero x (o + 1) 3 && decide (e.len ≠ 0) && decide (e.len % 64 = 0)
  && decide (e.srcOff % 64 = 0) && mzero x (o + 24) 8
  && (if e.load then decide (e.dest % 64 = 0) && decide (hbmBase ≤ e.dest) && decide (e.dest + e.len ≤ tileDataBase) else decide (e.dest = 0))

/-- Two LOAD ranges overlap. -/
def overlaps (a b : ImageEntry) : Bool := a.load && b.load && decide (a.dest < b.dest + b.len) && decide (b.dest < a.dest + a.len)

/-- Check 1. -/
def mFormatOk (x : Bytes) : Bool :=
  let m := parseManifest x
  decide (mfld x 0 4 = 0x3156584D) && decide (mfld x 4 2 = 1) && decide (mfld x 6 2 < 4) && decide (1 ≤ mImages x)
  && decide (mImages x ≤ 32) && mzero x 0x0E 18 && (!m.ownerKey || decide (m.keySlot = 0)) && (m.factory || mzero x 0x20 32)
  && mzero x 0x5C 36 && (List.range (mImages x)).all (mEntryOk x)
  && decide ((m.images.map (fun e => e.len)).sum ≤ 0x1000000)
  && (List.range (mImages x)).all (fun i => (List.range i).all (fun k => !overlaps (mEntry x i) (mEntry x k)))

/-- Check 2: the keys are those of the owner hash, or of a vendor slot that may boot. -/
def State.keyOk (s : State) (x : Bytes) : Bool :=
  let m := parseManifest x
  if m.ownerKey then decide (mKeyHash x = s.fuseHash 4) && decide (s.fuseOwner = 1)
  else decide (m.keySlot < 4) && decide (mKeyHash x = s.fuseHash m.keySlot) && !s.vendorRevoked m.keySlot && (!s.vendorBootDis || m.factory)

/-- The FAIL code of the first of checks 1 to 6 that fails, or of a read error; 0 when the manifest is accepted. -/
def State.manifestFail (s : State) (r : ManifestRead) : Nat :=
  let m := parseManifest r.bytes
  if r.readOk = false then 8
  else if mFormatOk r.bytes = false then 2
  else if s.keyOk r.bytes = false then 3
  else if r.ecdsaOk = false then 4
  else if r.lmsOk = false then 5
  else if m.svn.toNat < s.fuseSvn then 6
  else if m.factory = true ∧ (m.ownerKey = true ∨ s.factoryDis = true ∨ sha384 ((r.bytes.drop 0x20).take 32) ≠ s.fuseHash 5) then 11
  else 0

/-! ## Steps of BOOT -/

def State.setBootStep (s : State) (n : Nat) : State := s.put (pgBTU + 0x040) 27 24 n

/-- The push window opens (R425). -/
def State.openWindow (s : State) : State := (s.put (pgBTU + 0x040) 19 19 1).irqBit pgBTU 1

/-- Step 3 (R426): PLATFORM into DPWR_VREG and DPWR_VREG_TIME, P0 requested on all four rails; out of DORMANT a rail that its FLOOR
switched off is switched on first (R373). -/
def State.bootPlatform (s : State) (m : Manifest) (fromDormant : Bool) : State :=
  let s1 := (List.range 5).foldl (fun t i => t.setReg (pgDPWR + 0x060 + 4 * i) (m.vreg.getD i 0)) s
  (List.range 4).foldl (fun t q =>
      (if fromDormant = true ∧ (t.quadSt q).dom = 4 then t.orderRail q true else t).requestVoltage q 850 .boot) ((s1.setReg (pgDPWR + 0x074) m.vregTime).setBootStep 3)

/-- The hot-swap power-down (R393): not sent with HSC_EN = 0. -/
def State.orderHscOff (s : State) : State :=
  let c := s.reg (pgPMB 0 + 0x080)
  if bit c 31 then s.pmbPush (bitsOf c 30 30) .hscOff else s

end Sys2Proof.Machine
end

