-- ==== Sys2Proof/Machine/BoardOps.lean ====
section
/-! DEFINITION. The board monitor's converter, result queue and comparators (R381 to R389), the PMBus hosts' transactions (R390 to
R393), the events of GPIO pins and comparators (R367, R394). -/

namespace Sys2Proof.Machine

open Sys2Proof

/-- The board monitor, the PMBus hosts and GPIO are out of reset. -/
def State.boardOn (s : State) : Bool :=
  match s.wide with | some .system => false | some .power => false | _ => true

/-! ## Pulses (R367) -/

/-- Event n of a source, 0 GPIO edge, 1 comparator: the routes that name it hold a pulse. -/
def State.boardPulse (s : State) (src n : Nat) : State :=
  (List.range 8).foldl (fun t k =>
    let r := t.reg (pgDPWR + 0x0A0 + 4 * k)
    if bit r 31 ∧ bitsOf r 30 30 = src ∧ bitsOf r 21 16 = n then { t with pulses := tabSet (fun _ => false) t.pulses k true } else t) s

/-! ## The converter -/

/-- BMON_US at a time before now, in units of RAW. -/
def State.bmonUs (s : State) (back : Nat) : Nat := (s.kept.epoch.toNat * 2 ^ 64 + s.kept.raw.toNat - back) / 1024000

/-- The converter takes its next work at a boundary (R385), or powers down (R383). -/
def State.bmonNext (s : State) : State :=
  let b := s.bmon
  match b.inj, b.cal, b.scan with
  | some c, _, _ => { s with bmon := { b with cur := some (.inj c) } }
  | none, true, _ => { s with bmon := { b with cur := some .cal } }
  | none, false, some (c :: t) => { s with bmon := { b with cur := some (.scan c), scan := some t } }
  | none, false, _ =>
    { s with bmon := { b with cur := none, powered := b.powered && decide (s.fld (pgBMON + 0x040) 31 31 = 1) } }

/-- Work has arrived: it begins at once, after the start-up, or at the next boundary (R383, R385). -/
def State.bmonKick (s : State) : State :=
  if s.bmon.cur.isSome ∨ s.bmon.starting = true then s
  else if s.bmon.powered then s.bmonNext
  else { s with bmon := { s.bmon with starting := true } }

/-- The channels of the scan mask, rising. -/
def State.scanChannels (s : State) : List Nat := indices 48 (fun n => s.rowBit (pgBMON + 0x044) n)

/-- A trigger (R384). -/
def State.bmonTrigger (s : State) : State :=
  if s.bmon.scan.isSome then
    ({ s with bmon := { s.bmon with ovr := true } } : State).inc (pgBMON + 0x05C) 15 0 1 |>.raise pgBMON 0
  else match s.scanChannels with
    | [] => s.irqBit pgBMON 1
    | l => ({ s with bmon := { s.bmon with scan := some l } } : State).bmonKick

/-- An injected conversion is requested (R385). -/
def State.bmonInject (s : State) (ch : Nat) : State :=
  if s.bmon.inj.isSome then s.raise pgBMON 2
  else ({ s with bmon := { s.bmon with inj := some ch } } : State).bmonKick

/-- A calibration is requested. -/
def State.bmonCalibrate (s : State) : State :=
  if s.bmon.cal then s else ({ s with bmon := { s.bmon with cal := true } } : State).bmonKick

/-- A write of BMON_CTRL (R384, R385, R396). -/
def State.writeBmonCtrl (s : State) (v : W32) : State :=
  if bit v 29 = true ∧ 48 ≤ bitsOf v 5 0 then s.badAccess (pgBMON + 0x04C)
  else
    let s1 := if bit v 29 then s.bmonInject (bitsOf v 5 0) else s
    let s2 := if bit v 30 then s1.bmonCalibrate else s1
    if bit v 31 then s2.bmonTrigger else s2

/-! ## Results -/

/-- Q_WMARK is due (register text). -/
def State.wmarkDue (s : State) : Bool :=
  let w := s.fld (pgBMON + 0x058) 15 8
  decide (w ≠ 0) && decide (w ≤ s.bmon.queue.length)

/-- Q_WMARK sets while it is due. -/
def State.bmonLevel (s : State) : State := if s.wmarkDue then s.irqBit pgBMON 0 else s

/-- A read of BMON_Q_DATA takes the head entry; an empty queue answers with channel 63 (R388). -/
def State.bmonPop (s : State) : State :=
  match s.bmon.queue with
  | [] => { s with readData := 0x0003F000 }
  | e :: t => { s with readData := e, bmon := { s.bmon with queue := t } }

/-- A result enters the queue, or is dropped (R387, R388). -/
def State.bmonQueue (s : State) (inj : Bool) (ch : Nat) (code : W12) : State :=
  if s.bmon.queue.length < 128 then
    let e := s.bmonUs 266240 % 4096 * 2 ^ 20 + b2n s.bmon.ovr * 2 ^ 19 + b2n inj * 2 ^ 18 + ch * 2 ^ 12 + code.toNat
    ({ s with bmon := { s.bmon with queue := s.bmon.queue ++ [BitVec.ofNat 32 e], ovr := false } } : State).bmonLevel
  else
    (({ s with bmon := { s.bmon with ovr := true } } : State).inc (pgBMON + 0x05C) 31 16 1).raise pgBMON 1

/-- Comparator k evaluates a result (R389). -/
def State.compare (s : State) (ch : Nat) (code : W12) (k : Nat) : State :=
  let cfg := pgBMON + 0x080 + 8 * k
  if s.fld cfg 31 31 = 0 ∨ s.fld cfg 5 0 ≠ ch then s
  else
    let lim := s.reg (cfg + 4)
    let out := decide (code.toNat < bitsOf lim 11 0) || decide (bitsOf lim 27 16 < code.toNat)
    let s1 := s.put cfg 30 30 (b2n out)
    if out then
      let o := tabGet (fun _ => (0, false)) s1.bmon.outs k
      let n := min (o.1 + 1) 8
      let fire := !o.2 && decide (s1.fld cfg 18 16 + 1 ≤ n)
      let s2 := { s1 with bmon := { s1.bmon with outs := tabSet (fun _ => (0, false)) s1.bmon.outs k (n, o.2 || fire) } }
      if fire then ((s2.put (pgBMON + 0x068) k k 1).irqBit pgBMON 4).boardPulse 1 k else s2
    else { s1 with bmon := { s1.bmon with outs := tabErase s1.bmon.outs k } }

/-- A result: the queue, and every comparator of its channel. -/
def State.bmonResult (s : State) (inj : Bool) (ch : Nat) (code : W12) : State :=
  (List.range 16).foldl (fun t k => t.compare ch code k) (s.bmonQueue inj ch code)

/-! ## PMBus transactions (R390, R391) -/

/-- The order in which a host takes waiting items. -/
def PmbJob.order : PmbJob → Nat
  | .rail _ => 1 | .railOp _ _ => 1 | .hscOff => 2 | .hscVin => 3 | .hscIin => 3 | .host => 4 | .stale => 5

def pgHsc : Nat := pgPMB 0 + 0x080
/-- A transaction with the hot-swap controller. -/
def State.hscTxn (s : State) (b cmd : Nat) (read : Bool) (data : Bytes) : State :=
  let c := s.reg pgHsc
  s.emit (.pmbus b (bitsOf c 6 0) cmd read (bit c 29) false (if read then 2 else 1) data)

/-- A write to a rail's regulator. -/
def State.railTxn (s : State) (b r cmd : Nat) (data : Bytes) : State :=
  s.emit (.pmbus b (bitsOf (s.vreg r) 6 0) cmd false (bit (s.vreg r) 31) false data.length data)

/-- PAGE of a rail's regulator. -/
def State.pageTxn (s : State) (b r : Nat) : State := s.railTxn b r 0x00 [BitVec.ofNat 8 (bitsOf (s.vreg r) 23 16)]

/-- The data bytes of PMB_DATA. -/
def State.pmbData (s : State) (b n : Nat) : Bytes :=
  (List.range n).map (fun j => BitVec.ofNat 8 (s.fld (pgPMB b + 0x060 + 4 * (j / 4)) (8 * (j % 4) + 7) (8 * (j % 4))))

/-- The transaction of an item; none where its voltage request has ended. -/
def State.startJob (s : State) (b : Nat) (j : PmbJob) : Option State :=
  match j with
  | .rail q =>
    (match (s.quadSt q).vreq with
    | none => none
    | some r => (match r.next with
      | .page => some (s.pageTxn b q)
      | .command => some (s.railTxn b q 0x21 (bytesLE 2 (linear16 r.mv (s.vregExp q))))
      | .poll => none))
  | .railOp r on => some ((if s.pageEn r then s.pageTxn b r else s).railTxn b r 0x01 [if on then 0x80 else 0x00])
  | .hscOff => some (s.hscTxn b 0x01 false [0x00])
  | .hscVin => some (s.hscTxn b 0x88 true [])
  | .hscIin => some (s.hscTxn b 0x89 true [])
  | .host =>
    let t := s.reg (pgPMB b + 0x044)
    let read := bit t 30
    let n := bitsOf t 21 16
    some (s.emit (.pmbus b (bitsOf t 14 8) (bitsOf t 7 0) read (bit t 29) (bit t 28) n (if read then [] else s.pmbData b n)))
  | .stale => none

/-- The first waiting item in the order of R391 starts. -/
def State.pmbStart (s : State) (b : Nat) : State :=
  match leastBy PmbJob.order (s.pmbOf b).queue with
  | none => s
  | some j =>
    let s1 := s.pmbDrop b j
    match s1.startJob b j with
    | some t => t.setPmb b { t.pmbOf b with cur := some j }
    | none => s1

/-- PMB_TXN_STAT.RESULT of an outcome; 3 is a timeout. -/
def txnCode : Option TxnRes → Nat
  | none => 3
  | some (.done _) => 1 | some (.nak _) => 2 | some .pecError => 4 | some .blockLong => 5

/-- The error bit of an outcome. -/
def State.txnError (s : State) (b : Nat) (r : Option TxnRes) : State :=
  match r with
  | none => s.raise (pgPMB b) 1
  | some (.nak _) => s.raise (pgPMB b) 0
  | some .pecError => s.raise (pgPMB b) 2
  | _ => s

/-- A host transaction ends: its outcome, and the bytes a read received. -/
def State.hostTxnEnds (s : State) (b : Nat) (r : Option TxnRes) : State :=
  let pg := pgPMB b
  let rx : Bytes := match r with | some (.done d) => if s.fld (pg + 0x044) 30 30 = 1 then d.take 32 else [] | _ => []
  let nak := match r with | some (.nak n) => n.toNat | _ => 0
  let s1 := s.setReg (pg + 0x048) (BitVec.ofNat 32 (txnCode r * 2 ^ 28 + rx.length * 2 ^ 16 + nak))
  let s2 := (rx.zip (List.range rx.length)).foldl (fun t x =>
    t.put (pg + 0x060 + 4 * (x.2 / 4)) (8 * (x.2 % 4) + 7) (8 * (x.2 % 4)) x.1.toNat) s1
  s2.irqBit pg 0

/-- A reading of the hot-swap poll ends (R392): VIN in bits [31:16], IIN in bits [15:0]. -/
def State.hscReadEnds (s : State) (b lo : Nat) (r : Option TxnRes) : State :=
  match r with
  | some (.done d) =>
    let s1 := s.put (pgPMB 0 + 0x084) (lo + 15) lo (natLE (d.take 2))
    if lo = 16 then s1.put (pgPMB 0 + 0x088) 31 31 1 else s1
  | _ => ((s.put (pgPMB 0 + 0x088) 31 31 0).inc (pgPMB 0 + 0x088) 15 0 1).raise (pgPMB b) 3

/-- A transaction of a voltage request ends (R377). -/
def State.railTxnEnds (s : State) (b q : Nat) (r : Option TxnRes) : State :=
  let x := s.quadSt q
  match x.vreq, r with
  | none, _ => s
  | some _, some (.nak _) => s.railFails q 3
  | some _, none => s.railFails q 2
  | some v, _ =>
    if v.next = .page then (s.setQuad q { x with vreq := some { v with next := .command } }).pmbPush b (.rail q)
    else s.setQuad q { x with vreq := some { v with next := .poll } }

/-- The transaction in progress ends: none is a timeout (R390). -/
def State.txnEnds (s : State) (b : Nat) (r : Option TxnRes) : State :=
  match (s.pmbOf b).cur with
  | none => s
  | some j =>
    let s1 := (s.setPmb b { s.pmbOf b with cur := none }).txnError b r
    match j with
    | .rail q => s1.railTxnEnds b q r
    | .railOp _ _ => s1
    | .hscOff => s1
    | .hscVin => s1.hscReadEnds b 16 r
    | .hscIin => s1.hscReadEnds b 0 r
    | .host => s1.hostTxnEnds b r
    | .stale => s1

/-- LEN is one GO takes. -/
def txnLenOk (v : W32) : Bool :=
  let n := bitsOf v 21 16
  if bit v 28 then decide (1 ≤ n) && decide (n ≤ 32)
  else if bit v 30 then decide (1 ≤ n) && decide (n ≤ 2) else decide (n ≤ 2)

/-- A write of PMB_TXN (R391). -/
def State.writePmbTxn (s : State) (b : Nat) (v : W32) : State :=
  let a := pgPMB b + 0x044
  if bit v 31 = true ∧ (s.fld (pgPMB b + 0x048) 31 31 = 1 ∨ txnLenOk v = false) then s.badAccess a
  else
    let s1 := s.setReg a (v &&& 0x703F7FFF)
    if bit v 31 then (s1.put (pgPMB b + 0x048) 31 31 1).pmbPush b .host else s1

/-- A write of PMB_HSC_OFF (R393). -/
def State.writeHscOff (s : State) (v : W32) : State :=
  if bitsOf v 31 16 = 0x4F46 ∧ s.mode = 0 then (if bit v 0 then s.orderHscOff else s) else s.badAccess (pgPMB 0 + 0x08C)

/-! ## GPIO (R394) -/

/-- A pin's debounced level changes. -/
def State.gpioChange (s : State) (n : Nat) (level : Bool) : State :=
  if s.fld (pgGPIO + 0x048) n n = b2n level then s
  else
    let s1 := s.put (pgGPIO + 0x048) n n (b2n level)
    let e := s1.fld (pgGPIO + 0x04C) (2 * n + 1) (2 * n)
    if bit (BitVec.ofNat 2 e) (if level then 0 else 1) then
      let s2 := (s1.irqBit pgGPIO n).boardPulse 0 n
      if s2.fld (pgBMON + 0x040) 29 28 = 2 ∧ s2.fld (pgBMON + 0x040) 27 24 = n then s2.bmonTrigger else s2
    else s1

end Sys2Proof.Machine
end

