-- ==== Sys2Proof/Machine/Board.lean ====
section
/-! DEFINITION. The commands of the board monitor (R381 to R396). -/

namespace Sys2Proof.Machine

open Sys2Proof

/-- R384: START in BMON_CTRL. -/
def execScanStart (s : State) : Host.Outcome State Fault Refusal :=
  .next (s.access (pgBMON + 0x04C) (fun s => s.writeBmonCtrl 0x80000000))

/-- R384: PERIOD_US has passed. -/
def execScanTimer (s : State) : Host.Outcome State Fault Refusal :=
  .next (
    if s.boardOn = true ∧ s.fld (pgBMON + 0x040) 29 28 = 1 ∧ s.fld (pgBMON + 0x040) 15 0 ≠ 0 then s.bmonTrigger else s)

/-- R383: the start-up wait ends. -/
def execAdcStartupDone (s : State) : Host.Outcome State Fault Refusal :=
  .next (if s.bmon.starting then ({ s with bmon := { s.bmon with starting := false, powered := true } } : State).bmonNext else s)

/-- R385: INJ_GO with INJ_CH. -/
def execInjGo (ch : W6) (s : State) : Host.Outcome State Fault Refusal :=
  .next (s.access (pgBMON + 0x04C) (fun s => s.writeBmonCtrl (BitVec.ofNat 32 (2 ^ 29 + ch.toNat))))

/-- R385: CAL_GO. -/
def execCalGo (s : State) : Host.Outcome State Fault Refusal :=
  .next (s.access (pgBMON + 0x04C) (fun s => s.writeBmonCtrl 0x40000000))

/-- R385, R387 to R389: the conversion in progress ends with a code; SCAN_DONE or INJ_DONE; the next work. -/
def execConversionDone (code : W12) (s : State) : Host.Outcome State Fault Refusal :=
  .next (match s.bmon.cur with
    | some (.scan c) =>
      let s1 := s.bmonResult false c code
      let s2 := if s1.bmon.scan = some [] then ({ s1 with bmon := { s1.bmon with scan := none } } : State).irqBit pgBMON 1 else s1
      ({ s2 with bmon := { s2.bmon with cur := none } } : State).bmonNext
    | some (.inj c) =>
      let s1 := (s.bmonResult true c code).irqBit pgBMON 3
      ({ s1 with bmon := { s1.bmon with cur := none, inj := none } } : State).bmonNext
    | _ => s)

/-- R386: BMON_CAL, CAL_VALID, CAL_DONE; the next work. -/
def execCalDone (gain offset : W16) (s : State) : Host.Outcome State Fault Refusal :=
  .next (
    if s.bmon.cur = some .cal then
      let s1 := (s.setReg (pgBMON + 0x064) (gain ++ offset)).put (pgBMON + 0x050) 26 26 1
      let s2 := s1.irqBit pgBMON 2
      ({ s2 with bmon := { s2.bmon with cur := none, cal := false } } : State).bmonNext
    else s)

/-- R388. -/
def execBmonQueueRead (s : State) : Host.Outcome State Fault Refusal :=
  .next (s.readAccess (pgBMON + 0x054) State.bmonPop)

/-- R391: a write of PMB_TXN. -/
def execPmbTxnGo (b : Fin2) (v : W32) (s : State) : Host.Outcome State Fault Refusal :=
  .next (s.access (pgPMB b + 0x044) (fun s => s.writePmbTxn b v))

/-- R391: a transaction boundary. -/
def execPmbTxnStart (b : Fin2) (s : State) : Host.Outcome State Fault Refusal :=
  .next (if s.boardOn = true ∧ (s.pmbOf b).cur = none then s.pmbStart b else s)

/-- R390. -/
def execTxnDone (b : Fin2) (res : TxnRes) (s : State) : Host.Outcome State Fault Refusal := .next (s.txnEnds b (some res))

/-- R390: SCL has been low for 25 ms. -/
def execPmbTimeout (b : Fin2) (s : State) : Host.Outcome State Fault Refusal := .next (s.txnEnds b none)

/-- R391: PMBx_ALERT_L is low. -/
def execPmbAlert (b : Fin2) (s : State) : Host.Outcome State Fault Refusal :=
  .next (if s.boardOn = true ∧ s.fld (pgPMB b + 0x040) 0 0 = 1 then s.irqBit (pgPMB b) 1 else s)

/-- R392: POLL_MS has passed. -/
def execHscPoll (s : State) : Host.Outcome State Fault Refusal :=
  .next (
    let c := s.reg pgHsc
    let b := bitsOf c 30 30
    let q := s.pmbOf b
    if s.boardOn = true ∧ bit c 31 = true ∧ bitsOf c 23 16 ≠ 0 ∧ q.queue.contains .hscVin = false ∧ q.queue.contains .hscIin = false then
      (s.pmbPush b .hscVin).pmbPush b .hscIin
    else s)

/-- R393: a write of PMB_HSC_OFF. -/
def execHscOff (v : W32) (s : State) : Host.Outcome State Fault Refusal :=
  .next (s.access (pgPMB 0 + 0x08C) (fun s => s.writeHscOff v))

/-- R394: the debounced level of pin n becomes this one. -/
def execGpioEdge (n : W4) (level : Bool) (s : State) : Host.Outcome State Fault Refusal :=
  .next (if s.boardOn then s.gpioChange n.toNat level else s)

end Sys2Proof.Machine
end

