-- ==== Sys2Proof/Machine/PumpOps.lean ====
section
/-! DEFINITION. Pump channels (R411 to R416), rings and channels that a reset of their owner stops (R408, R409), and the
configuration state of a function. -/

namespace Sys2Proof.Machine

open Sys2Proof

/-! ## Channels -/

def chKey (off c : Nat) : Nat := entKey (pgPUMP + off) c

def State.chEnabled (s : State) (c : Nat) : Bool := decide (s.fld (chKey 0x04C c) 31 31 = 1)
/-- OWNER: values above 33 act as 33, PF0. -/
def State.chOwner (s : State) (c : Nat) : Nat := min (s.fld (chKey 0x04C c) 29 24) pf0
/-- Descriptors a channel's ring holds: SIZE_LOG2 6 to 12, other values act as 6. -/
def State.chSize (s : State) (c : Nat) : Nat :=
  let x := s.fld (chKey 0x04C c) 3 0
  2 ^ (if 6 ≤ x ∧ x ≤ 12 then x else 6)
def State.chHead (s : State) (c : Nat) : Nat := s.fld (chKey 0x050 c) 31 16
def State.chTail (s : State) (c : Nat) : Nat := s.fld (chKey 0x054 c) 15 0
/-- Descriptors posted and not completed. -/
def State.chPosted (s : State) (c : Nat) : Nat := (s.chTail c + 65536 - s.chHead c) % 65536
def State.setChState (s : State) (c n : Nat) : State := s.put (chKey 0x050 c) 15 14 n
def State.chList (s : State) (c : Nat) : List PumpDesc := tabGet (fun _ => []) s.pump c
def State.setChList (s : State) (c : Nat) (l : List PumpDesc) : State := { s with pump := tabSet (fun _ => []) s.pump c l }

/-- A channel enters STOPPED (2) or ABANDONED (3) with a result: nothing it has started stands any longer (R414). -/
def State.chStop (s : State) (c st res : Nat) : State :=
  (((s.setChState c st).put (chKey 0x050 c) 2 0 res).setChList c []).irqBit pgPUMP c

/-- A doorbell of a channel (R411). -/
def State.chDoorbell (s : State) (c tail : Nat) : State :=
  let s1 := s.put (chKey 0x054 c) 15 0 tail
  if s.chSize c < s1.chPosted c then (s1.raise pgPUMP 0).chStop c 2 4 else s1

/-! ## Descriptors (R412) -/

def PumpDesc.dir (d : PumpDesc) : Nat := bitsOf d.desc 31 30
def PumpDesc.int (d : PumpDesc) : Bool := bit d.desc 29
def PumpDesc.fence (d : PumpDesc) : Bool := bit d.desc 28
def PumpDesc.len (d : PumpDesc) : Nat := bitsOf d.desc 23 0
def PumpDesc.haddr (d : PumpDesc) : Nat := bitsOf d.desc 127 64
def PumpDesc.daddr (d : PumpDesc) : Nat := bitsOf d.desc 191 128

/-- A field outside R412. -/
def PumpDesc.invalid (d : PumpDesc) : Bool :=
  decide (d.dir = 3) || decide (bitsOf d.desc 27 24 ≠ 0) || decide (bitsOf d.desc 63 32 ≠ 0) || decide (bitsOf d.desc 223 192 ≠ 0)
  || decide (d.len < 4) || decide (d.len % 4 ≠ 0) || decide (d.haddr % 4 ≠ 0) || decide (d.daddr % 4 ≠ 0)

/-- A channel may fetch its next descriptor (R403, R413, R416). -/
def State.chFetches (s : State) (c : Nat) : Bool :=
  s.chEnabled c && decide (s.channelState c < 2) && s.canWrite (s.chOwner c) && decide (s.slotState 2 < 2)
  && !(decide (s.mode = 4) && decide (4 ≤ s.drainStep)) && decide ((s.chList c).length < 2)
  && decide ((s.chList c).length < s.chPosted c)

/-- What a fetched descriptor starts as: word 7 is the device's own. -/
def pumpDescOf (count : Nat) (f : PumpFetch) : PumpDesc :=
  match f with
  | .error => ⟨count, 0, 2⟩
  | .data x => let d : PumpDesc := ⟨count, x, 0⟩; if d.invalid then { d with bad := 4 } else d

/-- The next descriptor starts, unless a FENCE holds it behind an earlier one (R413). -/
def State.chFetch (s : State) (c : Nat) (f : PumpFetch) : State :=
  let l := s.chList c
  let d := pumpDescOf ((s.chHead c + l.length) % 65536) f
  if d.bad = 0 ∧ d.fence = true ∧ l ≠ [] then s else (s.setChList c (l ++ [d])).setChState c 1

/-! ## Data (R403, R413 to R415) -/

/-- KiB moved grow (PUMP_BYTES_IN, PUMP_BYTES_OUT). -/
def State.countBytes (s : State) (out : Bool) (n : Nat) : State :=
  let t := tabGet (fun _ => 0) s.pumpBytes (b2n out) + n
  let s1 := s.inc (pgPUMP1 + (if out then 0x048 else 0x044)) 31 0 (t / 1024)
  { s1 with pumpBytes := tabSet (fun _ => 0) s1.pumpBytes (b2n out) (t % 1024) }

/-- How a transfer went: the state after it, the bytes moved, whether some of them were poisoned, whether a device access failed. -/
structure PumpMove where
  st : State
  moved : Nat := 0
  poison : Bool := false
  err : Bool := false

/-- Bytes written to device memory, a 64-byte line at a time, until a line's write is answered with an error. -/
def devFill : Nat → PumpMove → Nat → List PByte → PumpMove
  | 0, m, _, _ => m
  | n + 1, m, a, bs =>
    if bs.length = 0 then m
    else
      let k := min bs.length (64 - a % 64)
      let r := m.st.devWrite {} a (bs.take k)
      if r.2 then devFill n { m with st := r.1, moved := m.moved + k, poison := m.poison || anyPoison (bs.take k) } (a + k) (bs.drop k)
      else { m with st := r.1, err := true }

/-- The largest payload of a write TLP. -/
def State.maxPayload (s : State) : Nat := 128 * 2 ^ min s.pcie.mps 2

/-- Device memory sent to host memory: one posted write per TLP (R413), EP set where it carries a poisoned word (R415). -/
def devSend : Nat → PumpMove → Nat → Nat → Nat → Nat → PumpMove
  | 0, m, _, _, _, _ => m
  | n + 1, m, fn, a, h, len =>
    if len = 0 then m
    else
      let k := min len (min m.st.maxPayload (4096 - h % 4096))
      let r := m.st.devRead {} a k
      if r.2.2 then
        devSend n { m with
          st := r.1.hostWrite fn h (unmark r.2.1) (anyPoison r.2.1) false, moved := m.moved + k, poison := m.poison || anyPoison r.2.1 }
          fn (a + k) (h + k) (len - k)
      else { m with st := r.1, err := true }

/-- Device memory copied to device memory, a destination line at a time. -/
def devCopy : Nat → PumpMove → Nat → Nat → Nat → PumpMove
  | 0, m, _, _, _ => m
  | n + 1, m, src, dst, len =>
    if len = 0 then m
    else
      let k := min len (64 - dst % 64)
      let r := m.st.devRead {} src k
      if r.2.2 then
        let w := r.1.devWrite {} dst r.2.1
        if w.2 then
          devCopy n { m with st := w.1, moved := m.moved + k, poison := m.poison || anyPoison r.2.1 } (src + k) (dst + k) (len - k)
        else { m with st := w.1, err := true }
      else { m with st := r.1, err := true }

/-- The bytes that arrived, with the marker of the 64-bit word each lies in. -/
def hostBytes (a : Nat) (r : PumpResp) (n : Nat) : List PByte :=
  ((r.data.take n).zip (List.range n)).map (fun x => (x.1, r.poison.contains ((a % 8 + x.2) / 8)))

/-- A descriptor's transfer and its RESULT: of two that apply the table's first, OK's row standing for data without poison (log 135). -/
def State.pumpMove (s : State) (fn : Nat) (d : PumpDesc) (r : PumpResp) : PumpMove × Nat :=
  if d.bad ≠ 0 then ({ st := s }, d.bad)
  else
    let m := match d.dir with
      | 0 => devFill d.len { st := s } d.daddr (hostBytes d.daddr r d.len)
      | 1 => devSend d.len { st := s } fn d.daddr d.haddr d.len
      | _ => devCopy d.len { st := s } d.haddr d.daddr d.len
    let hostErr := decide (d.dir = 0) && (r.err || decide (r.data.length < d.len))
    ({ m with st := (if d.dir = 0 then m.st.countBytes false m.moved else if d.dir = 1 then m.st.countBytes true m.moved else m.st) },
      if hostErr then 2 else if m.err then 3 else if m.poison then 1 else 0)

/-! ## Status words -/

/-- Word 7 of a descriptor. -/
def chStatusWord (res len : Nat) : Bytes := bytesLE 4 (2 ^ 31 + res * 2 ^ 28 + len)

/-- Where the status of the descriptor of a count stands. -/
def State.statusAddr (s : State) (c count : Nat) : Nat :=
  let base := (s.reg64 (chKey 0x044 c)).toNat
  base - base % 32 + 32 * (count % s.chSize c) + 28

/-- The channel's interrupt (R407). -/
def State.chInterrupt (s : State) (c : Nat) : State :=
  if s.chOwner c = pf0 then s.irqBit pgPUMP (16 + c) else s.sendVector (s.chOwner c) (s.fld (chKey 0x04C c) 18 8)

/-- A status is written, HEAD advances, and the interrupt follows (R403, R412, R413). -/
def State.writeStatus (s : State) (c : Nat) (d : PumpDesc) (res len : Nat) : State :=
  let s1 := s.hostWrite (s.chOwner c) (s.statusAddr c d.count) (chStatusWord res len) false false
  let s2 := (s1.put (chKey 0x050 c) 31 16 (d.count + 1)).put (chKey 0x050 c) 2 0 res
  if d.int then s2.chInterrupt c else s2

/-- The oldest started descriptor of a channel ends (R414). -/
def State.chComplete (s : State) (c : Nat) (r : PumpResp) : State :=
  match s.chList c with
  | [] => s
  | d :: rest =>
    let m := s.pumpMove (s.chOwner c) d r
    let s1 := if m.1.poison then m.1.st.raise pgPUMP 3 else m.1.st
    let s2 := (s1.setChList c rest).writeStatus c d m.2 m.1.moved
    if m.2 = 2 then (s2.raise pgPUMP 1).chStop c 2 2
    else if m.2 = 3 then (s2.raise pgPUMP 2).chStop c 2 3
    else if m.2 = 4 then (s2.raise pgPUMP 0).chStop c 2 4
    else if s2.chPosted c = 0 then s2.setChState c 0
    else s2

/-! ## Abandonment (R414) -/

/-- One descriptor of a channel is abandoned: no status where its owner cannot be reached. -/
def State.abandonDesc (s : State) (c : Nat) (d : PumpDesc) : State :=
  if s.canWrite (s.chOwner c) then s.writeStatus c d 5 0
  else (s.put (chKey 0x050 c) 31 16 (d.count + 1)).put (chKey 0x050 c) 2 0 5

/-- A channel's started descriptors are abandoned and it goes to ABANDONED. -/
def State.abandonChannel (s : State) (c : Nat) : State :=
  ((s.chList c).foldl (fun t d => t.abandonDesc c d) s).chStop c 3 5

/-- ABORT: every posted descriptor not yet completed, started or not. -/
def State.abortChannel (s : State) (c : Nat) : State :=
  let started := s.chList c
  let n := if s.chPosted c ≤ s.chSize c then s.chPosted c else started.length
  let later := (List.range (n - started.length)).map
    (fun i => ({ count := (s.chHead c + started.length + i) % 65536, desc := 0 } : PumpDesc))
  ((started ++ later).foldl (fun t d => t.abandonDesc c d) s).chStop c 3 5

/-! ## Function and link resets (R408, R409) -/

/-- Configuration space and MSI-X state of functions are reset. -/
def State.resetConfig (s : State) (p : Nat → Bool) : State :=
  { s with pcie := { s.pcie with
      bme := tabDrop s.pcie.bme p, msixEn := tabDrop s.pcie.msixEn p, unmasked := tabDrop s.pcie.unmasked (fun k => p (k / 4096)),
      pend := tabDrop s.pcie.pend (fun k => p (k / 4096)) } }

def isVf (n : Nat) : Bool := decide (1 ≤ n) && decide (n ≤ 32)

/-- VF Enable is cleared: the VFs are gone. -/
def State.dropVfs (s : State) : State :=
  { s.resetConfig isVf with pcie := { (s.resetConfig isVf).pcie with vfEnable := false } }

/-- The reset of one function's configuration space: PF1's holds the SR-IOV capability. -/
def State.resetFn (s : State) (fn : Nat) : State :=
  let s1 := s.resetConfig (fun n => decide (n = fn))
  if fn = 0 then { s1.dropVfs with pcie := { s1.dropVfs.pcie with numVfs := 0, ari := false } }
  else if fn = pf0 then { s1 with pcie := { s1.pcie with mps := 0 } }
  else s1

/-- The rings of the functions p names stop (CAUSE 7), and their channels are abandoned (R408). -/
def State.stopOwned (s : State) (p : Nat → Bool) : State :=
  let s1 := (List.range 256).foldl (fun t r =>
    if p (s.ringOwner r) = true then t.stopRing r 7 else t) s
  (List.range 16).foldl (fun t c => if p (s.chOwner c) = true then t.abandonChannel c else t) s1

/-- The link goes down (R409): every function is reset, the link reset is counted. -/
def State.linkDown (s : State) : State :=
  let s1 : State := { s with pcie := { ({} : PcieSt) with perstLow := s.pcie.perstLow } }
  let s2 := (s1.put (pgPCIE + 0x040) 31 23 0).inc (pgPCIE + 0x040) 15 0 1
  ((s2.stopOwned (fun n => decide (n ≤ 32))).raise pgPCIE 0).irqBit pgPCIE 1

end Sys2Proof.Machine
end

