-- ==== Sys2Proof/Machine/Pump.lean ====
section
/-! DEFINITION. The Pump's commands (R411, R413, R414, R416). -/

namespace Sys2Proof.Machine

open Sys2Proof

/-- PF1 and VF BARs answer with UR (R400). -/
def State.dataUr (s : State) : Bool :=
  decide (s.mode = 0) || decide (s.mode = 1) || (decide (s.mode = 4) && decide (6 ≤ s.drainStep))

/-- A function with a BAR2 that exists: PF1, or an enabled VF (R398, R399). -/
def State.hasBar2 (s : State) (fn : Nat) : Bool := decide (fn = 0) || s.vfOn fn

/-- A doorbell discarded under R402, and why: DB_OWNER 1, DB_RANGE 5. -/
def State.badDoorbell (s : State) (n : Nat) : State := (s.inc (pgPCIE + 0x054) 31 0 1).raise pgPCIE n

/-- A doorbell reaches its owner's ring, queue or channel, or is discarded (R400, R402). -/
def State.doorbell (s : State) (fn owner : Nat) (v : W32) (k : Nat → State → State) : State :=
  if s.hasBar2 fn = false ∨ s.dataUr = true then s
  else if fn ≠ owner ∨ bitsOf v 31 16 ≠ 0 then s.badDoorbell 1
  else k (bitsOf v 15 0) s

/-- R411: the doorbell of a Pump channel in BAR2. -/
def execPumpDoorbell (fn : Fn) (ch : W4) (v : W32) (s : State) : Host.Outcome State Fault Refusal :=
  .next (s.doorbell fn (s.chOwner ch.toNat) v (fun tail s => s.chDoorbell ch.toNat tail))

/-- R411, R416: PUMP_CH_DB, the doorbell of a PF0-owned channel. Written to a dozing Pump it is a level wake and is kept. -/
def State.writeChDb (s : State) (v : W32) : State :=
  let c := s.fld (pgPUMP + 0x040) 3 0
  if s.wide.isSome = true ∨ s.slotState 2 = 4 then s.access (pgPUMP + 0x05C) id
  else if s.chOwner c ≠ pf0 then s.badAccess (pgPUMP + 0x05C)
  else s.chDoorbell c (bitsOf v 15 0)

def execPumpChDb (v : W32) (s : State) : Host.Outcome State Fault Refusal := .next (s.writeChDb v)

/-- R413: a channel's next descriptor was fetched. -/
def execPumpDescFetch (ch : W4) (resp : PumpFetch) (s : State) : Host.Outcome State Fault Refusal :=
  .next (if s.chFetches ch.toNat then s.chFetch ch.toNat resp else s)

/-- R414: the oldest started descriptor's transfer ends. -/
def execPumpDescComplete (ch : W4) (resp : PumpResp) (s : State) : Host.Outcome State Fault Refusal :=
  .next (s.chComplete ch.toNat resp)

/-- The oldest started descriptor of a channel reads host memory. -/
def State.readsHost (s : State) (c : Nat) : Bool :=
  match s.chList c with
  | d :: _ => decide (d.dir = 0) && decide (d.bad = 0)
  | [] => false

/-- R414: a host read of the oldest started descriptor met the completion timeout; resp holds what arrived before. -/
def execCplTimeout (ch : W4) (resp : PumpResp) (s : State) : Host.Outcome State Fault Refusal :=
  .next (
    if s.readsHost ch.toNat then ((s.raise pgPCIE 4).chComplete ch.toNat { resp with err := true })
    else s)

/-- R414: RESUME of a channel. -/
def State.resumeChannel (s : State) (c : Nat) : State := if 2 ≤ s.channelState c then s.setChState c 0 else s

/-- PUMP_CH_CTRL; with both bits set ABORT acts first. -/
def State.writeChCtrl (s : State) (v : W32) : State :=
  let c := s.fld (pgPUMP + 0x040) 3 0
  let s1 := if bit v 1 then s.abortChannel c else s
  if bit v 0 then s1.resumeChannel c else s1

def execPumpAbort (s : State) : Host.Outcome State Fault Refusal :=
  .next (s.access (pgPUMP + 0x058) (fun s => s.abortChannel (s.fld (pgPUMP + 0x040) 3 0)))

def execPumpResume (s : State) : Host.Outcome State Fault Refusal :=
  .next (s.access (pgPUMP + 0x058) (fun s => s.resumeChannel (s.fld (pgPUMP + 0x040) 3 0)))

end Sys2Proof.Machine
end

