-- ==== Sys2Proof/Machine/Shadow.lean ====
section
/-! DEFINITION. The RUN copy of a group from shadow to live state (R49, R50, R66, R153, R155, R240, R245, R295, R322). -/

namespace Sys2Proof.Machine

open Sys2Proof

/-- One SH word of entry i of the register at address a takes its live place. -/
def State.copyWord (s : State) (a i : Nat) : State := s.setReg (entKey (a + 0x800) i) (s.reg (entKey a i))

/-- A word of an entry would change at the copy. -/
def State.copyChanges (s : State) (a i : Nat) : Bool := decide (s.reg (entKey (a + 0x800) i) ≠ s.reg (entKey a i))

/-- The first word of an entry, at 0x044 of its page, and all its SH words. -/
def ctxWords (b : Block) : List Nat :=
  match b with
  | .fqu => [0x044] | .fft => [0x044, 0x048, 0x04C] | .shp => [0x044] | .nsc => [0x044, 0x048, 0x04C, 0x050]
  | .code => [0x044, 0x048] | .abd => [0x044, 0x048, 0x04C] | .hrace => [0x044, 0x048, 0x04C] | .trace => [0x044, 0x048, 0x04C]
  | _ => []

/-- The coefficients and mask limits of a carrier. -/
def coefEntries (c : Nat) : List Nat :=
  (List.range 256).map (coefEntry false c) ++ (List.range 64).map (coefEntry true c)

/-- What a copy that changes an entry also does: a slot disarms, a filter's history clears (R322, R245). -/
def State.copied (s : State) (b : Block) (q i : Nat) : State :=
  match b with
  | .fqu => s.slotOff q i
  | .abd => { s with gsm := tabErase s.gsm (16 * q + i) }
  | .shp => { s with shpHist := tabDrop s.shpHist (ofQuad 256 (32 * q + i)) }
  | _ => s

/-- Entry i of a page of quadrant q, at the RUN copy of group g: copied when its shadow names g, unless its live owner is another
group that is not halted, which raises LIVE_DROP (R240). -/
def State.copyEntry (s : State) (b : Block) (q pg g i : Nat) : State :=
  let sh := s.reg (entKey (pg + 0x044) i)
  let lv := s.reg (entKey (pg + 0x844) i)
  if ownerOf b sh ≠ g then s
  else if ownerOf b lv ≠ g ∧ bit lv 31 = true ∧ s.cgHalted (ownerOf b lv) = false then s.raise pg 30
  else
    let offs := ctxWords b
    let coefs := if b = .shp then coefEntries i else []
    let ch := offs.any (fun o => s.copyChanges (pg + o) i) || coefs.any (fun k => s.copyChanges (pg + 0x054) k)
    let s1 := offs.foldl (fun t o => t.copyWord (pg + o) i) s
    let s2 := coefs.foldl (fun t k => t.copyWord (pg + 0x054) k) s1
    if ch then s2.copied b q i else s2

/-- The pages of a quadrant that hold SH fields. -/
def shadowPages (q : Nat) : List (Block × Nat) :=
  [(.fqu, pgFQU q), (.fft, pgFFT q), (.shp, pgSHP q), (.nsc, pgNSC q), (.code, pgCODE q), (.abd, pgABD q), (.hrace, pgHRACE q), (.trace, pgTRACE q)]

/-- A page is awake. -/
def State.awake (s : State) (pg : Nat) : Bool := match pageOf pg with | some p => !s.dark p | none => false

/-- The copy on every awake page. -/
def State.copyContexts (s : State) (g : Nat) : State :=
  (List.range 4).foldl (fun t q =>
    (shadowPages q).foldl (fun u p => if u.awake p.2 then (List.range (ctxCount p.1)).foldl (fun v i => v.copyEntry p.1 q p.2 g i) u else u) t) s

/-- The policy bits of the group's flows (R155). -/
def State.copyPolicies (s : State) (g : Nat) : State :=
  (List.range 4096).foldl (fun t f =>
    if t.flowEnabled f && decide (t.flowCg f = g) then t.setRowBit (pgFLOW 0 + 0x840) f (t.rowBit (pgFLOW 0 + 0x040) f) else t) s

/-- Every block that holds an SH field of the group, in whatever quadrant, is at IDLE or shallower (R66). -/
def State.copyReady (s : State) (g : Nat) : Bool :=
  decide (s.slotState 5 < 2)
  && (List.range 4).all (fun q => (shadowPages q).all (fun p => s.awake p.2 || !(s.touches g q || s.holdsShadow p.1 p.2 g)))

/-- The copy, CG_RUN_TIME, the QLOST bits of quadrants that are not fenced (R351), RUNNING; a FUNCTION fault that waited halts the
group at once (R70). -/
def State.startCopy (s : State) (g : Nat) : State :=
  let s1 := (s.copyContexts g).copyPolicies g
  let s2 := s1.setReg (pgCG g + 0x840) (s1.reg (pgCG g + 0x040))
  let s3 := (List.range 4).foldl (fun t q => if t.fenced q then t else t.setRowBit (pgDWEIR + 0x160 + 8 * q) g false) s2
  let s4 := (s3.setReg (pgCG g + 0x050) (BitVec.ofNat 32 s3.rawNs32)).setPhase g 0
  if tabGet (fun _ => false) s4.cgFault g then
    ({ s4 with cgFault := tabErase s4.cgFault g } : State).haltGroup g 1
  else s4.settle

end Sys2Proof.Machine
end

