-- ==== Sys2Proof/Machine/ModeOps.lean ====
section
/-! DEFINITION. Mode requests (R58 to R62) and the steps of DRAIN (R74 to R76). -/

namespace Sys2Proof.Machine

open Sys2Proof

/-! ## Requests (R61) -/

/-- A rejected request: LAST_RESULT 2, MODE_REJECT, a bad access. -/
def State.rejectMode (s : State) : State := ((s.put (pgDEV + 0x040) 11 8 2).irqBit pgDEV 2).badAccess (pgDEV + 0x044)

/-- A transition of its own begins (R58). -/
def State.startTransition (s : State) (target : Nat) : State := (s.put (pgDEV + 0x040) 6 4 target).put (pgDEV + 0x040) 7 7 1

def State.ejectEn (s : State) : Bool := decide (s.fld (pgDEV + 0x048) 0 0 = 1)
def State.hotswapOff (s : State) : Bool := decide (s.fld (pgDEV + 0x048) 1 1 = 1)

/-! ## Halts (R66) -/

/-- The timer of a STOPPING group expires. -/
def State.haltLimit (s : State) (g : Nat) : State :=
  ((((s.abandonGroup g).put (pgCG g + 0x048) 10 10 1).raise (pgCG g) 0).setPhase g 2).settle

/-! ## DRAIN -/

def State.setDrainStep (s : State) (n : Nat) : State := s.put (pgDEV + 0x040) 15 12 n

/-- Step 1, at the trigger: groups halt and fetching stops. -/
def State.startDrain (s : State) (cause : Nat) : State :=
  let s1 := ((((s.put (pgDEV + 0x040) 2 0 4).startTransition 0).put (pgDEV + 0x040) 17 16 cause).setDrainStep 1).setReg (pgDEV + 0x04C) 0
  let s2 : State := { s1.put (pgSLC + 0x040) 31 31 1 with drainRaw := s.kept.raw, ejectHeld := false }
  ((List.range 64).foldl (fun t g => t.haltGroup g 2) s2).irqBit pgDEV 1

/-- DRAIN step 5: the armed record, once no commit runs. A record longer than a bank is turned away as a COMMIT is. -/
def State.commitPending (s : State) : State :=
  if s.commit.isSome = true ∨ s.pendingRecord = false then s
  else if 65472 < s.fld (pgRSTO + 0x058) 16 0 then (s.put (pgRSTO + 0x068) 30 28 2).raise pgRSTO 0
  else
    let s1 := s.startCommit 1 s.stagedRecord
    { s1 with commit := s1.commit.map (fun k => { k with drain := true }) }

/-- The state a block of a quadrant takes at step 7 (R374). -/
def State.drainState (s : State) (q i floor : Nat) : Nat :=
  if s.fld (slotCtrlKey (qSlot q i)) 2 0 = 3 ∧ floor = 3 ∧ s.bankRetired (qSlot q i) = false then 3 else 4

/-- A quadrant's blocks leave for the quadrant's floor, their merge buffers drained (R172). -/
def State.blocksDown (s : State) (q floor : Nat) : State :=
  (List.range 52).foldl (fun t i => (t.drainSlot (qSlot q i)).modSlot (qSlot q i) (fun x =>
    { x with
      st := s.drainState q i floor, entry := .none, waking := false, latched := false,
      entries := if x.st = s.drainState q i floor then x.entries else x.entries + 1 })) s

/-- A level change in progress ends without its result. -/
def State.dropChange (s : State) (q : Nat) : State :=
  (s.put (plKey q) 31 31 0).setQuad q { s.quadSt q with changeTo := none, pendTarget := none }

/-- DRAIN step 7 for one quadrant: to its FLOOR, or to OFF when it is fenced or in reset. -/
def State.quadDown (s : State) (q : Nat) : State :=
  if s.fenced q then
    (((s.quadReset q).put (pgDWEIR + 0x140 + 4 * q) 26 24 0).dropChange q).domainSleep q 4
  else
    let floor := s.quadFloor q
    if (s.quadSt q).dom = floor ∧ (s.quadSt q).waking = false then s
    else
      let s1 := (List.range 6).foldl (fun t c => t.clearTiles (6 * q + c)) ((s.blocksDown q floor).dropChange q)
      s1.domainSleep q floor

/-- What starts with step n. -/
def State.enterStep (s : State) (n : Nat) : State :=
  let t := s.setDrainStep n
  match n with
  | 3 => t.lanesDepart (decide (s.fld (pgDEV + 0x048) 2 2 = 1))
  | 5 => t.commitPending
  | 7 => (List.range 4).foldl (fun u q => u.quadDown q) t
  | _ => t

/-- The work of the step in progress is done. -/
def State.stepDone (s : State) : Bool :=
  match s.drainStep with
  | 2 => s.tasks.all Task.ended
  | 4 => s.tasks.isEmpty && (List.range 16).all (fun c => (s.chList c).isEmpty)
  | 5 => s.commit.isNone
  | _ => true

/-- DORMANT is entered: VDD_CORE_DEV's blocks off, the duration, MODE_DONE, the hot-swap power-down. -/
def State.endDrain (s : State) : State :=
  let us := min (s.nsSince s.drainRaw / 1000) 0x3FFFF
  let hot := s.hotswapOff && decide (s.fld (pgDEV + 0x040) 17 16 = 2)
  let s1 := (s.coreOff.orderRail 4 false).setReg (pgDEV + 0x050) (BitVec.ofNat 32 us)
  let s2 := (s1.setDrainStep 0).endTransition 0 (if s.fld (pgDEV + 0x04C) 23 17 = 0 then 1 else 4)
  if hot then s2.orderHscOff else s2

/-- The next step begins, or DORMANT after step 7. -/
def State.nextStep (s : State) : State := if s.drainStep = 7 then s.endDrain else s.enterStep (s.drainStep + 1)

/-- What a cut does in step n (R74). In step 4 every record that is ready is written; the record of a task that has not ended follows its
end. -/
def State.cutStep (s : State) (n : Nat) : State :=
  match n with
  | 2 => (List.range 64).foldl (fun t g => if t.cgPhase g = 1 then t.haltLimit g else t) s
  | 4 => ((List.range 16).foldl (fun t c => if (t.chList c).isEmpty then t else t.abandonChannel c) s).writeAllReady
  | 5 => (match s.commit with
    | none => s
    | some k => (if k.cls = 1 then s.cutCommit.put (pgRSTO + 0x068) 30 28 4 else s.cutCommit).irqBit pgRSTO 0)
  | _ => s

end Sys2Proof.Machine
end

