-- ==== Sys2Proof/Machine/Boot.lean ====
section
/-! DEFINITION. BOOT (R423 to R427, R441). -/

namespace Sys2Proof.Machine

open Sys2Proof

/-- R423, R426: BOOT begins with the sampled BOOT_SRC; its step 1 raises VDD_CORE_DEV out of DORMANT (R61). -/
def execBootBegin (src : W2) (s : State) : Host.Outcome State Fault Refusal :=
  .next (
    if s.mode ≠ 1 ∨ s.wide.isSome = true ∨ s.boot.isSome = true then s
    else
      let s1 : State := { s.setReg (pgBTU + 0x040) (BitVec.ofNat 32 (2 ^ 24)) with
        boot := some { src := src.toNat, fromDormant := s.bootDormant }, bootDormant := false }
      let s2 := if s.bootDormant then s1.orderRail 4 true else s1
      if src = 3 then s2.bootFail 1 else s2)

/-- The boot in progress changes. -/
def State.modBoot (s : State) (f : BootSt → BootSt) : State := { s with boot := s.boot.map f }

/-- R425: fuses and the security record class read; host push opens its window. -/
def execFuseReadDone (s : State) : Host.Outcome State Fault Refusal :=
  .next (match s.boot with
    | none => s
    | some b =>
      if s.bootStep = 1 ∧ s.fld (pgBTU + 0x040) 19 19 = 0 then
        if b.src = 1 then (s.takeHssIndex.modBoot (fun x => { x with opened := true })).openWindow else s.takeHssIndex.setBootStep 2
      else s)

/-- BTU_PUSH_CTRL (R425). -/
def State.pushGo (s : State) : State :=
  if s.fld (pgBTU + 0x040) 19 19 = 1 then
    ((s.put (pgBTU + 0x040) 19 19 0).modBoot (fun x => { x with push := true })).setBootStep 2
  else s.badAccess (pgBTU + 0x050)

def execPushGo (s : State) : Host.Outcome State Fault Refusal := .next (s.access (pgBTU + 0x050) State.pushGo)

/-- R425: 850 ms after power-good. -/
def execPushWindowTimeout (s : State) : Host.Outcome State Fault Refusal :=
  .next (if s.fld (pgBTU + 0x040) 19 19 = 1 then s.bootFail 12 else s)

/-- A slot or the pushed manifest fails: slot B, the push window, or the end of BOOT (R423, R424). -/
def State.manifestBad (s : State) (b : BootSt) (code : Nat) : State :=
  if b.push then s.bootFail code
  else if b.slotB = false then s.modBoot (fun x => { x with slotB := true })
  else if b.src = 2 then (s.modBoot (fun x => { x with slotB := false, opened := true })).openWindow
  else s.bootFail code

/-- From host memory the manifest arrives only over a link that is up, with PF0's Bus Master Enable set (R403, R425). -/
def State.sourceOk (s : State) (b : BootSt) : Bool := !b.push || (s.linkUp && s.busMaster pf0)

/-- R422, R424: the manifest has been read. -/
def execManifestReadDone (m : ManifestRead) (s : State) : Host.Outcome State Fault Refusal :=
  .next (match s.boot with
    | none => s
    | some b =>
      if s.bootStep = 2 ∧ s.fld (pgBTU + 0x040) 19 19 = 0 then
        let code := if s.sourceOk b then s.manifestFail m else 8
        if code ≠ 0 then s.manifestBad b code
        else (s.modBoot (fun x => { x with manifest := some (parseManifest m.bytes) })).bootPlatform (parseManifest m.bytes) b.fromDormant
      else s)

/-- The required HEIGHT, 0: any. -/
def bootHeight (b : BootSt) : Nat := match b.manifest with | some m => m.height | none => 0

/-- The stacks' heights do not suit (R187, R426): absent, not a supported one, unlike the manifest's or each other's. -/
def State.heightsBad (s : State) (b : BootSt) (n h : Nat) : Bool :=
  decide (h = 0) || decide (h = 3) || (decide (bootHeight b ≠ 0) && decide (h ≠ bootHeight b))
  || (b.trained.any (fun k => decide (k ≠ n)) && decide (s.fld (pgHBMC (1 - n) + 0x044) 29 28 ≠ h))

/-- R426 step 4, R441: a stack has trained or recalibrated. -/
def execHbmStackTrained (n : Stack) (height : W2) (s : State) : Host.Outcome State Fault Refusal :=
  .next (match s.boot with
    | none => s
    | some b =>
      if s.bootStep = 4 ∧ b.trained.contains n.val = false then
        if s.heightsBad b n height.toNat then s.bootFail 9
        else
          let s1 := (s.put (pgHBMC n + 0x044) 31 31 1).put (pgHBMC n + 0x044) 29 28 height.toNat
          let s2 := s1.modBoot (fun x => { x with trained := n.val :: x.trained })
          if b.trained = [] then s2 else s2.setBootStep 5
      else s)

/-- The images read so far, in the order of the entries: a LOAD image is written to its DEST; one that came short is a read error, and
one whose hash differs ends the reading (R422 check 7, R426 step 5). The code is BOOT's FAIL, 0 when every image is in place. -/
def State.loadImages : State → List ImageEntry → List Bytes → State × Nat
  | s, [], _ => (s, 0)
  | s, _ :: _, [] => (s, 8)
  | s, e :: es, x :: xs =>
    let t := if e.load then (s.devWrite {} e.dest (plain (x.take e.len))).1 else s
    if x.length < e.len then (t, 8) else if sha384 (x.take e.len) ≠ e.hash then (t, 7) else t.loadImages es xs

/-- R426 step 5: the images have been read; step 6 is the transition out of BOOT (R58). -/
def execImagesLoaded (images : List (List W8)) (s : State) : Host.Outcome State Fault Refusal :=
  .next (match s.boot with
    | none => s
    | some b => match b.manifest with
      | none => s
      | some m =>
        if s.bootStep = 5 then
          let r := s.loadImages m.images images
          if s.sourceOk b = false then r.1.bootFail 8
          else if r.2 ≠ 0 then r.1.bootFail r.2
          else (r.1.setBootStep 6).startTransition (if m.factory then 5 else 2)
        else s)

/-- What the running manifest shows (R426): BTU_BOOT_STAT, BTU_SVN, BTU_MDIGEST. -/
def State.showManifest (s : State) (b : BootSt) (m : Manifest) : State :=
  let k := if m.ownerKey then 15 else m.keySlot
  let stat := b2n b.slotB * 2 ^ 31 + b2n b.push * 2 ^ 30 + b2n m.ownerKey * 2 ^ 29 + b2n m.factory * 2 ^ 28 + 6 * 2 ^ 24 + k
  (List.range 12).foldl (fun t i => t.setReg (pgBTU + 0x080 + 4 * i) ((m.digest >>> (32 * i)).setWidth 32))
    ((s.setReg (pgBTU + 0x040) (BitVec.ofNat 32 stat)).setReg (pgBTU + 0x044) m.svn)

/-- The wake of a quadrant at the end of BOOT: its domain, and every block that stands below IDLE (R375, R426 step 6, R441). -/
def State.bootDomain (s : State) (q : Nat) : State :=
  if s.quadOn q then s else (s.setQuad q { s.quadSt q with wakeSlots := (List.range 52).map (qSlot q) }).domainOn q

/-- The end of BOOT (R61, R375, R426 step 6). -/
def State.endBoot (s : State) (b : BootSt) (m : Manifest) : State :=
  let s1 : State := { s.showManifest b m with boot := none, kept := { s.kept with factorySeen := s.kept.factorySeen || m.factory } }
  let s2 := (List.range 4).foldl State.bootDomain (s1.setMode (if m.factory then 5 else 2))
  let s3 := s2.endTransition (if m.factory then 5 else 2) 1
  if s.ejectHeld = true ∧ s3.ejectEn = true then s3.startDrain 2 else { s3 with ejectHeld := false }

def execBootEnd (s : State) : Host.Outcome State Fault Refusal :=
  .next (match s.boot with
    | none => s
    | some b => match b.manifest with
      | some m => if s.bootStep = 6 then s.endBoot b m else s
      | none => s)

end Sys2Proof.Machine
end

