-- ==== Sys2Proof/Machine/Fft.lean ====
section
/-! DEFINITION. The FFT/DFT engine (R250 to R254). -/

namespace Sys2Proof.Machine

open Sys2Proof

/-! ## Context and descriptor -/

/-- The sizes of R250. -/
def fftSizes : List Nat :=
  [128, 160, 192, 240, 256, 320, 384, 480, 512, 640, 768, 960, 1024, 1280, 1536, 1920, 2048, 2560, 3072, 3840, 4096]

def EngJob.n (j : EngJob) : Nat := j.c 0 12 0
def EngJob.scale (j : EngJob) : Nat := min (j.c 0 23 20) 12
def EngJob.dcSkip (j : EngJob) : Nat := j.c 0 30 30
def EngJob.half (j : EngJob) : Nat := j.c 0 19 19
def EngJob.used (j : EngJob) : Nat := j.c 1 28 16
def EngJob.winAdv (j : EngJob) : Nat := j.c 1 10 0
def EngJob.firstLong (j : EngJob) : Bool := decide (j.f 0 16 16 = 1)
/-- P_k of R251. -/
def EngJob.prefix (j : EngJob) (k : Nat) : Nat := if k = 0 ∧ j.firstLong = true then j.c 2 26 16 else j.c 2 10 0

/-- The descriptor is invalid: OP, COUNT, reserved bits, alignment (R246). -/
def fftInvalid (w : BitVec 384) : Bool :=
  decide (4 ≤ wordFld w 0 31 28) || decide (wordFld w 0 15 0 = 0) || decide (wordFld w 0 23 17 ≠ 0) || decide (wordFld w 1 31 0 ≠ 0)
  || decide (bitsOf w 383 256 ≠ 0) || decide (bitsOf w 127 64 % 8 ≠ 0) || decide (bitsOf w 191 128 % 8 ≠ 0)
  || decide (wordFld w 6 31 0 % 8 ≠ 0) || decide (wordFld w 7 31 0 % 8 ≠ 0)

/-- The context checks of R250 and R251. -/
def fftCtxOk (j : EngJob) : Bool :=
  if 2 ≤ j.op then decide (j.n = 139) || decide (j.n = 839)
  else
    fftSizes.contains j.n && decide (j.used % 2 = 0) && decide (j.used ≤ j.n - 2 * j.dcSkip) && decide (j.winAdv ≤ j.c 2 10 0)
    && (!j.firstLong || decide (j.winAdv ≤ j.c 2 26 16))

/-! ## One transform -/

/-- The used bins in the order of R251. -/
def EngJob.bins (j : EngJob) : List Int :=
  let h := j.used / 2
  (List.range h).map (fun (i : Nat) => (i : Int) - h) ++ (List.range h).map (fun (i : Nat) => (i : Int) + j.dcSkip)

/-- Elements a transform reads after its skipped prefix, and what it skips. -/
def EngJob.inLen (j : EngJob) : Nat := if j.op = 1 then j.used else j.n
def EngJob.skip (j : EngJob) (k : Nat) : Nat := if j.op = 0 then j.prefix k - j.winAdv else 0
/-- Elements of a packed input and of an output. -/
def EngJob.inSpan (j : EngJob) (k : Nat) : Nat := if j.op = 0 then j.prefix k + j.n else j.inLen
def EngJob.outSpan (j : EngJob) (k : Nat) : Nat := if j.op = 0 then j.used else if j.op = 1 then j.prefix k + j.n else j.n

/-- Where transform k starts: by the stride, or packed behind the one before. -/
def strideOff (stride k : Nat) (span : Nat → Nat) : Nat :=
  if stride ≠ 0 then k * stride else if k = 0 then 0 else 4 * (span 0 + (k - 1) * span 1)

/-- The angle, in parts of 2 N, of input element i at output index o. -/
def EngJob.angle (j : EngJob) (i o : Int) : Int :=
  match j.op with
  | 0 => -(2 * o * i) - j.half * i + 2 * o * j.winAdv
  | 1 => 2 * i * o + j.half * o
  | 2 => -(2 * o * i)
  | _ => 2 * o * i

/-- The indices of the input elements: bins of an IFFT, positions otherwise; of the outputs: bins of an FFT. -/
def EngJob.inIx (j : EngJob) : List Int := if j.op = 1 then j.bins else (List.range j.n).map (fun (i : Nat) => (i : Int))
def EngJob.outIx (j : EngJob) : List Int := if j.op = 0 then j.bins else (List.range j.n).map (fun (i : Nat) => (i : Int))

/-- What a transform depends on beside its samples: equal inputs give equal bits (R254). -/
def EngJob.shape (j : EngJob) : List Nat :=
  [j.op, j.n, j.scale] ++ if j.op < 2 then [j.half, j.used, j.dcSkip, j.winAdv] else []

/-- An output component and whether it was clamped. -/
def EngJob.comp (j : EngJob) (xs : List W32) (v : Int) (k : Nat) : Int × Nat :=
  let u := Config.fftUlp j.shape xs k
  let bits := 128 + j.scale
  clamp16 (nearby v bits (2 ^ (bits - 1)) slack (if j.op < 2 then 2 else 4) u)

/-- The outputs of a transform and how many components were clamped. -/
def EngJob.transform (j : EngJob) (xs : List W32) : List W32 × Nat :=
  let ys := (j.outIx.zip (List.range j.outIx.length)).map (fun o =>
    let v := phaseSum (xs.map cplx) (j.inIx.map (fun i => j.angle i o.1)) (2 * j.n)
    (j.comp xs v.1 (2 * o.2), j.comp xs v.2 (2 * o.2 + 1)))
  (ys.map (fun y => elemInt y.1.1 y.2.1), (ys.map (fun y => y.1.2 + y.2.2)).sum)

/-- The prefix of an IFFT's output: samples from its tail (R252). -/
def EngJob.withPrefix (j : EngJob) (k : Nat) (ys : List W32) : List W32 :=
  if j.op = 1 then
    (List.range (j.prefix k)).map (fun (i : Nat) => ys.getD ((((i : Int) - j.prefix k) % j.n).toNat) 0) ++ ys
  else ys

/-! ## The job -/

/-- The transforms so far: the run, clamped components, transforms completed. -/
structure FftRun where
  run : JobRun
  sat : Nat := 0
  done : Nat := 0

def EngJob.step (j : EngJob) (x : FftRun) (k : Nat) : FftRun :=
  let r := x.run.read (j.src + strideOff (j.f 6 31 0) k j.inSpan + 4 * j.skip k) (4 * j.inLen)
  if r.1.ok then
    let y := j.transform (wordsOf r.2)
    let w := r.1.write (j.dst + strideOff (j.f 7 31 0) k j.outSpan) (wordBytesOf (j.withPrefix k y.1))
    if w.ok then ⟨w, x.sat + y.2, x.done + 1⟩ else { x with run := w }
  else { x with run := r.1 }

def fftWork (q : Nat) (j : EngJob) (n : Nat) (s : State) : State × Nat × List Nat :=
  let x := (List.range n).foldl (fun x k => if x.run.ok then j.step x k else x) ⟨(j.begin s), 0, 0⟩
  (if x.sat = 0 then x.run.st else x.run.st.raiseAt (pgFFT q) 16 (locQuad q) (some j.cg) false, x.run.cause,
    [min x.sat 0xFFFF, x.done, 0, 0])

def fftUnits (j : EngJob) : Nat := j.f 0 15 0

/-- R251. -/
def execFft (q : Quad) (s : State) : Host.Outcome State Fault Refusal := .next (s.runOp q 0 0 fftUnits (fftWork q))
/-- R252. -/
def execIfft (q : Quad) (s : State) : Host.Outcome State Fault Refusal := .next (s.runOp q 0 1 fftUnits (fftWork q))
/-- R252. -/
def execDft (q : Quad) (s : State) : Host.Outcome State Fault Refusal := .next (s.runOp q 0 2 fftUnits (fftWork q))
/-- R252. -/
def execIdft (q : Quad) (s : State) : Host.Outcome State Fault Refusal := .next (s.runOp q 0 3 fftUnits (fftWork q))

end Sys2Proof.Machine
end

