-- ==== Sys2Proof/Machine/Nsc.lean ====
section
/-! DEFINITION. The noise-shaped compression engine (R258 to R266). -/

namespace Sys2Proof.Machine

open Sys2Proof

/-! ## Context and descriptor -/

def EngJob.nStream (j : EngJob) : Nat := j.c 0 23 18 + 1
def EngJob.nRb (j : EngJob) : Nat := j.c 0 17 9
def EngJob.stream0 (j : EngJob) : Nat := j.c 1 31 22
def EngJob.init (j : EngJob) : Bool := decide (j.f 0 21 21 = 1)
def EngJob.sym (j : EngJob) : Nat := j.f 0 15 0
def EngJob.stateAt (j : EngJob) : Nat := bitsOf j.words 255 192
def EngJob.srcStride (j : EngJob) : Nat := j.f 8 31 0
def EngJob.dstStride (j : EngJob) : Nat := j.f 9 31 0
/-- The length of a width message (R264). -/
def widthMsgLen (nRb : Nat) : Nat := 8 + (nRb + 1) / 2

/-- The descriptor is invalid (R246, R260, R264); nRb is the context's. -/
def nscInvalid (w : BitVec 384) (nRb : Nat) : Bool :=
  let op := wordFld w 0 31 28
  decide (3 ≤ op) || decide (wordFld w 0 20 16 ≠ 0) || decide (wordFld w 1 23 0 ≠ 0) || decide (bitsOf w 383 320 ≠ 0)
  || (decide (op ≠ 1) && decide (wordFld w 8 31 0 ≠ 0))
  || decide (bitsOf w 127 64 % 8 ≠ 0) || decide (bitsOf w 191 128 % 8 ≠ 0)
  || decide (bitsOf w 255 192 % (if op = 1 then 8 else 64) ≠ 0)
  || decide (wordFld w 8 31 0 % 8 ≠ 0) || decide (wordFld w 9 31 0 % 8 ≠ 0)
  || (decide (op = 2) && decide (wordFld w 9 31 0 < widthMsgLen nRb))

/-- The context checks of R266. -/
def nscCtxOk (j : EngJob) : Bool :=
  decide (j.c 0 30 30 = if j.op = 1 then 1 else 0) && decide (1 ≤ j.nRb) && decide (j.nRb ≤ 275)
  && decide (j.stream0 + j.nStream ≤ 1024)

/-! ## Blocks (R258, R259) -/

/-- The mantissa of a component at exponent e. -/
def mantissa (x : Int) (e : Nat) : Int := if e = 0 then x else (x + 2 ^ (e - 1)) / 2 ^ e

/-- A mantissa fits w bits. -/
def fitsWidth (m : Int) (w : Nat) : Bool := decide (-(2 ^ (w - 1) : Int) ≤ m) && decide (m ≤ 2 ^ (w - 1) - 1)

/-- The exponent a block takes at width w. -/
def blockExp (xs : List Int) (w : Nat) : Nat :=
  ((List.range 16).find? (fun e => xs.all (fun x => fitsWidth (mantissa x e) w))).getD 15

/-- The components of samples, real before imaginary. -/
def components (l : List W32) : List Int := l.flatMap (fun x => [(cplx x).1, (cplx x).2])
/-- Samples of components. -/
def samplesOf : List Int → List W32
  | a :: b :: t => elemInt a b :: samplesOf t
  | _ => []

/-- A number as n bytes, most significant first. -/
def bytesBE (n v : Nat) : Bytes := (bytesLE n v).reverse
/-- The number a bit string spells, first bit most significant. -/
def bitString (bs : Bytes) : Nat := natLE bs.reverse

/-- A compressed block of width w. -/
def packBlock (xs : List Int) (w : Nat) : Bytes :=
  let e := blockExp xs w
  let v := xs.foldl (fun a x => a * 2 ^ w + (mantissa x e % 2 ^ w).toNat) 0
  BitVec.ofNat 8 (16 * e + (w - 1)) :: bytesBE (3 * w) v

/-- The components a compressed block expands to, and how many were clamped: header byte and mantissa bytes. -/
def expandBlock (h : W8) (bs : Bytes) : List Int × Nat :=
  let w := bitsOf h 3 0 + 1
  let v := bitString bs
  let ms := (List.range 24).map (fun i => (BitVec.ofNat w (v / 2 ^ (w * (23 - i)))).toInt)
  let xs := ms.map (fun m => clamp16 (m * 2 ^ bitsOf h 7 4))
  (xs.map (·.1), (xs.map (·.2)).sum)

/-! ## State blocks (R260) -/

/-- A block's adaptation state. -/
structure RbState where
  pEst : Nat := 0
  held : Nat := 0
  last : Nat := 0

/-- A stream's state block. -/
structure NscState where
  eLast : Nat := 0
  meas : Nat := 0
  heldSyms : Nat := 0
  stale : Bool := false
  fresh : Bool := false
  nrbLast : Nat := 0
  rb : List RbState := []

/-- SB. -/
def stateBlock (nRb : Nat) : Nat := 64 * ((16 + 8 * nRb + 63) / 64)

/-- A state block read from its bytes, by 64-bit words. -/
def nscOfBytes (bs : Bytes) (nRb : Nat) : NscState :=
  let w := fun (i : Nat) => BitVec.ofNat 64 (natLE ((bs.drop (8 * i)).take 8))
  { eLast := (w 0).toNat, meas := bitsOf (w 1) 7 0, heldSyms := bitsOf (w 1) 15 8, stale := bit (w 1) 16, fresh := bit (w 1) 17
    nrbLast := bitsOf (w 1) 47 32
    rb := (List.range nRb).map (fun r => ⟨bitsOf (w (r + 2)) 31 0, bitsOf (w (r + 2)) 47 32, bitsOf (w (r + 2)) 63 48⟩) }

/-- A state block as bytes. -/
def NscState.bytes (x : NscState) : Bytes :=
  bytesLE 8 x.eLast
  ++ bytesLE 8 (x.meas + x.heldSyms * 2 ^ 8 + b2n x.stale * 2 ^ 16 + b2n x.fresh * 2 ^ 17 + x.nrbLast * 2 ^ 32)
  ++ x.rb.flatMap (fun r => bytesLE 8 (r.pEst + r.held * 2 ^ 32 + r.last * 2 ^ 48))

/-- The state block of stream i of a job, zero under INIT. -/
def EngJob.readState (j : EngJob) (r : JobRun) (i : Nat) : JobRun × NscState :=
  if j.init then (r, nscOfBytes [] j.nRb)
  else
    let x := r.read (j.stateAt + i * stateBlock j.nRb) (16 + 8 * j.nRb)
    (x.1, nscOfBytes x.2 j.nRb)

/-- The state block of stream i is written. -/
def EngJob.writeState (j : EngJob) (r : JobRun) (i : Nat) (x : NscState) : JobRun :=
  r.write (j.stateAt + i * stateBlock j.nRb) x.bytes

/-! ## EXPAND (R261) -/

/-- A stream's expansion so far: where the next block lies, what remains of LENGTH, whether parsing has ended. -/
structure ExpandRun where
  run : JobRun
  at_ : Nat
  left : Nat
  ended : Bool := false
  peaks : List Nat := []
  energy : Nat := 0
  badRb : Nat := 0
  sat : Nat := 0

/-- The next block's components, if it parses: the run after its reads. -/
def ExpandRun.parse (x : ExpandRun) : JobRun × Option (Nat × List Int × Nat) :=
  if x.ended || decide (x.left = 0) then (x.run, none)
  else
    let h := x.run.read x.at_ 1
    let hb := h.2.getD 0 0
    let w := bitsOf hb 3 0 + 1
    if w < 4 ∨ x.left < 1 + 3 * w then (h.1, none)
    else
      let m := h.1.read (x.at_ + 1) (3 * w)
      let b := expandBlock hb m.2
      (m.1, some (1 + 3 * w, b.1, b.2))

/-- Block r of stream i. -/
def EngJob.expandRb (j : EngJob) (i : Nat) (x : ExpandRun) (r : Nat) : ExpandRun :=
  if x.run.ok then
    let p := x.parse
    if p.1.ok = false then { x with run := p.1 } else
    let xs := match p.2 with | some b => b.2.1 | none => List.replicate 24 (0 : Int)
    let w := p.1.write (j.dst + i * j.dstStride + 48 * r) (wordBytesOf (samplesOf xs))
    let peak := xs.foldl (fun a c => max a c.natAbs) 0
    let en := xs.foldl (fun a c => a + c.natAbs * c.natAbs) 0
    match p.2 with
    | some b => { x with run := w, at_ := x.at_ + b.1, left := x.left - b.1, peaks := x.peaks ++ [peak], energy := x.energy + en, sat := x.sat + b.2.2 }
    | none => { x with run := w, ended := true, peaks := x.peaks ++ [0], badRb := x.badRb + 1 }
  else x

/-- A compression job so far, with the counts of its result words. -/
structure NscRun where
  run : JobRun
  badRb : Nat := 0
  badFrame : Nat := 0
  sat : Nat := 0
  first : Nat := 0
  stale : Nat := 0
  gated : Nat := 0

/-- The frame of stream i: the run, its address, START_RB, N_RB and the bytes of blocks, or none when a check fails. -/
def EngJob.frame (j : EngJob) (r : JobRun) (i : Nat) : JobRun × Option (Nat × Nat × Nat × Nat) :=
  let a := r.read (j.src + 8 * i) 8
  let fa := natLE a.2
  let st := a.1.read fa 8
  let sw := BitVec.ofNat 64 (natLE st.2)
  if bit sw 63 && decide (bitsOf sw 31 22 = j.stream0 + i) && decide (8 ≤ bitsOf sw 15 0) then
    let h := st.1.read (fa + 8) 8
    let hw := BitVec.ofNat 64 (natLE h.2)
    let start := bitsOf hw 31 16
    let n := bitsOf hw 47 32
    (h.1, if start + n ≤ j.nRb then some (fa + 16, start, n, bitsOf sw 15 0 - 8) else none)
  else (st.1, none)

/-- The first lim blocks of stream i; its state block is written once the whole stream has been expanded. -/
def EngJob.expandStream (j : EngJob) (lim : Nat) (x : NscRun) (i : Nat) : NscRun :=
  if x.run.ok then
    let f := j.frame x.run i
    let s := if lim < j.nRb then (f.1, nscOfBytes [] j.nRb) else j.readState f.1 i
    match f.2 with
    | none =>
      if s.1.ok then
        let w := if lim < j.nRb then s.1 else j.writeState s.1 i { s.2 with fresh := false, nrbLast := 0 }
        { x with run := w, badFrame := x.badFrame + 1 }
      else { x with run := s.1 }
    | some (a, start, n, left) =>
      let e := (List.range (min n lim)).foldl (fun e k => j.expandRb i e (start + k)) { run := s.1, at_ := a, left := left }
      let rbs := (List.range j.nRb).map (fun r =>
        { s.2.rb.getD r {} with last := if start ≤ r then e.peaks.getD (r - start) 0 else 0 })
      let w := if lim < j.nRb then e.run else j.writeState e.run i { s.2 with eLast := e.energy, nrbLast := n, fresh := true, rb := rbs }
      { x with run := w, badRb := x.badRb + e.badRb, sat := x.sat + e.sat }
  else x

/-- The streams of a job, one after another, within n blocks in all. -/
def EngJob.streams (j : EngJob) (n : Nat) (one : Nat → NscRun → Nat → NscRun) (s : State) : NscRun :=
  (List.range j.nStream).foldl (fun x i => if i * j.nRb < n then one (min j.nRb (n - i * j.nRb)) x i else x) { run := (j.begin s) }

def nscUnits (j : EngJob) : Nat := j.nStream * j.nRb

def expandWork (q : Nat) (j : EngJob) (n : Nat) (s : State) : State × Nat × List Nat :=
  let x := j.streams n j.expandStream s
  let s1 := if x.badFrame = 0 then x.run.st else x.run.st.raiseAt (pgNSC q) 32 (locQuad q) (some j.cg) false
  let s2 := if x.sat = 0 then s1 else s1.raiseAt (pgNSC q) 16 (locQuad q) (some j.cg) false
  (s2, x.run.cause, [min x.badRb 0xFFFF, x.badFrame * 65536 + min x.sat 0xFFFF, 0, 0])

/-! ## PACK (R265) -/

/-- The width of a block whose modulation byte is m. -/
def EngJob.packWidth (j : EngJob) (m : W8) : Nat :=
  let c := if m.toNat < 8 then m.toNat else Config.packCode m % 8
  max 3 (j.c 3 (4 * c + 3) (4 * c)) + 1

/-- The first lim blocks of stream i, under the modulation bytes ms. -/
def EngJob.packStream (j : EngJob) (ms : Bytes) (lim : Nat) (x : NscRun) (i : Nat) : NscRun :=
  let out := j.dst + i * j.dstStride
  let h := x.run.write out (bytesLE 8 (j.sym + j.nRb * 2 ^ 32))
  let r := (List.range lim).foldl (fun (a : JobRun × Nat) r =>
    let b := a.1.read (j.src + i * j.srcStride + 48 * r) 48
    let p := packBlock (components (wordsOf b.2)) (j.packWidth (ms.getD r 0))
    (if b.1.ok then b.1.write a.2 p else b.1, a.2 + p.length)) (h, out + 8)
  { x with run := r.1 }

def packWork (j : EngJob) (n : Nat) (s : State) : State × Nat × List Nat :=
  let ms := (j.begin s).read j.stateAt j.nRb
  if ms.1.ok then
    let x := j.streams n (j.packStream ms.2) ms.1.st
    (x.run.st, x.run.cause, [0, 0, 8 + ((ms.2.map (fun m => 1 + 3 * j.packWidth m)).sum), 0])
  else (ms.1.st, ms.1.cause, [0, 0, 0, 0])

/-! ## UPDATE (R262 to R264) -/

/-- One symbol of a stream: its state afterwards, and whether it was gated in. -/
def EngJob.symbol (j : EngJob) (x : NscState) (pnew : List Nat) : NscState × Bool :=
  if x.fresh ∧ 0 < x.nrbLast ∧ j.c 2 31 0 * 24 * x.nrbLast < x.eLast then
    let rbs := (x.rb.zip (List.range j.nRb)).map (fun e =>
      let p := pnew.getD e.2 0
      let est := if p = 0 then e.1.pEst
        else if x.meas = 0 ∨ e.1.pEst = 0 then p
        else ((e.1.pEst : Int) + ((p : Int) - e.1.pEst) / 2 ^ j.c 1 17 15).toNat
      (⟨est, max e.1.last (e.1.held / 2), e.1.last⟩ : RbState))
    ({ x with rb := rbs, meas := min (x.meas + 1) 255, heldSyms := 0, stale := false, fresh := false }, true)
  else
    let h := min (x.heldSyms + 1) 255
    ({ x with heldSyms := h, stale := x.stale || decide (64 ≤ h), fresh := false }, false)

/-- The smallest k of R263. -/
def peakToNoise (peak p : Nat) : Int :=
  let ks := (List.range 33).map (fun (i : Nat) => (i : Int) - 16)
  (ks.find? (fun k => decide (peak * peak * 4 ^ (-k).toNat ≤ p * 4 ^ k.toNat))).getD 16

/-- The width of a block (R263). -/
def EngJob.width (j : EngJob) (x : NscState) (b : RbState) : Nat :=
  let fw := j.c 1 14 10
  if fw ≠ 0 then max 4 (min 16 fw)
  else if x.meas < 8 ∨ b.pEst = 0 then 16
  else
    let margin := (BitVec.ofNat 4 (j.c 1 21 18)).toInt
    (clampI 4 16 (peakToNoise b.held b.pEst + margin + (b2n x.stale : Nat))).toNat

/-- The width message of stream i (R264). -/
def EngJob.widthMsg (j : EngJob) (i : Nat) (ws : List Nat) : Bytes :=
  bytesLE 2 ((j.sym + j.f 1 31 24) % 65536) ++ bytesLE 2 (j.stream0 + i) ++ bytesLE 2 0 ++ bytesLE 2 j.nRb
  ++ (List.range ((j.nRb + 1) / 2)).map (fun k =>
      BitVec.ofNat 8 ((ws.getD (2 * k) 1 - 1) + 16 * (ws.getD (2 * k + 1) 1 - 1)))

/-- Stream i, when all of its blocks are in the job's reach. -/
def EngJob.updateStream (j : EngJob) (lim : Nat) (x : NscRun) (i : Nat) : NscRun :=
  if x.run.ok ∧ lim = j.nRb then
    let st := j.readState x.run i
    let p := st.1.read (j.src + 4 * (i * j.nRb)) (4 * j.nRb)
    let u := j.symbol st.2 ((wordsOf p.2).map BitVec.toNat)
    if p.1.ok then
      let w := (j.writeState p.1 i u.1).write (j.dst + i * j.dstStride) (j.widthMsg i (u.1.rb.map (j.width u.1)))
      { x with run := w, first := x.first + b2n (decide (u.1.meas < 8)), stale := x.stale + b2n u.1.stale, gated := x.gated + b2n u.2 }
    else { x with run := p.1 }
  else x

def updateWork (j : EngJob) (n : Nat) (s : State) : State × Nat × List Nat :=
  let x := j.streams n j.updateStream s
  (x.run.st, x.run.cause, [0, 0, widthMsgLen j.nRb, x.first * 65536 + x.stale * 256 + x.gated])

/-- R261. -/
def execExpand (q : Quad) (s : State) : Host.Outcome State Fault Refusal := .next (s.runOp q 2 0 nscUnits (expandWork q))
/-- R265. -/
def execPack (q : Quad) (s : State) : Host.Outcome State Fault Refusal := .next (s.runOp q 2 1 nscUnits packWork)
/-- R262 to R264. -/
def execUpdate (q : Quad) (s : State) : Host.Outcome State Fault Refusal := .next (s.runOp q 2 2 nscUnits updateWork)

end Sys2Proof.Machine
end

