-- ==== Sys2Proof/Machine/Shp.lean ====
section
/-! DEFINITION. The shaping engine (R255 to R257). -/

namespace Sys2Proof.Machine

open Sys2Proof

/-! ## Context and descriptor -/

def EngJob.taps (j : EngJob) : Nat := j.c 0 8 0
def EngJob.complexCoef (j : EngJob) : Bool := decide (j.c 0 30 30 = 1)
def EngJob.samples (j : EngJob) : Nat := j.f 1 23 0
def EngJob.carrier (j : EngJob) : Nat := j.f 0 27 23

/-- The descriptor is invalid (R246). -/
def shpInvalid (w : BitVec 384) : Bool :=
  decide (wordFld w 0 31 28 ≠ 0) || decide (wordFld w 1 23 0 = 0) || decide (wordFld w 0 21 0 ≠ 0) || decide (wordFld w 1 31 24 ≠ 0)
  || decide (bitsOf w 383 192 ≠ 0) || decide (bitsOf w 127 64 % 8 ≠ 0) || decide (bitsOf w 191 128 % 8 ≠ 0)

/-- TAPS of R255. -/
def shpCtxOk (j : EngJob) : Bool := decide (1 ≤ j.taps) && decide (j.taps ≤ if j.complexCoef then 128 else 256)

/-! ## History -/

def histKey (q c i : Nat) : Nat := 256 * (32 * q + c) + i
def State.hist (s : State) (q c : Nat) : List W32 := (List.range 255).map (fun i => tabGet (fun _ => 0) s.shpHist (histKey q c i))
def State.setHist (s : State) (q c : Nat) (l : List W32) : State :=
  { s with shpHist := (List.range 255).foldl (fun t i => tabSet (fun _ => 0) t (histKey q c i) (l.getD i 0)) s.shpHist }

/-! ## The filter (R255, R256) -/

/-- A coefficient of 18 bits. -/
def coefInt (x : W32) : Int := (x.extractLsb' 0 18).toInt

/-- Tap t. -/
def EngJob.tap (j : EngJob) (t : Nat) : Int × Int :=
  if j.complexCoef then (coefInt (j.coef.getD (2 * t) 0), coefInt (j.coef.getD (2 * t + 1) 0)) else (coefInt (j.coef.getD t 0), 0)

/-- The exact sum over the window, newest sample first. -/
def EngJob.firSum (j : EngJob) (win : List W32) : Int × Int :=
  (List.range j.taps).foldl (fun a t =>
    let h := j.tap t
    let x := cplx (win.getD t 0)
    (a.1 + h.1 * x.1 - h.2 * x.2, a.2 + h.1 * x.2 + h.2 * x.1)) (0, 0)

/-- Rounding and clamping of R256. -/
def firOut (acc : Int) : Int × Nat := clamp16 ((acc + 2 ^ 16) / 2 ^ 17)

/-- A block through the filter: outputs, history afterwards, clamps. -/
def EngJob.filter (j : EngJob) (hist : List W32) : List W32 → List W32 × List W32 × Nat
  | [] => ([], hist, 0)
  | x :: xs =>
    let a := j.firSum (x :: hist)
    let re := firOut a.1
    let im := firOut a.2
    let r := j.filter ((x :: hist).take 255) xs
    (elemInt re.1 im.1 :: r.1, r.2.1, re.2 + im.2 + r.2.2)

/-! ## The mask checker (R257) -/

/-- w[n]. -/
def maskWindow (n : Nat) : Int :=
  let c := fun (k : Nat) => (unitRoot (k * n) 64).1
  (2 * 32767 * (35875 * unity - 48829 * c 1 + 14128 * c 2 - 1168 * c 3) + 100000 * unity) / (2 * 100000 * unity)

/-- The windowed block. -/
def windowed (ys : List W32) : List (Int × Int) :=
  (List.range 64).map (fun n =>
    let y := cplx (ys.getD n 0)
    ((maskWindow n * y.1 + 2 ^ 14) / 2 ^ 15, (maskWindow n * y.2 + 2 ^ 14) / 2 ^ 15))

/-- P[b] of a block, within 1 of the value R257 gives. -/
def blockPower (ys : List W32) (b : Nat) : Nat :=
  let x := phaseSum (windowed ys) ((List.range 64).map (fun (n : Nat) => -((b * n : Nat) : Int))) 64
  (nearby (x.1 * x.1 + x.2 * x.2) 272 0 (2 ^ 190) 1 (Config.maskUlp ys b)).toNat

/-- Bins over their mask. -/
def overBins (limit : List W32) (sum : List Nat) (blocks : Nat) : List Nat :=
  if blocks = 0 then [] else indices 64 (fun b => decide ((limit.getD b 0).toNat < sum.getD b 0 / blocks))

/-! ## The job -/

/-- The blocks so far: the run, the history, clamps, blocks measured and the sums of their powers. -/
structure ShpRun where
  run : JobRun
  hist : List W32
  sat : Nat := 0
  blocks : Nat := 0
  sum : List Nat := []

/-- Block k of 64 samples, the last one shorter. -/
def EngJob.shapeBlock (j : EngJob) (x : ShpRun) (k : Nat) : ShpRun :=
  let n := min 64 (j.samples - 64 * k)
  let r := x.run.read (j.src + 256 * k) (4 * n)
  if r.1.ok then
    let y := j.filter x.hist (wordsOf r.2)
    let w := r.1.write (j.dst + 256 * k) (wordBytesOf y.1)
    if w.ok then
      if j.c 0 23 23 = 1 ∧ n = 64 then
        ⟨w, y.2.1, x.sat + y.2.2, x.blocks + 1, (List.range 64).map (fun b => x.sum.getD b 0 + blockPower y.1 b)⟩
      else ⟨w, y.2.1, x.sat + y.2.2, x.blocks, x.sum⟩
    else { x with run := w }
  else { x with run := r.1 }

def shpUnits (j : EngJob) : Nat := (j.samples + 63) / 64

def shpWork (q : Nat) (j : EngJob) (n : Nat) (s : State) : State × Nat × List Nat :=
  let x := (List.range n).foldl (fun x k => if x.run.ok then j.shapeBlock x k else x)
    ⟨(j.begin s), if j.f 0 22 22 = 1 then [] else s.hist q j.carrier, 0, 0, []⟩
  let hot := overBins j.limit x.sum x.blocks
  let s1 := x.run.st.setHist q j.carrier x.hist
  let s2 := if x.sat = 0 then s1 else s1.raiseAt (pgSHP q) 16 (locQuad q) (some j.cg) false
  let s3 := if hot = [] then s2 else (s2.raiseAt (pgSHP q) 32 (locQuad q) (some j.cg) false).irqBit (pgSHP q) 0
  let m := (hot.map (fun b => 2 ^ b)).sum
  (s3, x.run.cause, [hot.length * 65536 + min x.sat 0xFFFF, x.blocks, m % 2 ^ 32, m / 2 ^ 32])

/-- R255 to R257. -/
def execFilter (q : Quad) (s : State) : Host.Outcome State Fault Refusal := .next (s.runOp q 1 0 shpUnits (shpWork q))

end Sys2Proof.Machine
end

