-- ==== Sys2Proof/Machine/Engines.lean ====
section
/-! DEFINITION. A job's acceptance and its finish (R244 to R246, R269, R270, R276, R295). -/

namespace Sys2Proof.Machine

open Sys2Proof

/-- The live words the engine holds of a context. -/
def engCtxWords (e : Nat) : Nat := match e with | 0 => 3 | 1 => 1 | 2 => 4 | 3 => 2 | _ => 3

/-- A job as the engine holds it after reading words 0 to 11. -/
def State.jobOf (s : State) (q e : Nat) (t : Task) (w : BitVec 384) : EngJob :=
  let pg := engPg q e
  let i := ctxIndex e w
  let ctx := s.liveCtx pg i (engCtxWords e)
  { ring := t.ring, seq := t.seq, cg := t.cg, quad := q, argp := t.argp.toNat, op := wordFld w 0 31 28, words := w, ctx := ctx
    coef := if e = 1 then (List.range 256).map (fun k => s.reg (entKey (pg + 0x854) (coefEntry false i k))) else []
    limit := if e = 1 then (List.range 64).map (fun k => s.reg (entKey (pg + 0x854) (coefEntry true i k))) else []
    soft := if e = 3 && hasSoft w then (s.softRange q t.cg w (bitsOf (ctx.getD 1 0) 27 0)).1 else (0, 0) }

/-- The descriptor of a job is invalid. -/
def jobInvalid (e : Nat) (j : EngJob) : Bool :=
  decide (j.argp % 64 ≠ 0)
  || (match e with
      | 0 => fftInvalid j.words
      | 1 => shpInvalid j.words
      | 2 => nscInvalid j.words j.nRb
      | 3 => codeInvalid j.words (j.c 1 27 0)
      | _ => abdInvalid j.words)

/-- The context of a job fails: VALID, OWNER, or a check of its chapter. -/
def State.jobCtxOk (s : State) (q e : Nat) (j : EngJob) : Bool :=
  decide (j.c 0 31 31 = 1) && decide (j.c 0 29 24 = j.cg)
  && (match e with
      | 0 => fftCtxOk j
      | 1 => shpCtxOk j
      | 2 => nscCtxOk j
      | 3 => !hasSoft j.words || (s.softRange q j.cg j.words (j.c 1 27 0)).2
      | _ => abdCtxOk j)

/-- The engine accepts the job of a task: it reads words 0 to 11 once and checks them; a job that fails does no work. -/
def State.acceptJob (s : State) (q e u : Nat) (t : Task) : State :=
  let r : JobRun × Bytes := if t.argp.toNat % 64 = 0 then JobRun.read ⟨s, t.whoAt q, 0⟩ t.argp.toNat 48 else (⟨s, t.whoAt q, 1⟩, [])
  let j := r.1.st.jobOf q e t (BitVec.ofNat 384 (natLE r.2))
  let cause :=
    if r.1.cause ≠ 0 then r.1.cause
    else if jobInvalid e j then 1
    else if r.1.st.jobCtxOk q e j then 0
    else 2
  r.1.st.setEng q u (some (if cause = 0 then j else { j with cause := cause, ran := true, soft := (0, 0) }))

/-- R246, R270: the head the port passes on is checked as R145 checks a dispatch, and accepted. -/
def execEngineJobOffer (q : Quad) (e : Eng) (s : State) : Host.Outcome State Fault Refusal :=
  .next (
    if s.quadDark q = true ∨ 2 ≤ s.slotState (engSlot q e) then s
    else match s.engPick q e with
      | none => s
      | some t =>
        let c := s.checkMarks t
        if c.2 then s.endWaiting t (s.waitStatus c.1)
        else
          let u := s.headUnit q e t
          (s.mapTask t.ring t.seq (fun x => { x with place := .engine q u })).acceptJob q e u t)

/-- R244, R246, R247: once the work is done, the result words are written and the finish is reported. -/
def execEngineJobFinish (q : Quad) (u : JobUnit) (s : State) : Host.Outcome State Fault Refusal :=
  .next (match s.engJob q u with
    | none => s
    | some j =>
      if j.ran = true ∧ s.quadDark q = false ∧ s.fenced q = false then
        let r := if unitEng u = 4 then s.gsmLate q j else (s, j)
        r.1.finishJob q u r.2
      else s)

end Sys2Proof.Machine
end

