-- ==== Sys2Proof/Machine/Faults.lean ====
section
/-! DEFINITION. The commands of chapter 14: integrity faults, sags, the phases of a fence, injection. -/

namespace Sys2Proof.Machine

open Sys2Proof

/-- R338, R339, R343, R344, R353, R354: an integrity source fires, and what else the blocks of its Weir present in that cycle. -/
def execIntegrityFault (weir : WeirIx) (page : PageIx) (errs : BitVec 32) (srcs : List IntegSrc) (others : List BlockCycle) (s : State) :
    Host.Outcome State Fault Refusal :=
  .next (s.blocksCycle weir (⟨page, errs, srcs⟩ :: others))

/-- Two samples of a rail in consecutive cycles enter MIN_MV. -/
def State.noteSamples (s : State) (rail : Rail) (prev mv : W16) : State := (s.noteSample rail prev.toNat).noteSample rail mv.toNat

/-- R345 to R347: two consecutive samples below the threshold; a warning is raised once, until the rail has recovered. -/
def execSagWarn (rail : Rail) (x : Samples) (s : State) : Host.Outcome State Fault Refusal :=
  .next (
    let s1 := s.noteSamples rail x.prev x.mv
    if s.sagWarns rail x.prev.toNat = true ∧ s.sagWarns rail x.mv.toNat = true ∧ tabGet (fun _ => false) s.sagWarned rail = false then
      ({ s1 with sagWarned := tabSet (fun _ => false) s1.sagWarned rail true } : State).integrity (sagWeir rail)
        (if rail.val < 4 then 6 else if rail.val = 4 then 20 else 22) none .other (if rail.val < 4 then locQuad rail else 0) false
    else s1)

/-- R345: two consecutive samples below the threshold: SAG_FENCE, DEV_SAG or WELL_SAG; a quadrant already fenced for sag raises none
(R347). -/
def execSagAction (rail : Rail) (x : Samples) (s : State) : Host.Outcome State Fault Refusal :=
  .next (
    let s1 := s.noteSamples rail x.prev x.mv
    if s.sagActs rail x.prev.toNat = false ∨ s.sagActs rail x.mv.toNat = false
        ∨ (rail.val < 4 ∧ s.fenced rail = true ∧ (s.quadSt rail).fenceSag = true) then s1
    else s1.integrity (sagWeir rail) (if rail.val < 4 then 7 else if rail.val = 4 then 21 else 23) none .other
      (if rail.val < 4 then locQuad rail else 0) false)

/-- R347: the rail has stayed at or above its warning threshold for 10 µs. -/
def execSagWarnRearm (rail : Rail) (mv : W16) (s : State) : Host.Outcome State Fault Refusal :=
  .next (
    let s1 := s.noteSample rail mv.toNat
    if s.sagWarns rail mv.toNat then s1 else { s1 with sagWarned := tabErase s1.sagWarned rail })

/-- R349, R350. -/
def execFenceRequestsDrained (q : Quad) (s : State) : Host.Outcome State Fault Refusal :=
  .next (if s.fencePhase q = 1 then s.loseQuad q else s)

/-- R348: PHASE 3. -/
def execFenceRailOk (q : Quad) (s : State) : Host.Outcome State Fault Refusal :=
  .next (if s.fencePhase q = 4 then s.put (pgDWEIR + 0x140 + 4 * q.val) 26 24 3 else s)

/-- R348, R350: the quadrant's reset ends; its lanes restart. -/
def execFenceDone (q : Quad) (s : State) : Host.Outcome State Fault Refusal :=
  .next (
    if s.fencePhase q = 3 then
      let s1 := s.put (pgDWEIR + 0x140 + 4 * q.val) 26 24 0
      let s2 := (s1.setQuad q { s1.quadSt q with fenceSag := false, fenceInj := false }).irqBit pgDWEIR 6
      (List.range 16).foldl (fun t i => t.laneStart (16 * q.val + i)) s2
    else s)

/-- R358: a write of WEIR_INJ; a code this Weir does not receive is a bad access. -/
def State.writeWeirInj (s : State) (w : Nat) (v : W32) : State :=
  let a := pgWEIR w + 0x1C0
  let code := bitsOf v 4 0
  if s.factory = false then (if bit v 31 then s.liveDrop a else s.scoped a v (fun _ t => t))
  else if weirTakes w code = false then s.badAccess a
  else if bit v 31 = false then s.scoped a v (fun _ t => t)
  else ((s.setReg a v).put a 31 31 0).integrity w code (if integClass code = 4 then some (bitsOf v 21 16) else none) .other
    (if w < 4 then locQuad w else 0) true

def execWeirInj (weir : WeirIx) (v : W32) (s : State) : Host.Outcome State Fault Refusal :=
  .next (s.access (pgWEIR weir + 0x1C0) (fun s => s.writeWeirInj weir v))

end Sys2Proof.Machine
end

