-- ==== Sys2Proof/Machine/Lanes.lean ====
section
/-! DEFINITION. The commands of chapter 08: bring-up, lock loss, configuration, the lane-quad reference, bit slip, Ethernet ports,
PRBS and eye sweeps. An event that does not fit the lane's state changes nothing. -/

namespace Sys2Proof.Machine

open Sys2Proof

/-! ## Bring-up -/

/-- R206: the DISABLED rows. -/
def execLaneStart (l : Lane) (s : State) : Host.Outcome State Fault Refusal := .next (s.laneStart l)

/-- R199, R206: K28.5 alignment in HUNT. -/
def execLaneAlign (l : Lane) (s : State) : Host.Outcome State Fault Refusal :=
  .next (if s.laneOn l = true ∧ s.laneState l = 1 then
    ((s.setLaneState l 2).put (pgLANE l + 0x044) 25 25 1) else s)

/-- At rate 0 a lane exchanges HELLOs: in HELLO, and in UP at rate 0 (R222). -/
def State.helloRuns (s : State) (l : Nat) : Bool :=
  decide (s.laneState l = 2) || (decide (s.laneState l = 5) && decide (s.laneRate l = 0))

/-- R222: a HELLO every 20 µs. -/
def State.sendHello (s : State) (l : Nat) : State :=
  let seen := decide (3 ≤ (s.lane l).run)
  ((s.sendFrame0 l 0x48 seen).modLane l (fun x => { x with sent := if seen then min (x.sent + 1) 3 else x.sent })).helloLeave l

def execHelloSend (l : Lane) (s : State) : Host.Outcome State Fault Refusal :=
  .next (if s.laneOn l = true ∧ s.helloRuns l = true ∧ s.txOpen l = true then s.sendHello l else s)

/-- Each failure count takes the larger of the own value and the partner's (R201). -/
def State.mergeFails (s : State) (l : Nat) (theirs : W8) : State :=
  [1, 2, 3, 4].foldl (fun t r =>
    t.put (pgLANE l + 0x044) (7 + 2 * r) (6 + 2 * r) (max (t.failCount l r) (bitsOf theirs (2 * r - 1) (2 * r - 2)))) s

/-- LANE_RX_HELLO and LANE_RX_SER take a valid HELLO. -/
def State.storeHello (s : State) (l : Nat) (h : HelloMsg) : State :=
  (s.setReg (pgLANE l + 0x100) (BitVec.ofNat 32
    (h.cls.toNat * 2 ^ 29 + h.maxRate.toNat * 2 ^ 26 + b2n h.comma * 2 ^ 25 + b2n h.fecReq * 2 ^ 24 + h.fails.toNat * 65536
      + h.caps.toNat))).setReg64 (pgLANE l + 0x104) h.serial

/-- R201, R202, R205, R224, R225: a valid HELLO. A new serial number clears the counts and departs the old partner; on a lane in
UP the new one arrives at once. An attempt under way keeps its target (R208). -/
def State.goodHello (s : State) (l : Nat) (h : HelloMsg) : State :=
  let x := s.lane l
  let fresh := x.known && decide (s.rxSerial l ≠ h.serial)
  let other := match x.partner with | some p => decide (p ≠ h.serial) | none => false
  let s1 := if fresh then s.clearFails l else s
  let s2 := if other then s1.laneDeparts l else s1
  let s3 := ((s2.storeHello l h).mergeFails l h.fails).modLane l (fun x =>
    { x with
      known := true, timer := none,
      run := if fresh then 1 else min (x.run + 1) 3,
      got := if h.seen then min ((if fresh then 0 else x.got) + 1) 3 else (if fresh then 0 else x.got),
      sent := if fresh then 0 else x.sent })
  if s.laneState l = 3 ∨ s.laneState l = 4 then s3
  else
    let s4 := s3.put (pgLANE l + 0x044) 23 23 (b2n (!h.comma))
    let s5 := s4.put (pgLANE l + 0x044) 19 17 (s4.targets l).1
    let s6 := if h.comma = false ∧ s.allow3120 l = false then s5.put (pgLANE l + 0x044) 3 0 3 else s5
    if s.laneState l = 5 then
      if other then (s6.laneArrives l).regroup (s.linkOf l).1 else s6
    else s6.helloLeave l

/-- A lane takes HELLO and DEPART frames: while it exchanges them, and one that ends as an attempt begins or fails (R208). -/
def State.helloTaken (s : State) (l : Nat) : Bool :=
  s.laneOn l && (s.helloRuns l || decide (s.laneState l = 3) || decide (s.laneState l = 4))

/-- A frame at rate 0: a valid one acts by its TYPE, any other is discarded and counted in HELLO_BAD; code violations met on the way count in
CODE_ERR (R217, R222, R224). -/
def State.takeHello (s : State) (l : Nat) (x : HelloData) (code : Nat) : State :=
  let s1 := s.inc (pgLANE l + 0x054) 31 16 code
  if helloValid 0x48 x then s1.goodHello l (helloFields x)
  else if helloValid 0x44 x then (s1.laneDeparts l).regroup (s.linkOf l).1
  else s1.inc (pgLANE l + 0x10C) 15 0 1

def execHelloReceive (l : Lane) (x : HelloIn) (s : State) : Host.Outcome State Fault Refusal :=
  .next (if s.helloTaken l then s.takeHello l x.data x.code.toNat else s)

/-- R224: a DEPART frame on a lane in HELLO. -/
def execDepartFrameReceive (x : OnLane HelloData) (s : State) : Host.Outcome State Fault Refusal :=
  .next (if s.helloTaken x.lane then s.takeHello x.lane x.it 0 else s)

/-- R199: block lock in STEP, or lock of a lane whose port waits; its commas trail those of its group by skew blocks (R220). A partner
without commas gives none. -/
def execBlockLock (x : OnLane W10) (s : State) : Host.Outcome State Fault Refusal :=
  .next (
    if s.laneOn x.lane = true ∧ ((s.laneState x.lane = 3 ∧ s.forerunner x.lane = false) ∨ s.laneState x.lane = 6) then
      ((s.put (pgLANE x.lane + 0x044) 25 25 1).modLane x.lane (fun y => { y with skew := x.it.toNat })).stepLeave x.lane
    else s)

/-- R203: a TRAIN block received with block lock. -/
def execTrainReceive (l : Lane) (rxOk : Bool) (s : State) : Host.Outcome State Fault Refusal :=
  .next (
    if s.laneOn l = true ∧ s.laneState l = 3 ∧ s.rxLock l = true then
      (s.modLane l (fun x => { x with train := if rxOk then min (x.train + 1) 4 else 0 })).stepLeave l
    else s)

/-- R204: the STEP timeout. -/
def execStepTimeout (l : Lane) (s : State) : Host.Outcome State Fault Refusal :=
  .next (if s.laneState l = 3 then s.attemptFails l 1 else s)

/-- R205: the squelch of 100 µs ends. -/
def execTxSquelchEnd (l : Lane) (s : State) : Host.Outcome State Fault Refusal :=
  .next (
    if (s.lane l).squelch = true then
      let s1 := s.modLane l (fun x => { x with squelch := false })
      if s.laneState l ≠ 0 then s1.txOn l else s1
    else s)

/-! ## Partners without commas -/

/-- R206: CDR lock in STEP. -/
def execCdrLock (l : Lane) (s : State) : Host.Outcome State Fault Refusal :=
  .next (
    if s.laneOn l = true ∧ s.laneState l = 3 ∧ s.forerunner l = true then
      (((s.setLaneState l 4).put (pgLANE l + 0x050) 19 16 0).put (pgLANE l + 0x050) 10 0 0).irqBit (pgLANE l) 2
    else s)

/-- R210: a window of 1,024 blocks completes; its invalid headers count in CODE_ERR. -/
def execSyncWindowEnd (l : Lane) (errs : W11) (s : State) : Host.Outcome State Fault Refusal :=
  .next (
    if s.laneOn l = true ∧ s.forerunner l = true ∧ (s.laneState l = 4 ∨ s.laneState l = 5) then
      ((s.inc (pgLANE l + 0x050) 19 16 1).put (pgLANE l + 0x050) 10 0 errs.toNat).inc (pgLANE l + 0x054) 31 16 errs.toNat
    else s)

/-- R210: SLIP. -/
def State.slipBit (s : State) (l : Nat) : State :=
  if s.laneState l = 4 then
    ((s.put (pgLANE l + 0x050) 26 20 ((s.fld (pgLANE l + 0x050) 26 20 + 1) % 66)).put (pgLANE l + 0x050) 19 16 0).put (pgLANE l + 0x050) 10 0 0
  else s

/-- R210: ACCEPT. -/
def State.acceptSlip (s : State) (l : Nat) : State :=
  if s.laneState l = 4 ∧ s.fld (pgLANE l + 0x050) 19 16 ≠ 0 ∧ s.fld (pgLANE l + 0x050) 10 0 = 0 then s.toUp l
  else s.raise (pgLANE l) 3

def execSlip (l : Lane) (s : State) : Host.Outcome State Fault Refusal :=
  .next (s.access (pgLANE l + 0x050) (fun s => s.slipBit l))

def execAccept (l : Lane) (s : State) : Host.Outcome State Fault Refusal :=
  .next (s.access (pgLANE l + 0x050) (fun s => s.acceptSlip l))

/-- R204: the slip limit of 20 ms. -/
def execSlipLimit (l : Lane) (s : State) : Host.Outcome State Fault Refusal :=
  .next (if s.laneState l = 4 then s.attemptFails l 2 else s)

/-! ## Lock loss -/

/-- A criterion of R200 applies to the lane as it stands: causes 1 LOS, 2 COMMA, 3 SYNC, 4 FEC, 5 PHASE, 6 CODE. LOS is ignored in
the first 100 µs of STEP (R203), and a Varne 3120 lane in UP applies LOS, SYNC and PHASE only (R210). -/
def State.lossApplies (s : State) (l cause : Nat) : Bool :=
  let r := s.laneRate l
  decide (2 ≤ s.laneState l) && decide (s.laneState l ≤ 5)
  && match cause with
    | 1 => !(decide (s.laneState l = 3) && decide (s.nsSince (s.lane l).stepRaw < 100000))
    | 2 => decide (1 ≤ r) && !s.forerunner l
    | 3 => decide (1 ≤ r)
    | 4 => decide (s.fld (pgLANE l + 0x044) 24 24 = 1) && !(s.forerunner l && decide (s.laneState l = 5))
    | 5 => true
    | 6 => decide (r = 0) && !(s.forerunner l && decide (s.laneState l = 5))
    | _ => false

/-- R200, R204, R206: a lock loss. Its group follows. -/
def State.lossOf (s : State) (l cause : Nat) : State :=
  let s1 := s.countLoss l cause
  let s2 := if cause = 1 then s1.put (pgLANE l + 0x044) 27 27 0 else s1
  if s.laneState l = 2 then s2.hunt l
  else if s.laneState l = 5 then ((s2.raise (pgLANE l) 0).irqBit (pgLANE l) 1).hunt l
  else s2.attemptLost l 4

/-- A criterion is met on a lane: a lock loss where it applies; LOS also shows in SIGNAL, the detector being powered unless the quadrant is
fenced (R209). -/
def State.lossMet (s : State) (l cause : Nat) : State :=
  if s.laneOn l && s.lossApplies l cause then s.lossOf l cause
  else if cause = 1 ∧ s.fenced (l / 16) = false then s.put (pgLANE l + 0x044) 27 27 0
  else s

/-- Lanes of one cycle lose lock, and each group changes once (R243). -/
def execLockLoss (l : Lane) (x : Losses) (s : State) : Host.Outcome State Fault Refusal :=
  .next (
    let s1 := if s.laneOn l then s.inc (pgLANE l + 0x054) 31 16 x.code.toNat else s
    let hit : List (Nat × Nat) := ((l : Nat), x.cause.toNat) :: x.also.map (fun p => ((p.1 : Nat), p.2.toNat))
    let lost := hit.filter (fun p => s.laneOn p.1 && s.lossApplies p.1 p.2)
    (hit.foldl (fun t p => t.lossMet p.1 p.2) s1).regroupAll (lost.map Prod.fst))

/-! ## Configuration -/

/-- A lane of a link whose MODE differs from the first's raises LINK_MODE_ERR (R218). -/
def State.modeCheck (s : State) (e : Nat) : State :=
  if (s.linkLanes e).any (fun l => decide (s.laneMode l ≠ s.laneMode e)) then s.raise (pgBLNK (e / 16)) 0 else s

/-- R209: a write of LANE_CFG; every field of it restarts the lane. The first lane's MODE and MAX_RATE are its link's (R218, R233). -/
def State.writeLaneCfg (s : State) (l : Nat) (v : W32) : State :=
  let a := pgLANE l + 0x040
  if bitsOf v 11 10 = 3 ∨ 5 ≤ bitsOf v 2 0 then s.badAccess a
  else s.scoped a v (fun old t =>
    let e := (t.linkOf l).1
    if t.reg a = old then t
    else
      let t1 := t.laneRestart l
      let t2 := if bitsOf old 11 10 ≠ t.laneMode l ∧ l = e then (t1.modeCheck e).regroup e else t1
      t2.portRate e)

def execLaneCfgWrite (l : Lane) (v : W32) (s : State) : Host.Outcome State Fault Refusal :=
  .next (s.access (pgLANE l + 0x040) (fun s => s.writeLaneCfg l v))

/-- R206: RETRAIN, of quadrant scope; a lane in DISABLED has no bring-up to restart. -/
def State.retrain (s : State) (l : Nat) : State :=
  if s.quadHalted (l / 16) = false then s.liveDrop (pgLANE l + 0x048) else s.laneRestart l

def execRetrain (l : Lane) (s : State) : Host.Outcome State Fault Refusal :=
  .next (s.access (pgLANE l + 0x048) (fun s => s.retrain l))

/-- Fantail is locked to its SyncE input: LOCKED or HOLDOVER (R318). -/
def State.eecLocked (s : State) : Bool := decide (2 ≤ s.fld (pgFTB1 + 0x044) 1 0)

/-- R198, R209: a write of LANE_QREF; SEL is writable on the first page of the lane-quad only. -/
def State.writeQref (s : State) (l : Nat) (v : W32) : State :=
  if l % 4 ≠ 0 then s
  else s.scoped (pgLANE l + 0x07C) v (fun old t =>
    if t.reg (pgLANE l + 0x07C) = old then t
    else
      let t1 := t.put (qrefKey l) 1 1 (if t.qrefSel l then b2n t.eecLocked else 0)
      (List.range 4).foldl (fun u i => u.laneRestart (l + i)) t1)

def execQrefSelWrite (l : Lane) (sel : Bool) (s : State) : Host.Outcome State Fault Refusal :=
  .next (s.access (pgLANE l + 0x07C) (fun s => s.writeQref l (BitVec.ofNat 32 (b2n sel))))

/-- R198: the lane-quad PLL locks to REF_CHASSIS, or Fantail is locked. -/
def execQrefLock (n : LaneQuad) (s : State) : Host.Outcome State Fault Refusal :=
  .next (if s.quadDark (n / 4) = false ∧ s.qrefLocked (4 * n) = false ∧ (s.qrefSel (4 * n) = false ∨ s.eecLocked = true) then
    s.qrefGained n else s)

/-- R198: LOCKED falls. -/
def execQrefUnlock (n : LaneQuad) (s : State) : Host.Outcome State Fault Refusal :=
  .next (if s.qrefLocked (4 * n) = true ∧ (s.qrefSel (4 * n) = false ∨ s.eecLocked = false) then s.qrefLost n else s)

/-- R209: the detector, which stays powered while the lane is dark, sees signal: a level wake. -/
def execSignalDetect (l : Lane) (s : State) : Host.Outcome State Fault Refusal :=
  .next (if s.fenced ((l : Nat) / 16) = false then s.put (pgLANE l + 0x044) 27 27 1 else s)

/-! ## Ethernet ports -/

/-- R212, R223, R233: the port of a lane is aligned. -/
def State.portUp (s : State) (e : Nat) : State :=
  let s1 := (s.linkLanes e).foldl (fun t l =>
    ((t.setLaneState l 7).put (pgLANE l + 0x044) 25 25 1).irqBit (pgLANE l) 0) s
  let s2 := (s1.put (pgLANE e + 0x200) 31 31 1).modLane e (fun x => { x with timer := none })
  (if s.ptPresent e then s2 else s2.linkArrives e e 0 2 0).showLink e

def execEthPortAligned (l : Lane) (s : State) : Host.Outcome State Fault Refusal :=
  .next (
    let e := (s.linkOf l).1
    if s.laneMode e = 1 ∧ (s.linkLanes e).all (fun i => s.laneOn i && decide (s.laneState i = 6)) = true
        ∧ ethRow (s.linkOf l).2 (s.maxRate e) = true then s.portUp e
    else s)

/-- R212: a loss of lock on a lane of a port. -/
def execEthLockLoss (l : Lane) (s : State) : Host.Outcome State Fault Refusal :=
  .next (
    if s.laneState l = 7 then ((s.raise (pgLANE l) 0).irqBit (pgLANE l) 1).portDown (s.linkOf l).1
    else if s.laneState l = 6 then s.put (pgLANE l + 0x044) 25 25 0
    else s)

/-! ## Test and measurement -/

/-- The checker's view of 95 received bits: they match, or, looped back inside the lane, the lane's own pattern does (R213, R215). -/
def State.prbsSeen (s : State) (l : Nat) (rx : BitVec 95) : Bool :=
  if s.loopback l = 1 then decide (s.fld (pgLANE l + 0x064) 31 31 = 1) else prbsMatches (s.fld (pgLANE l + 0x064) 29 28) rx

/-- R213. -/
def execPrbsCheckLock (x : OnLane (BitVec 95)) (s : State) : Host.Outcome State Fault Refusal :=
  .next (if s.laneOn x.lane = true ∧ s.laneState x.lane = 8 ∧ s.fld (pgLANE x.lane + 0x064) 30 30 = 1 ∧ s.prbsSeen x.lane x.it = true then
    s.put (pgLANE x.lane + 0x068) 31 31 1 else s)

/-- The lane checks its own pattern, without errors (R215). -/
def State.prbsOwn (s : State) (l : Nat) : Bool := decide (s.loopback l = 1) && decide (s.fld (pgLANE l + 0x064) 31 31 = 1)

/-- The locked checker has compared bits and met errors. -/
def State.prbsCount (s : State) (l : Nat) (errs : W32) (bits : W64) : State :=
  if s.fld (pgLANE l + 0x068) 31 31 = 1 then
    (s.inc (pgLANE l + 0x06C) 31 0 (if s.prbsOwn l then 0 else errs.toNat)).modLane l (fun x => { x with prbsBits := x.prbsBits + bits.toNat })
  else s

def execPrbsCheckUnlock (l : Lane) (errs : W32) (bits : W64) (s : State) : Host.Outcome State Fault Refusal :=
  .next (if s.prbsOwn l then s.prbsCount l errs bits else (s.prbsCount l errs bits).put (pgLANE l + 0x068) 31 31 0)

/-- R214: a read of LANE_PRBS_ERR. -/
def State.readPrbs (s : State) (l : Nat) : State :=
  { ((s.setReg (pgLANE l + 0x06C) 0).setReg (pgLANE l + 0x070) (BitVec.ofNat 32 (min ((s.lane l).prbsBits / 2 ^ 20) (2 ^ 32 - 1)))).modLane l
      (fun x => { x with prbsBits := 0 }) with
    readData := s.reg (pgLANE l + 0x06C) }

def execPrbsErrRead (l : Lane) (errs : W32) (bits : W64) (s : State) : Host.Outcome State Fault Refusal :=
  .next (s.readAccess (pgLANE l + 0x06C) (fun s => (s.prbsCount l errs bits).readPrbs l))

/-- R216: GO and ABORT of LANE_EYE_CTRL. -/
def State.eyeGo (s : State) (l : Nat) : State :=
  if (s.laneState l = 5 ∨ s.laneState l = 7 ∨ s.laneState l = 8) ∧ s.fld (pgLANE l + 0x078) 31 31 = 0 then
    ((s.put (pgLANE l + 0x078) 31 31 1).put (pgLANE l + 0x078) 30 30 0).modLane l (fun x => { x with eye := some {} })
  else s.raise (pgLANE l) 4
def State.eyeAbort (s : State) (l : Nat) : State :=
  s.modLane l (fun x => { x with eye := x.eye.map (fun e => { e with abort := true }) })

/-- A write of LANE_EYE_CTRL. -/
def State.writeEye (s : State) (l : Nat) (v : W32) : State :=
  s.scoped (pgLANE l + 0x074) v (fun _ t =>
    let t1 := if bit v 31 then t.eyeGo l else t
    if bit v 30 then t1.eyeAbort l else t1)

def execEyeSweepGo (l : Lane) (v : W32) (s : State) : Host.Outcome State Fault Refusal :=
  .next (s.access (pgLANE l + 0x074) (fun s => s.writeEye l (v ||| 0x80000000)))

def execEyeSweepAbort (l : Lane) (s : State) : Host.Outcome State Fault Refusal :=
  .next (s.access (pgLANE l + 0x074) (fun s => s.eyeAbort l))

/-- The field of LANE_EYE_RES that a direction's result goes to, and its last step. -/
def eyeField (dir : Nat) : Nat × Nat × Nat :=
  match dir with | 0 => (29, 24, 32) | 1 => (21, 16, 32) | 2 => (14, 8, 127) | _ => (6, 0, 127)

/-- R216: a point has been compared; dis is its disagreements. -/
def execEyePointDone (l : Lane) (dis : W32) (s : State) : Host.Outcome State Fault Refusal :=
  .next (match (s.lane l).eye with
    | none => s
    | some e =>
      if e.abort then s.eyeEnd l false
      else
        let f := eyeField e.dir
        let fails := decide (s.fld (pgLANE l + 0x074) 15 0 < dis.toNat)
        if fails = true ∨ e.step = f.2.2 then
          let s1 := s.put (pgLANE l + 0x078) f.1 f.2.1 (if fails then e.step - 1 else e.step)
          if e.dir = 3 then s1.eyeEnd l true
          else s1.modLane l (fun x => { x with eye := some { dir := e.dir + 1 } })
        else s.modLane l (fun x => { x with eye := some { e with step := e.step + 1 } }))

end Sys2Proof.Machine
end

