-- ==== Sys2Proof/Machine/Modes.lean ====
section
/-! DEFINITION. The commands of chapter 03: mode requests, EJECT_L, DRAIN, and the halt and start of carrier groups. -/

namespace Sys2Proof.Machine

open Sys2Proof

/-! ## Mode requests -/

/-- A write of DEV_MODE_REQ with its KEY, whose preconditions hold or do not (R61, R62). -/
def State.modeReq (s : State) (key : W16) (ok : Bool) (k : State → State) : State :=
  if key ≠ 0x4D0D then s.badAccess (pgDEV + 0x044)
  else if ok = true ∧ s.inTransition = false then k s
  else s.rejectMode

/-- TARGET 1: BOOT from DORMANT; the transition is over in the next cycle (R58). -/
def State.reqBoot (s : State) (key : W16) : State :=
  s.modeReq key (decide (s.mode = 0)) (fun s => { s.endTransition 1 1 with bootDormant := true })

/-- TARGET 2. -/
def State.reqConfig (s : State) (key : W16) : State :=
  s.modeReq key (decide (s.mode = 3) && (List.range 64).all s.cgHalted) (fun s => s.startTransition 2)

/-- TARGET 3. -/
def State.reqService (s : State) (key : W16) : State :=
  s.modeReq key (decide (s.mode = 2)) (fun s => s.startTransition 3)

/-- TARGET 4. -/
def State.reqDrain (s : State) (key : W16) : State :=
  s.modeReq key (decide (s.mode = 2) || decide (s.mode = 3) || decide (s.mode = 5)) (fun s => s.startDrain 1)

/-- A write of DEV_MODE_REQ. -/
def State.writeModeReq (s : State) (v : W32) : State :=
  let key : W16 := v.extractLsb' 16 16
  match bitsOf v 2 0 with
  | 1 => s.reqBoot key
  | 2 => s.reqConfig key
  | 3 => s.reqService key
  | 4 => s.reqDrain key
  | _ => s.modeReq key false id

def execModeReqBoot (key : W16) (s : State) : Host.Outcome State Fault Refusal := .next (s.reqBoot key)
def execModeReqConfig (key : W16) (s : State) : Host.Outcome State Fault Refusal := .next (s.reqConfig key)
def execModeReqService (key : W16) (s : State) : Host.Outcome State Fault Refusal := .next (s.reqService key)
def execModeReqDrain (key : W16) (s : State) : Host.Outcome State Fault Refusal := .next (s.reqDrain key)

/-- R58: a transition between CONFIG and SERVICE ends; an EJECT_L assertion that came during it acts. -/
def execModeDone (s : State) : Host.Outcome State Fault Refusal :=
  .next (
    if s.inTransition = true ∧ (s.mode = 2 ∨ s.mode = 3) then
      let s1 := s.endTransition (s.fld (pgDEV + 0x040) 6 4) 1
      if s.ejectHeld = true ∧ s.ejectEn = true then s1.startDrain 2 else { s1 with ejectHeld := false }
    else s)

/-! ## EJECT_L (R62, R395) -/

/-- What an assertion does in the present mode. -/
def State.ejectActs (s : State) : State :=
  if s.mode = 1 ∨ (s.inTransition = true ∧ s.mode ≠ 4) then { s with ejectHeld := true }
  else if s.mode = 0 then (if s.ejectEn = true ∧ s.hotswapOff = true then s.orderHscOff else s)
  else if s.mode = 4 ∨ s.ejectEn = false then s
  else s.startDrain 2

def execEjectAssert (s : State) : Host.Outcome State Fault Refusal :=
  .next (
    if s.fld (pgGPIO + 0x048) 30 30 = 1 then s
    else (((s.put (pgGPIO + 0x048) 31 30 1).irqBit pgGPIO 16)).ejectActs)

def execEjectRelease (s : State) : Host.Outcome State Fault Refusal :=
  .next (if s.fld (pgGPIO + 0x048) 30 30 = 1 then (s.put (pgGPIO + 0x048) 31 30 2).irqBit pgGPIO 17 else s)

/-! ## DRAIN -/

/-- R74: the step in progress has done its work. -/
def execDrainStepEnd (s : State) : Host.Outcome State Fault Refusal :=
  .next (if s.mode = 4 ∧ s.stepDone = true then s.nextStep else s)

/-- R74: the step in progress has reached its latest time. -/
def execDrainStepCut (s : State) : Host.Outcome State Fault Refusal :=
  .next (
    if s.mode = 4 then
      let n := s.drainStep
      ((s.put (pgDEV + 0x04C) (16 + n) (16 + n) 1).cutStep n).nextStep
    else s)

/-! ## Carrier groups (R66) -/

/-- The timer starts; LIMIT_US 0 abandons at once. In DRAIN the time of a group it halted is TASK_BUDGET's. -/
def execCgDispatchStopped (g : Cg) (s : State) : Host.Outcome State Fault Refusal :=
  .next (
    if s.cgPhase g = 1 then
      let s1 := State.settle { s with cgStop := tabSet (fun _ => false) s.cgStop g true }
      if s1.cgPhase g = 1 ∧ s.fld (pgCG g + 0x044) 19 0 = 0 ∧ s.fld (pgCG g + 0x048) 9 8 ≠ 2 then s1.haltLimit g else s1
    else s)

def execCgHaltLimit (g : Cg) (s : State) : Host.Outcome State Fault Refusal :=
  .next (if s.cgPhase g = 1 ∧ tabGet (fun _ => false) s.cgStop g = true then s.haltLimit g else s)

/-- FLUSHING ends when no task of the group is left without its record. -/
def execCgFlushDone (g : Cg) (s : State) : Host.Outcome State Fault Refusal :=
  .next (
    if s.cgPhase g = 2 ∧ s.tasks.any (fun t => decide (t.cg = g.val)) = false then
      ({ s.setPhase g 3 with cgStop := tabErase s.cgStop g } : State).irqBit (pgCG g) 0
    else s)

def execCgStartCopy (g : Cg) (s : State) : Host.Outcome State Fault Refusal :=
  .next (if s.cgPhase g = 4 ∧ s.copyReady g = true then s.startCopy g else s)

end Sys2Proof.Machine
end

