-- ==== Sys2Proof/Machine/Power.lean ====
section
/-! DEFINITION. The commands of chapter 15: entries and wakes of blocks and quadrant domains, performance levels. -/

namespace Sys2Proof.Machine

open Sys2Proof

/-! ## Block entries -/

/-- R364: the controller asks; outstanding says that accesses, issued requests or merge lines are outstanding. -/
def execPowerEntryRequest (slot : SlotIx) (outstanding : Bool) (s : State) : Host.Outcome State Fault Refusal :=
  .next (
    if s.slotAwake slot = true ∧ slotVotes slot = false ∧ 1 < s.effFloor slot then s.answerEntry slot outstanding else s)

/-- R364: the deferral ends, and the block answers again. -/
def execPowerDeferEnd (slot : SlotIx) (s : State) : Host.Outcome State Fault Refusal :=
  .next (if (s.slot slot).entry = .deferring then s.answerEntry slot false else s)

/-- R364: 64 µs of deferral count as a REFUSE with cause 4; QPWR raises ENTRY_TIMEOUT for a quadrant block. -/
def execPowerDeferLimit (slot : SlotIx) (s : State) : Host.Outcome State Fault Refusal :=
  .next (
    if (s.slot slot).entry = .deferring then
      if 64 ≤ slot.val then (s.refuse slot 4).raise (pgQPWR (slotQuad slot)) 2 else s.refuse slot 4
    else s)

/-- R365: after an ACCEPT the new state shows. -/
def execPowerEntryComplete (slot : SlotIx) (s : State) : Host.Outcome State Fault Refusal :=
  .next (if (s.slot slot).entry = .accepted ∧ s.bankRetired slot = false then s.finishEntry slot else s)

/-- R371: LINGER_US without a vote; the domain enters its effective floor. -/
def execVoteLingerExpiry (slot : SlotIx) (s : State) : Host.Outcome State Fault Refusal :=
  .next (
    if s.slotAwake slot = true ∧ slotVotes slot = true ∧ s.voted slot = false ∧ 1 < s.effFloor slot ∧ s.bankRetired slot = false then
      s.modSlot slot (fun x => { x with entry := .accepted, goal := s.effFloor slot })
    else s)

/-! ## Wakes -/

/-- R367 to R369: a level wake at a block below IDLE, or at one whose entry has not reached its isolation step. -/
def execWakeEvent (slot : SlotIx) (s : State) : Host.Outcome State Fault Refusal :=
  .next (if s.wakesAct = true ∧ s.wakeLevel slot = true then s.wakeSlot slot else s)

/-- A bit of DPWR_WAKE_STAT sets, with WAKE_STAT (R368). -/
def State.wakeStat (s : State) (n : Nat) : State := (s.put (pgDPWR + 0x0C0) n n 1).irqBit pgDPWR 2

/-- R368: the pulse of route k, before cycle I - 1 (0), in I - 1 to I + 1 (1), or after I + 1 (2) of an entry; without an entry it
wakes a slot below IDLE. -/
def execPulseWake (k : W3) (phase : W2) (s : State) : Host.Outcome State Fault Refusal :=
  .next (
    let r := s.reg (pgDPWR + 0x0A0 + 4 * k.toNat)
    let slot := bitsOf r 3 0
    if tabGet (fun _ => false) s.pulses k.toNat = false then s
    else
      let s1 : State := { s with pulses := tabErase s.pulses k.toNat }
      let entering := decide ((s.slot slot).entry ≠ .none) || (decide (8 ≤ slot) && decide (s.slotState slot ≠ 0))
      if bit r 31 = false ∨ 12 ≤ slot ∨ s.wakesAct = false then s1
      else if entering = true ∧ phase = 1 then (s1.wakeStat (8 + k.toNat)).raise pgDPWR 3
      else if entering = true ∧ (phase = 2 ∨ 8 ≤ slot) then (s1.modSlot slot (fun x => { x with latched := true })).wakeStat k.toNat
      else if entering = true ∨ 2 ≤ s.slotState slot then (s1.wakeSlot slot).wakeStat k.toNat
      else s1)

/-- R369, R370, R372: the restore ends; a quadrant block waits for its MILL. -/
def execWakeComplete (slot : SlotIx) (canaryOk : Bool) (s : State) : Host.Outcome State Fault Refusal :=
  .next (
    let q := slotQuad slot
    if (s.slot slot).waking = true ∧ s.bankRetired slot = false
        ∧ (slot.val < 64 ∨ (s.quadOn q = true ∧ s.fenced q = false ∧ (slot.val % 64 = 2 ∨ (s.slot (qSlot q 2)).st < 2))) then
      s.finishWake slot canaryOk
    else s)

/-! ## Quadrant domains -/

/-- R374: the conditions have held for LINGER_US. -/
def execQuadDomainEntry (q : Quad) (s : State) : Host.Outcome State Fault Refusal :=
  .next (if s.domainMaySleep q then s.domainSleep q (s.quadFloor q) else s)

/-- R375: a wake aimed at the domain or at one of its blocks. -/
def execQuadDomainWake (q : Quad) (s : State) : Host.Outcome State Fault Refusal :=
  .next (
    if s.quadOn q = false ∧ (s.quadSt q).waking = false ∧ s.mode ≠ 1 ∧ s.wakesAct = true ∧ s.domainWanted q = true then s.startDomain q
    else s)

/-- R375: a failed wake is retried while a level wake persists. -/
def execQuadWakeRetry (q : Quad) (s : State) : Host.Outcome State Fault Refusal :=
  .next (
    if (s.quadSt q).failed = true ∧ (s.quadSt q).waking = false ∧ s.quadOn q = false ∧ s.wakesAct = true ∧ s.domainWanted q = true then
      s.startDomain q
    else s)

/-! ## Performance levels -/

/-- A write of DPWR_PLEVEL[q] (R378). -/
def State.writePlevel (s : State) (q : Nat) (v : W32) : State :=
  let t := bitsOf v 2 0
  if 6 ≤ t then s.badAccess (plKey q)
  else
    let s1 := s.put (plKey q) 2 0 t
    if s.quadOn q = false then s1
    else if s.plBusy q then s1.setQuad q { s1.quadSt q with pendTarget := some t }
    else s1.startChange q t

/-- R378. -/
def execPlevelWrite (q : Quad) (v : W32) (s : State) : Host.Outcome State Fault Refusal :=
  .next (s.access (plKey q) (fun s => s.writePlevel q v))

/-- R360, R375, R378: a started PLL locks: false PLL_A, true PLL_B. -/
def execPllLock (q : Quad) (b : Bool) (s : State) : Host.Outcome State Fault Refusal :=
  .next (
    let x := s.quadSt q
    if x.locking = false then s
    else if x.waking then (if b = false ∧ x.vreq = none then s.domainOn q else s)
    else if b = x.onB then s
    else
      let s1 := s.setQuad q ({ x with locking := false }.setPll b true)
      match x.changeTo with
      | none => s1
      | some t =>
        if s.level q < t then (s1.switchPll q t).requestVoltage q (levelMv t) .change
        else if x.vreq = none ∧ s.railLevel q = t then (s1.switchPll q t).endChange q 1
        else s1)

/-- R377: READ_VOUT, once the host is at a transaction boundary, and what it returned. -/
def execVoutPoll (q : Quad) (res : VoutRes) (s : State) : Host.Outcome State Fault Refusal :=
  .next (match (s.quadSt q).vreq with
    | none => s
    | some r =>
      let b := s.vregHost q
      if r.next = .poll ∧ (s.pmbOf b).cur = none then
        let s1 := s.emit (.pmbus b (bitsOf (s.vreg q) 6 0) 0x8B true (bit (s.vreg q) 31) false 2 [])
        match res with
        | .nak => s1.railFails q 3
        | .bad => s1
        | .word m =>
          if withinTol m.toNat r.mv (max 1 (s.fld (pgDPWR + 0x074) 23 16)) (s.vregExp q) then s1.railGood q else s1
      else s)

/-- The first transaction of a voltage request has started. -/
def State.voltStarted (s : State) (q : Nat) : Bool :=
  match (s.quadSt q).vreq with
  | none => false
  | some r => !(decide (r.next = (if s.pageEn q then .page else .command)) && (s.pmbOf (s.vregHost q)).queue.contains (.rail q))

/-- R377: 500 µs have passed from the start of the request's first transaction. -/
def execVregTimeout (q : Quad) (s : State) : Host.Outcome State Fault Refusal :=
  .next (if s.voltStarted q then s.railFails q 2 else s)

/-- R379: DPWR_EST[k]. -/
def execPowerEstUpdate (k : Rail5) (mw : W16) (s : State) : Host.Outcome State Fault Refusal :=
  .next (s.put (pgDPWR + 0x080 + 4 * k.val) 15 0 mw.toNat)

end Sys2Proof.Machine
end

