-- ==== Sys2Proof/Machine/Resets.lean ====
section
/-! DEFINITION. The reset commands of chapter 19 (R438, R442 to R448). -/

namespace Sys2Proof.Machine

open Sys2Proof

/-- R442, R443: VDD_WELL comes up, or PWR_GOOD rises; the store examines its banks (R434). -/
def execWellPor (s : State) : Host.Outcome State Fault Refusal := .next s.wellReset.examine

/-- R438: PWR_GOOD low acts as a loss of VDD_WELL, until WELL_POR. -/
def execPwrGoodLoss (s : State) : Host.Outcome State Fault Refusal := .next { s.wellReset with wide := some .power }

/-- A SYSTEM reset is asserted, over a DEVICE reset too (R448); a commit in progress is cut (R447). -/
def State.assertSystem (s : State) (src : Nat) : State :=
  match s.wide with
  | some .system => s
  | some .power => s
  | _ => { (s.recordReset 1 src).systemReset with wide := some .system, commit := none, ejectHeld := false }

/-- R442. -/
def execSysRst (s : State) : Host.Outcome State Fault Refusal := .next (s.assertSystem 0)

/-- R444: BOOT follows. -/
def execSystemResetRelease (s : State) : Host.Outcome State Fault Refusal :=
  .next (if s.wide = some .system then { s with wide := none } else s)

/-- A write of WELL_RST_CMD: the key and TYPE. -/
def State.writeRstCmd (s : State) (key : W16) (ty : Nat) : State :=
  if key ≠ 0x5253 ∨ ty = 0 ∨ ty = 3 then s.badAccess (pgWELL + 0x044)
  else if ty = 2 then s.assertSystem 1
  else s.assertDevice 1

/-- R442. -/
def execWellRstSystem (key : W16) (s : State) : Host.Outcome State Fault Refusal :=
  .next (s.access (pgWELL + 0x044) (fun s => s.writeRstCmd key 2))

/-- R442. -/
def execWellRstDevice (key : W16) (s : State) : Host.Outcome State Fault Refusal :=
  .next (s.access (pgWELL + 0x044) (fun s => s.writeRstCmd key 1))

/-- R444: 100 µs after assertion a DEVICE reset is released, or waits for the commit in progress. -/
def execDeviceResetRelease (s : State) : Host.Outcome State Fault Refusal :=
  .next (
    if s.wide = some .device then
      if s.commit.isSome then s.put (pgWELL + 0x048) 24 24 1 else { s with wide := none }
    else s)

/-- A PERST reset (R443): a link reset, and PCIE page 0 but for PCIE_LINK and PCIE_VF_CFG. -/
def State.perstReset (s : State) : State :=
  (s.recordReset 3 0).linkDown.dropRegs (fun a => inPages pgPCIE 1 a && !decide (a = pgPCIE + 0x040) && !decide (a = pgPCIE + 0x044))

/-- R445: PERST_L falls; without further effect during another wide reset (R448). -/
def execPerstAssert (s : State) : Host.Outcome State Fault Refusal :=
  .next (
    let s1 : State := { s with pcie := { s.pcie with perstLow := true } }
    if s.pcie.perstLow = true ∨ s.wide.isSome = true then s1
    else if s.fld (pgWELL + 0x040) 0 0 = 1 then s1.assertDevice 3
    else s1.perstReset)

/-- R445. -/
def execPerstRelease (s : State) : Host.Outcome State Fault Refusal := .next { s with pcie := { s.pcie with perstLow := false } }

end Sys2Proof.Machine
end

