-- ==== Sys2Proof/Machine/Time.lean ====
section
/-! DEFINITION. The commands of chapter 13: RAW and presented time, slews and steps, the EEC, PTP frames, action slots, transmit
timestamps, 1PPS and alarms. -/

namespace Sys2Proof.Machine

open Sys2Proof

/-! ## RAW and presented time -/

/-- R308: the cycle in which RAW wraps. -/
def execRawWrap (s : State) : Host.Outcome State Fault Refusal :=
  .next (if 2 ^ 64 ≤ s.kept.raw.toNat + 1024 then s.cycle else s)

/-- R309: the cycle in which presented time wraps. -/
def execPtWrap (s : State) : Host.Outcome State Fault Refusal := .next (if s.ptWraps then s.cycle else s)

/-- R310, R311: a write of FTB_RATE_HI. -/
def State.commitRate (s : State) (v : W32) : State :=
  let new : BitVec 48 := (v.setWidth 16) ++ s.reg (pgFTB + 0x058)
  if 2 ^ 38 < new.toInt.natAbs then s.badAccess (pgFTB + 0x05C)
  else
    let s1 := s.setReg (pgFTB + 0x05C) (BitVec.ofNat 32 (bitsOf v 15 0))
    if new = s.time.rate then s1
    else
      let s2 := s1.rebase
      { s2 with time := { s2.time with rate := new } }

def execRateCommit (v : W32) (s : State) : Host.Outcome State Fault Refusal :=
  .next (s.access (pgFTB + 0x05C) (fun s => s.commitRate v))

/-- R311: SNAP. -/
def State.snapshot (s : State) : State :=
  ((s.setReg64 (pgFTB + 0x044) s.kept.raw).setReg64 (pgFTB + 0x04C) s.pt).setReg (pgFTB + 0x054)
    (s.time.ptEpoch ++ s.kept.epoch)

def execSnap (s : State) : Host.Outcome State Fault Refusal := .next (s.access (pgFTB + 0x040) State.snapshot)

/-- R312, R333: a write of FTB_ADJ; beside a STEP of the same cycle it is rejected. F changes, and presented time is rebased, where a
slew starts, turns round or is cancelled. -/
def State.adjust (s : State) (v : W32) : State :=
  let rem := s.slewLeft + v.toInt
  if s.time.stepPend.isSome = true ∨ 2 ^ 30 < rem.natAbs ∨ s.fld (pgFTB + 0x060) 18 0 = 0 then s.raise pgFTB 0
  else if rem = 0 then
    if s.time.slewOn then
      let s1 := s.rebase
      State.irqBit { s1 with time := { s1.time with slewRem := 0, slewOn := false } } pgFTB 0
    else s
  else if s.time.slewOn = true ∧ decide (rem < 0) = decide (s.time.slewRem < 0) then
    { s with time := { s.time with slewRem := s.time.slewRem + v.toInt } }
  else
    let s1 := s.rebase
    { s1 with time := { s1.time with slewRem := rem, slewOn := true } }

def execFtbAdjWrite (v : W32) (s : State) : Host.Outcome State Fault Refusal :=
  .next (s.access (pgFTB + 0x064) (fun s => s.adjust v))

/-- R312: the cycle in which a slew's remainder reaches 0. -/
def execSlewDone (s : State) : Host.Outcome State Fault Refusal := .next (if s.slewEnds then s.cycle else s)

/-- R313: GO in FTB_STEP_CTRL: the next CLK_TIME cycle makes the step. -/
def State.stepTime (s : State) (epoch : W16) : State :=
  { s with time := { s.time with stepPend := some (s.pair (pgFTB + 0x06C), epoch) } }

def execFtbStep (epoch : W16) (s : State) : Host.Outcome State Fault Refusal :=
  .next (s.access (pgFTB + 0x074) (fun s => s.stepTime epoch))

/-! ## SyncE -/

/-- Frequency offsets an input may have: 4.6 ppm in units of 2^-40 (R316). -/
def eecBand : Nat := 5057753

/-- R316, R317: an input qualifies: its lane detects signal and its offset is in the band. -/
def execEecInputQualify (sec : Bool) (freq : W32) (s : State) : Host.Outcome State Fault Refusal :=
  .next (
    let lane := if sec then s.fld (pgFTB1 + 0x040) 13 8 else s.fld (pgFTB1 + 0x040) 5 0
    if s.hasSignal lane = true ∧ freq.toInt.natAbs ≤ eecBand then
      let s1 := if sec then (s.put (pgFTB1 + 0x044) 4 4 1) else (s.put (pgFTB1 + 0x044) 3 3 1)
      let since := if s.fld (pgFTB1 + 0x044) 3 3 = 1 then s.time.qualAt else s.fullRaw
      let s2 : State := { s1 with time := if sec then { s1.time with freqSec := freq } else { s1.time with freqPri := freq, qualAt := since } }
      let s3 := if s2.eec ≠ 0 ∧ s2.eecOnSec = sec then s2.setReg (pgFTB1 + 0x048) freq else s2
      s3.eecAcquire
    else s)

/-- R317: an input is no longer qualified. -/
def execEecInputDisqualify (sec : Bool) (s : State) : Host.Outcome State Fault Refusal :=
  .next (
    let s1 := if sec then s.put (pgFTB1 + 0x044) 4 4 0 else s.put (pgFTB1 + 0x044) 3 3 0
    if s1.eecOnSec = sec then s1.eecLose else s1)

/-- R317: ACQUIRING to LOCKED. -/
def execEecLock (s : State) : Host.Outcome State Fault Refusal :=
  .next (if s.eec = 1 ∧ s.inputOk s.eecOnSec = true then s.eecLockOn s.eecOnSec else s)

/-- R317: the hitless switch back to the primary. -/
def execEecRevert (s : State) : Host.Outcome State Fault Refusal :=
  .next (if s.eec = 2 ∧ s.eecOnSec = true ∧ s.inputOk false = true ∧ s.fld (pgFTB1 + 0x040) 28 28 = 1 then s.eecLockOn false else s)

/-- R317: HOLDOVER to LOCKED on an input qualified for 1 s: the primary where it too has been qualified that long. -/
def execEecHoldoverExit (sec : Bool) (s : State) : Host.Outcome State Fault Refusal :=
  .next (if s.eec = 3 ∧ s.inputOk sec = true then
      s.eecLockOn (sec && !(s.inputOk false && decide (1000000000 ≤ s.nsSinceFull s.time.qualAt)))
    else s)

/-- R317: ENABLE written 0. -/
def execEecDisable (s : State) : Host.Outcome State Fault Refusal :=
  .next (s.access (pgFTB1 + 0x040) (fun s => (s.put (pgFTB1 + 0x040) 31 31 0).eecReconfig (s.reg (pgFTB1 + 0x040))))

/-! ## PTP frames -/

/-- Bytes as a number, first byte highest. -/
def natBE (bs : Bytes) : Nat := bs.foldl (fun a b => a * 256 + b.toNat) 0

/-- ETH_MAC of a port. -/
def State.ethMac (s : State) (e : Nat) : Nat := s.fld (pgLANE e + 0x214) 15 0 * 2 ^ 32 + (s.reg (pgLANE e + 0x210)).toNat

/-- R319: EtherType 0x88F7 and an accepted destination. -/
def State.isPtp (s : State) (e : Nat) (raw : Bytes) : Bool :=
  let da := natBE (raw.take 6)
  decide (natBE ((raw.drop 12).take 2) = 0x88F7)
  && (decide (da = s.ethMac e) || decide (da = 0x011B19000000) || decide (da = 0x0180C200000E))

/-- The port of a lane is up and its page alive. -/
def State.portUpAt (s : State) (e : Nat) : Bool :=
  decide (s.laneMode e = 1) && decide (s.fld (pgLANE e + 0x200) 31 31 = 1) && !s.quadDark (e / 16)

/-- R320: a received PTP frame; another frame is discarded (R234). -/
def execPtpReceive (l : Lane) (bytes : Bytes) (s : State) : Host.Outcome State Fault Refusal :=
  .next (
    let e := (s.linkOf l).1
    if s.portUpAt e = false then s
    else if s.isPtp e bytes then (s.inc (pgLANE e + 0x204) 31 0 1).ptpDeliver e bytes false
    else s.inc (pgLANE e + 0x208) 31 0 1)

/-- The outcome of a host frame. -/
def State.ptpResult (s : State) (q res : Nat) : State :=
  (((s.put (pgFQU1 q + 0x07C) 31 31 0).put (pgFQU1 q + 0x07C) 30 28 res).irqBit (pgFQU q) 3)

/-- R321: a write of FQU_PTP_TX_CTRL with GO = 1. -/
def State.ptpGo (s : State) (q : Nat) (v : W32) : State :=
  let e := 16 * q + bitsOf v 19 16
  if s.fld (pgFQU1 q + 0x07C) 31 31 = 1 then s.badAccess (pgFQU1 q + 0x078)
  else if (s.isLink e && s.portUpAt e) = false then s.ptpResult q 2
  else
    let a := (s.pair (pgFQU1 q + 0x070)).toNat
    let r := s.devRead { quad := q } (a - a % 8) (bitsOf v 10 0)
    let s1 := r.1.put (pgFQU1 q + 0x07C) 31 31 1
    let s2 : State := { s1 with ptpTx := tabSet (fun _ => none) s1.ptpTx q (some ⟨e, unmark r.2.1, !r.2.2, none⟩) }
    if r.2.2 then s2.setTsWaiting q (s2.tsWaiting q ++ [⟨1, e, 0, 0⟩]) else s2

def execPtpTxGo (q : Quad) (v : W32) (s : State) : Host.Outcome State Fault Refusal :=
  .next (s.access (pgFQU1 q + 0x078) (fun s => s.ptpGo q v))

/-- The first frame of a link that waits for a timestamp leaves the balls (R328). -/
def State.stampFirst (s : State) (q : Nat) (p : TsReq → Bool) : State :=
  match (s.tsWaiting q).find? p with
  | none => s
  | some r =>
    let t := (s.setTsWaiting q ((s.tsWaiting q).erase r)).takeTimestamp q r
    if r.src = 1 then
      match tabGet (fun _ => none) s.ptpTx q with
      | some j =>
        State.emit { t.1 with ptpTx := tabSet (fun _ => none) t.1.ptpTx q (some { j with id := some t.2 }) } (.ethFrame j.link j.bytes)
      | none => t.1
    else t.1

/-- R321: the outcome of a host frame in FQU_PTP_TX_STAT. -/
def execPtpTxDone (q : Quad) (s : State) : Host.Outcome State Fault Refusal :=
  .next (match tabGet (fun _ => none) s.ptpTx q with
    | none => s
    | some j =>
      let drop := fun (t : State) =>
        ({ t with ptpTx := tabErase t.ptpTx q } : State).setTsWaiting q ((t.tsWaiting q).filter (fun r => decide (r.src ≠ 1)))
      if j.err then (drop s).ptpResult q 3
      else if j.id = none ∧ s.portUpAt j.link = false then (drop s).ptpResult q 2
      else
        let s1 := if j.id = none then s.stampFirst q (fun r => decide (r.src = 1)) else s
        let id := match tabGet (fun _ => none) s1.ptpTx q with | some k => k.id.getD 0 | none => 0
        ((drop s1).put (pgFQU1 q + 0x07C) 15 0 id.toNat).ptpResult q 1)

/-! ## Action slots -/

/-- The slot that FQU_SLOT_IDX selects. -/
def State.slotIdx (s : State) (q : Nat) : Nat := s.fld (pgFQU q + 0x040) 6 0

/-- R323, R333: a write of FQU_SLOT_CTRL; DISARM acts alone. -/
def State.slotCtrl (s : State) (q : Nat) (arm disarm : Bool) : State :=
  let k := s.slotIdx q
  if disarm then s.slotOff q k
  else if arm then
    let s1 := (s.put (slotKey 0x068 q k) 31 31 1).put (slotKey 0x068 q k) 15 0 0
    s1.setLate q k (s1.slotDue q k)
  else s

def execSlotArm (q : Quad) (s : State) : Host.Outcome State Fault Refusal :=
  .next (s.access (pgFQU q + 0x064) (fun s => s.slotCtrl q true false))

def execSlotDisarm (q : Quad) (arm : Bool) (s : State) : Host.Outcome State Fault Refusal :=
  .next (s.access (pgFQU q + 0x064) (fun s => s.slotCtrl q arm true))

/-- R311, R323: a write of FQU_SLOT_TIME_HI commits the slot's TIME. -/
def State.commitSlotTime (s : State) (q : Nat) (v : W32) : State :=
  let k := s.slotIdx q
  let s1 := (s.setReg (slotKey 0x04C q k) v).commitPair (slotKey 0x048 q k)
  if s1.slotDue q k then s1.setLate q k true else s1.setLate q k false

def execSlotTimeCommit (q : Quad) (v : W32) (s : State) : Host.Outcome State Fault Refusal :=
  .next (s.access (pgFQU q + 0x04C) (fun s => s.commitSlotTime q v))

/-- R323: the lowest due slot of a quadrant is delivered. -/
def execSlotDue (q : Quad) (s : State) : Host.Outcome State Fault Refusal :=
  .next (if s.fquOn q = false then s
    else match (List.range 128).find? (fun k => s.slotDue q k) with
      | some k => s.deliverSlot q k
      | none => s)

/-- R325: the oldest LEN word in flight returns. -/
def execSlotLenReadDone (q : Quad) (s : State) : Host.Outcome State Fault Refusal :=
  .next (match tabGet (fun _ => []) s.lenReads q with
    | [] => s
    | r :: rest =>
      let a := r.addr.toNat
      let s1 : State := { s with lenReads := tabSet (fun _ => []) s.lenReads q rest }
      let w := s1.devRead { cg := some r.owner, quad := q } (a - a % 4) 4
      if w.2.2 = false ∨ anyPoison w.2.1 = true then w.1.raise (pgFQU q) 0
      else w.1.requestSends q r.first r.span (natLE (unmark w.2.1)))

/-! ## Transmit timestamps -/

/-- R328: the first block of the oldest frame of a lane's link that takes a timestamp leaves the balls. -/
def execTxTimestamp (l : Lane) (s : State) : Host.Outcome State Fault Refusal :=
  .next (
    let q := (l : Nat) / 16
    if s.fquOn q = false then s else s.stampFirst q (fun r => decide (r.link = (s.linkOf l).1)))

/-- R329: POP. -/
def execTsqPop (q : Quad) (s : State) : Host.Outcome State Fault Refusal :=
  .next (s.access (pgFQU1 q + 0x058) (fun s => s.setTsQueue q (s.tsQueue q).tail))

/-! ## 1PPS and alarms -/

/-- R330: PPS_OUT rises, and PPS_NEXT advances past the present time. -/
def execPpsOutEdge (s : State) : Host.Outcome State Fault Refusal :=
  .next (
    let next := s.pair (pgFTB1 + 0x050)
    let diff := timeDiff s.pt next
    if s.fld (pgFTB1 + 0x04C) 31 31 = 1 ∧ 0 ≤ diff then
      let p := max (s.reg (pgFTB1 + 0x058)).toNat 1000 * 1024
      let s1 := s.movePair (pgFTB1 + 0x050) (next + BitVec.ofNat 64 (stepsPast diff p * p))
      State.emit { s1 with time := { s1.time with ppsOut := true } } (.pps true)
    else s)

/-- R330: the end of the pulse. -/
def execPpsOutFall (s : State) : Host.Outcome State Fault Refusal :=
  .next (if s.time.ppsOut then State.emit { s with time := { s.time with ppsOut := false } } (.pps false) else s)

/-- R331: a rising edge of PPS_IN. -/
def execPpsInEdge (s : State) : Host.Outcome State Fault Refusal :=
  .next (
    if s.fld (pgFTB1 + 0x04C) 30 30 = 1 then
      let dly := ((s.reg (pgFTB1 + 0x064)).setWidth 24).toInt
      (s.setReg64 (pgFTB1 + 0x05C) (s.pt - BitVec.ofInt 64 dly)).irqBit pgFTB 4
    else s)

/-- R331: 1.1 s without an edge. -/
def execPpsInMiss (s : State) : Host.Outcome State Fault Refusal :=
  .next (if s.fld (pgFTB1 + 0x04C) 30 30 = 1 then s.raise pgFTB 3 else s)

def alarmKey (off k : Nat) : Nat := pgFTB1 + off + 16 * k

/-- R332: ARM of an alarm. -/
def State.armAlarm (s : State) (k : Nat) : State := s.put (alarmKey 0x088 k) 29 29 1

def execAlarmArm (k : W2) (s : State) : Host.Outcome State Fault Refusal :=
  .next (s.access (alarmKey 0x088 k.toNat) (fun s => s.armAlarm k.toNat))

/-- R332: an armed alarm fires once. -/
def execAlarm (k : W2) (s : State) : Host.Outcome State Fault Refusal :=
  .next (
    let key := alarmKey 0x088 k.toNat
    if s.fld key 29 29 = 1 ∧ 0 ≤ timeDiff s.pt (s.pair (alarmKey 0x080 k.toNat)) then
      ((s.put key 29 29 0).put key 30 30 1).irqBit pgFTB 5
    else s)

/-- R332: FIRED cleared; the wake level ends. -/
def execAlarmFiredClear (k : W2) (s : State) : Host.Outcome State Fault Refusal :=
  .next (s.access (alarmKey 0x088 k.toNat) (fun s => s.put (alarmKey 0x088 k.toNat) 30 30 0))

end Sys2Proof.Machine
end

