-- ==== Sys2Proof/Machine/Trust.lean ====
section
/-! DEFINITION. Fuse burns (R420), attestation (R428 to R432) and the commands of the retention store (R433 to R437). -/

namespace Sys2Proof.Machine

open Sys2Proof

/-! ## Fuses -/

def fuseCmd : Nat := pgFUSE + 0x0B0
def fuseStat : Nat := pgFUSE + 0x0B4

/-- The staged owner hash. -/
def State.stagedHash (s : State) : BitVec 384 :=
  (List.range 12).foldl (fun (x : BitVec 384) k => x ||| ((s.reg (pgFUSE + 0x080 + 4 * k)).setWidth 384 <<< (32 * k))) 0

/-- The running manifest was verified with the owner key, or with vendor slot k. -/
def State.runsOwner (s : State) : Bool := decide (s.fld (pgBTU + 0x040) 29 29 = 1)
def State.runsSlot (s : State) (k : Nat) : Bool := !s.runsOwner && decide (s.fld (pgBTU + 0x040) 3 0 = k)

/-- The condition of an OP; 0, 6 and 7 have none that holds. -/
def State.burnOk (s : State) (op arg : Nat) : Bool :=
  match op with
  | 1 => decide (s.fuseOwner = 0)
  | 2 => decide (s.fuseOwner = 1) && !s.runsOwner
  | 3 => decide (s.fuseSvn < arg) && decide (arg ≤ min 64 (s.reg (pgBTU + 0x044)).toNat)
  | 4 => !s.runsSlot (arg % 4) && (decide (s.fuseOwner = 1) || (List.range 4).any (fun k => decide (k ≠ arg % 4) && !s.vendorRevoked k))
  | 5 => decide (s.fuseOwner = 1)
  | _ => false

/-- A write of FUSE_CMD (R420). -/
def State.writeFuseCmd (s : State) (key : W16) (op arg : Nat) : State :=
  if key ≠ 0x4655 ∨ s.fld fuseStat 31 31 = 1 then s.badAccess fuseCmd
  else if s.mode = 2 ∧ s.burnOk op arg = true then { s.put fuseStat 31 31 1 with burn := some ⟨op, arg, s.stagedHash⟩ }
  else (s.put fuseStat 30 28 2).raise pgFUSE 0

def execBurnOwner (key : W16) (s : State) : Host.Outcome State Fault Refusal :=
  .next (s.access fuseCmd (fun s => s.writeFuseCmd key 1 0))
def execRevokeOwner (key : W16) (s : State) : Host.Outcome State Fault Refusal :=
  .next (s.access fuseCmd (fun s => s.writeFuseCmd key 2 0))
def execAdvanceSvn (key : W16) (arg : W7) (s : State) : Host.Outcome State Fault Refusal :=
  .next (s.access fuseCmd (fun s => s.writeFuseCmd key 3 arg.toNat))
def execRevokeVendor (key : W16) (arg : W7) (s : State) : Host.Outcome State Fault Refusal :=
  .next (s.access fuseCmd (fun s => s.writeFuseCmd key 4 arg.toNat))
def execVendorBootDis (key : W16) (s : State) : Host.Outcome State Fault Refusal :=
  .next (s.access fuseCmd (fun s => s.writeFuseCmd key 5 0))

/-- The fuses a burn changes, as FUSE_STATE shows them at once. -/
def State.burnt (s : State) (b : Burn) : State :=
  let k := pgFUSE + 0x048
  match b.op with
  | 1 => { s.put k 31 30 1 with khash := tabSet (fun _ => 0) s.khash 4 b.hash }
  | 2 => s.put k 31 30 2
  | 3 => s.put k 6 0 b.arg
  | 4 => s.put k (20 + b.arg % 4) (20 + b.arg % 4) 1
  | _ => s.put k 29 29 1

/-- R420: a burn ends. -/
def execBurnDone (ok : Bool) (s : State) : Host.Outcome State Fault Refusal :=
  .next (match s.burn with
    | none => s
    | some b =>
      let s1 : State := { (s.put fuseStat 31 31 0).put fuseStat 30 28 (if ok then 1 else 3) with burn := none }
      (if ok then s1.burnt b else s1.raise pgFUSE 1).irqBit pgFUSE 0)

/-! ## Attestation -/

def attCtrl : Nat := pgBTU1 + 0x068
def attStat : Nat := pgBTU1 + 0x06C

/-- An attestation command ends with a RESULT; ATT_DONE. -/
def State.attEnd (s : State) (res : Nat) : State :=
  State.irqBit { (s.put attStat 31 31 0).put attStat 30 28 res with att := none } pgBTU 0

/-- A report is refused. -/
def State.attRefuse (s : State) (res : Nat) : State := (s.raise pgBTU 1).attEnd res

/-- The payload of the security record with a NEXT_FREE. -/
def securityRecord (n : Nat) : Bytes := (bytesLE 8 n ++ Config.btuState).take 65472

/-- A reservation that waits for the store commits NEXT_FREE := n + 64 (R431). -/
def State.reserve (s : State) : State :=
  match s.att, s.commit with
  | some a, none => if a.report = true ∧ a.reserved = false then s.startCommit 0 (securityRecord (a.index + 64)) else s
  | _, _ => s

/-- 32-bit registers as bytes. -/
def State.regBytes (s : State) (k n : Nat) : Bytes := (List.range n).flatMap (fun i => bytesLE 4 (s.reg (k + 4 * i)).toNat)

/-- Bytes 0 to 255 of a report (R430). -/
def State.reportHead (s : State) (n : Nat) : Bytes :=
  let st := s.reg (pgBTU + 0x040)
  bytesLE 4 0x5441584D ++ bytesLE 2 1 ++ bytesLE 2 (b2n (bit st 29) + 2 * b2n (bit st 31) + 4 * b2n (bit st 30))
  ++ s.regBytes (pgFUSE + 0x040) 2 ++ s.regBytes (pgBTU1 + 0x040) 8 ++ s.regBytes (pgBTU + 0x080) 12
  ++ bytesLE 4 (s.reg (pgBTU + 0x044)).toNat ++ [BitVec.ofNat 8 s.fuseSvn, BitVec.ofNat 8 (bitsOf st 3 0),
    BitVec.ofNat 8 (s.fld (pgFUSE + 0x048) 31 24), BitVec.ofNat 8 s.mode] ++ bytesLE 8 s.pt.toNat ++ bytesLE 8 n
  ++ List.replicate 136 0

/-- BTU_ATT_DST. -/
def State.attDst (s : State) : Nat := (s.reg64 (pgBTU1 + 0x060)).toNat / 64 * 64

/-- OP 1: a report starts, or is refused (R429, R431). -/
def State.attReport (s : State) : State :=
  let n := s.hssNext
  if s.kept.factorySeen = true ∨ (s.mode ≠ 2 ∧ s.mode ≠ 3) then s.attRefuse 2
  else if 2 ^ 40 ≤ n ∨ (s.hssInit = true ∧ s.inForce 0 = none) then s.attRefuse 3
  else
    State.reserve { s.put attStat 31 31 1 with
      att := some { report := true, index := n, reserved := decide (n < s.nextFree), head := s.reportHead n, dst := s.attDst } }

/-- OP 2: the identity block. -/
def State.attIdentity (s : State) : State := { s.put attStat 31 31 1 with att := some { report := false, dst := s.attDst } }

/-- A write of BTU_ATT_CTRL (R429, R432). -/
def State.writeAttCtrl (s : State) (go : Bool) (op : Nat) : State :=
  if op = 0 ∨ op = 3 then s.badAccess attCtrl
  else if go = false then s
  else if s.fld attStat 31 31 = 1 then s.badAccess attCtrl
  else if op = 1 then s.attReport
  else s.attIdentity

def execAttReport (s : State) : Host.Outcome State Fault Refusal := .next (s.access attCtrl (fun s => s.writeAttCtrl true 1))
def execAttIdentity (s : State) : Host.Outcome State Fault Refusal := .next (s.access attCtrl (fun s => s.writeAttCtrl true 2))

/-- Bytes sent to host memory, one posted write per TLP. -/
def hostSend : Nat → State → Nat → Nat → Bytes → State
  | 0, s, _, _, _ => s
  | n + 1, s, fn, a, bs =>
    if bs = [] then s
    else
      let k := min s.maxPayload (4096 - a % 4096)
      hostSend n (s.hostWrite fn a (bs.take k) false false) fn (a + k) (bs.drop k)

/-- What the command writes: a report with both signatures, or the identity block (R429, R430). -/
def attBytes (a : AttJob) : Bytes :=
  if a.report then a.head ++ bytesLE 96 (Config.ecdsaSig a.head).toNat ++ bytesLE 5716 (Config.hssSig a.index a.head).toNat
  else bytesLE 96 Config.identityKey.toNat ++ bytesLE 60 Config.hssKey.toNat

/-- R432: the write to host memory is made, or fails; the report's index is used. -/
def execAttDone (ok : Bool) (s : State) : Host.Outcome State Fault Refusal :=
  .next (match s.att with
    | none => s
    | some a =>
      if a.report = true ∧ a.reserved = false then s
      else
        let s1 := if a.report then s.setHssNext (a.index + 1) else s
        if ok = true ∧ s.canWrite pf0 = true then (hostSend 6068 s1 pf0 a.dst (attBytes a)).attEnd 1
        else (if s.canWrite pf0 then s1 else s1.countDrop.raise pgPCIE 2).attEnd 4)

/-! ## The retention store -/

def rstoCmd : Nat := pgRSTO + 0x064

/-- R436: a word into the staging buffer. -/
def State.stageWrite (s : State) (v : W32) : State :=
  let k := pgRSTO + 0x050
  let w := s.fld k 15 2
  { s.put k 15 2 (w + 1) with stage := tabSet (fun _ => 0) s.stage w v }

def execRstoStageWrite (v : W32) (s : State) : Host.Outcome State Fault Refusal :=
  .next (s.access (pgRSTO + 0x054) (fun s => s.stageWrite v))

/-- COMMIT and ARM are rejected while a commit runs, or with a LEN that no bank holds (R437). -/
def State.commitRefused (s : State) : Bool := s.commit.isSome || decide (65472 < s.fld (pgRSTO + 0x058) 16 0)

/-- One command of RSTO_CMD: COMMIT 0, ARM 1, DISARM 2. -/
def State.rstoDo (s : State) (c : Nat) : State :=
  if c = 2 then s.put (rstoKey 1) 27 27 0
  else if s.commitRefused then (s.put (pgRSTO + 0x068) 30 28 2).raise pgRSTO 0
  else if c = 1 then s.put (rstoKey 1) 27 27 1
  else s.startCommit 1 s.stagedRecord

/-- A write of RSTO_CMD; with several bits set, COMMIT, then ARM, then DISARM. -/
def State.writeRstoCmd (s : State) (key : W16) (bits : List Nat) : State :=
  if key ≠ 0x434D then s.badAccess rstoCmd else bits.foldl State.rstoDo s

def execCommit (key : W16) (s : State) : Host.Outcome State Fault Refusal :=
  .next (s.access rstoCmd (fun s => s.writeRstoCmd key [0]))
def execArm (key : W16) (s : State) : Host.Outcome State Fault Refusal :=
  .next (s.access rstoCmd (fun s => s.writeRstoCmd key [1]))
def execDisarm (key : W16) (s : State) : Host.Outcome State Fault Refusal :=
  .next (s.access rstoCmd (fun s => s.writeRstoCmd key [2]))

/-- What the end of a reservation commit means to the report that waits (R431, R437). -/
def State.reservedNow (s : State) (ok : Bool) : State :=
  match s.att with
  | none => s
  | some a =>
    if ok = false then s.attRefuse 4
    else if s.mode = 4 then s.attRefuse 2
    else { s with att := some { a with reserved := true } }

/-- The end of a commit of a class (R435). -/
def State.endCommit (s : State) (k : Commit) (ok : Bool) : State :=
  let s1 : State := { s.put (rstoKey k.cls) 26 26 0 with commit := none }
  let s2 := if ok then s1.setBank k.cls k.bankB (bankRecord k.cls k.bankB k.seq k.payload) else s1.raise pgRSTO 1
  let s3 :=
    if k.cls = 1 then
      let t := s2.put (pgRSTO + 0x068) 30 28 (if ok then 1 else 3)
      if ok then t.put (rstoKey 1) 27 27 0 else t
    else (if ok then s2.put (pgFUSE + 0x048) 27 27 1 else s2).reservedNow ok
  (s3.irqBit pgRSTO 0).examine

/-- R435: a commit ends after its read-back; a reservation that waited, or DRAIN step 5's commit, follows. -/
def execCommitDone (ok : Bool) (s : State) : Host.Outcome State Fault Refusal :=
  .next (match s.commit with
    | none => s
    | some k =>
      let s1 := (s.endCommit k ok).reserve
      if s1.mode = 4 ∧ s1.drainStep = 5 ∧ k.drain = false then s1.commitPending else s1)

end Sys2Proof.Machine
end

