-- ==== Sys2Proof/Machine/Birlis.lean ====
section
/-! DEFINITION. The commands of chapter 09: link widths, commas and masks, frames, acknowledgement and replay, eCPRI, the Headrace
and the Tailrace, and injection. -/

namespace Sys2Proof.Machine

open Sys2Proof

/-! ## Link widths (R218) -/

/-- A word of BLNK_LINK_CFG that R218 allows. -/
def linkCfgOk (v : W32) : Bool :=
  (List.range 16).all (fun l =>
    let w := linkWidthCode (widthCode v l)
    decide (w = 1) || (decide (l % w = 0) && decide (l + w ≤ 16)
      && (List.range w).all (fun i => decide (i = 0) || decide (widthCode v (l + i) = 0))))

/-- A port whose width and rate are no row of R211 waits, and raises PORT_CFG_ERR (R233). -/
def State.portCheck (s : State) (e : Nat) : State :=
  if s.laneMode e = 1 ∧ (s.laneState e = 6 ∨ s.laneState e = 7) ∧ ethRow (s.linkOf e).2 (s.maxRate e) = false then
    (if s.laneState e = 7 then s.portDown e else s).raise (pgBLNK (e / 16)) 3
  else s

/-- A write of BLNK_LINK_CFG: a lane whose link changes leaves its old one, a port so changed goes down, and every link of the quadrant shows
its new state. -/
def State.writeLinkCfg (s : State) (q : Nat) (v : W32) : State :=
  let a := pgBLNK q + 0x040
  if linkCfgOk v = false then s.badAccess a
  else s.scoped a v (fun old t =>
    if t.linkCfg q = old then t
    else
      let all := (List.range 16).map (fun i => 16 * q + i)
      let moved := (List.range 16).filter (fun i => decide (linkIn old i ≠ linkIn v i))
      let t0 := moved.foldl (fun u i =>
        let w := u.setReg a old
        if w.laneState (16 * q + i) = 7 then w.portDown (w.linkOf (16 * q + i)).1 else w.laneDeparts (16 * q + i)) t
      let t1 := moved.foldl (fun u i => u.setLink (16 * q + i) {}) (t0.setReg a v)
      let t2 := if all.any (fun l => decide (t1.laneMode l ≠ t1.laneMode (t1.linkOf l).1)) then t1.raise (pgBLNK q) 0 else t1
      all.foldl (fun u e => if u.isLink e then ((u.regroup e).portRate e).portCheck e else u.showLink e) t2)

def execLinkCfgWrite (q : Quad) (v : W32) (s : State) : Host.Outcome State Fault Refusal :=
  .next (s.access (pgBLNK q + 0x040) (fun s => s.writeLinkCfg q v))

/-- The link layer of a quadrant runs. -/
def State.blnkOn (s : State) (q : Nat) : Bool := !s.quadDark q && decide (s.slotState (qSlot q 23) < 2)

/-! ## Commas, LSTATE and masks (R194, R227, R228) -/

/-- A lane sends commas: in STEP, SLIP_WAIT and UP at rates 1 to 4. -/
def State.commasRun (s : State) (l : Nat) : Bool :=
  decide (3 ≤ s.laneState l) && decide (s.laneState l ≤ 5) && decide (1 ≤ s.laneRate l) && s.laneOn l

/-- A comma period of an injected squelch ends (R242). -/
def State.injTick (s : State) (l : Nat) : State :=
  match (s.lane l).inj with
  | 0 => s
  | 1 => ((s.modLane l (fun x => { x with inj := 0 })).txOn l).put (pgBLNK (l / 16) + 0x140) 31 31 0
  | n + 2 => s.modLane l (fun x => { x with inj := n + 1 })

/-- The lanes whose commas go in one slot with a lane's: every member's of its group, or its own (R220). -/
def State.commaLanes (s : State) (l : Nat) : List Nat :=
  let e := (s.linkOf l).1
  if (s.members e).contains l then s.members e else [l]

/-- Commas of some lanes in one slot; the count of 16,384 starts again. -/
def State.sendCommas (s : State) (ls : List Nat) : State :=
  ls.foldl (fun t l => t.modLane l (fun x => { x with blocks := 0 })) (s.sendOn ls commaBlock)

/-- The comma is due: with the IDLE blocks sent beside those of commands it is the 16,384th block (R194). -/
def State.commaDue (s : State) (l : Nat) (idle : BitVec 14) : Bool :=
  s.commasRun l && decide (((s.lane l).blocks + idle.toNat + 1) % commaEvery = 0)

/-- R194, R220, R227: the comma of a lane; a group sends that of every member in one slot, then LSTATE on every member. -/
def execCommaSend (x : OnLane (BitVec 14)) (s : State) : Host.Outcome State Fault Refusal :=
  .next (
    if s.commaDue x.lane x.it = false then s
    else
      let e := (s.linkOf x.lane).1
      let ls := s.commaLanes x.lane
      let s1 := (ls.foldl (fun t i => t.injTick i) s).sendCommas ls
      if (s.members e).contains x.lane then (s1.modLink e (fun k => { k with comma := k.comma + 1, striped := 0 })).sendLstate e
      else s1)

/-- R227: an LSTATE of the partner; a mask that differs from the one in force waits for its apply point. -/
def execLstateReceive (l : Lane) (num mask at_ : W8) (s : State) : Host.Outcome State Fault Refusal :=
  .next (
    let e := (s.linkOf l).1
    if s.laneOn l = true ∧ s.laneState l = 5 ∧ s.laneMode e = 0 then
      s.modLink e (fun k =>
        { k with
          peerComma := num,
          txAt := if mask = k.tx then none else some (mask, at_) })
    else s)

/-- A frame goes on the line of link e, or one bit of its payload inverted there (R242). -/
def State.putFrame (s : State) (e : Nat) (f : TxFrame) (flip : Bool) : State :=
  let b := if f.payload.isEmpty then 0 else s.freeVal.toNat % (8 * f.payload.length)
  (if flip then s.drawn 1 else s).sendStriped e ((frameBlocks f.seq.toNat f.stream f.payload).mapIdx (fun i x =>
    (x, if flip ∧ i = 1 + b / 64 then BitVec.ofNat 64 (2 ^ (b % 64)) else 0)))

/-- The link may send frames: it is not DOWN, has members to send on, and no mask change waits, during which only IDLE goes (R227,
R228). -/
def State.txRuns (s : State) (e : Nat) : Bool :=
  decide ((s.link e).rx ≠ 0) && decide ((s.link e).tx ≠ 0) && decide ((s.link e).txAt = none) && s.blnkOn (e / 16)

/-- The injection armed on a link: ACT 1 to 3 (R242). -/
def State.injOn (s : State) (e : Nat) : Nat :=
  let v := s.reg (pgBLNK (e / 16) + 0x140)
  if s.factory ∧ bit v 31 = true ∧ bitsOf v 23 20 = e % 16 ∧ 1 ≤ bitsOf v 26 24 ∧ bitsOf v 26 24 ≤ 3 then bitsOf v 26 24 else 0
def State.injDone (s : State) (e : Nat) : State := s.put (pgBLNK (e / 16) + 0x140) 31 31 0

/-- A frame's turn on the line, sent for the first time or again, with the injection that waits for it: withheld, corrupted, or held back
until the next has gone (R242). -/
def State.sendFrame (s : State) (e : Nat) (f : TxFrame) : State :=
  match (s.link e).held with
  | some h =>
    if h.seq = f.seq then s
    else (((s.putFrame e f false).putFrame e h false).modLink e (fun k => { k with held := none })).injDone e
  | none =>
    match s.injOn e with
    | 1 => s.injDone e
    | 2 => (s.putFrame e f true).injDone e
    | 3 => s.modLink e (fun k => { k with held := some f })
    | _ => s.putFrame e f false

/-- Frames of the store have been on the line. -/
def State.markSent (s : State) (e : Nat) (p : TxFrame → Bool) : State :=
  s.modLink e (fun k => { k with store := k.store.map (fun f => if p f then { f with sent := true } else f) })

/-- The frames of the store that p names are sent, a resend counted (R230). -/
def State.resendFrom (s : State) (e : Nat) (p : TxFrame → Bool) : State :=
  let again := (s.link e).store.filter p
  ((again.foldl (fun t f => t.sendFrame e f) s).markSent e p).inc (pgBLNK (e / 16) + 0x0C0 + 4 * (e % 16)) 31 16
    (again.filter (fun f => f.sent)).length

/-- One NAK per number per 8 µs; during a mask change it waits for the boundary (R227, R229). -/
def State.sendNak (s : State) (e : Nat) : State :=
  let k := s.link e
  let quiet := match k.nak with
    | some (n, r) => decide (n = k.rxSeq) && decide (s.nsSince r < 8000)
    | none => false
  if quiet then s
  else if s.txRuns e = false then s.modLink e (fun k => { k with nakDue := true })
  else (s.setLink e { k with nak := some (k.rxSeq, s.kept.raw), nakDue := false }).sendStriped e [(ackBlock true k.rxSeq, 0)]

/-- A comma number has been reached, compared as a signed difference. -/
def commaPast (now at_ : W8) : Bool := decide (0 ≤ (now - at_).toInt)

/-- The receiver's part of an apply comma: once the partner's stream has reached it, the announced mask destripes and the receiver
discards no longer (R227, R228). -/
def State.rxApply (s : State) (e : Nat) : State :=
  let k := s.link e
  match k.rxAt with
  | none => s
  | some a => if commaPast k.peerComma a then s.setLink e { k with rxAt := none, discard := false } else s

/-- The transmitter's part: the partner's mask stripes, the oldest unacknowledged frame on goes again, and a NAK that waited goes. -/
def State.txApply (s : State) (e : Nat) : State :=
  let k := s.link e
  match k.txAt with
  | none => s
  | some (m, a) =>
    if commaPast k.comma a then
      let s1 := ((s.modLink e (fun k => { k with tx := m, txAt := none })).showLink e).resendFrom e (fun _ => decide (m ≠ 0))
      if k.nakDue then s1.sendNak e else s1
    else s

/-- R227, R228, R230: an apply comma. -/
def execMaskApply (l : Lane) (s : State) : Host.Outcome State Fault Refusal :=
  .next (
    let e := (s.linkOf l).1
    if s.laneMode e ≠ 0 then s else (s.rxApply e).txApply e)

/-! ## Sequence numbers and replay (R229 to R232) -/

/-- Frames before a next expected number leave the replay store. -/
def State.acked (s : State) (e : Nat) (nxt : W16) : State :=
  (s.modLink e (fun k => { k with store := k.store.filter (fun f => decide (0 ≤ (f.seq - nxt).toInt)) })).showUnacked e

/-- The lane's link takes blocks of the group stream: the lane is in UP at rates 1 to 4, and the receiver does not discard. -/
def State.streamRuns (s : State) (l : Nat) : Bool :=
  let e := (s.linkOf l).1
  decide (s.laneState l = 5) && decide (1 ≤ s.laneRate l) && s.laneOn l && s.blnkOn (l / 16) && decide (s.laneMode e = 0)
  && !(s.link e).discard

/-- R229: an ACK with NAK = 0. -/
def execAckReceive (l : Lane) (nxt : W16) (s : State) : Host.Outcome State Fault Refusal :=
  .next (if s.streamRuns l then s.acked (s.linkOf l).1 nxt else s)

/-- R230: an ACK with NAK = 1. -/
def execNakReceive (l : Lane) (nxt : W16) (s : State) : Host.Outcome State Fault Refusal :=
  .next (
    let e := (s.linkOf l).1
    if s.streamRuns l = false then s
    else
      let s1 := s.acked e nxt
      if s1.txRuns e then s1.resendFrom e (fun _ => true) else s1)

/-- R229: an ACK. -/
def execAckSend (l : Lane) (s : State) : Host.Outcome State Fault Refusal :=
  .next (
    let e := (s.linkOf l).1
    if s.streamRuns l && s.txRuns e then s.sendStriped e [(ackBlock false (s.link e).rxSeq, 0)] else s)

/-- R230: 8 µs without progress. -/
def execReplayTimeout (l : Lane) (s : State) : Host.Outcome State Fault Refusal :=
  .next (
    let e := (s.linkOf l).1
    if s.txRuns e ∧ s.laneMode e = 0 then s.resendFrom e (fun _ => true) else s)

/-! ## Departures -/

/-- R224: a DEPART block, in whatever state the receiver takes it. -/
def execDepartReceive (l : Lane) (s : State) : Host.Outcome State Fault Refusal :=
  .next (if s.laneOn l = true ∧ 1 ≤ s.laneState l ∧ s.laneState l ≤ 5 then (s.laneDeparts l).regroup (s.linkOf l).1 else s)

/-- R224: the timer of 3 ms, of a lane that holds a partner, or of a port's first lane, whose number is its entry's. -/
def execPartnerTimeout (l : Lane) (s : State) : Host.Outcome State Fault Refusal :=
  .next (match (s.lane l).timer with
    | none => s
    | some _ =>
      match (s.lane l).partner with
      | none => (s.modLane l (fun x => { x with timer := none })).entryDeparts l
      | some _ => (s.laneDeparts l).regroup (s.linkOf l).1)

/-! ## Headrace (R235 to R239) -/

def hraceKey (off q k : Nat) : Nat := entKey (pgHRACE q + off) k
/-- The ring a map word B names: its base and its size (R236). -/
def mapRing (q : Nat) (b : W32) : Nat × Nat := (cisternBase + q * 0x2000000 + 64 * bitsOf b 18 0, 2 ^ streamLog (bitsOf b 28 24))

/-- The live map entry of a stream finds a frame that arrives on link e (R235). -/
def State.hraceFinds (s : State) (e stream : Nat) : Bool :=
  let a := s.reg (hraceKey 0x844 (e / 16) stream)
  bit a 31 && decide (bitsOf a 23 20 = e % 16) && s.cgRunning (bitsOf a 29 24)

/-- A frame without a map entry (R235). -/
def State.noMap (s : State) (q : Nat) : State := (s.inc (pgHRACE q + 0x068) 31 0 1).raise (pgHRACE q) 0

/-- The window of a cluster in which a key is armed, as 32 t + w. -/
def State.findWindow (s : State) (d key : Nat) : Option Nat :=
  ((List.range 8).flatMap (fun t => (List.range 4).map (fun w => (t, w)))).find? (fun p =>
    let x := tabGet (fun _ => ({} : Window)) (s.tile d p.1).win p.2
    x.armed && decide (x.key = key)) |>.map (fun p => 32 * p.1 + p.2)

def State.windowAt (s : State) (d tw : Nat) : Window := tabGet (fun _ => {}) (s.tile d (tw / 32)).win (tw % 32)

/-- A landing write of bytes at an offset of a window, in one arming of it; what falls outside, or finds the window disarmed, is dropped and
raises LANDING_DROP (R102). The second component says that all of it landed. -/
def State.landBytes (s : State) (d : Nat) (gen : Nat) (tw : Nat) (off : Nat) (bs : Bytes) : State × Bool :=
  let w := s.windowAt d tw
  if w.armed = false ∨ w.gen ≠ gen then (if bs.isEmpty then s else s.raise (pgCLU d) 11, false)
  else
    let room := bs.take (w.len - off)
    let s1 := s.chipWrite (tileAddr d (tw / 32) (w.base + off)) (plain room)
    if room.length < bs.length then (s1.raise (pgCLU d) 11, true) else (s1, true)

/-- The lookup of a frame's header: where the live entry of this cycle sends it; the answer stands (R235, R237). -/
def State.lookup (s : State) (e : Nat) (seq : W16) (stream : Nat) : State × Landing :=
  let q := e / 16
  let a := s.reg (hraceKey 0x844 q stream)
  let l : Landing := {
    seq := seq, stream := stream, mapA := a, mapB := s.reg (hraceKey 0x848 q stream), mapC := s.reg (hraceKey 0x84C q stream),
    win := none, raw := s.kept.raw, found := s.hraceFinds e stream }
  let miss := s.inc (pgHRACE q + 0x060) 31 0 1
  if l.found = false then (s.noMap q, l)
  else if bit a 30 = false then (s, l)
  else
    let d := 6 * q + bitsOf a 17 15
    match (if bitsOf a 17 15 < 6 then s.findWindow d (bitsOf a 11 0) else none) with
    | some tw => if (s.windowAt d tw).full then (miss, l) else (s, { l with win := some tw, gen := (s.windowAt d tw).gen })
    | none => (miss, l)

/-- The status word (R238). -/
def statusWord (replayed : Bool) (seq stream len : Nat) : Nat :=
  2 ^ 63 + b2n replayed * 2 ^ 62 + seq * 2 ^ 32 + stream * 2 ^ 22 + len

/-- The event of a delivered frame waits for its writes (R239). -/
def State.queueEvent (s : State) (e : Nat) (l : Landing) : State :=
  if bit l.mapA 19 then
    { s with events := tabSet (fun _ => []) s.events e (tabGet (fun _ => []) s.events e ++ [bitsOf l.mapC 7 0]) }
  else s

/-- A good frame is written at its ring's write position: status word, payload, padding (R236). -/
def State.toRing (s : State) (q : Nat) (l : Landing) (status : Nat) (pay : Bytes) : State :=
  let r := mapRing q l.mapB
  let pos := tabGet (fun _ => 0) s.hraceAt (1024 * q + l.stream)
  let bs := bytesLE 8 status ++ pay
  let all := bs ++ padTo 64 bs.length
  let s1 := s.ringWrite { cg := some (bitsOf l.mapA 29 24), quad := q } r.1 r.2 pos all
  { s1 with hraceAt := tabSet (fun _ => 0) s1.hraceAt (1024 * q + l.stream) ((pos + all.length) % r.2) }

/-- A good frame is delivered under the lookup of its header; one without a map entry is discarded (R235 to R239). -/
def State.deliver (s : State) (e : Nat) (l : Landing) (replayed : Bool) (seqField : Nat) (pay : Bytes) : State :=
  let q := e / 16
  let status := statusWord replayed seqField l.stream pay.length
  if l.found = false then s
  else match l.win with
  | none => (s.toRing q l status pay).queueEvent e l
  | some tw =>
    let d := 6 * q + bitsOf l.mapA 17 15
    let r := s.landBytes d l.gen tw 8 pay
    if r.2 = false ∨ l.torn = true then
      (r.1.inc (pgHRACE q + 0x064) 31 0 1).raise (pgHRACE q) 1
    else
      let s1 := (r.1.landBytes d l.gen tw 0 (bytesLE 8 status)).1
      let x := s1.tile d (tw / 32)
      (s1.setTile d (tw / 32) { x with
        win := tabSet (fun _ => {}) x.win (tw % 32) { s1.windowAt d tw with full := true } }).queueEvent e l

/-- The line errors met while a frame arrived. -/
def State.lineErrors (s : State) (l : Nat) (f : FrameIn) : State :=
  let s1 := s.inc (pgLANE l + 0x054) 31 16 f.code.toNat
  if s.fld (pgLANE l + 0x044) 24 24 = 1 then
    (s1.inc (pgLANE l + 0x05C) 31 0 f.corr.toNat).inc (pgLANE l + 0x060) 31 0 f.unc.toNat
  else s1

/-- The Headrace of a quadrant runs. -/
def State.hraceOn (s : State) (q : Nat) : Bool := !s.quadDark q && decide (s.slotState (qSlot q 21) < 2)

/-- R235, R237: a FRAME_HDR in sequence is looked up; a frame bound for an armed window starts to land at once. -/
def execFrameHdrReceive (l : Lane) (f : FrameIn) (s : State) : Host.Outcome State Fault Refusal :=
  .next (
    let e := (s.linkOf l).1
    if s.streamRuns l = false ∨ f.seq ≠ (s.link e).rxSeq ∨ s.hraceOn (l / 16) = false then s
    else match (s.link e).landing with
      | some _ => s
      | none =>
        let r := s.lookup e f.seq f.stream.toNat
        match r.2.win with
        | none => r.1.modLink e (fun k => { k with landing := some r.2 })
        | some tw =>
          let t := r.1.landBytes (6 * (e / 16) + bitsOf r.2.mapA 17 15) r.2.gen tw 8 (f.payload.take f.len.toNat)
          t.1.modLink e (fun k => { k with landing := some { r.2 with torn := !t.2 } }))

/-- A good frame in sequence is accepted: the next number is expected, and the frame goes where its header's lookup sent it. -/
def State.acceptFrame (s : State) (e : Nat) (f : FrameIn) : State :=
  let k := s.link e
  let s1 := s.setLink e { k with rxSeq := k.rxSeq + 1, seen := k.seen.filter (fun n => decide (n ≠ f.seq)), landing := none }
  let r := match k.landing with
    | some l => (s1, l)
    | none => s1.lookup e f.seq f.stream.toNat
  r.1.deliver e r.2 (k.seen.contains f.seq) f.seq.toNat (f.payload.take f.len.toNat)

/-- R229, R231: a whole frame. -/
def execFrameReceive (l : Lane) (f : FrameIn) (s : State) : Host.Outcome State Fault Refusal :=
  .next (
    let e := (s.linkOf l).1
    if s.streamRuns l = false ∨ s.hraceOn (l / 16) = false then s
    else
      let s0 := s.lineErrors l f
      if frameGood f = true ∧ f.seq = (s.link e).rxSeq then s0.acceptFrame e f
      else if 0 ≤ (f.seq - (s.link e).rxSeq).toInt then
        (s0.modLink e (fun k => { k with seen := if k.seen.contains f.seq then k.seen else k.seen ++ [f.seq] })).sendNak e
      else s0.sendNak e)

/-- R239: the writes of the oldest delivered frame of a link with EVT_EN are acknowledged. -/
def execFrameDeliveredEvent (l : Lane) (stream : W10) (s : State) : Host.Outcome State Fault Refusal :=
  .next (
    let e := (s.linkOf l).1
    let ev := bitsOf (s.reg (hraceKey 0x84C (e / 16) stream.toNat)) 7 0
    match tabGet (fun _ => []) s.events e with
    | [] => s
    | v :: rest =>
      let w := if (v :: rest).contains ev then ev else v
      (({ s with events := tabSet (fun _ => []) s.events e ((v :: rest).erase w) } : State).evtAdd w 1).settle)

/-! ## eCPRI (R234) -/

/-- A received Ethernet frame passes the checks of R234. -/
def State.ecpriOk (s : State) (e : Nat) (f : EcpriIn) : Bool :=
  f.fcsOk && decide (f.da.toNat = s.ethMac e) && f.etherOk && decide (f.rev = 1) && !f.c
  && (f.tagged || decide (s.fld (pgLANE e + 0x220) 31 31 = 0))
  && (decide (f.msg = 5)
      || ((decide (f.msg = 0) || decide (f.msg = 2)) && decide (bitsOf f.id 15 10 = s.fld (pgLANE e + 0x220) 27 22)
          && decide (f.sub = 0x80)))

/-- A gap in a stream's SEQ_ID (R234). -/
def State.ethGap (s : State) (e stream : Nat) (seq : W8) : State :=
  let key := 1024 * (e / 16) + stream
  let gap := match tabGet (fun _ => none) s.ethLast key with
    | some x => decide (seq ≠ x + 1)
    | none => false
  let s1 : State := { s with ethLast := tabSet (fun _ => none) s.ethLast key (some seq) }
  if gap then s1.inc (pgLANE e + 0x20C) 31 0 1 else s1

def execEcpriReceive (l : Lane) (f : EcpriIn) (s : State) : Host.Outcome State Fault Refusal :=
  .next (
    let e := (s.linkOf l).1
    if s.portUpAt e = false then s
    else if s.ecpriOk e f = false then s.inc (pgLANE e + 0x208) 31 0 1
    else
      let s1 := s.inc (pgLANE e + 0x204) 31 0 1
      if f.msg = 5 then s1.ptpDeliver e f.raw true
      else
        let stream := bitsOf f.id 9 0
        let s2 := s1.ethGap e stream f.seq
        if s.hraceOn (e / 16) = false then s2
        else
          let r := s2.lookup e 0 stream
          r.1.deliver e r.2 false f.seq.toNat f.payload)

/-- R221: a control block whose type is not listed. -/
def execControlBlockUnknown (x : OnLane W8) (s : State) : Host.Outcome State Fault Refusal :=
  .next (
    if s.laneOn x.lane = true ∧ 1 ≤ s.laneRate x.lane ∧ 3 ≤ s.laneState x.lane ∧ s.laneState x.lane ≤ 5
        ∧ blockTypes.contains x.it.toNat = false then s.inc (pgLANE x.lane + 0x054) 31 16 1 else s)

/-! ## Tailrace (R230, R241) -/

def traceKey (off q k : Nat) : Nat := entKey (pgTRACE q + off) k

/-- The replay store takes one more frame of n bytes (R230). -/
def State.storeRoom (s : State) (e n : Nat) : Bool :=
  let k := s.link e
  decide (k.store.length < 2048)
  && decide ((k.store.map (fun f => f.payload.length)).sum + n ≤ 262144 * (s.linkOf e).2)

/-- A new frame takes its turn on the line. -/
def State.firstSend (s : State) (e : Nat) (f : TxFrame) : State := (s.sendFrame e f).markSent e (fun g => decide (g.seq = f.seq))

/-- A frame of an Ethernet port without its FCS (R234, R241). -/
def State.ecpriFrame (s : State) (e : Nat) (mapA : W32) (seq : W8) (pay : Bytes) : Bytes :=
  let be := fun (n v : Nat) => (bytesLE n v).reverse
  let v := s.reg (pgLANE e + 0x220)
  let da := s.fld (pgLANE e + 0x21C) 15 0 * 2 ^ 32 + (s.reg (pgLANE e + 0x218)).toNat
  let tag := if bit v 31 then be 2 0x8100 ++ be 2 (bitsOf v 30 28 * 8192 + bitsOf v 11 0) else []
  be 6 da ++ be 6 (s.ethMac e) ++ tag ++ be 2 0xAEFE ++ be 1 0x10 ++ be 1 (if bit mapA 19 then 2 else 0) ++ be 2 (pay.length + 4)
    ++ be 2 (bitsOf v 27 22 * 1024 + bitsOf mapA 9 0) ++ be 1 seq.toNat ++ be 1 0x80 ++ pay

/-- A frame that cannot be sent is lost (R241). -/
def State.loseFrame (s : State) (q : Nat) : State := s.inc (pgTRACE q + 0x060) 31 0 1

/-- The next n bytes of an entry's source ring, its read position advanced; a byte that an error response withheld is free. -/
def State.sourceBytes (s : State) (q k n : Nat) : State × Bytes :=
  let a := s.reg (traceKey 0x844 q k)
  let r := mapRing q (s.reg (traceKey 0x848 q k))
  let pos := tabGet (fun _ => 0) s.traceAt (1024 * q + k)
  let t := s.ringRead { cg := some (bitsOf a 29 24), quad := q } r.1 r.2 pos n
  let got := unmark t.2.1
  let s1 : State := { t.1 with traceAt := tabSet (fun _ => 0) t.1.traceAt (1024 * q + k) ((pos + n) % r.2) }
  let miss := n - got.length
  (s1.drawn miss, got ++ (List.range miss).map (fun i => (Config.freeWord (s1.free + i)).setWidth 8))

/-- R241: a frame of a Birlis link: the next number, into the replay store, and onto the line when the link sends. -/
def State.sendBirlis (s : State) (e : Nat) (a : W32) (k : Nat) (pay : Bytes) : State :=
  let x := s.link e
  let f : TxFrame := ⟨x.txSeq, bitsOf a 9 0, pay, false⟩
  let s1 := (s.setLink e { x with txSeq := x.txSeq + 1, store := x.store ++ [f] }).showUnacked e
  let s2 := if bit a 30 then s1.setTsWaiting (e / 16) (s1.tsWaiting (e / 16) ++ [⟨0, e, k, f.seq⟩]) else s1
  if s2.txRuns e then s2.firstSend e f else s2

/-- R241: a frame of an Ethernet port. -/
def State.sendEth (s : State) (e : Nat) (a : W32) (q k : Nat) (pay : Bytes) : State :=
  let seq := tabGet zero8 s.ethSeq (1024 * q + k)
  let s1 : State := { s with ethSeq := tabSet zero8 s.ethSeq (1024 * q + k) (seq + 1) }
  let s2 := s1.emit (.ethFrame e (s1.ecpriFrame e a seq pay))
  if bit a 30 then s2.setTsWaiting q (s2.tsWaiting q ++ [⟨0, e, k, seq.setWidth 16⟩]) else s2

/-- R241: one frame of n bytes of entry k; an entry that is not VALID sends none. -/
def State.traceSend (s : State) (q k n : Nat) : State :=
  let a := s.reg (traceKey 0x844 q k)
  let e := 16 * q + bitsOf a 23 20
  if bit a 31 = false then s
  else
    let r := s.sourceBytes q k n
    if s.laneMode e = 1 then
      if (s.isLink e && s.portUpAt e) then r.1.sendEth e a q k r.2 else r.1.loseFrame q
    else if (s.isLink e && s.ptPresent e) then r.1.sendBirlis e a k r.2
    else r.1.loseFrame q

/-- The Tailrace of a quadrant runs. -/
def State.traceOn (s : State) (q : Nat) : Bool := !s.quadDark q && decide (s.slotState (qSlot q 22) < 2)

/-- A request whose turn in its span it is: no earlier one of the span is for a VALID entry, so none is to send first (R325). -/
def State.sendTurn (s : State) (q : Nat) (r : SendReq) : Bool :=
  ((s.sendsOf q).takeWhile (fun x => decide (x ≠ r))).all (fun x =>
    decide (x.span ≠ r.span) || !bit (s.reg (traceKey 0x844 q x.entry)) 31)

/-- A request is taken, and with it the earlier ones of its span, which send nothing. -/
def State.takeSend (s : State) (q : Nat) (r : SendReq) : State :=
  let l := s.sendsOf q
  s.setSends q ((l.takeWhile (fun x => decide (x ≠ r))).filter (fun x => decide (x.span ≠ r.span))
    ++ (l.dropWhile (fun x => decide (x ≠ r))).drop 1)

/-- R230, R241, R325: the oldest request of an entry whose turn it is, when its link's replay store takes the frame. -/
def execTailraceFrameSend (q : Quad) (entry : W10) (n : W16) (s : State) : Host.Outcome State Fault Refusal :=
  .next (
    let e := 16 * (q : Nat) + bitsOf (s.reg (traceKey 0x844 q entry.toNat)) 23 20
    match (s.sendsOf q).find? (fun r => decide (r.entry = entry.toNat) && s.sendTurn q r) with
    | none => s
    | some r =>
      if s.traceOn q = false ∨ r.n ≠ n.toNat then s
      else if s.laneMode e = 0 ∧ s.ptPresent e = true ∧ s.storeRoom e r.n = false then s
      else (s.takeSend q r).traceSend q r.entry r.n)

/-! ## Injection (R242) -/

/-- A write of BLNK_INJ that arms an action; LANE_DROP squelches its lane at once. -/
def State.writeInj (s : State) (q : Nat) (v : W32) : State :=
  s.scoped (pgBLNK q + 0x140) v (fun _ t =>
    if bit v 31 = true ∧ bitsOf v 26 24 = 4 then
      let l := 16 * q + bitsOf v 19 16
      let n := bitsOf v 7 0
      if n = 0 then t.put (pgBLNK q + 0x140) 31 31 0
      else (t.modLane l (fun x => { x with inj := n })).emit (.laneTx l false)
    else t)

def injWord (act link lane count : Nat) : W32 := BitVec.ofNat 32 (2 ^ 31 + act * 2 ^ 24 + link * 2 ^ 20 + lane * 2 ^ 16 + count)

def execInjDrop (q : Quad) (link : W4) (s : State) : Host.Outcome State Fault Refusal :=
  .next (s.access (pgBLNK q + 0x140) (fun s => s.writeInj q (injWord 1 link.toNat 0 0)))

def execInjCorrupt (q : Quad) (link : W4) (s : State) : Host.Outcome State Fault Refusal :=
  .next (s.access (pgBLNK q + 0x140) (fun s => s.writeInj q (injWord 2 link.toNat 0 0)))

def execInjReorder (q : Quad) (link : W4) (s : State) : Host.Outcome State Fault Refusal :=
  .next (s.access (pgBLNK q + 0x140) (fun s => s.writeInj q (injWord 3 link.toNat 0 0)))

def execInjLaneDrop (q : Quad) (link lane : W4) (count : W8) (s : State) : Host.Outcome State Fault Refusal :=
  .next (s.access (pgBLNK q + 0x140) (fun s => s.writeInj q (injWord 4 link.toNat lane.toNat count.toNat)))

end Sys2Proof.Machine
end

