-- ==== Sys2Proof/Machine/Pcie.lean ====
section
/-! DEFINITION. The PCI Express endpoint (R397 to R410): configuration requests, doorbells of rings and completion queues, MSI-X, function
and link resets. -/

namespace Sys2Proof.Machine

open Sys2Proof

/-! ## Doorbells -/

/-- R133: a submission ring's doorbell; during DRAIN it is counted, raises DB_IGNORED and changes nothing else. -/
def State.ringDoorbell (s : State) (r tail : Nat) : State :=
  if s.mode = 4 then (s.inc (pgSLC + 0x06C) 31 0 1).raise pgSLC 3
  else
    let s1 := s.put (ringKey 0x058 r) 15 0 tail
    if s.ringSize r < s1.ringPosted r then s1.stopRing r 3 else s1

def execRingDoorbell (fn : Fn) (r : Ring) (v : W32) (s : State) : Host.Outcome State Fault Refusal :=
  .next (s.doorbell fn (s.ringOwner r) v (fun tail s => s.ringDoorbell r tail))

/-- R160: a completion queue's head doorbell returns credits. -/
def State.cqDoorbell (s : State) (c head : Nat) : State :=
  let n := (head + 65536 - s.cqHead c) % 65536
  if n ≤ (s.cqTail c + 65536 - s.cqHead c) % 65536 then
    (s.put (cqKey 0x054 c) 15 0 head).put (cqKey 0x058 c) 16 0 (s.cqOut c - n)
  else s.badDoorbell 5

def execCqHeadDoorbell (fn : Fn) (c : Cq) (v : W32) (s : State) : Host.Outcome State Fault Refusal :=
  .next (s.doorbell fn (s.cqOwner c) v (fun head s => s.cqDoorbell c head))

/-- What a read at a BAR2 offset returns to a function (R402). -/
def State.doorbellWord (s : State) (fn off : Nat) : W32 :=
  let i := off / 0x1000
  let two := fun (hi lo : Nat) => BitVec.ofNat 32 (hi * 65536 + lo)
  if off % 0x1000 ≠ 0 then 0
  else if i < 256 then (if s.ringOwner i = fn then two (s.ringHead i) (s.ringTail i) else 0)
  else if i < 512 then (if s.cqOwner (i - 256) = fn then two (s.cqTail (i - 256)) (s.cqHead (i - 256)) else 0)
  else if i < 528 then (if s.chOwner (i - 512) = fn then two (s.chHead (i - 512)) (s.chTail (i - 512)) else 0)
  else 0

/-- R402: a read in BAR2; Unsupported Request where the function has none or the mode answers so (R400). -/
def execDoorbellRead (fn : Fn) (off : W22) (s : State) : Host.Outcome State Fault Refusal :=
  .next (
    if s.hasBar2 fn = false ∨ s.dataUr = true then s.emit (.memAnswer fn true 0)
    else ({ s with readData := s.doorbellWord fn off.toNat } : State).emit (.memAnswer fn false (s.doorbellWord fn off.toNat)))

/-! ## Configuration -/

/-- A request to a function is answered with Configuration Request Retry Status (R400). -/
def State.cfgRetry (s : State) (fn : Nat) : Bool :=
  decide (s.mode = 1) && !(decide (fn = pf0) && (match s.boot with | some b => b.opened | none => false))

/-- What a configuration write does (R399, R403, R406). -/
def State.cfgWrite (s : State) (fn : Nat) (w : ConfigReq) : State :=
  match w with
  | .read => s
  | .busMaster on => { s with pcie := { s.pcie with bme := tabSet (fun _ => false) s.pcie.bme fn on } }
  | .msixEnable on => { s with pcie := { s.pcie with msixEn := tabSet (fun _ => false) s.pcie.msixEn fn on } }
  | .sriov enable n =>
    if fn ≠ 0 then s
    else
      let s1 := if enable then s else s.dropVfs
      { s1 with pcie := { s1.pcie with vfEnable := enable, numVfs := n.toNat } }
  | .ari on => if fn ≠ 0 then s else { s with pcie := { s.pcie with ari := on } }
  | .maxPayload n => if fn = pf0 ∧ n.toNat ≤ 2 then { s with pcie := { s.pcie with mps := n.toNat } } else s

/-! ## MSI-X (R406) -/

/-- A message still pending is sent: PF0's only while its vector is asserted. -/
def State.sendPending (s : State) (fn v : Nat) : State :=
  let k := 4096 * fn + v
  if tabGet (fun _ => false) s.pcie.pend k = false then s
  else if fn = pf0 ∧ s.vecOn v = false then { s with pcie := { s.pcie with pend := tabErase s.pcie.pend k } }
  else
    let r := s.message fn v
    if r.2 then r.1.raise pgPCIE 2 else r.1

/-- MSI-X Enable becomes 1. -/
def State.msixOn (s : State) (fn : Nat) : State :=
  (List.range (msixSize fn)).foldl (fun t v => t.sendPending fn v) (s.cfgWrite fn (.msixEnable true))

/-- A configuration write, with the messages that MSI-X Enable releases. -/
def State.cfgAct (s : State) (fn : Nat) (w : ConfigReq) : State :=
  if w = .msixEnable true then s.msixOn fn else s.cfgWrite fn w

/-- R400: a configuration request; a VF not enabled answers none. -/
def execConfigRequest (fn : Fn) (w : ConfigReq) (s : State) : Host.Outcome State Fault Refusal :=
  .next (
    if isVf fn = true ∧ s.vfOn fn = false then s
    else if s.cfgRetry fn then s.emit (.cfgAnswer fn true)
    else (s.cfgAct fn w).emit (.cfgAnswer fn false))

/-- The mask bit of a vector. -/
def State.setMask (s : State) (fn v : Nat) (open_ : Bool) : State :=
  { s with pcie := { s.pcie with unmasked := tabSet (fun _ => false) s.pcie.unmasked (4096 * fn + v) open_ } }

/-- R406: a vector unmasked or masked, or MSI-X Enable set. -/
def execMsixUnmask (fn : Fn) (vec : MsixTarget) (s : State) : Host.Outcome State Fault Refusal :=
  .next (
    if isVf fn = true ∧ s.vfOn fn = false then s
    else match vec with
      | .enable => s.msixOn fn
      | .vector v => if v.toNat < msixSize fn then (s.setMask fn v.toNat true).sendPending fn v.toNat else s
      | .mask v => if v.toNat < msixSize fn then s.setMask fn v.toNat false else s)

/-- A PF0 vector's message again, while it is asserted. -/
def State.resend (s : State) (v : Nat) : State :=
  if s.vecOn v then
    let r := s.message pf0 v
    if r.2 then r.1.raise pgPCIE 2 else r.1
  else s

/-- A write of PCIE_IRQ_REARM_LO or _HI. -/
def State.rearm (s : State) (hi : Bool) (v : W32) : State :=
  (indices 32 v.getLsbD).foldl (fun t n => t.resend (n + if hi then 32 else 0)) s

def execIrqRearm (hi : Bool) (v : W32) (s : State) : Host.Outcome State Fault Refusal :=
  .next (s.access (pgPCIE + (if hi then 0x064 else 0x060)) (fun s => s.rearm hi v))

/-! ## The link -/

/-- Rates and widths of R397. -/
def linkForm (speed : W3) (width : W5) : Bool :=
  decide (1 ≤ speed.toNat) && decide (speed.toNat ≤ 5) && [1, 2, 4, 8, 16].contains width.toNat

/-- R397: the link enters DL_Active; it is held down while PERST_L is low or VDD_CORE_DEV is in reset. -/
def execPcieLinkUp (speed : W3) (width : W5) (s : State) : Host.Outcome State Fault Refusal :=
  .next (
    if s.pcie.perstLow = true ∨ s.wide.isSome = true ∨ linkForm speed width = false then s
    else
      (((s.put (pgPCIE + 0x040) 31 31 1).put (pgPCIE + 0x040) 30 28 speed.toNat).put (pgPCIE + 0x040) 27 23 width.toNat).irqBit pgPCIE 0)

/-- R408. -/
def execFunctionLevelReset (fn : Fn) (s : State) : Host.Outcome State Fault Refusal :=
  .next (
    if isVf fn = true ∧ s.vfOn fn = false then s
    else
      let s1 := s.resetFn fn
      if fn.val = pf0 then s1 else s1.stopOwned (fun n => decide (n = fn.val)))

/-- R409: a hot reset, or the link leaves DL_Active. -/
def execLinkReset (s : State) : Host.Outcome State Fault Refusal :=
  .next (if s.fld (pgPCIE + 0x040) 31 31 = 1 then s.linkDown else s)

end Sys2Proof.Machine
end

