-- ==== Sys2Proof/Machine/View.lean ====
section
/-! DEFINITION. What a read of a register returns (R9, R13, R42, R49): the stored word, with the fields the block computes in
place. The value of a field that follows other state stands in that state only. -/

namespace Sys2Proof.Machine

open Sys2Proof

/-- A number as a register word. -/
def word (n : Nat) : W32 := BitVec.ofNat 32 n

/-! ## The header -/

/-- PWR_STATE of a slot (R361): above NAP a block shows ACTIVE while it has work and IDLE in a cycle without; a quadrant domain 0. -/
def State.shownState (s : State) (k : Nat) : Nat :=
  let x := s.slotState k
  if 2 ≤ x ∨ (8 ≤ k ∧ k < 12) then x
  else match slotBlk k with
    | some p => 1 - b2n (s.pageActive p)
    | none => x

/-- The state a page's block shows; 0 for a page without a slot (R42). -/
def State.pageSlotState (s : State) (p : Page) : Nat := match p.slot with | some k => s.shownState k | none => 0

/-- PAGE_STAT. -/
def State.pageStat (s : State) (pg : Nat) (p : Page) : W32 :=
  word (16 * s.pageSlotState p + 4 * b2n (tabGet (fun _ => false) s.resetting pg) + 2 * b2n (s.pageActive p)
    + b2n (decide (p.blk = .cg) && s.cgHalted p.inst))

/-- PWR_STAT (R42; bits [31:4] the entry record of ch. 15). -/
def State.pwrStat (s : State) (p : Page) : W32 :=
  match p.slot with
  | none => 0
  | some k =>
    let x := s.slot k
    word (65536 * x.entries.toNat + 256 * x.lastRefuse + 8 * b2n x.waking + s.shownState k)

/-- The register that holds a page's PWR_CTRL: its slot's, which the power-slot mirror shares (R54). -/
def pwrKey (pg : Nat) (p : Page) : Nat := match p.slot with | some k => slotCtrlKey k | none => pg + 0x020

/-- A power-slot mirror. -/
def State.mirror (s : State) (k : Nat) : W32 := word (65536 * s.shownState k + s.fld (slotCtrlKey k) 3 0)

/-- The bits of a register that are not reserved where it stands (R13): the ETH_ registers act on a port's first lane page only, and a
shaping coefficient has 18 bits. -/
def State.openBits (s : State) (p : Page) (addr : Nat) : W32 :=
  match p.blk with
  | .lane => if 0x200 ≤ addr % 0x1000 ∧ s.isLink p.inst = false then 0 else 0xFFFFFFFF
  | .shp => if addr % 0x800 = 0x054 ∧ s.fld (pgSHP p.quad + 0x050) 30 30 = 0 then 0x3FFFF else 0xFFFFFFFF
  | _ => 0xFFFFFFFF

/-- A header register. -/
def State.headerView (s : State) (pg : Nat) (p : Page) (off : Nat) : Option W32 :=
  match off with
  | 0x000 => some p.id
  | 0x004 => some p.ver
  | 0x00C => if p.seq = 0 then some (s.pageStat pg p) else none
  | 0x020 => if p.seq = 0 then some (s.reg (pwrKey pg p)) else none
  | 0x024 => if p.seq = 0 then some (s.pwrStat p) else none
  | _ => none

/-! ## Counts -/

/-- FLOW_INSP of a flow. -/
def State.flowInsp (s : State) (f : Nat) : W32 :=
  let st := match s.flowHead f with
    | none => 0
    | some t => if t.place = .parked then 1 else if t.place.placed then 2 else 3
  word (2 ^ 30 * st + 2 ^ 29 * b2n (s.flowStopped f) + (s.tasks.filter (fun t => decide (t.flow = f) && !t.ended)).length % 65536)

/-- SLP_ENG_DEPTH of engine e; priority 0 is the highest (R132). -/
def State.engDepth (s : State) (q e : Nat) : W32 :=
  let n := fun p => (s.engQueue q e p).length
  let held := indices 8 (fun p => decide (n p ≠ 0))
  word (32768 * b2n (!held.isEmpty) + 4096 * (held.head?).getD 0 + ((List.range 8).map n).sum)

/-- CG_PENDING. -/
def State.cgPending (s : State) (g : Nat) : W32 := word (2 ^ 20 * min (s.cgQueued g) 0xFFF + s.cgInService g)

/-- A word of which bit j is p j. -/
def flags (p : Nat → Bool) : W32 := word ((indices 32 p).foldl (fun a j => a + 2 ^ j) 0)

/-! ## Blocks -/

/-- CLU page. -/
def State.cluView (s : State) (pg d off : Nat) (x : W32) : W32 :=
  let k := s.fld (pg + 0x060) 7 0
  let e := s.kernel d k
  let n := s.kernelUsers d k
  if off = 0x064 then word (2 ^ 31 * b2n e.valid + 2 ^ 30 * b2n (!e.valid && decide (n ≠ 0)) + 65536 * e.entry + n)
  else if off = 0x068 then word (65536 * e.len + e.base)
  else if 0x084 ≤ off ∧ off ≤ 0x0A0 then putFld x 9 0 (s.hopper d ((off - 0x084) / 4)).length
  else x

/-- LANE page. -/
def State.laneView (s : State) (l off : Nat) (x : W32) : W32 :=
  let e := (s.linkOf l).1
  if off = 0x044 then putFld x 26 26 (b2n (s.qrefLocked l))
  else if off = 0x07C then word (2 * b2n (s.qrefLocked l) + b2n (s.qrefSel l))
  else if off = 0x10C then
    let t := match (s.lane l).timer with | some r => 2 ^ 30 + 65536 * (min (s.nsSince r / 1000) 4095) | none => 0
    word (2 ^ 31 * b2n ((s.link e).rx.getLsbD (l - e)) + t + bitsOf x 15 0)
  else x

/-- RSTO page (R434, R436). -/
def State.rstoView (s : State) (off : Nat) (x : W32) : W32 :=
  let c := (off - 0x040) / 8
  if off = 0x040 ∨ off = 0x048 then
    let f := match s.inForce c with | none => 0 | some false => 1 | some true => 2
    word (2 ^ 31 * b2n (s.bankGood c false) + 2 ^ 30 * b2n (s.bankGood c true) + 2 ^ 28 * f + (s.forcePayload c).length)
      ||| (x &&& 0x0C000000)
  else if off = 0x044 ∨ off = 0x04C then (match s.inForce c with | none => 0 | some b => bankSeq (s.bankOf c b))
  else if off = 0x060 then word (natLE (((s.forcePayload 1).drop (4 * s.fld (pgRSTO + 0x05C) 15 2)).take 4))
  else x

/-- BMON page. -/
def State.bmonView (s : State) (off : Nat) (x : W32) : W32 :=
  let m := s.bmon
  if off = 0x050 then
    let next := match m.scan with | some (c :: _) => c | _ => (s.scanChannels.head?).getD 0
    word (2 ^ 31 * b2n m.powered + 2 ^ 30 * b2n m.starting + 2 ^ 29 * b2n m.scan.isSome + 2 ^ 28 * b2n m.inj.isSome
      + 2 ^ 27 * b2n m.cal + bitsOf x 26 26 * 2 ^ 26 + next)
  else if off = 0x054 then (m.queue.head?).getD 0x0003F000
  else if off = 0x058 then putFld x 7 0 m.queue.length
  else if off = 0x060 then word (s.bmonUs 0)
  else x

/-- HBMC pages. -/
def State.hbmcView (s : State) (n seq off : Nat) (x : W32) : W32 :=
  if seq = 0 then (if off = 0x044 then putFld x 30 30 (b2n (decide (3 ≤ s.slotState (3 + n)))) else x)
  else
    let e := tabGet remapDflt s.mem.remap (256 * n + s.fld (pgHBMC1 n + 0x050) 7 0)
    if off = 0x054 then word (2 ^ 31 * b2n e.valid + 2 ^ 26 * e.pch + 2 ^ 20 * e.bank + e.row)
    else if off = 0x058 then word e.poison.toNat
    else x

/-- FQU page 1. -/
def State.fquView (s : State) (q off : Nat) (x : W32) : W32 :=
  if off = 0x040 then putFld x 22 16 (s.tsQueue q).length
  else if 0x048 ≤ off ∧ off ≤ 0x054 then
    (((s.tsQueue q).head?).getD 0).extractLsb' (32 * ((off - 0x048) / 4)) 32
  else x

/-- ABD page: the open detection of the selected context. -/
def State.abdView (s : State) (q off : Nat) (x : W32) : W32 :=
  let g := s.gsmSt q (s.fld (pgABD q + 0x040) 3 0)
  if off = 0x050 then g.pos
  else if off = 0x054 then
    (match g.det with | none => 0 | some (_, m) => word (2 ^ 31) ||| (BitVec.ofInt 16 m).setWidth 32)
  else x

/-- Device power page. -/
def State.dpwrView (s : State) (off : Nat) (x : W32) : W32 :=
  if 0x100 ≤ off ∧ off < 0x130 then s.mirror ((off - 0x100) / 4)
  else x

/-- Weir pages: QSUM in the device word, and REF_MV. -/
def State.weirView (s : State) (w off : Nat) (x : W32) : W32 :=
  if off = 0x040 then (s.weirWord w).setWidth 32
  else if off = 0x044 then (s.weirWord w >>> 32).setWidth 32
  else if off = 0x07C then putFld x 31 16 (s.sagRef w)
  else x

/-- FTB page 0. -/
def State.ftbView (s : State) (off : Nat) (x : W32) : W32 :=
  if off = 0x068 then BitVec.ofInt 32 s.slewLeft
  else if off = 0x078 then putFld x 0 0 (b2n s.time.slewOn)
  else x

/-- PCIE page. -/
def State.pcieView (s : State) (off : Nat) (x : W32) : W32 :=
  let bme := fun n => tabGet (fun _ => false) s.pcie.bme n
  if off = 0x048 then flags (fun j => bme (j + 1))
  else if off = 0x04C then word (b2n (bme pf0) + 2 * b2n (bme 0))
  else if off = 0x058 then flags s.vecOn
  else if off = 0x05C then flags (fun j => s.vecOn (32 + j))
  else x

/-- SLC pages. -/
def State.slcView (s : State) (seq off : Nat) (x : W32) : W32 :=
  let k := (off - 0x040) / 4
  if seq = 0 then (if off = 0x040 then putFld x 15 0 s.tasks.length else x)
  else if seq = 1 then (if 0x040 ≤ off ∧ off < 0x240 then s.evtCount (2 * k + 1) ++ s.evtCount (2 * k) else x)
  else if seq = 2 then
    (if 0x040 ≤ off ∧ off < 0x080 then word (natLE ((List.range 4).map (fun j => s.depCount (4 * k + j)))) else x)
  else x

/-- A block register: the stored word x with its computed fields. -/
def State.blockView (s : State) (pg : Nat) (p : Page) (off : Nat) (x : W32) : W32 :=
  match p.blk with
  | .dev => if off = 0x040 then putFld x 18 18 (b2n s.kept.factorySeen) else x
  | .dpwr => s.dpwrView off x
  | .weir => s.weirView p.quad off x
  | .ftb => if p.seq = 0 then s.ftbView off x else x
  | .bmon => s.bmonView off x
  | .rsto => s.rstoView off x
  | .fuse =>
    if 0x050 ≤ off ∧ off ≤ 0x07C then (s.fuseHash (min (s.fld (pg + 0x04C) 2 0) 4)).extractLsb' (8 * (off - 0x050)) 32 else x
  | .pcie => s.pcieView off x
  | .pump => if p.seq = 1 ∧ off = 0x040 then flags (fun c => decide (c < 16) && decide (s.channelState c = 1)) else x
  | .hbmc => s.hbmcView p.inst p.seq off x
  | .slc => s.slcView p.seq off x
  | .cmpl =>
    if p.seq = 1 ∧ 0x040 ≤ off ∧ off < 0x060 then
      flags (fun j => decide (s.cqTail (8 * (off - 0x040) + j) ≠ s.cqHead (8 * (off - 0x040) + j)))
    else x
  | .cg => if off = 0x04C then s.cgPending p.inst else x
  | .flow => if p.seq = 7 ∧ off = 0x044 then s.flowInsp (s.fld (pg + 0x040) 11 0) else x
  | .qpwr => if 0x100 ≤ off ∧ off < 0x1D0 then s.mirror (qSlot p.quad ((off - 0x100) / 4)) else x
  | .slp => if 0x040 ≤ off ∧ off < 0x054 then s.engDepth p.quad ((off - 0x040) / 4) else x
  | .fqu => if p.seq = 1 then s.fquView p.quad off x else x
  | .cbank =>
    if off = 0x044 then word (65536 * (s.mergeLines p.inst).length + popCount (s.reg (pgCIST p.quad + 0x050 + 4 * (p.inst % 12)))) else x
  | .code =>
    if p.seq = 0 ∧ off = 0x060 then flags (fun u => decide (u < 5) && (s.engJob p.quad (3 + u)).isSome) else x
  | .abd => s.abdView p.quad off x
  | .lane => s.laneView p.inst off x
  | .clu => s.cluView pg p.inst off x
  | _ => x

/-- Bits of a register that a read shows: those of every field but WO (R9, R13). -/
def RegDesc.readMask (d : RegDesc) : W32 :=
  d.fields.foldl (fun x f => if f.ty = .wo then x else x ||| fmask 32 f.hi f.lo) 0

/-- What a register of a readable page holds; a reserved offset reads as 0 (R13). -/
def State.viewAt (s : State) (addr : Nat) : W32 :=
  match pageOf addr with
  | none => 0
  | some p =>
    let off := addr % 0x1000
    let pg := addr - off
    match s.headerView pg p off with
    | some x => x
    | none =>
      match p.reg off with
      | none => 0
      | some d =>
        match tabGet (fun _ => none) s.latch addr with
        | some x => x
        | none => s.blockView pg p off (s.reg (s.regKey addr d)) &&& d.readMask &&& s.openBits p addr

end Sys2Proof.Machine
end

