-- ==== Sys2Proof/Machine/AccessOps.lean ====
section
/-! DEFINITION. A read and a write of any register of BAR0: what each address stands for (R35 to R57), with the action the
register map gives a write of it. -/

namespace Sys2Proof.Machine

open Sys2Proof

/-! ## PAGE_CTRL (R43) -/

/-- A quadrant the group touches is fenced or in reset (R69). -/
def State.touchesFenced (s : State) (g : Nat) : Bool := (List.range 4).any (fun q => s.touches g q && s.fenced q)

/-- RUN acts: the group is halted, the mode accepts it, and every quadrant it touches is whole (R43, R59, R69). -/
def State.runOpen (s : State) (g : Nat) : Bool :=
  s.cgHalted g && (decide (s.mode = 3) || decide (s.mode = 5)) && !s.inTransition && !s.touchesFenced g

/-- RUN and HALT of a carrier group; with both written, HALT acts and RUN is rejected. -/
def State.runHalt (s : State) (g : Nat) (run halt : Bool) : State :=
  let s1 := if halt then s.haltGroup g 0 else s
  if run then (if halt = false ∧ s.runOpen g = true then s1.setPhase g 4 else s1.ctrlReject (pgCG g)) else s1

/-- LANE_QREF of a lane-quad's first page after its SOFT_RESET: SEL is 0; a recovered reference that was locked stays so, and
one that followed Fantail is gone (R198, R217). -/
def State.qrefReset (s old : State) (l : Nat) : State :=
  if l % 4 ≠ 0 then s
  else if old.qrefSel l then s.qrefLost (l / 4)
  else s.put (qrefKey l) 1 1 (b2n (old.qrefLocked l))

/-- SOFT_RESET. -/
def State.ctrlReset (s : State) (pg : Nat) (p : Page) : State :=
  if tabGet (fun _ => false) s.resetting pg then s
  else if s.pageActive p then s.ctrlReject pg
  else if p.blk = .lane then (s.softReset pg p).qrefReset s p.inst
  else s.softReset pg p

/-- A write of PAGE_CTRL. -/
def State.writeCtrl (s : State) (pg : Nat) (p : Page) (v : W32) : State :=
  let s1 := s.put (pg + 0x008) 3 3 (b2n (bit v 3))
  if p.blk = .cg then s1.runHalt p.inst (bit v 0) (bit v 1)
  else if p.blk.softReset && bit v 2 then s1.ctrlReset pg p
  else s1

/-- A block's soft reset completes; a lane restarts (R43, R217). -/
def State.endSoftReset (s : State) (pg : Nat) : State :=
  if tabGet (fun _ => false) s.resetting pg then
    let s1 : State := { s with resetting := tabErase s.resetting pg }
    match pageOf pg with
    | some p => if p.blk = .lane then s1.laneStart p.inst else s1
    | none => s1
  else s

/-! ## ERR_INJ (R358) -/

/-- An injected ERR_STAT bit takes the block's normal error path. -/
def State.injectErr (s : State) (pg : Nat) (p : Page) (n : Nat) : State :=
  let s1 := if errClass p.blk n = 3 then s.containAct p n else s
  let at_ := if errClass p.blk n = 3 then s.containAt p else (p.loc, none)
  s1.raiseAt pg (BitVec.ofNat 32 (2 ^ n)) at_.1 at_.2 true

/-- A write of ERR_INJ. -/
def State.writeErrInj (s : State) (pg : Nat) (p : Page) (v : W32) : State :=
  s.scoped (pg + 0x01C) v (fun _ t => if bit v 8 then (t.put (pg + 0x01C) 8 8 0).injectErr pg p (bitsOf v 4 0) else t)

/-! ## Power registers -/

/-- A slot's WAKE and PWR_FLOOR take new values; a level wake acts (R55, R368). -/
def State.wakeActs (s : State) (k : Nat) : State := if s.wakesAct && s.wakeLevel k then s.wakeSlot k else s

/-- A write of PWR_CTRL. -/
def State.writePwr (s : State) (pg : Nat) (p : Page) (v : W32) : State :=
  let key := pwrKey pg p
  let s1 := ((s.put key 31 20 (bitsOf v 31 20)).put key 3 0 (bitsOf v 3 0))
  match p.slot with | some k => s1.wakeActs k | none => s1

/-- A write of a power-slot mirror (R54). -/
def State.writeMirror (s : State) (k : Nat) (v : W32) : State := (s.put (slotCtrlKey k) 3 0 (bitsOf v 3 0)).wakeActs k

/-! ## The header -/

/-- A W1C write of ERR_STAT; ERR_FIRST is released when it becomes zero (R45). -/
def State.writeErrStat (s : State) (pg : Nat) (v : W32) : State :=
  let x := s.reg (pg + 0x010) &&& ~~~ v
  let s1 := s.setReg (pg + 0x010) x
  if x = 0 then s1.put (pg + 0x018) 31 31 0 else s1

/-- A write of a header register of an instance's first page (R42). -/
def State.writeHeader (s : State) (pg : Nat) (p : Page) (off : Nat) (v : W32) : State :=
  match off with
  | 0x008 => s.writeCtrl pg p v
  | 0x010 => s.writeErrStat pg v
  | 0x014 => s.setReg (pg + 0x014) v
  | 0x01C => s.writeErrInj pg p v
  | 0x020 => s.writePwr pg p v
  | 0x028 => s.withVecs [p.vector] (fun t => t.setReg (pg + 0x028) v)
  | 0x02C =>
    let s1 := s.setReg (pg + 0x02C) (s.reg (pg + 0x02C) &&& ~~~ v)
    if p.blk = .bmon then s1.bmonLevel else s1
  | _ => s

/-! ## Registers of which a write acts -/

/-- A write that only stores. -/
def State.plainWrite (s : State) (addr : Nat) (v : W32) : State := s.scoped addr v (fun _ t => t)

/-- A write that stores and then acts. -/
def State.storeThen (s : State) (addr : Nat) (v : W32) (k : State → State) : State := s.scoped addr v (fun _ t => k t)

/-- The memory-control block: MEM_SCRUB_CTRL and MEM_LOG_CTRL. -/
def State.memCtlWrite (s : State) (m addr : Nat) (v : W32) : State :=
  match addr % 0x1000 with
  | 0x10C => s.writeScrubCtrl m v
  | 0x154 => if bit v 0 then s.memLogClr m else s
  | _ => s.plainWrite addr v

/-- A W1C write of a Weir's word or WEIR_INTEG (R340, R342); a quadrant's word that becomes zero takes its QSUM bit with it. -/
def State.weirClear (s : State) (w addr : Nat) (v : W32) : State :=
  let s1 := (s.setReg addr (s.reg addr &&& ~~~ v)).weirSettle w
  if w < 4 then s1.weirSettle 4 else s1

/-- A Weir page. -/
def State.weirWrite (s : State) (w addr : Nat) (v : W32) : State :=
  match addr % 0x1000 with
  | 0x040 => s.weirClear w addr v
  | 0x044 => s.weirClear w addr v
  | 0x078 => s.weirClear w addr v
  | 0x180 => if w = 4 ∧ bit v 31 = true then s.put addr 31 31 0 else s
  | 0x1C0 => s.writeWeirInj w v
  | _ => s.plainWrite addr v

/-- The device power page. -/
def State.dpwrWrite (s : State) (addr : Nat) (v : W32) : State :=
  let off := addr % 0x1000
  if 0x040 ≤ off ∧ off < 0x050 then s.writePlevel ((off - 0x040) / 4) v
  else if 0x100 ≤ off ∧ off < 0x130 then s.writeMirror ((off - 0x100) / 4) v
  else s.plainWrite addr v

/-- FTB_ALARM_CTRL (R332). -/
def State.writeAlarm (s : State) (addr : Nat) (v : W32) : State :=
  s.storeThen addr v (fun t => if bit v 31 then t.put addr 29 29 1 else t)

/-- FTB pages. -/
def State.ftbWrite (s : State) (seq addr : Nat) (v : W32) : State :=
  match seq, addr % 0x1000 with
  | 0, 0x040 => if bit v 0 then s.snapshot else s
  | 0, 0x05C => s.commitRate v
  | 0, 0x060 =>
    if s.time.slewOn = true ∧ (s.plainWrite addr v).slewTerm ≠ s.slewTerm then s.rebase.plainWrite addr v else s.plainWrite addr v
  | 0, 0x064 => s.adjust v
  | 0, 0x070 => (s.setReg addr v).commitPair (pgFTB + 0x06C)
  | 0, 0x074 => if bit v 0 then s.stepTime (v.extractLsb' 16 16) else s
  | 1, 0x040 => s.scoped addr v (fun old t => t.eecReconfig old)
  | 1, 0x050 => (s.setReg addr v).setLoWritten (pgFTB1 + 0x050) true
  | 1, 0x054 => (s.setReg addr v).commitPair (pgFTB1 + 0x050)
  | 1, off =>
    if 0x080 ≤ off ∧ off < 0x0C0 ∧ off % 16 = 4 then (s.setReg addr v).commitPair (addr - 4)
    else if 0x080 ≤ off ∧ off < 0x0C0 ∧ off % 16 = 8 then s.writeAlarm addr v
    else s.plainWrite addr v
  | _, _ => s.plainWrite addr v

/-- The converter's page. -/
def State.bmonWrite (s : State) (addr : Nat) (v : W32) : State :=
  match addr % 0x1000 with
  | 0x04C => s.writeBmonCtrl v
  | 0x058 => s.storeThen addr v State.bmonLevel
  | _ => s.plainWrite addr v

/-- PMBus hosts. -/
def State.pmbWrite (s : State) (b addr : Nat) (v : W32) : State :=
  match addr % 0x1000 with
  | 0x044 => s.writePmbTxn b v
  | 0x08C => if b = 0 then s.writeHscOff v else s
  | _ => s.plainWrite addr v

/-- The retention store's page. -/
def State.rstoWrite (s : State) (addr : Nat) (v : W32) : State :=
  match addr % 0x1000 with
  | 0x054 => s.stageWrite v
  | 0x064 => s.writeRstoCmd (v.extractLsb' 16 16) (indices 3 v.getLsbD)
  | _ => s.plainWrite addr v

/-- The Boot and Trust Unit's pages. -/
def State.btuWrite (s : State) (seq addr : Nat) (v : W32) : State :=
  match seq, addr % 0x1000 with
  | 0, 0x050 => if bit v 0 then s.pushGo else s
  | 1, 0x068 => s.writeAttCtrl (bit v 8) (bitsOf v 1 0)
  | _, _ => s.plainWrite addr v

/-- PCIE page 0. -/
def State.pcieWrite (s : State) (addr : Nat) (v : W32) : State :=
  match addr % 0x1000 with
  | 0x060 => s.rearm false v
  | 0x064 => s.rearm true v
  | _ => s.plainWrite addr v

/-- PUMP pages. -/
def State.pumpWrite (s : State) (seq addr : Nat) (v : W32) : State :=
  match seq, addr % 0x1000 with
  | 0, 0x058 => s.writeChCtrl v
  | 0, 0x05C => s.writeChDb v
  | _, _ => s.plainWrite addr v

/-- HBMC pages. -/
def State.hbmcWrite (s : State) (n seq addr : Nat) (v : W32) : State :=
  if seq = 0 then s.memCtlWrite (28 + n) addr v
  else if addr % 0x1000 = 0x048 then (if bit v 0 then s.remapGo n else s)
  else s.plainWrite addr v

/-- SLC pages. -/
def State.slcWrite (s : State) (seq addr : Nat) (v : W32) : State :=
  match seq, addr % 0x1000 with
  | 0, 0x05C => if bit v 0 then s.ringRestart else s
  | 0, 0x060 => if bit v 31 then s.cancelFlow (bitsOf v 11 0) else s.cancelTask (bitsOf v 23 16) (v.setWidth 16)
  | 0, 0x068 => (s.evtAdd (bitsOf v 23 16) (bitsOf v 7 0)).settle
  | _, _ => s.plainWrite addr v

/-- EN of FQU_PTP_RX_CFG set anew starts the count of bytes written. -/
def State.ptpRxCfg (s : State) (q addr : Nat) (v : W32) : State :=
  s.scoped addr v (fun old t => if bit v 31 = true ∧ bit old 31 = false then t.setReg (pgFQU1 q + 0x06C) 0 else t)

/-- FQU pages. -/
def State.fquWrite (s : State) (q seq addr : Nat) (v : W32) : State :=
  match seq, addr % 0x1000 with
  | 0, 0x048 => s.storeThen addr v (fun t => t.setLoWritten (slotKey 0x048 q (s.slotIdx q)) true)
  | 0, 0x04C => s.commitSlotTime q v
  | 0, 0x054 => s.storeThen addr v (fun t => t.commitPair (slotKey 0x050 q (s.slotIdx q)))
  | 0, 0x060 => s.storeThen addr v (fun t => t.commitPair (slotKey 0x05C q (s.slotIdx q)))
  | 0, 0x064 => s.slotCtrl q (bit v 0) (bit v 1)
  | 1, 0x058 => if bit v 0 then s.setTsQueue q (s.tsQueue q).tail else s
  | 1, 0x064 => (s.setReg addr v).commitPair (pgFQU1 q + 0x060)
  | 1, 0x068 => s.ptpRxCfg q addr v
  | 1, 0x074 => (s.setReg addr v).commitPair (pgFQU1 q + 0x070)
  | 1, 0x078 => if bit v 31 then s.ptpGo q v else s
  | _, _ => s.plainWrite addr v

/-- CIST pages. -/
def State.cistWrite (s : State) (q addr : Nat) (v : W32) : State :=
  let off := addr % 0x1000
  if 0x040 ≤ off ∧ off < 0x04C then s.writeOwner q ((off - 0x040) / 4) v
  else if 0x050 ≤ off ∧ off < 0x080 then s.writeRetire q ((off - 0x050) / 4) v
  else s.memCtlWrite q addr v

/-- CBANK_CTRL (R168). -/
def State.cbankWrite (s : State) (q b addr : Nat) (v : W32) : State :=
  if addr % 0x1000 = 0x040 then
    (if bit v 0 then (if s.bankOpen q b then s.clearBank q b else s.liveDrop addr) else s)
  else s.plainWrite addr v

/-- CMEM pages. -/
def State.cmemWrite (s : State) (d addr : Nat) (v : W32) : State :=
  if addr % 0x1000 = 0x040 then (if bit v 0 then s.clearCluster d else s) else s.memCtlWrite (4 + d) addr v

/-- INDEX of SHP_COEF_IDX advances within its space (R257). -/
def State.coefAdvance (s : State) (pg : Nat) : State :=
  let x := s.reg (pg + 0x050)
  if bit x 31 then s.put (pg + 0x050) 7 0 ((bitsOf x 7 0 + 1) % (if bit x 30 then 64 else 256)) else s

/-- The shaping page. -/
def State.shpWrite (s : State) (pg addr : Nat) (v : W32) : State :=
  if addr % 0x1000 = 0x054 then s.storeThen addr v (fun t => t.coefAdvance pg) else s.plainWrite addr v

/-- LANE_TEST (R213): a lane under test runs at TEST_RATE, and a checker that does not run is not locked. -/
def State.writeTest (s : State) (l : Nat) (v : W32) : State :=
  if bitsOf v 29 28 = 3 ∨ bitsOf v 27 26 = 3 ∨ 5 ≤ bitsOf v 25 23 then s.badAccess (pgLANE l + 0x064)
  else s.storeThen (pgLANE l + 0x064) v (fun t =>
    let t1 := if t.laneState l = 8 then (t.put (pgLANE l + 0x044) 22 20 (bitsOf v 25 23)).applyTest l else t
    if bit v 30 then t1 else t1.put (pgLANE l + 0x068) 31 31 0)

/-- Lane pages. -/
def State.laneWrite (s : State) (l addr : Nat) (v : W32) : State :=
  match addr % 0x1000 with
  | 0x040 => s.writeLaneCfg l v
  | 0x048 => if bit v 0 then s.retrain l else s
  | 0x050 =>
    let s1 := if bit v 31 then s.slipBit l else s
    if bit v 30 then s1.acceptSlip l else s1
  | 0x064 => s.writeTest l v
  | 0x074 => s.writeEye l v
  | 0x07C => s.writeQref l v
  | _ => s.plainWrite addr v

/-- Cluster pages. -/
def State.cluWrite (s : State) (d addr : Nat) (v : W32) : State :=
  match addr % 0x1000 with
  | 0x058 => if bit v 8 then s.kloadGo d (bitsOf v 7 0) else s
  | 0x064 => if bit v 31 then s else s.kernelInvalidate d
  | 0x0A4 => s.storeThen addr v (fun t => if bit v 8 then t.histClr d else t)
  | 0x0A8 => s.scoped addr v (fun old t => if bitsOf old 15 0 = 0 ∧ bitsOf v 15 0 ≠ 0 then t.startWindows d else t)
  | _ => s.plainWrite addr v

/-- A write of a block's own register. -/
def State.blockWrite (s : State) (pg : Nat) (p : Page) (addr : Nat) (v : W32) : State :=
  match p.blk with
  | .dev => if addr % 0x1000 = 0x044 then s.writeModeReq v else s.plainWrite addr v
  | .well => if addr % 0x1000 = 0x044 then s.writeRstCmd (v.extractLsb' 16 16) (bitsOf v 1 0) else s.plainWrite addr v
  | .dpwr => s.dpwrWrite addr v
  | .weir => s.weirWrite p.quad addr v
  | .ftb => s.ftbWrite p.seq addr v
  | .bmon => s.bmonWrite addr v
  | .pmb => s.pmbWrite p.inst addr v
  | .rsto => s.rstoWrite addr v
  | .fuse =>
    if addr % 0x1000 = 0x0B0 then s.writeFuseCmd (v.extractLsb' 16 16) (bitsOf v 10 8) (bitsOf v 6 0) else s.plainWrite addr v
  | .btu => s.btuWrite p.seq addr v
  | .pcie => s.pcieWrite addr v
  | .pump => s.pumpWrite p.seq addr v
  | .hbmc => s.hbmcWrite p.inst p.seq addr v
  | .slc => s.slcWrite p.seq addr v
  | .qpwr =>
    if 0x100 ≤ addr % 0x1000 ∧ addr % 0x1000 < 0x1D0 then s.writeMirror (qSlot p.quad ((addr % 0x1000 - 0x100) / 4)) v
    else s.plainWrite addr v
  | .fqu => s.fquWrite p.quad p.seq addr v
  | .cist => s.cistWrite p.quad addr v
  | .cbank => s.cbankWrite p.quad (p.inst % 12) addr v
  | .cmem => s.cmemWrite p.inst addr v
  | .shp => s.shpWrite pg addr v
  | .blnk =>
    if addr % 0x1000 = 0x040 then s.writeLinkCfg p.quad v
    else if addr % 0x1000 = 0x140 then s.writeInj p.quad v
    else s.plainWrite addr v
  | .lane => s.laneWrite p.inst addr v
  | .clu => s.cluWrite p.inst addr v
  | _ => s.plainWrite addr v

/-- A write of a readable page: a reserved offset ignores it (R13). -/
def State.writeAt (s : State) (addr : Nat) (v : W32) : State :=
  match pageOf addr with
  | none => s
  | some p =>
    let off := addr % 0x1000
    match p.reg off with
    | none => s
    | some _ =>
      if off < 0x040 then s.writeHeader (addr - off) p off v
      else if s.openBits p addr = 0 then s
      else s.blockWrite (addr - off) p addr (v &&& s.openBits p addr)

/-- W1C bits of a register of which bits m are set by hardware: an ERR_STAT bit as its error, an IRQ_STAT bit as its interrupt. -/
def State.hwSets (s : State) (addr : Nat) (p : Page) (d : RegDesc) (m : W32) : State :=
  let pg := addr - addr % 0x1000
  if m = 0 then s
  else if addr % 0x1000 = 0x010 then s.raiseAt pg m p.loc none false
  else if addr % 0x1000 = 0x02C then s.irq pg m
  else s.orReg (s.regKey addr d) m

/-- A write in a cycle in which hardware sets W1C bits of the register: those bits stay set (R10), and with one of ERR_STAT the capture is
kept (R45). -/
def State.writeWith (s : State) (addr : Nat) (v hwSet : W32) : State :=
  match regAt addr with
  | none => s
  | some (p, d) =>
    let m := hwSet &&& d.w1cMask
    (s.hwSets addr p d m).writeAt addr (v &&& ~~~ m)

/-- A register write of PF0 (R38 to R41). PUMP_CH_DB reaches a dozing Pump (R416). A write with no byte enable set at all is discarded and
counted as one with only some set (DESIGN CHOICE: R38 names only some). -/
def State.busWrite (s : State) (addr : Nat) (v : W32) (be : W4) (hwSet : W32) : State :=
  if s.wide.isSome then s
  else if be ≠ 0xF then s.badAccess addr
  else if addr = pgPUMP + 0x05C then s.writeChDb v
  else s.access addr (fun s => s.writeWith addr v hwSet)

/-! ## Reads -/

/-- The _LO halves whose read latches _HI: the 64-bit RO pairs of ch. 13 but the snapshot (R311), and the Weir words. -/
def latchesHi (p : Page) (off : Nat) : Bool :=
  match p.blk, p.seq, off with
  | .ftb, 1, 0x05C => true
  | .fqu, 0, 0x06C => true
  | .weir, _, 0x040 => true
  | _, _, _ => false

/-- A read of a register: its value; an RC field clears to what hardware set in the same cycle (R11), a pair latches, BMON_Q_DATA
gives up its head and LANE_PRBS_ERR closes its interval. -/
def State.readReg (s : State) (addr : Nat) (hwSet : W32) : State :=
  let s1 : State := { s with readData := s.viewAt addr }
  match regAt addr with
  | none => s1
  | some (p, d) =>
    let off := addr % 0x1000
    if p.blk = .bmon ∧ off = 0x054 then s.bmonPop
    else if p.blk = .lane ∧ off = 0x06C then
      let t := s.readPrbs p.inst
      t.setReg addr hwSet
    else if latchesHi p off then
      let hi := ({ s1 with latch := tabErase s1.latch (addr + 4) } : State).viewAt (addr + 4)
      { s1 with latch := tabSet (fun _ => none) s1.latch (addr + 4) (some hi) }
    else if d.rcMask = 0 ∨ s.openBits p addr = 0 then s1
    else
      let key := s.regKey addr d
      s1.setReg key ((s.reg key &&& ~~~ d.rcMask) ||| (hwSet &&& d.rcMask))

/-- The bytes that a read with only some byte enables set returns; the others are 0 (R38). -/
def byteMask (be : W4) : W32 :=
  (List.range 4).foldl (fun (x : W32) i => if be.getLsbD i then x ||| fmask 32 (8 * i + 7) (8 * i) else x) 0
def State.returned (s : State) (be : W4) : State := { s with readData := s.readData &&& byteMask be }

/-- A register read of PF0. -/
def State.busRead (s : State) (addr : Nat) (hwSet : W32) : State := s.readAccess addr (fun s => s.readReg addr hwSet)

end Sys2Proof.Machine
end

