-- ==== Sys2Proof/Machine/Access.lean ====
section
/-! DEFINITION. The commands of chapter 02: register reads and writes of PF0, PAGE_CTRL, ERR_INJ and the level wakes. -/

namespace Sys2Proof.Machine

open Sys2Proof

/-- The BAR0 address of a 32-bit word. -/
def wordAddr (a : W24) : Nat := 4 * a.toNat

/-- The BAR0 address of a page. -/
def pageAddr (page : PageIx) : Nat := 0x1000 * page.toNat

/-- R10, R38, R48: hwSet are the W1C bits of the register that hardware sets in the cycle of the write. -/
def execRegWrite (a : W24) (v : W32) (x : Beat) (s : State) : Host.Outcome State Fault Refusal :=
  .next (s.busWrite (wordAddr a) v x.be x.hwSet)

/-- R37: an access to a page that the index lists is an access like any other. -/
def execUnpopulatedAccess (a : W24) (write : Bool) (s : State) : Host.Outcome State Fault Refusal :=
  .next (
    if (pageOf (wordAddr a)).isSome then s
    else if write then s.access (wordAddr a) id
    else s.readAccess (wordAddr a) id)

/-- R11, R38. -/
def execRcRead (a : W24) (x : Beat) (s : State) : Host.Outcome State Fault Refusal :=
  .next ((s.busRead (wordAddr a) x.hwSet).returned x.be)

/-- R38, R311. -/
def execLatchedPairRead (x : ReadAt) (s : State) : Host.Outcome State Fault Refusal :=
  .next ((s.busRead (wordAddr x.a) 0).returned x.be)

/-- The page of a word is dark. -/
def State.darkWord (s : State) (a : W24) : Bool := match pageOf (wordAddr a) with | some p => s.dark p | none => false

/-- R51. -/
def execDarkRead (x : ReadAt) (s : State) : Host.Outcome State Fault Refusal :=
  .next (if s.darkWord x.a then (s.readAccess (wordAddr x.a) id).returned x.be else s)

/-- R51, R416: PUMP_CH_DB to a dozing Pump is no dark write. -/
def execDarkWrite (a : W24) (v : W32) (s : State) : Host.Outcome State Fault Refusal :=
  .next (if s.darkWord a then s.busWrite (wordAddr a) v 0xF 0 else s)

/-- R43: PAGE_CTRL with RUN. -/
def execRun (page : PageIx) (v : W32) (s : State) : Host.Outcome State Fault Refusal :=
  .next (s.access (pageAddr page + 0x008) (fun s => s.writeAt (pageAddr page + 0x008) (v ||| 1)))

/-- R43, R66: PAGE_CTRL with HALT. -/
def execHalt (page : PageIx) (v : W32) (s : State) : Host.Outcome State Fault Refusal :=
  .next (s.access (pageAddr page + 0x008) (fun s => s.writeAt (pageAddr page + 0x008) (v ||| 2)))

/-- R43: PAGE_CTRL with SOFT_RESET. -/
def execSoftReset (page : PageIx) (v : W32) (s : State) : Host.Outcome State Fault Refusal :=
  .next (s.access (pageAddr page + 0x008) (fun s => s.writeAt (pageAddr page + 0x008) (v ||| 4)))

/-- R43. -/
def execSoftResetEnd (page : PageIx) (s : State) : Host.Outcome State Fault Refusal := .next (s.endSoftReset (pageAddr page))

/-- R358: INJ_ARM with INJ_BIT n. -/
def execErrInj (page : PageIx) (n : W5) (s : State) : Host.Outcome State Fault Refusal :=
  .next (s.access (pageAddr page + 0x01C) (fun s => s.writeAt (pageAddr page + 0x01C) (BitVec.ofNat 32 (0x100 + n.toNat))))

/-- The address of a slot's mirror, or of the PWR_CTRL of its first page. -/
def wakeAddr (slot : SlotIx) (mirror : Bool) : Option Nat :=
  if mirror then
    some (if slot.val < 64 then pgDPWR + 0x100 + 4 * slot.val else pgQPWR (slot.val / 64 - 1) + 0x100 + 4 * (slot.val % 64))
  else (slotPage slot).map (fun pg => pg + 0x020)

/-- R55: a write of WAKE. -/
def execWakeWrite (slot : SlotIx) (mirror : Bool) (v : W32) (s : State) : Host.Outcome State Fault Refusal :=
  .next (match wakeAddr slot mirror with
    | none => s
    | some a => s.access a (fun s => s.writeAt a v))

end Sys2Proof.Machine
end

