-- ==== Sys2Proof/Machine/CopMath.lean ====
section
/-! DEFINITION. The arithmetic of the matrix coprocessor (R114, R121 to R125): matrices of exact values, the normalisation to a
block exponent, and the factorisations by exact rationals. A square root is taken to 2^-128. A component the spec bounds to 4 units
(R124) is the free choice of a function of the stored inputs among the values within the bound; beyond condition number 256 the value
before normalisation is free. The 2-norm condition number is compared by exact tests of positive definiteness. -/

namespace Sys2Proof.Machine

open Sys2Proof

/-! ## Rationals -/

/-- A rational, in lowest terms after each operation. -/
structure Q where
  num : Int
  den : Nat
deriving DecidableEq, Repr

def Q.make (n : Int) (d : Nat) : Q :=
  let g := Nat.gcd n.natAbs d
  if d = 0 then ⟨0, 1⟩ else ⟨n / (g : Int), d / g⟩
def Q.ofInt (n : Int) : Q := ⟨n, 1⟩
def Q.zero : Q := ⟨0, 1⟩
def Q.add (a b : Q) : Q := Q.make (a.num * b.den + b.num * a.den) (a.den * b.den)
def Q.neg (a : Q) : Q := ⟨-a.num, a.den⟩
def Q.sub (a b : Q) : Q := a.add b.neg
def Q.mul (a b : Q) : Q := Q.make (a.num * b.num) (a.den * b.den)
def Q.inv (a : Q) : Q := if a.num < 0 then Q.make (-(a.den : Int)) a.num.natAbs else Q.make a.den a.num.natAbs
def Q.le (a b : Q) : Bool := decide (a.num * b.den ≤ b.num * a.den)
def Q.isZero (a : Q) : Bool := decide (a.num = 0)
/-- The value times 2^k. -/
def Q.scale (a : Q) (k : Int) : Q := if 0 ≤ k then Q.make (a.num * 2 ^ k.toNat) a.den else Q.make a.num (a.den * 2 ^ (-k).toNat)
def Q.floor (a : Q) : Int := a.num / (a.den : Int)
def Q.ceil (a : Q) : Int := -(-a.num / (a.den : Int))
/-- Round half up. -/
def Q.round (a : Q) : Int := (2 * a.num + a.den) / (2 * (a.den : Int))

/-- The integer square root, k bits and below. -/
def isqrtBits (n : Nat) : Nat → Nat → Nat
  | 0, r => r
  | k + 1, r => let x := r + 2 ^ k; if x * x ≤ n then isqrtBits n k x else isqrtBits n k r
def isqrt (n : Nat) : Nat := isqrtBits n (Nat.log2 n / 2 + 1) 0
/-- A square root, to 2^-128. -/
def Q.sqrt (a : Q) : Q := Q.make (isqrt (a.num.toNat * 2 ^ 256 / a.den)) (2 ^ 128)

/-- A complex rational. -/
structure CQ where
  re : Q
  im : Q
deriving DecidableEq, Repr

def CQ.zero : CQ := ⟨Q.zero, Q.zero⟩
def CQ.one : CQ := ⟨Q.ofInt 1, Q.zero⟩
def CQ.add (a b : CQ) : CQ := ⟨a.re.add b.re, a.im.add b.im⟩
def CQ.sub (a b : CQ) : CQ := ⟨a.re.sub b.re, a.im.sub b.im⟩
def CQ.mul (a b : CQ) : CQ := ⟨(a.re.mul b.re).sub (a.im.mul b.im), (a.re.mul b.im).add (a.im.mul b.re)⟩
def CQ.conj (a : CQ) : CQ := ⟨a.re, a.im.neg⟩
def CQ.norm2 (a : CQ) : Q := (a.re.mul a.re).add (a.im.mul a.im)
def CQ.smul (q : Q) (a : CQ) : CQ := ⟨q.mul a.re, q.mul a.im⟩
def CQ.inv (a : CQ) : CQ := CQ.smul a.norm2.inv a.conj

/-! ## Matrices, row by row -/

abbrev Mat := List (List CQ)

def mget (a : Mat) (i j : Nat) : CQ := (a.getD i []).getD j CQ.zero
def mkMat (r c : Nat) (f : Nat → Nat → CQ) : Mat := (List.range r).map (fun i => (List.range c).map (fun j => f i j))
def csum (l : List CQ) : CQ := l.foldl CQ.add CQ.zero
def qsum (l : List Q) : Q := l.foldl Q.add Q.zero
def qmax (l : List Q) : Q := l.foldl (fun a b => if a.le b then b else a) Q.zero
/-- The product of an r×k and a k×c matrix. -/
def mmulQ (r k c : Nat) (a b : Mat) : Mat := mkMat r c (fun i j => csum ((List.range k).map (fun x => (mget a i x).mul (mget b x j))))
def mherm (r c : Nat) (a : Mat) : Mat := mkMat c r (fun i j => (mget a j i).conj)
/-- The squared Frobenius norm. -/
def fro2 (a : Mat) : Q := qsum (a.flatten.map CQ.norm2)

/-- The row at or below k with the largest magnitude in column k, the first on a tie. -/
def pivotRow (n k : Nat) (a : Mat) : Nat :=
  ((List.range n).filter (fun i => decide (k ≤ i))).foldl
    (fun b i => if (mget a i k).norm2.le (mget a b k).norm2 then b else i) k

/-- One step of Gauss–Jordan elimination on an n×2n matrix. -/
def gjStep (n k : Nat) (a : Mat) : Mat :=
  let p := pivotRow n k a
  let rowp := a.getD p []
  let a1 := (a.set p (a.getD k [])).set k rowp
  let inv := (rowp.getD k CQ.zero).inv
  let row := rowp.map (fun x => x.mul inv)
  (List.range n).map (fun i =>
    if i = k then row
    else
      let f := mget a1 i k
      ((a1.getD i []).zip row).map (fun x => x.1.sub (f.mul x.2)))

/-- Gauss–Jordan from column k on; none when a pivot's squared magnitude is at most thr. -/
def gj (n : Nat) (thr : Q) : Nat → Nat → Mat → Option Mat
  | 0, _, a => some a
  | m + 1, k, a =>
    if (mget a (pivotRow n k a) k).norm2.le thr then none else gj n thr m (k + 1) (gjStep n k a)

/-- The inverse of an n×n matrix, with partial pivoting. -/
def minvQ (n : Nat) (thr : Q) (a : Mat) : Option Mat :=
  (gj n thr n 0 (mkMat n (2 * n) (fun i j => if j < n then mget a i j else if j = n + i then CQ.one else CQ.zero))).map
    (fun b => b.map (List.drop n))

/-- Column by column, the unit lower factor and the diagonal of A = L D L^H from the lower triangle and real diagonal of A: the rows
of L so far, and D. -/
def ldl (n : Nat) (a : Mat) : Mat × List Q :=
  (List.range n).foldl (fun (acc : Mat × List Q) j =>
    let l := acc.1
    let d := acc.2
    let dj := (mget a j j).re.sub (qsum ((List.range j).map (fun k => (mget l j k).norm2.mul (d.getD k Q.zero))))
    let col := fun i =>
      let s := csum ((List.range j).map (fun k => CQ.smul (d.getD k Q.zero) ((mget l i k).mul (mget l j k).conj)))
      CQ.smul dj.inv ((mget a i j).sub s)
    (mkMat n (j + 1) (fun i c => if c < j then mget l i c else if i < j then CQ.zero else if i = j then CQ.one else col i), d ++ [dj]))
    ([], [])

/-- A Hermitian matrix is positive definite: every entry of its D is above 0. -/
def posDef (n : Nat) (a : Mat) : Bool := (ldl n a).2.all (fun d => decide (0 < d.num))
/-- x I - A, and A - x I. -/
def fromAbove (n : Nat) (a : Mat) (x : Q) : Mat :=
  mkMat n n (fun i j => if i = j then CQ.sub ⟨x, Q.zero⟩ (mget a i j) else CQ.sub CQ.zero (mget a i j))
def fromBelow (n : Nat) (a : Mat) (x : Q) : Mat := mkMat n n (fun i j => if i = j then CQ.sub (mget a i j) ⟨x, Q.zero⟩ else mget a i j)

/-- A bound on the largest eigenvalue of a Hermitian A, from above, by k halvings of [lo, hi]. -/
def topBound (n : Nat) (a : Mat) : Nat → Q → Q → Q
  | 0, _, hi => hi
  | k + 1, lo, hi =>
    let mid := (lo.add hi).scale (-1)
    if posDef n (fromAbove n a mid) then topBound n a k lo mid else topBound n a k mid hi

/-- The eigenvalues of a Hermitian A are positive and within a factor lim of each other, as far as a bound on the largest one tells that
lies above it by less than one part in two million: for A the test is of its condition number, for A^H A of the square (R124). -/
def wellCond (n lim : Nat) (a : Mat) : Bool :=
  let tr := qsum ((List.range n).map (fun i => (mget a i i).re))
  let share := fun (x : Q) => x.mul (Q.make 1 lim)
  decide (0 < tr.num) &&
    (posDef n (fromBelow n a (share tr)) ||
      posDef n (fromBelow n a (share (topBound n a 24 (tr.mul (Q.make 1 n)) tr))))

/-- The 2-norm condition number of an r×n matrix is at most 256, as wellCond tells. -/
def condOk (r n : Nat) (a : Mat) : Bool := wellCond n 65536 (mmulQ n r n (mherm r n a) a)

/-! ## Stored matrices -/

def TileRegs.mant (r : TileRegs) (m i j : Nat) : W32 := tabGet (fun _ => 0) r.m (64 * m + 8 * i + j)
def TileRegs.exp (r : TileRegs) (m : Nat) : W5 := tabGet (fun _ => 0) r.mExp m
def TileRegs.flags (r : TileRegs) (m : Nat) : W3 := tabGet (fun _ => 0) r.mFlags m

/-- Real and imaginary part of an element as integers in units of 2^-31 (R114). -/
def TileRegs.elemZ (r : TileRegs) (m i j : Nat) : Int × Int :=
  let x := r.mant m i j
  let k := 2 ^ ((r.exp m).toInt + 16).toNat
  (((x.setWidth 16 : W16).toInt) * k, ((x.extractLsb' 16 16).toInt) * k)

/-- An element as a complex rational. -/
def TileRegs.elemQ (r : TileRegs) (m i j : Nat) : CQ :=
  let z := r.elemZ m i j
  ⟨Q.make z.1 (2 ^ 31), Q.make z.2 (2 ^ 31)⟩

def TileRegs.mat (r : TileRegs) (m rows cols : Nat) : Mat := mkMat rows cols (r.elemQ m)

/-- What is written to an M register: 64 mantissas, exponent and flags. -/
structure MVal where
  m : Nat
  mant : List W32
  e : Int
  flags : W3
deriving DecidableEq, Repr

def TileRegs.putM (r : TileRegs) (v : MVal) : TileRegs :=
  { r with
    m := (v.mant.zip (List.range 64)).foldl (fun t x => tabSet (fun _ => 0) t (64 * v.m + x.2) x.1) r.m,
    mExp := tabSet (fun _ => 0) r.mExp v.m (BitVec.ofInt 5 v.e),
    mFlags := tabSet (fun _ => 0) r.mFlags v.m v.flags }

/-! ## Normalisation (R123) -/

def i16 (x : Int) : Bool := decide (-32768 ≤ x) && decide (x ≤ 32767)

/-- E_out: the smallest exponent at which every rounded component fits; none above 15. -/
def eOut (at' : Int → List Int) : Option Int :=
  (((List.range 32).map (fun k : Nat => (k : Int) - 16)).find? (fun e => (at' e).all i16))

/-- A result given by its rounded components at each exponent: real and imaginary parts by row and column, 8×8. -/
def normalise (m : Nat) (comp : Int → Nat → Nat → Int × Int) (rows cols : Nat) : MVal :=
  let at' := fun e => (List.range rows).flatMap (fun i => (List.range cols).flatMap (fun j => [(comp e i j).1, (comp e i j).2]))
  let e := (eOut at').getD 15
  let el := fun k =>
    let i := k / 8
    let j := k % 8
    if i < rows ∧ j < cols then
      let z := comp e i j
      elemOf (BitVec.ofInt 16 (clampI (-32768) 32767 z.1)) (BitVec.ofInt 16 (clampI (-32768) 32767 z.2))
    else 0
  ⟨m, (List.range 64).map el, e, if (eOut at').isSome then 0 else 1⟩

/-- A result known exactly in units of 2^-u. -/
def normaliseZ (m u : Nat) (z : Nat → Nat → Int × Int) (rows cols : Nat) : MVal :=
  normalise m (fun e i j =>
    let k := ((u : Int) + e - 15).toNat
    (roundShift (z i j).1 k, roundShift (z i j).2 k)) rows cols

/-- A component within 4 units of a rational, chosen by u (R124). -/
def near4 (x : Q) (u : Nat) : Int :=
  let lo := (x.sub (Q.ofInt 4)).ceil
  let hi := (x.add (Q.ofInt 4)).floor
  clampI (-32768) 32767 (lo + ((u % ((hi - lo).toNat + 1) : Nat) : Int))

/-- What an operation defines of an element of its result: it is zero, it is real and not negative, or nothing. -/
inductive Shape where
  | zero | diag | any
deriving DecidableEq, Repr

/-- The components of an element of that shape. -/
def Shape.put (h : Shape) (z : Int × Int) : Int × Int :=
  match h with | .zero => (0, 0) | .diag => ((z.1.natAbs : Int), 0) | .any => z

/-- A factorisation's result: E_out of the exact values, each component within 4 units of its own; zero marks the components the
operation defines as zero. -/
def bounded (m : Nat) (a : Mat) (rows cols : Nat) (shape : Nat → Nat → Shape) (pick : Nat → Nat) : MVal :=
  let at' := fun e => a.flatten.flatMap (fun x => [(x.re.scale (15 - e)).round, (x.im.scale (15 - e)).round])
  let e := (eOut at').getD 15
  let el := fun k =>
    let i := k / 8
    let j := k % 8
    if i < rows ∧ j < cols then
      let x := mget a i j
      elemOf (if shape i j = .zero then 0 else BitVec.ofInt 16 (near4 (x.re.scale (15 - e)) (pick (2 * k))))
        (if shape i j = .any then BitVec.ofInt 16 (near4 (x.im.scale (15 - e)) (pick (2 * k + 1))) else 0)
    else 0
  ⟨m, (List.range 64).map el, e, if (eOut at').isSome then 0 else 1⟩

/-- A result the spec sets no bound for: free values, normalised (R123). -/
def unbounded (m rows cols : Nat) (shape : Nat → Nat → Shape) (z : Nat → Int) : MVal :=
  normaliseZ m 31 (fun i j => (shape i j).put (z (2 * (8 * i + j)), z (2 * (8 * i + j) + 1))) rows cols

/-- The zero result of R125 with its flag: 2 NOTPD, 4 SINGULAR. -/
def flagged (m : Nat) (flag : W3) : MVal := ⟨m, List.replicate 64 0, -16, flag⟩

/-! ## Operations (R121 to R125) -/

/-- The operation's number among the opaque functions. -/
def copCode : CopKind → Nat
  | .mchol => 0
  | .mtrs upper herm => 1 + 2 * b2n upper + 4 * b2n herm
  | .mqr => 8
  | .minv => 9
  | _ => 10

/-- The stored inputs of an operation, as the opaque functions take them. -/
def TileRegs.copInputs (r : TileRegs) (o : CopOp) : List W32 :=
  let block := fun m => (List.range 64).map (fun k => r.mant m (k / 8) (k % 8)) ++ [(r.exp m).setWidth 32]
  match o.kind with
  | .mtrs _ _ => block o.ma ++ block o.mb
  | _ => block o.ma

def czero : Int × Int := (0, 0)
def cadd (x y : Int × Int) : Int × Int := (x.1 + y.1, x.2 + y.2)

/-- An element of A or of A^H. -/
def TileRegs.opd (r : TileRegs) (m : Nat) (h : Bool) (i j : Nat) : Int × Int :=
  if h then ((r.elemZ m j i).1, -(r.elemZ m j i).2) else r.elemZ m i j

/-- A bounded result when the matrix it rests on is well conditioned, else an open one. -/
def settleResult (r : TileRegs) (o : CopOp) (ok : Bool) (m dest rows cols : Nat) (a : Mat) (shape : Nat → Nat → Shape) : MVal :=
  if ok then bounded m a rows cols shape (fun k => Config.copUlp (copCode o.kind) o.n (r.copInputs o) (128 * dest + k))
  else unbounded m rows cols shape (fun k => Config.copFree (copCode o.kind) o.n (r.copInputs o) (128 * dest + k))

/-- The shapes of a full, a lower and an upper triangular result. -/
def fullShape (_ _ : Nat) : Shape := .any
def lowShape (i j : Nat) : Shape := if i < j then .zero else if i = j then .diag else .any
def upShape (i j : Nat) : Shape := if j < i then .zero else if i = j then .diag else .any
/-- 2^-24, squared where magnitudes are compared squared (R125). -/
def tiny : Q := ⟨1, 2 ^ 24⟩
def tiny2 : Q := ⟨1, 2 ^ 48⟩

def TileRegs.mchol (r : TileRegs) (o : CopOp) : List MVal :=
  let a0 := r.mat o.ma o.n o.n
  let a := mkMat o.n o.n (fun i j => if i = j then ⟨(mget a0 i i).re, Q.zero⟩ else if j < i then mget a0 i j else (mget a0 j i).conj)
  let top := qmax ((List.range o.n).map (fun i => (mget a i i).re))
  let f := ldl o.n a
  if top.isZero ∨ f.2.any (fun d => d.le (tiny.mul top)) then [flagged o.md 2]
  else
    let l := mkMat o.n o.n (fun i j => if i < j then CQ.zero else CQ.smul (f.2.getD j Q.zero).sqrt (mget f.1 i j))
    [settleResult r o (wellCond o.n 256 a) o.md 0 o.n o.n l lowShape]

def TileRegs.mtrs (r : TileRegs) (o : CopOp) (upper herm : Bool) : List MVal :=
  let a := r.mat o.ma o.n o.n
  let t0 := mkMat o.n o.n (fun i j => if (if upper then decide (i ≤ j) else decide (j ≤ i)) then mget a i j else CQ.zero)
  let t := if herm then mherm o.n o.n t0 else t0
  let diag := (List.range o.n).map (fun i => (mget t i i).norm2)
  let top := qmax diag
  if top.isZero ∨ diag.any (fun d => d.le (tiny2.mul top)) then [flagged o.md 4]
  else match minvQ o.n Q.zero t with
    | none => [flagged o.md 4]
    | some ti => [settleResult r o (condOk o.n o.n t) o.md 0 o.n o.n (mmulQ o.n o.n o.n ti (r.mat o.mb o.n o.n)) fullShape]

/-- Positions of a result take one of the mantissas 0 to 4. -/
def smallAt (v : MVal) (at' : List Nat) (pick : Nat → Int) : MVal :=
  { v with
    flags := 0
    mant := (v.mant.zip (List.range 64)).map (fun x =>
      if at'.contains x.2 then elemOf (BitVec.ofNat 16 ((pick x.2).natAbs % 5)) 0 else x.1) }

/-- A rank-deficient block raises no flag, and the affected diagonal entries of R are zero or small (R125): at most 4 units (DESIGN CHOICE),
the rest free. -/
def TileRegs.mqr (r : TileRegs) (o : CopOp) : List MVal :=
  let a := r.mat o.ma 8 o.n
  let g := mmulQ o.n 8 o.n (mherm 8 o.n a) a
  let f := ldl o.n g
  let lost := (List.range o.n).filter (fun j => (f.2.getD j Q.zero).isZero)
  if lost = [] then
    let ok := wellCond o.n 65536 g
    let root := fun j => (f.2.getD j Q.zero).sqrt
    let rr := mkMat o.n o.n (fun i j => if j < i then CQ.zero else CQ.smul (root i) (mget f.1 j i).conj)
    let q := match (if ok then minvQ o.n Q.zero f.1 else none) with
      | some li => mkMat 8 o.n (fun i j => CQ.smul (root j).inv (mget (mmulQ 8 o.n o.n a (mherm o.n o.n li)) i j))
      | none => mkMat 8 o.n (fun _ _ => CQ.zero)
    [ settleResult r o ok o.md 0 8 o.n q fullShape
    , settleResult r o ok o.mr 1 o.n o.n rr upShape ]
  else
    let z := fun k => Config.copFree (copCode o.kind) o.n (r.copInputs o) k
    [ smallAt (unbounded o.md 8 o.n fullShape z) [] z
    , smallAt (unbounded o.mr o.n o.n (fun i j => if i = j ∧ lost.contains i then .zero else upShape i j) (fun k => z (128 + k)))
        (lost.map (fun i => 9 * i)) (fun k => z (256 + k)) ]

def TileRegs.minv (r : TileRegs) (o : CopOp) : List MVal :=
  let a := r.mat o.ma o.n o.n
  match minvQ o.n (tiny2.mul (qmax (a.flatten.map CQ.norm2))) a with
  | none => [flagged o.md 4]
  | some b => [settleResult r o (condOk o.n o.n a) o.md 0 o.n o.n b fullShape]

/-- What an operation writes (R121, R123, R125). -/
def TileRegs.copResult (r : TileRegs) (o : CopOp) : List MVal :=
  match o.kind with
  | .mmul ha hb =>
    [normaliseZ o.md 62 (fun i j => (List.range 8).foldl (fun acc k =>
      let x := r.opd o.ma ha i k
      let y := r.opd o.mb hb k j
      cadd acc (x.1 * y.1 - x.2 * y.2, x.1 * y.2 + x.2 * y.1)) czero) o.n o.n]
  | .madd => [normaliseZ o.md 31 (fun i j => cadd (r.elemZ o.ma i j) (r.elemZ o.mb i j)) o.n o.n]
  | .msub => [normaliseZ o.md 31 (fun i j =>
      ((r.elemZ o.ma i j).1 - (r.elemZ o.mb i j).1, (r.elemZ o.ma i j).2 - (r.elemZ o.mb i j).2)) o.n o.n]
  | .mherm => [normaliseZ o.md 31 (r.opd o.ma true) o.n o.n]
  | .mchol => r.mchol o
  | .mtrs upper herm => r.mtrs o upper herm
  | .mqr => r.mqr o
  | .minv => r.minv o

end Sys2Proof.Machine
end

