-- ==== Sys2Proof/Machine/Coproc.lean ====
section
/-! DEFINITION. The coprocessor's instructions and the life of an operation (R112 to R120, R126 to R130). -/

namespace Sys2Proof.Machine

open Sys2Proof

/-- The M registers an operation writes, and reads. -/
def CopOp.writes (o : CopOp) : List Nat := match o.kind with | .mqr => [o.md, o.mr] | _ => [o.md]
def CopOp.reads (o : CopOp) : List Nat :=
  match o.kind with
  | .mmul _ _ => [o.ma, o.mb] | .madd => [o.ma, o.mb] | .msub => [o.ma, o.mb] | .mtrs _ _ => [o.ma, o.mb] | _ => [o.ma]

/-- Operations queued or running whose write-back is not cancelled. A squashed operation that is still stopping is none: MSTAT and MWAIT do
not wait for it (DESIGN CHOICE: R120 names any operation queued or running, R127 rebuilds PW and PR from the survivors). -/
def Tile.copLive (x : Tile) : List CopOp := (match x.copUnit with | some o => if x.copStop then [] else [o] | none => []) ++ x.copQ
/-- PW of an M register: an older operation has yet to write it (R120). -/
def Tile.pendW (x : Tile) (m : Nat) : Bool := x.copLive.any (fun o => o.writes.contains m)
/-- PR of an M register. -/
def Tile.pendR (x : Tile) (m : Nat) : Bool := x.copLive.any (fun o => o.reads.contains m)

/-- An instruction handed over takes the next tag (R113). -/
def Tile.takeTag (x : Tile) : Tile := { x with copTag := (x.copTag + 1) % 16 }

/-- A coprocessor instruction in slot X: it takes a tag once it issues. -/
def State.copX (s : State) (d t : Nat) (y : Bool) (dst : List RegId) (f : State → TileRegs → Res) : State :=
  s.slotX d t y dst (fun s r =>
    if s.copEn d then
      match f s r with
      | .done u c => .done (u.setTile d t (u.tile d t).takeTag) c
      | o => o
    else .fault s 0)

/-- An operation enters the queue, or stalls its bundle (R113, R119). -/
def State.copIssue (s : State) (d t : Nat) (y : Bool) (kind : CopKind) (n md mr ma mb : Nat) : State :=
  s.copX d t y [] (fun s _ =>
    let x := s.tile d t
    if 4 ≤ x.copQ.length then .stall
    else .done (s.setTile d t { x with copQ := x.copQ ++ [⟨x.copTag, kind, n, md, mr, ma, mb⟩] }) .next)

def execMvM (d : Clu) (t : Tix) (y : Bool) (md : MReg) (va : VReg) (q : W2) (sete : Bool) (ex : W5) (s : State) :
    Host.Outcome State Fault Refusal :=
  .next (s.copX d t y [.m md.toNat] (fun s r =>
    let x := s.tile d t
    if x.pendW md.toNat ∨ x.pendR md.toNat then .stall
    else
      .done (s.upd d t (fun _ =>
        let m := (List.range 16).foldl (fun a k =>
          tabSet (fun _ => 0) a (64 * md.toNat + 16 * q.toNat + k) (vecElem (r.getV va.toNat) k)) r.m
        { r with
          m := m, mFlags := tabSet (fun _ => 0) r.mFlags md.toNat 0,
          mExp := if sete then tabSet (fun _ => 0) r.mExp md.toNat ex else r.mExp })) .next))

def execMvV (d : Clu) (t : Tix) (y : Bool) (vd : VReg) (ma : MReg) (q : W2) (s : State) : Host.Outcome State Fault Refusal :=
  .next (s.copX d t y [.v vd.toNat] (fun s r =>
    if (s.tile d t).pendW ma.toNat then .stall
    else
      .done (s.upd d t (fun _ =>
        r.setV vd.toNat (vecMap (fun k => tabGet (fun _ => 0) r.m (64 * ma.toNat + 16 * q.toNat + k))))) .next))

def execMmul (d : Clu) (t : Tix) (y : Bool) (n : W3) (md ma mb : MReg) (ha hb : Bool) (s : State) :
    Host.Outcome State Fault Refusal :=
  .next (s.copIssue d t y (.mmul ha hb) (n.toNat + 1) md.toNat 0 ma.toNat mb.toNat)

def execMadd (d : Clu) (t : Tix) (y : Bool) (n : W3) (md ma mb : MReg) (s : State) : Host.Outcome State Fault Refusal :=
  .next (s.copIssue d t y .madd (n.toNat + 1) md.toNat 0 ma.toNat mb.toNat)

def execMsub (d : Clu) (t : Tix) (y : Bool) (n : W3) (md ma mb : MReg) (s : State) : Host.Outcome State Fault Refusal :=
  .next (s.copIssue d t y .msub (n.toNat + 1) md.toNat 0 ma.toNat mb.toNat)

def execMherm (d : Clu) (t : Tix) (y : Bool) (n : W3) (md ma : MReg) (s : State) : Host.Outcome State Fault Refusal :=
  .next (s.copIssue d t y .mherm (n.toNat + 1) md.toNat 0 ma.toNat 0)

def execMchol (d : Clu) (t : Tix) (y : Bool) (n : W3) (md ma : MReg) (s : State) : Host.Outcome State Fault Refusal :=
  .next (s.copIssue d t y .mchol (n.toNat + 1) md.toNat 0 ma.toNat 0)

def execMtrs (d : Clu) (t : Tix) (y : Bool) (n : W3) (md ma mb : MReg) (upper herm : Bool) (s : State) :
    Host.Outcome State Fault Refusal :=
  .next (s.copIssue d t y (.mtrs upper herm) (n.toNat + 1) md.toNat 0 ma.toNat mb.toNat)

def execMqr (d : Clu) (t : Tix) (y : Bool) (n : W3) (mq mr ma : MReg) (s : State) : Host.Outcome State Fault Refusal :=
  .next (
    if mq = mr then s.copX d t y [] (fun s _ => .fault s 0)
    else s.copIssue d t y .mqr (n.toNat + 1) mq.toNat mr.toNat ma.toNat 0)

def execMinv (d : Clu) (t : Tix) (y : Bool) (n : W3) (md ma : MReg) (s : State) : Host.Outcome State Fault Refusal :=
  .next (s.copIssue d t y .minv (n.toNat + 1) md.toNat 0 ma.toNat 0)

/-- R126: the exponents and flags of the sixteen M registers. -/
def TileRegs.mstat (r : TileRegs) : W512 :=
  vecMap (fun m => elemOf ((r.exp m).signExtend 16) ((r.flags m).setWidth 16))

def execMstat (d : Clu) (t : Tix) (y : Bool) (vd : VReg) (s : State) : Host.Outcome State Fault Refusal :=
  .next (s.copX d t y [.v vd.toNat] (fun s r =>
    if (s.tile d t).copLive = [] then .done (s.upd d t (fun _ => r.setV vd.toNat r.mstat)) .next else .stall))

def execMwait (d : Clu) (t : Tix) (y : Bool) (s : State) : Host.Outcome State Fault Refusal :=
  .next (s.copX d t y [] (fun s _ => if (s.tile d t).copLive = [] then .done s .next else .stall))

/-- R118: the oldest operation of a bundle that has issued starts when the unit is free. -/
def execCopOpStart (d : Clu) (t : Tix) (s : State) : Host.Outcome State Fault Refusal :=
  .next (
    let x := s.tile d t
    let ready := match x.snap with | some (_, q) => q | none => x.copQ
    match x.copUnit, ready with
    | none, o :: _ =>
      s.setTile d t { x with
        copUnit := some o, copStop := false, copQ := x.copQ.drop 1, snap := x.snap.map (fun p => (p.1, p.2.drop 1)) }
    | _, _ => s)

/-- R118, R123: the running operation writes its result and frees the unit. -/
def execCopOpWriteback (d : Clu) (t : Tix) (s : State) : Host.Outcome State Fault Refusal :=
  .next (
    let x := s.tile d t
    match x.copUnit with
    | some o =>
      if x.copStop then s
      else
        let res := x.regs.copResult o
        let put := fun (r : TileRegs) => res.foldl TileRegs.putM r
        s.setTile d t { x with copUnit := none, regs := put x.regs, snap := x.snap.map (fun p => (put p.1, p.2)) }
    | none => s)

/-- R127: a unit told to stop ends its internal step; nothing is written. -/
def execCopUnitStop (d : Clu) (t : Tix) (s : State) : Host.Outcome State Fault Refusal :=
  .next (
    let x := s.tile d t
    if x.copStop then s.setTile d t { x with copUnit := none, copStop := false } else s)

end Sys2Proof.Machine
end

