-- ==== Sys2Proof/Machine/Tap.lean ====
section
/-! DEFINITION. The TAP (R462), THERMTRIP_L (R457) and the Fyil port (R463). An instruction's command selects it and runs one scan
of the data register it selects: what the register captured is shifted out, what was shifted in is held. -/

namespace Sys2Proof.Machine

open Sys2Proof

/-- The test instructions that drive the balls from the boundary register: EXTEST, EXTEST_PULSE, EXTEST_TRAIN, CLAMP. -/
def drivesBalls (i : W8) : Bool := decide (i = 0x00) || decide (i = 0x03) || decide (i = 0x04) || decide (i = 0x05)

/-- An instruction is selected; one that drives the balls drives what the boundary register holds. -/
def State.tapSelect (s : State) (i : W8) : State :=
  let s1 := { s with tap := { s.tap with inst := i } }
  if s.tap.inst = i then s1 else s1.emit (.balls i (if drivesBalls i then s.tap.held else 0))

/-- A scan of the boundary register: it captures the balls, and holds and, where the instruction drives, drives what came in. -/
def State.boundaryScan (s : State) (i : W8) (balls din : Boundary) : State :=
  let s1 := s.tapSelect i
  let s2 := { s1 with tap := { s1.tap with shifted := balls, held := din } }
  if drivesBalls i then s2.emit (.balls i din) else s2

/-- A scan of another data register: what it captured. -/
def State.otherScan (s : State) (i : W8) (captured : Boundary) : State :=
  let s1 := s.tapSelect i
  { s1 with tap := { s1.tap with shifted := captured } }

/-- R442, R462: the test logic is reset and IDCODE is selected. -/
def execTapReset (s : State) : Host.Outcome State Fault Refusal := .next (s.tapSelect 0x01)

/-- R457. -/
def execThermtrip (s : State) : Host.Outcome State Fault Refusal :=
  .next (
    if s.thermtrip = true ∨ s.wide = some .power then s
    else ({ s with thermtrip := true } : State).emit (.thermtrip true))

def execExtest (balls din : Boundary) (s : State) : Host.Outcome State Fault Refusal := .next (s.boundaryScan 0x00 balls din)
/-- The IDCODE reads 0x1724_056F. -/
def execIdcode (s : State) : Host.Outcome State Fault Refusal := .next (s.otherScan 0x01 0x1724056F)
def execSamplePreload (balls din : Boundary) (s : State) : Host.Outcome State Fault Refusal := .next (s.boundaryScan 0x02 balls din)
def execExtestPulse (balls din : Boundary) (s : State) : Host.Outcome State Fault Refusal := .next (s.boundaryScan 0x03 balls din)
def execExtestTrain (balls din : Boundary) (s : State) : Host.Outcome State Fault Refusal := .next (s.boundaryScan 0x04 balls din)
/-- The BYPASS register captures 0 (IEEE 1149.1). -/
def execClamp (s : State) : Host.Outcome State Fault Refusal := .next (s.otherScan 0x05 0)
def execHighz (s : State) : Host.Outcome State Fault Refusal := .next (s.otherScan 0x06 0)
def execBypass (s : State) : Host.Outcome State Fault Refusal := .next (s.otherScan 0xFF 0)

/-- R463: the port sends the oldest frame, or an idle one. -/
def execFyilFrame (s : State) : Host.Outcome State Fault Refusal :=
  .next (
    if s.fld (pgFYIL + 0x040) 31 31 = 0 ∨ 2 ≤ s.slotState 7 then s
    else match s.fyil with
      | x :: t => ({ s with fyil := t } : State).emit (.fyil x)
      | [] => s.emit (.fyil (BitVec.ofNat 256 (s.rawNs32 * 2 ^ 192))))

end Sys2Proof.Machine
end

