-- ==== Sys2Proof/Machine/Vane.lean ====
section
/-! DEFINITION. The Tolain instructions of chapter 04, each for tile t of cluster d; y is the slot the command issues in. -/

namespace Sys2Proof.Machine

open Sys2Proof

/-! ## NOP and the vector ALU (R105) -/

/-- NOP, in either slot. -/
def execNop (d : Clu) (t : Tix) (y : Bool) (s : State) : Host.Outcome State Fault Refusal :=
  .next (if y then s.slotY d t y [] (fun s _ => .done s .next) else s.slotX d t y [] (fun s _ => .done s .next))

/-- The vector whose component pairs are f of the elements. -/
def vecBin (f : Int → Int → Int) (x y : W512) : W512 :=
  vecMap (fun i => elemOf (alu16 (f (elemRe x i) (elemRe y i))) (alu16 (f (elemIm x i) (elemIm y i))))

def execVecAdd (d : Clu) (t : Tix) (y : Bool) (vd va vb : VReg) (s : State) : Host.Outcome State Fault Refusal :=
  .next (s.opX d t y [.v vd.toNat] (fun r => r.setV vd.toNat (vecBin (fun a b => a + b) (r.getV va.toNat) (r.getV vb.toNat))))

def execVecSubtract (d : Clu) (t : Tix) (y : Bool) (vd va vb : VReg) (s : State) : Host.Outcome State Fault Refusal :=
  .next (s.opX d t y [.v vd.toNat] (fun r => r.setV vd.toNat (vecBin (fun a b => a - b) (r.getV va.toNat) (r.getV vb.toNat))))

def execVecNegate (d : Clu) (t : Tix) (y : Bool) (vd va : VReg) (s : State) : Host.Outcome State Fault Refusal :=
  .next (s.opX d t y [.v vd.toNat] (fun r => r.setV vd.toNat
    (vecMap (fun i => elemOf (alu16 (- elemRe (r.getV va.toNat) i)) (alu16 (- elemIm (r.getV va.toNat) i))))))

def execVecConjugate (d : Clu) (t : Tix) (y : Bool) (vd va : VReg) (s : State) : Host.Outcome State Fault Refusal :=
  .next (s.opX d t y [.v vd.toNat] (fun r => r.setV vd.toNat
    (vecMap (fun i => elemOf (BitVec.ofInt 16 (elemRe (r.getV va.toNat) i)) (alu16 (- elemIm (r.getV va.toNat) i))))))

/-- The shift's amount, direction and rounding are not stated (R105): a free value. -/
def execVecShift (d : Clu) (t : Tix) (y : Bool) (vd va vb : VReg) (func : W11) (s : State) : Host.Outcome State Fault Refusal :=
  .next (s.opX d t y [.v vd.toNat] (fun r => r.setV vd.toNat (Config.vecShift func (r.getV va.toNat) (r.getV vb.toNat))))

def execVecMin (d : Clu) (t : Tix) (y : Bool) (vd va vb : VReg) (s : State) : Host.Outcome State Fault Refusal :=
  .next (s.opX d t y [.v vd.toNat] (fun r => r.setV vd.toNat (Config.vecMin (r.getV va.toNat) (r.getV vb.toNat))))

def execVecMax (d : Clu) (t : Tix) (y : Bool) (vd va vb : VReg) (s : State) : Host.Outcome State Fault Refusal :=
  .next (s.opX d t y [.v vd.toNat] (fun r => r.setV vd.toNat (Config.vecMax (r.getV va.toNat) (r.getV vb.toNat))))

def execPermute (d : Clu) (t : Tix) (y : Bool) (vd va vb : VReg) (func : W11) (s : State) : Host.Outcome State Fault Refusal :=
  .next (s.opX d t y [.v vd.toNat] (fun r => r.setV vd.toNat (Config.vecPermute func (r.getV va.toNat) (r.getV vb.toNat))))

def execBroadcast (d : Clu) (t : Tix) (y : Bool) (vd va : VReg) (elem : W4) (s : State) : Host.Outcome State Fault Refusal :=
  .next (s.opX d t y [.v vd.toNat] (fun r => r.setV vd.toNat (vecMap (fun _ => vecElem (r.getV va.toNat) elem.toNat))))

def execCompare (d : Clu) (t : Tix) (y : Bool) (vd va vb : VReg) (func : W11) (s : State) : Host.Outcome State Fault Refusal :=
  .next (s.opX d t y [.v vd.toNat] (fun r => r.setV vd.toNat (Config.vecCompare func (r.getV va.toNat) (r.getV vb.toNat))))

def execSelect (d : Clu) (t : Tix) (y : Bool) (vd va vb : VReg) (func : W11) (s : State) : Host.Outcome State Fault Refusal :=
  .next (s.opX d t y [.v vd.toNat] (fun r => r.setV vd.toNat (Config.vecSelect func (r.getV va.toNat) (r.getV vb.toNat))))

/-! ## Complex MAC (R83, R84) -/

def execCmac (d : Clu) (t : Tix) (y : Bool) (ad : AReg) (sfx : W2) (va vb : VReg) (s : State) :
    Host.Outcome State Fault Refusal :=
  .next (s.opX d t y [.a ad.toNat] (fun r => r.lanes (fun q i =>
    let p := elemMul sfx.toNat (r.getV va.toNat) (r.getV vb.toNat) i i
    q.accAdd ad.toNat i sfx.toNat p.1 p.2)))

def execCmac2 (d : Clu) (t : Tix) (y : Bool) (ad : AReg) (sfx : W2) (va vb : VReg) (s : State) :
    Host.Outcome State Fault Refusal :=
  .next (s.slotX d t y [.a ad.toNat] (fun s r =>
    if va = 31 ∨ vb = 31 then .fault s 0
    else .done (s.upd d t (fun _ => r.lanes (fun q i =>
      let p := elemMul sfx.toNat (r.getV va.toNat) (r.getV vb.toNat) i i
      let p' := elemMul sfx.toNat (r.getV (va.toNat + 1)) (r.getV (vb.toNat + 1)) i i
      q.accAdd ad.toNat i sfx.toNat (p.1 + p'.1) (p.2 + p'.2)))) .next))

def execCmacb (d : Clu) (t : Tix) (y : Bool) (ad : AReg) (sfx : W2) (va vb : VReg) (elem : W4) (s : State) :
    Host.Outcome State Fault Refusal :=
  .next (s.opX d t y [.a ad.toNat] (fun r => r.lanes (fun q i =>
    let p := elemMul sfx.toNat (r.getV va.toNat) (r.getV vb.toNat) i elem.toNat
    q.accAdd ad.toNat i sfx.toNat p.1 p.2)))

def execCmacb2 (d : Clu) (t : Tix) (y : Bool) (ad : AReg) (sfx : W2) (va vb : VReg) (elem : W4) (s : State) :
    Host.Outcome State Fault Refusal :=
  .next (s.slotX d t y [.a ad.toNat] (fun s r =>
    if va = 31 ∨ elem.toNat % 2 = 1 then .fault s 0
    else .done (s.upd d t (fun _ => r.lanes (fun q i =>
      let p := elemMul sfx.toNat (r.getV va.toNat) (r.getV vb.toNat) i elem.toNat
      let p' := elemMul sfx.toNat (r.getV (va.toNat + 1)) (r.getV vb.toNat) i (elem.toNat + 1)
      q.accAdd ad.toNat i sfx.toNat (p.1 + p'.1) (p.2 + p'.2)))) .next))

/-! ## Accumulator operations and extraction (R85, R86, R107) -/

def execAclr (d : Clu) (t : Tix) (y : Bool) (ad : AReg) (s : State) : Host.Outcome State Fault Refusal :=
  .next (s.opX d t y [.a ad.toNat] (fun r => r.lanes (fun q i => q.setA ad.toNat i {})))

/-- ASCALE of every unfrozen lane by k, 1 to 8. -/
def TileRegs.ascale (r : TileRegs) (ad k : Nat) (round : Bool) : TileRegs :=
  r.lanes (fun q i =>
    let l := q.getA ad i
    let f := fun (x : W40) => BitVec.ofInt 40 (if round then roundShift x.toInt k else x.toInt / 2 ^ k)
    if l.frozen then q else q.setA ad i { l with re := f l.re, im := f l.im })

def execAscale (d : Clu) (t : Tix) (y : Bool) (ad : AReg) (k : W4) (s : State) : Host.Outcome State Fault Refusal :=
  .next (s.slotX d t y [.a ad.toNat] (fun s r =>
    if k = 0 ∨ 8 < k.toNat then .fault s 0 else .done (s.upd d t (fun _ => r.ascale ad.toNat k.toNat r.rnd)) .next))

def execAscaleT (d : Clu) (t : Tix) (y : Bool) (ad : AReg) (k : W4) (s : State) : Host.Outcome State Fault Refusal :=
  .next (s.slotX d t y [.a ad.toNat] (fun s r =>
    if k = 0 ∨ 8 < k.toNat then .fault s 0 else .done (s.upd d t (fun _ => r.ascale ad.toNat k.toNat false)) .next))

def execAadd (d : Clu) (t : Tix) (y : Bool) (ad src : AReg) (s : State) : Host.Outcome State Fault Refusal :=
  .next (s.opX d t y [.a ad.toNat] (fun r => r.lanes (fun q i =>
    let l := r.getA src.toNat i
    q.accAdd ad.toNat i 0 l.re.toInt l.im.toInt)))

def execAmov (d : Clu) (t : Tix) (y : Bool) (ad src : AReg) (s : State) : Host.Outcome State Fault Refusal :=
  .next (s.opX d t y [.a ad.toNat] (fun r => r.lanes (fun q i => q.setA ad.toNat i (r.getA src.toNat i))))

def execAmovVector (d : Clu) (t : Tix) (y : Bool) (ad : AReg) (va : VReg) (k : W4) (s : State) :
    Host.Outcome State Fault Refusal :=
  .next (s.opX d t y [.a ad.toNat] (fun r => r.lanes (fun q i =>
    let x := r.getV va.toNat
    q.setA ad.toNat i ⟨BitVec.ofInt 40 (elemRe x i * 2 ^ k.toNat), BitVec.ofInt 40 (elemIm x i * 2 ^ k.toNat), false⟩)))

/-- EXT of an accumulator into a vector (R86). -/
def TileRegs.ext (r : TileRegs) (vd src sh : Nat) (round : Bool) : TileRegs :=
  let f := fun i => (extract (r.getA src i).re.toInt sh round, extract (r.getA src i).im.toInt sh round)
  let sat := (List.range 16).foldl (fun (w : W16) i => if (f i).1.2 || (f i).2.2 then putFld w i i 1 else w) 0
  { r.setV vd (vecMap (fun i => elemOf (BitVec.ofInt 16 (f i).1.1) (BitVec.ofInt 16 (f i).2.1))) with
    extSat := r.extSat ||| sat, extNew := sat }

def execExt (d : Clu) (t : Tix) (y : Bool) (vd : VReg) (src : AReg) (sh : W5) (s : State) : Host.Outcome State Fault Refusal :=
  .next (s.opX d t y [.v vd.toNat] (fun r => r.ext vd.toNat src.toNat sh.toNat r.rnd))

def execExtT (d : Clu) (t : Tix) (y : Bool) (vd : VReg) (src : AReg) (sh : W5) (s : State) : Host.Outcome State Fault Refusal :=
  .next (s.opX d t y [.v vd.toNat] (fun r => r.ext vd.toNat src.toNat sh.toNat false))

/-! ## Loads and stores (R87 to R90, R99) -/

/-- A load of cnt elements: w writes the loaded elements. -/
def State.loadElems (s : State) (d t : Nat) (r : TileRegs) (pn mode : Nat) (imm : W16) (cnt : Nat)
    (w : TileRegs → List W32 → TileRegs) : Res :=
  match r.addressOf pn mode imm cnt 4 false with
  | .fault n => .fault s n
  | .ok l p =>
    let m := s.readElems d t l
    if m.2.2 then .fault m.1 6 else .done (m.1.upd d t (fun q => (w q m.2.1).setP pn p)) .next

def execVld (d : Clu) (t : Tix) (y : Bool) (v : VReg) (pn : PReg) (amode : W2) (imm : W16) (s : State) :
    Host.Outcome State Fault Refusal :=
  .next (s.slotY d t y [.v v.toNat, .p pn.toNat] (fun s r =>
    s.loadElems d t r pn.toNat amode.toNat imm 16 (fun q l => q.setV v.toNat (vecOf l))))

def execVst (d : Clu) (t : Tix) (y : Bool) (v : VReg) (pn : PReg) (amode : W2) (imm : W16) (s : State) :
    Host.Outcome State Fault Refusal :=
  .next (s.slotY d t y [.p pn.toNat] (fun s r =>
    match r.addressOf pn.toNat amode.toNat imm 16 4 false with
    | .fault n => .fault s n
    | .ok l p =>
      .done ((s.writeElems d t ((l.zip (List.range 16)).map (fun x => (x.1, vecElem (r.getV v.toNat) x.2, false)))).upd d t
        (fun q => q.setP pn.toNat p)) .next))

def execVlds (d : Clu) (t : Tix) (y : Bool) (v : VReg) (pn : PReg) (amode : W2) (imm : W16) (s : State) :
    Host.Outcome State Fault Refusal :=
  .next (s.slotY d t y [.v v.toNat, .v (v.toNat + 1), .p pn.toNat] (fun s r =>
    if v = 31 then .fault s 0
    else s.loadElems d t r pn.toNat amode.toNat imm 17 (fun q l =>
      (q.setV v.toNat (vecOf (l.drop 1))).setV (v.toNat + 1) (vecOf (l.take 16)))))

/-- The bytes of a scalar access. -/
def scalarBytes : ScalarSize → Nat
  | .word => 4 | .half => 2 | .byte => 1

/-- What a scalar load puts in its register (R105): the bytes read, with an open extension where they do not fill it. -/
def scalarValue (size : ScalarSize) (x : W32) : W32 :=
  match size with
  | .word => x
  | .half => ((Config.loadExtend true (x.setWidth 16)).extractLsb' 16 16) ++ (x.setWidth 16 : W16)
  | .byte => ((Config.loadExtend false (x.setWidth 16 &&& 0xFF)).extractLsb' 8 24) ++ (x.setWidth 8 : W8)

def execScalarLoad (d : Clu) (t : Tix) (y : Bool) (sd : SReg) (size : ScalarSize) (pn : PReg) (amode : W2) (imm : W16)
    (s : State) : Host.Outcome State Fault Refusal :=
  .next (s.slotY d t y [.s sd.toNat, .p pn.toNat] (fun s r =>
    match r.addressOf pn.toNat amode.toNat imm 1 (scalarBytes size) true with
    | .fault n => .fault s n
    | .ok l p =>
      let a := l.headD 0
      let m := s.readElems d t [a - a % 4]
      if m.2.2 then .fault m.1 6
      else .done (m.1.upd d t (fun q =>
        (q.setS sd.toNat (scalarValue size (m.2.1.headD 0 >>> (8 * (a % 4))))).setP pn.toNat p)) .next))

def execScalarStore (d : Clu) (t : Tix) (y : Bool) (sd : SReg) (size : ScalarSize) (pn : PReg) (amode : W2) (imm : W16)
    (s : State) : Host.Outcome State Fault Refusal :=
  .next (s.slotY d t y [.p pn.toNat] (fun s r =>
    match r.addressOf pn.toNat amode.toNat imm 1 (scalarBytes size) true with
    | .fault n => .fault s n
    | .ok l p =>
      .done ((s.writeElem d t (l.headD 0) (scalarBytes size) (r.getS sd.toNat) false).upd d t (fun q => q.setP pn.toNat p)) .next))

/-! ## Scalar and address registers (R90, R105) -/

def execScalarAlu (d : Clu) (t : Tix) (y : Bool) (fn : W5) (sd sa sb : SReg) (s : State) : Host.Outcome State Fault Refusal :=
  .next (s.opY d t y [.s sd.toNat] (fun r q => q.setS sd.toNat (Config.scalarAlu fn (r.getS sa.toNat) (r.getS sb.toNat))))

/-- A signed product within 32 bits is the product; outside, R105 states none. -/
def scalarMul (a b : W32) : W32 :=
  let p := a.toInt * b.toInt
  if -2147483648 ≤ p ∧ p ≤ 2147483647 then BitVec.ofInt 32 p else Config.scalarProduct a b

def execScalarMultiply (d : Clu) (t : Tix) (y : Bool) (sd sa sb : SReg) (s : State) : Host.Outcome State Fault Refusal :=
  .next (s.opY d t y [.s sd.toNat] (fun r q => q.setS sd.toNat (scalarMul (r.getS sa.toNat) (r.getS sb.toNat))))

/-- The constant of an immediate move: an immediate with bit 15 clear reads the same under every extension. -/
def immValue (imm : W16) : W32 := (if bit imm 15 then Config.immExtend imm else 0) ++ imm

def execImmediateMove (d : Clu) (t : Tix) (y : Bool) (sd : SReg) (imm : W16) (s : State) : Host.Outcome State Fault Refusal :=
  .next (s.opY d t y [.s sd.toNat] (fun _ q => q.setS sd.toNat (immValue imm)))

def execPmov (d : Clu) (t : Tix) (y : Bool) (pn : PReg) (sa : SReg) (s : State) : Host.Outcome State Fault Refusal :=
  .next (s.opY d t y [.p pn.toNat] (fun r q => q.setP pn.toNat (r.getS sa.toNat)))

def execPadd (d : Clu) (t : Tix) (y : Bool) (pn : PReg) (imm : W16) (s : State) : Host.Outcome State Fault Refusal :=
  .next (s.opY d t y [.p pn.toNat] (fun r q => q.setP pn.toNat (r.getP pn.toNat + w32 imm.toInt)))

/-- The pointer moved by off under the modulo rule of R87, or the fault of R88. PADD.M makes no access, and the constraints of R88 are those
of accesses: that Ln = 0 makes it a plain add and that a broken constraint raises its fault is the model's reading (DEDUCED). -/
def TileRegs.movePtr (r : TileRegs) (pn : Nat) (off : Int) : Option Nat × W32 :=
  let p := (r.getP pn).toNat
  let b := (r.getB pn).toNat
  let l := (r.getL pn).toNat
  if l = 0 then (none, w32 ((p : Int) + off)) else (moduloFault p b l, w32 (moduloAt p b l off))

def execPaddM (d : Clu) (t : Tix) (y : Bool) (pn : PReg) (imm : W16) (s : State) : Host.Outcome State Fault Refusal :=
  .next (s.slotY d t y [.p pn.toNat] (fun s r =>
    match r.movePtr pn.toNat imm.toInt with
    | (some f, _) => .fault s f
    | (none, p) => .done (s.upd d t (fun q => q.setP pn.toNat p)) .next))

def execBmov (d : Clu) (t : Tix) (y : Bool) (pn : PReg) (sa : SReg) (s : State) : Host.Outcome State Fault Refusal :=
  .next (s.opY d t y [.b pn.toNat] (fun r q => q.setB pn.toNat (r.getS sa.toNat)))

def execLmov (d : Clu) (t : Tix) (y : Bool) (pn : PReg) (sa : SReg) (s : State) : Host.Outcome State Fault Refusal :=
  .next (s.opY d t y [.l pn.toNat] (fun r q => q.setL pn.toNat (r.getS sa.toNat)))

/-! ## Control flow (R82, R91 to R93, R108) -/

/-- The bundle a BR offset names. PC has 14 bits: a target below bundle 0 or beyond 16,383 wraps (DESIGN CHOICE: R108 does not say). -/
def brTarget (pc : Nat) (off : W17) : Nat := (((pc : Int) + off.toInt) % 16384).toNat

/-- COND of R108; none for a value that raises ILLEGAL_INSN. -/
def condHolds (c : Nat) (x : Int) : Option Bool :=
  match c with
  | 0 => some true
  | 1 => some (decide (x = 0))
  | 2 => some (decide (x ≠ 0))
  | 3 => some (decide (x < 0))
  | 4 => some (decide (0 ≤ x))
  | 5 => some (decide (0 < x))
  | 6 => some (decide (x ≤ 0))
  | _ => none

/-- A coprocessor instruction of a bundle behind a taken branch is handed over: it takes a tag, and an operation a place in the queue. -/
def Tile.handOver (x : Tile) (c : CopBehind) : Tile :=
  let x1 : Tile := { x with copTag := (x.copTag + 1) % 16 }
  match c with
  | .move => x1
  | .op k n md mr ma mb =>
    if 4 ≤ x.copQ.length then x
    else { x1 with copQ := x.copQ ++ [⟨x.copTag, k, n.toNat + 1, md.toNat, mr.toNat, ma.toNat, mb.toNat⟩] }

/-- The oldest operation starts if it is one of those handed over and the unit is free (R118). -/
def Tile.beginBehind (x : Tile) (tags : List Nat) : Tile :=
  match x.copUnit, x.copQ with
  | none, o :: q => if tags.contains o.tag then { x with copUnit := some o, copStop := false, copQ := q } else x
  | _, _ => x

/-- The squash arrives: operations with these tags leave the queue, and a running one stops, its write-back cancelled (R127). -/
def Tile.squashTags (x : Tile) (tags : List Nat) : Tile :=
  { x with
    copQ := x.copQ.filter (fun o => !tags.contains o.tag),
    copStop := x.copStop || (match x.copUnit with | some o => tags.contains o.tag | none => false) }

/-- A taken branch squashes the bundles behind it: what they handed to the coprocessor is removed by tag, and leaves only tags taken and,
where an operation had begun, a unit that is busy until it stops (R82, R127, R128). -/
def State.squash (s : State) (d t : Nat) (q : Squash) : State :=
  let x := s.tile d t
  let tags := (List.range q.behind.length).map (fun i => (x.copTag + i) % 16)
  let x1 := q.behind.foldl Tile.handOver x
  s.setTile d t ((if q.began then x1.beginBehind tags else x1).squashTags tags)

def execBranch (d : Clu) (t : Tix) (y : Bool) (cond : W4) (sa : SReg) (off : W17) (sq : Squash) (s : State) :
    Host.Outcome State Fault Refusal :=
  .next (s.slotY d t y [] (fun s r =>
    match condHolds cond.toNat (r.getS sa.toNat).toInt with
    | none => .fault s 0
    | some true => .done (s.squash d t sq) (.jump (brTarget r.pc off))
    | some false => .done s .next))

def execCall (d : Clu) (t : Tix) (y : Bool) (off : W17) (sq : Squash) (s : State) : Host.Outcome State Fault Refusal :=
  .next (s.slotY d t y [] (fun s r =>
    if 8 ≤ r.ret.length then .fault s 4 else .done (s.squash d t sq) (.call (brTarget r.pc off))))

def execRet (d : Clu) (t : Tix) (y : Bool) (sq : Squash) (s : State) : Host.Outcome State Fault Refusal :=
  .next (s.slotY d t y [] (fun s r => if r.ret = [] then .fault s 4 else .done (s.squash d t sq) .ret))

def execRepeatLoop (d : Clu) (t : Tix) (y : Bool) (src : Bool) (count : W12) (sa : SReg) (len : W13) (s : State) :
    Host.Outcome State Fault Refusal :=
  .next (s.slotY d t y [] (fun s r =>
    let n := if src then (r.getS sa.toNat).toNat else count.toNat
    if len = 0 then .fault s 0
    else if n ≠ 0 ∧ 4 ≤ r.loops.length then .fault s 1
    else .done s (.rep n len.toNat)))

/-- END (R96): issue stops, windows disarm, the coprocessor stops; a failed DMA entry that no DMAWAIT has covered faults (R101). -/
def execEndTask (d : Clu) (t : Tix) (y : Bool) (s : State) : Host.Outcome State Fault Refusal :=
  .next (
    let s1 := s.slotY d t y [] (fun s _ => if (s.tile d t).dmaErr ≠ 0 then .fault s 8 else .done s .next)
    let x := s1.tile d t
    if x.running && (s.tile d t).running && y && !(s.tile d t).stallX then
      let s2 := s1.setTile d t (x.halt .ending)
      if bit (s.reg (pgCLU d + 0x040)) 2 = true ∧ (x.regs.accSat ≠ 0 ∨ x.regs.extSat ≠ 0) then
        s2.raiseAt (pgCLU d) 0x1000 (locTile d t) (some x.cg) false
      else s2
    else s1)

/-- The tile reports its finish once every DMA entry has completed (R96, R104, R147); no report leaves a fenced quadrant (R349). -/
def execTaskFinishReport (d : Clu) (t : Tix) (s : State) : Host.Outcome State Fault Refusal :=
  .next (
    let x := s.tile d t
    if s.fenced (d.val / 6) = false ∧ (x.phase = .ending ∨ x.phase = .faulted) ∧ x.dma = [] then
      match s.findTask x.ring x.seq with
      | some u => (s.reportTask u (locTile d t)).freeTile d t
      | none => s.freeTile d t
    else s)

/-- R97: the task has been in service for its limit before its END issued. -/
def execTaskLimit (d : Clu) (t : Tix) (s : State) : Host.Outcome State Fault Refusal :=
  .next (
    let x := s.tile d t
    if x.running = true ∧ x.limitKc ≠ 0 then s.tileFault d t 5 else s)

/-! ## Control registers -/

/-- DMA_STAT. -/
def Tile.dmaStat (x : Tile) : W32 :=
  let armed := (List.range 4).foldl (fun (n : Nat) w => n + b2n (x.window w).armed * 2 ^ w) 0
  BitVec.ofNat 32 ((8 - x.dma.length) * 0x1000000 + x.winRefused.toNat * 0x100000 + armed * 0x10000 + x.outstanding.toNat)

/-- Level k of the loop registers, level 0 the first pushed. -/
def TileRegs.level (r : TileRegs) (k : Nat) : Option Loop := r.loops.reverse[k]?

/-- The control register at an index, from the registers a bundle reads. -/
def State.ctrlRead (s : State) (d t : Nat) (r : TileRegs) (idx : W6) : W32 :=
  let i := idx.toNat
  if i = 0 then BitVec.ofNat 32 (b2n r.rndReg)
  else if i = 1 then BitVec.ofNat 32 (r.ret.length * 256 + r.loops.length)
  else if 4 ≤ i ∧ i < 8 then r.accSat.extractLsb' (32 * (i - 4)) 32
  else if i = 8 then r.extSat.setWidth 32
  else if 0x10 ≤ i ∧ i < 0x14 then (match r.level (i - 0x10) with | some l => l.lc | none => 0)
  else if 0x14 ≤ i ∧ i < 0x18 then (match r.level (i - 0x14) with | some l => BitVec.ofNat 32 l.ls | none => 0)
  else if 0x18 ≤ i ∧ i < 0x1C then (match r.level (i - 0x18) with | some l => BitVec.ofNat 32 l.le | none => 0)
  else if i = 0x20 then BitVec.ofNat 32 (s.vaneSince d (s.tile d t).startCyc)
  else if i = 0x21 then (s.tile d t).dmaStat
  else Config.ctrlReserved idx

def execMovcRead (d : Clu) (t : Tix) (y : Bool) (sd : SReg) (idx : W6) (s : State) : Host.Outcome State Fault Refusal :=
  .next (s.slotY d t y [.s sd.toNat] (fun s r => .done (s.upd d t (fun q => q.setS sd.toNat (s.ctrlRead d t r idx))) .next))

/-- A W1C write of v; the bits that the same bundle set stay set (R10). -/
def w1cBits {w : Nat} (now v set : BitVec w) : BitVec w := (now &&& ~~~ v) ||| set

def execMovcWrite (d : Clu) (t : Tix) (y : Bool) (idx : W6) (sa : SReg) (s : State) : Host.Outcome State Fault Refusal :=
  .next (s.slotY d t y [.ctrl idx.toNat] (fun s r =>
    let i := idx.toNat
    let v := r.getS sa.toNat
    if i = 0 then .done (s.upd d t (fun q => { q with rndReg := bit v 0 })) .next
    else if 4 ≤ i ∧ i < 8 then
      .done (s.upd d t (fun q => { q with accSat := w1cBits q.accSat (v.setWidth 128 <<< (32 * (i - 4))) q.accNew })) .next
    else if i = 8 then .done (s.upd d t (fun q => { q with extSat := w1cBits q.extSat (v.setWidth 16) q.extNew })) .next
    else if i = 0x21 then
      let x := s.tile d t
      .done (s.setTile d t { x with winRefused := x.winRefused &&& ~~~ (v.extractLsb' 20 4) }) .next
    else .fault s 0))

/-! ## Tile DMA and landing windows (R100 to R102) -/

/-- A DMAQ: the entry queued, or the fault of R100. -/
def State.dmaq (s : State) (d t : Nat) (r : TileRegs) (out : Bool) (pn sf sl : Nat) (tag : W3) (adv : Bool) : Res :=
  let p := (r.getP pn).toNat
  let b := (r.getB pn).toNat
  let l := (r.getL pn).toNat
  let far := (r.getS sf).toNat + 4294967296 * (r.getS (sf + 1)).toNat
  let len := (r.getS sl).toNat
  let x := s.tile d t
  let e : DmaEntry := ⟨out, p, b, l, far, len, tag.toNat, false⟩
  if sf % 2 = 1 then .fault s 0
  else if 8 ≤ x.dma.length then .stall
  else if p % 4 ≠ 0 ∨ far % 4 ≠ 0 ∨ len % 4 ≠ 0 ∨ len < 4 ∨ 65536 < len then .fault s 2
  else match (if l = 0 then none else moduloFault p b l) with
    | some f => .fault s f
    | none =>
      if e.nearAddrs.any (fun a => decide (0x40000 < a + 4)) then .fault s 3
      else
        let s1 := s.setTile d t { x with dma := x.dma ++ [e] }
        let far' := far + len
        .done (if adv then s1.upd d t (fun q =>
          ((q.setP pn (r.movePtr pn len).2).setS sf (BitVec.ofNat 32 far')).setS (sf + 1) (BitVec.ofNat 32 (far' / 4294967296)))
          else s1) .next

/-- The registers a DMAQ writes. -/
def dmaDst (pn sf : Nat) (adv : Bool) : List RegId := if adv then [.p pn, .s sf, .s (sf + 1)] else []

def execDmaqIn (d : Clu) (t : Tix) (y : Bool) (pn : PReg) (sf sl : SReg) (tag : W3) (adv : Bool) (s : State) :
    Host.Outcome State Fault Refusal :=
  .next (s.slotY d t y (dmaDst pn.toNat sf.toNat adv) (fun s r => s.dmaq d t r false pn.toNat sf.toNat sl.toNat tag adv))

def execDmaqOut (d : Clu) (t : Tix) (y : Bool) (pn : PReg) (sf sl : SReg) (tag : W3) (adv : Bool) (s : State) :
    Host.Outcome State Fault Refusal :=
  .next (s.slotY d t y (dmaDst pn.toNat sf.toNat adv) (fun s r => s.dmaq d t r true pn.toNat sf.toNat sl.toNat tag adv))

/-- The bytes of 4-byte elements, each marked as its word was. -/
def elemBytes (l : List W32) (bad : Bool) : List PByte := (l.flatMap (fun x => bytesLE 4 x.toNat)).map (fun b => (b, bad))

/-- Four bytes at a time, as elements. -/
def bytesElems : List PByte → List (W32 × Bool)
  | a :: b :: c :: d :: rest =>
    (BitVec.ofNat 32 (natLE [a.1, b.1, c.1, d.1]), a.2 || b.2 || c.2 || d.2) :: bytesElems rest
  | _ => []

/-- Near elements read one by one, each with its own marker. -/
def State.readNear (s : State) (d t : Nat) : List Nat → State × List PByte
  | [] => (s, [])
  | x :: xs =>
    let m := s.readElem d t x
    let q := m.1.readNear d t xs
    (q.1, elemBytes [m.2.1] m.2.2 ++ q.2)

/-- The transfer of an entry: the state, and whether an error response or uncorrectable data came (R100, R101). -/
def State.runDma (s : State) (d t : Nat) (e : DmaEntry) : State × Bool :=
  let who : Req := { cg := some (s.tile d t).cg, quad := d / 6, old := e.old }
  if e.out then
    let m := s.readNear d t e.nearAddrs
    let w := m.1.devWrite who e.far m.2
    (w.1, !w.2 || anyPoison m.2)
  else
    let m := s.devRead who e.far e.len
    let l := (e.nearAddrs.zip (bytesElems m.2.1)).map (fun x => (x.1, x.2.1, x.2.2))
    (m.1.writeElems d t l, !m.2.2 || anyPoison m.2.1)

/-- R100, R101: the entry in place slot of the queue completes, once no earlier entry carries its tag. -/
def execDmaEntryDone (d : Clu) (t : Tix) (slot : W3) (s : State) : Host.Outcome State Fault Refusal :=
  .next (
    let x := s.tile d t
    match x.dma[slot.toNat]? with
    | none => s
    | some e =>
      if (x.dma.take slot.toNat).any (fun f => decide (f.tag = e.tag)) then s
      else
        let r := s.runDma d t e
        let z := r.1.tile d t
        let z1 := { z with dma := z.dma.eraseIdx slot.toNat }
        if r.2 = false then r.1.setTile d t z1
        else if z.phase = .ending then (r.1.setTile d t z1).tileFault d t 8
        else r.1.setTile d t { z1 with dmaErr := putFld z1.dmaErr e.tag e.tag 1 })

/-- R100, R101. -/
def execDmawait (d : Clu) (t : Tix) (y : Bool) (mask : W8) (s : State) : Host.Outcome State Fault Refusal :=
  .next (s.slotY d t y [] (fun s _ =>
    let x := s.tile d t
    if x.outstanding &&& mask ≠ 0 then .stall
    else if x.dmaErr &&& mask ≠ 0 then .fault s 8
    else .done s .next))

/-- A key is armed on another tile of the cluster (R102). -/
def State.keyElsewhere (s : State) (d t key : Nat) : Bool :=
  (List.range 8).any (fun k => decide (k ≠ t) && (List.range 4).any (fun w =>
    ((s.tile d k).window w).armed && decide (((s.tile d k).window w).key = key)))

/-- R102. -/
def execWinarm (d : Clu) (t : Tix) (y : Bool) (w : W2) (sa sb sc : SReg) (s : State) : Host.Outcome State Fault Refusal :=
  .next (s.slotY d t y [] (fun s r =>
    let base := (r.getS sa.toNat).toNat
    let len := (r.getS sb.toNat).toNat
    let key := bitsOf (r.getS sc.toNat) 11 0
    let x := s.tile d t
    if base % 8 ≠ 0 ∨ len % 8 ≠ 0 then .fault s 2
    else if 0x40000 < base + len then .fault s 3
    else if s.keyElsewhere d t key then
      .done (s.setTile d t { x.setWindow w.toNat {} with winRefused := putFld x.winRefused w.toNat w.toNat 1 }) .next
    else
      .done (s.setTile d t { x.setWindow w.toNat ⟨true, base, len, key, false, x.armings + 1⟩ with
        armings := x.armings + 1,
        winRefused := putFld x.winRefused w.toNat w.toNat 0 }) .next))

end Sys2Proof.Machine
end

