-- ==== Sys2Proof/Machine/Dispatch.lean ====
section
/-! DEFINITION. What each command does: one arm per constructor, each one call of its own meaning. -/

namespace Sys2Proof.Machine

open Sys2Proof

def exec (i : Instr) (s : State) : Host.Outcome State Fault Refusal :=
  match i with
  | .regWrite a v x => Sys2Proof.Machine.execRegWrite a v x s
  | .unpopulatedAccess a write => Sys2Proof.Machine.execUnpopulatedAccess a write s
  | .rcRead a x => Sys2Proof.Machine.execRcRead a x s
  | .latchedPairRead x => Sys2Proof.Machine.execLatchedPairRead x s
  | .darkRead x => Sys2Proof.Machine.execDarkRead x s
  | .darkWrite a v => Sys2Proof.Machine.execDarkWrite a v s
  | .run page v => Sys2Proof.Machine.execRun page v s
  | .halt page v => Sys2Proof.Machine.execHalt page v s
  | .softReset page v => Sys2Proof.Machine.execSoftReset page v s
  | .softResetEnd page => Sys2Proof.Machine.execSoftResetEnd page s
  | .errInj page n => Sys2Proof.Machine.execErrInj page n s
  | .wakeWrite slot mirror v => Sys2Proof.Machine.execWakeWrite slot mirror v s
  | .modeReqBoot key => Sys2Proof.Machine.execModeReqBoot key s
  | .modeReqConfig key => Sys2Proof.Machine.execModeReqConfig key s
  | .modeReqService key => Sys2Proof.Machine.execModeReqService key s
  | .modeReqDrain key => Sys2Proof.Machine.execModeReqDrain key s
  | .modeDone => Sys2Proof.Machine.execModeDone s
  | .ejectAssert => Sys2Proof.Machine.execEjectAssert s
  | .ejectRelease => Sys2Proof.Machine.execEjectRelease s
  | .drainStepEnd => Sys2Proof.Machine.execDrainStepEnd s
  | .drainStepCut => Sys2Proof.Machine.execDrainStepCut s
  | .cgDispatchStopped g => Sys2Proof.Machine.execCgDispatchStopped g s
  | .cgHaltLimit g => Sys2Proof.Machine.execCgHaltLimit g s
  | .cgFlushDone g => Sys2Proof.Machine.execCgFlushDone g s
  | .cgStartCopy g => Sys2Proof.Machine.execCgStartCopy g s
  | .nop d t y => Sys2Proof.Machine.execNop d t y s
  | .vecAdd d t y vd va vb => Sys2Proof.Machine.execVecAdd d t y vd va vb s
  | .vecSubtract d t y vd va vb => Sys2Proof.Machine.execVecSubtract d t y vd va vb s
  | .vecNegate d t y vd va => Sys2Proof.Machine.execVecNegate d t y vd va s
  | .vecConjugate d t y vd va => Sys2Proof.Machine.execVecConjugate d t y vd va s
  | .vecShift d t y vd va vb func => Sys2Proof.Machine.execVecShift d t y vd va vb func s
  | .vecMin d t y vd va vb => Sys2Proof.Machine.execVecMin d t y vd va vb s
  | .vecMax d t y vd va vb => Sys2Proof.Machine.execVecMax d t y vd va vb s
  | .permute d t y vd va vb func => Sys2Proof.Machine.execPermute d t y vd va vb func s
  | .broadcast d t y vd va elem => Sys2Proof.Machine.execBroadcast d t y vd va elem s
  | .compare d t y vd va vb func => Sys2Proof.Machine.execCompare d t y vd va vb func s
  | .select d t y vd va vb func => Sys2Proof.Machine.execSelect d t y vd va vb func s
  | .cmac d t y ad sfx va vb => Sys2Proof.Machine.execCmac d t y ad sfx va vb s
  | .cmac2 d t y ad sfx va vb => Sys2Proof.Machine.execCmac2 d t y ad sfx va vb s
  | .cmacb d t y ad sfx va vb elem => Sys2Proof.Machine.execCmacb d t y ad sfx va vb elem s
  | .cmacb2 d t y ad sfx va vb elem => Sys2Proof.Machine.execCmacb2 d t y ad sfx va vb elem s
  | .aclr d t y ad => Sys2Proof.Machine.execAclr d t y ad s
  | .ascale d t y ad k => Sys2Proof.Machine.execAscale d t y ad k s
  | .ascaleT d t y ad k => Sys2Proof.Machine.execAscaleT d t y ad k s
  | .aadd d t y ad src => Sys2Proof.Machine.execAadd d t y ad src s
  | .amov d t y ad src => Sys2Proof.Machine.execAmov d t y ad src s
  | .amovVector d t y ad va k => Sys2Proof.Machine.execAmovVector d t y ad va k s
  | .ext d t y vd src sh => Sys2Proof.Machine.execExt d t y vd src sh s
  | .extT d t y vd src sh => Sys2Proof.Machine.execExtT d t y vd src sh s
  | .vld d t y v pn amode imm => Sys2Proof.Machine.execVld d t y v pn amode imm s
  | .vst d t y v pn amode imm => Sys2Proof.Machine.execVst d t y v pn amode imm s
  | .vlds d t y v pn amode imm => Sys2Proof.Machine.execVlds d t y v pn amode imm s
  | .scalarLoad d t y sd size pn amode imm => Sys2Proof.Machine.execScalarLoad d t y sd size pn amode imm s
  | .scalarStore d t y sd size pn amode imm => Sys2Proof.Machine.execScalarStore d t y sd size pn amode imm s
  | .scalarAlu d t y fn sd sa sb => Sys2Proof.Machine.execScalarAlu d t y fn sd sa sb s
  | .scalarMultiply d t y sd sa sb => Sys2Proof.Machine.execScalarMultiply d t y sd sa sb s
  | .immediateMove d t y sd imm => Sys2Proof.Machine.execImmediateMove d t y sd imm s
  | .pmov d t y pn sa => Sys2Proof.Machine.execPmov d t y pn sa s
  | .padd d t y pn imm => Sys2Proof.Machine.execPadd d t y pn imm s
  | .paddM d t y pn imm => Sys2Proof.Machine.execPaddM d t y pn imm s
  | .bmov d t y pn sa => Sys2Proof.Machine.execBmov d t y pn sa s
  | .lmov d t y pn sa => Sys2Proof.Machine.execLmov d t y pn sa s
  | .branch d t y cond sa off sq => Sys2Proof.Machine.execBranch d t y cond sa off sq s
  | .call d t y off sq => Sys2Proof.Machine.execCall d t y off sq s
  | .ret d t y sq => Sys2Proof.Machine.execRet d t y sq s
  | .repeatLoop d t y src count sa len => Sys2Proof.Machine.execRepeatLoop d t y src count sa len s
  | .endTask d t y => Sys2Proof.Machine.execEndTask d t y s
  | .taskFinishReport d t => Sys2Proof.Machine.execTaskFinishReport d t s
  | .movcRead d t y sd idx => Sys2Proof.Machine.execMovcRead d t y sd idx s
  | .movcWrite d t y idx sa => Sys2Proof.Machine.execMovcWrite d t y idx sa s
  | .dmaqIn d t y pn sf sl tag adv => Sys2Proof.Machine.execDmaqIn d t y pn sf sl tag adv s
  | .dmaqOut d t y pn sf sl tag adv => Sys2Proof.Machine.execDmaqOut d t y pn sf sl tag adv s
  | .dmaEntryDone d t slot => Sys2Proof.Machine.execDmaEntryDone d t slot s
  | .dmawait d t y mask => Sys2Proof.Machine.execDmawait d t y mask s
  | .winarm d t y w sa sb sc => Sys2Proof.Machine.execWinarm d t y w sa sb sc s
  | .taskLimit d t => Sys2Proof.Machine.execTaskLimit d t s
  | .mvM d t y md va q sete ex => Sys2Proof.Machine.execMvM d t y md va q sete ex s
  | .mvV d t y vd ma q => Sys2Proof.Machine.execMvV d t y vd ma q s
  | .mmul d t y n md ma mb ha hb => Sys2Proof.Machine.execMmul d t y n md ma mb ha hb s
  | .madd d t y n md ma mb => Sys2Proof.Machine.execMadd d t y n md ma mb s
  | .msub d t y n md ma mb => Sys2Proof.Machine.execMsub d t y n md ma mb s
  | .mherm d t y n md ma => Sys2Proof.Machine.execMherm d t y n md ma s
  | .mchol d t y n md ma => Sys2Proof.Machine.execMchol d t y n md ma s
  | .mtrs d t y n md ma mb upper herm => Sys2Proof.Machine.execMtrs d t y n md ma mb upper herm s
  | .mqr d t y n mq mr ma => Sys2Proof.Machine.execMqr d t y n mq mr ma s
  | .minv d t y n md ma => Sys2Proof.Machine.execMinv d t y n md ma s
  | .mstat d t y vd => Sys2Proof.Machine.execMstat d t y vd s
  | .mwait d t y => Sys2Proof.Machine.execMwait d t y s
  | .copOpStart d t => Sys2Proof.Machine.execCopOpStart d t s
  | .copOpWriteback d t => Sys2Proof.Machine.execCopOpWriteback d t s
  | .kloadGo d kid => Sys2Proof.Machine.execKloadGo d kid s
  | .kloadDone d => Sys2Proof.Machine.execKloadDone d s
  | .kernelInvalidate d => Sys2Proof.Machine.execKernelInvalidate d s
  | .ringDoorbell fn r v => Sys2Proof.Machine.execRingDoorbell fn r v s
  | .descriptorFetch r resp => Sys2Proof.Machine.execDescriptorFetch r resp s
  | .ringRestart => Sys2Proof.Machine.execRingRestart s
  | .evtSignal evt inc => Sys2Proof.Machine.execEvtSignal evt inc s
  | .gateTimeReady r seq => Sys2Proof.Machine.execGateTimeReady r seq s
  | .deadlineExpired r seq => Sys2Proof.Machine.execDeadlineExpired r seq s
  | .taskPlace flow => Sys2Proof.Machine.execTaskPlace flow s
  | .taskDispatch d => Sys2Proof.Machine.execTaskDispatch d s
  | .taskReplace flow => Sys2Proof.Machine.execTaskReplace flow s
  | .engineJobOffer q e => Sys2Proof.Machine.execEngineJobOffer q e s
  | .taskEnd r seq => Sys2Proof.Machine.execTaskEnd r seq s
  | .completionRecordWrite eng => Sys2Proof.Machine.execCompletionRecordWrite eng s
  | .cqCoalTimer c => Sys2Proof.Machine.execCqCoalTimer c s
  | .cqHeadDoorbell fn c v => Sys2Proof.Machine.execCqHeadDoorbell fn c v s
  | .cancelTask r seq => Sys2Proof.Machine.execCancelTask r seq s
  | .cancelFlow flow => Sys2Proof.Machine.execCancelFlow flow s
  | .cancelDone => Sys2Proof.Machine.execCancelDone s
  | .flowResume k v => Sys2Proof.Machine.execFlowResume k v s
  | .histClr d => Sys2Proof.Machine.execHistClr d s
  | .loadWindow d => Sys2Proof.Machine.execLoadWindow d s
  | .memoryRead sp a who up => Sys2Proof.Machine.execMemoryRead sp a who up s
  | .memoryWrite sp a data be poison who x => Sys2Proof.Machine.execMemoryWrite sp a data be poison who x s
  | .eccWriteback sp a => Sys2Proof.Machine.execEccWriteback sp a s
  | .mergeLineDrain sp a ups => Sys2Proof.Machine.execMergeLineDrain sp a ups s
  | .cbankClear q b => Sys2Proof.Machine.execCbankClear q b s
  | .cmemClear d => Sys2Proof.Machine.execCmemClear d s
  | .scrubGo m v => Sys2Proof.Machine.execScrubGo m v s
  | .scrubFillGo m v => Sys2Proof.Machine.execScrubFillGo m v s
  | .scrubAbort m v => Sys2Proof.Machine.execScrubAbort m v s
  | .scrubLine m ups => Sys2Proof.Machine.execScrubLine m ups s
  | .memLogClr m => Sys2Proof.Machine.execMemLogClr m s
  | .granuleRetire q b v => Sys2Proof.Machine.execGranuleRetire q b v s
  | .bankOwnerWrite q k v => Sys2Proof.Machine.execBankOwnerWrite q k v s
  | .rowRemapGo n => Sys2Proof.Machine.execRowRemapGo n s
  | .remapDone n bad => Sys2Proof.Machine.execRemapDone n bad s
  | .hbmTempHigh n temp => Sys2Proof.Machine.execHbmTempHigh n temp s
  | .laneStart l => Sys2Proof.Machine.execLaneStart l s
  | .laneAlign l => Sys2Proof.Machine.execLaneAlign l s
  | .helloSend l => Sys2Proof.Machine.execHelloSend l s
  | .helloReceive l x => Sys2Proof.Machine.execHelloReceive l x s
  | .departFrameReceive x => Sys2Proof.Machine.execDepartFrameReceive x s
  | .blockLock x => Sys2Proof.Machine.execBlockLock x s
  | .trainReceive l rxOk => Sys2Proof.Machine.execTrainReceive l rxOk s
  | .stepTimeout l => Sys2Proof.Machine.execStepTimeout l s
  | .txSquelchEnd l => Sys2Proof.Machine.execTxSquelchEnd l s
  | .cdrLock l => Sys2Proof.Machine.execCdrLock l s
  | .syncWindowEnd l errs => Sys2Proof.Machine.execSyncWindowEnd l errs s
  | .slip l => Sys2Proof.Machine.execSlip l s
  | .accept l => Sys2Proof.Machine.execAccept l s
  | .slipLimit l => Sys2Proof.Machine.execSlipLimit l s
  | .lockLoss l x => Sys2Proof.Machine.execLockLoss l x s
  | .laneCfgWrite l v => Sys2Proof.Machine.execLaneCfgWrite l v s
  | .retrain l => Sys2Proof.Machine.execRetrain l s
  | .qrefSelWrite l sel => Sys2Proof.Machine.execQrefSelWrite l sel s
  | .qrefLock n => Sys2Proof.Machine.execQrefLock n s
  | .qrefUnlock n => Sys2Proof.Machine.execQrefUnlock n s
  | .signalDetect l => Sys2Proof.Machine.execSignalDetect l s
  | .ethPortAligned l => Sys2Proof.Machine.execEthPortAligned l s
  | .ethLockLoss l => Sys2Proof.Machine.execEthLockLoss l s
  | .prbsCheckLock x => Sys2Proof.Machine.execPrbsCheckLock x s
  | .prbsCheckUnlock l errs bits => Sys2Proof.Machine.execPrbsCheckUnlock l errs bits s
  | .prbsErrRead l errs bits => Sys2Proof.Machine.execPrbsErrRead l errs bits s
  | .eyeSweepGo l v => Sys2Proof.Machine.execEyeSweepGo l v s
  | .eyeSweepAbort l => Sys2Proof.Machine.execEyeSweepAbort l s
  | .eyePointDone l dis => Sys2Proof.Machine.execEyePointDone l dis s
  | .linkCfgWrite q v => Sys2Proof.Machine.execLinkCfgWrite q v s
  | .commaSend x => Sys2Proof.Machine.execCommaSend x s
  | .lstateReceive l num mask at_ => Sys2Proof.Machine.execLstateReceive l num mask at_ s
  | .maskApply l => Sys2Proof.Machine.execMaskApply l s
  | .frameReceive l f => Sys2Proof.Machine.execFrameReceive l f s
  | .frameDeliveredEvent l stream => Sys2Proof.Machine.execFrameDeliveredEvent l stream s
  | .ecpriReceive l f => Sys2Proof.Machine.execEcpriReceive l f s
  | .controlBlockUnknown x => Sys2Proof.Machine.execControlBlockUnknown x s
  | .ackReceive l nxt => Sys2Proof.Machine.execAckReceive l nxt s
  | .nakReceive l nxt => Sys2Proof.Machine.execNakReceive l nxt s
  | .ackSend l => Sys2Proof.Machine.execAckSend l s
  | .replayTimeout l => Sys2Proof.Machine.execReplayTimeout l s
  | .departReceive l => Sys2Proof.Machine.execDepartReceive l s
  | .partnerTimeout l => Sys2Proof.Machine.execPartnerTimeout l s
  | .tailraceFrameSend q entry n => Sys2Proof.Machine.execTailraceFrameSend q entry n s
  | .injDrop q link => Sys2Proof.Machine.execInjDrop q link s
  | .injCorrupt q link => Sys2Proof.Machine.execInjCorrupt q link s
  | .injReorder q link => Sys2Proof.Machine.execInjReorder q link s
  | .injLaneDrop q link lane count => Sys2Proof.Machine.execInjLaneDrop q link lane count s
  | .fft q => Sys2Proof.Machine.execFft q s
  | .ifft q => Sys2Proof.Machine.execIfft q s
  | .dft q => Sys2Proof.Machine.execDft q s
  | .idft q => Sys2Proof.Machine.execIdft q s
  | .filter q => Sys2Proof.Machine.execFilter q s
  | .expand q => Sys2Proof.Machine.execExpand q s
  | .pack q => Sys2Proof.Machine.execPack q s
  | .update q => Sys2Proof.Machine.execUpdate q s
  | .ldpcDec q => Sys2Proof.Machine.execLdpcDec q s
  | .ldpcEnc q => Sys2Proof.Machine.execLdpcEnc q s
  | .turboDec q => Sys2Proof.Machine.execTurboDec q s
  | .turboEnc q => Sys2Proof.Machine.execTurboEnc q s
  | .polarDec q => Sys2Proof.Machine.execPolarDec q s
  | .polarEnc q => Sys2Proof.Machine.execPolarEnc q s
  | .trellisDec q => Sys2Proof.Machine.execTrellisDec q s
  | .convEnc q => Sys2Proof.Machine.execConvEnc q s
  | .prach q => Sys2Proof.Machine.execPrach q s
  | .gsm q => Sys2Proof.Machine.execGsm q s
  | .engineJobFinish q u => Sys2Proof.Machine.execEngineJobFinish q u s
  | .rawWrap => Sys2Proof.Machine.execRawWrap s
  | .ptWrap => Sys2Proof.Machine.execPtWrap s
  | .rateCommit v => Sys2Proof.Machine.execRateCommit v s
  | .snap => Sys2Proof.Machine.execSnap s
  | .ftbAdjWrite v => Sys2Proof.Machine.execFtbAdjWrite v s
  | .slewDone => Sys2Proof.Machine.execSlewDone s
  | .ftbStep epoch => Sys2Proof.Machine.execFtbStep epoch s
  | .eecInputQualify sec freq => Sys2Proof.Machine.execEecInputQualify sec freq s
  | .eecInputDisqualify sec => Sys2Proof.Machine.execEecInputDisqualify sec s
  | .eecLock => Sys2Proof.Machine.execEecLock s
  | .eecRevert => Sys2Proof.Machine.execEecRevert s
  | .eecHoldoverExit sec => Sys2Proof.Machine.execEecHoldoverExit sec s
  | .eecDisable => Sys2Proof.Machine.execEecDisable s
  | .ptpReceive l bytes => Sys2Proof.Machine.execPtpReceive l bytes s
  | .ptpTxGo q v => Sys2Proof.Machine.execPtpTxGo q v s
  | .ptpTxDone q => Sys2Proof.Machine.execPtpTxDone q s
  | .slotArm q => Sys2Proof.Machine.execSlotArm q s
  | .slotDisarm q arm => Sys2Proof.Machine.execSlotDisarm q arm s
  | .slotTimeCommit q v => Sys2Proof.Machine.execSlotTimeCommit q v s
  | .slotDue q => Sys2Proof.Machine.execSlotDue q s
  | .slotLenReadDone q => Sys2Proof.Machine.execSlotLenReadDone q s
  | .txTimestamp l => Sys2Proof.Machine.execTxTimestamp l s
  | .tsqPop q => Sys2Proof.Machine.execTsqPop q s
  | .ppsOutEdge => Sys2Proof.Machine.execPpsOutEdge s
  | .ppsOutFall => Sys2Proof.Machine.execPpsOutFall s
  | .ppsInEdge => Sys2Proof.Machine.execPpsInEdge s
  | .ppsInMiss => Sys2Proof.Machine.execPpsInMiss s
  | .alarmArm k => Sys2Proof.Machine.execAlarmArm k s
  | .alarm k => Sys2Proof.Machine.execAlarm k s
  | .alarmFiredClear k => Sys2Proof.Machine.execAlarmFiredClear k s
  | .integrityFault weir page errs srcs others => Sys2Proof.Machine.execIntegrityFault weir page errs srcs others s
  | .sagWarn rail x => Sys2Proof.Machine.execSagWarn rail x s
  | .sagAction rail x => Sys2Proof.Machine.execSagAction rail x s
  | .sagWarnRearm rail mv => Sys2Proof.Machine.execSagWarnRearm rail mv s
  | .fenceRequestsDrained q => Sys2Proof.Machine.execFenceRequestsDrained q s
  | .fenceRailOk q => Sys2Proof.Machine.execFenceRailOk q s
  | .fenceDone q => Sys2Proof.Machine.execFenceDone q s
  | .weirInj weir v => Sys2Proof.Machine.execWeirInj weir v s
  | .powerEntryRequest slot outstanding => Sys2Proof.Machine.execPowerEntryRequest slot outstanding s
  | .powerDeferEnd slot => Sys2Proof.Machine.execPowerDeferEnd slot s
  | .powerDeferLimit slot => Sys2Proof.Machine.execPowerDeferLimit slot s
  | .powerEntryComplete slot => Sys2Proof.Machine.execPowerEntryComplete slot s
  | .voteLingerExpiry slot => Sys2Proof.Machine.execVoteLingerExpiry slot s
  | .wakeEvent slot => Sys2Proof.Machine.execWakeEvent slot s
  | .pulseWake k phase => Sys2Proof.Machine.execPulseWake k phase s
  | .wakeComplete slot canaryOk => Sys2Proof.Machine.execWakeComplete slot canaryOk s
  | .quadDomainEntry q => Sys2Proof.Machine.execQuadDomainEntry q s
  | .quadDomainWake q => Sys2Proof.Machine.execQuadDomainWake q s
  | .quadWakeRetry q => Sys2Proof.Machine.execQuadWakeRetry q s
  | .plevelWrite q v => Sys2Proof.Machine.execPlevelWrite q v s
  | .pllLock q b => Sys2Proof.Machine.execPllLock q b s
  | .voutPoll q res => Sys2Proof.Machine.execVoutPoll q res s
  | .vregTimeout q => Sys2Proof.Machine.execVregTimeout q s
  | .powerEstUpdate k mw => Sys2Proof.Machine.execPowerEstUpdate k mw s
  | .scanStart => Sys2Proof.Machine.execScanStart s
  | .scanTimer => Sys2Proof.Machine.execScanTimer s
  | .adcStartupDone => Sys2Proof.Machine.execAdcStartupDone s
  | .injGo ch => Sys2Proof.Machine.execInjGo ch s
  | .calGo => Sys2Proof.Machine.execCalGo s
  | .conversionDone code => Sys2Proof.Machine.execConversionDone code s
  | .calDone gain offset => Sys2Proof.Machine.execCalDone gain offset s
  | .bmonQueueRead => Sys2Proof.Machine.execBmonQueueRead s
  | .pmbTxnGo b v => Sys2Proof.Machine.execPmbTxnGo b v s
  | .pmbTxnStart b => Sys2Proof.Machine.execPmbTxnStart b s
  | .txnDone b res => Sys2Proof.Machine.execTxnDone b res s
  | .pmbTimeout b => Sys2Proof.Machine.execPmbTimeout b s
  | .pmbAlert b => Sys2Proof.Machine.execPmbAlert b s
  | .hscPoll => Sys2Proof.Machine.execHscPoll s
  | .hscOff v => Sys2Proof.Machine.execHscOff v s
  | .gpioEdge n level => Sys2Proof.Machine.execGpioEdge n level s
  | .configRequest fn w => Sys2Proof.Machine.execConfigRequest fn w s
  | .pcieLinkUp speed width => Sys2Proof.Machine.execPcieLinkUp speed width s
  | .doorbellRead fn off => Sys2Proof.Machine.execDoorbellRead fn off s
  | .irqRearm hi v => Sys2Proof.Machine.execIrqRearm hi v s
  | .msixUnmask fn vec => Sys2Proof.Machine.execMsixUnmask fn vec s
  | .functionLevelReset fn => Sys2Proof.Machine.execFunctionLevelReset fn s
  | .linkReset => Sys2Proof.Machine.execLinkReset s
  | .pumpDoorbell fn ch v => Sys2Proof.Machine.execPumpDoorbell fn ch v s
  | .pumpChDb v => Sys2Proof.Machine.execPumpChDb v s
  | .pumpDescFetch ch resp => Sys2Proof.Machine.execPumpDescFetch ch resp s
  | .pumpDescComplete ch resp => Sys2Proof.Machine.execPumpDescComplete ch resp s
  | .cplTimeout ch resp => Sys2Proof.Machine.execCplTimeout ch resp s
  | .pumpAbort => Sys2Proof.Machine.execPumpAbort s
  | .pumpResume => Sys2Proof.Machine.execPumpResume s
  | .burnOwner key => Sys2Proof.Machine.execBurnOwner key s
  | .revokeOwner key => Sys2Proof.Machine.execRevokeOwner key s
  | .advanceSvn key arg => Sys2Proof.Machine.execAdvanceSvn key arg s
  | .revokeVendor key arg => Sys2Proof.Machine.execRevokeVendor key arg s
  | .vendorBootDis key => Sys2Proof.Machine.execVendorBootDis key s
  | .burnDone ok => Sys2Proof.Machine.execBurnDone ok s
  | .bootBegin src => Sys2Proof.Machine.execBootBegin src s
  | .fuseReadDone => Sys2Proof.Machine.execFuseReadDone s
  | .pushGo => Sys2Proof.Machine.execPushGo s
  | .pushWindowTimeout => Sys2Proof.Machine.execPushWindowTimeout s
  | .manifestReadDone m => Sys2Proof.Machine.execManifestReadDone m s
  | .hbmStackTrained n height => Sys2Proof.Machine.execHbmStackTrained n height s
  | .imagesLoaded images => Sys2Proof.Machine.execImagesLoaded images s
  | .bootEnd => Sys2Proof.Machine.execBootEnd s
  | .attReport => Sys2Proof.Machine.execAttReport s
  | .attIdentity => Sys2Proof.Machine.execAttIdentity s
  | .attDone ok => Sys2Proof.Machine.execAttDone ok s
  | .rstoStageWrite v => Sys2Proof.Machine.execRstoStageWrite v s
  | .commit key => Sys2Proof.Machine.execCommit key s
  | .arm key => Sys2Proof.Machine.execArm key s
  | .disarm key => Sys2Proof.Machine.execDisarm key s
  | .commitDone ok => Sys2Proof.Machine.execCommitDone ok s
  | .wellPor => Sys2Proof.Machine.execWellPor s
  | .pwrGoodLoss => Sys2Proof.Machine.execPwrGoodLoss s
  | .sysRst => Sys2Proof.Machine.execSysRst s
  | .systemResetRelease => Sys2Proof.Machine.execSystemResetRelease s
  | .wellRstSystem key => Sys2Proof.Machine.execWellRstSystem key s
  | .wellRstDevice key => Sys2Proof.Machine.execWellRstDevice key s
  | .deviceResetRelease => Sys2Proof.Machine.execDeviceResetRelease s
  | .perstAssert => Sys2Proof.Machine.execPerstAssert s
  | .tapReset => Sys2Proof.Machine.execTapReset s
  | .thermtrip => Sys2Proof.Machine.execThermtrip s
  | .extest balls din => Sys2Proof.Machine.execExtest balls din s
  | .idcode => Sys2Proof.Machine.execIdcode s
  | .samplePreload balls din => Sys2Proof.Machine.execSamplePreload balls din s
  | .extestPulse balls din => Sys2Proof.Machine.execExtestPulse balls din s
  | .extestTrain balls din => Sys2Proof.Machine.execExtestTrain balls din s
  | .clamp => Sys2Proof.Machine.execClamp s
  | .highz => Sys2Proof.Machine.execHighz s
  | .bypass => Sys2Proof.Machine.execBypass s
  | .fyilFrame => Sys2Proof.Machine.execFyilFrame s
  | .frameHdrReceive l f => Sys2Proof.Machine.execFrameHdrReceive l f s
  | .copUnitStop d t => Sys2Proof.Machine.execCopUnitStop d t s
  | .perstRelease => Sys2Proof.Machine.execPerstRelease s

end Sys2Proof.Machine
end

