-- ==== Sys2Proof/Machine/Order.lean ====
section
/-! DEFINITION. Commands of one cycle (R17). No cycle passes while commands wait, so all that wait arrive in one cycle; a command that
arrives joins them where the tables of coincident events put it: R157, R175, R208, R243, R267, R293, R333, R352, R380, R396, R417, R437
and R448. A row whose outcome is the same in either order, or that one command decides by itself, is not listed. -/

namespace Sys2Proof.Machine

open Sys2Proof

/-- A kind of command that a table of coincident events names. -/
abbrev Kind := Instr → Bool

namespace Kind

/-! ### The Sluice, kernels and groups -/

def cancel : Kind := fun c => match c with | .cancelTask .. => true | .cancelFlow .. => true | _ => false
def gate : Kind := fun c => match c with | .gateTimeReady .. => true | .evtSignal .. => true | .taskPlace .. => true | _ => false
def dispatch : Kind := fun c => match c with | .taskDispatch .. => true | _ => false
def finish : Kind := fun c => match c with | .taskFinishReport .. => true | .engineJobFinish .. => true | _ => false
def halt : Kind := fun c => match c with | .halt .. => true | _ => false
def invalidate : Kind := fun c => match c with | .kernelInvalidate .. => true | _ => false
def fetch : Kind := fun c => match c with | .descriptorFetch .. => true | _ => false
def credit : Kind := fun c => match c with | .cqHeadDoorbell .. => true | .flowResume .. => true | _ => false
def offer : Kind := fun c => match c with | .engineJobOffer .. => true | _ => false
def abandon : Kind := fun c => match c with | .cgHaltLimit .. => true | .taskLimit .. => true | .drainStepCut => true | _ => false
def runCopy : Kind := fun c => match c with | .cgStartCopy .. => true | _ => false
def regWrite : Kind := fun c => match c with | .regWrite .. => true | _ => false

/-! ### Memory -/

def access : Kind := fun c => match c with | .memoryRead .. => true | .memoryWrite .. => true | _ => false
def memRead : Kind := fun c => match c with | .memoryRead .. => true | _ => false
def memWrite : Kind := fun c => match c with | .memoryWrite .. => true | _ => false
def writeBack : Kind := fun c => match c with | .eccWriteback .. => true | .scrubLine .. => true | _ => false
def drain : Kind := fun c => match c with | .mergeLineDrain .. => true | _ => false
def clear : Kind := fun c => match c with | .cbankClear .. => true | .cmemClear .. => true | _ => false
def retire : Kind := fun c => match c with | .granuleRetire .. => true | _ => false

/-! ### Lanes and links -/

def restart : Kind := fun c => match c with | .laneCfgWrite .. => true | .retrain .. => true | .qrefSelWrite .. => true | _ => false
def hello : Kind := fun c => match c with | .helloReceive .. => true | _ => false
def attemptEnd : Kind := fun c => match c with | .stepTimeout .. => true | .slipLimit .. => true | .lockLoss .. => true | _ => false
def loss : Kind := fun c => match c with | .lockLoss .. => true | _ => false
def bringUp : Kind := fun c => match c with
  | .laneAlign .. => true | .helloSend .. => true | .helloReceive .. => true | .departFrameReceive .. => true | .blockLock .. => true
  | .trainReceive .. => true | .cdrLock .. => true | .accept .. => true | .stepTimeout .. => true | .slipLimit .. => true | _ => false
def towardsUp : Kind := fun c => match c with | .blockLock .. => true | .trainReceive .. => true | .accept .. => true | _ => false
def header : Kind := fun c => match c with
  | .frameHdrReceive .. => true | .frameReceive .. => true | .ecpriReceive .. => true | _ => false
def departs : Kind := fun c => match c with
  | .departReceive .. => true | .departFrameReceive .. => true | .partnerTimeout .. => true | .helloReceive .. => true | .lockLoss .. => true
  | .laneCfgWrite .. => true | .qrefUnlock .. => true | _ => false
def readmit : Kind := fun c => match c with | .lstateReceive .. => true | _ => false
def winarm : Kind := fun c => match c with | .winarm .. => true | _ => false
def nak : Kind := fun c => match c with | .nakReceive .. => true | _ => false
def maskApply : Kind := fun c => match c with | .maskApply .. => true | _ => false

/-! ### Time -/

def due : Kind := fun c => match c with | .slotDue .. => true | _ => false
def slotWrite : Kind := fun c => match c with
  | .slotArm .. => true | .slotDisarm .. => true | .slotTimeCommit .. => true | _ => false
def timeStep : Kind := fun c => match c with | .ftbStep .. => true | _ => false
def adjust : Kind := fun c => match c with | .ftbAdjWrite .. => true | _ => false
def rate : Kind := fun c => match c with | .rateCommit .. => true | _ => false
def pop : Kind := fun c => match c with | .tsqPop .. => true | _ => false
def stamp : Kind := fun c => match c with | .txTimestamp .. => true | .ptpTxDone .. => true | _ => false
def ppsOut : Kind := fun c => match c with | .ppsOutEdge => true | _ => false
def wrap : Kind := fun c => match c with | .rawWrap => true | _ => false
def snap : Kind := fun c => match c with | .snap => true | _ => false

/-! ### Faults, power and the board monitor -/

def fault : Kind := fun c => match c with
  | .integrityFault .. => true | .weirInj .. => true | .sagAction .. => true | _ => false
def entry : Kind := fun c => match c with | .powerEntryComplete .. => true | .quadDomainEntry .. => true | _ => false
def entryOrWake : Kind := fun c => match c with
  | .powerEntryRequest .. => true | .powerDeferEnd .. => true | .powerEntryComplete .. => true | .wakeEvent .. => true | .pulseWake .. => true
  | .wakeComplete .. => true | _ => false
def wake : Kind := fun c => match c with | .wakeEvent .. => true | _ => false
def restored : Kind := fun c => match c with | .wakeComplete .. => true | _ => false
def levelWrite : Kind := fun c => match c with | .plevelWrite .. => true | _ => false
def pmbGo : Kind := fun c => match c with | .pmbTxnGo .. => true | _ => false
def trigger : Kind := fun c => match c with | .scanStart => true | .scanTimer => true | .gpioEdge .. => true | _ => false
def conversion : Kind := fun c => match c with | .conversionDone .. => true | _ => false
def queueRead : Kind := fun c => match c with | .bmonQueueRead => true | _ => false

/-! ### The host, the store and resets -/

def drainBegins : Kind := fun c => match c with | .modeReqDrain .. => true | .ejectAssert => true | _ => false
def doorbell : Kind := fun c => match c with
  | .ringDoorbell .. => true | .pumpDoorbell .. => true | .pumpChDb .. => true | .cqHeadDoorbell .. => true | _ => false
def fnReset : Kind := fun c => match c with | .functionLevelReset .. => true | .linkReset => true | _ => false
def resume : Kind := fun c => match c with | .pumpResume => true | .ringRestart => true | _ => false
def abort : Kind := fun c => match c with | .pumpAbort => true | _ => false
def status : Kind := fun c => match c with | .pumpDescComplete .. => true | .cplTimeout .. => true | _ => false
def busMaster : Kind := fun c => match c with | .configRequest _ (.busMaster _) => true | _ => false
def record : Kind := fun c => match c with | .completionRecordWrite .. => true | _ => false
def rearm : Kind := fun c => match c with | .irqRearm .. => true | _ => false
def report : Kind := fun c => match c with | .attReport => true | _ => false
def commit : Kind := fun c => match c with | .commit .. => true | .arm .. => true | _ => false
def stage : Kind := fun c => match c with | .rstoStageWrite .. => true | _ => false
def commitEnd : Kind := fun c => match c with | .commitDone .. => true | _ => false
def powerLoss : Kind := fun c => match c with | .pwrGoodLoss => true | _ => false
def anyKind : Kind := fun _ => true
def deviceKey : Kind := fun c => match c with | .wellRstDevice .. => true | _ => false

end Kind

/-- One row of a table: commands of the first kind act before those of the second. -/
abbrev OrderRow := Kind × Kind

/-- The rows of the tables that put one command before another. -/
def orderRows : List OrderRow := [
  -- R448
  (Kind.powerLoss, Kind.anyKind), (Kind.fault, Kind.deviceKey),
  -- R157, R154
  (Kind.cancel, Kind.gate), (Kind.cancel, Kind.dispatch), (Kind.cancel, Kind.finish), (Kind.halt, Kind.dispatch),
  (Kind.invalidate, Kind.dispatch), (Kind.fetch, Kind.credit), (Kind.departs, Kind.fetch),
  -- R267, R293, R306, R50, R72
  (Kind.offer, Kind.runCopy), (Kind.finish, Kind.abandon), (Kind.offer, Kind.finish), (Kind.runCopy, Kind.regWrite),
  -- R175
  (Kind.writeBack, Kind.memWrite), (Kind.drain, Kind.memRead), (Kind.access, Kind.retire), (Kind.clear, Kind.access),
  -- R208
  (Kind.fault, Kind.bringUp), (Kind.restart, Kind.bringUp), (Kind.hello, Kind.attemptEnd), (Kind.loss, Kind.towardsUp),
  -- R243
  (Kind.header, Kind.departs), (Kind.departs, Kind.readmit), (Kind.header, Kind.runCopy), (Kind.header, Kind.winarm),
  (Kind.nak, Kind.maskApply),
  -- R333
  (Kind.due, Kind.slotWrite), (Kind.runCopy, Kind.due), (Kind.timeStep, Kind.adjust), (Kind.rate, Kind.timeStep), (Kind.pop, Kind.stamp),
  (Kind.ppsOut, Kind.regWrite), (Kind.wrap, Kind.snap),
  -- R352, R380
  (Kind.runCopy, Kind.fault), (Kind.fault, Kind.entryOrWake), (Kind.entry, Kind.wake), (Kind.restored, Kind.access),
  -- R396
  (Kind.conversion, Kind.trigger), (Kind.queueRead, Kind.conversion), (Kind.conversion, Kind.regWrite), (Kind.levelWrite, Kind.pmbGo),
  -- R417
  (Kind.drainBegins, Kind.doorbell), (Kind.fnReset, Kind.doorbell), (Kind.resume, Kind.doorbell), (Kind.status, Kind.abort),
  (Kind.busMaster, Kind.record), (Kind.rearm, Kind.record), (Kind.rearm, Kind.status),
  -- R437
  (Kind.report, Kind.commit), (Kind.report, Kind.drainBegins), (Kind.stage, Kind.commitEnd)]

/-- A command acts before another of its cycle. -/
def before (c d : Instr) : Bool := orderRows.any (fun r => r.1 c && r.2 d)

/-- A command takes its place among those that wait: ahead of the first that it precedes. -/
def inOrder (c : Instr) : List Instr → List Instr
  | [] => [c]
  | d :: rest => if before c d then c :: d :: rest else d :: inOrder c rest

/-- A command arrives in the cycle of those that wait (R17). -/
def State.arrive (s : State) (c : Instr) : State := { s with pending := inOrder c s.pending }

end Sys2Proof.Machine
end

