-- ==== Sys2Proof/Machine/Step.lean ====
section
/-! DEFINITION. One step: the command at the front of the queue, or, on an empty queue, one cycle of CLK_TIME. -/

namespace Sys2Proof.Machine

open Sys2Proof

/-- What happens when no command waits: RAW and presented time advance by one cycle (R308, R309), and Q_WMARK sets while it is due.
While PWR_GOOD is low the block stands still (R438). -/
def State.idle (s : State) : State := if s.wide = some .power then s else s.cycle.bmonLevel

/-- One step of the block. -/
def step (s : State) : Host.Outcome State Fault Refusal :=
  match s.pending with
  | [] => .next s.idle
  | c :: rest => exec c { s with pending := rest }

/-- s with the command that a word of the opcode table spells at the front of its queue; no word spells one. -/
def State.withFetchWord (s : State) (nbits w : Nat) : State :=
  match decodeTableWord nbits w with
  | some c => { s with pending := c :: s.pending }
  | none => s

end Sys2Proof.Machine
end

