-- ==== Sys2Proof/Safety.lean ====
section
/-! DEFINITION. The terms in which claims are made: a command that completes, the canonical form of memory, and which parts of the
state a command can change. -/

namespace Sys2Proof.Machine

open Sys2Proof

/-- The command is carried out in s, and P holds of the state it leaves. -/
def Completes (c : Instr) (s : State) (P : State → Prop) : Prop := ∃ t, exec c s = .next t ∧ P t

/-- The on-chip memory is in its canonical form: addresses rise, and no listed byte is what an unlisted one reads as. -/
def Memory.wf (m : List Host.Cell) : Bool := tabWf zero8 m

/-- No byte of HBM has been written. -/
def noByte : Nat → Option W8 := fun _ => none

/-- Both memories are in their canonical form: the on-chip bytes, and the HBM bytes written. -/
def State.memWf (s : State) : Bool := Memory.wf s.mem.cells && tabWf noByte s.mem.hbm

/-- The parts of the state, one for each field. -/
inductive StatePart where
  | pending | kept | time | regs | latch | readData | out | free | power | quad | resetting | ejectHeld | wide |
  cgStop | cgFault | sagWarned | sluice | tiles | mem | pcie | pump | pumpBytes | fyil | memData | memPoison |
  memErr | lanes | links | sends | traceAt | ethSeq | ethLast | hraceAt | events | pairs | pairLo | slotLate | tsq |
  tsPend | lenReads | ptpTx | pmb | pulses | shpHist | drainRaw | rsto | stage | commit | khash | burn | boot |
  bootDormant | att | eng | gsm | bmon | thermtrip | tap
deriving DecidableEq, Repr

/-- A part of the state is as it was. -/
def Same : StatePart → State → State → Prop
  | .pending, s, t => t.pending = s.pending
  | .kept, s, t => t.kept = s.kept
  | .time, s, t => t.time = s.time
  | .regs, s, t => t.regs = s.regs
  | .latch, s, t => t.latch = s.latch
  | .readData, s, t => t.readData = s.readData
  | .out, s, t => t.out = s.out
  | .free, s, t => t.free = s.free
  | .power, s, t => t.power = s.power
  | .quad, s, t => t.quad = s.quad
  | .resetting, s, t => t.resetting = s.resetting
  | .ejectHeld, s, t => t.ejectHeld = s.ejectHeld
  | .wide, s, t => t.wide = s.wide
  | .cgStop, s, t => t.cgStop = s.cgStop
  | .cgFault, s, t => t.cgFault = s.cgFault
  | .sagWarned, s, t => t.sagWarned = s.sagWarned
  | .sluice, s, t => t.sluice = s.sluice
  | .tiles, s, t => t.tiles = s.tiles
  | .mem, s, t => t.mem = s.mem
  | .pcie, s, t => t.pcie = s.pcie
  | .pump, s, t => t.pump = s.pump
  | .pumpBytes, s, t => t.pumpBytes = s.pumpBytes
  | .fyil, s, t => t.fyil = s.fyil
  | .memData, s, t => t.memData = s.memData
  | .memPoison, s, t => t.memPoison = s.memPoison
  | .memErr, s, t => t.memErr = s.memErr
  | .lanes, s, t => t.lanes = s.lanes
  | .links, s, t => t.links = s.links
  | .sends, s, t => t.sends = s.sends
  | .traceAt, s, t => t.traceAt = s.traceAt
  | .ethSeq, s, t => t.ethSeq = s.ethSeq
  | .ethLast, s, t => t.ethLast = s.ethLast
  | .hraceAt, s, t => t.hraceAt = s.hraceAt
  | .events, s, t => t.events = s.events
  | .pairs, s, t => t.pairs = s.pairs
  | .pairLo, s, t => t.pairLo = s.pairLo
  | .slotLate, s, t => t.slotLate = s.slotLate
  | .tsq, s, t => t.tsq = s.tsq
  | .tsPend, s, t => t.tsPend = s.tsPend
  | .lenReads, s, t => t.lenReads = s.lenReads
  | .ptpTx, s, t => t.ptpTx = s.ptpTx
  | .pmb, s, t => t.pmb = s.pmb
  | .pulses, s, t => t.pulses = s.pulses
  | .shpHist, s, t => t.shpHist = s.shpHist
  | .drainRaw, s, t => t.drainRaw = s.drainRaw
  | .rsto, s, t => t.rsto = s.rsto
  | .stage, s, t => t.stage = s.stage
  | .commit, s, t => t.commit = s.commit
  | .khash, s, t => t.khash = s.khash
  | .burn, s, t => t.burn = s.burn
  | .boot, s, t => t.boot = s.boot
  | .bootDormant, s, t => t.bootDormant = s.bootDormant
  | .att, s, t => t.att = s.att
  | .eng, s, t => t.eng = s.eng
  | .gsm, s, t => t.gsm = s.gsm
  | .bmon, s, t => t.bmon = s.bmon
  | .thermtrip, s, t => t.thermtrip = s.thermtrip
  | .tap, s, t => t.tap = s.tap

/-- Every part. -/
def allParts : List StatePart :=
  [.pending, .kept, .time, .regs, .latch, .readData, .out, .free, .power, .quad, .resetting, .ejectHeld, .wide,
   .cgStop, .cgFault, .sagWarned, .sluice, .tiles, .mem, .pcie, .pump, .pumpBytes, .fyil, .memData, .memPoison,
   .memErr, .lanes, .links, .sends, .traceAt, .ethSeq, .ethLast, .hraceAt, .events, .pairs, .pairLo, .slotLate,
   .tsq, .tsPend, .lenReads, .ptpTx, .pmb, .pulses, .shpHist, .drainRaw, .rsto, .stage, .commit, .khash, .burn,
   .boot, .bootDormant, .att, .eng, .gsm, .bmon, .thermtrip, .tap]

/-- Every part but those listed. -/
def allBut (l : List StatePart) : List StatePart := allParts.filter (fun p => !l.contains p)

/-- What an event can change: registers (error and interrupt bits, the Weirs' words), what is sent, the pending bits of the interrupt
vectors, the Fyil queue (R44, R339, R406, R463). -/
def eventParts : List StatePart := [.regs, .out, .pcie, .fyil]

/-- What an event can change, and the parts listed. -/
def eventsAnd (l : List StatePart) : List StatePart := eventParts ++ l

/-- The parts of the state a command can change. -/
def partsOf : Instr → List StatePart
  | .adcStartupDone .. => [.bmon]
  | .lstateReceive .. => [.links]
  | .eccWriteback .. => [.mem]
  | .perstRelease .. => [.pcie]
  | .hscPoll .. => [.pmb]
  | .powerEntryRequest .. | .powerDeferEnd .. | .voteLingerExpiry .. => [.power]
  | .ringRestart .. | .flowResume .. | .histClr .. | .memLogClr .. | .syncWindowEnd .. | .slip .. | .signalDetect .. |
    .prbsCheckLock .. | .controlBlockUnknown .. | .snap .. | .alarmArm .. | .alarmFiredClear .. | .fenceRailOk .. |
    .powerEstUpdate .. | .pumpResume .. => [.regs]
  | .copOpStart .. | .copOpWriteback .. | .copUnitStop .. => [.tiles]
  | .systemResetRelease .. => [.wide]
  | .fyilFrame .. => [.out, .fyil]
  | .txSquelchEnd .. => [.out, .lanes]
  | .pmbTxnStart .. => [.out, .pmb]
  | .tapReset .. | .extest .. | .idcode .. | .samplePreload .. | .extestPulse .. | .extestTrain .. | .clamp .. |
    .highz .. | .bypass .. => [.out, .tap]
  | .thermtrip .. => [.out, .thermtrip]
  | .wakeEvent .. => [.power, .quad]
  | .quadDomainWake .. | .quadWakeRetry .. => [.quad, .pmb]
  | .doorbellRead .. => [.readData, .out]
  | .pushGo .. => [.regs, .boot]
  | .prbsCheckUnlock .. | .eyeSweepAbort .. => [.regs, .lanes]
  | .ackReceive .. => [.regs, .links]
  | .cmemClear .. | .scrubAbort .. | .rowRemapGo .. => [.regs, .mem]
  | .pmbTxnGo .. | .hscOff .. => [.regs, .pmb]
  | .pumpDescFetch .. => [.regs, .pump]
  | .unpopulatedAccess .. | .darkRead .. => [.regs, .readData]
  | .sagWarnRearm .. => [.regs, .sagWarned]
  | .slotArm .. | .slotDisarm .. => [.regs, .slotLate]
  | .kernelInvalidate .. | .evtSignal .. | .gateTimeReady .. | .deadlineExpired .. | .taskEnd .. => [.regs, .sluice]
  | .rstoStageWrite .. => [.regs, .stage]
  | .tsqPop .. => [.regs, .tsq]
  | .deviceResetRelease .. => [.regs, .wide]
  | .taskFinishReport .. => [.sluice, .tiles]
  | .ppsOutFall .. => [.time, .out]
  | .rateCommit .. | .ftbStep .. | .eecInputQualify .. => [.time, .regs]
  | .cancelDone .. => [.regs, .free, .sluice]
  | .quadDomainEntry .. | .plevelWrite .. => [.regs, .quad, .pmb]
  | .bmonQueueRead .. => [.regs, .readData, .bmon]
  | .prbsErrRead .. => [.regs, .readData, .lanes]
  | .frameDeliveredEvent .. => [.regs, .sluice, .events]
  | .ackSend .. => [.out, .free, .lanes, .links]
  | .modeReqConfig .. | .modeReqService .. | .ejectRelease .. | .ringDoorbell .. | .cqHeadDoorbell .. |
    .hbmTempHigh .. | .ppsInEdge .. | .ppsInMiss .. | .alarm .. | .pmbAlert .. | .configRequest .. | .pcieLinkUp .. |
    .irqRearm .. | .msixUnmask .. => eventParts
  | .slotTimeCommit .. => [.regs, .pairs, .pairLo, .slotLate]
  | .ppsOutEdge .. => [.time, .regs, .out, .pairs]
  | .rcRead .. | .latchedPairRead .. => [.regs, .latch, .readData, .lanes, .bmon]
  | .cgFlushDone .. => eventsAnd [.cgStop]
  | .commaSend .. | .nakReceive .. | .replayTimeout .. => [.regs, .out, .free, .lanes, .links]
  | .mergeLineDrain .. | .cbankClear .. | .scrubGo .. | .scrubFillGo .. | .granuleRetire .. | .remapDone .. =>
    eventsAnd [.mem]
  | .attDone .. => eventsAnd [.att]
  | .scanStart .. | .scanTimer .. | .injGo .. | .calGo .. | .calDone .. => eventsAnd [.bmon]
  | .fuseReadDone .. => eventsAnd [.boot]
  | .modeReqBoot .. => eventsAnd [.bootDormant]
  | .burnOwner .. | .revokeOwner .. | .advanceSvn .. | .revokeVendor .. | .vendorBootDis .. => eventsAnd [.burn]
  | .laneAlign .. | .cdrLock .. | .ethLockLoss .. | .eyeSweepGo .. | .eyePointDone .. | .injDrop .. | .injCorrupt .. |
    .injReorder .. | .injLaneDrop .. => eventsAnd [.lanes]
  | .functionLevelReset .. | .linkReset .. | .pumpDoorbell .. | .pumpChDb .. | .pumpAbort .. => eventsAnd [.pump]
  | .powerDeferLimit .. => eventsAnd [.power]
  | .kloadGo .. | .descriptorFetch .. | .taskPlace .. | .taskReplace .. | .completionRecordWrite .. | .cqCoalTimer ..
    | .cancelTask .. | .cancelFlow .. | .loadWindow .. => eventsAnd [.sluice]
  | .ftbAdjWrite .. => eventsAnd [.time]
  | .frameHdrReceive .. => eventsAnd [.mem, .links]
  | .burnDone .. => eventsAnd [.khash, .burn]
  | .ethPortAligned .. => eventsAnd [.lanes, .links]
  | .conversionDone .. | .gpioEdge .. => eventsAnd [.pulses, .bmon]
  | .commit .. | .arm .. | .disarm .. => eventsAnd [.rsto, .commit]
  | .cgHaltLimit .. | .taskLimit .. => eventsAnd [.sluice, .tiles]
  | .cgDispatchStopped .. => eventsAnd [.cgStop, .sluice, .tiles]
  | .laneStart .. | .helloSend .. | .blockLock .. | .trainReceive .. | .stepTimeout .. | .accept .. | .slipLimit .. |
    .lockLoss .. | .qrefLock .. | .maskApply .. => eventsAnd [.free, .lanes, .links]
  | .attReport .. | .attIdentity .. | .commitDone .. => eventsAnd [.rsto, .commit, .att]
  | .ptpTxDone .. | .txTimestamp .. => eventsAnd [.tsq, .tsPend, .ptpTx]
  | .bankOwnerWrite .. | .powerEntryComplete .. => eventsAnd [.power, .quad, .mem]
  | .pulseWake .. => eventsAnd [.power, .quad, .pulses]
  | .nop .. | .vecAdd .. | .vecSubtract .. | .vecNegate .. | .vecConjugate .. | .vecShift .. | .vecMin .. | .vecMax ..
    | .permute .. | .broadcast .. | .compare .. | .select .. | .cmac .. | .cmac2 .. | .cmacb .. | .cmacb2 .. | .aclr ..
    | .ascale .. | .ascaleT .. | .aadd .. | .amov .. | .amovVector .. | .ext .. | .extT .. | .vld .. | .vst .. |
    .vlds .. | .scalarLoad .. | .scalarStore .. | .scalarAlu .. | .scalarMultiply .. | .immediateMove .. | .pmov .. |
    .padd .. | .paddM .. | .bmov .. | .lmov .. | .branch .. | .call .. | .ret .. | .repeatLoop .. | .endTask .. |
    .movcRead .. | .movcWrite .. | .dmaqIn .. | .dmaqOut .. | .dmawait .. | .winarm .. | .mvM .. | .mvV .. | .mmul .. |
    .madd .. | .msub .. | .mherm .. | .mchol .. | .mtrs .. | .mqr .. | .minv .. | .mstat .. | .mwait .. |
    .taskDispatch .. => eventsAnd [.sluice, .tiles, .mem]
  | .rawWrap .. | .ptWrap .. | .slewDone .. => eventsAnd [.kept, .time, .sluice, .slotLate]
  | .fenceDone .. => eventsAnd [.free, .quad, .lanes, .links]
  | .softResetEnd .. => eventsAnd [.free, .resetting, .lanes, .links]
  | .scrubLine .. => eventsAnd [.latch, .power, .mem, .pairs, .pairLo]
  | .modeReqDrain .. | .modeDone .. => eventsAnd [.ejectHeld, .cgStop, .cgFault, .sluice, .drainRaw]
  | .helloReceive .. | .departFrameReceive .. | .laneCfgWrite .. | .retrain .. | .qrefSelWrite .. | .qrefUnlock .. |
    .linkCfgWrite .. | .departReceive .. | .partnerTimeout .. | .eecInputDisqualify .. => eventsAnd [.free, .sluice,
    .lanes, .links, .tsPend]
  | .slotDue .. => eventsAnd [.sluice, .sends, .pairs, .slotLate, .lenReads]
  | .kloadDone .. | .ptpReceive .. => eventsAnd [.latch, .power, .sluice, .mem, .pairs, .pairLo]
  | .cgStartCopy .. => eventsAnd [.cgStop, .cgFault, .sluice, .slotLate, .shpHist, .gsm]
  | .ejectAssert .. => eventsAnd [.ejectHeld, .cgStop, .cgFault, .sluice, .pmb, .drainRaw]
  | .eecLock .. | .eecRevert .. | .eecHoldoverExit .. | .eecDisable .. => eventsAnd [.time, .free, .sluice, .lanes,
    .links, .tsPend]
  | .fft .. | .ifft .. | .dft .. | .idft .. | .expand .. | .pack .. | .update .. | .ldpcDec .. | .ldpcEnc .. |
    .turboDec .. | .turboEnc .. | .polarDec .. | .polarEnc .. | .trellisDec .. | .convEnc .. | .prach .. => eventsAnd
    [.latch, .free, .power, .mem, .pairs, .pairLo, .eng]
  | .ptpTxGo .. => eventsAnd [.latch, .power, .mem, .pairs, .pairLo, .tsPend, .ptpTx]
  | .slotLenReadDone .. => eventsAnd [.latch, .power, .mem, .sends, .pairs, .pairLo, .lenReads]
  | .pumpDescComplete .. | .cplTimeout .. => eventsAnd [.latch, .power, .mem, .pump, .pumpBytes, .pairs, .pairLo]
  | .engineJobOffer .. => eventsAnd [.latch, .power, .sluice, .mem, .pairs, .pairLo, .eng]
  | .dmaEntryDone .. => eventsAnd [.latch, .power, .sluice, .tiles, .mem, .pairs, .pairLo]
  | .gsm .. => eventsAnd [.latch, .free, .power, .mem, .pairs, .pairLo, .eng, .gsm]
  | .filter .. => eventsAnd [.latch, .free, .power, .mem, .pairs, .pairLo, .shpHist, .eng]
  | .memoryRead .. | .memoryWrite .. => eventsAnd [.latch, .power, .mem, .memData, .memPoison, .memErr, .pairs,
    .pairLo]
  | .engineJobFinish .. => eventsAnd [.latch, .free, .power, .sluice, .mem, .pairs, .pairLo, .eng, .gsm]
  | .ecpriReceive .. => eventsAnd [.latch, .power, .sluice, .tiles, .mem, .ethLast, .hraceAt, .events, .pairs,
    .pairLo]
  | .frameReceive .. => eventsAnd [.latch, .free, .power, .tiles, .mem, .lanes, .links, .hraceAt, .events, .pairs,
    .pairLo]
  | .tailraceFrameSend .. => eventsAnd [.latch, .free, .power, .mem, .lanes, .links, .sends, .traceAt, .ethSeq,
    .pairs, .pairLo, .tsPend]
  | .pushWindowTimeout .. | .hbmStackTrained .. => eventsAnd [.latch, .power, .resetting, .cgStop, .cgFault, .sluice,
    .pump, .pumpBytes, .pairs, .pairLo, .boot, .att]
  | .imagesLoaded .. => eventsAnd [.latch, .power, .resetting, .cgStop, .cgFault, .sluice, .mem, .pump, .pumpBytes,
    .pairs, .pairLo, .boot, .att]
  | .voutPoll .. | .vregTimeout .. | .txnDone .. | .pmbTimeout .. | .manifestReadDone .. => eventsAnd [.latch, .power,
    .quad, .resetting, .cgStop, .cgFault, .sluice, .pump, .pumpBytes, .pairs, .pairLo, .pmb, .boot, .att]
  | .bootBegin .. => eventsAnd [.latch, .power, .resetting, .cgStop, .cgFault, .sluice, .pump, .pumpBytes, .pairs,
    .pairLo, .pmb, .boot, .bootDormant, .att]
  | .fenceRequestsDrained .. => eventsAnd [.latch, .free, .power, .resetting, .sluice, .tiles, .mem, .lanes, .links,
    .sends, .traceAt, .ethSeq, .ethLast, .hraceAt, .events, .pairs, .pairLo, .slotLate, .tsq, .tsPend, .lenReads,
    .ptpTx, .shpHist, .eng, .gsm]
  | .pllLock .. => eventsAnd [.latch, .free, .power, .quad, .resetting, .sluice, .tiles, .mem, .lanes, .links, .sends,
    .traceAt, .ethSeq, .ethLast, .hraceAt, .events, .pairs, .pairLo, .slotLate, .tsq, .tsPend, .lenReads, .ptpTx, .pmb,
    .shpHist, .eng, .gsm]
  | .wakeComplete .. => eventsAnd [.time, .latch, .free, .power, .quad, .sluice, .mem, .pump, .pumpBytes, .lanes,
    .links, .sends, .traceAt, .ethSeq, .ethLast, .hraceAt, .events, .pairs, .pairLo, .slotLate, .tsq, .tsPend,
    .lenReads, .ptpTx, .pmb, .shpHist, .gsm, .bmon]
  | .bootEnd .. => eventsAnd [.kept, .latch, .free, .power, .quad, .resetting, .ejectHeld, .cgStop, .cgFault, .sluice,
    .tiles, .mem, .lanes, .links, .sends, .traceAt, .ethSeq, .ethLast, .hraceAt, .events, .pairs, .pairLo, .slotLate,
    .tsq, .tsPend, .lenReads, .ptpTx, .pmb, .shpHist, .drainRaw, .boot, .eng, .gsm]
  | .drainStepEnd .. | .drainStepCut .. => eventsAnd [.latch, .free, .power, .quad, .resetting, .cgStop, .cgFault,
    .sluice, .tiles, .mem, .pump, .pumpBytes, .lanes, .links, .sends, .traceAt, .ethSeq, .ethLast, .hraceAt, .events,
    .pairs, .pairLo, .slotLate, .tsq, .tsPend, .lenReads, .ptpTx, .pmb, .shpHist, .rsto, .commit, .att, .eng, .gsm]
  | .perstAssert .. => allBut [.pending, .kept, .time, .readData, .free, .memData, .memPoison, .memErr, .pmb,
    .drainRaw, .rsto, .stage, .commit, .khash, .bmon, .thermtrip, .tap]
  | .integrityFault .. | .sagWarn .. | .sagAction .. | .weirInj .. => allBut [.pending, .kept, .time, .readData,
    .memData, .memPoison, .memErr, .pmb, .drainRaw, .rsto, .stage, .commit, .khash, .bmon, .thermtrip, .tap]
  | .sysRst .. | .wellRstSystem .. | .wellRstDevice .. => allBut [.pending, .kept, .readData, .free, .memData,
    .memPoison, .memErr, .drainRaw, .rsto, .khash, .thermtrip, .tap]
  | .regWrite .. | .darkWrite .. | .run .. | .halt .. | .softReset .. | .errInj .. | .wakeWrite .. => allBut
    [.pending, .kept, .readData, .memData, .memPoison, .memErr, .khash, .thermtrip, .tap]
  | .wellPor .. | .pwrGoodLoss .. => allBut [.pending, .rsto, .khash]

/-- Nothing but the listed parts differs. -/
def OnlyParts (ps : List StatePart) (s t : State) : Prop := ∀ p, p ∉ ps → Same p s t

/-- The registers an event can change: the error and interrupt words of a page, the words of the Weirs, the counts of dropped writes and
of dropped Fyil frames (R44, R45, R340 to R344, R404, R463). -/
def eventReg (k : Nat) : Bool :=
  decide (k < barSize) && (decide (k % 0x1000 = 0x010) || decide (k % 0x1000 = 0x018) || decide (k % 0x1000 = 0x02C)
    || (List.range 5).any (fun w => decide (k - k % 0x1000 = pgWEIR w)) || decide (k = pgPCIE + 0x050) || decide (k = pgFYIL + 0x044))

/-- Registers apart from those an event can change are as they were. -/
def EventRegs (s t : State) : Prop := ∀ k, eventReg k = false → t.reg k = s.reg k

/-- t differs from s in nothing but what an event can change. -/
def EventOnly (s t : State) : Prop := OnlyParts eventParts s t ∧ EventRegs s t

/-- A register command at addr reaches its page: no wide reset, the page populated and not dark (R37, R51, R443). -/
def State.reaches (s : State) (addr : Nat) : Bool :=
  s.wide.isNone && (match pageOf addr with | some p => !s.dark p | none => false)

/-! ## Terms for a tile -/

/-- The tile stands between bundles: a bundle of which slot X has issued ends with nothing in slot Y (R79). -/
def State.atBundle (s : State) (d t : Nat) : State := if (s.tile d t).snap.isSome then s.finishBundle d t .next else s

/-- The bundle at the pc lies in the task's kernel, its word is not uncorrectable, and no half of it raises ILLEGAL_INSN by its
encoding (R79, R99, R105 to R108). -/
def State.fetches (s : State) (d t : Nat) : Bool :=
  decide ((s.tile d t).kbase ≤ (s.tile d t).regs.pc) && decide ((s.tile d t).regs.pc < (s.tile d t).kbase + (s.tile d t).klen)
  && !(s.readChip (progAddr d t (8 * (s.tile d t).regs.pc))).2.2
  && !illegalBundle (s.copEn d) (s.readChip (progAddr d t (8 * (s.tile d t).regs.pc))).2.1

/-- The state once the word at the pc has been fetched. -/
def State.fetched (s : State) (d t : Nat) : State := (s.readChip (progAddr d t (8 * (s.tile d t).regs.pc))).1

/-- The tile takes an instruction of slot X: it runs, its slot Y does not stall, and the next bundle can be fetched. -/
def State.readyX (s : State) (d t : Nat) : Bool := (s.tile d t).running && !(s.tile d t).stallY && (s.atBundle d t).fetches d t

/-- The tile takes an instruction of slot Y: beside the slot X that has issued, or in a bundle it fetches. -/
def State.readyY (s : State) (d t : Nat) : Bool :=
  (s.tile d t).running && !(s.tile d t).stallX && ((s.tile d t).snap.isSome || s.fetches d t)

/-- The tile as a bundle begins: the registers and the queue as they are now are kept. -/
def Tile.begun (x : Tile) : Tile := { x with snap := some (x.regs, x.copQ), xDst := [] }

/-- The state in which an instruction of slot X acts, and the registers it reads there (R80). -/
def State.inX (s : State) (d t : Nat) : State := ((s.atBundle d t).fetched d t).setTile d t ((s.atBundle d t).tile d t).begun
def State.regsX (s : State) (d t : Nat) : TileRegs := ((s.atBundle d t).tile d t).regs

/-- The state in which an instruction of slot Y acts, and the registers it reads: those slot X read (R80). -/
def State.inY (s : State) (d t : Nat) : State :=
  if (s.tile d t).snap.isSome then s else (s.fetched d t).setTile d t (s.tile d t).begun
def State.regsY (s : State) (d t : Nat) : TileRegs := match (s.tile d t).snap with | some p => p.1 | none => (s.tile d t).regs

/-- Slot X and slot Y of the bundle name one destination register (R80). -/
def State.clashes (s : State) (d t : Nat) (dst : List RegId) : Bool :=
  (s.tile d t).snap.isSome && dst.any (fun r => (s.tile d t).xDst.contains r)

/-- The tile once its slot X has issued: registers r, the registers and the queue from before, and what was written. -/
def Tile.didX (x : Tile) (dst : List RegId) (r : TileRegs) : Tile :=
  { x with regs := r, snap := some (x.regs, x.copQ), xDst := dst, stallX := false }

/-- The tile once a bundle has ended with registers r before its control transfer c. -/
def Tile.didY (x : Tile) (r : TileRegs) (c : Ctl) : Tile :=
  { x with regs := r.endBundle c, snap := none, xDst := [], stallX := false, stallY := false }

/-- u is s but for tile t of cluster d, which is x. -/
def State.TileIs (s u : State) (d t : Nat) (x : Tile) : Prop :=
  u.tile d t = x ∧ (∀ e k, 8 * e + k ≠ 8 * d + t → u.tile e k = s.tile e k) ∧ OnlyParts [.tiles] s u

/-- An instruction of slot X that only computes: its command leaves registers r, dst written. -/
def IssuesX (c : Instr) (s : State) (d t : Nat) (dst : List RegId) (r : TileRegs) : Prop :=
  Completes c s (fun u => (s.inX d t).TileIs u d t (((s.atBundle d t).tile d t).didX dst r))

/-- A coprocessor instruction of slot X: it takes a tag as well (R113). -/
def IssuesCop (c : Instr) (s : State) (d t : Nat) (dst : List RegId) (r : TileRegs) : Prop :=
  Completes c s (fun u => (s.inX d t).TileIs u d t (((s.atBundle d t).tile d t).didX dst r).takeTag)

/-- An instruction of slot Y that only computes: its command leaves registers r and the control transfer k. -/
def IssuesY (c : Instr) (s : State) (d t : Nat) (r : TileRegs) (k : Ctl) : Prop :=
  Completes c s (fun u => (s.inY d t).TileIs u d t ((s.tile d t).didY r k))

/-- y is x where x is an int16 (R105). -/
def Within16 (x y : Int) : Prop := -32768 ≤ x → x ≤ 32767 → y = x

/-- r and q differ in accumulator a and ACC_SAT alone (and in the note of which of its bits this bundle set). -/
def TileRegs.OnlyAcc (r q : TileRegs) (a : Nat) : Prop :=
  (∀ b i, b ≠ a → i < 16 → q.getA b i = r.getA b i) ∧ q = { r with a := q.a, accSat := q.accSat, accNew := q.accNew }

/-- R83, R84: lane i of accumulator a takes or joins (re, im) by the suffix. A frozen lane stays unless the suffix is .Z; a result
outside the range limits, freezes the lane and sets its ACC_SAT. -/
def TileRegs.AccRule (r q : TileRegs) (a i sfx : Nat) (re im : Int) : Prop :=
  if sfx ≠ 1 ∧ (r.getA a i).frozen = true then
    q.getA a i = r.getA a i ∧ q.accSat.getLsbD (16 * a + i) = r.accSat.getLsbD (16 * a + i)
  else ∀ x y : Int, x = (if sfx = 1 then re else if sfx = 2 then (r.getA a i).re.toInt - re else (r.getA a i).re.toInt + re) →
    y = (if sfx = 1 then im else if sfx = 2 then (r.getA a i).im.toInt - im else (r.getA a i).im.toInt + im) →
    q.getA a i = ⟨BitVec.ofInt 40 (clampI accLo accHi x), BitVec.ofInt 40 (clampI accLo accHi y), !(inAcc x && inAcc y)⟩
    ∧ q.accSat.getLsbD (16 * a + i) = (r.accSat.getLsbD (16 * a + i) || !(inAcc x && inAcc y))

end Sys2Proof.Machine
end

