-- ==== Sys2Proof/Certificates/Slice0/Obligations.lean ====
section
/-! DEFINITION. The statements for the provers. Each clause of a statement is introduced by a comment that names the command it is about. -/

open Sys2Proof Sys2Proof.Machine

/-- For every command c, every list of commands behind it and every state, a step of the state whose queue is c and those commands is exec of c on the state whose queue is those commands alone. -/
def Obligations.StepRunsFront : Prop :=
  ∀ (c : Instr) (rest : List Instr) (s : State), step { s with pending := c :: rest } = exec c { s with pending := rest }

/-- On an empty queue a step advances RAW by 1,024 units of 2^-10 ns, counts a wrap of RAW in EPOCH and the cycles of the clusters' clocks, and, unless a STEP waits, changes nothing else but presented time, what an event can change and the status of the converter's queue; while PWR_GOOD is low it changes nothing. That an empty queue is a cycle is the model's choice, log entry 2. A command that arrives while others wait stands ahead of the first that it precedes by the tables of coincident events, and behind those before it; the rest of the state stays. Where a clause rests on a choice or an inference of the model and no rule, that is log entry 8. -/
def Obligations.IdleCycle : Prop :=
  -- R308
  (∀ s : State, s.pending = [] → s.wide ≠ some .power →
     ∃ t, step s = .next t ∧ t.kept.raw = s.kept.raw + 1024 ∧ t.kept.factorySeen = s.kept.factorySeen
       ∧ t.kept.epoch = (if 2 ^ 64 ≤ s.kept.raw.toNat + 1024 then s.kept.epoch + 1 else s.kept.epoch)
       ∧ OnlyParts (eventsAnd [.kept, .time, .sluice, .slotLate]) s t
       ∧ (s.time.stepPend = none → OnlyParts (eventsAnd [.kept, .time, .sluice]) s t ∧ ∃ v, t.sluice = { s.sluice with vane := v })) ∧
  -- R438
  (∀ s : State, s.pending = [] → s.wide = some .power → step s = .next s) ∧
  -- R17: a command that arrives in the cycle of those that wait
  (∀ (s : State) (c : Instr), ∃ a b : List Instr, s.pending = a ++ b ∧ s.arrive c = { s with pending := a ++ c :: b }
     ∧ (∀ d ∈ a, before c d = false) ∧ (∀ d, b.head? = some d → before c d = true))

/-- For every command with every operand and every state, exec answers a next state, in which every part of the state outside partsOf of that command is as it was; the queue of waiting commands is never among those parts. Where a clause rests on a choice or an inference of the model and no rule, that is log entry 9. -/
def Obligations.CommandsComplete : Prop :=
  ∀ (c : Instr) (s : State), Completes c s (fun t => OnlyParts (partsOf c) s t ∧ t.pending = s.pending)

/-- From every state in which the listed bytes of on-chip memory and of HBM stand in the canonical form, a step that answers a next state answers one in which they do. -/
def Obligations.MemWfStep : Prop :=
  ∀ s t : State, s.memWf = true → step s = .next t → t.memWf = true

/-- After WELL_POR no byte of on-chip memory and none of HBM is listed, no word is valid, and the canonical form holds; every register reads as its Reset column, the mode is BOOT with no transition, RAW, EPOCH and FACTORY_SEEN are 0, every carrier group is HALTED, every quadrant domain is off, no task exists, and no command waits. Where a clause rests on a choice or an inference of the model and no rule, that is log entries 3 and 161. -/
def Obligations.ResetState : Prop :=
  -- the invariant of the memories holds
  (State.reset.memWf = true ∧ State.reset.mem.cells = [] ∧ State.reset.mem.hbm = [] ∧ (∀ k, tabGet (fun _ => false) State.reset.mem.valid k = false)) ∧
  -- registers and blocks (R61, R308, R443)
  (State.reset.pending = [] ∧ (∀ k, State.reset.reg k = resetWord k) ∧ State.reset.mode = 1 ∧ State.reset.inTransition = false
   ∧ State.reset.kept = ⟨0, 0, false⟩ ∧ (∀ g < 64, State.reset.cgPhase g = 3) ∧ (∀ q < 4, State.reset.quadOn q = false) ∧ State.reset.tasks = [])

/-- No command but the loss of VDD_WELL, or of PWR_GOOD, which acts as one, clears FACTORY_SEEN; no reset of another type does. No command but BURN_DONE changes a fused key hash. -/
def Obligations.KeptMarks : Prop :=
  -- FACTORY_SEEN (R428, R443)
  (∀ (c : Instr) (s t : State), c ≠ .wellPor → c ≠ .pwrGoodLoss → exec c s = .next t → s.kept.factorySeen = true → t.kept.factorySeen = true) ∧
  -- fused hashes (R419, R420)
  (∀ (c : Instr) (s t : State), (∀ ok, c ≠ .burnDone ok) → exec c s = .next t → t.khash = s.khash)

/-- A cycle of CLK_TIME advances RAW by 1,024 modulo 2^64 and, in the cycle in which RAW wraps, EPOCH by 1; both are 0 when VDD_WELL comes up; a command that is neither the loss of VDD_WELL or PWR_GOOD nor one of the three that name a cycle of CLK_TIME leaves both as they were, whatever rate, slew, step, SOFT_RESET or reset it is. -/
def Obligations.RawKept : Prop :=
  -- a cycle of CLK_TIME (R308)
  (∀ s : State, s.cycle.kept.raw = s.kept.raw + 1024 ∧ (s.kept.raw.toNat + 1024 < 2 ^ 64 → s.cycle.kept.epoch = s.kept.epoch)
     ∧ (2 ^ 64 ≤ s.kept.raw.toNat + 1024 → s.cycle.kept.epoch = s.kept.epoch + 1)) ∧
  -- a named event of a cycle is that cycle, or nothing (R308)
  (∀ (c : Instr) (s : State), c = .rawWrap ∨ c = .ptWrap ∨ c = .slewDone → Completes c s (fun t =>
     (t.kept.raw = s.cycle.kept.raw ∧ t.kept.epoch = s.cycle.kept.epoch) ∨ (t.kept.raw = s.kept.raw ∧ t.kept.epoch = s.kept.epoch))) ∧
  -- VDD_WELL comes up (R308)
  (∀ s : State, Completes .wellPor s (fun t => t.kept.raw = 0 ∧ t.kept.epoch = 0) ∧ Completes .pwrGoodLoss s (fun t => t.kept.raw = 0 ∧ t.kept.epoch = 0)) ∧
  -- every other command (R308)
  (∀ (c : Instr) (s t : State), c ≠ .wellPor → c ≠ .pwrGoodLoss → c ≠ .rawWrap → c ≠ .ptWrap → c ≠ .slewDone → exec c s = .next t →
     t.kept.raw = s.kept.raw ∧ t.kept.epoch = s.kept.epoch)

/-- Raising error bit n of a populated page sets that bit of ERR_STAT and no other register but those of an event; setting interrupt bit n sets that bit of IRQ_STAT and leaves every other register but those the message of its vector can touch; what else changes is what is sent, the pending bits of the vectors and the Fyil queue. ERR_FIRST takes the bit and the time of the first error and keeps them. -/
def Obligations.EventLaw : Prop :=
  -- error bit (R44, R45)
  (∀ (s : State) (pg n : Nat) (cg : Option Nat), pg % 0x1000 = 0 → (pageOf pg).isSome = true → n < 32 →
     bit ((s.raise pg n cg).reg (pg + 0x010)) n = true ∧ EventOnly s (s.raise pg n cg)) ∧
  -- interrupt bit (R42, R406)
  (∀ (s : State) (pg n : Nat), pg % 0x1000 = 0 → (pageOf pg).isSome = true → n < 32 →
     bit ((s.irqBit pg n).reg (pg + 0x02C)) n = true ∧ EventOnly s (s.irqBit pg n)) ∧
  -- a second error leaves ERR_FIRST (R45)
  (∀ (s : State) (pg n : Nat) (cg : Option Nat), pg % 0x1000 = 0 → pg ≠ pgPCIE → s.fld (pg + 0x018) 31 31 = 1 →
     (s.raise pg n cg).reg (pg + 0x018) = s.reg (pg + 0x018))

/-- A full write of a register whose write has no action stores the writable fields when every field it would change is open, and is dropped as a whole, counted with LIVE_DROP, when one is closed; a write with only some byte enables set is counted as a bad access (with none set too, the model's choice, log 160); a bit of ERR_STAT that hardware sets in the cycle of a write stays set and keeps the capture; a write or a read of an unpopulated page is counted, and the read returns 0; a write of a dark page is discarded and counted. Where a clause rests on a choice or an inference of the model and no rule, that is log entries 10, 13, 160 and 175. -/
def Obligations.RegisterWrites : Prop :=
  -- REG_WRITE accepted (R47, R48, R9)
  (∀ (a : W24) (v : W32) (s : State) (p : Page) (d : RegDesc), regAt (wordAddr a) = some (p, d) → 0x040 ≤ wordAddr a % 0x1000 →
     p.blk ∈ [.gpio, .cmpl, .cg, .flow, .fyil, .fft, .nsc, .code, .abd, .hrace, .trace, .mill, .slp, .qctl] → s.reaches (wordAddr a) = true →
     (∀ f ∈ d.fields, bitsOf (s.reg (s.regKey (wordAddr a) d)) f.hi f.lo = bitsOf v f.hi f.lo
       ∨ s.scopeOpen p (wordAddr a % 0x1000) f (s.reg (s.regKey (wordAddr a) d)) v = true) →
     exec (.regWrite a v ⟨0xF, 0⟩) s = .next (s.setReg (s.regKey (wordAddr a) d) (d.newWord (s.reg (s.regKey (wordAddr a) d)) v))) ∧
  -- REG_WRITE dropped (R48)
  (∀ (a : W24) (v : W32) (s : State) (p : Page) (d : RegDesc), regAt (wordAddr a) = some (p, d) → 0x040 ≤ wordAddr a % 0x1000 →
     p.blk ∈ [.gpio, .cmpl, .cg, .flow, .fyil, .fft, .nsc, .code, .abd, .hrace, .trace, .mill, .slp, .qctl] → s.reaches (wordAddr a) = true →
     (∃ f ∈ d.fields, bitsOf (s.reg (s.regKey (wordAddr a) d)) f.hi f.lo ≠ bitsOf v f.hi f.lo
       ∧ s.scopeOpen p (wordAddr a % 0x1000) f (s.reg (s.regKey (wordAddr a) d)) v = false) →
     exec (.regWrite a v ⟨0xF, 0⟩) s = .next ((s.countAcc (s.accWeir p) 0x208 2 (wordAddr a)).raise (wordAddr a - wordAddr a % 0x1000 - p.seq * 0x1000) 30)) ∧
  -- REG_WRITE of some bytes (R38, R465)
  (∀ (a : W24) (v hw : W32) (be : W4) (s : State), be ≠ 0xF → s.wide = none →
     exec (.regWrite a v ⟨be, hw⟩) s = .next ((s.inc (pgDWEIR + 0x20C) 31 0 1).setReg (pgDWEIR + 0x210)
       (BitVec.ofNat 32 (2 ^ 31 + 3 * 2 ^ 26 + wordAddr a)))) ∧
  -- REG_WRITE of ERR_STAT in a cycle in which hardware sets bits of it (R10, R45)
  (∀ (a : W24) (v hw : W32) (s : State) (p : Page) (d : RegDesc), regAt (wordAddr a) = some (p, d) → wordAddr a % 0x1000 = 0x010 →
     p.seq = 0 → p.blk ≠ .pcie → s.reaches (wordAddr a) = true → Completes (.regWrite a v ⟨0xF, hw⟩) s (fun t =>
       t.reg (wordAddr a) = (s.reg (wordAddr a) &&& ~~~ v) ||| (hw &&& d.w1cMask)
       ∧ (s.fld (wordAddr a + 0x008) 31 31 = 1 → t.reg (wordAddr a) ≠ 0 → t.reg (wordAddr a + 0x008) = s.reg (wordAddr a + 0x008))
       ∧ (t.reg (wordAddr a) = 0 → t.fld (wordAddr a + 0x008) 31 31 = 0))) ∧
  -- UNPOPULATED_ACCESS (R37)
  (∀ (a : W24) (wr : Bool) (s : State), pageOf (wordAddr a) = none → s.wide = none →
     Completes (.unpopulatedAccess a wr) s (fun t =>
       t.reg (pgDWEIR + 0x20C) = BitVec.ofNat 32 (satAdd 32 (s.reg (pgDWEIR + 0x20C)).toNat 1)
       ∧ t.reg (pgDWEIR + 0x210) = BitVec.ofNat 32 (2 ^ 31 + 3 * 2 ^ 26 + wordAddr a)
       ∧ t.readData = (if wr then s.readData else 0)
       ∧ OnlyParts [.regs, .readData] s t ∧ (∀ k, k ≠ pgDWEIR + 0x20C → k ≠ pgDWEIR + 0x210 → t.reg k = s.reg k))) ∧
  -- DARK_WRITE (R51)
  (∀ (a : W24) (v : W32) (s : State) (p : Page), pageOf (wordAddr a) = some p → s.dark p = true → s.wide = none → wordAddr a ≠ pgPUMP + 0x05C →
     Completes (.darkWrite a v) s (fun t =>
       t.reg (pgWEIR (s.accWeir p) + 0x204) = BitVec.ofNat 32 (satAdd 32 (s.reg (pgWEIR (s.accWeir p) + 0x204)).toNat 1)
       ∧ t.reg (pgWEIR (s.accWeir p) + 0x210) = BitVec.ofNat 32 (2 ^ 31 + 1 * 2 ^ 26 + wordAddr a)
       ∧ OnlyParts [.regs] s t
       ∧ (∀ k, k ≠ pgWEIR (s.accWeir p) + 0x204 → k ≠ pgWEIR (s.accWeir p) + 0x210 → t.reg k = s.reg k)))

/-- A read of a dark page returns all ones, is counted and sets DARK_READ; a read with only some byte enables set returns those bytes (0 in the others, the model's choice, log 160) and acts as one with all; a read of a register with RC fields returns it as it was and leaves in those fields what hardware set in the same cycle; a read of the LO half of a latching pair returns it and latches HI. Where a clause rests on a choice or an inference of the model and no rule, that is log entries 15, 16 and 160. -/
def Obligations.RegisterReads : Prop :=
  -- DARK_READ (R51)
  (∀ (a : W24) (be : W4) (s : State) (p : Page), pageOf (wordAddr a) = some p → s.dark p = true → s.wide = none →
     Completes (.darkRead ⟨a, be⟩) s (fun t => t.readData = byteMask be
       ∧ t.reg (pgWEIR (s.accWeir p) + 0x200) = BitVec.ofNat 32 (satAdd 32 (s.reg (pgWEIR (s.accWeir p) + 0x200)).toNat 1)
       ∧ t.reg (pgWEIR (s.accWeir p) + 0x210) = BitVec.ofNat 32 (2 ^ 31 + wordAddr a)
       ∧ t.rowBit (pgWEIR (s.accWeir p) + 0x040) (if s.accWeir p < 4 then 56 else 32) = true
       ∧ OnlyParts [.regs, .readData] s t
       ∧ (∀ k, k ≠ pgWEIR (s.accWeir p) + 0x200 → k ≠ pgWEIR (s.accWeir p) + 0x210 → k ≠ pgWEIR (s.accWeir p) + 0x044 → t.reg k = s.reg k))) ∧
  -- RC_READ (R11)
  (∀ (a : W24) (be : W4) (hw : W32) (s : State) (p : Page) (d : RegDesc), regAt (wordAddr a) = some (p, d) → d.rcMask ≠ 0 →
     s.openBits p (wordAddr a) ≠ 0 →
     ¬ (p.blk = .bmon ∧ wordAddr a % 0x1000 = 0x054) → ¬ (p.blk = .lane ∧ wordAddr a % 0x1000 = 0x06C) →
     latchesHi p (wordAddr a % 0x1000) = false → s.reaches (wordAddr a) = true →
     exec (.rcRead a ⟨be, hw⟩) s = .next ({ s with readData := s.viewAt (wordAddr a) &&& byteMask be }.setReg (s.regKey (wordAddr a) d)
       ((s.reg (s.regKey (wordAddr a) d) &&& ~~~ d.rcMask) ||| (hw &&& d.rcMask)))) ∧
  -- LATCHED_PAIR_READ (R311, R341)
  (∀ (a : W24) (be : W4) (s : State) (p : Page) (d : RegDesc), regAt (wordAddr a) = some (p, d) → latchesHi p (wordAddr a % 0x1000) = true →
     s.reaches (wordAddr a) = true →
     Completes (.latchedPairRead ⟨a, be⟩) s (fun t => t.readData = s.viewAt (wordAddr a) &&& byteMask be
       ∧ tabGet (fun _ => none) t.latch (wordAddr a + 4) = some (({ s with latch := tabErase s.latch (wordAddr a + 4) } : State).viewAt (wordAddr a + 4))
       ∧ (∀ k, k ≠ wordAddr a + 4 → tabGet (fun _ => none) t.latch k = tabGet (fun _ => none) s.latch k)
       ∧ OnlyParts [.readData, .latch] s t))

/-- RUN takes a halted group to STARTING in SERVICE and FACTORY and is rejected with CTRL_REJECT and a bad access otherwise; HALT takes a running group to STOPPING; SOFT_RESET of an idle page sets RESETTING and returns its registers to their reset values, and its end clears RESETTING; an injected error bit is raised; WAKE is stored and acts as a level. Where a clause rests on a choice or an inference of the model and no rule, that is log entries 17, 19 and 162. -/
def Obligations.PageControls : Prop :=
  -- RUN (R43, R66)
  (∀ (g : Nat) (v : W32) (s : State), g < 64 → bit v 1 = false → s.reaches (pgCG g + 0x008) = true → s.runOpen g = true →
     exec (.run (BitVec.ofNat _ (0x040 + g)) v) s
       = .next ((s.put (pgCG g + 0x008) 3 3 (b2n (bit v 3))).put (pgCG g + 0x048) 2 0 4)) ∧
  -- RUN rejected (R43, R59, R465)
  (∀ (g : Nat) (v : W32) (s : State), g < 64 → bit v 1 = false → s.reaches (pgCG g + 0x008) = true → s.runOpen g = false →
     exec (.run (BitVec.ofNat _ (0x040 + g)) v) s
       = .next (((s.put (pgCG g + 0x008) 3 3 (b2n (bit v 3))).badAccess (pgCG g + 0x008)).raise (pgCG g) 31)) ∧
  -- HALT (R43, R66)
  (∀ (g : Nat) (v : W32) (s : State), g < 64 → bit v 0 = false → s.reaches (pgCG g + 0x008) = true → s.cgPhase g = 0 →
     exec (.halt (BitVec.ofNat _ (0x040 + g)) v) s
       = .next (State.settle { ((((s.put (pgCG g + 0x008) 3 3 (b2n (bit v 3))).put (pgCG g + 0x048) 2 0 1).put (pgCG g + 0x048) 9 8 0).put
           (pgCG g + 0x048) 10 10 0) with cgStop := tabErase s.cgStop g })) ∧
  -- SOFT_RESET (R43)
  (∀ (page : PageIx) (v : W32) (s : State) (p : Page), pageOf (pageAddr page) = some p → p.seq = 0 → p.blk.softReset = true →
     p.blk ∉ [.lane, .fyil, .clu, .ftb, .bmon, .pmb, .pump, .slc] → s.reaches (pageAddr page + 0x008) = true →
     tabGet (fun _ => false) s.resetting (pageAddr page) = false →
     (s.put (pageAddr page + 0x008) 3 3 (b2n (bit v 3))).pageActive p = false →
     Completes (.softReset page v) s (fun t => tabGet (fun _ => false) t.resetting (pageAddr page) = true
       ∧ (∀ k, pageAddr page ≤ k % barSize → k % barSize < pageAddr page + p.blk.pageCount * 0x1000 → softOff (k % 0x1000) = true →
           t.reg k = resetWord k)
       ∧ (∀ k, ¬ (pageAddr page ≤ k % barSize ∧ k % barSize < pageAddr page + p.blk.pageCount * 0x1000) → t.reg k = s.reg k))) ∧
  -- SOFT_RESET_END (R43)
  (∀ (page : PageIx) (s : State) (p : Page), pageOf (pageAddr page) = some p → p.blk ≠ .lane →
     tabGet (fun _ => false) s.resetting (pageAddr page) = true →
     exec (.softResetEnd page) s = .next { s with resetting := tabErase s.resetting (pageAddr page) }) ∧
  -- ERR_INJ (R358)
  (∀ (page : PageIx) (n : W5) (s : State) (p : Page), pageOf (pageAddr page) = some p → (p.reg 0x01C).isSome = true →
     s.reaches (pageAddr page + 0x01C) = true → s.factory = true → errClass p.blk n.toNat ≠ 3 →
     Completes (.errInj page n) s (fun t => bit (t.reg (pageAddr page + 0x010)) n.toNat = true
       ∧ EventRegs (s.setReg (pageAddr page + 0x01C) (t.reg (pageAddr page + 0x01C))) t ∧ OnlyParts eventParts s t)) ∧
  -- WAKE (R55): the mirror of a slot that is awake stores
  (∀ (k : SlotIx) (v : W32) (s : State), k.val < 12 → s.reaches (pgDPWR + 0x100 + 4 * k.val) = true →
     (s.put (slotCtrlKey k) 3 0 (bitsOf v 3 0)).wakesAct = false ∨ (s.put (slotCtrlKey k) 3 0 (bitsOf v 3 0)).wakeLevel k = false →
     exec (.wakeWrite k true v) s = .next (s.put (slotCtrlKey k) 3 0 (bitsOf v 3 0))) ∧
  -- WAKE (R55, R367): a block below IDLE begins its wake
  (∀ (k : SlotIx) (v : W32) (s : State), k.val < 8 → s.reaches (pgDPWR + 0x100 + 4 * k.val) = true → bit v 3 = true →
     s.wakesAct = true → (s.slot k).entry = .none → 2 ≤ (s.slot k).st → (s.slot k).waking = false →
     exec (.wakeWrite k true v) s
       = .next ((s.put (slotCtrlKey k) 3 0 (bitsOf v 3 0)).setSlot k { s.slot k with waking := true }))

/-- A request with its key and its preconditions starts its transition: BOOT from DORMANT, CONFIG from SERVICE with every group halted, SERVICE from CONFIG, DRAIN from CONFIG, SERVICE or FACTORY; one whose precondition does not hold or that meets a transition sets LAST_RESULT 2 with MODE_REJECT and a bad access; one with another key is a bad access only. Where a clause rests on a choice or an inference of the model and no rule, that is log entry 25. -/
def Obligations.ModeRequests : Prop :=
  -- MODE_REQ_BOOT (R61, R441)
  (∀ s : State, s.mode = 0 → s.inTransition = false →
     exec (.modeReqBoot 0x4D0D) s = .next { ((((s.put (pgDEV + 0x040) 2 0 1).put (pgDEV + 0x040) 6 4 1).put (pgDEV + 0x040) 7 7 0).put
       (pgDEV + 0x040) 11 8 1).irqBit pgDEV 0 with bootDormant := true }) ∧
  -- MODE_REQ_CONFIG (R58, R61)
  (∀ s : State, s.mode = 3 → s.inTransition = false → (∀ g < 64, s.cgPhase g = 3) →
     exec (.modeReqConfig 0x4D0D) s = .next ((s.put (pgDEV + 0x040) 6 4 2).put (pgDEV + 0x040) 7 7 1)) ∧
  -- MODE_REQ_SERVICE (R58, R61)
  (∀ s : State, s.mode = 2 → s.inTransition = false →
     exec (.modeReqService 0x4D0D) s = .next ((s.put (pgDEV + 0x040) 6 4 3).put (pgDEV + 0x040) 7 7 1)) ∧
  -- MODE_REQ_DRAIN (R61, R74): mode 4, DRAIN_CAUSE 1, step 1, no cut recorded, fetching stopped, every group halted
  (∀ s u : State, (s.mode = 2 ∨ s.mode = 3 ∨ s.mode = 5) → s.inTransition = false →
     u = ((((((s.put (pgDEV + 0x040) 2 0 4).put (pgDEV + 0x040) 6 4 0).put (pgDEV + 0x040) 7 7 1).put (pgDEV + 0x040) 17 16 1).put
       (pgDEV + 0x040) 15 12 1).setReg (pgDEV + 0x04C) 0).put (pgSLC + 0x040) 31 31 1 →
     exec (.modeReqDrain 0x4D0D) s = .next (((List.range 64).foldl (fun (t : State) g => t.haltGroup g 2)
       { u with drainRaw := s.kept.raw, ejectHeld := false }).irqBit pgDEV 1)) ∧
  -- a rejected request (R61, R62)
  (∀ s : State,
     ((s.mode ≠ 0 ∨ s.inTransition = true) → exec (.modeReqBoot 0x4D0D) s
       = .next (((s.put (pgDEV + 0x040) 11 8 2).irqBit pgDEV 2).badAccess (pgDEV + 0x044)))
     ∧ ((s.mode ≠ 3 ∨ s.inTransition = true ∨ ∃ g < 64, s.cgPhase g ≠ 3) → exec (.modeReqConfig 0x4D0D) s
       = .next (((s.put (pgDEV + 0x040) 11 8 2).irqBit pgDEV 2).badAccess (pgDEV + 0x044)))
     ∧ ((s.mode ≠ 2 ∨ s.inTransition = true) → exec (.modeReqService 0x4D0D) s
       = .next (((s.put (pgDEV + 0x040) 11 8 2).irqBit pgDEV 2).badAccess (pgDEV + 0x044)))
     ∧ (((s.mode ≠ 2 ∧ s.mode ≠ 3 ∧ s.mode ≠ 5) ∨ s.inTransition = true) → exec (.modeReqDrain 0x4D0D) s
       = .next (((s.put (pgDEV + 0x040) 11 8 2).irqBit pgDEV 2).badAccess (pgDEV + 0x044)))) ∧
  -- another key (R61)
  (∀ (key : W16) (s : State), key ≠ 0x4D0D →
     exec (.modeReqBoot key) s = .next (s.badAccess (pgDEV + 0x044)) ∧ exec (.modeReqConfig key) s = .next (s.badAccess (pgDEV + 0x044))
     ∧ exec (.modeReqService key) s = .next (s.badAccess (pgDEV + 0x044)) ∧ exec (.modeReqDrain key) s = .next (s.badAccess (pgDEV + 0x044)))

/-- A transition between CONFIG and SERVICE ends in the mode it was entering with LAST_RESULT 1; EJECT_L records its level, interrupts, and starts DRAIN with cause 2 when it is enabled; a DRAIN step that has done its work hands over to the next; a step cut at its latest time sets its CUT_SHORT bit, does what its row states and hands over; after step 7 DORMANT is entered. Where a clause rests on a choice or an inference of the model and no rule, that is log entries 26, 28 and 29. -/
def Obligations.ModeEvents : Prop :=
  -- MODE_DONE (R58)
  (∀ s : State, s.inTransition = true → (s.mode = 2 ∨ s.mode = 3) → s.ejectHeld = false →
     exec .modeDone s = .next { ((((s.put (pgDEV + 0x040) 2 0 (s.fld (pgDEV + 0x040) 6 4)).put (pgDEV + 0x040) 6 4 (s.fld (pgDEV + 0x040) 6 4)).put
       (pgDEV + 0x040) 7 7 0).put (pgDEV + 0x040) 11 8 1).irqBit pgDEV 0 with ejectHeld := false }) ∧
  -- EJECT_ASSERT (R62, R395), not enabled
  (∀ s : State, s.fld (pgGPIO + 0x048) 30 30 = 0 → (s.mode = 2 ∨ s.mode = 3 ∨ s.mode = 5) → s.inTransition = false →
     s.fld (pgDEV + 0x048) 0 0 = 0 → exec .ejectAssert s = .next ((s.put (pgGPIO + 0x048) 31 30 1).irqBit pgGPIO 16)) ∧
  -- EJECT_ASSERT (R62), enabled
  (∀ s : State, s.fld (pgGPIO + 0x048) 30 30 = 0 → (s.mode = 2 ∨ s.mode = 3 ∨ s.mode = 5) → s.inTransition = false →
     s.fld (pgDEV + 0x048) 0 0 = 1 →
     exec .ejectAssert s = .next (((s.put (pgGPIO + 0x048) 31 30 1).irqBit pgGPIO 16).startDrain 2)) ∧
  -- EJECT_RELEASE (R395)
  (∀ s : State, s.fld (pgGPIO + 0x048) 30 30 = 1 → exec .ejectRelease s = .next ((s.put (pgGPIO + 0x048) 31 30 2).irqBit pgGPIO 17)) ∧
  -- DRAIN_STEP_END (R74): steps 1, 3 and 5 hand over
  (∀ s : State, s.mode = 4 → s.stepDone = true → s.drainStep = 1 ∨ s.drainStep = 3 ∨ s.drainStep = 5 →
     exec .drainStepEnd s = .next (s.put (pgDEV + 0x040) 15 12 (s.drainStep + 1))) ∧
  -- DRAIN_STEP_END (R74): after step 2 the lanes depart, after step 4 the armed record is committed, after step 6 the quadrants go down
  (∀ s : State, s.mode = 4 → s.stepDone = true →
     (s.drainStep = 2 → exec .drainStepEnd s
       = .next ((s.put (pgDEV + 0x040) 15 12 3).lanesDepart (decide (s.fld (pgDEV + 0x048) 2 2 = 1))))
     ∧ (s.drainStep = 4 → exec .drainStepEnd s = .next (s.put (pgDEV + 0x040) 15 12 5).commitPending)
     ∧ (s.drainStep = 6 → exec .drainStepEnd s
       = .next ((List.range 4).foldl (fun (u : State) q => u.quadDown q) (s.put (pgDEV + 0x040) 15 12 7)))
     ∧ (s.drainStep = 7 → exec .drainStepEnd s = .next s.endDrain)) ∧
  -- DRAIN_STEP_CUT (R74): steps 1 and 3
  (∀ s : State, s.mode = 4 → s.drainStep = 1 ∨ s.drainStep = 3 →
     exec .drainStepCut s = .next ((s.put (pgDEV + 0x04C) (16 + s.drainStep) (16 + s.drainStep) 1).put (pgDEV + 0x040) 15 12 (s.drainStep + 1))) ∧
  -- DRAIN_STEP_CUT (R74): step 2 abandons what the stopping groups have in service
  (∀ s : State, s.mode = 4 → s.drainStep = 2 →
     exec .drainStepCut s = .next ((List.range 64).foldl (fun (t : State) g => if t.cgPhase g = 1 then t.haltLimit g else t)
       (s.put (pgDEV + 0x04C) 18 18 1)).nextStep) ∧
  -- DRAIN_STEP_CUT (R74, R416): step 4 abandons every transfer in progress and writes every record that is ready
  (∀ s : State, s.mode = 4 → s.drainStep = 4 →
     exec .drainStepCut s = .next (((List.range 16).foldl (fun (t : State) c => if (t.chList c).isEmpty then t else t.abandonChannel c)
       (s.put (pgDEV + 0x04C) 20 20 1)).writeAllReady).nextStep)

/-- When dispatch has stopped the group's timer starts; when the timer expires what the group has in service is abandoned with LIMIT_HIT and the group flushes; when it has no task left it is HALTED with its interrupt; a starting group whose blocks are awake takes its shadow contexts and policies, its quadrant mask and time stamp, and runs. Where a clause rests on a choice or an inference of the model and no rule, that is log entry 47. -/
def Obligations.GroupPhases : Prop :=
  -- CG_DISPATCH_STOPPED (R66)
  (∀ (g : Cg) (s : State), s.cgPhase g = 1 → s.fld (pgCG g + 0x044) 19 0 ≠ 0 →
     exec (.cgDispatchStopped g) s = .next (State.settle { s with cgStop := tabSet (fun _ => false) s.cgStop g true })) ∧
  -- CG_HALT_LIMIT (R66)
  (∀ (g : Cg) (s : State), s.cgPhase g = 1 → tabGet (fun _ => false) s.cgStop g = true →
     exec (.cgHaltLimit g) s = .next ((((s.abandonGroup g).put (pgCG g + 0x048) 10 10 1).raise (pgCG g) 0).put (pgCG g + 0x048) 2 0 2).settle) ∧
  -- CG_FLUSH_DONE (R66)
  (∀ (g : Cg) (s : State), s.cgPhase g = 2 → (∀ t ∈ s.tasks, t.cg ≠ g.val) →
     exec (.cgFlushDone g) s = .next (({ s.put (pgCG g + 0x048) 2 0 3 with cgStop := tabErase s.cgStop g } : State).irqBit (pgCG g) 0)) ∧
  -- CG_START_COPY (R49, R66, R351)
  (∀ (g : Cg) (s u v w : State), s.cgPhase g = 4 → s.copyReady g = true → tabGet (fun _ => false) s.cgFault g = false →
     u = (s.copyContexts g).copyPolicies g → v = u.setReg (pgCG g + 0x840) (u.reg (pgCG g + 0x040)) →
     w = (List.range 4).foldl (fun (t : State) q => if t.fenced q then t else t.setRowBit (pgDWEIR + 0x160 + 8 * q) g false) v →
     exec (.cgStartCopy g) s = .next ((w.setReg (pgCG g + 0x050) (BitVec.ofNat 32 w.rawNs32)).put (pgCG g + 0x048) 2 0 0).settle)

/-- The wrap of RAW counts EPOCH with its interrupt; the wrap of presented time counts PT_EPOCH; a new RATE takes effect without a jump of presented time, and one beyond the limit is a bad access; SNAP captures RAW, PT and both epochs; FTB_ADJ starts a slew whose remainder it adds to, without a jump, ends one it leaves nothing of, and is rejected beyond the limit, with no slew rate, and in the cycle of a STEP; the last cycle of a slew ends it; a STEP waits for the next cycle, which sets presented time and its epoch and discards a slew. Where a clause rests on a choice or an inference of the model and no rule, that is log entries 7 and 106. -/
def Obligations.TimeBase : Prop :=
  -- RAW_WRAP (R308)
  (∀ s : State, 2 ^ 64 ≤ s.kept.raw.toNat + 1024 →
     Completes .rawWrap s (fun t => t.kept.raw = s.kept.raw + 1024 ∧ t.kept.epoch = s.kept.epoch + 1
       ∧ t.kept.factorySeen = s.kept.factorySeen ∧ OnlyParts (eventsAnd [.kept, .time, .sluice, .slotLate]) s t)) ∧
  -- PT_WRAP (R309)
  (∀ s : State, s.time.stepPend = none → s.cycle.pt.toNat < s.pt.toNat →
     Completes .ptWrap s (fun t => t.time.ptEpoch = s.time.ptEpoch + 1 ∧ t.pt.toNat < s.pt.toNat
       ∧ t.kept.raw = s.kept.raw + 1024 ∧ OnlyParts (eventsAnd [.kept, .time, .sluice]) s t)) ∧
  -- RATE_COMMIT (R309, R310)
  (∀ (v : W32) (s : State) (new : BitVec 48), s.reaches (pgFTB + 0x05C) = true → new = (v.setWidth 16) ++ s.reg (pgFTB + 0x058) →
     new.toInt.natAbs ≤ 2 ^ 38 → new ≠ s.time.rate →
     Completes (.rateCommit v) s (fun t => t.time.rate = new ∧ t.pt = s.pt ∧ t.time.baseRaw = s.kept.raw ∧ t.time.basePt = s.pt
       ∧ t.time.ptEpoch = s.time.ptEpoch ∧ t.reg (pgFTB + 0x05C) = BitVec.ofNat 32 (bitsOf v 15 0)
       ∧ (∀ k, k ≠ pgFTB + 0x05C → t.reg k = s.reg k) ∧ OnlyParts [.regs, .time] s t)) ∧
  -- RATE_COMMIT beyond the limit (R310)
  (∀ (v : W32) (s : State), s.reaches (pgFTB + 0x05C) = true → 2 ^ 38 < ((v.setWidth 16) ++ s.reg (pgFTB + 0x058) : BitVec 48).toInt.natAbs →
     exec (.rateCommit v) s = .next (s.badAccess (pgFTB + 0x05C))) ∧
  -- SNAP (R311)
  (∀ s : State, s.reaches (pgFTB + 0x040) = true →
     exec .snap s = .next (((s.setReg64 (pgFTB + 0x044) s.kept.raw).setReg64 (pgFTB + 0x04C) s.pt).setReg (pgFTB + 0x054)
       (s.time.ptEpoch ++ s.kept.epoch))) ∧
  -- FTB_ADJ_WRITE (R312)
  (∀ (v : W32) (s : State), s.reaches (pgFTB + 0x064) = true → s.time.stepPend = none → (s.slewLeft + v.toInt).natAbs ≤ 2 ^ 30 →
     s.fld (pgFTB + 0x060) 18 0 ≠ 0 → s.slewLeft + v.toInt ≠ 0 →
     Completes (.ftbAdjWrite v) s (fun t => t.time.slewOn = true ∧ t.slewLeft = s.slewLeft + v.toInt ∧ t.pt = s.pt
       ∧ t.time.rate = s.time.rate ∧ OnlyParts [.time] s t)) ∧
  -- FTB_ADJ_WRITE that leaves nothing to apply (R312): a running slew ends
  (∀ (v : W32) (s : State), s.reaches (pgFTB + 0x064) = true → s.time.stepPend = none → s.fld (pgFTB + 0x060) 18 0 ≠ 0 →
     s.slewLeft + v.toInt = 0 → s.time.slewOn = true →
     Completes (.ftbAdjWrite v) s (fun t => t.time.slewOn = false ∧ t.pt = s.pt ∧ t.time.rate = s.time.rate
       ∧ bit (t.reg (pgFTB + 0x02C)) 0 = true ∧ OnlyParts (eventsAnd [.time]) s t)) ∧
  -- FTB_ADJ_WRITE rejected: beyond the limit, with no slew rate (R312), or beside a STEP of its cycle (R333)
  (∀ (v : W32) (s : State), s.reaches (pgFTB + 0x064) = true →
     2 ^ 30 < (s.slewLeft + v.toInt).natAbs ∨ s.fld (pgFTB + 0x060) 18 0 = 0 ∨ s.time.stepPend.isSome = true →
     exec (.ftbAdjWrite v) s = .next (s.raise pgFTB 0)) ∧
  -- SLEW_DONE (R312)
  (∀ s : State, s.slewEnds = true →
     Completes .slewDone s (fun t => t.time.slewOn = false ∧ t.time.slewRem = 0 ∧ t.time.rate = s.time.rate
       ∧ t.kept.raw = s.kept.raw + 1024 ∧ OnlyParts (eventsAnd [.kept, .time, .sluice]) s t)) ∧
  -- FTB_STEP (R313): the committed value and the epoch wait for the next cycle
  (∀ (epoch : W16) (s : State), s.reaches (pgFTB + 0x074) = true →
     exec (.ftbStep epoch) s = .next { s with time := { s.time with stepPend := some (s.pair (pgFTB + 0x06C), epoch) } }) ∧
  -- the next cycle makes the step (R313): presented time is the value written, and a slew is cancelled
  (∀ (s : State) (v : W64) (epoch : W16), s.time.stepPend = some (v, epoch) → s.cycle.pt = v ∧ s.cycle.time.ptEpoch = epoch
     ∧ s.cycle.time.slewOn = false ∧ s.cycle.time.stepPend = none ∧ s.cycle.time.rate = s.time.rate ∧ s.cycle.kept.raw = s.kept.raw + 1024
     ∧ s.cycle.fld (pgFTB + 0x078) 1 1 = 1 ∧ bit (s.cycle.reg (pgFTB + 0x02C)) 1 = true)

/-- An input whose lane has signal and whose offset is in the band qualifies; a disabled EEC in FREE_RUN goes no further, an enabled one acquires; losing an input that is not tracked clears its bit only, losing the tracked one after 10 s of lock enters HOLDOVER with its error; lock, revert and the exit from HOLDOVER enter LOCKED on their input with the interrupt; ENABLE written 0 returns it to FREE_RUN. Where a clause rests on a choice or an inference of the model and no rule, that is log entries 107 and 185. -/
def Obligations.Synce : Prop :=
  -- EEC_INPUT_QUALIFY (R316, R317), FREE_RUN and disabled
  (∀ (freq : W32) (s : State), s.hasSignal (s.fld (pgFTB1 + 0x040) 5 0) = true → freq.toInt.natAbs ≤ 5057753 → s.eec = 0 → s.eecEnable = false →
     exec (.eecInputQualify false freq) s = .next { s.put (pgFTB1 + 0x044) 3 3 1 with time := { s.time with freqPri := freq, qualAt := if s.fld (pgFTB1 + 0x044) 3 3 = 1 then s.time.qualAt else s.fullRaw } }) ∧
  -- EEC_INPUT_QUALIFY (R317), the secondary, while the primary is tracked
  (∀ (freq : W32) (s : State), s.hasSignal (s.fld (pgFTB1 + 0x040) 13 8) = true → freq.toInt.natAbs ≤ 5057753 → s.eec ≠ 0 → s.eecOnSec = false →
     exec (.eecInputQualify true freq) s = .next { s.put (pgFTB1 + 0x044) 4 4 1 with time := { s.time with freqSec := freq } }) ∧
  -- EEC_INPUT_QUALIFY (R317), FREE_RUN and enabled: ACQUIRING on the primary
  (∀ (freq : W32) (s u : State), s.hasSignal (s.fld (pgFTB1 + 0x040) 5 0) = true → freq.toInt.natAbs ≤ 5057753 → s.eec = 0 → s.eecEnable = true →
     u = { s.put (pgFTB1 + 0x044) 3 3 1 with time := { s.time with freqPri := freq, qualAt := if s.fld (pgFTB1 + 0x044) 3 3 = 1 then s.time.qualAt else s.fullRaw } } →
     exec (.eecInputQualify false freq) s = .next (((u.put (pgFTB1 + 0x044) 1 0 1).put (pgFTB1 + 0x044) 2 2 0).setReg (pgFTB1 + 0x048) freq)) ∧
  -- EEC_INPUT_DISQUALIFY (R317), of an input that is not tracked
  (∀ (sec : Bool) (s : State), s.eecOnSec = !sec →
     exec (.eecInputDisqualify sec) s = .next (if sec then s.put (pgFTB1 + 0x044) 4 4 0 else s.put (pgFTB1 + 0x044) 3 3 0)) ∧
  -- EEC_INPUT_DISQUALIFY (R317), of the tracked input after 10 s of lock
  (∀ (sec : Bool) (s : State), s.eecOnSec = sec → s.eec = 2 → 10000000000 ≤ s.nsSinceFull s.time.lockAt →
     exec (.eecInputDisqualify sec) s = .next (((if sec then s.put (pgFTB1 + 0x044) 4 4 0 else s.put (pgFTB1 + 0x044) 3 3 0).put
       (pgFTB1 + 0x044) 1 0 3).raise pgFTB 1)) ∧
  -- EEC_LOCK (R317)
  (∀ s u : State, s.eec = 1 → s.inputOk s.eecOnSec = true →
     u = (((s.put (pgFTB1 + 0x044) 1 0 2).put (pgFTB1 + 0x044) 2 2 (b2n s.eecOnSec)).setReg (pgFTB1 + 0x048)
       (if s.eecOnSec then s.time.freqSec else s.time.freqPri)).irqBit pgFTB 3 →
     exec .eecLock s = .next (({ u with time := { u.time with lockAt := s.fullRaw } } : State).qrefFollow true)) ∧
  -- EEC_REVERT (R317)
  (∀ s u : State, s.eec = 2 → s.eecOnSec = true → s.inputOk false = true → s.fld (pgFTB1 + 0x040) 28 28 = 1 →
     u = (((s.put (pgFTB1 + 0x044) 1 0 2).put (pgFTB1 + 0x044) 2 2 0).setReg (pgFTB1 + 0x048) s.time.freqPri).irqBit pgFTB 3 →
     exec .eecRevert s = .next (({ u with time := { u.time with lockAt := s.fullRaw } } : State).qrefFollow true)) ∧
  -- EEC_HOLDOVER_EXIT (R317): on the primary where it too has been qualified for 1 s
  (∀ (sec on : Bool) (s u : State), s.eec = 3 → s.inputOk sec = true →
     on = (sec && !(s.inputOk false && decide (1000000000 ≤ s.nsSinceFull s.time.qualAt))) →
     u = (((s.put (pgFTB1 + 0x044) 1 0 2).put (pgFTB1 + 0x044) 2 2 (b2n on)).setReg (pgFTB1 + 0x048)
       (if on then s.time.freqSec else s.time.freqPri)).irqBit pgFTB 3 →
     exec (.eecHoldoverExit sec) s = .next (({ u with time := { u.time with lockAt := s.fullRaw } } : State).qrefFollow true)) ∧
  -- EEC_DISABLE (R317)
  (∀ (s u : State) (same : Bool), s.reaches (pgFTB1 + 0x040) = true → s.eec ≠ 0 →
     same = decide (s.fld (pgFTB1 + 0x040) 13 8 = s.fld (pgFTB1 + 0x040) 5 0) →
     u = ((s.put (pgFTB1 + 0x040) 31 31 0).put (pgFTB1 + 0x044) 3 3 (s.fld (pgFTB1 + 0x044) 3 3)).put (pgFTB1 + 0x044) 4 4
       (if same then s.fld (pgFTB1 + 0x044) 3 3 else s.fld (pgFTB1 + 0x044) 4 4) →
     exec .eecDisable s = .next ((({ u with time := { u.time with freqSec := if same then s.time.freqPri else s.time.freqSec } } : State).put
       (pgFTB1 + 0x044) 1 0 0).qrefFollow false))

/-- A PTP frame of a port that is up is counted, stamped and written to the quadrant's ring behind its header, with its interrupt and, where configured, its event; any other frame is counted as dropped; a host frame is read and handed to the link, or refused with result 2 when its port is down; its end reports the frame's ID; a frame that leaves takes the next ID and its entry in the queue; a pop removes the oldest entry. Where a clause rests on a choice or an inference of the model and no rule, that is log entry 108. -/
def Obligations.PtpFrames : Prop :=
  -- PTP_RECEIVE (R319, R320)
  (∀ (l : Lane) (raw : Bytes) (s u : State) (e q : Nat) (hdr : Bytes), e = (s.linkOf l).1 → q = e / 16 → s.portUpAt e = true → s.isPtp e raw = true →
     u = s.inc (pgLANE e + 0x204) 31 0 1 → bit (u.reg (pgFQU1 q + 0x068)) 31 = true → bit (u.reg (pgFQU1 q + 0x068)) 30 = false →
     hdr = bytesLE 8 (u.pt - BitVec.ofNat 64 (u.fld (pgFQU1 q + 0x080 + 4 * (e % 16)) 15 0)).toNat ++ bytesLE 1 (e % 16)
       ++ bytesLE 1 (0 + 2 * b2n (decide (2048 < raw.length))) ++ bytesLE 2 raw.length ++ bytesLE 4 0 →
     exec (.ptpReceive l raw) s = .next (((u.ringWrite { quad := q } ((u.pair (pgFQU1 q + 0x060)).toNat - (u.pair (pgFQU1 q + 0x060)).toNat % 64)
         (2 ^ streamLog (bitsOf (u.reg (pgFQU1 q + 0x068)) 4 0)) (u.reg (pgFQU1 q + 0x06C)).toNat
         ((hdr ++ raw.take 2048) ++ padTo 64 (hdr ++ raw.take 2048).length)).setReg (pgFQU1 q + 0x06C)
           (BitVec.ofNat 32 ((u.reg (pgFQU1 q + 0x06C)).toNat + ((hdr ++ raw.take 2048) ++ padTo 64 (hdr ++ raw.take 2048).length).length))).irqBit
         (pgFQU q) 2)) ∧
  -- PTP_RECEIVE of another frame (R234)
  (∀ (l : Lane) (raw : Bytes) (s : State), s.portUpAt (s.linkOf l).1 = true → s.isPtp (s.linkOf l).1 raw = false →
     exec (.ptpReceive l raw) s = .next (s.inc (pgLANE (s.linkOf l).1 + 0x208) 31 0 1)) ∧
  -- PTP_TX_GO (R321)
  (∀ (q : Quad) (v : W32) (s u : State) (e : Nat) (r : State × List PByte × Bool), e = 16 * q.val + bitsOf v 19 16 →
     s.reaches (pgFQU1 q + 0x078) = true → s.fld (pgFQU1 q + 0x07C) 31 31 = 0 → s.isLink e = true → s.portUpAt e = true →
     r = s.devRead { quad := q } ((s.pair (pgFQU1 q + 0x070)).toNat - (s.pair (pgFQU1 q + 0x070)).toNat % 8) (bitsOf v 10 0) → r.2.2 = true →
     u = r.1.put (pgFQU1 q + 0x07C) 31 31 1 →
     exec (.ptpTxGo q v) s = .next (({ u with ptpTx := tabSet (fun _ => none) u.ptpTx q (some ⟨e, unmark r.2.1, false, none⟩) } : State).setTsWaiting q
       (({ u with ptpTx := tabSet (fun _ => none) u.ptpTx q (some ⟨e, unmark r.2.1, false, none⟩) } : State).tsWaiting q ++ [⟨1, e, 0, 0⟩]))) ∧
  -- PTP_TX_GO for a port that is down (R321)
  (∀ (q : Quad) (v : W32) (s : State), s.reaches (pgFQU1 q + 0x078) = true → s.fld (pgFQU1 q + 0x07C) 31 31 = 0 →
     s.portUpAt (16 * q.val + bitsOf v 19 16) = false →
     exec (.ptpTxGo q v) s = .next (((s.put (pgFQU1 q + 0x07C) 31 31 0).put (pgFQU1 q + 0x07C) 30 28 2).irqBit (pgFQU q) 3)) ∧
  -- PTP_TX_DONE (R321)
  (∀ (q : Quad) (s u : State) (j : PtpTx) (id : W16), tabGet (fun _ => none) s.ptpTx q.val = some j → j.err = false → j.id = some id →
     u = ({ s with ptpTx := tabErase s.ptpTx q.val } : State).setTsWaiting q ((s.tsWaiting q).filter (fun r => decide (r.src ≠ 1))) →
     exec (.ptpTxDone q) s = .next ((((u.put (pgFQU1 q + 0x07C) 15 0 id.toNat).put (pgFQU1 q + 0x07C) 31 31 0).put
       (pgFQU1 q + 0x07C) 30 28 1).irqBit (pgFQU q) 3)) ∧
  -- TX_TIMESTAMP (R328)
  (∀ (l : Lane) (s u : State) (q id : Nat) (r : TsReq), q = l.val / 16 → s.fquOn q = true →
     (s.tsWaiting q).find? (fun r => decide (r.link = (s.linkOf l).1)) = some r → r.src = 0 → (s.tsQueue q).length < 64 →
     id = s.fld (pgFQU1 q + 0x040) 15 0 → u = (s.setTsWaiting q ((s.tsWaiting q).erase r)).put (pgFQU1 q + 0x040) 15 0 (id + 1) →
     exec (.txTimestamp l) s = .next ((u.setTsQueue q (s.tsQueue q ++ [BitVec.ofNat 128 (id * 65536 + (r.link % 16) * 1024 + r.entry
       + r.seq.toNat * 2 ^ 48 + (s.pt + BitVec.ofNat 64 (s.fld (pgFQU1 q + 0x080 + 4 * (r.link % 16)) 31 16)).toNat * 2 ^ 64)])).irqBit (pgFQU q) 1)) ∧
  -- TSQ_POP (R329)
  (∀ (q : Quad) (s : State), s.reaches (pgFQU1 q + 0x058) = true →
     exec (.tsqPop q) s = .next (s.setTsQueue q (s.tsQueue q).tail))

/-- Arming sets ARMED and clears the skipped count, late at once when already due; disarming clears it; a committed TIME replaces the slot's; the lowest due slot records its delivery time, acts when its owner runs or is marked suppressed, and disarms when it has no period; a LEN word asks for its frames; PPS_OUT rises when presented time reaches PPS_NEXT, which moves on by whole periods, and falls; an edge of PPS_IN captures presented time less the delay, and a missing one raises an error; an armed alarm fires once, and clearing FIRED ends its wake. Where a clause rests on a choice or an inference of the model and no rule, that is log entry 109. -/
def Obligations.ActionSlots : Prop :=
  -- SLOT_ARM (R323)
  (∀ (q : Quad) (s u : State), s.reaches (pgFQU q + 0x064) = true →
     u = (s.put (slotKey 0x068 q (s.slotIdx q)) 31 31 1).put (slotKey 0x068 q (s.slotIdx q)) 15 0 0 →
     exec (.slotArm q) s = .next (u.setLate q (s.slotIdx q) (u.slotDue q (s.slotIdx q)))) ∧
  -- SLOT_DISARM (R333): also with ARM in the same write
  (∀ (q : Quad) (arm : Bool) (s : State), s.reaches (pgFQU q + 0x064) = true →
     exec (.slotDisarm q arm) s = .next ((s.put (slotKey 0x068 q (s.slotIdx q)) 31 31 0).setLate q (s.slotIdx q) false)) ∧
  -- SLOT_TIME_COMMIT (R311, R323)
  (∀ (q : Quad) (v : W32) (s u : State), s.reaches (pgFQU q + 0x04C) = true →
     u = ((s.setReg (slotKey 0x04C q (s.slotIdx q)) v).setPair (slotKey 0x048 q (s.slotIdx q)) (v ++ s.reg (slotKey 0x048 q (s.slotIdx q)))).setLoWritten
       (slotKey 0x048 q (s.slotIdx q)) false →
     exec (.slotTimeCommit q v) s = .next (u.setLate q (s.slotIdx q) (u.slotDue q (s.slotIdx q)))) ∧
  -- SLOT_DUE (R323, R325): an event of a slot without a period
  (∀ (q : Quad) (k : Nat) (s u : State), s.fquOn q = true → (List.range 128).find? (fun k => s.slotDue q k) = some k → s.isLate q k = false →
     s.cgRunning (bitsOf (s.slotA q k) 27 22) = true → bitsOf (s.slotA q k) 30 29 = 2 → s.slotPeriod q k = 0 →
     u = s.setReg64 (slotKey 0x06C q k) s.pt →
     exec (.slotDue q) s = .next ((u.evtAdd (bitsOf (u.slotA q k) 7 0) (bitsOf (u.reg (slotKey 0x058 q k)) 7 0)).settle.slotOff q k)) ∧
  -- SLOT_DUE (R323): the owner does not run
  (∀ (q : Quad) (k : Nat) (s : State), s.fquOn q = true → (List.range 128).find? (fun k => s.slotDue q k) = some k → s.isLate q k = false →
     s.cgRunning (bitsOf (s.slotA q k) 27 22) = false → s.slotPeriod q k = 0 →
     exec (.slotDue q) s = .next (((s.setReg64 (slotKey 0x06C q k) s.pt).put (slotKey 0x068 q k) 29 29 1).slotOff q k)) ∧
  -- SLOT_LEN_READ_DONE (R325)
  (∀ (q : Quad) (s : State) (x : LenRead) (rest : List LenRead) (w : State × List PByte × Bool) (n : Nat),
     tabGet (fun _ => []) s.lenReads q.val = x :: rest →
     w = ({ s with lenReads := tabSet (fun _ => []) s.lenReads q rest } : State).devRead { cg := some x.owner, quad := q } (x.addr.toNat - x.addr.toNat % 4) 4 →
     w.2.2 = true → anyPoison w.2.1 = false → 8 ≤ natLE (unmark w.2.1) → natLE (unmark w.2.1) ≤ 16384 →
     n = ((w.1.sendsOf q).map (fun r => r.span)).foldl max 0 + 1 →
     exec (.slotLenReadDone q) s = .next (w.1.setSends q (w.1.sendsOf q
       ++ ((List.range x.span).filter (fun i => decide (x.first + i < 1024))).map (fun i => ⟨x.first + i, natLE (unmark w.2.1), n⟩)))) ∧
  -- PPS_OUT_EDGE (R330)
  (∀ (s u : State) (next : W64) (p : Nat), next = s.pair (pgFTB1 + 0x050) → s.fld (pgFTB1 + 0x04C) 31 31 = 1 → 0 ≤ timeDiff s.pt next →
     p = max (s.reg (pgFTB1 + 0x058)).toNat 1000 * 1024 →
     u = s.movePair (pgFTB1 + 0x050) (next + BitVec.ofNat 64 (((timeDiff s.pt next).toNat / p + 1) * p)) →
     exec .ppsOutEdge s = .next { u with time := { u.time with ppsOut := true }, out := u.out ++ [.pps true] }) ∧
  -- PPS_OUT_FALL (R330)
  (∀ s : State, s.time.ppsOut = true →
     exec .ppsOutFall s = .next { s with time := { s.time with ppsOut := false }, out := s.out ++ [.pps false] }) ∧
  -- PPS_IN_EDGE (R331)
  (∀ s : State, s.fld (pgFTB1 + 0x04C) 30 30 = 1 →
     exec .ppsInEdge s = .next ((s.setReg64 (pgFTB1 + 0x05C) (s.pt - BitVec.ofInt 64 ((s.reg (pgFTB1 + 0x064)).setWidth 24).toInt)).irqBit pgFTB 4)) ∧
  -- PPS_IN_MISS (R331)
  (∀ s : State, s.fld (pgFTB1 + 0x04C) 30 30 = 1 → exec .ppsInMiss s = .next (s.raise pgFTB 3)) ∧
  -- ALARM_ARM (R332)
  (∀ (k : W2) (s : State), s.reaches (pgFTB1 + 0x088 + 16 * k.toNat) = true →
     exec (.alarmArm k) s = .next (s.put (pgFTB1 + 0x088 + 16 * k.toNat) 29 29 1)) ∧
  -- ALARM (R332)
  (∀ (k : W2) (s : State), s.fld (pgFTB1 + 0x088 + 16 * k.toNat) 29 29 = 1 → 0 ≤ timeDiff s.pt (s.pair (pgFTB1 + 0x080 + 16 * k.toNat)) →
     exec (.alarm k) s = .next (((s.put (pgFTB1 + 0x088 + 16 * k.toNat) 29 29 0).put (pgFTB1 + 0x088 + 16 * k.toNat) 30 30 1).irqBit pgFTB 5)) ∧
  -- ALARM_FIRED_CLEAR (R332)
  (∀ (k : W2) (s : State), s.reaches (pgFTB1 + 0x088 + 16 * k.toNat) = true →
     exec (.alarmFiredClear k) s = .next (s.put (pgFTB1 + 0x088 + 16 * k.toNat) 30 30 0))

/-- MEMORY_READ completes for a word of every on-chip memory and of HBM. A word that was not written answers zero; a clean word answers what its cells hold; a correctable one answers the corrected data, is reported and waits for its write-back; an uncorrectable one answers poisoned; one flipped bit of a clean word is corrected and two are detected; buffered bytes stand over stored ones; a tile's memory answers its task's group alone, a bank its owner, and an address not assigned nobody; a word of HBM answers its bytes, and one its stack reports uncorrected answers poisoned. Where a clause rests on a choice or an inference of the model and no rule, that is log entries 76, 77, 79, 81 and 167. -/
def Obligations.MemoryReads : Prop :=
  -- MEMORY_READ of a word not written (R167)
  (∀ (sp : MemSpace) (a : W64) (who : Requester) (up : Upset) (s : State) (k : Nat), spaceAddr sp (a.toNat - a.toNat % 8) = some k →
     s.spaceCheck sp who a.toNat = (s, true) → isHbm k = false → (memLoc k).prog = false → s.isValid k = false → up.vfix = false →
     (s.mergeLines (memLoc k).unit).find? (fun l => decide (l.addr = k - k % 64)) = none →
     exec (.memoryRead sp a who up) s = .next { s with memData := 0, memPoison := false, memErr := false }) ∧
  -- MEMORY_READ of a stored word (R166, R169): up brings no upset
  (∀ (sp : MemSpace) (a : W64) (who : Requester) (up : Upset) (s : State) (k : Nat), spaceAddr sp (a.toNat - a.toNat % 8) = some k →
     s.spaceCheck sp who a.toNat = (s, true) → isHbm k = false → s.isValid k = true ∨ (memLoc k).prog = true → up.vfix = false →
     up.chk = 0 → up.flip = 0 → (s.mergeLines (memLoc k).unit).find? (fun l => decide (l.addr = k - k % 64)) = none →
     (s.syndrome k = 0 → Completes (.memoryRead sp a who up) s (fun u => u.memData = s.rawWord k ∧ u.memPoison = false
         ∧ u.memErr = false ∧ u.regs = s.regs ∧ u.mem.cells = s.mem.cells))
     ∧ (eccClass (s.syndrome k) = .correctable → Completes (.memoryRead sp a who up) s (fun u => u.memData = s.correctedWord k
         ∧ u.memPoison = false ∧ u.memErr = false ∧ k ∈ u.mem.wb ∧ u.mem.cells = s.mem.cells))
     ∧ (eccClass (s.syndrome k) = .uncorrectable → Completes (.memoryRead sp a who up) s (fun u => u.memData = s.rawWord k
         ∧ u.memPoison = true ∧ u.memErr = false ∧ u.mem.cells = s.mem.cells))) ∧
  -- MEMORY_READ of a clean word of which one data bit flips: corrected; two: detected (R166)
  (∀ (sp : MemSpace) (a : W64) (who : Requester) (up : Upset) (s : State) (k n m : Nat), spaceAddr sp (a.toNat - a.toNat % 8) = some k →
     s.spaceCheck sp who a.toNat = (s, true) → isHbm k = false → s.isValid k = true → up.vfix = false → up.chk = 0 → n < 64 → m < 64 →
     s.syndrome k = 0 → s.rawWord k = s.storedWord k →
     (s.mergeLines (memLoc k).unit).find? (fun l => decide (l.addr = k - k % 64)) = none →
     (up.flip = BitVec.ofNat 64 (2 ^ n) → Completes (.memoryRead sp a who up) s (fun u => u.memData = s.storedWord k ∧ u.memPoison = false
         ∧ u.memErr = false ∧ k ∈ u.mem.wb))
     ∧ (n ≠ m → up.flip = BitVec.ofNat 64 (2 ^ n + 2 ^ m) → Completes (.memoryRead sp a who up) s (fun u => u.memPoison = true
         ∧ u.memErr = false))) ∧
  -- MEMORY_READ of a word not written, or wholly buffered, over a merge-buffer line (R173)
  (∀ (sp : MemSpace) (a : W64) (who : Requester) (up : Upset) (s : State) (k i : Nat) (l : MergeLine),
     spaceAddr sp (a.toNat - a.toNat % 8) = some k → s.spaceCheck sp who a.toNat = (s, true) → isHbm k = false → (memLoc k).prog = false →
     s.isValid k = false → up.vfix = false → (s.mergeLines (memLoc k).unit).find? (fun l => decide (l.addr = k - k % 64)) = some l →
     i = k % 64 / 8 → maskWord (l.poison &&& l.mask) i = 0 →
     exec (.memoryRead sp a who up) s
       = .next { s with
           memData := if maskWord l.mask i = 255 then lineWord l.data i else mergeBytes 0 (lineWord l.data i) (maskWord l.mask i),
           memPoison := false, memErr := false }) ∧
  -- MEMORY_READ that is refused: a device address that is not assigned (R162), a tile that runs no task of the requester's group (R22, R165)
  (∀ (a : W64) (who : Requester) (up : Upset) (s : State) (d : Clu) (t : Tix),
     (s.devMem a.toNat = none → exec (.memoryRead .device a who up) s = .next { s with memData := 0, memPoison := false, memErr := true })
     ∧ (s.tileServes d t who = false →
         exec (.memoryRead (.tileData d t) a who up) s = .next { s with memData := 0, memPoison := false, memErr := true })) ∧
  -- MEMORY_READ of a bank owned by another group (R165)
  (∀ (a : W64) (g : Cg) (up : Upset) (s : State) (q b off : Nat), s.devMem a.toNat = some (.cistern q b off) → s.fenced q = false →
     s.bankOwner q b < 0x40 → s.bankOwner q b ≠ g.val → s.granRetired q b (off / 0x10000) = false →
     exec (.memoryRead .device a (some g) up) s
       = .next { s.raise (pgCBANK q b) 6 with memData := 0, memPoison := false, memErr := true }) ∧
  -- MEMORY_READ of HBM (R187, R189, R190)
  (∀ (a : W64) (who : Requester) (up : Upset) (s : State) (k o : Nat), s.devMem a.toNat = some (.hbm o) → k = a.toNat - a.toNat % 8 →
     (s.slot (3 + (s.hbmMap o).1)).st < 2 → up.parity.val = 0 →
     (up.sev.val = 0 → s.hbmBad k = false → exec (.memoryRead .device a who up) s
       = .next { s with memData := s.hbmWord k ^^^ up.flip, memPoison := false, memErr := false })
     ∧ (up.sev.val = 2 → Completes (.memoryRead .device a who up) s (fun u => u.memPoison = true ∧ u.memErr = false
         ∧ u.memData = s.hbmWord k ∧ u.hbmBad k = true ∧ u.mem.hbm = s.mem.hbm)))

/-- A write of a whole line of an on-chip memory stores its 64 bytes, marks its words valid and clean and leaves every other byte; a write of one byte of a line stands in the merge buffer and leaves every stored byte; a whole unit of HBM takes its bytes and its marks go, and a partial write of a unit that reads uncorrectable is not performed; a write to a tile that runs no task of the requester's group is refused; a drain takes the line out of the buffer; the write-back of a corrected word leaves it clean. Where a clause rests on a choice or an inference of the model and no rule, that is log entries 77, 87 and 167. -/
def Obligations.MemoryWrites : Prop :=
  -- MEMORY_WRITE of a whole line (R171, R172)
  (∀ (sp : MemSpace) (a : W64) (data : W512) (who : Requester) (par ca : Parity) (rd : Fin3) (s : State) (k : Nat),
     spaceAddr sp (a.toNat - a.toNat % 64) = some k → s.spaceCheck sp who a.toNat = (s, true) → isHbm k = false → k % 64 = 0 →
     Completes (.memoryWrite sp a data (BitVec.allOnes 64) 0 who ⟨par, ca, rd⟩) s (fun u =>
       (∀ j, u.cell j = if k ≤ j ∧ j < k + 64 then (data >>> (8 * (j - k))).setWidth 8 else s.cell j)
       ∧ (∀ i < 8, u.isValid (k + 8 * i) = true ∧ u.syndrome (k + 8 * i) = 0)
       ∧ u.memErr = false ∧ u.regs = s.regs ∧ OnlyParts [.mem, .memData, .memPoison, .memErr] s u)) ∧
  -- MEMORY_WRITE of one byte into an empty buffer (R171)
  (∀ (sp : MemSpace) (a : W64) (data : W512) (who : Requester) (par ca : Parity) (rd : Fin3) (s : State) (k : Nat),
     spaceAddr sp (a.toNat - a.toNat % 64) = some k → s.spaceCheck sp who a.toNat = (s, true) → isHbm k = false → k % 64 = 0 →
     s.mergeLines (memLoc k).unit = [] →
     exec (.memoryWrite sp a data 1 0 who ⟨par, ca, rd⟩) s
       = .next { s.setMerge (memLoc k).unit [MergeLine.join ⟨k, 0, 0, 0⟩ 0 (lineWord data 0) 1 0] with
           memData := 0, memPoison := false, memErr := false }) ∧
  -- MEMORY_WRITE of a whole unit of HBM (R190, R415)
  (∀ (a : W64) (data : W512) (who : Requester) (ca : Parity) (rd : Fin3) (par : Parity) (s : State) (k o : Nat),
     s.devMem a.toNat = some (.hbm o) → k = a.toNat - a.toNat % 64 → (s.slot (3 + (s.hbmMap o).1)).st < 2 → par.val = 0 →
     Completes (.memoryWrite .device a data (BitVec.allOnes 64) 0 who ⟨par, ca, rd⟩) s (fun u => u.memErr = false ∧ u.regs = s.regs
       ∧ (∀ j, u.hbmByteAt j = if k ≤ j ∧ j < k + 64 then (data >>> (8 * (j - k))).setWidth 8 else s.hbmByteAt j)
       ∧ (∀ i < 8, u.hbmBad (k + 8 * i) = false))) ∧
  -- MEMORY_WRITE of part of a unit of HBM whose read is uncorrected (R189, R190): not performed
  (∀ (a : W64) (data : W512) (be : W64) (po : W8) (who : Requester) (par ca : Parity) (rd : Fin3) (s : State) (k o : Nat),
     s.devMem a.toNat = some (.hbm o) → k = a.toNat - a.toNat % 64 → (s.slot (3 + (s.hbmMap o).1)).st < 2 → par.val = 0 →
     be ≠ 0 → be ≠ BitVec.allOnes 64 → rd.val = 2 →
     Completes (.memoryWrite .device a data be po who ⟨par, ca, rd⟩) s (fun u => u.memErr = true ∧ u.mem.hbm = s.mem.hbm
       ∧ (∀ i < 8, u.hbmBad (k + 8 * i) = true))) ∧
  -- MEMORY_WRITE of a tile that runs no task of the requester's group (R22, R165)
  (∀ (d : Clu) (t : Tix) (a : W64) (data : W512) (be : W64) (po : W8) (who : Requester) (par ca : Parity) (rd : Fin3) (s : State),
     s.tileServes d t who = false → exec (.memoryWrite (.tileData d t) a data be po who ⟨par, ca, rd⟩) s
       = .next { s with memData := 0, memPoison := false, memErr := true }) ∧
  -- MERGE_LINE_DRAIN (R172)
  (∀ (sp : MemSpace) (a : W64) (ups : LineUpset) (s : State) (k : Nat) (l : MergeLine), spaceAddr sp (a.toNat - a.toNat % 64) = some k →
     isHbm k = false → (sp = .device → (s.devMem a.toNat).isSome = true) →
     (s.mergeLines (memLoc k).unit).find? (fun l => decide (l.addr = k)) = some l →
     exec (.mergeLineDrain sp a ups) s = .next ((List.range 8).foldl (fun (u : State) i => u.drainWord l i)
       ((s.upsetLine k ups (fun i => decide (maskWord l.mask i ≠ 0) && decide (maskWord l.mask i ≠ 255))).setMerge (memLoc k).unit
         (((s.upsetLine k ups (fun i => decide (maskWord l.mask i ≠ 0) && decide (maskWord l.mask i ≠ 255))).mergeLines (memLoc k).unit).filter
           (fun m => decide (m.addr ≠ l.addr)))))) ∧
  -- ECC_WRITEBACK (R169)
  (∀ (sp : MemSpace) (a : W64) (s : State) (k : Nat), spaceAddr sp (a.toNat - a.toNat % 8) = some k → s.mem.wb.contains k = true →
     exec (.eccWriteback sp a) s = .next { s with mem := { s.mem with
       ecc := tabErase s.mem.ecc k, flip := tabSet zero64 s.mem.flip k (tabGet zero64 s.mem.flip k ^^^ eccFix (s.syndrome k)),
       wb := s.mem.wb.filter (fun j => decide (j ≠ k)) } })

/-- CBANK_CLEAR and CMEM_CLEAR make every word of their bank or cluster not valid, leaving every other word, or are dropped while the owner group runs; GRANULE_RETIRE and BANK_OWNER_WRITE store when their scope is open, a retired bank being emptied and held at OFF; MEM_LOG_CLR empties the log and the captures; ROW_REMAP_GO starts its copy, and REMAP_DONE enters the row in the table, with the units that stand uncorrectable, and interrupts; HBM_TEMP_HIGH stores a temperature and above 85 degrees sets the doubled refresh with its error. Where a clause rests on a choice or an inference of the model and no rule, that is log entries 83, 84, 85 and 188. -/
def Obligations.MemoryUpkeep : Prop :=
  -- CBANK_CLEAR (R168)
  (∀ (q : Quad) (b : Bank) (s : State), s.reaches (pgCBANK q b + 0x040) = true → s.bankOpen q b = true →
     Completes (.cbankClear q b) s (fun t => OnlyParts [.mem] s t ∧ t.mem.cells = s.mem.cells ∧ ∀ k, t.isValid k
       = if cbankAddr q b ≤ k ∧ k < cbankAddr q b + 0x200000 then false else s.isValid k)) ∧
  -- CBANK_CLEAR dropped (R48, R168)
  (∀ (q : Quad) (b : Bank) (s : State), s.reaches (pgCBANK q b + 0x040) = true → s.bankOpen q b = false →
     exec (.cbankClear q b) s = .next (s.liveDrop (pgCBANK q b + 0x040))) ∧
  -- CMEM_CLEAR (R168)
  (∀ (d : Clu) (s : State), s.reaches (pgCMEM d + 0x040) = true →
     Completes (.cmemClear d) s (fun t => OnlyParts [.mem] s t ∧ t.mem.cells = s.mem.cells ∧ ∀ k, t.isValid k
       = if clusterBase + d.val * 0x200000 ≤ k ∧ k < clusterBase + d.val * 0x200000 + 0x200000 then false else s.isValid k)) ∧
  -- GRANULE_RETIRE (R182): granules retire, none returns
  (∀ (q : Quad) (b : Bank) (v : W32) (s : State) (key : Nat), key = pgCIST q + 0x050 + 4 * b.val → s.reaches key = true → s.bankOpen q b = true →
     v ≠ s.reg key → s.reg key &&& ~~~ v = 0 → exec (.granuleRetire q b v) s = .next (s.setReg key v)) ∧
  -- BANK_OWNER_WRITE (R164): no bank is retired before or after
  (∀ (q : Quad) (k : Fin3) (v : W32) (s : State) (key : Nat), key = pgCIST q + 0x040 + 4 * k.val → s.reaches key = true → s.quadHalted q = true →
     (∀ j < 4, bitsOf v (8 * j + 7) (8 * j) ≤ 0x40 ∧ bitsOf (s.reg key) (8 * j + 7) (8 * j) ≤ 0x40) → v ≠ s.reg key →
     exec (.bankOwnerWrite q k v) s = .next (s.setReg key v)) ∧
  -- BANK_OWNER_WRITE of a value R164 does not list
  (∀ (q : Quad) (k : Fin3) (v : W32) (s : State) (key j : Nat), key = pgCIST q + 0x040 + 4 * k.val → s.reaches key = true → j < 4 →
     0x40 < bitsOf v (8 * j + 7) (8 * j) → bitsOf v (8 * j + 7) (8 * j) ≠ 0x7F → exec (.bankOwnerWrite q k v) s = .next (s.badAccess key)) ∧
  -- BANK_OWNER_WRITE that retires bank 4k + j (R183, R371): its valid bits clear and it is held at OFF
  (∀ (q : Quad) (k : Fin3) (v : W32) (s : State) (key j b : Nat), key = pgCIST q + 0x040 + 4 * k.val → s.reaches key = true → s.quadHalted q = true →
     (∀ i < 4, bitsOf v (8 * i + 7) (8 * i) ≤ 0x40 ∨ bitsOf v (8 * i + 7) (8 * i) = 0x7F) → j < 4 → b = 4 * k.val + j →
     bitsOf v (8 * j + 7) (8 * j) = 0x7F → bitsOf (s.reg key) (8 * j + 7) (8 * j) ≠ 0x7F →
     Completes (.bankOwnerWrite q k v) s (fun t => t.reg key = v ∧ (t.slot (qSlot q (4 + b))).st = 4
       ∧ (t.slot (qSlot q (4 + b))).entry = .none ∧ (t.slot (qSlot q (4 + b))).waking = false
       ∧ ∀ a, cbankAddr q b ≤ a → a < cbankAddr q b + 0x200000 → t.isValid a = false)) ∧
  -- MEM_LOG_CLR (R176, R177)
  (∀ (m : MemCtl) (s : State) (pg : Nat), pg = memCtlPg m → s.reaches (pg + 0x154) = true →
     exec (.memLogClr m) s = .next (((((((List.range 32).foldl (fun (t : State) i =>
       ((t.setReg (entKey (pg + 0x144) i) 0).setReg (entKey (pg + 0x148) i) 0).setReg (entKey (pg + 0x14C) i) 0) s).setReg
         (pg + 0x150) 0).setReg (pg + 0x158) 0).setReg (pg + 0x15C) 0).setReg (pg + 0x160) 0))) ∧
  -- ROW_REMAP_GO (R185)
  (∀ (n : Stack) (s : State) (a : Nat) (m : Nat × Nat) (r : Remap), s.reaches (pgHBMC1 n + 0x048) = true → a = (s.reg64 (pgHBMC1 n + 0x040)).toNat →
     m = s.hbmMap (a - hbmBase) → s.fld (pgHBMC1 n + 0x04C) 31 31 = 0 → s.fld (pgHBMC1 n + 0x04C) 8 0 < 256 → hbmBase ≤ a →
     a < hbmBase + 2 * s.hbmUse → m.1 = n.val → s.remapOf (a - hbmBase) = none →
     r = ⟨true, (s.hbmRowOf m.2).1, (s.hbmRowOf m.2).2.1, (s.hbmRowOf m.2).2.2, 0xFFFF⟩ →
     exec (.rowRemapGo n) s = .next { s.put (pgHBMC1 n + 0x04C) 31 31 1 with
       mem := { s.mem with remapJob := tabSet (fun _ => none) s.mem.remapJob n (some r) } }) ∧
  -- REMAP_DONE (R185)
  (∀ (n : Stack) (bad mask : W16) (s u : State) (r : Remap) (i : Nat), tabGet (fun _ => none) s.mem.remapJob n.val = some r →
     i = s.fld (pgHBMC1 n + 0x04C) 8 0 → mask = (bad ||| s.knownBad n r) &&& r.poison →
     u = { s with mem := { s.mem with
       remap := tabSet remapDflt s.mem.remap (256 * n.val + i) { r with poison := mask }, remapJob := tabErase s.mem.remapJob n.val } } →
     exec (.remapDone n bad) s = .next ((((u.put (pgHBMC1 n + 0x04C) 31 31 0).put (pgHBMC1 n + 0x04C) 30 28 (if mask = 0 then 1 else 3)).put
       (pgHBMC1 n + 0x04C) 8 0 (i + 1)).irqBit (pgHBMC n) 1)) ∧
  -- HBM_TEMP_HIGH (R191)
  (∀ (n : Stack) (temp : W8) (s : State), exec (.hbmTempHigh n temp) s = .next (
     if temp.toNat ≤ 85 then (s.put (pgHBMC n + 0x044) 23 16 temp.toNat).put (pgHBMC n + 0x044) 27 27 0
     else if s.fld (pgHBMC n + 0x044) 27 27 = 0 then
       ((s.put (pgHBMC n + 0x044) 23 16 temp.toNat).put (pgHBMC n + 0x044) 27 27 1).raise (pgHBMC n) 7
     else s.put (pgHBMC n + 0x044) 23 16 temp.toNat))

/-- An accepted GO records MODE and RATE, clears the counters and addresses of the last run, sets BUSY and begins at its base; a GO that fails a check ends with result 2 and its error; ABORT is noted by a running engine, which ends with result 3 and its interrupt at its next line; a line that may not be read is counted as skipped; the last line ends the run with result 1. Where a clause rests on a choice or an inference of the model and no rule, that is log entries 82 and 163. -/
def Obligations.Scrubs : Prop :=
  -- SCRUB_GO and SCRUB_FILL_GO accepted (R178, R181); n is MODE
  (∀ (m : MemCtl) (v : W32) (n : Nat) (s u : State) (pg base len : Nat), pg = memCtlPg m → s.reaches (pg + 0x10C) = true →
     base = (s.reg64 (pg + 0x100)).toNat → len = (s.reg (pg + 0x108)).toNat → (s.scrub m).busy = false → len ≠ 0 → base % 64 = 0 →
     (s.scrubWindow m).1 ≤ base → base + 64 * len ≤ (s.scrubWindow m).1 + (s.scrubWindow m).2 → (n = 0 ∨ (n = 1 ∧ 28 ≤ m.val)) →
     u = [0x114, 0x118, 0x11C, 0x120, 0x124, 0x128, 0x12C].foldl (fun (t : State) o => t.setReg (pg + o) 0)
       ((s.put (pg + 0x10C) 9 8 n).put (pg + 0x10C) 7 4 (bitsOf v 7 4)) →
     exec (if n = 0 then .scrubGo m v else .scrubFillGo m v) s = .next (((u.put (pg + 0x110) 15 0 0).put (pg + 0x110) 31 31 1).setScrub m
       { busy := true, fill := decide (n = 1), abort := bit v 1, next := base, left := len })) ∧
  -- SCRUB_GO that fails a check (R178)
  (∀ (m : MemCtl) (v : W32) (n : Nat) (s : State) (pg base len : Nat), pg = memCtlPg m → s.reaches (pg + 0x10C) = true →
     base = (s.reg64 (pg + 0x100)).toNat → len = (s.reg (pg + 0x108)).toNat → n ≤ 1 → (s.scrub m).busy = false ∨ bit v 1 = false →
     ((s.scrub m).busy = true ∨ len = 0 ∨ base % 64 ≠ 0 ∨ base < (s.scrubWindow m).1 ∨ (s.scrubWindow m).1 + (s.scrubWindow m).2 < base + 64 * len
       ∨ (n = 1 ∧ m.val < 28)) →
     exec (if n = 0 then .scrubGo m v else .scrubFillGo m v) s
       = .next ((((s.put (pg + 0x10C) 9 8 n).put (pg + 0x10C) 7 4 (bitsOf v 7 4)).put (pg + 0x110) 30 28 2).raise pg 0)) ∧
  -- SCRUB_ABORT (R180)
  (∀ (m : MemCtl) (v : W32) (s : State) (pg : Nat), pg = memCtlPg m → s.reaches (pg + 0x10C) = true → (s.scrub m).busy = true →
     exec (.scrubAbort m v) s = .next (((s.put (pg + 0x10C) 9 8 (bitsOf (v ||| 2) 9 8)).put (pg + 0x10C) 7 4 (bitsOf (v ||| 2) 7 4)).setScrub m
       { s.scrub m with abort := true })) ∧
  -- SCRUB_LINE of an aborted run (R180)
  (∀ (m : MemCtl) (ups : LineUpset) (s : State), (s.scrub m).busy = true → (s.scrub m).abort = true →
     exec (.scrubLine m ups) s = .next ((((s.setScrub m {}).put (memCtlPg m + 0x110) 31 31 0).put (memCtlPg m + 0x110) 30 28 3).irqBit (memCtlPg m) 0)) ∧
  -- SCRUB_LINE of a line that is not read, with more to come (R179)
  (∀ (m : MemCtl) (ups : LineUpset) (s : State), m.val < 28 ∨ s.fld (pgHBMC 0 + 0x040) 9 8 = 0 → (s.scrub m).busy = true → (s.scrub m).abort = false → 1 < (s.scrub m).left →
     s.scrubReads (s.scrub m).next = false →
     exec (.scrubLine m ups) s = .next (((s.inc (memCtlPg m + 0x110) 15 0 1).inc (memCtlPg m + 0x114) 31 0 1).setScrub m
       { s.scrub m with next := (s.scrub m).next + 64, left := (s.scrub m).left - 1 })) ∧
  -- SCRUB_LINE that is read (R179, R180), the last and one before it
  (∀ (m : MemCtl) (ups : LineUpset) (s u : State), m.val < 28 ∨ s.fld (pgHBMC 0 + 0x040) 9 8 = 0 → (s.scrub m).busy = true → (s.scrub m).abort = false → 0 < (s.scrub m).left →
     s.scrubReads (s.scrub m).next = true → u = (s.scrubLine m (s.scrub m).next ups).inc (memCtlPg m + 0x114) 31 0 1 →
     ((s.scrub m).left = 1 → exec (.scrubLine m ups) s
       = .next ((((u.setScrub m {}).put (memCtlPg m + 0x110) 31 31 0).put (memCtlPg m + 0x110) 30 28 1).irqBit (memCtlPg m) 0))
     ∧ (1 < (s.scrub m).left → exec (.scrubLine m ups) s
       = .next (u.setScrub m { s.scrub m with next := (s.scrub m).next + 64, left := (s.scrub m).left - 1 })))

/-- An accepted load takes its source, span and entry and sets BUSY; one that fails a check ends with result 2 and its error; a load that has read clean words writes its bundles into every tile, enters the kernel and clears the bars of its id, with result 1 and its interrupt; one that met an error ends with result 3; VALID written 0 leaves the entry not valid. Where a clause rests on a choice or an inference of the model and no rule, that is log entry 75. -/
def Obligations.KernelLoads : Prop :=
  -- KLOAD_GO (R109, R110)
  (∀ (d : Clu) (kid : W8) (s : State) (pg dst len entry src : Nat), pg = pgCLU d → s.reaches (pg + 0x058) = true → dst = s.fld (pg + 0x054) 13 0 →
     len = s.fld (pg + 0x050) 14 0 → entry = s.fld (pg + 0x050) 29 16 → src = (s.reg64 (pg + 0x048)).toNat →
     s.fld (pg + 0x05C) 0 0 = 0 → s.kernelHeld d kid.toNat = false → s.spanTaken d dst len = false → dst + len ≤ 16384 → entry < len →
     exec (.kloadGo d kid) s = .next { s.setReg (pg + 0x05C) (BitVec.ofNat 32 (kid.toNat * 256 + 1)) with
       sluice := { s.sluice with kload := tabSet (fun _ => none) s.sluice.kload d (some ⟨kid.toNat, src - src % 8, dst, len, entry⟩) } }) ∧
  -- KLOAD_GO of a held kernel, of a span that is taken or does not fit, or of an entry outside it (R110)
  (∀ (d : Clu) (kid : W8) (s : State) (pg dst len : Nat), pg = pgCLU d → s.reaches (pg + 0x058) = true → s.fld (pg + 0x05C) 0 0 = 0 →
     dst = s.fld (pg + 0x054) 13 0 → len = s.fld (pg + 0x050) 14 0 →
     (s.kernelHeld d kid.toNat = true ∨ s.spanTaken d dst len = true ∨ 16384 < dst + len ∨ len ≤ s.fld (pg + 0x050) 29 16) →
     exec (.kloadGo d kid) s = .next (((s.put (pg + 0x05C) 2 1 2).put (pg + 0x05C) 15 8 kid.toNat).raise pg 9)) ∧
  -- KLOAD_DONE (R110)
  (∀ (d : Clu) (s u v : State) (j : KernelLoad) (r : State × List PByte × Bool) (pg : Nat), pg = pgCLU d →
     tabGet (fun _ => none) s.sluice.kload d.val = some j → r = s.devRead {} j.src (8 * j.len) → r.2.2 = true →
     (cleanWords r.2.1).length = j.len → u = r.1.writeBundles d j.dst (cleanWords r.2.1) →
     v = ({ u with sluice := { u.sluice with kload := tabErase u.sluice.kload d.val } } : State).setKernel d j.kid
       ⟨true, j.dst + j.entry, j.dst, j.len⟩ →
     exec (.kloadDone d) s = .next ((({ v with sluice := { v.sluice with
         barred := tabDrop v.sluice.barred (fun x => decide (x / 2048 = d.val) && decide (x % 256 = j.kid)) } } : State).put
       (pg + 0x05C) 2 1 1).put (pg + 0x05C) 0 0 0 |>.irqBit pg 0)) ∧
  -- KLOAD_DONE after an error response or a word that is not good (R110)
  (∀ (d : Clu) (s u : State) (j : KernelLoad) (r : State × List PByte × Bool) (pg : Nat), pg = pgCLU d →
     tabGet (fun _ => none) s.sluice.kload d.val = some j → r = s.devRead {} j.src (8 * j.len) →
     ¬ (r.2.2 = true ∧ (cleanWords r.2.1).length = j.len) →
     u = r.1.writeBundles d j.dst (cleanWords r.2.1) →
     exec (.kloadDone d) s = .next ((((({ u with sluice := { u.sluice with kload := tabErase u.sluice.kload d.val } } : State).put
       (pg + 0x05C) 2 1 3).put (pg + 0x05C) 0 0 0).raise pg 10).irqBit pg 0)) ∧
  -- KERNEL_INVALIDATE (R111)
  (∀ (d : Clu) (s : State) (k : Nat), s.reaches (pgCLU d + 0x064) = true → k = s.fld (pgCLU d + 0x060) 7 0 →
     exec (.kernelInvalidate d) s = .next (s.setKernel d k { s.kernel d k with valid := false }))

/-- For the ring whose turn it is: a descriptor that passes every check takes its marks, joins the task table behind the others, advances HEAD, takes a credit and counts in its ring's turn of four; an error response stops the ring with cause 2, a failed check with its cause, each with the error and the interrupt; without a table entry or a credit the ring waits with its status bits and its turn ends; RESTART clears STOPPED and CAUSE. Where a clause rests on a choice or an inference of the model and no rule, that is log entries 65, 74 and 172. -/
def Obligations.DescriptorFetches : Prop :=
  -- DESCRIPTOR_FETCH accepted (R134, R135)
  (∀ (r : Ring) (x : W512) (s u : State) (t : Task), s.ringServed r = true → s.ringTurn = some r.val →
     t = { ring := r, seq := s.newSeq r (s.ringHead r), desc := x } → s.fetchCause r t = 0 → s.tasks.length < 32768 → s.cqCredit t.cq = true →
     u = (((s.put (ringKey 0x054 r) 11 11 0).put (ringKey 0x054 r) 12 12 0).put (ringKey 0x054 r) 31 16 (s.ringHead r + 1)).put
       (cqKey 0x058 t.cq) 16 0 (s.cqOut t.cq + 1) →
     exec (.descriptorFetch r (.data x)) s = .next ((u.setTasks (u.tasks ++ [s.fetchMarks t])).setTurn r (if s.sluice.turn = r then s.sluice.took % 4 + 1 else 1)).settle) ∧
  -- DESCRIPTOR_FETCH without a table entry or a credit (R134, R135)
  (∀ (r : Ring) (x : W512) (s : State) (t : Task) (room credit : Bool), s.ringServed r = true → s.ringTurn = some r.val →
     t = { ring := r, seq := s.newSeq r (s.ringHead r), desc := x } → s.fetchCause r t = 0 →
     room = decide (s.tasks.length < 32768) → credit = s.cqCredit t.cq → (room && credit) = false →
     exec (.descriptorFetch r (.data x)) s
       = .next (((s.put (ringKey 0x054 r) 11 11 (b2n (!room))).put (ringKey 0x054 r) 12 12 (b2n (!credit))).setTurn r 4)) ∧
  -- DESCRIPTOR_FETCH that stops the ring (R136)
  (∀ (r : Ring) (resp : FetchResp) (s : State) (c : Nat), s.ringServed r = true → s.ringTurn = some r.val →
     (resp = .error ∧ c = 2
       ∨ ∃ x, resp = .data x ∧ c = s.fetchCause r { ring := r, seq := s.newSeq r (s.ringHead r), desc := x } ∧ c ≠ 0) →
     exec (.descriptorFetch r resp) s
       = .next ((((s.put (ringKey 0x054 r) 7 7 1).put (ringKey 0x054 r) 2 0 c).raise pgSLC 0).irqBit pgSLC 0)) ∧
  -- RING_RESTART (R136)
  (∀ (s : State) (r : Nat), s.reaches (pgSLC + 0x05C) = true → r = s.fld (pgSLC + 0x044) 7 0 →
     exec .ringRestart s = .next ((s.put (ringKey 0x054 r) 7 7 0).put (ringKey 0x054 r) 2 0 0))

/-- A task is the oldest of its ring and 16-bit count that the command can concern. An event adds to its count modulo 2^16 and opens the gates it satisfies; a time gate whose time has come sets READY; a deadline of mode 2 that has passed sets EXPIRED; a cancel of a waiting task marks it with result 1, of one in service changes nothing with result 2, of one unknown or ended with result 3; a flow cancel marks every waiting task of the flow and keeps their number; the end of a cancel shows both; writing 1 to a flow's bit leaves STOPPED. Where a clause rests on a choice or an inference of the model and no rule, that is log entries 67 and 68. -/
def Obligations.MarksAndGates : Prop :=
  -- EVT_SIGNAL (R140)
  (∀ (evt inc : W8) (s : State), s.reaches (pgSLC + 0x068) = true →
     exec (.evtSignal evt inc) s = .next (State.regate { s with
       sluice := { s.sluice with evt := tabSet (fun _ => 0) s.sluice.evt evt.toNat (s.evtCount evt.toNat + BitVec.ofNat 16 inc.toNat) } }).settle) ∧
  -- GATE_TIME_READY (R139)
  (∀ (r : Ring) (seq : W16) (s : State) (t : Task),
     s.named r seq (fun u => decide (u.place = .parked) && decide (u.gate = 1) && decide (0 ≤ timeDiff s.pt u.gateVal)) = some t →
     exec (.gateTimeReady r seq) s = .next (s.mapTask t.ring t.seq (fun u => { u with ready := true })).settle) ∧
  -- DEADLINE_EXPIRED (R148)
  (∀ (r : Ring) (seq : W16) (s : State) (t : Task),
     s.named r seq (fun u => u.queued && decide (u.dlMode = 2) && decide (0 < timeDiff s.pt u.deadline)) = some t →
     exec (.deadlineExpired r seq) s = .next (s.mapTask t.ring t.seq (fun u => { u with expired := true })).settle) ∧
  -- CANCEL_TASK (R156)
  (∀ (r : Ring) (seq : W16) (s u : State), s.reaches (pgSLC + 0x060) = true → s.fld (pgSLC + 0x064) 31 31 = 0 → u = s.put (pgSLC + 0x064) 31 31 1 →
     (∀ t, s.named r seq Task.queued = some t → exec (.cancelTask r seq) s = .next
         (({ u with sluice := { u.sluice with cancelJob := some (1, none) } } : State).mapTask t.ring t.seq (fun x => { x with cancel := true })).settle)
     ∧ (∀ t, s.named r seq Task.queued = none → s.named r seq (fun x => x.place.inService) = some t → exec (.cancelTask r seq) s
         = .next { u with sluice := { u.sluice with cancelJob := some (2, none) } })
     ∧ (s.named r seq Task.queued = none → s.named r seq (fun x => x.place.inService) = none → exec (.cancelTask r seq) s
         = .next { u with sluice := { u.sluice with cancelJob := some (3, none) } })) ∧
  -- CANCEL_TASK and CANCEL_FLOW while one is busy (R156)
  (∀ (r : Ring) (seq : W16) (f : Flow) (s : State), s.reaches (pgSLC + 0x060) = true → s.fld (pgSLC + 0x064) 31 31 = 1 →
     exec (.cancelTask r seq) s = .next (s.raise pgSLC 2) ∧ exec (.cancelFlow f) s = .next (s.raise pgSLC 2)) ∧
  -- CANCEL_FLOW (R156)
  (∀ (f : Flow) (s u : State) (w : Task → Bool), s.reaches (pgSLC + 0x060) = true → s.fld (pgSLC + 0x064) 31 31 = 0 →
     w = (fun t => decide (t.flow = f.val) && t.queued) → (∃ t ∈ s.tasks, w t = true) → u = s.put (pgSLC + 0x064) 31 31 1 →
     exec (.cancelFlow f) s = .next
       (({ u with sluice := { u.sluice with cancelJob := some (1, some (s.tasks.filter w).length) } } : State).mapTasks w
         (fun t => { t with cancel := true })).settle) ∧
  -- CANCEL_DONE (R156)
  (∀ (s : State) (res : Nat) (count : Option Nat), s.sluice.cancelJob = some (res, count) → (∀ n, count = some n → n < 4096) →
     Completes .cancelDone s (fun t => t.sluice = { s.sluice with cancelJob := none } ∧ OnlyParts [.regs, .sluice] s t
       ∧ t.fld (pgSLC + 0x064) 31 31 = 0 ∧ t.fld (pgSLC + 0x064) 2 0 = res % 8
       ∧ t.fld (pgSLC + 0x064) 27 16 = count.getD (s.fld (pgSLC + 0x064) 27 16) ∧ (∀ k, k ≠ pgSLC + 0x064 → t.reg k = s.reg k))) ∧
  -- FLOW_RESUME (R154)
  (∀ (k : W7) (v : W32) (s : State) (a : Nat), a = pgFLOW 0 + 0x240 + 4 * k.toNat → s.reaches a = true →
     exec (.flowResume k v) s = .next (s.setReg a (s.reg a &&& ~~~ v)))

/-- A ready flow head of a running group enters the Hopper of the cluster chosen, or its engine's queue, with its cluster's clock at its entry, where no older task waits for the same room, or ends POISONED with an error where no cluster has its kernel; a cluster's selected head starts on the tile chosen with the entry registers, or ends with its status when it is marked, or returns to be placed again when its kernel is gone; a reported task ends with the status of R152. Where a clause rests on a choice or an inference of the model and no rule, that is log entries 69, 71, 72, 174 and 187. -/
def Obligations.PlacementAndDispatch : Prop :=
  -- TASK_PLACE and TASK_REPLACE of a tile task (R142, R146)
  (∀ (re : Bool) (f : Flow) (s : State) (t : Task) (d : Nat), s.flowHead f = some t → t.place = .parked → t.ready = true → t.marked = false →
     t.haltFetch = false → s.cgRunning t.cg = true → t.engine = 0 → s.chooseCluster t = some d →
     s.outwaited t (.hopper d) = false →
     exec (if re then .taskReplace f else .taskPlace f) s = .next
       ((({ s with sluice := { s.sluice with stamp := s.sluice.stamp + 1 } } : State).mapTask t.ring t.seq
         (fun u => { u with place := .hopper d, stamp := s.sluice.stamp, enterCyc := s.vaneNow d })).notePeak d t.prio)) ∧
  -- TASK_PLACE and TASK_REPLACE without a cluster for the kernel (R143)
  (∀ (re : Bool) (f : Flow) (s : State) (t : Task), s.flowHead f = some t → t.place = .parked → t.ready = true → t.marked = false →
     t.haltFetch = false → s.cgRunning t.cg = true → t.engine = 0 → (∀ d < 24, s.inAffinity t d = true → s.runnable d t.kid = false) →
     exec (if re then .taskReplace f else .taskPlace f) s = .next ((s.endNow t 3 s.pt 0).raise pgSLC 1)) ∧
  -- TASK_PLACE and TASK_REPLACE of a job (R132, R143)
  (∀ (re : Bool) (f : Flow) (s : State) (t : Task) (q : Nat), s.flowHead f = some t → t.place = .parked → t.ready = true → t.marked = false →
     t.haltFetch = false → s.cgRunning t.cg = true → t.engine ≠ 0 → t.jobQuad = some q → s.fenced q = false → s.qlost q t.cg = false →
     (s.engQueue q (t.engine - 1) t.prio).length < 64 → s.outwaited t (.engQ q (t.engine - 1)) = false →
     exec (if re then .taskReplace f else .taskPlace f) s = .next
       (({ s with sluice := { s.sluice with stamp := s.sluice.stamp + 1 } } : State).mapTask t.ring t.seq
         (fun u => { u with place := .engQ q (t.engine - 1), stamp := s.sluice.stamp, enterCyc := 0 }))) ∧
  -- TASK_DISPATCH (R94, R95, R145)
  (∀ (d : Clu) (s : State) (t : Task) (k : Nat), s.cluReady d = true → s.selectHead d = some t → t.marked = false →
     ¬ (t.dlMode = 2 ∧ 0 < timeDiff s.pt t.deadline) → s.runnable d t.kid = true → s.chooseTile d t.kid = some k →
     Completes (.taskDispatch d) s (fun u => u.tile d k = {
         phase := .running, ring := t.ring, seq := t.seq, cg := t.cg, kid := t.kid, kbase := (s.kernel d t.kid).base, klen := (s.kernel d t.kid).len, limitKc := s.fld (pgCLU d + 0x044) 23 0, startCyc := s.vaneNow d,
         regs := s.entryRegs d t (s.kernel d t.kid).entry }
       ∧ u.tasks = s.tasks.map (fun x => if Task.is t.ring t.seq x then { x with place := .tile d k } else x)
       ∧ (∀ d' k', 8 * d' + k' ≠ 8 * d.val + k → u.tile d' k' = s.tile d' k') ∧ OnlyParts (eventsAnd [.sluice, .tiles, .mem]) s u)) ∧
  -- TASK_DISPATCH of a marked head (R145, R150)
  (∀ (d : Clu) (s : State) (t t' : Task), s.cluReady d = true → s.selectHead d = some t →
     t' = (if t.dlMode = 2 ∧ 0 < timeDiff s.pt t.deadline then { t with expired := true } else t) → t'.marked = true →
     exec (.taskDispatch d) s = .next (s.endNow t (s.waitStatus t') s.pt 0)) ∧
  -- TASK_DISPATCH without the kernel (R146)
  (∀ (d : Clu) (s : State) (t : Task), s.cluReady d = true → s.selectHead d = some t → t.marked = false →
     ¬ (t.dlMode = 2 ∧ 0 < timeDiff s.pt t.deadline) → s.runnable d t.kid = false →
     exec (.taskDispatch d) s = .next ((s.mapTask t.ring t.seq (fun u => { u with place := .parked })).raise (pgCLU d) 16)) ∧
  -- TASK_END (R138, R152)
  (∀ (r : Ring) (seq : W16) (s : State) (t : Task), s.named r seq (fun u => decide (u.place = .reported)) = some t →
     exec (.taskEnd r seq) s = .next (s.endNow t t.serviceStatus t.finish t.loc)) ∧
  -- the status of a dispatched task (R152)
  (∀ t : Task, t.serviceStatus = if t.lost then 7 else if t.poisoned then 3 else if t.abandoned then 2 else if t.partnerLost then 6
     else if t.dlMode ≠ 0 ∧ 0 < timeDiff t.finish t.deadline then 4 else 0)

/-- A ready record is written to its queue's slot with its phase, its task leaves the table, TAIL advances and the record counts towards the interrupt, which fires at COUNT; the coalescing timer fires the vector; a ring doorbell stores TAIL, stops an overfull ring, and in DRAIN is only counted and reported; a head doorbell returns credits or is discarded; a doorbell of another owner is discarded; the histogram is cleared; a load window records every tile. Where a clause rests on a choice or an inference of the model and no rule, that is log entries 21, 73 and 187. -/
def Obligations.Records : Prop :=
  -- COMPLETION_RECORD_WRITE (R158, R159, R160): the host write issues, the Fyil port takes no records
  (∀ (e : Bool) (s u v : State) (c n thr : Nat) (t : Task) (bytes : Bytes), s.sluice.readyQ.find? (fun c => decide (c % 2 = b2n e)) = some c →
     s.cqFirst c = some t → t.place = .ended → s.slotState 6 < 2 → s.canWrite (s.cqOwner c) = true → s.fyilOn 0 = false →
     thr = s.fld (cqKey 0x050 c) 7 0 → n = tabGet (fun _ => 0) s.sluice.unreported c + 1 →
     bytes = bytesLE 4 t.tag ++ bytesLE 4 (t.loc.toNat * 65536 + ((s.cqTail c / s.cqSize c + 1) % 2) * 32768 + t.status * 4096 + t.flow)
       ++ bytesLE 8 t.finish.toNat →
     u = ((s.emit (.hostWrite (s.cqOwner c) ((s.reg64 (cqKey 0x044 c)).toNat - (s.reg64 (cqKey 0x044 c)).toNat % 16
       + 16 * (s.cqTail c % s.cqSize c)) bytes false)).setTasks (s.tasks.filter (fun x => !Task.is t.ring t.seq x))).put
         (cqKey 0x054 c) 31 16 (s.cqTail c + 1) →
     v = State.noteReady { u with sluice := { u.sluice with readyQ := u.sluice.readyQ.filter (fun k => decide (k ≠ c)) } } c →
     ((thr = 0 ∨ n < thr) → exec (.completionRecordWrite e) s = .next { v with
         sluice := { v.sluice with unreported := tabSet (fun _ => 0) v.sluice.unreported c n } })
     ∧ (thr ≠ 0 → thr ≤ n → exec (.completionRecordWrite e) s
         = .next (({ v with sluice := { v.sluice with unreported := tabErase v.sluice.unreported c } } : State).sendVector
           (s.cqOwner c) (s.fld (cqKey 0x04C c) 18 8)))) ∧
  -- CQ_COAL_TIMER (R160)
  (∀ (c : Cq) (s : State), s.fld (cqKey 0x050 c) 31 16 ≠ 0 → tabGet (fun _ => 0) s.sluice.unreported c.val ≠ 0 →
     exec (.cqCoalTimer c) s = .next (({ s with sluice := { s.sluice with unreported := tabErase s.sluice.unreported c.val } } : State).sendVector
       (s.cqOwner c) (s.fld (cqKey 0x04C c) 18 8))) ∧
  -- RING_DOORBELL (R133, R402)
  (∀ (fn : Fn) (r : Ring) (v : W32) (s u : State), s.hasBar2 fn = true → s.dataUr = false → s.ringOwner r = fn.val → bitsOf v 31 16 = 0 → s.mode ≠ 4 →
     u = s.put (ringKey 0x058 r) 15 0 (bitsOf v 15 0) →
     (u.ringPosted r ≤ s.ringSize r → exec (.ringDoorbell fn r v) s = .next u)
     ∧ (s.ringSize r < u.ringPosted r → exec (.ringDoorbell fn r v) s
         = .next ((((u.put (ringKey 0x054 r) 7 7 1).put (ringKey 0x054 r) 2 0 3).raise pgSLC 0).irqBit pgSLC 0))) ∧
  -- RING_DOORBELL in DRAIN (R74, R133)
  (∀ (fn : Fn) (r : Ring) (v : W32) (s : State), s.hasBar2 fn = true → s.dataUr = false → s.ringOwner r = fn.val → bitsOf v 31 16 = 0 → s.mode = 4 →
     exec (.ringDoorbell fn r v) s = .next ((s.inc (pgSLC + 0x06C) 31 0 1).raise pgSLC 3)) ∧
  -- CQ_HEAD_DOORBELL (R160)
  (∀ (fn : Fn) (c : Cq) (v : W32) (s : State) (n : Nat), s.hasBar2 fn = true → s.dataUr = false → s.cqOwner c = fn.val → bitsOf v 31 16 = 0 →
     n = (bitsOf v 15 0 + 65536 - s.cqHead c) % 65536 →
     (n ≤ (s.cqTail c + 65536 - s.cqHead c) % 65536 → exec (.cqHeadDoorbell fn c v) s
         = .next ((s.put (cqKey 0x054 c) 15 0 (bitsOf v 15 0)).put (cqKey 0x058 c) 16 0 (s.cqOut c - n)))
     ∧ ((s.cqTail c + 65536 - s.cqHead c) % 65536 < n → exec (.cqHeadDoorbell fn c v) s
         = .next ((s.inc (pgPCIE + 0x054) 31 0 1).raise pgPCIE 5))) ∧
  -- doorbells of another owner (R402)
  (∀ (fn : Fn) (r : Ring) (c : Cq) (v : W32) (s : State), s.hasBar2 fn = true → s.dataUr = false →
     (s.ringOwner r ≠ fn.val → exec (.ringDoorbell fn r v) s = .next ((s.inc (pgPCIE + 0x054) 31 0 1).raise pgPCIE 1))
     ∧ (s.cqOwner c ≠ fn.val → exec (.cqHeadDoorbell fn c v) s = .next ((s.inc (pgPCIE + 0x054) 31 0 1).raise pgPCIE 1))) ∧
  -- HIST_CLR (R161)
  (∀ (d : Clu) (s : State), s.reaches (pgCLU d + 0x0A4) = true →
     exec (.histClr d) s = .next ((List.range 8).foldl (fun (t : State) p => t.put (pgCLU d + 0x084 + 4 * p) 25 16 0)
       ((List.range 128).foldl (fun (t : State) i => t.setReg (pgCLU d + 0x400 + 4 * i) 0) s))) ∧
  -- LOAD_WINDOW (R161)
  (∀ (d : Clu) (s : State), s.fld (pgCLU d + 0x0A8) 15 0 ≠ 0 →
     exec (.loadWindow d) s = .next (((List.range 8).foldl (fun (t : State) k => t.loadRecord d k) s).irqBit (pgCLU d) 1))

/-- A configuration request is answered with a retry in BOOT and otherwise acts and is answered; a link that comes up shows its rate and width with its interrupt; a reset of PF0 clears its configuration and payload size only, a reset of another function also stops its rings and channels; a link reset clears every function's configuration, takes the link down, counts, stops what the functions own, and raises its error and interrupt. Where a clause rests on a choice or an inference of the model and no rule, that is log entries 130, 131 and 134. -/
def Obligations.PcieConfig : Prop :=
  -- CONFIG_REQUEST answered with a retry (R400)
  (∀ (fn : Fn) (w : ConfigReq) (s : State), ¬ (isVf fn = true ∧ s.vfOn fn = false) → s.mode = 1 → fn.val ≠ 33 →
     exec (.configRequest fn w) s = .next { s with out := s.out ++ [.cfgAnswer fn true] }) ∧
  -- CONFIG_REQUEST (R399, R403)
  (∀ (fn : Fn) (on : Bool) (s : State), ¬ (isVf fn = true ∧ s.vfOn fn = false) → s.mode ≠ 1 →
     exec (.configRequest fn .read) s = .next { s with out := s.out ++ [.cfgAnswer fn false] }
     ∧ exec (.configRequest fn (.busMaster on)) s = .next { s with
         pcie := { s.pcie with bme := tabSet (fun _ => false) s.pcie.bme fn on }, out := s.out ++ [.cfgAnswer fn false] }
     ∧ exec (.configRequest fn (.msixEnable false)) s = .next { s with
         pcie := { s.pcie with msixEn := tabSet (fun _ => false) s.pcie.msixEn fn false }, out := s.out ++ [.cfgAnswer fn false] }) ∧
  -- CONFIG_REQUEST to PF1's SR-IOV capability and PF0's Device Control (R399, R403)
  (∀ (n : W16) (x : W3) (s : State), s.mode ≠ 1 → x.toNat ≤ 2 →
     exec (.configRequest 0 (.sriov true n)) s = .next { s with
         pcie := { s.pcie with vfEnable := true, numVfs := n.toNat }, out := s.out ++ [.cfgAnswer 0 false] }
     ∧ exec (.configRequest 33 (.maxPayload x)) s = .next { s with
         pcie := { s.pcie with mps := x.toNat }, out := s.out ++ [.cfgAnswer 33 false] }) ∧
  -- PCIE_LINK_UP (R397)
  (∀ (speed : W3) (width : W5) (s : State), s.pcie.perstLow = false → s.wide = none → 1 ≤ speed.toNat → speed.toNat ≤ 5 →
     width.toNat ∈ [1, 2, 4, 8, 16] →
     exec (.pcieLinkUp speed width) s = .next ((((s.put (pgPCIE + 0x040) 31 31 1).put (pgPCIE + 0x040) 30 28 speed.toNat).put
       (pgPCIE + 0x040) 27 23 width.toNat).irqBit pgPCIE 0)) ∧
  -- FUNCTION_LEVEL_RESET of PF0 (R408)
  (∀ (s u : State), u = s.resetConfig (fun n => decide (n = 33)) →
     exec (.functionLevelReset 33) s = .next { u with pcie := { u.pcie with mps := 0 } }) ∧
  -- FUNCTION_LEVEL_RESET of a VF (R408)
  (∀ (fn : Fn) (s : State), isVf fn = true → s.vfOn fn = true →
     exec (.functionLevelReset fn) s = .next ((s.resetConfig (fun n => decide (n = fn.val))).stopOwned (fun n => decide (n = fn.val)))) ∧
  -- LINK_RESET (R409)
  (∀ (s u : State), s.fld (pgPCIE + 0x040) 31 31 = 1 → u = { s with pcie := { ({} : PcieSt) with perstLow := s.pcie.perstLow } } →
     exec .linkReset s = .next (((((u.put (pgPCIE + 0x040) 31 23 0).inc (pgPCIE + 0x040) 15 0 1).stopOwned (fun n => decide (n ≤ 32))).raise
       pgPCIE 0).irqBit pgPCIE 1))

/-- A read in BAR2 returns the word of the function's ring, queue or channel, or is answered Unsupported Request where the function has none; unmasking a vector with no message pending opens it, with one pending sends it; masking closes it; a rearm sends the message of an asserted vector again and nothing of others. Where a clause rests on a choice or an inference of the model and no rule, that is log entry 132. -/
def Obligations.Messages : Prop :=
  -- DOORBELL_READ (R402)
  (∀ (fn : Fn) (off : W22) (s : State), s.hasBar2 fn = true → s.dataUr = false →
     exec (.doorbellRead fn off) s = .next { s with readData := s.doorbellWord fn off.toNat, out := s.out ++ [.memAnswer fn false (s.doorbellWord fn off.toNat)] }) ∧
  -- DOORBELL_READ: what a ring's doorbell reads as (R402)
  (∀ (fn : Fn) (r : Ring) (s : State), (s.ringOwner r = fn.val → s.doorbellWord fn (0x1000 * r.val) = BitVec.ofNat 32 (s.ringHead r * 65536 + s.ringTail r))
     ∧ (s.ringOwner r ≠ fn.val → s.doorbellWord fn (0x1000 * r.val) = 0)) ∧
  -- DOORBELL_READ answered Unsupported Request (R400)
  (∀ (fn : Fn) (off : W22) (s : State), s.hasBar2 fn = false ∨ s.dataUr = true →
     exec (.doorbellRead fn off) s = .next { s with out := s.out ++ [.memAnswer fn true 0] }) ∧
  -- MSIX_UNMASK, nothing pending (R406)
  (∀ (fn : Fn) (v : W11) (s : State), ¬ (isVf fn = true ∧ s.vfOn fn = false) → v.toNat < msixSize fn →
     tabGet (fun _ => false) s.pcie.pend (4096 * fn.val + v.toNat) = false →
     exec (.msixUnmask fn (.vector v)) s = .next { s with
       pcie := { s.pcie with unmasked := tabSet (fun _ => false) s.pcie.unmasked (4096 * fn.val + v.toNat) true } }) ∧
  -- MSIX_UNMASK with a message pending (R406)
  (∀ (fn : Fn) (v : W11) (s : State) (k : Nat), k = 4096 * fn.val + v.toNat → ¬ (isVf fn = true ∧ s.vfOn fn = false) → v.toNat < msixSize fn →
     tabGet (fun _ => false) s.pcie.pend k = true → fn.val ≠ 33 → tabGet (fun _ => false) s.pcie.msixEn fn.val = true → s.canMsix fn = true →
     exec (.msixUnmask fn (.vector v)) s = .next { s with
       pcie := { s.pcie with unmasked := tabSet (fun _ => false) s.pcie.unmasked k true, pend := tabErase s.pcie.pend k }, out := s.out ++ [.msix fn v.toNat] }) ∧
  -- MSIX_UNMASK that masks (R406)
  (∀ (fn : Fn) (v : W11) (s : State), ¬ (isVf fn = true ∧ s.vfOn fn = false) → v.toNat < msixSize fn →
     exec (.msixUnmask fn (.mask v)) s = .next { s with
       pcie := { s.pcie with unmasked := tabSet (fun _ => false) s.pcie.unmasked (4096 * fn.val + v.toNat) false } }) ∧
  -- IRQ_REARM of one vector (R406)
  (∀ (hi : Bool) (n : Nat) (s : State) (v : Nat), n < 32 → v = n + (if hi then 32 else 0) → s.reaches (pgPCIE + (if hi then 0x064 else 0x060)) = true →
     (s.vecOn v = false → exec (.irqRearm hi (BitVec.ofNat 32 (2 ^ n))) s = .next s)
     ∧ (s.vecOn v = true → tabGet (fun _ => false) s.pcie.msixEn 33 = true → tabGet (fun _ => false) s.pcie.unmasked (4096 * 33 + v) = true →
         s.canMsix 33 = true → exec (.irqRearm hi (BitVec.ofNat 32 (2 ^ n))) s = .next { s with
           pcie := { s.pcie with pend := tabErase s.pcie.pend (4096 * 33 + v) }, out := s.out ++ [.msix 33 v] }))

/-- PUMP_DOORBELL and PUMP_CH_DB store a channel's TAIL, and one that overfills it stops it with result 4; another owner's doorbell is discarded; PUMP_DESC_FETCH adds the fetched descriptor to the started ones with the channel running, unless a FENCE holds it back; PUMP_DESC_COMPLETE writes the status of the oldest one, moves HEAD, and idles an empty channel or stops one that met an error with its result; CPL_TIMEOUT ends it with result 2 and the error; PUMP_ABORT ends what was posted with result 5 and the channel's interrupt; PUMP_RESUME takes a stopped or abandoned channel to idle and leaves another as it is. Where a clause rests on a choice or an inference of the model and no rule, that is log entries 133, 135 and 136. -/
def Obligations.PumpChannels : Prop :=
  -- PUMP_DOORBELL (R402, R411)
  (∀ (fn : Fn) (ch : W4) (v : W32) (s u : State) (c : Nat), c = ch.toNat → s.hasBar2 fn = true → s.dataUr = false →
     u = s.put (chKey 0x054 c) 15 0 (bitsOf v 15 0) →
     (s.chOwner c = fn.val → bitsOf v 31 16 = 0 → u.chPosted c ≤ s.chSize c → exec (.pumpDoorbell fn ch v) s = .next u)
     ∧ (s.chOwner c = fn.val → bitsOf v 31 16 = 0 → s.chSize c < u.chPosted c →
         exec (.pumpDoorbell fn ch v) s = .next ((u.raise pgPUMP 0).chStop c 2 4))
     ∧ (s.chOwner c ≠ fn.val ∨ bitsOf v 31 16 ≠ 0 →
         exec (.pumpDoorbell fn ch v) s = .next ((s.inc (pgPCIE + 0x054) 31 0 1).raise pgPCIE 1))) ∧
  -- PUMP_CH_DB (R411, R416)
  (∀ (v : W32) (s u : State) (c : Nat), s.wide = none → s.slotState 2 ≠ 4 → c = s.fld (pgPUMP + 0x040) 3 0 →
     u = s.put (chKey 0x054 c) 15 0 (bitsOf v 15 0) →
     (s.chOwner c = 33 → u.chPosted c ≤ s.chSize c → exec (.pumpChDb v) s = .next u)
     ∧ (s.chOwner c = 33 → s.chSize c < u.chPosted c → exec (.pumpChDb v) s = .next ((u.raise pgPUMP 0).chStop c 2 4))
     ∧ (s.chOwner c ≠ 33 → exec (.pumpChDb v) s = .next (s.badAccess (pgPUMP + 0x05C)))) ∧
  -- PUMP_DESC_FETCH (R412, R413): a valid descriptor, and one that its FENCE holds back
  (∀ (ch : W4) (x : BitVec 256) (s : State) (c : Nat) (d : PumpDesc), c = ch.toNat → s.chFetches c = true →
     d = ⟨(s.chHead c + (s.chList c).length) % 65536, x, 0⟩ → d.invalid = false →
     (d.fence = false ∨ s.chList c = [] → exec (.pumpDescFetch ch (.data x)) s
         = .next ((s.setChList c (s.chList c ++ [d])).put (chKey 0x050 c) 15 14 1))
     ∧ (d.fence = true → s.chList c ≠ [] → exec (.pumpDescFetch ch (.data x)) s = .next s)) ∧
  -- PUMP_DESC_FETCH of an invalid descriptor and after an error (R412, R413)
  (∀ (ch : W4) (x : BitVec 256) (s : State) (c n : Nat), c = ch.toNat → s.chFetches c = true → n = (s.chHead c + (s.chList c).length) % 65536 →
     (({ count := n, desc := x } : PumpDesc).invalid = true → exec (.pumpDescFetch ch (.data x)) s
         = .next ((s.setChList c (s.chList c ++ [⟨n, x, 4⟩])).put (chKey 0x050 c) 15 14 1))
     ∧ exec (.pumpDescFetch ch .error) s = .next ((s.setChList c (s.chList c ++ [⟨n, 0, 2⟩])).put (chKey 0x050 c) 15 14 1)) ∧
  -- PUMP_DESC_COMPLETE (R413, R414, R415)
  (∀ (ch : W4) (resp : PumpResp) (s u v : State) (c : Nat) (d : PumpDesc) (rest : List PumpDesc) (m : PumpMove × Nat), c = ch.toNat →
     s.chList c = d :: rest → m = s.pumpMove (s.chOwner c) d resp → v = (if m.1.poison then m.1.st.raise pgPUMP 3 else m.1.st) →
     u = (v.setChList c rest).writeStatus c d m.2 m.1.moved →
     (m.2 < 2 → exec (.pumpDescComplete ch resp) s = .next (if u.chPosted c = 0 then u.put (chKey 0x050 c) 15 14 0 else u))
     ∧ (m.2 = 2 → exec (.pumpDescComplete ch resp) s = .next ((u.raise pgPUMP 1).chStop c 2 2))
     ∧ (m.2 = 3 → exec (.pumpDescComplete ch resp) s = .next ((u.raise pgPUMP 2).chStop c 2 3))
     ∧ (m.2 = 4 → exec (.pumpDescComplete ch resp) s = .next ((u.raise pgPUMP 0).chStop c 2 4))) ∧
  -- PUMP_DESC_COMPLETE: the RESULT of a transfer (R413, R414)
  (∀ (fn : Nat) (d : PumpDesc) (resp : PumpResp) (s : State) (m : PumpMove × Nat), m = s.pumpMove fn d resp →
     m.2 = (if d.bad ≠ 0 then d.bad else if d.dir = 0 ∧ (resp.err = true ∨ resp.data.length < d.len) then 2 else if m.1.err then 3
       else if m.1.poison then 1 else 0)) ∧
  -- CPL_TIMEOUT (R414, R415)
  (∀ (ch : W4) (resp : PumpResp) (s u v w : State) (c : Nat) (d : PumpDesc) (rest : List PumpDesc) (m : PumpMove), c = ch.toNat →
     s.chList c = d :: rest → d.dir = 0 → d.bad = 0 → w = s.raise pgPCIE 4 → m = (w.pumpMove (s.chOwner c) d { resp with err := true }).1 →
     v = (if m.poison then m.st.raise pgPUMP 3 else m.st) → u = (v.setChList c rest).writeStatus c d 2 m.moved →
     exec (.cplTimeout ch resp) s = .next ((u.raise pgPUMP 1).chStop c 2 2)) ∧
  -- PUMP_ABORT of a channel with nothing posted (R414)
  (∀ (s : State) (c : Nat), s.reaches (pgPUMP + 0x058) = true → c = s.fld (pgPUMP + 0x040) 3 0 → s.chList c = [] → s.chPosted c = 0 →
     exec .pumpAbort s = .next ((((s.put (chKey 0x050 c) 15 14 3).put (chKey 0x050 c) 2 0 5).setChList c []).irqBit pgPUMP c)) ∧
  -- PUMP_ABORT (R414): every posted descriptor ends with result 5, the started ones first
  (∀ (s : State) (c : Nat) (later : List PumpDesc), s.reaches (pgPUMP + 0x058) = true → c = s.fld (pgPUMP + 0x040) 3 0 →
     s.chPosted c ≤ s.chSize c → later = (List.range (s.chPosted c - (s.chList c).length)).map
       (fun i => ({ count := (s.chHead c + (s.chList c).length + i) % 65536, desc := 0 } : PumpDesc)) →
     exec .pumpAbort s = .next (((s.chList c ++ later).foldl (fun (t : State) d => t.abandonDesc c d) s).chStop c 3 5)) ∧
  -- PUMP_RESUME (R414)
  (∀ (s : State) (c : Nat), s.reaches (pgPUMP + 0x058) = true → c = s.fld (pgPUMP + 0x040) 3 0 →
     (2 ≤ s.channelState c → exec .pumpResume s = .next (s.put (chKey 0x050 c) 15 14 0))
     ∧ (s.channelState c < 2 → exec .pumpResume s = .next s))

/-- In a tile that can issue, each vector ALU instruction and each extraction in slot X leaves the bundle in issue with its destination written from the registers read before it and no other register changed: sums, differences and negations element by element where they fit, broadcasts, extractions with rounding, limits and EXT_SAT; NOP changes no register in either slot. The results R105 does not state (shift, minimum, maximum, permutation, comparison, selection) are free values. Where a clause rests on a choice or an inference of the model and no rule, that is log entries 49, 50 and 52. -/
def Obligations.VectorAlu : Prop :=
  -- NOP (R79)
  (∀ (d : Clu) (t : Tix) (s : State),
     (s.readyX d t = true → IssuesX (.nop d t false) s d t [] (s.regsX d t))
     ∧ (s.readyY d t = true → IssuesY (.nop d t true) s d t (s.tile d t).regs .next)) ∧
  -- VEC_ADD (R105)
  (∀ (d : Clu) (t : Tix) (vd va vb : VReg) (s : State) (r : TileRegs), s.readyX d t = true → r = s.regsX d t →
     ∃ v, IssuesX (.vecAdd d t false vd va vb) s d t [.v vd.toNat] (r.setV vd.toNat v)
       ∧ ∀ i < 16, Within16 (elemRe (r.getV va.toNat) i + elemRe (r.getV vb.toNat) i) (elemRe v i)
         ∧ Within16 (elemIm (r.getV va.toNat) i + elemIm (r.getV vb.toNat) i) (elemIm v i)) ∧
  -- VEC_SUBTRACT (R105)
  (∀ (d : Clu) (t : Tix) (vd va vb : VReg) (s : State) (r : TileRegs), s.readyX d t = true → r = s.regsX d t →
     ∃ v, IssuesX (.vecSubtract d t false vd va vb) s d t [.v vd.toNat] (r.setV vd.toNat v)
       ∧ ∀ i < 16, Within16 (elemRe (r.getV va.toNat) i - elemRe (r.getV vb.toNat) i) (elemRe v i)
         ∧ Within16 (elemIm (r.getV va.toNat) i - elemIm (r.getV vb.toNat) i) (elemIm v i)) ∧
  -- VEC_NEGATE (R105)
  (∀ (d : Clu) (t : Tix) (vd va : VReg) (s : State) (r : TileRegs), s.readyX d t = true → r = s.regsX d t →
     ∃ v, IssuesX (.vecNegate d t false vd va) s d t [.v vd.toNat] (r.setV vd.toNat v)
       ∧ ∀ i < 16, Within16 (- elemRe (r.getV va.toNat) i) (elemRe v i) ∧ Within16 (- elemIm (r.getV va.toNat) i) (elemIm v i)) ∧
  -- VEC_CONJUGATE (R105)
  (∀ (d : Clu) (t : Tix) (vd va : VReg) (s : State) (r : TileRegs), s.readyX d t = true → r = s.regsX d t →
     ∃ v, IssuesX (.vecConjugate d t false vd va) s d t [.v vd.toNat] (r.setV vd.toNat v)
       ∧ ∀ i < 16, elemRe v i = elemRe (r.getV va.toNat) i ∧ Within16 (- elemIm (r.getV va.toNat) i) (elemIm v i)) ∧
  -- BROADCAST (R105)
  (∀ (d : Clu) (t : Tix) (vd va : VReg) (e : W4) (s : State) (r : TileRegs), s.readyX d t = true → r = s.regsX d t →
     ∃ v, IssuesX (.broadcast d t false vd va e) s d t [.v vd.toNat] (r.setV vd.toNat v)
       ∧ ∀ i < 16, vecElem v i = vecElem (r.getV va.toNat) e.toNat) ∧
  -- VEC_SHIFT, VEC_MIN, VEC_MAX, PERMUTE, COMPARE, SELECT (R105): the values are free
  (∀ (d : Clu) (t : Tix) (vd va vb : VReg) (fn : W11) (s : State) (r : TileRegs) (x y : W512) (w : W512 → TileRegs),
     s.readyX d t = true → r = s.regsX d t → x = r.getV va.toNat → y = r.getV vb.toNat → w = r.setV vd.toNat →
     IssuesX (.vecShift d t false vd va vb fn) s d t [.v vd.toNat] (w (Config.vecShift fn x y))
     ∧ IssuesX (.vecMin d t false vd va vb) s d t [.v vd.toNat] (w (Config.vecMin x y))
     ∧ IssuesX (.vecMax d t false vd va vb) s d t [.v vd.toNat] (w (Config.vecMax x y))
     ∧ IssuesX (.permute d t false vd va vb fn) s d t [.v vd.toNat] (w (Config.vecPermute fn x y))
     ∧ IssuesX (.compare d t false vd va vb fn) s d t [.v vd.toNat] (w (Config.vecCompare fn x y))
     ∧ IssuesX (.select d t false vd va vb fn) s d t [.v vd.toNat] (w (Config.vecSelect fn x y))) ∧
  -- EXT and EXT_T (R86, R107): EXT rounds where MODE.RND acts
  (∀ (d : Clu) (t : Tix) (vd : VReg) (src : AReg) (sh : W5) (m round : Bool) (s : State) (r : TileRegs) (f : W40 → Int),
     s.readyX d t = true → r = s.regsX d t → round = (m && r.rnd) →
     f = (fun a => if round then roundShift a.toInt sh.toNat else a.toInt / 2 ^ sh.toNat) →
     ∃ v sat set, IssuesX (if m then .ext d t false vd src sh else .extT d t false vd src sh) s d t [.v vd.toNat]
         { r.setV vd.toNat v with extSat := sat, extNew := set }
       ∧ ∀ i < 16, elemRe v i = clampI (-32768) 32767 (f (r.getA src.toNat i).re) ∧ elemIm v i = clampI (-32768) 32767 (f (r.getA src.toNat i).im)
         ∧ sat.getLsbD i = (r.extSat.getLsbD i || set.getLsbD i)
         ∧ set.getLsbD i = (decide (f (r.getA src.toNat i).re < -32768) || decide (32767 < f (r.getA src.toNat i).re)
             || decide (f (r.getA src.toNat i).im < -32768) || decide (32767 < f (r.getA src.toNat i).im)))

/-- Each form of CMAC adds, sets, subtracts or conjugates by its suffix, lane by lane, with the limits, freezing and ACC_SAT of R84; the two-product forms add two products and are illegal at register 31 or an odd element; ACLR, AMOV, ASCALE and AADD act on the sixteen lanes of their accumulator and leave every other register. -/
def Obligations.MacAndAccumulators : Prop :=
  -- CMAC and CMACB (R83, R84)
  (∀ (d : Clu) (t : Tix) (ad : AReg) (sfx : W2) (va vb : VReg) (e : W4) (s : State) (r : TileRegs), s.readyX d t = true → r = s.regsX d t →
     (∃ q, IssuesX (.cmac d t false ad sfx va vb) s d t [.a ad.toNat] q ∧ r.OnlyAcc q ad.toNat ∧ ∀ i < 16, ∀ p,
       p = elemMul sfx.toNat (r.getV va.toNat) (r.getV vb.toNat) i i → r.AccRule q ad.toNat i sfx.toNat p.1 p.2)
     ∧ (∃ q, IssuesX (.cmacb d t false ad sfx va vb e) s d t [.a ad.toNat] q ∧ r.OnlyAcc q ad.toNat ∧ ∀ i < 16, ∀ p,
       p = elemMul sfx.toNat (r.getV va.toNat) (r.getV vb.toNat) i e.toNat → r.AccRule q ad.toNat i sfx.toNat p.1 p.2)) ∧
  -- CMAC2 (R83, R84)
  (∀ (d : Clu) (t : Tix) (ad : AReg) (sfx : W2) (va vb : VReg) (s : State) (r : TileRegs), s.readyX d t = true → r = s.regsX d t →
     va ≠ 31 → vb ≠ 31 → ∃ q, IssuesX (.cmac2 d t false ad sfx va vb) s d t [.a ad.toNat] q ∧ r.OnlyAcc q ad.toNat ∧ ∀ i < 16, ∀ p p2,
       p = elemMul sfx.toNat (r.getV va.toNat) (r.getV vb.toNat) i i →
       p2 = elemMul sfx.toNat (r.getV (va.toNat + 1)) (r.getV (vb.toNat + 1)) i i →
       r.AccRule q ad.toNat i sfx.toNat (p.1 + p2.1) (p.2 + p2.2)) ∧
  -- CMACB2 (R83, R84)
  (∀ (d : Clu) (t : Tix) (ad : AReg) (sfx : W2) (va vb : VReg) (e : W4) (s : State) (r : TileRegs), s.readyX d t = true → r = s.regsX d t →
     va ≠ 31 → e.toNat % 2 = 0 → ∃ q, IssuesX (.cmacb2 d t false ad sfx va vb e) s d t [.a ad.toNat] q ∧ r.OnlyAcc q ad.toNat ∧ ∀ i < 16, ∀ p p2,
       p = elemMul sfx.toNat (r.getV va.toNat) (r.getV vb.toNat) i e.toNat →
       p2 = elemMul sfx.toNat (r.getV (va.toNat + 1)) (r.getV vb.toNat) i (e.toNat + 1) →
       r.AccRule q ad.toNat i sfx.toNat (p.1 + p2.1) (p.2 + p2.2)) ∧
  -- CMAC2 and CMACB2 of a pair that does not exist (R83)
  (∀ (d : Clu) (t : Tix) (ad : AReg) (sfx : W2) (va vb : VReg) (e : W4) (s : State), s.readyX d t = true →
     (va = 31 ∨ vb = 31 → exec (.cmac2 d t false ad sfx va vb) s = .next ((s.inX d t).tileFault d t 0))
     ∧ (va = 31 ∨ e.toNat % 2 = 1 → exec (.cmacb2 d t false ad sfx va vb e) s = .next ((s.inX d t).tileFault d t 0))) ∧
  -- the complex product (R83)
  (∀ (x y : W512) (sfx i j : Nat), (sfx ≠ 3 → elemMul sfx x y i j
         = (elemRe x i * elemRe y j - elemIm x i * elemIm y j, elemRe x i * elemIm y j + elemIm x i * elemRe y j))
     ∧ elemMul 3 x y i j = (elemRe x i * elemRe y j + elemIm x i * elemIm y j, elemIm x i * elemRe y j - elemRe x i * elemIm y j)) ∧
  -- ACLR, AMOV, AMOV_VECTOR (R85)
  (∀ (d : Clu) (t : Tix) (ad src : AReg) (va : VReg) (k : W4) (s : State) (r : TileRegs), s.readyX d t = true → r = s.regsX d t →
     (∃ q, IssuesX (.aclr d t false ad) s d t [.a ad.toNat] q ∧ r.OnlyAcc q ad.toNat ∧ q.accSat = r.accSat ∧ ∀ i < 16, q.getA ad.toNat i = {})
     ∧ (∃ q, IssuesX (.amov d t false ad src) s d t [.a ad.toNat] q ∧ r.OnlyAcc q ad.toNat ∧ q.accSat = r.accSat
         ∧ ∀ i < 16, q.getA ad.toNat i = r.getA src.toNat i)
     ∧ (∃ q, IssuesX (.amovVector d t false ad va k) s d t [.a ad.toNat] q ∧ r.OnlyAcc q ad.toNat ∧ q.accSat = r.accSat
         ∧ ∀ i < 16, q.getA ad.toNat i = ⟨BitVec.ofInt 40 (elemRe (r.getV va.toNat) i * 2 ^ k.toNat), BitVec.ofInt 40 (elemIm (r.getV va.toNat) i * 2 ^ k.toNat), false⟩)) ∧
  -- AADD (R85)
  (∀ (d : Clu) (t : Tix) (ad src : AReg) (s : State) (r : TileRegs), s.readyX d t = true → r = s.regsX d t →
     ∃ q, IssuesX (.aadd d t false ad src) s d t [.a ad.toNat] q ∧ r.OnlyAcc q ad.toNat
       ∧ ∀ i < 16, r.AccRule q ad.toNat i 0 (r.getA src.toNat i).re.toInt (r.getA src.toNat i).im.toInt) ∧
  -- ASCALE and ASCALE_T (R85): ASCALE rounds where MODE.RND acts
  (∀ (d : Clu) (t : Tix) (ad : AReg) (k : W4) (m round : Bool) (s : State) (r : TileRegs) (f : W40 → W40), s.readyX d t = true →
     r = s.regsX d t → k ≠ 0 → k.toNat ≤ 8 → round = (m && r.rnd) →
     f = (fun x => BitVec.ofInt 40 (if round then roundShift x.toInt k.toNat else x.toInt / 2 ^ k.toNat)) →
     ∃ q, IssuesX (if m then .ascale d t false ad k else .ascaleT d t false ad k) s d t [.a ad.toNat] q ∧ r.OnlyAcc q ad.toNat
       ∧ q.accSat = r.accSat ∧ ∀ i < 16, q.getA ad.toNat i
         = if (r.getA ad.toNat i).frozen then r.getA ad.toNat i else ⟨f (r.getA ad.toNat i).re, f (r.getA ad.toNat i).im, false⟩) ∧
  -- ASCALE and ASCALE_T by an amount that R85 does not list
  (∀ (d : Clu) (t : Tix) (ad : AReg) (k : W4) (s : State), s.readyX d t = true → k = 0 ∨ 8 < k.toNat →
     exec (.ascale d t false ad k) s = .next ((s.inX d t).tileFault d t 0) ∧ exec (.ascaleT d t false ad k) s = .next ((s.inX d t).tileFault d t 0))

/-- Linear mode names consecutive elements and adds the immediate to the pointer; modulo mode keeps both within the buffer; bit-reversed mode walks linearly and adds in reversed bit order; strided mode steps by a scalar register. Misaligned elements raise MISALIGN, elements or pointers outside raise ADDR_RANGE, a strided scalar access is illegal. Where a clause rests on a choice or an inference of the model and no rule, that is log entry 170. -/
def Obligations.Addressing : Prop :=
  -- linear mode, and modulo mode with L 0 (R87)
  (∀ (r : TileRegs) (pn n p mode : Nat) (imm : W16) (sc : Bool), p = (r.getP pn).toNat → mode = 0 ∨ mode = 1 ∧ r.getL pn = 0 →
     (p % 4 = 0 → p + 4 * n ≤ 0x40000 → r.addressOf pn mode imm n 4 sc
         = .ok ((List.range n).map (fun i => p + 4 * i)) (w32 ((p : Int) + imm.toInt)))
     ∧ (0 < n → p % 4 ≠ 0 → r.addressOf pn mode imm n 4 sc = .fault 2)
     ∧ (0 < n → p % 4 = 0 → 0x40000 < p + 4 * n → r.addressOf pn mode imm n 4 sc = .fault 3)) ∧
  -- modulo mode (R87, R88)
  (∀ (r : TileRegs) (pn n p b l : Nat) (imm : W16) (sc : Bool), p = (r.getP pn).toNat → b = (r.getB pn).toNat → l = (r.getL pn).toNat → l ≠ 0 →
     (l % 4 = 0 → l ≤ 262144 → b ≤ p → p < b + l → b % 4 = 0 → p % 4 = 0 → b + l ≤ 0x40000 → r.addressOf pn 1 imm n 4 sc
         = .ok ((List.range n).map (fun i => b + (p - b + 4 * i) % l)) (w32 ((b : Int) + ((p : Int) - b + imm.toInt) % l)))
     ∧ (l % 4 ≠ 0 → r.addressOf pn 1 imm n 4 sc = .fault 2)
     ∧ (l % 4 = 0 → (262144 < l ∨ p < b ∨ b + l ≤ p) → r.addressOf pn 1 imm n 4 sc = .fault 3)) ∧
  -- bit-reversed mode (R87)
  (∀ (r : TileRegs) (pn n p b l k : Nat) (imm : W16) (sc : Bool), p = (r.getP pn).toNat → b = (r.getB pn).toNat → l = (r.getL pn).toNat →
     (l = 2 ^ k → 3 ≤ k → k ≤ 18 → b ≤ p → p < b + l → p % 4 = 0 → p + 4 * n ≤ 0x40000 → r.addressOf pn 2 imm n 4 sc
         = .ok ((List.range n).map (fun i => p + 4 * i)) (w32 ((b + revadd (p - b) imm.toInt k : Nat) : Int)))
     ∧ ((∀ j, 3 ≤ j → j ≤ 18 → l ≠ 2 ^ j) ∨ p < b ∨ b + l ≤ p → r.addressOf pn 2 imm n 4 sc = .fault 3)) ∧
  -- a reversed addition of half the buffer visits every element in bit-reversed order (R87)
  (∀ k, 3 ≤ k → k ≤ 6 → ∀ i < 2 ^ (k - 2), Nat.repeat (fun o => revadd o (2 ^ (k - 1)) k) i 0 = 4 * revBits (k - 2) i) ∧
  -- strided mode (R87)
  (∀ (r : TileRegs) (pn n p : Nat) (imm : W16) (d : Int), p = (r.getP pn).toNat → d = (r.getS (bitsOf imm 15 11)).toInt →
     (d % 4 = 0 → p % 4 = 0 → (∀ i < n, 0 ≤ (p : Int) + i * d ∧ (p : Int) + i * d + 4 ≤ 0x40000) → r.addressOf pn 3 imm n 4 false
         = .ok ((List.range n).map (fun i : Nat => ((p : Int) + (i : Int) * d).toNat)) (w32 ((p : Int) + 4 * (imm.extractLsb' 0 11).toInt)))
     ∧ (d % 4 ≠ 0 → r.addressOf pn 3 imm n 4 false = .fault 2) ∧ r.addressOf pn 3 imm n 4 true = .fault 0)

/-- A load writes its destination from the elements its addressing mode names and moves its pointer; elements of clean, unbuffered words are what memory holds; a vector store of consecutive words changes exactly their 64 bytes; a scalar store stands in the merge buffer and leaves every stored byte; an address that faults stops the tile with its cause and no other effect, and an uncorrectable element stops it with its own. Where a clause rests on a choice or an inference of the model and no rule, that is log entry 51. -/
def Obligations.LoadsAndStores : Prop :=
  -- VLD (R87, R99)
  (∀ (d : Clu) (t : Tix) (v : VReg) (pn : PReg) (am : W2) (imm : W16) (s m : State) (l : List Nat) (p : W32) (w : List W32), s.readyY d t = true →
     s.clashes d t [.v v.toNat, .p pn.toNat] = false → (s.regsY d t).addressOf pn.toNat am.toNat imm 16 4 false = .ok l p →
     (s.inY d t).readElems d t l = (m, w, false) →
     exec (.vld d t true v pn am imm) s = .next ((m.upd d t (fun q => (q.setV v.toNat (vecOf w)).setP pn.toNat p)).finishBundle d t .next)) ∧
  -- VLDS (R87): seventeen elements fill a sliding pair
  (∀ (d : Clu) (t : Tix) (v : VReg) (pn : PReg) (am : W2) (imm : W16) (s m : State) (l : List Nat) (p : W32) (w : List W32), s.readyY d t = true →
     s.clashes d t [.v v.toNat, .v (v.toNat + 1), .p pn.toNat] = false → v ≠ 31 →
     (s.regsY d t).addressOf pn.toNat am.toNat imm 17 4 false = .ok l p → (s.inY d t).readElems d t l = (m, w, false) →
     exec (.vlds d t true v pn am imm) s = .next ((m.upd d t (fun q =>
       ((q.setV v.toNat (vecOf (w.drop 1))).setV (v.toNat + 1) (vecOf (w.take 16))).setP pn.toNat p)).finishBundle d t .next)) ∧
  -- the elements read (R99, R173): words valid, clean and not buffered
  (∀ (d t : Nat) (l : List Nat) (s : State), (∀ x ∈ l, s.isValid (tileAddr d t (x - x % 8)) = true ∧ s.syndrome (tileAddr d t (x - x % 8)) = 0
       ∧ (s.mergeLines (memLoc (tileAddr d t (x - x % 8))).unit) = []) →
     s.readElems d t l = (s, l.map (fun x => if x % 8 < 4 then (s.storedWord (tileAddr d t (x - x % 8))).setWidth 32
       else (s.storedWord (tileAddr d t (x - x % 8)) >>> 32).setWidth 32), false)) ∧
  -- a vector's elements are those it is made of (R78)
  (∀ (w : List W32) (i : Nat), i < 16 → vecElem (vecOf w) i = w.getD i 0) ∧
  -- SCALAR_LOAD of a word, and of a half or a byte, whose upper bits are free (R105)
  (∀ (d : Clu) (t : Tix) (sd : SReg) (size : ScalarSize) (pn : PReg) (am : W2) (imm : W16) (s m : State) (a : Nat) (p x : W32), s.readyY d t = true →
     s.clashes d t [.s sd.toNat, .p pn.toNat] = false → (s.regsY d t).addressOf pn.toNat am.toNat imm 1 (scalarBytes size) true = .ok [a] p →
     (s.inY d t).readElems d t [a - a % 4] = (m, [x], false) →
     ∃ y : W32, y.toNat % 2 ^ (8 * scalarBytes size) = (x >>> (8 * (a % 4))).toNat % 2 ^ (8 * scalarBytes size)
       ∧ exec (.scalarLoad d t true sd size pn am imm) s
         = .next ((m.upd d t (fun q => (q.setS sd.toNat y).setP pn.toNat p)).finishBundle d t .next)) ∧
  -- VST (R87, R171): the elements in the order of their addresses
  (∀ (d : Clu) (t : Tix) (v : VReg) (pn : PReg) (am : W2) (imm : W16) (s : State) (l : List Nat) (p : W32), s.readyY d t = true →
     s.clashes d t [.p pn.toNat] = false → (s.regsY d t).addressOf pn.toNat am.toNat imm 16 4 false = .ok l p →
     exec (.vst d t true v pn am imm) s = .next ((((s.inY d t).writeElems d t ((l.zip (List.range 16)).map
       (fun x => (x.1, vecElem ((s.regsY d t).getV v.toNat) x.2, false)))).upd d t (fun q => q.setP pn.toNat p)).finishBundle d t .next)) ∧
  -- VST of eight whole words (R171): exactly their bytes change
  (∀ (d : Clu) (t : Tix) (v : VReg) (pn : PReg) (imm : W16) (s : State) (p k : Nat), s.readyY d t = true → s.clashes d t [.p pn.toNat] = false →
     p = ((s.regsY d t).getP pn.toNat).toNat → p % 8 = 0 → p + 64 ≤ 0x40000 → k = tileAddr d t p →
     Completes (.vst d t true v pn 0 imm) s (fun u =>
       (∀ j, u.cell j = if k ≤ j ∧ j < k + 64 then (((s.regsY d t).getV v.toNat) >>> (8 * (j - k))).setWidth 8 else s.cell j)
       ∧ OnlyParts (eventsAnd [.mem, .tiles]) s u ∧ (u.tile d t).regs.pc = ((s.tile d t).regs.endBundle .next).pc)) ∧
  -- SCALAR_STORE into an empty buffer (R171)
  (∀ (d : Clu) (t : Tix) (sd : SReg) (size : ScalarSize) (pn : PReg) (am : W2) (imm : W16) (s : State) (a k m : Nat) (p : W32), s.readyY d t = true →
     s.clashes d t [.p pn.toNat] = false → (s.regsY d t).addressOf pn.toNat am.toNat imm 1 (scalarBytes size) true = .ok [a] p →
     k = tileAddr d t (a - a % 8) → m = (2 ^ scalarBytes size - 1) <<< (a % 8) → (s.inY d t).mergeLines (memLoc k).unit = [] →
     exec (.scalarStore d t true sd size pn am imm) s = .next ((((s.inY d t).setMerge (memLoc k).unit [MergeLine.join ⟨k - k % 64, 0, 0, 0⟩ (k % 64 / 8)
       (((s.regsY d t).getS sd.toNat).setWidth 64 <<< (8 * (a % 8))) m 0]).upd d t (fun q => q.setP pn.toNat p)).finishBundle d t .next)) ∧
  -- addresses that fault (R89), and a sliding pair that does not exist
  (∀ (d : Clu) (t : Tix) (v : VReg) (sd : SReg) (size : ScalarSize) (pn : PReg) (am : W2) (imm : W16) (s : State) (n : Nat), s.readyY d t = true →
     ((s.regsY d t).addressOf pn.toNat am.toNat imm 16 4 false = .fault n →
       (s.clashes d t [.v v.toNat, .p pn.toNat] = false → exec (.vld d t true v pn am imm) s = .next ((s.inY d t).tileFault d t n))
       ∧ (s.clashes d t [.p pn.toNat] = false → exec (.vst d t true v pn am imm) s = .next ((s.inY d t).tileFault d t n)))
     ∧ ((s.regsY d t).addressOf pn.toNat am.toNat imm 1 (scalarBytes size) true = .fault n →
       (s.clashes d t [.s sd.toNat, .p pn.toNat] = false → exec (.scalarLoad d t true sd size pn am imm) s = .next ((s.inY d t).tileFault d t n))
       ∧ (s.clashes d t [.p pn.toNat] = false → exec (.scalarStore d t true sd size pn am imm) s = .next ((s.inY d t).tileFault d t n)))
     ∧ (v = 31 → s.clashes d t [.v 31, .v 32, .p pn.toNat] = false → exec (.vlds d t true v pn am imm) s = .next ((s.inY d t).tileFault d t 0))) ∧
  -- an uncorrectable element (R99)
  (∀ (d : Clu) (t : Tix) (v : VReg) (pn : PReg) (am : W2) (imm : W16) (s m : State) (l : List Nat) (p : W32) (w : List W32), s.readyY d t = true →
     s.clashes d t [.v v.toNat, .p pn.toNat] = false → (s.regsY d t).addressOf pn.toNat am.toNat imm 16 4 false = .ok l p →
     (s.inY d t).readElems d t l = (m, w, true) → exec (.vld d t true v pn am imm) s = .next (m.tileFault d t 6))

/-- In slot Y, a multiply whose product fits writes it, moves and pointer adds write their register, PADD under modulo keeps the pointer in the buffer or faults, and MOVC reads and writes the control registers: MODE acts one bundle later, the saturation words and WIN_REFUSED clear where 1 is written; every other register stays. What R105 leaves open (the scalar ALU, a product that does not fit, an immediate with bit 15 set, a reserved control register) is a free value. Where a clause rests on a choice or an inference of the model and no rule, that is log entries 51, 56 and 60. -/
def Obligations.ScalarAndControl : Prop :=
  -- SCALAR_MULTIPLY (R105)
  (∀ (d : Clu) (t : Tix) (sd sa sb : SReg) (s : State) (r q : TileRegs) (x : Int), s.readyY d t = true → s.clashes d t [.s sd.toNat] = false →
     r = s.regsY d t → q = (s.tile d t).regs → x = (r.getS sa.toNat).toInt * (r.getS sb.toNat).toInt →
     ∃ v : W32, IssuesY (.scalarMultiply d t true sd sa sb) s d t (q.setS sd.toNat v) .next
       ∧ (-2147483648 ≤ x → x ≤ 2147483647 → v.toInt = x)) ∧
  -- IMMEDIATE_MOVE (R105)
  (∀ (d : Clu) (t : Tix) (sd : SReg) (imm : W16) (s : State), s.readyY d t = true → s.clashes d t [.s sd.toNat] = false →
     ∃ v : W32, IssuesY (.immediateMove d t true sd imm) s d t ((s.tile d t).regs.setS sd.toNat v) .next
       ∧ v.toNat % 65536 = imm.toNat ∧ (imm.toNat < 32768 → v.toNat = imm.toNat)) ∧
  -- SCALAR_ALU (R105): the value is free
  (∀ (d : Clu) (t : Tix) (fn : W5) (sd sa sb : SReg) (s : State), s.readyY d t = true → s.clashes d t [.s sd.toNat] = false →
     IssuesY (.scalarAlu d t true fn sd sa sb) s d t
       ((s.tile d t).regs.setS sd.toNat (Config.scalarAlu fn ((s.regsY d t).getS sa.toNat) ((s.regsY d t).getS sb.toNat))) .next) ∧
  -- PMOV, BMOV, LMOV, PADD (R90)
  (∀ (d : Clu) (t : Tix) (pn : PReg) (sa : SReg) (imm : W16) (s : State) (r q : TileRegs), s.readyY d t = true → r = s.regsY d t →
     q = (s.tile d t).regs →
     (s.clashes d t [.p pn.toNat] = false → IssuesY (.pmov d t true pn sa) s d t (q.setP pn.toNat (r.getS sa.toNat)) .next
       ∧ IssuesY (.padd d t true pn imm) s d t (q.setP pn.toNat (r.getP pn.toNat + imm.signExtend 32)) .next)
     ∧ (s.clashes d t [.b pn.toNat] = false → IssuesY (.bmov d t true pn sa) s d t (q.setB pn.toNat (r.getS sa.toNat)) .next)
     ∧ (s.clashes d t [.l pn.toNat] = false → IssuesY (.lmov d t true pn sa) s d t (q.setL pn.toNat (r.getS sa.toNat)) .next)) ∧
  -- PADD_M (R87, R88, R90)
  (∀ (d : Clu) (t : Tix) (pn : PReg) (imm : W16) (s : State) (q : TileRegs) (p b l : Nat), s.readyY d t = true → s.clashes d t [.p pn.toNat] = false →
     q = (s.tile d t).regs → p = ((s.regsY d t).getP pn.toNat).toNat → b = ((s.regsY d t).getB pn.toNat).toNat → l = ((s.regsY d t).getL pn.toNat).toNat →
     (l = 0 → IssuesY (.paddM d t true pn imm) s d t (q.setP pn.toNat (w32 ((p : Int) + imm.toInt))) .next)
     ∧ (l ≠ 0 → l % 4 = 0 → l ≤ 262144 → b ≤ p → p < b + l →
         IssuesY (.paddM d t true pn imm) s d t (q.setP pn.toNat (w32 ((b : Int) + ((p : Int) - b + imm.toInt) % l))) .next)
     ∧ (l % 4 ≠ 0 → exec (.paddM d t true pn imm) s = .next ((s.inY d t).tileFault d t 2))
     ∧ (l ≠ 0 → l % 4 = 0 → (262144 < l ∨ p < b ∨ b + l ≤ p) → exec (.paddM d t true pn imm) s = .next ((s.inY d t).tileFault d t 3))) ∧
  -- MOVC_READ
  (∀ (d : Clu) (t : Tix) (sd : SReg) (idx : W6) (s : State) (r : TileRegs), s.readyY d t = true → s.clashes d t [.s sd.toNat] = false → r = s.regsY d t →
     ∃ v : W32, IssuesY (.movcRead d t true sd idx) s d t ((s.tile d t).regs.setS sd.toNat v) .next
       ∧ (idx = 0 → v.toNat = b2n r.rndReg) ∧ (idx = 0x20 → v.toNat = s.vaneSince d (s.tile d t).startCyc % 2 ^ 32)
       ∧ (idx = 1 → v.toNat = (r.ret.length * 256 + r.loops.length) % 2 ^ 32)
       ∧ (∀ i < 4, idx.toNat = 4 + i → v = r.accSat.extractLsb' (32 * i) 32) ∧ (idx = 8 → v.toNat = r.extSat.toNat)
       ∧ (∀ k < 4, ∀ l, r.loops.reverse[k]? = some l → (idx.toNat = 0x10 + k → v = l.lc) ∧ (idx.toNat = 0x14 + k → v = BitVec.ofNat 32 l.ls)
           ∧ (idx.toNat = 0x18 + k → v = BitVec.ofNat 32 l.le))
       ∧ (idx = 0x21 → bitsOf v 7 0 = (s.tile d t).outstanding.toNat ∧ bitsOf v 23 20 = (s.tile d t).winRefused.toNat
           ∧ ((s.tile d t).dma.length ≤ 8 → bitsOf v 31 24 = 8 - (s.tile d t).dma.length))) ∧
  -- MOVC_WRITE of MODE, of the saturation words (a bit that slot X sets in the bundle stays set, R10), of DMA_STAT and of any other register
  (∀ (d : Clu) (t : Tix) (idx : W6) (sa : SReg) (s : State) (v : W32) (r q : TileRegs), s.readyY d t = true →
     s.clashes d t [.ctrl idx.toNat] = false → r = s.regsY d t → q = (s.tile d t).regs → v = r.getS sa.toNat →
     (idx = 0 → IssuesY (.movcWrite d t true idx sa) s d t { q with rndReg := bit v 0 } .next)
     ∧ (∀ i < 4, idx.toNat = 4 + i → ∃ w, IssuesY (.movcWrite d t true idx sa) s d t { q with accSat := w } .next
         ∧ ∀ n < 128, w.getLsbD n = (q.accSat.getLsbD n && !(decide (32 * i ≤ n) && v.getLsbD (n - 32 * i)) || q.accNew.getLsbD n))
     ∧ (idx = 8 → ∃ w, IssuesY (.movcWrite d t true idx sa) s d t { q with extSat := w } .next
         ∧ ∀ n < 16, w.getLsbD n = (q.extSat.getLsbD n && !v.getLsbD n || q.extNew.getLsbD n))
     ∧ (idx = 0x21 → exec (.movcWrite d t true idx sa) s = .next (((s.inY d t).setTile d t { (s.inY d t).tile d t with
         winRefused := (s.tile d t).winRefused &&& ~~~ (v.extractLsb' 20 4) }).finishBundle d t .next))
     ∧ (idx.toNat ≠ 0 → idx.toNat < 4 ∨ 8 < idx.toNat → idx ≠ 0x21 → exec (.movcWrite d t true idx sa) s = .next ((s.inY d t).tileFault d t 0)))

/-- A taken branch, and a return at the last bundle of a body, goes to its target and pops the levels whose body does not hold it; another return pops none; a branch not taken goes on; the coprocessor instructions behind a transfer are handed over and squashed; CALL pushes the bundle the end of the body selects and keeps every level; REPEAT pushes a level or skips its body; a repeat of no bundles, a fifth level, a ninth call and a return from nothing fault. At the end of a bundle the innermost level that ends there loops back while its count is above 1 and otherwise pops. Where a clause rests on a choice or an inference of the model and no rule, that is log entries 55, 57 and 169. -/
def Obligations.ControlFlow : Prop :=
  -- BRANCH (R92, R108); a target outside the program memory wraps (DESIGN CHOICE, log 169)
  (∀ (d : Clu) (t : Tix) (cond : W4) (sa : SReg) (off : W17) (s : State) (q : TileRegs) (x : Int), s.readyY d t = true → q = (s.tile d t).regs →
     x = ((s.regsY d t).getS sa.toNat).toInt →
     (∀ b, b = [true, decide (x = 0), decide (x ≠ 0), decide (x < 0), decide (0 ≤ x), decide (0 < x), decide (x ≤ 0)][cond.toNat]? →
       (b = some true → IssuesY (.branch d t true cond sa off {}) s d t q
         (.jump ((((s.regsY d t).pc : Int) + off.toInt) % 16384).toNat))
       ∧ (b = some false → IssuesY (.branch d t true cond sa off {}) s d t q .next))
     ∧ (7 ≤ cond.toNat → exec (.branch d t true cond sa off {}) s = .next ((s.inY d t).tileFault d t 0))) ∧
  -- CALL and RET (R93)
  (∀ (d : Clu) (t : Tix) (off : W17) (s : State) (r q : TileRegs), s.readyY d t = true → r = s.regsY d t → q = (s.tile d t).regs →
     (r.ret.length < 8 → IssuesY (.call d t true off {}) s d t q (.call (((r.pc : Int) + off.toInt) % 16384).toNat))
     ∧ (8 ≤ r.ret.length → exec (.call d t true off {}) s = .next ((s.inY d t).tileFault d t 4))
     ∧ (r.ret ≠ [] → IssuesY (.ret d t true {}) s d t q .ret)
     ∧ (r.ret = [] → exec (.ret d t true {}) s = .next ((s.inY d t).tileFault d t 4))) ∧
  -- the squash of BRANCH, CALL and RET (R127, R128): sq holds the coprocessor instructions behind them
  (∀ (d : Clu) (t : Tix) (sa : SReg) (off : W17) (sq : Squash) (s : State) (q : TileRegs) (y x : Tile) (tags : List Nat), s.readyY d t = true →
     q = (s.tile d t).regs → tags = (List.range sq.behind.length).map (fun i => ((s.tile d t).copTag + i) % 16) →
     y = sq.behind.foldl Tile.handOver (s.tile d t) → x = (if sq.began then y.beginBehind tags else y).squashTags tags →
     (∀ o ∈ x.copQ, o.tag ∉ tags) ∧ (∀ o, x.copUnit = some o → o.tag ∈ tags → x.copStop = true)
     ∧ Completes (.branch d t true 0 sa off sq) s (fun u => (s.inY d t).TileIs u d t (x.didY q (.jump ((((s.regsY d t).pc : Int) + off.toInt) % 16384).toNat)))
     ∧ ((s.regsY d t).ret.length < 8 → Completes (.call d t true off sq) s (fun u =>
         (s.inY d t).TileIs u d t (x.didY q (.call (((s.regsY d t).pc + off.toInt) % 16384).toNat))))
     ∧ ((s.regsY d t).ret ≠ [] → Completes (.ret d t true sq) s (fun u => (s.inY d t).TileIs u d t (x.didY q .ret)))) ∧
  -- REPEAT (R91)
  (∀ (d : Clu) (t : Tix) (src : Bool) (count : W12) (sa : SReg) (len : W13) (s : State) (q : TileRegs) (n : Nat), s.readyY d t = true →
     q = (s.tile d t).regs → n = (if src then ((s.regsY d t).getS sa.toNat).toNat else count.toNat) →
     (len ≠ 0 → n = 0 ∨ (s.regsY d t).loops.length < 4 → IssuesY (.repeatLoop d t true src count sa len) s d t q (.rep n len.toNat))
     ∧ (len = 0 → exec (.repeatLoop d t true src count sa len) s = .next ((s.inY d t).tileFault d t 0))
     ∧ (len ≠ 0 → n ≠ 0 → 4 ≤ (s.regsY d t).loops.length → exec (.repeatLoop d t true src count sa len) s = .next ((s.inY d t).tileFault d t 1))) ∧
  -- the end of a bundle without a transfer (R81, R91)
  (∀ (r u : TileRegs), u = r.endBundle .next → u.rnd = r.rndNext ∧ u.rndNext = r.rndReg ∧ u.ret = r.ret
     ∧ (∀ l ls, r.loops = l :: ls → l.le = r.pc → 1 < l.lc.toNat → u.pc = l.ls ∧ u.loops = ⟨l.lc - 1, l.ls, l.le⟩ :: ls)
     ∧ (∀ l ls, r.loops = l :: ls → l.le = r.pc → l.lc.toNat ≤ 1 → u.pc = (({ r with loops := ls } : TileRegs).endBundle .next).pc
         ∧ u.loops = (({ r with loops := ls } : TileRegs).endBundle .next).loops)
     ∧ ((∀ l ∈ r.loops, l.le ≠ r.pc) → u.pc = (r.pc + 1) % 16384 ∧ u.loops = r.loops)) ∧
  -- the end of a bundle with a transfer (R91 to R93)
  (∀ (r : TileRegs) (a n len : Nat),
     (∀ u, u = r.endBundle (.jump a) → u.pc = a ∧ u.ret = r.ret ∧ (∀ l ∈ u.loops, l ∈ r.loops ∧ l.ls ≤ a ∧ a ≤ l.le)
       ∧ ((∀ l ∈ r.loops, l.ls ≤ a ∧ a ≤ l.le) → u.loops = r.loops))
     ∧ (∀ u, u = r.endBundle (.call a) → u.pc = a ∧ u.ret = (r.endBundle .next).pc :: r.ret ∧ u.loops = (r.endBundle .next).loops)
     ∧ (∀ b bs u, r.ret = b :: bs → u = r.endBundle .ret → u.pc = b ∧ u.ret = bs
       ∧ u.loops = (if r.loops.any (fun l => decide (l.le = r.pc)) then (r.endBundle (.jump b)).loops else r.loops))
     ∧ (r.endBundle (.rep 0 len)).pc = (r.pc + len + 1) % 16384 ∧ (r.endBundle (.rep 0 len)).loops = r.loops
     ∧ (0 < n → n < 2 ^ 32 → 1 < len → (r.pc + len) % 16384 ≠ r.pc → (∀ l ∈ r.loops, l.le ≠ r.pc) →
         (r.endBundle (.rep n len)).pc = (r.pc + 1) % 16384
         ∧ (r.endBundle (.rep n len)).loops = ⟨BitVec.ofNat 32 n, (r.pc + 1) % 16384, (r.pc + len) % 16384⟩ :: r.loops))

/-- END stops issue and leaves the tile draining; a tile outside a fenced quadrant that has ended or faulted and has no DMA entry left reports its task and becomes idle; a task over its limit, an instruction in the wrong slot and two slots that write one register stop the tile with their cause, its registers as they were before the bundle, its task poisoned. Where a clause rests on a choice or an inference of the model and no rule, that is log entries 53 and 54. -/
def Obligations.TileLife : Prop :=
  -- END (R96): no failed entry, and no saturation that is to be reported
  (∀ (d : Clu) (t : Tix) (s : State) (x : Tile), s.readyY d t = true → (s.tile d t).dmaErr = 0 →
     bit (s.reg (pgCLU d + 0x040)) 2 = false ∨ (s.tile d t).regs.accSat = 0 ∧ (s.tile d t).regs.extSat = 0 → x = { (s.tile d t).didY (s.tile d t).regs .next with phase := .ending, win := [], copQ := [], copStop := (s.tile d t).copUnit.isSome } →
     Completes (.endTask d t true) s (fun u => (s.inY d t).TileIs u d t x)) ∧
  -- END with a saturation that is to be reported (R84, R86)
  (∀ (d : Clu) (t : Tix) (s : State), s.readyY d t = true → (s.tile d t).dmaErr = 0 → bit (s.reg (pgCLU d + 0x040)) 2 = true →
     (s.tile d t).regs.accSat ≠ 0 ∨ (s.tile d t).regs.extSat ≠ 0 →
     Completes (.endTask d t true) s (fun u => (u.tile d t).phase = .ending ∧ bit (u.reg (pgCLU d + 0x010)) 12 = true)) ∧
  -- END while an entry has failed and no DMAWAIT has covered it (R101)
  (∀ (d : Clu) (t : Tix) (s : State), s.readyY d t = true → (s.tile d t).dmaErr ≠ 0 →
     exec (.endTask d t true) s = .next ((s.inY d t).tileFault d t 8)) ∧
  -- TASK_FINISH_REPORT (R96, R147)
  (∀ (d : Clu) (t : Tix) (s : State) (u : Task), s.fenced (d.val / 6) = false → (s.tile d t).phase = .ending ∨ (s.tile d t).phase = .faulted →
     (s.tile d t).dma = [] → s.findTask (s.tile d t).ring (s.tile d t).seq = some u →
     Completes (.taskFinishReport d t) s (fun w => w.tile d t = {} ∧ (∀ e k, 8 * e + k ≠ 8 * d.val + t.val → w.tile e k = s.tile e k)
       ∧ w.tasks = s.tasks.map (fun v => if Task.is (s.tile d t).ring (s.tile d t).seq v then { v with
           place := .reported, finish := if v.abandoned then v.finish else s.pt,
           partnerLost := u.partnerEn && decide (s.depCount u.partner ≠ BitVec.ofNat 8 u.dep), loc := locTile d t } else v)
       ∧ OnlyParts [.sluice, .tiles] s w)) ∧
  -- TASK_LIMIT (R97)
  (∀ (d : Clu) (t : Tix) (s : State), (s.tile d t).running = true → (s.tile d t).limitKc ≠ 0 →
     exec (.taskLimit d t) s = .next (s.tileFault d t 5)) ∧
  -- a fault of a tile (R103, R104)
  (∀ (d : Clu) (t : Tix) (n : Nat) (s : State) (x : Tile), x = s.tile d t →
     (s.tileFault d t n).tile d t = { x with
       regs := (match x.snap with | some p => p.1 | none => x.regs), phase := .faulted, win := [], snap := none, xDst := [],
       stallX := false, stallY := false, copQ := [], copStop := x.copUnit.isSome }
     ∧ (s.tileFault d t n).tasks = s.tasks.map (fun v => if Task.is x.ring x.seq v then { v with poisoned := true } else v)
     ∧ OnlyParts (eventsAnd [.sluice, .tiles]) s (s.tileFault d t n)) ∧
  -- an instruction in the wrong slot (R79), and one register written by both slots (R80)
  (∀ (d : Clu) (t : Tix) (vd va vb : VReg) (pn : PReg) (sa : SReg) (s : State),
     (s.readyX d t = true → (s.tile d t).stallX = false → exec (.pmov d t false pn sa) s = .next ((s.inX d t).tileFault d t 0))
     ∧ (s.readyY d t = true → (s.tile d t).stallY = false → exec (.vecAdd d t true vd va vb) s = .next ((s.inY d t).tileFault d t 0))
     ∧ (s.readyY d t = true → s.clashes d t [.p pn.toNat] = true → exec (.pmov d t true pn sa) s = .next (s.tileFault d t 0))) ∧
  -- a bundle that lies outside the kernel (R108)
  (∀ (d : Clu) (t : Tix) (vd va vb : VReg) (s : State) (b : State), (s.tile d t).running = true → (s.tile d t).stallY = false → b = s.atBundle d t →
     (b.tile d t).regs.pc < (b.tile d t).kbase ∨ (b.tile d t).kbase + (b.tile d t).klen ≤ (b.tile d t).regs.pc →
     exec (.vecAdd d t false vd va vb) s = .next (b.tileFault d t 0))

/-- A DMAQ whose operands meet the constraints queues its entry, with its registers advanced where it asks for that; a full queue stalls the bundle; a broken constraint faults. An entry of which no earlier one carries the tag completes: its bytes are copied and it leaves the queue, and a failure is noted under its tag. DMAWAIT goes on once its tags are quiet and without failure, stalls or faults. WINARM arms a window, is refused where its key is armed on another tile of the cluster, or faults. Where a clause rests on a choice or an inference of the model and no rule, that is log entries 58, 59, 60 and 189. -/
def Obligations.DmaAndWindows : Prop :=
  -- DMAQ_IN and DMAQ_OUT without advance (R100)
  (∀ (d : Clu) (t : Tix) (out : Bool) (pn : PReg) (sf sl : SReg) (tag : W3) (s : State) (r : TileRegs) (p l far len : Nat), s.readyY d t = true →
     r = s.regsY d t → p = (r.getP pn.toNat).toNat → l = (r.getL pn.toNat).toNat → len = (r.getS sl.toNat).toNat →
     far = (r.getS sf.toNat).toNat + 4294967296 * (r.getS (sf.toNat + 1)).toNat → sf.toNat % 2 = 0 → (s.tile d t).dma.length < 8 →
     p % 4 = 0 → far % 4 = 0 → len % 4 = 0 → 4 ≤ len → len ≤ 65536 → l = 0 → p + len ≤ 0x40000 →
     exec (if out then .dmaqOut d t true pn sf sl tag false else .dmaqIn d t true pn sf sl tag false) s
       = .next (((s.inY d t).setTile d t { (s.inY d t).tile d t with
           dma := (s.tile d t).dma ++ [⟨out, p, (r.getB pn.toNat).toNat, l, far, len, tag.toNat, false⟩] }).finishBundle d t .next)) ∧
  -- DMAQ_IN and DMAQ_OUT with advance, within a buffer (R100, R102)
  (∀ (d : Clu) (t : Tix) (out : Bool) (pn : PReg) (sf sl : SReg) (tag : W3) (s : State) (r : TileRegs) (p b l far len : Nat), s.readyY d t = true →
     s.clashes d t [.p pn.toNat, .s sf.toNat, .s (sf.toNat + 1)] = false → r = s.regsY d t → p = (r.getP pn.toNat).toNat →
     b = (r.getB pn.toNat).toNat → l = (r.getL pn.toNat).toNat → len = (r.getS sl.toNat).toNat →
     far = (r.getS sf.toNat).toNat + 4294967296 * (r.getS (sf.toNat + 1)).toNat → sf.toNat % 2 = 0 → (s.tile d t).dma.length < 8 →
     p % 4 = 0 → b % 4 = 0 → far % 4 = 0 → len % 4 = 0 → 4 ≤ len → len ≤ 65536 → l ≠ 0 → l % 4 = 0 → b ≤ p → p < b + l → b + l ≤ 0x40000 →
     exec (if out then .dmaqOut d t true pn sf sl tag true else .dmaqIn d t true pn sf sl tag true) s
       = .next ((((s.inY d t).setTile d t { (s.inY d t).tile d t with
           dma := (s.tile d t).dma ++ [⟨out, p, b, l, far, len, tag.toNat, false⟩] }).upd d t (fun q =>
             ((q.setP pn.toNat (w32 ((b : Int) + ((p : Int) - b + len) % l))).setS sf.toNat (BitVec.ofNat 32 (far + len))).setS
               (sf.toNat + 1) (BitVec.ofNat 32 ((far + len) / 4294967296)))).finishBundle d t .next)) ∧
  -- DMAQ that faults or stalls (R88, R100)
  (∀ (d : Clu) (t : Tix) (out adv : Bool) (pn : PReg) (sf sl : SReg) (tag : W3) (c : Instr) (s : State) (r : TileRegs) (p b l far len : Nat),
     c = (if out then .dmaqOut d t true pn sf sl tag adv else .dmaqIn d t true pn sf sl tag adv) → s.readyY d t = true →
     s.clashes d t (if adv then [.p pn.toNat, .s sf.toNat, .s (sf.toNat + 1)] else []) = false → r = s.regsY d t → p = (r.getP pn.toNat).toNat →
     b = (r.getB pn.toNat).toNat → l = (r.getL pn.toNat).toNat → len = (r.getS sl.toNat).toNat →
     far = (r.getS sf.toNat).toNat + 4294967296 * (r.getS (sf.toNat + 1)).toNat →
     (sf.toNat % 2 = 1 → exec c s = .next ((s.inY d t).tileFault d t 0))
     ∧ (sf.toNat % 2 = 0 → 8 ≤ (s.tile d t).dma.length → exec c s = .next ((s.inY d t).setTile d t { (s.inY d t).tile d t with stallY := true }))
     ∧ (sf.toNat % 2 = 0 → (s.tile d t).dma.length < 8 → (p % 4 ≠ 0 ∨ far % 4 ≠ 0 ∨ len % 4 ≠ 0 ∨ len = 0 ∨ 65536 < len) →
         exec c s = .next ((s.inY d t).tileFault d t 2))
     ∧ (sf.toNat % 2 = 0 → (s.tile d t).dma.length < 8 → p % 4 = 0 → far % 4 = 0 → len % 4 = 0 → 4 ≤ len → len ≤ 65536 →
         (l % 4 ≠ 0 → exec c s = .next ((s.inY d t).tileFault d t 2))
         ∧ (l ≠ 0 → l % 4 = 0 → (262144 < l ∨ p < b ∨ b + l ≤ p) → exec c s = .next ((s.inY d t).tileFault d t 3))
         ∧ (l = 0 → 0x40000 < p + len → exec c s = .next ((s.inY d t).tileFault d t 3)))) ∧
  -- DMA_ENTRY_DONE of an entry out, from linear clean memory into memory (R100): the bytes arrive and the entry goes
  (∀ (d : Clu) (t : Tix) (i : W3) (s w : State) (e : DmaEntry) (x : Tile) (bytes : List PByte), x = s.tile d t → x.dma[i.toNat]? = some e →
     (∀ f ∈ x.dma.take i.toNat, f.tag ≠ e.tag) → e.out = true → s.readNear d t e.nearAddrs = (s, bytes) → anyPoison bytes = false →
     s.devWrite { cg := some x.cg, quad := d.val / 6, old := e.old } e.far bytes = (w, true) →
     exec (.dmaEntryDone d t i) s = .next (w.setTile d t { w.tile d t with dma := (w.tile d t).dma.eraseIdx i.toNat })) ∧
  -- DMA_ENTRY_DONE of an entry in that read without failure (R100)
  (∀ (d : Clu) (t : Tix) (i : W3) (s w m : State) (e : DmaEntry) (x : Tile) (bytes : List PByte), x = s.tile d t → x.dma[i.toNat]? = some e →
     (∀ f ∈ x.dma.take i.toNat, f.tag ≠ e.tag) → e.out = false → s.devRead { cg := some x.cg, quad := d.val / 6, old := e.old } e.far e.len = (m, bytes, true) → anyPoison bytes = false →
     w = m.writeElems d t ((e.nearAddrs.zip (bytesElems bytes)).map (fun y => (y.1, y.2.1, y.2.2))) →
     exec (.dmaEntryDone d t i) s = .next (w.setTile d t { w.tile d t with dma := (w.tile d t).dma.eraseIdx i.toNat })) ∧
  -- DMA_ENTRY_DONE of an entry that failed, its task running (R101)
  (∀ (d : Clu) (t : Tix) (i : W3) (s w : State) (e : DmaEntry) (x : Tile), x = s.tile d t → x.dma[i.toNat]? = some e →
     (∀ f ∈ x.dma.take i.toNat, f.tag ≠ e.tag) → s.runDma d t e = (w, true) → (w.tile d t).phase = .running →
     exec (.dmaEntryDone d t i) s = .next (w.setTile d t { w.tile d t with
       dma := (w.tile d t).dma.eraseIdx i.toNat, dmaErr := putFld (w.tile d t).dmaErr e.tag e.tag 1 })) ∧
  -- DMA_ENTRY_DONE of an entry that failed after the END of its task (R101)
  (∀ (d : Clu) (t : Tix) (i : W3) (s w : State) (e : DmaEntry) (x : Tile), x = s.tile d t → x.dma[i.toNat]? = some e →
     (∀ f ∈ x.dma.take i.toNat, f.tag ≠ e.tag) → s.runDma d t e = (w, true) → (w.tile d t).phase = .ending →
     exec (.dmaEntryDone d t i) s = .next ((w.setTile d t { w.tile d t with dma := (w.tile d t).dma.eraseIdx i.toNat }).tileFault d t 8)) ∧
  -- DMAWAIT (R100, R101)
  (∀ (d : Clu) (t : Tix) (mask : W8) (s : State), s.readyY d t = true →
     ((s.tile d t).outstanding &&& mask = 0 → (s.tile d t).dmaErr &&& mask = 0 → IssuesY (.dmawait d t true mask) s d t (s.tile d t).regs .next)
     ∧ ((s.tile d t).outstanding &&& mask ≠ 0 →
         exec (.dmawait d t true mask) s = .next ((s.inY d t).setTile d t { (s.inY d t).tile d t with stallY := true }))
     ∧ ((s.tile d t).outstanding &&& mask = 0 → (s.tile d t).dmaErr &&& mask ≠ 0 →
         exec (.dmawait d t true mask) s = .next ((s.inY d t).tileFault d t 8))) ∧
  -- WINARM (R102)
  (∀ (d : Clu) (t : Tix) (w : W2) (sa sb sc : SReg) (s : State) (r : TileRegs) (base len key : Nat), s.readyY d t = true → r = s.regsY d t →
     base = (r.getS sa.toNat).toNat → len = (r.getS sb.toNat).toNat → key = (r.getS sc.toNat).toNat % 4096 →
     (base % 8 = 0 → len % 8 = 0 → base + len ≤ 0x40000 → (∀ k < 8, k ≠ t.val → ∀ v < 4, (((s.tile d k).window v).armed = true → ((s.tile d k).window v).key ≠ key)) →
       exec (.winarm d t true w sa sb sc) s = .next (((s.inY d t).setTile d t { ((s.inY d t).tile d t).setWindow w.toNat
           ⟨true, base, len, key, false, (s.tile d t).armings + 1⟩ with
         armings := (s.tile d t).armings + 1, winRefused := putFld (s.tile d t).winRefused w.toNat w.toNat 0 }).finishBundle d t .next))
     ∧ (base % 8 = 0 → len % 8 = 0 → base + len ≤ 0x40000 → (∃ k < 8, k ≠ t.val ∧ ∃ v < 4, ((s.tile d k).window v).armed = true ∧ ((s.tile d k).window v).key = key) →
       exec (.winarm d t true w sa sb sc) s = .next (((s.inY d t).setTile d t { ((s.inY d t).tile d t).setWindow w.toNat {} with
         winRefused := putFld (s.tile d t).winRefused w.toNat w.toNat 1 }).finishBundle d t .next))
     ∧ (base % 8 ≠ 0 ∨ len % 8 ≠ 0 → exec (.winarm d t true w sa sb sc) s = .next ((s.inY d t).tileFault d t 2))
     ∧ (base % 8 = 0 → len % 8 = 0 → 0x40000 < base + len → exec (.winarm d t true w sa sb sc) s = .next ((s.inY d t).tileFault d t 3)))

/-- Where the coprocessor is enabled, each instruction handed over takes the next tag; a move into an M register that no older operation touches writes its two rows, clears its flags and sets its exponent where asked; a move out of one that none has yet to write copies them; an operation joins the queue of four; MSTAT and MWAIT go on when nothing is queued or running; each stalls its bundle otherwise. The oldest operation starts when the unit is free and writes its result at its end; a stopping unit writes nothing. A disabled coprocessor raises ILLEGAL_INSN. Where a clause rests on a choice or an inference of the model and no rule, that is log entries 63 and 171. -/
def Obligations.CoprocessorIssue : Prop :=
  -- MV_M (R116, R120)
  (∀ (d : Clu) (t : Tix) (md : MReg) (va : VReg) (k : W2) (sete : Bool) (ex : W5) (s : State) (r : TileRegs), s.readyX d t = true →
     (s.inX d t).copEn d = true → r = s.regsX d t →
     ((s.atBundle d t).tile d t).pendW md.toNat = false → ((s.atBundle d t).tile d t).pendR md.toNat = false →
     ∃ m, IssuesCop (.mvM d t false md va k sete ex) s d t [.m md.toNat] { r with
         m := m, mFlags := tabSet (fun _ => 0) r.mFlags md.toNat 0, mExp := if sete then tabSet (fun _ => 0) r.mExp md.toNat ex else r.mExp }
       ∧ (∀ i < 16, tabGet (fun _ => 0) m (64 * md.toNat + 16 * k.toNat + i) = vecElem (r.getV va.toNat) i)
       ∧ (∀ j, j < 64 * md.toNat + 16 * k.toNat ∨ 64 * md.toNat + 16 * k.toNat + 16 ≤ j → tabGet (fun _ => 0) m j = tabGet (fun _ => 0) r.m j)) ∧
  -- MV_V (R116, R120)
  (∀ (d : Clu) (t : Tix) (vd : VReg) (ma : MReg) (k : W2) (s : State) (r : TileRegs), s.readyX d t = true → (s.inX d t).copEn d = true →
     r = s.regsX d t → ((s.atBundle d t).tile d t).pendW ma.toNat = false →
     ∃ v, IssuesCop (.mvV d t false vd ma k) s d t [.v vd.toNat] (r.setV vd.toNat v)
       ∧ ∀ i < 16, vecElem v i = tabGet (fun _ => 0) r.m (64 * ma.toNat + 16 * k.toNat + i)) ∧
  -- moves that wait (R120), and a coprocessor that is not enabled (R112)
  (∀ (d : Clu) (t : Tix) (md : MReg) (va vd : VReg) (k : W2) (sete : Bool) (ex : W5) (s b : State), s.readyX d t = true → b = s.atBundle d t →
     ((s.inX d t).copEn d = true → (b.tile d t).pendW md.toNat = true →
       exec (.mvM d t false md va k sete ex) s = .next (b.setTile d t { b.tile d t with stallX := true })
       ∧ exec (.mvV d t false vd md k) s = .next (b.setTile d t { b.tile d t with stallX := true }))
     ∧ ((s.inX d t).copEn d = true → (b.tile d t).pendR md.toNat = true →
       exec (.mvM d t false md va k sete ex) s = .next (b.setTile d t { b.tile d t with stallX := true }))
     ∧ ((s.inX d t).copEn d = false → exec (.mvM d t false md va k sete ex) s = .next ((s.inX d t).tileFault d t 0)
       ∧ exec (.mvV d t false vd md k) s = .next ((s.inX d t).tileFault d t 0) ∧ exec (.mwait d t false) s = .next ((s.inX d t).tileFault d t 0)
       ∧ exec (.mstat d t false vd) s = .next ((s.inX d t).tileFault d t 0))) ∧
  -- MMUL, MADD, MSUB, MHERM, MCHOL, MTRS, MQR, MINV enter the queue (R113, R118)
  (∀ (d : Clu) (t : Tix) (n : W3) (md mr ma mb : MReg) (ha hb : Bool) (s : State) (x : Tile) (op : CopKind → Nat → Nat → CopOp)
     (P : Instr → CopOp → Prop), s.readyX d t = true → (s.inX d t).copEn d = true → x = (s.atBundle d t).tile d t → x.copQ.length < 4 →
     op = (fun k r b => ⟨x.copTag, k, n.toNat + 1, md.toNat, r, ma.toNat, b⟩) →
     P = (fun c o => Completes c s (fun u => (s.inX d t).TileIs u d t { x.didX [] x.regs with copQ := x.copQ ++ [o], copTag := (x.copTag + 1) % 16 })) →
     P (.mmul d t false n md ma mb ha hb) (op (.mmul ha hb) 0 mb.toNat) ∧ P (.madd d t false n md ma mb) (op .madd 0 mb.toNat)
     ∧ P (.msub d t false n md ma mb) (op .msub 0 mb.toNat) ∧ P (.mherm d t false n md ma) (op .mherm 0 0)
     ∧ P (.mchol d t false n md ma) (op .mchol 0 0) ∧ P (.mtrs d t false n md ma mb ha hb) (op (.mtrs ha hb) 0 mb.toNat)
     ∧ (md ≠ mr → P (.mqr d t false n md mr ma) (op .mqr mr.toNat 0)) ∧ P (.minv d t false n md ma) (op .minv 0 0)) ∧
  -- a full queue (R119), and MQR of one register twice
  (∀ (d : Clu) (t : Tix) (n : W3) (md ma mb : MReg) (s b : State), s.readyX d t = true → (s.inX d t).copEn d = true → b = s.atBundle d t →
     (4 ≤ (b.tile d t).copQ.length → exec (.madd d t false n md ma mb) s = .next (b.setTile d t { b.tile d t with stallX := true }))
     ∧ exec (.mqr d t false n md md ma) s = .next ((s.inX d t).tileFault d t 0)) ∧
  -- MSTAT and MWAIT (R120, R126)
  (∀ (d : Clu) (t : Tix) (vd : VReg) (s b : State) (r : TileRegs), s.readyX d t = true → (s.inX d t).copEn d = true → r = s.regsX d t → b = s.atBundle d t →
     ((b.tile d t).copLive = [] → IssuesCop (.mwait d t false) s d t [] r ∧ ∃ v, IssuesCop (.mstat d t false vd) s d t [.v vd.toNat] (r.setV vd.toNat v)
       ∧ ∀ m < 16, elemRe v m = (r.exp m).toInt ∧ elemIm v m = ((r.flags m).toNat : Int))
     ∧ ((b.tile d t).copLive ≠ [] → exec (.mwait d t false) s = .next (b.setTile d t { b.tile d t with stallX := true })
       ∧ exec (.mstat d t false vd) s = .next (b.setTile d t { b.tile d t with stallX := true }))) ∧
  -- COP_OP_START (R118)
  (∀ (d : Clu) (t : Tix) (s : State) (x : Tile) (o : CopOp) (rest : List CopOp), x = s.tile d t → x.copUnit = none →
     (match x.snap with | some p => p.2 | none => x.copQ) = o :: rest →
     exec (.copOpStart d t) s = .next (s.setTile d t { x with
       copUnit := some o, copStop := false, copQ := x.copQ.drop 1, snap := x.snap.map (fun p => (p.1, p.2.drop 1)) })) ∧
  -- COP_OP_WRITEBACK (R118, R123)
  (∀ (d : Clu) (t : Tix) (s : State) (x : Tile) (o : CopOp), x = s.tile d t → x.copUnit = some o → x.copStop = false →
     exec (.copOpWriteback d t) s = .next (s.setTile d t { x with
       copUnit := none, regs := (x.regs.copResult o).foldl TileRegs.putM x.regs, snap := x.snap.map (fun p => ((x.regs.copResult o).foldl TileRegs.putM p.1, p.2)) })) ∧
  -- COP_UNIT_STOP (R127)
  (∀ (d : Clu) (t : Tix) (s : State), (s.tile d t).copStop = true →
     exec (.copUnitStop d t) s = .next (s.setTile d t { s.tile d t with copUnit := none, copStop := false }))

/-- A result takes the smallest exponent at which every rounded component of its region fits, saturates with SAT where none does, and is zero outside its region; products, sums, differences and conjugate transposes are exact before that rounding; a component of a factorisation lies within 4 units of the exact one; a matrix without positive diagonal is NOTPD, one with a zero triangle diagonal or no inverse is SINGULAR, and the result is zero with E = -16. Where a clause rests on a choice or an inference of the model and no rule, that is log entries 61, 62 and 173. -/
def Obligations.CoprocessorResults : Prop :=
  -- the choice of E (R123)
  (∀ (m rows cols : Nat) (comp : Int → Nat → Nat → Int × Int) (v : MVal) (fits : Int → Prop), v = normalise m comp rows cols →
     fits = (fun e => ∀ i < rows, ∀ j < cols, -32768 ≤ (comp e i j).1 ∧ (comp e i j).1 ≤ 32767 ∧ -32768 ≤ (comp e i j).2 ∧ (comp e i j).2 ≤ 32767) →
     v.m = m ∧ v.mant.length = 64
     ∧ (∀ e, -16 ≤ e → e ≤ 15 → fits e → -16 ≤ v.e ∧ v.e ≤ e ∧ fits v.e ∧ v.flags = 0)
     ∧ ((∀ e, -16 ≤ e → e ≤ 15 → ¬ fits e) → v.e = 15 ∧ v.flags = 1)
     ∧ ∀ i < 8, ∀ j < 8, v.mant[8 * i + j]? = some (if i < rows ∧ j < cols
         then elemOf (BitVec.ofInt 16 (clampI (-32768) 32767 (comp v.e i j).1)) (BitVec.ofInt 16 (clampI (-32768) 32767 (comp v.e i j).2)) else 0)) ∧
  -- MMUL with both suffixes, MADD, MSUB, MHERM (R121, R124); z is an element in units of 2^-31, h its conjugate transpose
  (∀ (r : TileRegs) (o : CopOp) (ha hb : Bool) (z : Nat → Nat → Nat → Int × Int) (h : Bool → Nat → Nat → Nat → Int × Int), z = r.elemZ →
     h = (fun b m i j => if b then ((z m j i).1, -(z m j i).2) else z m i j) →
     (o.kind = .mmul ha hb → r.copResult o = [normaliseZ o.md 62 (fun i j => (List.range 8).foldl (fun a k =>
       (a.1 + ((h ha o.ma i k).1 * (h hb o.mb k j).1 - (h ha o.ma i k).2 * (h hb o.mb k j).2),
         a.2 + ((h ha o.ma i k).1 * (h hb o.mb k j).2 + (h ha o.ma i k).2 * (h hb o.mb k j).1))) (0, 0)) o.n o.n])
     ∧ (o.kind = .madd → r.copResult o = [normaliseZ o.md 31 (fun i j => ((z o.ma i j).1 + (z o.mb i j).1, (z o.ma i j).2 + (z o.mb i j).2)) o.n o.n])
     ∧ (o.kind = .msub → r.copResult o = [normaliseZ o.md 31 (fun i j => ((z o.ma i j).1 - (z o.mb i j).1, (z o.ma i j).2 - (z o.mb i j).2)) o.n o.n])
     ∧ (o.kind = .mherm → r.copResult o = [normaliseZ o.md 31 (fun i j => ((z o.ma j i).1, -(z o.ma j i).2)) o.n o.n])) ∧
  -- the bound of a factorisation's component (R124)
  (∀ (x : Q) (u : Nat) (y : Int), 0 < x.den → y = near4 x u → -32768 * (x.den : Int) ≤ x.num → x.num ≤ 32767 * (x.den : Int) →
     -32768 ≤ y ∧ y ≤ 32767 ∧ x.num - 4 * x.den ≤ y * x.den ∧ y * x.den ≤ x.num + 4 * x.den) ∧
  -- MCHOL, MTRS and MINV of a matrix without the property they need (R125)
  (∀ (r : TileRegs) (o : CopOp) (up herm : Bool), 0 < o.n →
     (o.kind = .mchol → (∀ i < o.n, (r.elemZ o.ma i i).1 ≤ 0) → r.copResult o = [⟨o.md, List.replicate 64 0, -16, 2⟩])
     ∧ (o.kind = .mtrs up herm → (∀ i < o.n, r.elemZ o.ma i i = (0, 0)) → r.copResult o = [⟨o.md, List.replicate 64 0, -16, 4⟩])
     ∧ (o.kind = .minv → (∀ i < o.n, ∀ j < o.n, r.elemZ o.ma i j = (0, 0)) → r.copResult o = [⟨o.md, List.replicate 64 0, -16, 4⟩])) ∧
  -- a write of an M register (R114): every element of it and none of another
  (∀ (r : TileRegs) (v : MVal) (m i j : Nat), v.mant.length = 64 → -16 ≤ v.e → v.e ≤ 15 → i < 8 → j < 8 →
     (m = v.m → (r.putM v).mant m i j = v.mant.getD (8 * i + j) 0 ∧ ((r.putM v).exp m).toInt = v.e ∧ (r.putM v).flags m = v.flags)
     ∧ (m ≠ v.m → (r.putM v).mant m i j = r.mant m i j ∧ (r.putM v).exp m = r.exp m ∧ (r.putM v).flags m = r.flags m))

/-- A lane that may run leaves DISABLED by its mode; alignment takes it from HUNT to HELLO with lock; HELLO frames are sent, checked, counted and stored, and the exchange leaves for UP or for STEP at the common target; block lock and four TRAIN blocks with RX_OK take STEP to UP; the CDR of a partner without commas takes it to SLIP_WAIT, where windows are counted, a slip moves the offset and ACCEPT takes a clean window to UP; a timeout is a failed attempt. Where a clause rests on a choice or an inference of the model and no rule, that is log entries 88, 89, 90, 176, 177, 180 and 181. -/
def Obligations.LaneBringUp : Prop :=
  -- LANE_START of a Birlis lane, of an Ethernet lane and of a test lane (R206)
  (∀ (l : Lane) (s r u : State) (e : Nat), e = (s.linkOf l).1 → s.laneState l = 0 → s.laneOpen l = true →
     r = (if s.laneMode l = s.laneMode e then s else s.raise (pgBLNK (l / 16)) 0) →
     u = ((((r.setLaneState l 6).setRx l (s.maxRate e) false (s.ethFec e)).applyEq l).txOn l).showLink e →
     (s.laneMode l = 0 → exec (.laneStart l) s = .next (r.toHunt l))
     ∧ (s.laneMode l = 1 → l.val ≠ e ∨ ethRow (s.linkOf e).2 (s.maxRate e) = true → exec (.laneStart l) s = .next u)
     ∧ (s.laneMode l = 1 → l.val = e → ethRow (s.linkOf e).2 (s.maxRate e) = false →
         exec (.laneStart l) s = .next (u.raise (pgBLNK (l / 16)) 3))
     ∧ (s.laneMode l = 2 → exec (.laneStart l) s
       = .next ((((r.setLaneState l 8).setRx l (s.fld (pgLANE l + 0x064) 25 23) false false).applyEq l).applyTest l))) ∧
  -- a lane that hunts (R206)
  (∀ (l : Lane) (s t : State), t = s.toHunt l → t.laneState l = 1 ∧ t.laneRate l = 0 ∧ t.rxLock l = false
     ∧ OnlyParts (eventsAnd [.lanes, .links, .free]) s t) ∧
  -- LANE_ALIGN (R199, R206)
  (∀ (l : Lane) (s : State), s.laneOn l = true → s.laneState l = 1 →
     exec (.laneAlign l) s = .next ((s.setLaneState l 2).put (pgLANE l + 0x044) 25 25 1)) ∧
  -- HELLO_SEND (R202, R222)
  (∀ (l : Lane) (s u : State) (seen : Bool), s.laneOn l = true → s.laneState l = 2 ∨ (s.laneState l = 5 ∧ s.laneRate l = 0) →
     seen = decide (3 ≤ (s.lane l).run) →
     u = (s.emit (.chars l (helloChars (helloBytes 0x48 (Config.helloClass.toNat % 8) seen (s.fecReq l) (s.maxRate l)
       (s.fld (pgLANE l + 0x044) 15 8) l (Config.helloCaps.toNat % 8) (s.reg64 (pgFUSE + 0x040)))))).setLane l
         { s.lane l with sent := if seen then min ((s.lane l).sent + 1) 3 else (s.lane l).sent } →
     (s.txOpen l = true → exec (.helloSend l) s = .next (u.helloLeave l)) ∧ (s.txOpen l = false → exec (.helloSend l) s = .next s)) ∧
  -- the leave condition of HELLO (R202, R203)
  (∀ (l : Nat) (s : State) (t : Nat) (fec : Bool), t = (s.targets l).1 →
     fec = (decide (3 ≤ t) || decide (t = 2) && (s.fecReq l || decide (s.fld (pgLANE l + 0x100) 24 24 = 1))) →
     (s.laneState l = 2 → 3 ≤ (s.lane l).sent → 3 ≤ (s.lane l).got → (s.targets l).2 = t →
       (t = 0 → s.helloLeave l = s.toUp l)
       ∧ (t ≠ 0 → s.helloLeave l = ((((s.setLaneState l 3).setRx l t false fec).applyEq l).modLane l (fun x =>
           { x with stepRaw := s.kept.raw, train := 0, blocks := 0, skew := 0 })).txOn l))
     ∧ (s.laneState l ≠ 2 ∨ (s.lane l).sent < 3 ∨ (s.lane l).got < 3 ∨ (s.targets l).2 ≠ t → s.helloLeave l = s)) ∧
  -- the target (R201): the highest rate neither side exceeds that has not failed twice
  (∀ (a b limit : Nat) (fails : Nat → Nat) (t : Nat), t = targetOf a b limit fails → t ≤ 4 ∧ t ≤ a ∧ t ≤ b ∧ t ≤ limit ∧ (0 < t → fails t ≠ 2)
     ∧ ∀ r, t < r → r ≤ 4 → r ≤ a → r ≤ b → r ≤ limit → fails r = 2) ∧
  -- HELLO_RECEIVE of a frame that is not valid (R217, R222), and of a valid HELLO from the lane's partner or the first (R201, R202, R205, R208)
  (∀ (l : Lane) (x : HelloData) (code : W8) (h : HelloMsg) (s r u w z : State), s.laneOn l = true → r = s.inc (pgLANE l + 0x054) 31 16 code.toNat →
     h = helloFields x → u = ((r.storeHello l h).mergeFails l h.fails).modLane l (fun y => { y with
       known := true, timer := none, run := min (y.run + 1) 3, got := if h.seen then min (y.got + 1) 3 else y.got }) →
     w = (u.put (pgLANE l + 0x044) 23 23 (b2n (!h.comma))).put (pgLANE l + 0x044) 19 17
       ((u.put (pgLANE l + 0x044) 23 23 (b2n (!h.comma))).targets l).1 →
     z = (if h.comma = false ∧ s.allow3120 l = false then w.put (pgLANE l + 0x044) 3 0 3 else w) →
     (2 ≤ s.laneState l → s.laneState l ≤ 4 → helloValid 0x48 x = false → helloValid 0x44 x = false →
       exec (.helloReceive l ⟨x, code⟩) s = .next (r.inc (pgLANE l + 0x10C) 15 0 1))
     ∧ (helloValid 0x48 x = true → ((s.lane l).known = false ∨ s.rxSerial l = h.serial) →
       ((s.lane l).partner = none ∨ (s.lane l).partner = some h.serial) →
       (s.laneState l = 2 → exec (.helloReceive l ⟨x, code⟩) s = .next (z.helloLeave l))
       ∧ (s.laneState l = 3 ∨ s.laneState l = 4 → exec (.helloReceive l ⟨x, code⟩) s = .next u))) ∧
  -- what a stored HELLO shows (R222)
  (∀ (l : Lane) (h : HelloMsg) (s : State), (s.storeHello l h).rxSerial l = h.serial ∧ ∀ v, v = (s.storeHello l h).reg (pgLANE l + 0x100) →
     bitsOf v 31 29 = h.cls.toNat ∧ bitsOf v 28 26 = h.maxRate.toNat ∧ bitsOf v 25 25 = b2n h.comma ∧ bitsOf v 24 24 = b2n h.fecReq
     ∧ bitsOf v 23 16 = h.fails.toNat ∧ bitsOf v 15 0 = h.caps.toNat) ∧
  -- DEPART_FRAME_RECEIVE (R222, R224); no code violation comes with it
  (∀ (l : Lane) (x : HelloData) (s r : State), s.laneOn l = true → 2 ≤ s.laneState l → s.laneState l ≤ 4 → r = s.inc (pgLANE l + 0x054) 31 16 0 →
     (helloValid 0x44 x = true → exec (.departFrameReceive ⟨l, x⟩) s = .next ((r.laneDeparts l).regroup (s.linkOf l).1))
     ∧ (helloValid 0x48 x = false → helloValid 0x44 x = false → exec (.departFrameReceive ⟨l, x⟩) s = .next (r.inc (pgLANE l + 0x10C) 15 0 1))) ∧
  -- BLOCK_LOCK (R199, R203, R220)
  (∀ (l : Lane) (skew : W10) (s u : State), s.laneOn l = true → u = (s.put (pgLANE l + 0x044) 25 25 1).modLane l (fun x => { x with skew := skew.toNat }) →
     (s.laneState l = 3 → s.forerunner l = false → (s.lane l).train < 4 → exec (.blockLock ⟨l, skew⟩) s = .next u)
     ∧ (s.laneState l = 3 → s.forerunner l = false → 4 ≤ (s.lane l).train → exec (.blockLock ⟨l, skew⟩) s
         = .next ((u.sendOn [l, l, l, l] (trainBlock l true (u.failCount l (u.laneTarget l)))).toUp l))
     ∧ (s.laneState l = 6 → exec (.blockLock ⟨l, skew⟩) s = .next u)) ∧
  -- TRAIN_RECEIVE (R203)
  (∀ (l : Lane) (s u : State) (x : LaneSt), s.laneOn l = true → s.laneState l = 3 → s.rxLock l = true → x = s.lane l →
     exec (.trainReceive l false) s = .next (s.setLane l { x with train := 0 })
     ∧ (x.train < 3 → exec (.trainReceive l true) s = .next (s.setLane l { x with train := x.train + 1 }))
     ∧ (3 ≤ x.train → u = s.setLane l { x with train := 4 } → exec (.trainReceive l true) s
         = .next ((u.sendOn [l, l, l, l] (trainBlock l true (u.failCount l (u.laneTarget l)))).toUp l))) ∧
  -- a lane that comes up (R203, R206)
  (∀ (l : Lane) (s t : State), t = s.toUp l → t.laneState l = 5 ∧ (t.lane l).partner = some (s.rxSerial l)
     ∧ OnlyParts (eventsAnd [.lanes, .links, .free]) s t) ∧
  -- STEP_TIMEOUT and SLIP_LIMIT (R204, R205)
  (∀ (l : Lane) (s : State), (s.laneState l = 3 → exec (.stepTimeout l) s = .next (s.attemptFails l 1))
     ∧ (s.laneState l = 4 → exec (.slipLimit l) s = .next (s.attemptFails l 2))) ∧
  -- a failed attempt (R205)
  (∀ (l : Lane) (s t : State) (cause r : Nat), cause < 16 → t = s.attemptFails l cause → r = s.laneTarget l → 1 ≤ r → r ≤ 4 →
     t.laneState l = 1 ∧ t.failCount l r = min (s.failCount l r + 1) 2 ∧ t.fld (pgLANE l + 0x044) 3 0 = cause ∧ (t.lane l).squelch = true) ∧
  -- TX_SQUELCH_END (R205)
  (∀ (l : Lane) (s u : State), (s.lane l).squelch = true → u = s.setLane l { s.lane l with squelch := false } →
     (s.laneState l ≠ 0 → u.txOpen l = true → exec (.txSquelchEnd l) s = .next (u.emit (.laneTx l true)))
     ∧ (s.laneState l = 0 ∨ u.txOpen l = false → exec (.txSquelchEnd l) s = .next u)) ∧
  -- CDR_LOCK (R206, R210)
  (∀ (l : Lane) (s : State), s.laneOn l = true → s.laneState l = 3 → s.forerunner l = true → exec (.cdrLock l) s
     = .next ((((s.setLaneState l 4).put (pgLANE l + 0x050) 19 16 0).put (pgLANE l + 0x050) 10 0 0).irqBit (pgLANE l) 2)) ∧
  -- SYNC_WINDOW_END (R210)
  (∀ (l : Lane) (errs : W11) (s : State), s.laneOn l = true → s.forerunner l = true → s.laneState l = 4 ∨ s.laneState l = 5 →
     exec (.syncWindowEnd l errs) s
       = .next (((s.inc (pgLANE l + 0x050) 19 16 1).put (pgLANE l + 0x050) 10 0 errs.toNat).inc (pgLANE l + 0x054) 31 16 errs.toNat)) ∧
  -- SLIP (R210)
  (∀ (l : Lane) (s : State), s.reaches (pgLANE l + 0x050) = true → s.laneState l = 4 → exec (.slip l) s
     = .next (((s.put (pgLANE l + 0x050) 26 20 ((s.fld (pgLANE l + 0x050) 26 20 + 1) % 66)).put (pgLANE l + 0x050) 19 16 0).put (pgLANE l + 0x050) 10 0 0)) ∧
  -- ACCEPT (R210)
  (∀ (l : Lane) (s : State), s.reaches (pgLANE l + 0x050) = true →
     (s.laneState l = 4 → s.fld (pgLANE l + 0x050) 19 16 ≠ 0 → s.fld (pgLANE l + 0x050) 10 0 = 0 → exec (.accept l) s = .next (s.toUp l))
     ∧ (s.laneState l ≠ 4 ∨ s.fld (pgLANE l + 0x050) 19 16 = 0 ∨ s.fld (pgLANE l + 0x050) 10 0 ≠ 0 → exec (.accept l) s = .next (s.raise (pgLANE l) 3)))

/-- A lock loss that applies is counted with its cause and takes a lane in HELLO to HUNT, one in UP to HUNT with its error and interrupt, and one in STEP or SLIP_WAIT to a failed attempt; a change of LANE_CFG and RETRAIN restart the lane, or are dropped while an owner runs; a change of LANE_QREF clears the lock and restarts four lanes; the reference's lock starts them and its loss disables them; signal is shown. What becomes of a departing lane's partner. Where a clause rests on a choice or an inference of the model and no rule, that is log entries 91, 96, 98 and 179. -/
def Obligations.LaneLossAndControl : Prop :=
  -- LOCK_LOSS of one lane (R200, R204, R206, R217)
  (∀ (l : Lane) (cause : W4) (code : W11) (s u : State), s.laneOn l = true → s.lossApplies l cause.toNat = true → cause ≠ 1 →
     u = ((s.inc (pgLANE l + 0x054) 31 16 code.toNat).inc (pgLANE l + 0x054) 15 0 1).setReg (pgLANE l + 0x058)
       (BitVec.ofNat 32 (cause.toNat * 2 ^ 28 + s.rawNs24)) →
     (s.laneState l = 2 → exec (.lockLoss l ⟨cause, code, []⟩) s = .next ((u.hunt l).regroupAll [l]))
     ∧ (s.laneState l = 5 → exec (.lockLoss l ⟨cause, code, []⟩) s = .next ((((u.raise (pgLANE l) 0).irqBit (pgLANE l) 1).hunt l).regroupAll [l]))
     ∧ (s.laneState l = 3 ∨ s.laneState l = 4 → exec (.lockLoss l ⟨cause, code, []⟩) s = .next ((u.attemptLost l 4).regroupAll [l]))) ∧
  -- LOCK_LOSS by loss of signal (R200, R203), and of a lane that it does not concern (R209)
  (∀ (l : Lane) (cause : W4) (code : W11) (s r u : State), s.laneOn l = true → r = s.inc (pgLANE l + 0x054) 31 16 code.toNat →
     u = ((r.inc (pgLANE l + 0x054) 15 0 1).setReg (pgLANE l + 0x058) (BitVec.ofNat 32 (2 ^ 28 + s.rawNs24))).put (pgLANE l + 0x044) 27 27 0 →
     (s.laneState l = 5 → exec (.lockLoss l ⟨1, code, []⟩) s = .next ((((u.raise (pgLANE l) 0).irqBit (pgLANE l) 1).hunt l).regroupAll [l]))
     ∧ (s.lossApplies l 1 = false → s.fenced (l / 16) = false → exec (.lockLoss l ⟨1, code, []⟩) s = .next (r.put (pgLANE l + 0x044) 27 27 0))
     ∧ (s.lossApplies l cause.toNat = false → cause ≠ 1 → exec (.lockLoss l ⟨cause, code, []⟩) s = .next r)) ∧
  -- LOCK_LOSS of two lanes in UP, in one cycle (R243): each lane hunts, then each of their links changes once
  (∀ (l k : Lane) (c e : W4) (code : W11) (s u w : State), l ≠ k → s.laneOn l = true → s.laneOn k = true → s.laneState l = 5 → s.laneState k = 5 →
     s.lossApplies l c.toNat = true → s.lossApplies k e.toNat = true → u = (s.inc (pgLANE l + 0x054) 31 16 code.toNat).lossOf l c.toNat →
     w = u.lossOf k e.toNat → exec (.lockLoss l ⟨c, code, [(k, e)]⟩) s = .next (w.regroupAll [l, k])) ∧
  -- which losses apply (R200, R203, R210)
  (∀ (l : Nat) (s : State), (s.laneState l < 2 ∨ 5 < s.laneState l → ∀ c, s.lossApplies l c = false)
     ∧ (2 ≤ s.laneState l → s.laneState l ≤ 5 → s.lossApplies l 5 = true ∧ (s.laneState l ≠ 3 → s.lossApplies l 1 = true)
       ∧ (s.laneRate l = 0 → s.lossApplies l 2 = false ∧ s.lossApplies l 3 = false)
       ∧ (1 ≤ s.laneRate l → s.lossApplies l 3 = true ∧ s.lossApplies l 6 = false))) ∧
  -- LANE_CFG_WRITE (R206, R209)
  (∀ (l : Lane) (v w : W32) (s : State) (p : Page) (d : RegDesc) (a : Nat), a = pgLANE l + 0x040 → s.reaches a = true → regAt a = some (p, d) →
     (bitsOf v 11 10 = 3 ∨ 5 ≤ bitsOf v 2 0 → exec (.laneCfgWrite l v) s = .next (s.badAccess a))
     ∧ (bitsOf v 11 10 ≠ 3 → bitsOf v 2 0 < 5 → s.scopesOpen p 0x040 d (s.reg a) v = true → w = d.newWord (s.reg a) v →
         ∀ t e, t = s.setReg a w → e = (t.linkOf l).1 →
         (w ≠ s.reg a → (bitsOf (s.reg a) 11 10 = bitsOf w 11 10 ∨ l.val ≠ e) → exec (.laneCfgWrite l v) s = .next ((t.laneRestart l).portRate e))
         ∧ (w ≠ s.reg a → bitsOf (s.reg a) 11 10 ≠ bitsOf w 11 10 → l.val = e →
             exec (.laneCfgWrite l v) s = .next ((((t.laneRestart l).modeCheck e).regroup e).portRate e))
         ∧ (w = s.reg a → exec (.laneCfgWrite l v) s = .next t))) ∧
  -- RETRAIN (R206), dropped while a group that touches the quadrant runs (R48)
  (∀ (l : Lane) (s : State), s.reaches (pgLANE l + 0x048) = true →
     (s.quadHalted (l / 16) = true → exec (.retrain l) s = .next (((s.clearFails l).modLane l (fun x => { x with excluded := false })).toDisabled l |>.laneStart l))
     ∧ (s.quadHalted (l / 16) = false → exec (.retrain l) s = .next (s.liveDrop (pgLANE l + 0x048)))) ∧
  -- QREF_SEL_WRITE of another value on the first page of a lane-quad (R198, R209), and on another page
  (∀ (l : Lane) (sel : Bool) (s u : State) (a : Nat) (p : Page) (d : RegDesc) (w : W32), a = pgLANE l + 0x07C → s.reaches a = true →
     regAt a = some (p, d) → w = d.newWord (s.reg a) (BitVec.ofNat 32 (b2n sel)) →
     (l.val % 4 = 0 → s.scopesOpen p 0x07C d (s.reg a) (BitVec.ofNat 32 (b2n sel)) = true → w ≠ s.reg a → bitsOf w 0 0 = b2n sel →
       u = (s.setReg a w).put a 1 1 (if sel then b2n (s.setReg a w).eecLocked else 0) →
       exec (.qrefSelWrite l sel) s = .next ((((u.laneRestart l).laneRestart (l + 1)).laneRestart (l + 2)).laneRestart (l + 3)))
     ∧ (l.val % 4 ≠ 0 → exec (.qrefSelWrite l sel) s = .next s)) ∧
  -- QREF_LOCK (R198)
  (∀ (n : LaneQuad) (s : State), s.quadDark (n / 4) = false → s.qrefLocked (4 * n) = false → s.qrefSel (4 * n) = false ∨ s.eecLocked = true →
     exec (.qrefLock n) s = .next (((((s.put (qrefKey (4 * n)) 1 1 1).laneStart (4 * n)).laneStart (4 * n + 1)).laneStart (4 * n + 2)).laneStart (4 * n + 3))) ∧
  -- QREF_UNLOCK (R198, R206)
  (∀ (n : LaneQuad) (s : State), s.qrefLocked (4 * n) = true → s.qrefSel (4 * n) = false ∨ s.eecLocked = false →
     Completes (.qrefUnlock n) s (fun t => t.qrefLocked (4 * n) = false ∧ (∀ i < 4, t.laneState (4 * n + i) = 0))) ∧
  -- SIGNAL_DETECT (R209)
  (∀ (l : Lane) (s : State), s.fenced (l / 16) = false → exec (.signalDetect l) s = .next (s.put (pgLANE l + 0x044) 27 27 1)) ∧
  -- a lane that is disabled (R206, R224)
  (∀ (l : Lane) (s t : State), s.laneState l ≠ 0 → t = s.toDisabled l →
     t.laneState l = 0 ∧ t.laneRate l = 0 ∧ t.rxLock l = false ∧ t.fld (pgLANE l + 0x068) 31 31 = 0) ∧
  -- a departing lane (R223, R224): an entry that other lanes hold keeps them
  (∀ (l : Lane) (s : State) (e : Nat) (x : W64), e = (s.linkOf l).1 → (s.lane l).partner = some x → s.ptPresent e = true →
     s.ptLanes e &&& 2 ^ (l.val - e) ≠ 0 → s.ptLanes e &&& (0xFF - 2 ^ (l.val - e)) ≠ 0 →
     s.laneDeparts l = (s.modLane l (fun y => { y with partner := none, timer := none })).put (ptabKey 0x104 e) 23 16 (s.ptLanes e &&& (0xFF - 2 ^ (l.val - e))))

/-- An aligned port comes up and its entry becomes present; a loss on a lane of it takes it down; a PRBS checker locks, counts while locked, and a read of the count clears it and shows the bits; an eye sweep starts, moves outward point by point, records each limit, ends with its interrupt, and can be aborted. Where a clause rests on a choice or an inference of the model and no rule, that is log entries 95, 156, 177 and 179. -/
def Obligations.PortsAndMeasurement : Prop :=
  -- ETH_PORT_ALIGNED (R212, R223, R233)
  (∀ (l : Lane) (s u : State) (e : Nat), e = (s.linkOf l).1 → s.laneMode e = 1 → (∀ i ∈ s.linkLanes e, s.laneOn i = true ∧ s.laneState i = 6) →
     ethRow (s.linkOf l).2 (s.maxRate e) = true → u = (((s.linkLanes e).foldl (fun (t : State) i =>
       ((t.setLaneState i 7).put (pgLANE i + 0x044) 25 25 1).irqBit (pgLANE i) 0) s).put (pgLANE e + 0x200) 31 31 1).modLane e
         (fun x => { x with timer := none }) →
     (u.ptPresent e = true → exec (.ethPortAligned l) s = .next (u.showLink e))
     ∧ (u.ptPresent e = false → exec (.ethPortAligned l) s = .next ((u.linkArrives e e 0 2 0).showLink e))) ∧
  -- ETH_PORT_ALIGNED of a port of one lane where no entry is present (R223)
  (∀ (l : Lane) (s : State), s.linkOf l = (l.val, 1) → s.laneMode l = 1 → s.laneOn l = true → s.laneState l = 6 → ethRow 1 (s.maxRate l) = true →
     s.ptPresent l = false → Completes (.ethPortAligned l) s (fun t => t.ptPresent l = true ∧ t.laneState l = 7 ∧ t.rxLock l = true
       ∧ t.fld (pgLANE l + 0x200) 31 31 = 1 ∧ t.ptLanes l = 1 ∧ OnlyParts (eventsAnd [.lanes, .links]) s t)) ∧
  -- ETH_LOCK_LOSS (R212)
  (∀ (l : Lane) (s : State), (s.laneState l = 7 → exec (.ethLockLoss l) s
       = .next (((s.raise (pgLANE l) 0).irqBit (pgLANE l) 1).portDown (s.linkOf l).1))
     ∧ (s.laneState l = 6 → exec (.ethLockLoss l) s = .next (s.put (pgLANE l + 0x044) 25 25 0))) ∧
  -- PRBS_CHECK_LOCK (R213, R215)
  (∀ (l : Lane) (rx : BitVec 95) (s : State), s.laneOn l = true → s.laneState l = 8 → s.fld (pgLANE l + 0x064) 30 30 = 1 →
     (s.loopback l ≠ 1 → prbsMatches (s.fld (pgLANE l + 0x064) 29 28) rx = true →
       exec (.prbsCheckLock ⟨l, rx⟩) s = .next (s.put (pgLANE l + 0x068) 31 31 1))
     ∧ (s.loopback l ≠ 1 → prbsMatches (s.fld (pgLANE l + 0x064) 29 28) rx = false → exec (.prbsCheckLock ⟨l, rx⟩) s = .next s)
     ∧ (s.loopback l = 1 → s.fld (pgLANE l + 0x064) 31 31 = 1 → exec (.prbsCheckLock ⟨l, rx⟩) s = .next (s.put (pgLANE l + 0x068) 31 31 1))) ∧
  -- what the checker looks for (R213): 64 bits that its pattern predicts, of PRBS7, PRBS15 and PRBS31
  (∀ (rx : BitVec 95), (∀ p ∈ [(0, 7, 6), (1, 15, 14), (2, 31, 28)], prbsMatches p.1 rx = true ↔
     ∀ i < 64, rx.getLsbD (31 + i) = (rx.getLsbD (31 + i - p.2.1) != rx.getLsbD (31 + i - p.2.2)))) ∧
  -- PRBS_CHECK_UNLOCK (R213, R214, R215): a lane that checks its own pattern stays locked
  (∀ (l : Lane) (errs : W32) (bits : W64) (s : State), s.fld (pgLANE l + 0x068) 31 31 = 1 →
     (s.loopback l ≠ 1 ∨ s.fld (pgLANE l + 0x064) 31 31 ≠ 1 → exec (.prbsCheckUnlock l errs bits) s
       = .next (((s.inc (pgLANE l + 0x06C) 31 0 errs.toNat).modLane l (fun x => { x with prbsBits := x.prbsBits + bits.toNat })).put
           (pgLANE l + 0x068) 31 31 0))
     ∧ (s.loopback l = 1 → s.fld (pgLANE l + 0x064) 31 31 = 1 → exec (.prbsCheckUnlock l errs bits) s
       = .next ((s.inc (pgLANE l + 0x06C) 31 0 0).modLane l (fun x => { x with prbsBits := x.prbsBits + bits.toNat })))) ∧
  -- PRBS_ERR_READ of a locked checker (R214, R215)
  (∀ (l : Lane) (errs : W32) (bits : W64) (s : State) (n : Nat), s.reaches (pgLANE l + 0x06C) = true → s.fld (pgLANE l + 0x068) 31 31 = 1 →
     n = (if s.loopback l = 1 ∧ s.fld (pgLANE l + 0x064) 31 31 = 1 then 0 else errs.toNat) →
     Completes (.prbsErrRead l errs bits) s (fun t => t.readData.toNat = min ((s.reg (pgLANE l + 0x06C)).toNat + n) (2 ^ 32 - 1)
       ∧ t.reg (pgLANE l + 0x06C) = 0 ∧ t.reg (pgLANE l + 0x070) = BitVec.ofNat 32 (min (((s.lane l).prbsBits + bits.toNat) / 2 ^ 20) (2 ^ 32 - 1))
       ∧ (t.lane l).prbsBits = 0 ∧ OnlyParts [.regs, .readData, .lanes] s t)) ∧
  -- EYE_SWEEP_GO of a lane that may be swept (R216)
  (∀ (l : Lane) (v : W32) (s : State) (a : Nat) (p : Page) (d : RegDesc), a = pgLANE l + 0x074 → s.reaches a = true → regAt a = some (p, d) →
     s.scopesOpen p 0x074 d (s.reg a) (v ||| 0x80000000) = true → ∀ u, u = s.setReg a (d.newWord (s.reg a) (v ||| 0x80000000)) →
     (s.laneState l = 5 ∨ s.laneState l = 7 ∨ s.laneState l = 8 → s.fld (pgLANE l + 0x078) 31 31 = 0 →
       exec (.eyeSweepGo l v) s = .next (((u.put (pgLANE l + 0x078) 31 31 1).put (pgLANE l + 0x078) 30 30 0).modLane l
         (fun x => { x with eye := some { abort := bit v 30 } })))
     ∧ (¬ (s.laneState l = 5 ∨ s.laneState l = 7 ∨ s.laneState l = 8) ∨ s.fld (pgLANE l + 0x078) 31 31 = 1 → bit v 30 = false →
       exec (.eyeSweepGo l v) s = .next (u.raise (pgLANE l) 4))) ∧
  -- EYE_SWEEP_ABORT (R216)
  (∀ (l : Lane) (s : State) (e : EyeSweep), s.reaches (pgLANE l + 0x074) = true → (s.lane l).eye = some e →
     exec (.eyeSweepAbort l) s = .next (s.setLane l { s.lane l with eye := some { e with abort := true } })) ∧
  -- EYE_POINT_DONE (R216): within the limit, at the end of a direction, at the end of the last, and of an aborted sweep
  (∀ (l : Lane) (dis : W32) (s : State) (e : EyeSweep) (f : Nat × Nat × Nat) (bad : Prop) (n : Nat), (s.lane l).eye = some e → f = eyeField e.dir →
     bad = (s.fld (pgLANE l + 0x074) 15 0 < dis.toNat) → (bad → n = e.step - 1) → (¬ bad → n = e.step) →
     (e.abort = false → ¬ bad → e.step ≠ f.2.2 →
       exec (.eyePointDone l dis) s = .next (s.setLane l { s.lane l with eye := some { e with step := e.step + 1 } }))
     ∧ (e.abort = false → bad ∨ e.step = f.2.2 → e.dir ≠ 3 → exec (.eyePointDone l dis) s
         = .next ((s.put (pgLANE l + 0x078) f.1 f.2.1 n).setLane l { s.lane l with eye := some { dir := e.dir + 1 } }))
     ∧ (e.abort = false → bad ∨ e.step = f.2.2 → e.dir = 3 → exec (.eyePointDone l dis) s
         = .next (((((s.put (pgLANE l + 0x078) f.1 f.2.1 n).setLane l { s.lane l with eye := none }).put (pgLANE l + 0x078) 31 31 0).put
             (pgLANE l + 0x078) 30 30 1).irqBit (pgLANE l) 3))
     ∧ (e.abort = true → exec (.eyePointDone l dis) s = .next ((((s.setLane l { s.lane l with eye := none }).put (pgLANE l + 0x078) 31 31 0).put
           (pgLANE l + 0x078) 30 30 0).irqBit (pgLANE l) 3)))

/-- A word of widths that is allowed is stored and moves lanes between links, another is a bad access; a member's comma is sent when it is due, with those of its group, and the LSTATE of each follows; a received LSTATE that names another mask waits for its comma, which ends the receiver's own change and changes the transmit mask and resends the store; an ACK takes frames out of the store and a NAK or a silence resends the rest in order; a DEPART or a timer that runs out ends the partner. Where a clause rests on a choice or an inference of the model and no rule, that is log entries 92, 93, 94, 100, 177 and 178. -/
def Obligations.LinksMasksReplay : Prop :=
  -- LINK_CFG_WRITE of widths that R218 does not allow
  (∀ (q : Quad) (v : W32) (s : State), s.reaches (pgBLNK q + 0x040) = true → linkCfgOk v = false →
     exec (.linkCfgWrite q v) s = .next (s.badAccess (pgBLNK q + 0x040))) ∧
  -- LINK_CFG_WRITE of all lanes single, all modes alike (R218)
  (∀ (q : Quad) (v : W32) (s : State) (a : Nat) (p : Page) (d : RegDesc), a = pgBLNK q + 0x040 → s.reaches a = true → regAt a = some (p, d) →
     linkCfgOk v = true → s.scopesOpen p 0x040 d (s.reg a) v = true → d.newWord (s.reg a) v = v → v ≠ s.reg a →
     (∀ i < 16, (s.lane (16 * q + i)).partner = none ∧ s.laneMode (16 * q + i) = 0) →
     Completes (.linkCfgWrite q v) s (fun t => t.reg a = v ∧ (∀ i < 16, linkIn (s.reg a) i = linkIn v i → (t.link (16 * q + i)).store = (s.link (16 * q + i)).store)
       ∧ (∀ i < 16, linkIn (s.reg a) i ≠ linkIn v i → (t.link (16 * q + i)).store = [] ∧ (t.link (16 * q + i)).tx = 0)
       ∧ OnlyParts (eventsAnd [.free, .sluice, .lanes, .links, .tsPend]) s t)) ∧
  -- which lanes a link holds (R218): i belongs to a link of a power of two of lanes that starts at a multiple of its width
  (∀ (v : W32) (i : Nat), i < 16 → ∃ w, (linkIn v i).2 = w ∧ (w = 1 ∨ w = 2 ∨ w = 4 ∨ w = 8) ∧ (linkIn v i).1 = i / w * w) ∧
  -- COMMA_SEND before the 16,384th block, and then of a lane outside its group and of a member (R194, R220, R227)
  (∀ (l : Lane) (idle : BitVec 14) (s u : State) (e : Nat) (ls : List Nat), e = (s.linkOf l).1 →
     ls = (if (s.members e).contains l.val then s.members e else [l.val]) → u = (ls.foldl (fun t i => t.injTick i) s).sendCommas ls →
     ((s.commasRun l = false ∨ ((s.lane l).blocks + idle.toNat + 1) % 16384 ≠ 0) → exec (.commaSend ⟨l, idle⟩) s = .next s)
     ∧ (s.commasRun l = true → ((s.lane l).blocks + idle.toNat + 1) % 16384 = 0 →
         ((s.members e).contains l.val = false → exec (.commaSend ⟨l, idle⟩) s = .next u)
         ∧ ((s.members e).contains l.val = true → exec (.commaSend ⟨l, idle⟩) s
             = .next ((u.setLink e { u.link e with comma := (u.link e).comma + 1, striped := 0 }).sendLstate e)))) ∧
  -- commas (R194): the payload and the header that pass by the scrambler, on each lane whose transmitter is on, and the count starts again
  (∀ (l : Nat) (s : State), (s.txOpen l = true → (s.sendCommas [l]).out = s.out ++ [.blocks [⟨l, 0, 0xF0E1D2C3B4A59687, 0xF0E1D2C3B4A59687⟩]])
     ∧ (s.txOpen l = false → (s.sendCommas [l]).out = s.out) ∧ ((s.sendCommas [l]).lane l).blocks = 0) ∧
  -- LSTATE_RECEIVE (R227)
  (∀ (l : Lane) (num mask at_ : W8) (s : State) (e : Nat), e = (s.linkOf l).1 → s.laneOn l = true → s.laneState l = 5 → s.laneMode e = 0 →
     exec (.lstateReceive l num mask at_) s = .next (s.setLink e { s.link e with
       peerComma := num, txAt := if mask = (s.link e).tx then none else some (mask, at_) })) ∧
  -- MASK_APPLY where only the receiver's own change waits, and where both do (R227, R228)
  (∀ (l : Lane) (s u : State) (e : Nat) (k : LinkSt) (a : W8), e = (s.linkOf l).1 → s.laneMode e = 0 → k = s.link e →
     u = s.setLink e { k with rxAt := none, discard := false } →
     (k.rxAt = some a → 0 ≤ (k.peerComma - a).toInt → exec (.maskApply l) s = exec (.maskApply l) u)
     ∧ (k.rxAt = some a → (k.peerComma - a).toInt < 0 → k.txAt = none → exec (.maskApply l) s = .next s)
     ∧ (k.rxAt = none → k.txAt = none → exec (.maskApply l) s = .next s)) ∧
  -- MASK_APPLY where a received mask's comma is reached or not, the receiver's own change over (R227, R228, R230)
  (∀ (l : Lane) (s u : State) (e : Nat) (k : LinkSt) (m a : W8), e = (s.linkOf l).1 → s.laneMode e = 0 → k = s.link e → k.rxAt = none →
     k.txAt = some (m, a) → u = ((s.setLink e { k with tx := m, txAt := none }).showLink e).resendFrom e (fun _ => decide (m ≠ 0)) →
     (0 ≤ (k.comma - a).toInt → k.nakDue = false → exec (.maskApply l) s = .next u)
     ∧ (0 ≤ (k.comma - a).toInt → k.nakDue = true → exec (.maskApply l) s = .next (u.sendNak e))
     ∧ ((k.comma - a).toInt < 0 → exec (.maskApply l) s = .next s)) ∧
  -- a resend of the whole store (R230): every frame goes on the line in order, and those sent before are counted
  (∀ (s t : State) (e : Nat), t = s.resendFrom e (fun _ => true) → (s.link e).held = none → s.injOn e = 0 →
     t.out = ((s.link e).store.foldl (fun u f => u.putFrame e f false) s).out
     ∧ (t.link e).store = (s.link e).store.map (fun f => { f with sent := true })
     ∧ t.fld (pgBLNK (e / 16) + 0x0C0 + 4 * (e % 16)) 31 16
         = min (s.fld (pgBLNK (e / 16) + 0x0C0 + 4 * (e % 16)) 31 16 + ((s.link e).store.filter (fun f => f.sent)).length) 65535) ∧
  -- ACK_RECEIVE (R229): the frames before nxt leave the store
  (∀ (l : Lane) (nxt : W16) (s u : State) (e : Nat), e = (s.linkOf l).1 → s.streamRuns l = true →
     u = s.setLink e { s.link e with store := (s.link e).store.filter (fun f => decide (0 ≤ (f.seq - nxt).toInt)) } →
     exec (.ackReceive l nxt) s = .next (u.put (pgBLNK (e / 16) + 0x0C0 + 4 * (e % 16)) 11 0 (u.link e).store.length)) ∧
  -- NAK_RECEIVE (R230)
  (∀ (l : Lane) (nxt : W16) (s u : State) (e : Nat), e = (s.linkOf l).1 → s.streamRuns l = true →
     u = s.setLink e { s.link e with store := (s.link e).store.filter (fun f => decide (0 ≤ (f.seq - nxt).toInt)) } → s.txRuns e = true →
     exec (.nakReceive l nxt) s
       = .next ((u.put (pgBLNK (e / 16) + 0x0C0 + 4 * (e % 16)) 11 0 (u.link e).store.length).resendFrom e (fun _ => true))) ∧
  -- ACK_SEND (R229) and REPLAY_TIMEOUT (R230): during a mask change neither goes (R227)
  (∀ (l : Lane) (s : State) (e : Nat), e = (s.linkOf l).1 →
     (s.streamRuns l = true → s.txRuns e = true →
       exec (.ackSend l) s = .next (s.sendStriped e [(⟨2, BitVec.ofNat 64 (0x4B + 65536 * (s.link e).rxSeq.toNat)⟩, 0)]))
     ∧ (s.txRuns e = true → s.laneMode e = 0 → exec (.replayTimeout l) s = .next (s.resendFrom e (fun _ => true)))
     ∧ ((s.link e).txAt ≠ none → exec (.ackSend l) s = .next s ∧ exec (.replayTimeout l) s = .next s)) ∧
  -- DEPART_RECEIVE and PARTNER_TIMEOUT (R224)
  (∀ (l : Lane) (s : State) (r : W64), (s.laneOn l = true → 1 ≤ s.laneState l → s.laneState l ≤ 5 →
       exec (.departReceive l) s = .next ((s.laneDeparts l).regroup (s.linkOf l).1))
     ∧ (∀ p, (s.lane l).timer = some r → (s.lane l).partner = some p → exec (.partnerTimeout l) s = .next ((s.laneDeparts l).regroup (s.linkOf l).1))
     ∧ ((s.lane l).timer = some r → (s.lane l).partner = none →
         exec (.partnerTimeout l) s = .next ((s.modLane l (fun x => { x with timer := none })).entryDeparts l)))

/-- A frame in sequence is accepted under the lookup of its header, which lands it in an armed window or its stream's ring, or counts it where no map entry finds it; a frame out of sequence or not good asks again; the writes of a delivered frame signal its event; an eCPRI frame that passes R234 goes to its stream or to the PTP ring, another is counted. Where a clause rests on a choice or an inference of the model and no rule, that is log entries 101 and 182. -/
def Obligations.HeadraceAndEcpri : Prop :=
  -- FRAME_RECEIVE of a good frame in sequence without a map entry (R229, R235)
  (∀ (l : Lane) (f : FrameIn) (s u : State) (e : Nat) (k : LinkSt), e = (s.linkOf l).1 → k = s.link e → s.streamRuns l = true →
     s.hraceOn (l / 16) = true → frameGood f = true → f.seq = k.rxSeq → k.landing = none → (s.lineErrors l f).hraceFinds e f.stream.toNat = false →
     u = (s.lineErrors l f).setLink e { k with rxSeq := k.rxSeq + 1, seen := k.seen.filter (fun n => decide (n ≠ f.seq)), landing := none } →
     exec (.frameReceive l f) s = .next ((u.inc (pgHRACE (e / 16) + 0x068) 31 0 1).raise (pgHRACE (e / 16)) 0)) ∧
  -- FRAME_RECEIVE of a good frame in sequence into its ring (R235, R236)
  (∀ (l : Lane) (f : FrameIn) (s u : State) (e : Nat) (k : LinkSt) (x : Landing), e = (s.linkOf l).1 → k = s.link e → s.streamRuns l = true →
     s.hraceOn (l / 16) = true → frameGood f = true → f.seq = k.rxSeq → k.landing = none → (s.lineErrors l f).hraceFinds e f.stream.toNat = true →
     x = ⟨f.seq, f.stream.toNat, (s.lineErrors l f).reg (hraceKey 0x844 (e / 16) f.stream.toNat),
       (s.lineErrors l f).reg (hraceKey 0x848 (e / 16) f.stream.toNat), (s.lineErrors l f).reg (hraceKey 0x84C (e / 16) f.stream.toNat), none, false,
       true, 0, s.kept.raw⟩ →
     bit x.mapA 30 = false →
     u = (s.lineErrors l f).setLink e { k with rxSeq := k.rxSeq + 1, seen := k.seen.filter (fun n => decide (n ≠ f.seq)), landing := none } →
     exec (.frameReceive l f) s = .next ((u.toRing (e / 16) x
       (statusWord (k.seen.contains f.seq) f.seq.toNat f.stream.toNat (f.payload.take f.len.toNat).length) (f.payload.take f.len.toNat)).queueEvent e x)) ∧
  -- FRAME_RECEIVE of a good frame whose header's lookup stands (R235, R237): without a map entry nothing more is counted, else it goes where
  -- that lookup says
  (∀ (l : Lane) (f : FrameIn) (s u : State) (e : Nat) (k : LinkSt) (x : Landing), e = (s.linkOf l).1 → k = s.link e → s.streamRuns l = true →
     s.hraceOn (l / 16) = true → frameGood f = true → f.seq = k.rxSeq → k.landing = some x →
     u = (s.lineErrors l f).setLink e { k with rxSeq := k.rxSeq + 1, seen := k.seen.filter (fun n => decide (n ≠ f.seq)), landing := none } →
     (x.found = false → exec (.frameReceive l f) s = .next u)
     ∧ (x.found = true → exec (.frameReceive l f) s = .next (u.deliver e x (k.seen.contains f.seq) f.seq.toNat (f.payload.take f.len.toNat)))) ∧
  -- a ring write (R236): status word, payload and padding to 64 bytes, the position moved within the ring
  (∀ (q : Nat) (x : Landing) (st : Nat) (pay : Bytes) (s t : State) (r : Nat × Nat) (all : Bytes), t = s.toRing q x st pay → r = mapRing q x.mapB →
     all = bytesLE 8 st ++ pay ++ padTo 64 (8 + pay.length) →
     tabGet (fun _ => 0) t.hraceAt (1024 * q + x.stream) = (tabGet (fun _ => 0) s.hraceAt (1024 * q + x.stream) + all.length) % r.2
     ∧ all.length % 64 = 0 ∧ t.links = s.links ∧ t.lanes = s.lanes ∧ t.tiles = s.tiles) ∧
  -- FRAME_RECEIVE of a frame ahead of the next number, or of one that is not good, and of one behind it (R229)
  (∀ (l : Lane) (f : FrameIn) (s u : State) (e : Nat) (k : LinkSt), e = (s.linkOf l).1 → k = s.link e → s.streamRuns l = true →
     s.hraceOn (l / 16) = true → u = s.lineErrors l f → frameGood f = false ∨ f.seq ≠ k.rxSeq →
     (0 ≤ (f.seq - k.rxSeq).toInt → exec (.frameReceive l f) s
       = .next ((u.setLink e { k with seen := if k.seen.contains f.seq then k.seen else k.seen ++ [f.seq] }).sendNak e))
     ∧ ((f.seq - k.rxSeq).toInt < 0 → exec (.frameReceive l f) s = .next (u.sendNak e))) ∧
  -- a NAK (R227, R229): none for the same number within 8 microseconds, and none before the boundary of a mask change
  (∀ (s : State) (e : Nat) (k : LinkSt), k = s.link e →
     (k.nak = none ∨ (∃ n r, k.nak = some (n, r) ∧ (n ≠ k.rxSeq ∨ 8000 ≤ s.nsSince r)) →
       (s.txRuns e = true → s.sendNak e = (s.setLink e { k with nak := some (k.rxSeq, s.kept.raw), nakDue := false }).sendStriped e
         [(⟨2, BitVec.ofNat 64 (0x4B + 256 * (1 + 256 * k.rxSeq.toNat))⟩, 0)])
       ∧ (s.txRuns e = false → s.sendNak e = s.setLink e { k with nakDue := true }))
     ∧ (∀ r, k.nak = some (k.rxSeq, r) → s.nsSince r < 8000 → s.sendNak e = s)) ∧
  -- FRAME_HDR_RECEIVE bound for its ring (R235, R237)
  (∀ (l : Lane) (f : FrameIn) (s : State) (e : Nat) (k : LinkSt), e = (s.linkOf l).1 → k = s.link e → s.streamRuns l = true →
     s.hraceOn (l / 16) = true → f.seq = k.rxSeq → k.landing = none → s.hraceFinds e f.stream.toNat = true →
     bit (s.reg (hraceKey 0x844 (e / 16) f.stream.toNat)) 30 = false →
     exec (.frameHdrReceive l f) s = .next (s.setLink e { k with landing := some ⟨f.seq, f.stream.toNat, s.reg (hraceKey 0x844 (e / 16) f.stream.toNat),
       s.reg (hraceKey 0x848 (e / 16) f.stream.toNat), s.reg (hraceKey 0x84C (e / 16) f.stream.toNat), none, false, true, 0, s.kept.raw⟩ })) ∧
  -- FRAME_HDR_RECEIVE without a map entry: counted at once, and the answer stands (R235)
  (∀ (l : Lane) (f : FrameIn) (s u : State) (e : Nat), e = (s.linkOf l).1 → s.streamRuns l = true → s.hraceOn (l / 16) = true →
     f.seq = (s.link e).rxSeq → (s.link e).landing = none → s.hraceFinds e f.stream.toNat = false →
     u = (s.inc (pgHRACE (e / 16) + 0x068) 31 0 1).raise (pgHRACE (e / 16)) 0 →
     exec (.frameHdrReceive l f) s = .next (u.setLink e { u.link e with landing := some ⟨f.seq, f.stream.toNat,
       s.reg (hraceKey 0x844 (e / 16) f.stream.toNat), s.reg (hraceKey 0x848 (e / 16) f.stream.toNat),
       s.reg (hraceKey 0x84C (e / 16) f.stream.toNat), none, false, false, 0, s.kept.raw⟩ })) ∧
  -- FRAME_HDR_RECEIVE bound for an armed window that is not full (R102, R237)
  (∀ (l : Lane) (f : FrameIn) (s : State) (e d tw : Nat) (k : LinkSt) (x : Landing) (t : State × Bool), e = (s.linkOf l).1 → k = s.link e →
     s.streamRuns l = true → s.hraceOn (l / 16) = true → f.seq = k.rxSeq → k.landing = none → s.hraceFinds e f.stream.toNat = true →
     d = 6 * (e / 16) + bitsOf x.mapA 17 15 →
     x = ⟨f.seq, f.stream.toNat, s.reg (hraceKey 0x844 (e / 16) f.stream.toNat), s.reg (hraceKey 0x848 (e / 16) f.stream.toNat),
       s.reg (hraceKey 0x84C (e / 16) f.stream.toNat), some tw, false, true, (s.windowAt d tw).gen, s.kept.raw⟩ →
     bit x.mapA 30 = true → bitsOf x.mapA 17 15 < 6 → s.findWindow d (bitsOf x.mapA 11 0) = some tw → (s.windowAt d tw).full = false →
     t = s.landBytes d (s.windowAt d tw).gen tw 8 (f.payload.take f.len.toNat) →
     exec (.frameHdrReceive l f) s = .next (t.1.modLink e (fun y => { y with landing := some { x with torn := !t.2 } }))) ∧
  -- bytes that land (R102): within the window in memory, beyond it dropped with LANDING_DROP, and none where its arming is over
  (∀ (d g tw off : Nat) (bs : Bytes) (s : State) (w : Window), w = s.windowAt d tw →
     (w.armed = true → w.gen = g → off + bs.length ≤ w.len →
       s.landBytes d g tw off bs = (s.chipWrite (tileAddr d (tw / 32) (w.base + off)) (plain bs), true))
     ∧ (w.armed = true → w.gen = g → off ≤ w.len → w.len < off + bs.length → s.landBytes d g tw off bs
         = ((s.chipWrite (tileAddr d (tw / 32) (w.base + off)) (plain (bs.take (w.len - off)))).raise (pgCLU d) 11, true))
     ∧ (w.armed = false ∨ w.gen ≠ g → bs ≠ [] → s.landBytes d g tw off bs = (s.raise (pgCLU d) 11, false))) ∧
  -- FRAME_DELIVERED_EVENT (R239): the stream's event where one waits, else the oldest
  (∀ (l : Lane) (stream : W10) (s : State) (e v w : Nat) (ws : List Nat), e = (s.linkOf l).1 →
     v = bitsOf (s.reg (hraceKey 0x84C (e / 16) stream.toNat)) 7 0 → tabGet (fun _ => []) s.events e = ws →
     (ws.contains v = true ∧ w = v) ∨ (ws.contains v = false ∧ ws.head? = some w) →
     exec (.frameDeliveredEvent l stream) s = .next (({ s with events := tabSet (fun _ => []) s.events e (ws.erase w) } : State).evtAdd w 1).settle) ∧
  -- ECPRI_RECEIVE of a frame that fails R234, of one for PTP, and of one for a stream
  (∀ (l : Lane) (f : EcpriIn) (s u v : State) (e : Nat), e = (s.linkOf l).1 → s.portUpAt e = true → u = s.inc (pgLANE e + 0x204) 31 0 1 →
     v = u.ethGap e (bitsOf f.id 9 0) f.seq →
     (s.ecpriOk e f = false → exec (.ecpriReceive l f) s = .next (s.inc (pgLANE e + 0x208) 31 0 1))
     ∧ (s.ecpriOk e f = true → f.msg = 5 → exec (.ecpriReceive l f) s = .next (u.ptpDeliver e f.raw true))
     ∧ (s.ecpriOk e f = true → f.msg ≠ 5 → v.hraceOn (e / 16) = true → v.hraceFinds e (bitsOf f.id 9 0) = false →
         exec (.ecpriReceive l f) s = .next (v.noMap (e / 16)))
     ∧ (s.ecpriOk e f = true → f.msg ≠ 5 → v.hraceOn (e / 16) = true → v.hraceFinds e (bitsOf f.id 9 0) = true →
         exec (.ecpriReceive l f) s = .next ((v.lookup e 0 (bitsOf f.id 9 0)).1.deliver e (v.lookup e 0 (bitsOf f.id 9 0)).2 false f.seq.toNat f.payload))) ∧
  -- a gap of a stream's sequence numbers (R234)
  (∀ (e stream : Nat) (seq : W8) (s : State) (w : State), w = { s with ethLast := tabSet (fun _ => none) s.ethLast (1024 * (e / 16) + stream) (some seq) } →
     (tabGet (fun _ => none) s.ethLast (1024 * (e / 16) + stream) = none ∨ tabGet (fun _ => none) s.ethLast (1024 * (e / 16) + stream) = some (seq - 1) →
       s.ethGap e stream seq = w)
     ∧ (∀ y, tabGet (fun _ => none) s.ethLast (1024 * (e / 16) + stream) = some y → seq ≠ y + 1 → s.ethGap e stream seq = w.inc (pgLANE e + 0x20C) 31 0 1)) ∧
  -- CONTROL_BLOCK_UNKNOWN (R221)
  (∀ (l : Lane) (type : W8) (s : State), s.laneOn l = true → 1 ≤ s.laneRate l → 3 ≤ s.laneState l → s.laneState l ≤ 5 →
     ([0x1E, 0x2D, 0x4B, 0x55, 0x78, 0x87, 0xB4].contains type.toNat = false → exec (.controlBlockUnknown ⟨l, type⟩) s = .next (s.inc (pgLANE l + 0x054) 31 16 1))
     ∧ ([0x1E, 0x2D, 0x4B, 0x55, 0x78, 0x87, 0xB4].contains type.toNat = true → exec (.controlBlockUnknown ⟨l, type⟩) s = .next s))

/-- The oldest request of a valid entry whose turn in its span it is takes the next bytes of its source ring into the replay store of a present partner under the next number and onto the line, or goes as an eCPRI frame of a port that is up, or is lost and counted; each injection is armed by its word, and drops, corrupts or swaps the next frame on the line, or squelches its lane at once. Where a clause rests on a choice or an inference of the model and no rule, that is log entries 103, 104 and 105. -/
def Obligations.TailraceAndInjection : Prop :=
  -- TAILRACE_FRAME_SEND to a partner (R230, R241)
  (∀ (q : Quad) (k : W10) (n : W16) (s : State) (a : W32) (e : Nat) (x : SendReq) (r : State × Bytes), s.traceOn q = true →
     (s.sendsOf q).find? (fun r => decide (r.entry = k.toNat) && s.sendTurn q r) = some x → x.n = n.toNat → a = s.reg (traceKey 0x844 q k.toNat) →
     bit a 31 = true → e = 16 * q.val + bitsOf a 23 20 → s.laneMode e = 0 → s.ptPresent e = true → s.isLink e = true → s.storeRoom e n.toNat = true →
     r = (s.takeSend q x).sourceBytes q k.toNat n.toNat →
     exec (.tailraceFrameSend q k n) s = .next (r.1.sendBirlis e a k.toNat r.2)) ∧
  -- no frame without a request whose turn it is, or where the store has no room (R230, R325)
  (∀ (q : Quad) (k : W10) (n : W16) (s : State) (a : W32) (e : Nat), a = s.reg (traceKey 0x844 q k.toNat) → e = 16 * q.val + bitsOf a 23 20 →
     ((s.sendsOf q).find? (fun r => decide (r.entry = k.toNat) && s.sendTurn q r) = none
       ∨ (s.laneMode e = 0 ∧ s.ptPresent e = true ∧ s.storeRoom e n.toNat = false) ∨ s.traceOn q = false → exec (.tailraceFrameSend q k n) s = .next s)) ∧
  -- the frame takes the next number and stays in the store (R230), and asks for its timestamp (R328)
  (∀ (e k : Nat) (a : W32) (pay : Bytes) (s : State) (f : TxFrame) (u v : State), f = ⟨(s.link e).txSeq, bitsOf a 9 0, pay, false⟩ →
     u = (s.setLink e { s.link e with txSeq := (s.link e).txSeq + 1, store := (s.link e).store ++ [f] }).showUnacked e →
     v = (if bit a 30 then u.setTsWaiting (e / 16) (u.tsWaiting (e / 16) ++ [⟨0, e, k, f.seq⟩]) else u) →
     (s.txRuns e = false → s.sendBirlis e a k pay = v) ∧ (s.txRuns e = true → s.sendBirlis e a k pay = v.firstSend e f)) ∧
  -- a link sends only where it is not DOWN, has lanes to send on and waits for no mask change (R227, R228)
  (∀ (s : State) (e : Nat), (s.link e).rx = 0 ∨ (s.link e).tx = 0 ∨ (s.link e).txAt ≠ none → s.txRuns e = false) ∧
  -- a frame's turn on the line (R242): plain, dropped, corrupted, held back, and behind a frame held back
  (∀ (e : Nat) (f : TxFrame) (s : State), 
     ((s.link e).held = none → s.injOn e = 0 → s.sendFrame e f = s.putFrame e f false)
     ∧ ((s.link e).held = none → s.injOn e = 1 → s.sendFrame e f = s.put (pgBLNK (e / 16) + 0x140) 31 31 0)
     ∧ ((s.link e).held = none → s.injOn e = 2 → s.sendFrame e f = (s.putFrame e f true).put (pgBLNK (e / 16) + 0x140) 31 31 0)
     ∧ ((s.link e).held = none → s.injOn e = 3 → s.sendFrame e f = s.modLink e (fun k => { k with held := some f }))
     ∧ (∀ h, (s.link e).held = some h → h.seq ≠ f.seq → s.sendFrame e f
         = (((s.putFrame e f false).putFrame e h false).modLink e (fun k => { k with held := none })).put (pgBLNK (e / 16) + 0x140) 31 31 0)
     ∧ s.firstSend e f = (s.sendFrame e f).modLink e (fun k => { k with
         store := k.store.map (fun g => if g.seq = f.seq then { g with sent := true } else g) })) ∧
  -- the blocks of a frame (R221): header, data and end in order, striped over the transmit mask's lanes
  (∀ (e : Nat) (f : TxFrame) (s : State), s.putFrame e f false = s.sendStriped e ((frameBlocks f.seq.toNat f.stream f.payload).map (fun x => (x, 0)))) ∧
  -- TAILRACE_FRAME_SEND of an Ethernet port, and of an entry whose link cannot send (R234, R241)
  (∀ (q : Quad) (k : W10) (n : W16) (s : State) (a : W32) (e : Nat) (x : SendReq) (r : State × Bytes), s.traceOn q = true →
     (s.sendsOf q).find? (fun r => decide (r.entry = k.toNat) && s.sendTurn q r) = some x → x.n = n.toNat → a = s.reg (traceKey 0x844 q k.toNat) →
     bit a 31 = true → e = 16 * q.val + bitsOf a 23 20 → r = (s.takeSend q x).sourceBytes q k.toNat n.toNat →
     (s.laneMode e = 1 → s.isLink e = true → s.portUpAt e = true → exec (.tailraceFrameSend q k n) s = .next (r.1.sendEth e a q k.toNat r.2))
     ∧ (s.laneMode e = 1 → s.portUpAt e = false → exec (.tailraceFrameSend q k n) s = .next (r.1.inc (pgTRACE q + 0x060) 31 0 1))
     ∧ (s.laneMode e = 0 → s.ptPresent e = false → exec (.tailraceFrameSend q k n) s = .next (r.1.inc (pgTRACE q + 0x060) 31 0 1))) ∧
  -- an entry that is not VALID sends nothing (R241)
  (∀ (q : Quad) (k : W10) (n : W16) (s : State) (x : SendReq), s.traceOn q = true →
     (s.sendsOf q).find? (fun r => decide (r.entry = k.toNat) && s.sendTurn q r) = some x → x.n = n.toNat →
     bit (s.reg (traceKey 0x844 q k.toNat)) 31 = false → s.ptPresent (16 * q.val + bitsOf (s.reg (traceKey 0x844 q k.toNat)) 23 20) = false →
     exec (.tailraceFrameSend q k n) s = .next (s.takeSend q x)) ∧
  -- INJ_DROP, INJ_CORRUPT, INJ_REORDER (R242)
  (∀ (q : Quad) (link : W4) (s : State) (a : Nat) (p : Page) (d : RegDesc) (w : Nat → W32), a = pgBLNK q + 0x140 → s.reaches a = true → regAt a = some (p, d) →
     w = (fun act => BitVec.ofNat 32 (2 ^ 31 + act * 2 ^ 24 + link.toNat * 2 ^ 20)) → s.factory = true →
     exec (.injDrop q link) s = .next (s.setReg a (d.newWord (s.reg a) (w 1))) ∧ exec (.injCorrupt q link) s = .next (s.setReg a (d.newWord (s.reg a) (w 2)))
     ∧ exec (.injReorder q link) s = .next (s.setReg a (d.newWord (s.reg a) (w 3)))) ∧
  -- INJ_LANE_DROP (R242)
  (∀ (q : Quad) (link lane : W4) (count : W8) (s : State) (a : Nat) (p : Page) (d : RegDesc) (w : W32), a = pgBLNK q + 0x140 → s.reaches a = true →
     regAt a = some (p, d) → w = BitVec.ofNat 32 (2 ^ 31 + 4 * 2 ^ 24 + link.toNat * 2 ^ 20 + lane.toNat * 65536 + count.toNat) → count ≠ 0 →
     s.factory = true → exec (.injLaneDrop q link lane count) s
       = .next (((s.setReg a (d.newWord (s.reg a) w)).modLane (16 * q + lane.toNat) (fun x => { x with inj := count.toNat })).emit
           (.laneTx (16 * q + lane.toNat) false)))

/-- A port passes its first ready head to a free unit, which accepts it; each operation does the whole of its work on the job its unit holds, once, and leaves cause and result words with it; an abandoned job does a free number of its units of work and ends with cause 5; a finished job writes its result words, counts, frees its unit and reports its task, poisoned where its cause is 1 to 4. Where a clause rests on a choice or an inference of the model and no rule, that is log entries 140, 141 and 184. -/
def Obligations.EngineJobs : Prop :=
  -- the operations of FFT, SHP, NSC, CODE and ABD (R249 to R268, R273 to R292, R295 to R304) on a job that was not abandoned; w is an operation's work
  (∀ (q : Quad) (s : State) (j k : EngJob) (done : Instr → Nat → Nat → (EngJob → Nat) → (EngJob → Nat → State → State × Nat × List Nat) → Prop),
     s.quadDark q = false → j.ran = false → s.jobAbandoned j = false →
     k = { j with abandoned := false } →
     done = (fun c u op n w => s.engJob q u = some j → j.op = op → ∀ r, r = w k (n j) s → exec c s = .next (r.1.jobRan q u k r.2.1 r.2.2)) →
     (done (.fft q) 0 0 fftUnits (fftWork q) ∧ done (.ifft q) 0 1 fftUnits (fftWork q) ∧ done (.dft q) 0 2 fftUnits (fftWork q)
       ∧ done (.idft q) 0 3 fftUnits (fftWork q) ∧ done (.filter q) 1 0 shpUnits (shpWork q) ∧ done (.expand q) 2 0 nscUnits (expandWork q)
       ∧ done (.pack q) 2 1 nscUnits packWork ∧ done (.update q) 2 2 nscUnits updateWork)
     ∧ (done (.ldpcDec q) 3 0 planUnits (decodeWork q) ∧ done (.ldpcEnc q) 4 1 planUnits encodeWork ∧ done (.turboDec q) 5 2 planUnits (decodeWork q)
       ∧ done (.turboEnc q) 5 3 planUnits encodeWork ∧ done (.polarDec q) 6 4 polarUnits (polarDecWork q) ∧ done (.polarEnc q) 6 5 polarUnits polarEncWork
       ∧ done (.trellisDec q) 7 6 oneUnit (trellisDecWork q) ∧ done (.convEnc q) 7 7 oneUnit convEncWork)
     ∧ done (.prach q) 8 0 (fun j => j.count) (prachWork q) ∧ done (.gsm q) 8 1 gsmUnits (gsmWork q)) ∧
  -- an abandoned job (R247): no more than all of its units of work, and cause 5 where none other stands
  (∀ (q : Quad) (s : State) (j k : EngJob) (some_ : Instr → Nat → Nat → (EngJob → Nat) → (EngJob → Nat → State → State × Nat × List Nat) → Prop),
     s.quadDark q = false → j.ran = false → s.jobAbandoned j = true → k = { j with abandoned := true } →
     some_ = (fun c u op n w => s.engJob q u = some j → j.op = op →
       ∃ m r, m ≤ n j ∧ r = w k m (s.drawn 1) ∧ exec c s = .next (r.1.jobRan q u k (if r.2.1 = 0 then 5 else r.2.1) r.2.2)) →
     (some_ (.fft q) 0 0 fftUnits (fftWork q) ∧ some_ (.ifft q) 0 1 fftUnits (fftWork q) ∧ some_ (.dft q) 0 2 fftUnits (fftWork q)
       ∧ some_ (.idft q) 0 3 fftUnits (fftWork q) ∧ some_ (.filter q) 1 0 shpUnits (shpWork q) ∧ some_ (.expand q) 2 0 nscUnits (expandWork q)
       ∧ some_ (.pack q) 2 1 nscUnits packWork ∧ some_ (.update q) 2 2 nscUnits updateWork)
     ∧ (some_ (.ldpcDec q) 3 0 planUnits (decodeWork q) ∧ some_ (.ldpcEnc q) 4 1 planUnits encodeWork ∧ some_ (.turboDec q) 5 2 planUnits (decodeWork q)
       ∧ some_ (.turboEnc q) 5 3 planUnits encodeWork ∧ some_ (.polarDec q) 6 4 polarUnits (polarDecWork q)
       ∧ some_ (.polarEnc q) 6 5 polarUnits polarEncWork ∧ some_ (.trellisDec q) 7 6 oneUnit (trellisDecWork q)
       ∧ some_ (.convEnc q) 7 7 oneUnit convEncWork)
     ∧ some_ (.prach q) 8 0 (fun j => j.count) (prachWork q) ∧ some_ (.gsm q) 8 1 gsmUnits (gsmWork q)) ∧
  -- what work leaves with its job
  (∀ (q : Quad) (u : JobUnit) (j : EngJob) (cause : Nat) (res : List Nat) (s : State),
     (s.jobRan q u j cause res).engJob q u = some { j with ran := true, cause := cause, res := res } ∧ OnlyParts [.eng] s (s.jobRan q u j cause res)) ∧
  -- ENGINE_JOB_OFFER of a head without a mark (R246, R270), and of a marked one
  (∀ (q : Quad) (e : Eng) (s : State) (t : Task) (u : Nat), s.quadDark q = false → s.slotState (engSlot q e) < 2 → s.engPick q e = some t →
     u = s.headUnit q e t →
     (t.marked = false → ¬ (t.dlMode = 2 ∧ t.missed s.pt = true) → exec (.engineJobOffer q e) s
       = .next ((s.mapTask t.ring t.seq (fun x => { x with place := .engine q u })).acceptJob q e u t))
     ∧ (t.marked = true → ¬ (t.dlMode = 2 ∧ t.missed s.pt = true) → exec (.engineJobOffer q e) s = .next (s.endNow t (s.waitStatus t) s.pt 0))
     ∧ (t.dlMode = 2 → t.missed s.pt = true →
         exec (.engineJobOffer q e) s = .next (s.endNow t (s.waitStatus { t with expired := true }) s.pt 0))) ∧
  -- ENGINE_JOB_OFFER with no head to pass on, or of a port that is not there (R270)
  (∀ (q : Quad) (e : Eng) (s : State), s.engPick q e = none ∨ s.quadDark q = true → exec (.engineJobOffer q e) s = .next s) ∧
  -- an acceptance that fails for its descriptor's address (R246)
  (∀ (q : Quad) (e : Eng) (u : Nat) (t : Task) (s : State), t.argp.toNat % 64 ≠ 0 → ∃ j, (s.acceptJob q e u t).engJob q u = some j ∧ j.cause = 1 ∧ j.ran = true
     ∧ j.ring = t.ring ∧ j.seq = t.seq ∧ j.cg = t.cg) ∧
  -- ENGINE_JOB_FINISH (R244, R246, R247): the result words written, the unit free, the task reported; a job abandoned since its work was
  -- done reports cause 5
  (∀ (q : Quad) (u : JobUnit) (s : State) (j : EngJob) (c : Nat) (w : State × Bool) (n : State) (t : Task), s.engJob q u = some j → j.ran = true →
     s.quadDark q = false → s.fenced q = false → (unitEng u = 4 → s.gsmLate q j = (s, j)) →
     c = (if j.cause = 0 ∧ s.jobAbandoned j = true then 5 else j.cause) →
     w = s.devWrite { cg := some j.cg, quad := j.quad } (j.argp + 48) (plain (resultBytes c (if j.res = [] then s.idleRes q u j else j.res))) →
     w.2 = true → n = (w.1.setEng q u none).inc (engPg q (unitEng u) + 0x080) 31 0 1 →
     (c = 0 ∨ c = 5 → n.findTask j.ring j.seq = some t → exec (.engineJobFinish q u) s = .next (n.reportTask t (locQuad q)))
     ∧ (1 ≤ c → c ≤ 4 → (n.poisonReport q u j c).findTask j.ring j.seq = some t →
         exec (.engineJobFinish q u) s = .next ((n.poisonReport q u j c).reportTask t (locQuad q)))) ∧
  -- ENGINE_JOB_FINISH whose result write gets an error response (R246, R247): the words hold no defined value, and a job without a cause has 3
  (∀ (q : Quad) (u : JobUnit) (s : State) (j : EngJob) (c b : Nat) (w : State × Bool) (n : State) (t : Task), s.engJob q u = some j → j.ran = true →
     s.quadDark q = false → s.fenced q = false → (unitEng u = 4 → s.gsmLate q j = (s, j)) →
     c = (if j.cause = 0 ∧ s.jobAbandoned j = true then 5 else j.cause) → b = (if c = 0 ∨ c = 5 then 3 else c) → b ≤ 4 →
     w = s.devWrite { cg := some j.cg, quad := j.quad } (j.argp + 48) (plain (resultBytes c (if j.res = [] then s.idleRes q u j else j.res))) →
     w.2 = false → n = (((w.1.smudge (j.argp + 48) 16).setEng q u none).inc (engPg q (unitEng u) + 0x080) 31 0 1).poisonReport q u j b →
     n.findTask j.ring j.seq = some t → exec (.engineJobFinish q u) s = .next (n.reportTask t (locQuad q))) ∧
  -- a GSM job abandoned after its work (R301, R303): its detection is cut before it finishes
  (∀ (q : Quad) (u : JobUnit) (s : State) (j : EngJob), s.engJob q u = some j → j.ran = true → s.quadDark q = false → s.fenced q = false → unitEng u = 4 →
     exec (.engineJobFinish q u) s = .next ((s.gsmLate q j).1.finishJob q u (s.gsmLate q j).2)
     ∧ (j.op = 1 → j.cause = 0 → j.abandoned = false → s.jobAbandoned j = true → (s.gsmLate q j).1.gsmSt q (j.f 0 27 24) = j.gsmFresh))

/-- A shaped sample is the exact sum over its window, rounded and clamped; a block packed at a width its components fit expands to the same components; the width of a block follows R263 within 4 to 16; the prefix of an inverse transform repeats its tail; the rate-matched bits of the blocks add up to G; a record is written while there is room and counted as dropped beyond; a soft value of -128 reads as -127 and a combined one saturates. Where a clause rests on a choice or an inference of the model and no rule, that is log entries 138, 145, 146, 149, 151 and 183. -/
def Obligations.EngineArithmetic : Prop :=
  -- the filter (R255, R256): output i from the samples before it, the history behind them
  (∀ (j : EngJob) (hist xs : List W32) (i : Nat) (w : Nat → Int × Int) (a : Int × Int), i < xs.length → hist.length = 255 → j.taps ≤ 256 →
     w = (fun t => cplx (if t ≤ i then xs.getD (i - t) 0 else hist.getD (t - i - 1) 0)) →
     a = (List.range j.taps).foldl (fun (a : Int × Int) t =>
       (a.1 + (j.tap t).1 * (w t).1 - (j.tap t).2 * (w t).2, a.2 + (j.tap t).1 * (w t).2 + (j.tap t).2 * (w t).1)) (0, 0) →
     (j.filter hist xs).1.length = xs.length
     ∧ (j.filter hist xs).1.getD i 0 = elemInt (clampI (-32768) 32767 ((a.1 + 65536) / 131072)) (clampI (-32768) 32767 ((a.2 + 65536) / 131072))) ∧
  -- a block that fits its width survives compression (R258, R259)
  (∀ (xs : List Int) (w : Nat) (h : W8) (t : Bytes), xs.length = 24 → 4 ≤ w → w ≤ 16 → (∀ x ∈ xs, -(2 ^ (w - 1) : Int) ≤ x ∧ x ≤ 2 ^ (w - 1) - 1) →
     packBlock xs w = h :: t → h.toNat = w - 1 ∧ t.length = 3 * w ∧ expandBlock h t = (xs, 0)) ∧
  -- the width of a block (R263)
  (∀ (j : EngJob) (x : NscState) (b : RbState), 4 ≤ j.width x b ∧ j.width x b ≤ 16
     ∧ (4 ≤ j.c 1 14 10 → j.c 1 14 10 ≤ 16 → j.width x b = j.c 1 14 10) ∧ (j.c 1 14 10 = 0 → x.meas < 8 ∨ b.pEst = 0 → j.width x b = 16)) ∧
  -- a symbol that is not gated in (R262)
  (∀ (j : EngJob) (x y : NscState) (p : List Nat), x.fresh = false ∨ x.nrbLast = 0 ∨ x.eLast ≤ j.c 2 31 0 * 24 * x.nrbLast → y = (j.symbol x p).1 →
     (j.symbol x p).2 = false ∧ y.heldSyms = min (x.heldSyms + 1) 255 ∧ y.meas = x.meas ∧ y.fresh = false ∧ (y.stale = true ↔ x.stale = true ∨ 63 ≤ x.heldSyms)) ∧
  -- the prefix of an inverse transform (R252)
  (∀ (j : EngJob) (k i : Nat) (ys : List W32), j.op = 1 → ys.length = j.n → j.prefix k ≤ j.n → i < j.prefix k →
     (j.withPrefix k ys).length = j.prefix k + j.n ∧ (j.withPrefix k ys).getD i 0 = ys.getD (j.n - j.prefix k + i) 0
       ∧ (j.withPrefix k ys).drop (j.prefix k) = ys) ∧
  -- the bits of the blocks (R277)
  (∀ (g nl qm c : Nat), 0 < c → 0 < nl * qm → g % (nl * qm) = 0 → ((List.range c).map (fun r => rateE g nl qm c r)).sum = g) ∧
  -- soft values (R271, R287)
  (∀ (b : W8) (x : Int), softOf b = (if b.toInt = -128 then -127 else b.toInt) ∧ -127 ≤ clampI (-127) 127 (x + softOf b) ∧ clampI (-127) 127 (x + softOf b) ≤ 127) ∧
  -- records (R303, R304)
  (∀ (j : EngJob) (x y : AbdRun) (st pre : Nat) (m : Int) (pos w2 : Nat), y = j.putRec x st pre m pos w2 →
     (x.run.ok = false → y = x)
     ∧ (x.run.ok = true → x.n < j.maxRec → y.dropped = x.dropped
       ∧ (y.run.ok = true → y.n = x.n + 1 ∧ y.detected + y.preempted + y.crcFail = x.detected + x.preempted + x.crcFail + (if st < 3 then 1 else 0))
       ∧ (y.run.ok = false → y.n = x.n ∧ y.detected = x.detected ∧ y.preempted = x.preempted ∧ y.crcFail = x.crcFail))
     ∧ (x.run.ok = true → j.maxRec ≤ x.n → y.n = x.n + 1 ∧ y.dropped = x.dropped + 1 ∧ y.run = x.run ∧ y.detected = x.detected)) ∧
  -- a candidate (R301): opens, takes over, is preempted by the capture margin, or passes
  (∀ (j : EngJob) (r : AbdRun) (pre x p : Nat) (at_ : Nat → Nat) (m q : Int),
     (r.det = none → (j.candidate r pre at_ x m).det = (if j.thresh ≤ m then some (x, m) else none))
     ∧ (r.det = some (p, q) → 0 < j.capMargin → q + j.capMargin ≤ m → (j.candidate r pre at_ x m).det = some (x, m)
         ∧ (j.candidate r pre at_ x m).n = (j.putRec r 1 pre q (at_ p) ((BitVec.ofInt 16 m).toNat * 65536)).n)
     ∧ (r.det = some (p, q) → q < m → m < q + j.capMargin → (j.candidate r pre at_ x m).det = some (x, m) ∧ (j.candidate r pre at_ x m).n = r.n)
     ∧ (r.det = some (p, q) → m ≤ q → (j.candidate r pre at_ x m).det = some (p, q) ∧ (j.candidate r pre at_ x m).n = r.n))

/-- A code that its Weir receives is recorded, sets its WEIR_INTEG bit, and takes its class action: none, a halt of the group its site names, a fence of its quadrant, or a device reset; of all that a block presents in one cycle the event of the highest class and lowest code is recorded; a Weir takes no code that is not its own. Two consecutive sag samples enter the record of their rail; a warning is raised once until its rail has recovered, an action each time but in a quadrant already fenced for sag. An injected code does in FACTORY what a real one does, and is a bad access where its Weir does not receive it. -/
def Obligations.IntegrityAndSags : Prop :=
  -- INTEGRITY_FAULT of one code (R338, R344, R353, R354)
  (∀ (w : WeirIx) (ev : BlockCycle) (x : IntegSrc) (code : Nat) (s u : State), s.wide = none → s.weirAlive w = true → ev.srcs = [x] →
     cyclePage ev w = none → code = x.code.toNat → weirTakes w code = true →
     u = s.withVecs [weirVec w] (fun t => ((t.setInteg w code).setRowBit (pgWEIR w + 0x040) (if w.val < 4 then 57 else 33) true).weirEvent w
       ⟨integClass code, if w.val < 4 then 57 else 33, true, code, x.loc, s.siteCg code x.site, false⟩) →
     (integClass code = 1 → exec (.integrityFault w ev.page ev.errs ev.srcs []) s = .next u)
     ∧ (integClass code = 4 → s.siteCg code x.site = none → exec (.integrityFault w ev.page ev.errs ev.srcs []) s = .next (u.poisonSite x.site))
     ∧ (∀ g, integClass code = 4 → s.siteCg code x.site = some g → exec (.integrityFault w ev.page ev.errs ev.srcs []) s = .next ((u.haltGroup g 1).poisonSite x.site))
     ∧ (integClass code = 5 → exec (.integrityFault w ev.page ev.errs ev.srcs []) s = .next (u.startFence (fenceTarget w x.loc) code x.loc false))
     ∧ (integClass code = 6 → exec (.integrityFault w ev.page ev.errs ev.srcs []) s
         = .next (((u.setReg (pgDWEIR + 0x180) (BitVec.ofNat 32 (2 ^ 31 + code * 65536 + satAdd 16 (u.fld (pgDWEIR + 0x180) 15 0) 1))).setReg
             (pgDWEIR + 0x184) (BitVec.ofNat 32 u.rawNs32)).assertDevice 2))) ∧
  -- the one event of a block's cycle (R339): of the highest class of its codes at least, and of its codes' events that of the lowest
  (∀ (s : State) (w : WeirIx) (b : BlockCycle), (s.blockEvent w b = none ↔ s.cycleErrs w b = 0 ∧ ∀ c ∈ b.srcs, weirTakes w c.code.toNat = false)
     ∧ (∀ x, s.blockEvent w b = some x → (∀ c ∈ b.srcs, weirTakes w c.code.toNat = true → integClass c.code.toNat ≤ x.cls)
       ∧ (x.integ = true → (∃ c ∈ b.srcs, weirTakes w c.code.toNat = true ∧ x.code = c.code.toNat ∧ x.cls = integClass c.code.toNat ∧ x.loc = c.loc)
         ∧ ∀ c ∈ b.srcs, weirTakes w c.code.toNat = true → integClass c.code.toNat = x.cls → x.code ≤ c.code.toNat))) ∧
  -- events of one cycle at a Weir (R343): the highest class first, then the lowest bit of its word
  (∀ (s : State) (w : Nat) (e f : WeirEvent), f.cls < e.cls ∨ (f.cls = e.cls ∧ e.bit < f.bit) →
     s.weirCycle w [e, f] = (s.weirEvent w e).weirEvent w f ∧ s.weirCycle w [f, e] = (s.weirEvent w e).weirEvent w f) ∧
  -- what a Weir does not receive (R338, R468)
  (∀ (w : WeirIx) (ev : BlockCycle) (s : State), (cyclePage ev w = none ∧ ∀ c ∈ ev.srcs, weirTakes w c.code.toNat = false) ∨ s.weirAlive w = false
       ∨ s.wide.isSome = true → exec (.integrityFault w ev.page ev.errs ev.srcs []) s = .next s) ∧
  -- whose group a FUNCTION code names, and whose job it poisons (R338, R353)
  (∀ (s : State) (q : Quad) (e : Eng) (i : W6) (g : Cg) (f : Flow) (u : JobUnit) (j : EngJob) (t : Task), s.siteCg 19 (.group g) = some g.val ∧ s.siteCg 19 (.flow f) = some (s.flowCg f.val)
     ∧ s.siteCg 3 .other = none ∧ (s.engJob q u = some j → unitEng u = e.val → ctxIndex e.val j.words = i.toNat →
       s.findTask j.ring j.seq = some t → ∃ t', (s.poisonSite (.context q e i)).findTask j.ring j.seq = some t' ∧ t'.poisoned = true)) ∧
  -- the record (R340, R342): the code's bit of WEIR_INTEG, and nothing but what an event can change
  (∀ (w : WeirIx) (code : Nat) (loc : W16) (cg : Option Nat) (inj : Bool) (s u : State), weirTakes w code = true →
     u = s.withVecs [weirVec w] (fun t => (t.setInteg w code).weirRecord w (integEvent w code loc cg inj)) →
     bit (u.reg (pgWEIR w + 0x078)) code = true ∧ EventOnly s u) ∧
  -- a group already HALTED, a quadrant already fenced, a device reset already asserted (R353, R352, R448)
  (∀ (s : State) (g q code src : Nat) (loc : W16) (inj : Bool) (x : WideReset), (s.cgPhase g = 3 → s.haltGroup g 1 = s)
     ∧ (s.fencePhase q ≠ 0 → s.startFence q code loc inj = s) ∧ (s.wide = some x → s.assertDevice src = s)) ∧
  -- SAG_WARN (R345, R347): two consecutive samples below the threshold
  (∀ (r : Rail) (prev mv : W16) (s u : State), u = (s.noteSample r prev.toNat).noteSample r mv.toNat →
     (s.sagWarns r prev.toNat = true → s.sagWarns r mv.toNat = true → tabGet (fun _ => false) s.sagWarned r = false →
       exec (.sagWarn r ⟨prev, mv⟩) s = .next (({ u with sagWarned := tabSet (fun _ => false) u.sagWarned r true } : State).integrity (sagWeir r)
         (if r.val < 4 then 6 else if r.val = 4 then 20 else 22) none .other (if r.val < 4 then locQuad r else 0) false))
     ∧ (s.sagWarns r prev.toNat = false ∨ s.sagWarns r mv.toNat = false ∨ tabGet (fun _ => false) s.sagWarned r = true →
       exec (.sagWarn r ⟨prev, mv⟩) s = .next u)) ∧
  -- SAG_ACTION (R345, R347)
  (∀ (r : Rail) (prev mv : W16) (s u : State), u = (s.noteSample r prev.toNat).noteSample r mv.toNat →
     (s.sagActs r prev.toNat = true → s.sagActs r mv.toNat = true → (4 ≤ r.val ∨ s.fenced r = false ∨ (s.quadSt r).fenceSag = false) →
       exec (.sagAction r ⟨prev, mv⟩) s = .next (u.integrity (sagWeir r)
         (if r.val < 4 then 7 else if r.val = 4 then 21 else 23) none .other (if r.val < 4 then locQuad r else 0) false))
     ∧ (s.sagActs r prev.toNat = false ∨ s.sagActs r mv.toNat = false ∨ (r.val < 4 ∧ s.fenced r = true ∧ (s.quadSt r).fenceSag = true) →
       exec (.sagAction r ⟨prev, mv⟩) s = .next u)) ∧
  -- SAG_WARN_REARM (R347): the next warning is raised again
  (∀ (r : Rail) (mv : W16) (s : State), s.sagWarns r mv.toNat = false → Completes (.sagWarnRearm r mv) s (fun t =>
     tabGet (fun _ => false) t.sagWarned r = false ∧ (∀ j, j ≠ r.val → tabGet (fun _ => false) t.sagWarned j = tabGet (fun _ => false) s.sagWarned j)
     ∧ (∀ k, k ≠ sagKey r → t.reg k = s.reg k) ∧ OnlyParts [.regs, .sagWarned] s t)) ∧
  -- a sample of a monitored rail enters MIN_MV; no other register changes (R346, WEIR_SAG_STAT)
  (∀ (r : Rail) (mv : W16) (s : State), (s.sagRef r ≠ 0 → s.weirAlive (sagWeir r) = true →
       (s.noteSample r mv.toNat).fld (sagKey r) 15 0 = min mv.toNat (s.fld (sagKey r) 15 0))
     ∧ (s.sagRef r = 0 → s.noteSample r mv.toNat = s) ∧ (∀ k, k ≠ sagKey r → (s.noteSample r mv.toNat).reg k = s.reg k)
     ∧ OnlyParts [.regs] s (s.noteSample r mv.toNat)) ∧
  -- WEIR_INJ (R358)
  (∀ (w : WeirIx) (v : W32) (s : State) (a : Nat), a = pgWEIR w + 0x1C0 → s.reaches a = true →
     (s.factory = true → weirTakes w (bitsOf v 4 0) = true → bit v 31 = true → exec (.weirInj w v) s = .next (((s.setReg a v).put a 31 31 0).integrity w
       (bitsOf v 4 0) (if integClass (bitsOf v 4 0) = 4 then some (bitsOf v 21 16) else none) .other (if w.val < 4 then locQuad w else 0) true))
     ∧ (s.factory = true → weirTakes w (bitsOf v 4 0) = false → exec (.weirInj w v) s = .next (s.badAccess a))
     ∧ (s.factory = false → bit v 31 = true → exec (.weirInj w v) s = .next (s.liveDrop a)))

/-- Once the accepted requests have completed, every task of the fenced quadrant ends QUADRANT_LOST, the quadrant's word, WEIR_INTEG and first capture go to the device Weir, and the quadrant is in reset, PHASE 4; the rail condition, met at once after an injected sag, makes it PHASE 3; then the reset ends: PHASE 0, FENCE_DONE, and the quadrant's lanes start. Where a clause rests on a choice or an inference of the model and no rule, that is log entries 152, 154, 164 and 189. -/
def Obligations.Fences : Prop :=
  -- FENCE_REQUESTS_DRAINED (R348 to R350, R358)
  (∀ (q : Quad) (s u : State) (a : W64) (b c : W32) (f : Nat), s.fencePhase q = 1 →
     u = (s.put (pgDWEIR + 0x140 + 4 * q) 26 24 2).inOneCycle (fun x => (((s.put (pgDWEIR + 0x140 + 4 * q) 26 24 2).tasks.filter (Task.inQuad q)).foldl
       (fun t k => t.endTask k stQuadrantLost t.pt k.lostLoc) x).settle) →
     a = u.reg64 (pgQWEIR q + 0x040) → b = u.reg (pgQWEIR q + 0x078) → c = u.reg (pgQWEIR q + 0x048) → f = (if (u.quadSt q).fenceInj then 3 else 4) →
     Completes (.fenceRequestsDrained q) s (fun t => t.fencePhase q = f
       ∧ t = (((((u.setReg64 (pgDWEIR + 0x100 + 12 * q) a).setReg (pgDWEIR + 0x108 + 12 * q) b).setReg (pgDWEIR + 0x130 + 4 * q) c).quadReset q).spoilQuad q
           u.eng u.gsm).put (pgDWEIR + 0x140 + 4 * q) 26 24 f)) ∧
  -- FENCE_RAIL_OK (R348): PHASE 3, and no other register
  (∀ (q : Quad) (s : State), s.fencePhase q = 4 → Completes (.fenceRailOk q) s (fun t => t.fencePhase q = 3
     ∧ (∀ k, k ≠ pgDWEIR + 0x140 + 4 * q.val → t.reg k = s.reg k) ∧ OnlyParts [.regs] s t)) ∧
  -- FENCE_DONE (R348, R350)
  (∀ (q : Quad) (s u : State), s.fencePhase q = 3 → u = s.put (pgDWEIR + 0x140 + 4 * q.val) 26 24 0 →
     exec (.fenceDone q) s = .next ((List.range 16).foldl (fun t i => t.laneStart (16 * q.val + i))
       ((u.setQuad q { u.quadSt q with fenceSag := false, fenceInj := false }).irqBit pgDWEIR 6))) ∧
  -- each phase takes its own command
  (∀ (q : Quad) (s : State), (s.fencePhase q ≠ 1 → exec (.fenceRequestsDrained q) s = .next s) ∧ (s.fencePhase q ≠ 4 → exec (.fenceRailOk q) s = .next s)
     ∧ (s.fencePhase q ≠ 3 → exec (.fenceDone q) s = .next s))

/-- An entry request to an awake block whose effective floor lies below IDLE is refused with its cause, deferred while work is outstanding, or accepted; a deferral ends in the answer then due, or at its limit in a refusal with cause 4; a voting domain without a vote enters; an accepted entry ends with the slot in the state it was accepted for and one more entry counted. Where a clause rests on a choice or an inference of the model and no rule, that is log entries 111 and 113. -/
def Obligations.BlockEntries : Prop :=
  -- the answer (R364)
  (∀ (k : Nat) (out : Bool) (s : State) (x : PowerSlot), x = s.slot k →
     (s.refuseCause k ≠ 0 → s.answerEntry k out = s.setSlot k { x with entry := .none, lastRefuse := s.refuseCause k })
     ∧ (s.refuseCause k = 0 → s.answerEntry k true = s.setSlot k { x with entry := .deferring }
       ∧ s.answerEntry k false = s.setSlot k (if s.linesWait k = true then { x with entry := .deferring }
         else { x with entry := .accepted, goal := s.effFloor k }))) ∧
  -- why a block refuses (R364): an enabled interrupt, then work or a reset in progress, then a hold
  (∀ (k : Nat) (s : State), ((slotPages k).any (fun pg => decide (s.reg (pg + 0x02C) &&& s.reg (pg + 0x028) ≠ 0)) = true → s.refuseCause k = 1)
     ∧ ((slotPages k).any (fun pg => decide (s.reg (pg + 0x02C) &&& s.reg (pg + 0x028) ≠ 0)) = false → s.slotBusy k = true → s.refuseCause k = 2)
     ∧ ((slotPages k).any (fun pg => decide (s.reg (pg + 0x02C) &&& s.reg (pg + 0x028) ≠ 0)) = false → s.slotBusy k = false →
         s.refuseCause k = if s.holdStands k = true then 3 else 0)) ∧
  -- POWER_ENTRY_REQUEST (R364)
  (∀ (k : SlotIx) (out : Bool) (s : State), s.slotAwake k = true → slotVotes k = false → 1 < s.effFloor k →
     exec (.powerEntryRequest k out) s = .next (s.answerEntry k out)) ∧
  -- POWER_ENTRY_REQUEST of a block that is not awake, votes, or has no floor below IDLE
  (∀ (k : SlotIx) (out : Bool) (s : State), s.slotAwake k = false ∨ slotVotes k = true ∨ s.effFloor k ≤ 1 → exec (.powerEntryRequest k out) s = .next s) ∧
  -- POWER_DEFER_END (R364)
  (∀ (k : SlotIx) (s : State), (s.slot k).entry = .deferring → exec (.powerDeferEnd k) s = .next (s.answerEntry k false)) ∧
  -- POWER_DEFER_LIMIT (R364)
  (∀ (k : SlotIx) (s u : State), (s.slot k).entry = .deferring → u = s.setSlot k { s.slot k with entry := .none, lastRefuse := 4 } →
     exec (.powerDeferLimit k) s = .next (if 64 ≤ k.val then u.raise (pgQPWR (k.val / 64 - 1)) 2 else u)) ∧
  -- POWER_ENTRY_COMPLETE (R172, R365, R380): the merge lines of a bank have drained; the new state, the count, a REFUSE condition held as a wake, the other slots
  (∀ (k : SlotIx) (s : State), (s.slot k).entry = .accepted → s.bankRetired k = false → Completes (.powerEntryComplete k) s (fun t =>
     t.slot k = { s.slot k with st := (s.slot k).goal, entry := .none, entries := (s.slot k).entries + 1, latched := ((s.slot k).latched || (!slotVotes k && decide ((s.drainSlot k).refuseCause k ≠ 0))) }
     ∧ (∀ j, j ≠ k.val → t.slot j = s.slot j) ∧ (∀ p, slotBlk k = some p → p.blk = .cbank → t.mergeLines p.inst = [])
     ∧ OnlyParts (eventsAnd [.power, .quad, .mem]) s t)) ∧
  -- VOTE_LINGER_EXPIRY (R371); a domain with a vote stays
  (∀ (k : SlotIx) (s : State), s.slotAwake k = true → slotVotes k = true → 1 < s.effFloor k → s.bankRetired k = false →
     (s.voted k = false → exec (.voteLingerExpiry k) s = .next (s.setSlot k { s.slot k with entry := .accepted, goal := s.effFloor k }))
     ∧ (s.voted k = true → exec (.voteLingerExpiry k) s = .next s)) ∧
  -- the effective floor (R362): 1 IDLE while the policy is off or a WAKE is written, else PWR_FLOOR limited to the block's deepest state
  (∀ (k pg : Nat) (p : Page) (s : State), slotPage k = some pg → pageOf pg = some p →
     (bit (s.reg (pg + 0x008)) 3 = false ∨ bit (s.reg (slotCtrlKey k)) 3 = true → s.effFloor k = 1)
     ∧ (bit (s.reg (pg + 0x008)) 3 = true → bit (s.reg (slotCtrlKey k)) 3 = false → s.effFloor k = min (floorCode (bitsOf (s.reg (slotCtrlKey k)) 2 0)) p.blk.deepest))

/-- A level wake abandons an entry not yet isolated with LAST_REFUSE 5, starts the wake of a block below IDLE, its quadrant's MILL with it, or is kept for a domain that is not on; a pulse wakes its slot, is latched after the isolation step, or is lost beside it; a restore ends at IDLE. Where a clause rests on a choice or an inference of the model and no rule, that is log entries 112 and 121. -/
def Obligations.BlockWakes : Prop :=
  -- WAKE_EVENT (R367 to R369)
  (∀ (k : SlotIx) (s : State) (x : PowerSlot), x = s.slot k → s.wakesAct = true → s.wakeLevel k = true → slotReal k = true → s.bankRetired k = false →
     (x.entry ≠ .none → exec (.wakeEvent k) s = .next (s.setSlot k { x with entry := .none, latched := false, lastRefuse := 5 }))
     ∧ (x.entry = .none → 2 ≤ x.st → x.waking = false → k.val < 64 → exec (.wakeEvent k) s = .next (s.setSlot k { x with waking := true }))
     ∧ (x.entry = .none → x.st < 2 ∨ x.waking = true → exec (.wakeEvent k) s = .next s)) ∧
  -- WAKE_EVENT of a quadrant block (R369, R371, R375)
  (∀ (k : SlotIx) (s u : State) (q : Nat) (x : PowerSlot), x = s.slot k → q = k.val / 64 - 1 → 64 ≤ k.val → u = s.setSlot k { x with waking := true } →
     s.wakesAct = true → s.wakeLevel k = true → slotReal k = true → s.bankRetired k = false → x.entry = .none → 2 ≤ x.st → x.waking = false → s.fenced q = false →
     (s.quadOn q = true → exec (.wakeEvent k) s = .next (if 2 ≤ (u.slot (qSlot q 2)).st then u.setSlot (qSlot q 2) { u.slot (qSlot q 2) with waking := true } else u))
     ∧ (s.quadOn q = false → (s.quadSt q).wakeSlots.contains k.val = false →
         exec (.wakeEvent k) s = .next (s.setQuad q { s.quadSt q with wakeSlots := (s.quadSt q).wakeSlots ++ [k.val] }))) ∧
  -- PULSE_WAKE (R368): lost beside the isolation step, latched after it, acting before it
  (∀ (k : W3) (ph : W2) (s u : State) (a n : Nat), a = pgDPWR + 0x0A0 + 4 * k.toNat → n = bitsOf (s.reg a) 3 0 → tabGet (fun _ => false) s.pulses k.toNat = true →
     u = { s with pulses := tabErase s.pulses k.toNat } → bit (s.reg a) 31 = true → n < 8 → s.wakesAct = true → (s.slot n).entry ≠ .none →
     (ph = 1 → exec (.pulseWake k ph) s = .next ((u.wakeStat (8 + k.toNat)).raise pgDPWR 3))
     ∧ (ph = 2 → exec (.pulseWake k ph) s = .next ((u.setSlot n { u.slot n with latched := true }).wakeStat k.toNat))
     ∧ (ph ≠ 1 → ph ≠ 2 → exec (.pulseWake k ph) s = .next ((u.wakeSlot n).wakeStat k.toNat))) ∧
  -- PULSE_WAKE without an entry, and of a route that is not enabled (R368)
  (∀ (k : W3) (ph : W2) (s u : State) (a n : Nat), a = pgDPWR + 0x0A0 + 4 * k.toNat → n = bitsOf (s.reg a) 3 0 → tabGet (fun _ => false) s.pulses k.toNat = true →
     u = { s with pulses := tabErase s.pulses k.toNat } →
     (bit (s.reg a) 31 = false ∨ 12 ≤ n → exec (.pulseWake k ph) s = .next u)
     ∧ (bit (s.reg a) 31 = true → n < 8 → s.wakesAct = true → (s.slot n).entry = .none →
         exec (.pulseWake k ph) s = .next (if 2 ≤ s.slotState n then (u.wakeSlot n).wakeStat k.toNat else u))) ∧
  -- PULSE_WAKE aimed at a quadrant's domain (R368)
  (∀ (k : W3) (ph : W2) (s u : State) (a n : Nat), a = pgDPWR + 0x0A0 + 4 * k.toNat → n = bitsOf (s.reg a) 3 0 → tabGet (fun _ => false) s.pulses k.toNat = true →
     u = { s with pulses := tabErase s.pulses k.toNat } → bit (s.reg a) 31 = true → 8 ≤ n → n < 12 → s.wakesAct = true → (s.slot n).entry = .none →
     (s.slotState n = 0 → exec (.pulseWake k ph) s = .next u)
     ∧ (s.slotState n ≠ 0 → ph = 1 → exec (.pulseWake k ph) s = .next ((u.wakeStat (8 + k.toNat)).raise pgDPWR 3))
     ∧ (s.slotState n ≠ 0 → ph ≠ 1 → exec (.pulseWake k ph) s = .next ((u.setSlot n { u.slot n with latched := true }).wakeStat k.toNat))) ∧
  -- WAKE_COMPLETE (R369, R370)
  (∀ (k : SlotIx) (ok : Bool) (s : State), (s.slot k).waking = true → s.bankRetired k = false →
     (k.val < 64 ∨ (s.quadOn (slotQuad k) = true ∧ s.fenced (slotQuad k) = false ∧ (k.val % 64 = 2 ∨ (s.slot (qSlot (slotQuad k) 2)).st < 2)) →
       exec (.wakeComplete k ok) s = .next (s.finishWake k ok))
     ∧ (64 ≤ k.val → k.val % 64 ≠ 2 → 2 ≤ (s.slot (qSlot (slotQuad k) 2)).st → exec (.wakeComplete k ok) s = .next s)) ∧
  -- the end of a restore from NAP or DOZE (R370, R372): the slot shows IDLE; a failed canary takes its action first
  (∀ (k : Nat) (ok : Bool) (s : State) (pg : Nat) (p : Page) (u : State), slotPage k = some pg → pageOf pg = some p → p.blk ≠ .lane → (s.slot k).st ≠ 4 → k < 64 →
     u = (if (s.slot k).st = 3 ∧ ok = false then s.canaryFails p else s) →
     s.finishWake k ok = u.setSlot k { s.slot k with st := 1, waking := false, latched := false }) ∧
  -- what a failed canary loses (R372)
  (∀ (p : Page) (s : State), (p.blk = .cbank → s.canaryFails p = (s.clearBank p.quad (p.inst % 12)).raise (pgCBANK p.quad (p.inst % 12)) 8)
     ∧ (p.blk = .cmem → s.canaryFails p = (s.clearCluster p.inst).retLoss p.inst 0) ∧ (p.blk = .clu → s.canaryFails p = (s.dropKernels p.inst).retLoss p.inst 1)
     ∧ (p.blk ≠ .cbank → p.blk ≠ .cmem → p.blk ≠ .clu → s.canaryFails p = s))

/-- A domain whose conditions hold goes to its floor with its rail requested down; a wake requests the voltage of its TARGET; a level is raised by voltage first and lowered by frequency first; a rail reads back within tolerance, is read again, or fails; the estimates are stored. Where a clause rests on a choice or an inference of the model and no rule, that is log entries 116, 118 and 120. -/
def Obligations.QuadrantDomains : Prop :=
  -- QUAD_DOMAIN_ENTRY (R373, R374)
  (∀ (q : Quad) (s u : State), s.domainMaySleep q = true → u = (s.setQuad q { s.quadSt q with
       dom := s.quadFloor q, pllA := false, pllB := false, onB := false, locking := false, waking := false, wakeSlots := [] }).weirSettle 4 →
     exec (.quadDomainEntry q) s = .next (if s.quadFloor q = 4 then u.orderRail q false else u.requestVoltage q (s.vretMv q) .hold)) ∧
  -- QUAD_DOMAIN_WAKE (R375)
  (∀ (q : Quad) (s u : State), s.quadOn q = false → (s.quadSt q).waking = false → s.mode ≠ 1 → s.wakesAct = true → s.domainWanted q = true →
     u = s.setQuad q { s.quadSt q with waking := true, failed := false, locking := false } →
     exec (.quadDomainWake q) s = .next ((if (s.quadSt q).dom = 4 then u.orderRail q true else u).requestVoltage q (levelMv (s.plTarget q)) .wake)) ∧
  -- QUAD_WAKE_RETRY (R375)
  (∀ (q : Quad) (s u : State), s.quadOn q = false → (s.quadSt q).waking = false → (s.quadSt q).failed = true → s.wakesAct = true → s.domainWanted q = true →
     u = s.setQuad q { s.quadSt q with waking := true, failed := false, locking := false } →
     exec (.quadWakeRetry q) s = .next ((if (s.quadSt q).dom = 4 then u.orderRail q true else u).requestVoltage q (levelMv (s.plTarget q)) .wake)) ∧
  -- a voltage request (R377, R391) joins the queue of its rail's host
  (∀ (q mv : Nat) (why : VoltWhy) (s t : State) (b : Nat), t = s.requestVoltage q mv why → b = s.vregHost q →
     (t.quadSt q).vreq = some ⟨mv, why, if s.pageEn q then .page else .command⟩ ∧ (t.pmbOf b).queue = (s.pmbOf b).queue ++ [.rail q]
     ∧ (∀ j, j ≠ q → t.quadSt j = s.quadSt j) ∧ OnlyParts [.quad, .pmb] s t) ∧
  -- PLEVEL_WRITE (R378)
  (∀ (q : Quad) (v : W32) (s u : State) (n : Nat), s.reaches (plKey q) = true → n = bitsOf v 2 0 → u = s.put (plKey q) 2 0 n →
     (6 ≤ n → exec (.plevelWrite q v) s = .next (s.badAccess (plKey q)))
     ∧ (n < 6 → s.quadOn q = false → exec (.plevelWrite q v) s = .next u)
     ∧ (n < 6 → s.quadOn q = true → s.plBusy q = true → exec (.plevelWrite q v) s = .next (u.setQuad q { u.quadSt q with pendTarget := some n }))
     ∧ (n < 6 → s.quadOn q = true → s.plBusy q = false → exec (.plevelWrite q v) s = .next (u.startChange q n))) ∧
  -- a change of level (R378): the voltage first towards a higher level, the clock first towards a lower one
  (∀ (q n : Nat) (s u : State), u = (s.put (plKey q) 31 31 1).setQuad q { s.quadSt q with changeTo := some n, pendTarget := none, locking := decide (n ≠ s.level q) } →
     (s.level q < n → s.startChange q n = u) ∧ (n < s.level q → s.startChange q n = u.requestVoltage q (levelMv n) .change)
     ∧ (n = s.level q → s.railLevel q ≠ n ∨ s.fld (plKey q) 30 30 = 0 → s.startChange q n = u.requestVoltage q (levelMv n) .change)
     ∧ (n = s.level q → s.railLevel q = n → s.fld (plKey q) 30 30 = 1 → s.startChange q n = s.put (plKey q) 31 31 0)) ∧
  -- PLL_LOCK (R360, R375, R378): of a wake, of a change downwards, and of a change upwards whose rail is good or not yet
  (∀ (q : Quad) (b : Bool) (s u : State) (x : QuadSt), x = s.quadSt q → x.locking = true → u = s.setQuad q ({ x with locking := false }.setPll b true) →
     (x.waking = true → b = false → x.vreq = none → exec (.pllLock q b) s = .next (s.domainOn q))
     ∧ (∀ n, x.waking = false → b ≠ x.onB → x.changeTo = some n →
         (s.level q < n → exec (.pllLock q b) s = .next ((u.switchPll q n).requestVoltage q (levelMv n) .change))
         ∧ (n ≤ s.level q → x.vreq = none → s.railLevel q = n → exec (.pllLock q b) s = .next ((u.switchPll q n).endChange q 1))
         ∧ (n ≤ s.level q → s.railLevel q ≠ n → exec (.pllLock q b) s = .next u))) ∧
  -- VOUT_POLL (R377)
  (∀ (q : Quad) (m : W16) (s u : State) (r : VoltReq) (b : Nat), b = s.vregHost q → (s.quadSt q).vreq = some r → r.next = .poll → (s.pmbOf b).cur = none →
     u = s.emit (.pmbus b (bitsOf (s.vreg q) 6 0) 0x8B true (bit (s.vreg q) 31) false 2 []) →
     exec (.voutPoll q .nak) s = .next (u.railFails q 3) ∧ exec (.voutPoll q .bad) s = .next u
     ∧ exec (.voutPoll q (.word m)) s = .next (if withinTol m.toNat r.mv (max 1 (s.fld (pgDPWR + 0x074) 23 16)) (s.vregExp q) then u.railGood q else u)) ∧
  -- VREG_TIMEOUT (R377)
  (∀ (q : Quad) (s : State), (s.voltStarted q = true → exec (.vregTimeout q) s = .next (s.railFails q 2)) ∧ (s.voltStarted q = false → exec (.vregTimeout q) s = .next s)) ∧
  -- a good read-back of a level change (R378) shows RAIL_LEVEL and RAIL_OK, and ends the change of a quadrant already at its level
  (∀ (q n : Nat) (s u : State), u = (s.put (plKey q) 18 16 n).put (plKey q) 30 30 1 →
     (s.level q = n → s.changeRailGood q n = u.endChange q 1) ∧ (s.level q ≠ n → (s.quadSt q).locking = true → s.changeRailGood q n = u)
     ∧ (s.level q ≠ n → (s.quadSt q).locking = false → s.changeRailGood q n = (u.switchPll q n).endChange q 1)) ∧
  -- POWER_EST_UPDATE (R379)
  (∀ (k : Rail5) (mw : W16) (s : State), Completes (.powerEstUpdate k mw) s (fun t => t.fld (pgDPWR + 0x080 + 4 * k.val) 15 0 = mw.toNat
     ∧ (∀ j, j ≠ pgDPWR + 0x080 + 4 * k.val → t.reg j = s.reg j) ∧ OnlyParts [.regs] s t))

/-- A trigger starts a scan of the masked channels, or is ignored while one runs; injections and calibrations wait for a boundary, at which an injection goes first; a result enters the queue, or, where the queue is full, is dropped, counted in QDROP and raises Q_DROP, and in both cases every comparator evaluates it; a read of BMON_Q_DATA removes and returns the head entry, and of an empty queue returns 0x0003_F000; a debounced edge that its pin selects interrupts, pulses, and triggers. -/
def Obligations.BoardMonitor : Prop :=
  -- SCAN_START, INJ_GO, CAL_GO are writes of BMON_CTRL (R384, R385)
  (∀ (ch : W6) (s : State), s.reaches (pgBMON + 0x04C) = true →
     exec .scanStart s = .next s.bmonTrigger ∧ exec .calGo s = .next s.bmonCalibrate
     ∧ (ch.toNat < 48 → exec (.injGo ch) s = .next (s.bmonInject ch.toNat)) ∧ (48 ≤ ch.toNat → exec (.injGo ch) s = .next (s.badAccess (pgBMON + 0x04C)))) ∧
  -- a trigger (R384): ignored while a scan runs, an empty mask done at once, else the masked channels rising
  (∀ (s : State) (c : Nat) (l : List Nat), (s.bmon.scan.isSome = true → s.bmonTrigger
       = (({ s with bmon := { s.bmon with ovr := true } } : State).inc (pgBMON + 0x05C) 15 0 1).raise pgBMON 0)
     ∧ (s.bmon.scan = none → s.scanChannels = [] → s.bmonTrigger = s.irqBit pgBMON 1)
     ∧ (s.bmon.scan = none → s.scanChannels = c :: l → s.bmonTrigger = ({ s with bmon := { s.bmon with scan := some (c :: l) } } : State).bmonKick)) ∧
  -- an injection and a calibration wait (R385)
  (∀ (s : State) (ch : Nat), (s.bmon.inj.isSome = true → s.bmonInject ch = s.raise pgBMON 2)
     ∧ (s.bmon.inj = none → s.bmonInject ch = ({ s with bmon := { s.bmon with inj := some ch } } : State).bmonKick)
     ∧ (s.bmon.cal = true → s.bmonCalibrate = s) ∧ (s.bmon.cal = false → s.bmonCalibrate = ({ s with bmon := { s.bmon with cal := true } } : State).bmonKick)) ∧
  -- work that arrives (R383, R385): at the next boundary of a busy converter, after the start-up of one that is off, else at once
  (∀ s : State, (s.bmon.cur.isSome = true ∨ s.bmon.starting = true → s.bmonKick = s)
     ∧ (s.bmon.cur = none → s.bmon.starting = false → s.bmon.powered = true → s.bmonKick = s.bmonNext)
     ∧ (s.bmon.cur = none → s.bmon.starting = false → s.bmon.powered = false → s.bmonKick = { s with bmon := { s.bmon with starting := true } })) ∧
  -- what the converter takes at a boundary (R383, R385)
  (∀ (s : State) (c : Nat) (l : List Nat) (b : BmonSt), b = s.bmon →
     (b.inj = some c → s.bmonNext = { s with bmon := { b with cur := some (.inj c) } })
     ∧ (b.inj = none → b.cal = true → s.bmonNext = { s with bmon := { b with cur := some .cal } })
     ∧ (b.inj = none → b.cal = false → b.scan = some (c :: l) → s.bmonNext = { s with bmon := { b with cur := some (.scan c), scan := some l } })
     ∧ (b.inj = none → b.cal = false → b.scan = none ∨ b.scan = some [] →
         s.bmonNext = { s with bmon := { b with cur := none, powered := b.powered && decide (s.fld (pgBMON + 0x040) 31 31 = 1) } })) ∧
  -- SCAN_TIMER (R384) and ADC_STARTUP_DONE (R383)
  (∀ s : State, (s.boardOn = true → s.fld (pgBMON + 0x040) 29 28 = 1 → s.fld (pgBMON + 0x040) 15 0 ≠ 0 → exec .scanTimer s = .next s.bmonTrigger)
     ∧ (s.boardOn = true → s.fld (pgBMON + 0x040) 29 28 ≠ 1 → exec .scanTimer s = .next s)
     ∧ (s.bmon.starting = true → exec .adcStartupDone s = .next ({ s with bmon := { s.bmon with starting := false, powered := true } } : State).bmonNext)) ∧
  -- CONVERSION_DONE (R385, R387)
  (∀ (code : W12) (s : State) (c : Nat) (u v : State),
     (s.bmon.cur = some (.inj c) → u = (s.bmonResult true c code).irqBit pgBMON 3 →
       exec (.conversionDone code) s = .next ({ u with bmon := { u.bmon with cur := none, inj := none } } : State).bmonNext)
     ∧ (s.bmon.cur = some (.scan c) → u = s.bmonResult false c code →
         v = (if u.bmon.scan = some [] then ({ u with bmon := { u.bmon with scan := none } } : State).irqBit pgBMON 1 else u) →
         exec (.conversionDone code) s = .next ({ v with bmon := { v.bmon with cur := none } } : State).bmonNext)) ∧
  -- a result (R387 to R389): queued with the time of its sample, or dropped, counted and raised; every comparator evaluates it
  (∀ (inj : Bool) (ch : Nat) (code : W12) (s : State) (e : Nat), e = s.bmonUs 266240 % 4096 * 2 ^ 20 + b2n s.bmon.ovr * 2 ^ 19 + b2n inj * 2 ^ 18 + ch * 2 ^ 12 + code.toNat →
     s.bmonResult inj ch code = (List.range 16).foldl (fun t k => t.compare ch code k) (s.bmonQueue inj ch code)
     ∧ (s.bmon.queue.length < 128 → s.bmonQueue inj ch code
         = ({ s with bmon := { s.bmon with queue := s.bmon.queue ++ [BitVec.ofNat 32 e], ovr := false } } : State).bmonLevel)
     ∧ (128 ≤ s.bmon.queue.length → s.bmonQueue inj ch code
         = (({ s with bmon := { s.bmon with ovr := true } } : State).inc (pgBMON + 0x05C) 31 16 1).raise pgBMON 1)) ∧
  -- a comparator (R389): only its channel; a result in rearms it; the event comes with the result that makes COUNT_M1 + 1 out in a row, once
  (∀ (ch k : Nat) (code : W12) (s u : State) (cfg n : Nat) (out : Bool), cfg = pgBMON + 0x080 + 8 * k →
     out = (decide (code.toNat < bitsOf (s.reg (cfg + 4)) 11 0) || decide (bitsOf (s.reg (cfg + 4)) 27 16 < code.toNat)) →
     u = s.put cfg 30 30 (b2n out) → n = min ((tabGet (fun _ => (0, false)) s.bmon.outs k).1 + 1) 8 →
     (s.fld cfg 31 31 = 0 ∨ s.fld cfg 5 0 ≠ ch → s.compare ch code k = s)
     ∧ (s.fld cfg 31 31 ≠ 0 → s.fld cfg 5 0 = ch → out = false →
         s.compare ch code k = { u with bmon := { u.bmon with outs := tabErase u.bmon.outs k } })
     ∧ (s.fld cfg 31 31 ≠ 0 → s.fld cfg 5 0 = ch → out = true → (tabGet (fun _ => (0, false)) s.bmon.outs k).2 = true ∨ n < s.fld cfg 18 16 + 1 →
         s.compare ch code k = { u with bmon := { u.bmon with outs := tabSet (fun _ => (0, false)) u.bmon.outs k (n, (tabGet (fun _ => (0, false)) s.bmon.outs k).2) } })
     ∧ (s.fld cfg 31 31 ≠ 0 → s.fld cfg 5 0 = ch → out = true → (tabGet (fun _ => (0, false)) s.bmon.outs k).2 = false → s.fld cfg 18 16 + 1 ≤ n →
         s.compare ch code k = ((({ u with bmon := { u.bmon with outs := tabSet (fun _ => (0, false)) u.bmon.outs k (n, true) } } : State).put
           (pgBMON + 0x068) k k 1).irqBit pgBMON 4).boardPulse 1 k)) ∧
  -- CAL_DONE (R386)
  (∀ (g o : W16) (s u : State), s.bmon.cur = some .cal → u = ((s.setReg (pgBMON + 0x064) (g ++ o)).put (pgBMON + 0x050) 26 26 1).irqBit pgBMON 2 →
     exec (.calDone g o) s = .next ({ u with bmon := { u.bmon with cur := none, cal := false } } : State).bmonNext) ∧
  -- BMON_QUEUE_READ (R388)
  (∀ (s : State) (e : W32) (l : List W32), s.reaches (pgBMON + 0x054) = true →
     (s.bmon.queue = e :: l → exec .bmonQueueRead s = .next { s with readData := e, bmon := { s.bmon with queue := l } })
     ∧ (s.bmon.queue = [] → exec .bmonQueueRead s = .next { s with readData := 0x0003F000 })) ∧
  -- GPIO_EDGE (R394)
  (∀ (n : W4) (level : Bool) (s u v : State), s.boardOn = true → s.fld (pgGPIO + 0x048) n.toNat n.toNat ≠ b2n level →
     u = s.put (pgGPIO + 0x048) n.toNat n.toNat (b2n level) → v = (u.irqBit pgGPIO n.toNat).boardPulse 0 n.toNat →
     (bit (BitVec.ofNat 2 (u.fld (pgGPIO + 0x04C) (2 * n.toNat + 1) (2 * n.toNat))) (if level then 0 else 1) = false → exec (.gpioEdge n level) s = .next u)
     ∧ (bit (BitVec.ofNat 2 (u.fld (pgGPIO + 0x04C) (2 * n.toNat + 1) (2 * n.toNat))) (if level then 0 else 1) = true →
         exec (.gpioEdge n level) s = .next (if v.fld (pgBMON + 0x040) 29 28 = 2 ∧ v.fld (pgBMON + 0x040) 27 24 = n.toNat then v.bmonTrigger else v)))

/-- A GO that is not refused queues one host transaction; at a boundary a host starts the first waiting item in the order of R391; an outcome sets its error and ends the item, a host's with its bytes and result, a poll's with its reading, a voltage request's with its next step or its failure; ALERT interrupts; the hot-swap controller is polled and, in DORMANT with the key, switched off. Where a clause rests on a choice or an inference of the model and no rule, that is log entries 115, 117 and 125. -/
def Obligations.PmbusHosts : Prop :=
  -- PMB_TXN_GO (R391)
  (∀ (b : Fin2) (v : W32) (s u : State) (a : Nat), a = pgPMB b + 0x044 → s.reaches a = true → u = s.setReg a (v &&& 0x703F7FFF) →
     (bit v 31 = true → s.fld (pgPMB b + 0x048) 31 31 ≠ 1 → txnLenOk v = true → exec (.pmbTxnGo b v) s = .next ((u.put (pgPMB b + 0x048) 31 31 1).pmbPush b .host))
     ∧ (bit v 31 = true → s.fld (pgPMB b + 0x048) 31 31 = 1 ∨ txnLenOk v = false → exec (.pmbTxnGo b v) s = .next (s.badAccess a))
     ∧ (bit v 31 = false → exec (.pmbTxnGo b v) s = .next u)) ∧
  -- PMB_TXN_START (R391): the item of least order starts and leaves the queue
  (∀ (b : Fin2) (s t : State) (j : PmbJob), s.boardOn = true → (s.pmbOf b).cur = none → leastBy PmbJob.order (s.pmbOf b).queue = some j →
     (s.pmbDrop b j).startJob b j = some t →
     exec (.pmbTxnStart b) s = .next (t.setPmb b { t.pmbOf b with cur := some j })) ∧
  -- PMB_TXN_START of a busy host, and of one with nothing to do: nothing
  (∀ (b : Fin2) (s : State), (s.pmbOf b).cur.isSome = true ∨ (s.pmbOf b).queue = [] → exec (.pmbTxnStart b) s = .next s) ∧
  -- the order of R391: voltage and rail requests, the hot-swap power-down, its polls, the host's transaction
  (∀ q r : Nat, (PmbJob.rail q).order < PmbJob.hscOff.order ∧ (PmbJob.railOp r true).order < PmbJob.hscOff.order ∧ PmbJob.hscOff.order < PmbJob.hscVin.order
     ∧ PmbJob.hscVin.order < PmbJob.host.order) ∧
  -- TXN_DONE and PMB_TIMEOUT of a host's transaction (R390, R391)
  (∀ (b : Fin2) (r : TxnRes) (s u : State), (s.pmbOf b).cur = some .host → u = s.setPmb b { s.pmbOf b with cur := none } →
     exec (.txnDone b r) s = .next ((u.txnError b (some r)).hostTxnEnds b (some r)) ∧ exec (.pmbTimeout b) s = .next ((u.raise (pgPMB b) 1).hostTxnEnds b none)) ∧
  -- the result word of a host's transaction: RESULT, the bytes received, the byte not acknowledged; then the interrupt
  (∀ (b : Nat) (s : State) (d : Bytes) (n : W6), (s.fld (pgPMB b + 0x044) 30 30 = 0 →
       s.hostTxnEnds b (some (.done d)) = (s.setReg (pgPMB b + 0x048) (BitVec.ofNat 32 (2 ^ 28))).irqBit (pgPMB b) 0)
     ∧ s.hostTxnEnds b (some (.nak n)) = (s.setReg (pgPMB b + 0x048) (BitVec.ofNat 32 (2 * 2 ^ 28 + n.toNat))).irqBit (pgPMB b) 0
     ∧ s.hostTxnEnds b none = (s.setReg (pgPMB b + 0x048) (BitVec.ofNat 32 (3 * 2 ^ 28))).irqBit (pgPMB b) 0) ∧
  -- a read's bytes (R390, R391): up to 32 of them in PMB_DATA, their number in the result word
  (∀ (b : Fin2) (s t : State) (d : Bytes), s.fld (pgPMB b + 0x044) 30 30 = 1 → d.length ≤ 32 → t = s.hostTxnEnds b (some (.done d)) →
     t.reg (pgPMB b + 0x048) = BitVec.ofNat 32 (2 ^ 28 + d.length * 2 ^ 16)
     ∧ ∀ j < d.length, t.fld (pgPMB b + 0x060 + 4 * (j / 4)) (8 * (j % 4) + 7) (8 * (j % 4)) = (d.getD j 0).toNat) ∧
  -- TXN_DONE of a poll (R392): VIN stored with VALID, IIN stored, a failed reading clears VALID and counts
  (∀ (b : Fin2) (x y : W8) (s u : State), u = s.setPmb b { s.pmbOf b with cur := none } →
     ((s.pmbOf b).cur = some .hscVin → exec (.txnDone b (.done [x, y])) s
       = .next ((u.put (pgPMB 0 + 0x084) 31 16 (natLE [x, y])).put (pgPMB 0 + 0x088) 31 31 1))
     ∧ ((s.pmbOf b).cur = some .hscIin → exec (.txnDone b (.done [x, y])) s = .next (u.put (pgPMB 0 + 0x084) 15 0 (natLE [x, y])))
     ∧ ((s.pmbOf b).cur = some .hscVin ∨ (s.pmbOf b).cur = some .hscIin → exec (.pmbTimeout b) s
         = .next ((((u.raise (pgPMB b) 1).put (pgPMB 0 + 0x088) 31 31 0).inc (pgPMB 0 + 0x088) 15 0 1).raise (pgPMB b) 3))) ∧
  -- a transaction of a voltage request (R377): PAGE is followed by VOUT_COMMAND, that by the readings; a failure fails the request
  (∀ (b q : Nat) (s : State) (r : VoltReq) (d : Bytes) (n : W6), (s.quadSt q).vreq = some r →
     (r.next = .page → s.railTxnEnds b q (some (.done d)) = (s.setQuad q { s.quadSt q with vreq := some { r with next := .command } }).pmbPush b (.rail q))
     ∧ (r.next ≠ .page → s.railTxnEnds b q (some (.done d)) = s.setQuad q { s.quadSt q with vreq := some { r with next := .poll } })
     ∧ s.railTxnEnds b q (some (.nak n)) = s.railFails q 3 ∧ s.railTxnEnds b q none = s.railFails q 2) ∧
  -- PMB_ALERT (R391)
  (∀ (b : Fin2) (s : State), s.boardOn = true → exec (.pmbAlert b) s = .next (if s.fld (pgPMB b + 0x040) 0 0 = 1 then s.irqBit (pgPMB b) 1 else s)) ∧
  -- HSC_POLL (R392): both reads queued at the host that HSC_PMB names
  (∀ (s : State) (c : W32) (b : Nat), c = s.reg pgHsc → b = bitsOf c 30 30 → s.boardOn = true → bit c 31 = true → bitsOf c 23 16 ≠ 0 →
     (s.pmbOf b).queue.contains .hscVin = false → (s.pmbOf b).queue.contains .hscIin = false → Completes .hscPoll s (fun t =>
       (t.pmbOf b).queue = (s.pmbOf b).queue ++ [.hscVin, .hscIin] ∧ (t.pmbOf b).cur = (s.pmbOf b).cur ∧ t.pmbOf (1 - b) = s.pmbOf (1 - b) ∧ OnlyParts [.pmb] s t)) ∧
  -- HSC_OFF (R393)
  (∀ (v : W32) (s : State) (c : W32), s.reaches (pgPMB 0 + 0x08C) = true → c = s.reg (pgPMB 0 + 0x080) →
     (bitsOf v 31 16 = 0x4F46 → s.mode = 0 → exec (.hscOff v) s
       = .next (if bit v 0 = true ∧ bit c 31 = true then s.pmbPush (bitsOf c 30 30) .hscOff else s))
     ∧ (bitsOf v 31 16 ≠ 0x4F46 ∨ s.mode ≠ 0 → exec (.hscOff v) s = .next (s.badAccess (pgPMB 0 + 0x08C))))

/-- BOOT begins with its source, raising VDD_CORE_DEV first out of DORMANT, and fails at once without one; the fuse read leads to the manifest or opens the push window, which GO or its limit closes; a manifest is accepted only when every check holds, and a slot that fails leads to slot B, the window, or the end; the stacks train, the images are read and verified, and the end of BOOT enters CONFIG or FACTORY; a failure ends in DORMANT with LAST_RESULT 3 and FAIL. Where a clause rests on a choice or an inference of the model and no rule, that is log entries 32, 33, 40, 158 and 186. -/
def Obligations.BootSequence : Prop :=
  -- BOOT_BEGIN (R423, R426, R441)
  (∀ (src : W2) (s u : State), s.mode = 1 → s.wide = none → s.boot = none →
     u = { s.setReg (pgBTU + 0x040) (BitVec.ofNat 32 (2 ^ 24)) with boot := some { src := src.toNat, fromDormant := s.bootDormant }, bootDormant := false } →
     (src ≠ 3 → exec (.bootBegin src) s = .next (if s.bootDormant = true then u.orderRail 4 true else u))
     ∧ (src = 3 → exec (.bootBegin src) s = .next ((if s.bootDormant = true then u.orderRail 4 true else u).bootFail 1))) ∧
  -- a failure (R427, R61): DORMANT, LAST_RESULT 3, FAIL recorded, no boot in progress
  (∀ (s t : State) (code : Nat), code < 16 → t = s.bootFail code →
     t.mode = 0 ∧ t.inTransition = false ∧ t.fld (pgDEV + 0x040) 11 8 = 3 ∧ t.fld (pgBTU + 0x040) 23 20 = code ∧ t.fld (pgBTU + 0x040) 19 19 = 0 ∧ t.boot = none) ∧
  -- FUSE_READ_DONE (R425, R426)
  (∀ (s : State) (b : BootSt), s.boot = some b → s.bootStep = 1 → s.fld (pgBTU + 0x040) 19 19 = 0 →
     (b.src = 1 → exec .fuseReadDone s = .next ((s.takeHssIndex.modBoot (fun x => { x with opened := true })).put (pgBTU + 0x040) 19 19 1 |>.irqBit pgBTU 1))
     ∧ (b.src ≠ 1 → exec .fuseReadDone s = .next (s.takeHssIndex.put (pgBTU + 0x040) 27 24 2))) ∧
  -- the next HSS index of a BOOT (R431): NEXT_FREE in force, past the block of a reservation cut short
  (∀ s : State, (∀ b, s.inForce 0 = some b → s.bankPending 0 (!b) = false → s.takeHssIndex = s.setHssNext s.nextFree)
     ∧ (∀ b, s.inForce 0 = some b → s.bankPending 0 (!b) = true → s.takeHssIndex = s.setHssNext (s.nextFree + 64))
     ∧ (s.inForce 0 = none → s.nextFree = 0
       ∧ s.takeHssIndex = s.setHssNext (if s.bankPending 0 false = true ∨ s.bankPending 0 true = true then 64 else 0))) ∧
  -- PUSH_GO and PUSH_WINDOW_TIMEOUT (R425)
  (∀ s : State, (s.reaches (pgBTU + 0x050) = true → s.fld (pgBTU + 0x040) 19 19 = 1 →
       exec .pushGo s = .next (((s.put (pgBTU + 0x040) 19 19 0).modBoot (fun x => { x with push := true })).put (pgBTU + 0x040) 27 24 2))
     ∧ (s.reaches (pgBTU + 0x050) = true → s.fld (pgBTU + 0x040) 19 19 ≠ 1 → exec .pushGo s = .next (s.badAccess (pgBTU + 0x050)))
     ∧ (s.fld (pgBTU + 0x040) 19 19 = 1 → exec .pushWindowTimeout s = .next (s.bootFail 12))
     ∧ (s.fld (pgBTU + 0x040) 19 19 ≠ 1 → exec .pushWindowTimeout s = .next s)) ∧
  -- checks 1 to 6 (R422): all hold exactly where there is no FAIL code; the first that fails names it
  (∀ (s : State) (r : ManifestRead) (m : Manifest) (key fac : Bool), m = parseManifest r.bytes →
     key = (if m.ownerKey then decide (mKeyHash r.bytes = s.fuseHash 4) && decide (s.fuseOwner = 1)
       else decide (m.keySlot < 4) && decide (mKeyHash r.bytes = s.fuseHash m.keySlot) && !s.vendorRevoked m.keySlot && (!s.vendorBootDis || m.factory)) →
     fac = (!m.factory || (!m.ownerKey && !s.factoryDis && decide (sha384 ((r.bytes.drop 0x20).take 32) = s.fuseHash 5))) →
     (s.manifestFail r = 0 ↔ r.readOk = true ∧ mFormatOk r.bytes = true ∧ key = true ∧ r.ecdsaOk = true ∧ r.lmsOk = true ∧ s.fuseSvn ≤ m.svn.toNat ∧ fac = true)
     ∧ (r.readOk = false → s.manifestFail r = 8) ∧ (r.readOk = true → mFormatOk r.bytes = false → s.manifestFail r = 2)
     ∧ (r.readOk = true → mFormatOk r.bytes = true → key = false → s.manifestFail r = 3)
     ∧ (r.readOk = true → mFormatOk r.bytes = true → key = true → (r.ecdsaOk = false → s.manifestFail r = 4)
       ∧ (r.ecdsaOk = true → r.lmsOk = false → s.manifestFail r = 5)
       ∧ (r.ecdsaOk = true → r.lmsOk = true → (m.svn.toNat < s.fuseSvn → s.manifestFail r = 6)
         ∧ (s.fuseSvn ≤ m.svn.toNat → fac = false → s.manifestFail r = 11)))) ∧
  -- what check 1 lets through (R421): 1 to 32 images, each of whole 64-byte units, LOAD ranges within memory and apart
  (∀ (x : Bytes) (i k : Nat), mFormatOk x = true → mfld x 0 4 = 0x3156584D ∧ mfld x 4 2 = 1 ∧ 1 ≤ mImages x ∧ mImages x ≤ 32
     ∧ (i < mImages x → (mEntry x i).len ≠ 0 ∧ (mEntry x i).len % 64 = 0 ∧ (mEntry x i).srcOff % 64 = 0
       ∧ ((mEntry x i).load = true → hbmBase ≤ (mEntry x i).dest ∧ (mEntry x i).dest + (mEntry x i).len ≤ tileDataBase))
     ∧ (k < i → i < mImages x → (mEntry x i).load = true → (mEntry x k).load = true →
       (mEntry x i).dest + (mEntry x i).len ≤ (mEntry x k).dest ∨ (mEntry x k).dest + (mEntry x k).len ≤ (mEntry x i).dest)) ∧
  -- MANIFEST_READ_DONE of one that is accepted (R426)
  (∀ (r : ManifestRead) (m : Manifest) (s : State) (b : BootSt), s.boot = some b → s.bootStep = 2 → s.fld (pgBTU + 0x040) 19 19 = 0 →
     s.sourceOk b = true → s.manifestFail r = 0 → m = parseManifest r.bytes →
     exec (.manifestReadDone r) s = .next ((s.modBoot (fun x => { x with manifest := some m })).bootPlatform m b.fromDormant)) ∧
  -- MANIFEST_READ_DONE of one that fails (R423, R424, R427)
  (∀ (m : ManifestRead) (s : State) (b : BootSt) (code : Nat), s.boot = some b → s.bootStep = 2 → s.fld (pgBTU + 0x040) 19 19 = 0 →
     code = (if s.sourceOk b = true then s.manifestFail m else 8) → code ≠ 0 →
     (b.push = true → exec (.manifestReadDone m) s = .next (s.bootFail code))
     ∧ (b.push = false → b.slotB = false → exec (.manifestReadDone m) s = .next (s.modBoot (fun x => { x with slotB := true })))
     ∧ (b.push = false → b.slotB = true → b.src = 2 → exec (.manifestReadDone m) s
         = .next ((s.modBoot (fun x => { x with slotB := false, opened := true })).put (pgBTU + 0x040) 19 19 1 |>.irqBit pgBTU 1))
     ∧ (b.push = false → b.slotB = true → b.src ≠ 2 → exec (.manifestReadDone m) s = .next (s.bootFail code))) ∧
  -- HBM_STACK_TRAINED (R187, R426)
  (∀ (n : Stack) (h : W2) (s u : State) (b : BootSt), s.boot = some b → s.bootStep = 4 → b.trained.contains n.val = false →
     u = ((s.put (pgHBMC n + 0x044) 31 31 1).put (pgHBMC n + 0x044) 29 28 h.toNat).modBoot (fun x => { x with trained := n.val :: x.trained }) →
     (s.heightsBad b n h.toNat = true → exec (.hbmStackTrained n h) s = .next (s.bootFail 9))
     ∧ (s.heightsBad b n h.toNat = false → exec (.hbmStackTrained n h) s = .next (if b.trained = [] then u else u.put (pgBTU + 0x040) 27 24 5))) ∧
  -- IMAGES_LOADED (R422, R426)
  (∀ (xs : List (List W8)) (s : State) (b : BootSt) (m : Manifest) (r : State × Nat), s.boot = some b → b.manifest = some m → s.bootStep = 5 →
     r = s.loadImages m.images xs →
     (s.sourceOk b = true → r.2 = 0 → exec (.imagesLoaded xs) s
       = .next ((((r.1.put (pgBTU + 0x040) 27 24 6).put (pgDEV + 0x040) 6 4 (if m.factory then 5 else 2)).put (pgDEV + 0x040) 7 7 1)))
     ∧ (s.sourceOk b = false → exec (.imagesLoaded xs) s = .next (r.1.bootFail 8))
     ∧ (s.sourceOk b = true → r.2 ≠ 0 → exec (.imagesLoaded xs) s = .next (r.1.bootFail r.2))) ∧
  -- the images in the order of their entries (R422 check 7, R426): a LOAD image is written before its hash is looked at, the first that fails ends it
  (∀ (s t : State) (e : ImageEntry) (es : List ImageEntry) (x : Bytes) (xs : List Bytes),
     t = (if e.load then (s.devWrite {} e.dest (plain (x.take e.len))).1 else s) →
     s.loadImages [] xs = (s, 0) ∧ s.loadImages (e :: es) [] = (s, 8) ∧ (x.length < e.len → s.loadImages (e :: es) (x :: xs) = (t, 8))
     ∧ (e.len ≤ x.length → sha384 (x.take e.len) ≠ e.hash → s.loadImages (e :: es) (x :: xs) = (t, 7))
     ∧ (e.len ≤ x.length → sha384 (x.take e.len) = e.hash → s.loadImages (e :: es) (x :: xs) = t.loadImages es xs)) ∧
  -- BOOT_END (R58, R61, R375, R426); an EJECT held in BOOT starts a DRAIN
  (∀ (s u v : State) (b : BootSt) (m : Manifest), s.boot = some b → b.manifest = some m → s.bootStep = 6 →
     u = (List.range 4).foldl (fun t q => if t.quadOn q then t
       else (t.setQuad q { t.quadSt q with wakeSlots := (List.range 52).map (qSlot q) }).domainOn q)
       (({ s.showManifest b m with boot := none, kept := { s.kept with factorySeen := s.kept.factorySeen || m.factory } } : State).setMode (if m.factory then 5 else 2)) →
     v = u.endTransition (if m.factory then 5 else 2) 1 →
     (s.ejectHeld = false ∨ v.ejectEn = false → exec .bootEnd s = .next { v with ejectHeld := false })
     ∧ (s.ejectHeld = true → v.ejectEn = true → exec .bootEnd s = .next (v.startDrain 2)))

/-- A burn starts in CONFIG when its condition holds, is rejected otherwise, and is a bad access with another key or during a burn; its end shows the burnt fuses or raises BURN_FAIL; a report is refused after FACTORY, outside CONFIG and SERVICE, or without an index, and otherwise reserves its index and is sent with both signatures; the identity block is sent as it is. Where a clause rests on a choice or an inference of the model and no rule, that is log entries 35, 38 and 41. -/
def Obligations.FusesAndReports : Prop :=
  -- BURN_OWNER, REVOKE_OWNER, ADVANCE_SVN, REVOKE_VENDOR, VENDOR_BOOT_DIS (R420)
  (∀ (arg : W7) (s : State) (go : Nat → Nat → State), s.reaches fuseCmd = true → s.fld fuseStat 31 31 ≠ 1 →
     go = (fun op n => { s.put fuseStat 31 31 1 with burn := some ⟨op, n, s.stagedHash⟩ }) → s.mode = 2 →
     (s.fuseOwner = 0 → exec (.burnOwner 0x4655) s = .next (go 1 0))
     ∧ (s.fuseOwner = 1 → s.runsOwner = false → exec (.revokeOwner 0x4655) s = .next (go 2 0))
     ∧ (s.fuseSvn < arg.toNat → arg.toNat ≤ min 64 (s.reg (pgBTU + 0x044)).toNat → exec (.advanceSvn 0x4655 arg) s = .next (go 3 arg.toNat))
     ∧ (s.runsSlot (arg.toNat % 4) = false → (s.fuseOwner = 1 ∨ ∃ k < 4, k ≠ arg.toNat % 4 ∧ s.vendorRevoked k = false) →
         exec (.revokeVendor 0x4655 arg) s = .next (go 4 arg.toNat))
     ∧ (s.fuseOwner = 1 → exec (.vendorBootDis 0x4655) s = .next (go 5 0))) ∧
  -- a burn that is rejected (R420)
  (∀ (arg : W7) (s r : State), s.reaches fuseCmd = true → s.fld fuseStat 31 31 ≠ 1 → r = (s.put fuseStat 30 28 2).raise pgFUSE 0 →
     (s.mode ≠ 2 → exec (.burnOwner 0x4655) s = .next r ∧ exec (.revokeOwner 0x4655) s = .next r ∧ exec (.advanceSvn 0x4655 arg) s = .next r
       ∧ exec (.revokeVendor 0x4655 arg) s = .next r ∧ exec (.vendorBootDis 0x4655) s = .next r)
     ∧ (s.fuseOwner ≠ 0 → exec (.burnOwner 0x4655) s = .next r) ∧ (s.fuseOwner ≠ 1 ∨ s.runsOwner = true → exec (.revokeOwner 0x4655) s = .next r)
     ∧ (arg.toNat ≤ s.fuseSvn → exec (.advanceSvn 0x4655 arg) s = .next r) ∧ (s.fuseOwner ≠ 1 → exec (.vendorBootDis 0x4655) s = .next r)) ∧
  -- a burn that is a bad access (R420)
  (∀ (key : W16) (arg : W7) (s b : State), s.reaches fuseCmd = true → b = s.badAccess fuseCmd → key ≠ 0x4655 ∨ s.fld fuseStat 31 31 = 1 →
     exec (.burnOwner key) s = .next b ∧ exec (.revokeOwner key) s = .next b ∧ exec (.advanceSvn key arg) s = .next b ∧ exec (.revokeVendor key arg) s = .next b
     ∧ exec (.vendorBootDis key) s = .next b) ∧
  -- BURN_DONE (R420): the fuses at once, or BURN_FAIL
  (∀ (s u v : State) (b : Burn), s.burn = some b → u = { (s.put fuseStat 31 31 0).put fuseStat 30 28 1 with burn := none } →
     v = { (s.put fuseStat 31 31 0).put fuseStat 30 28 3 with burn := none } →
     exec (.burnDone false) s = .next ((v.raise pgFUSE 1).irqBit pgFUSE 0)
     ∧ (b.op = 1 → exec (.burnDone true) s = .next (({ u.put (pgFUSE + 0x048) 31 30 1 with khash := tabSet (fun _ => 0) u.khash 4 b.hash } : State).irqBit pgFUSE 0))
     ∧ (b.op = 2 → exec (.burnDone true) s = .next ((u.put (pgFUSE + 0x048) 31 30 2).irqBit pgFUSE 0))
     ∧ (b.op = 3 → exec (.burnDone true) s = .next ((u.put (pgFUSE + 0x048) 6 0 b.arg).irqBit pgFUSE 0))
     ∧ (b.op = 4 → exec (.burnDone true) s = .next ((u.put (pgFUSE + 0x048) (20 + b.arg % 4) (20 + b.arg % 4) 1).irqBit pgFUSE 0))
     ∧ (b.op = 5 → exec (.burnDone true) s = .next ((u.put (pgFUSE + 0x048) 29 29 1).irqBit pgFUSE 0))) ∧
  -- ATT_REPORT (R429, R431)
  (∀ (s : State) (n : Nat), n = s.hssNext → s.reaches attCtrl = true → s.fld attStat 31 31 ≠ 1 →
     (s.kept.factorySeen = true ∨ (s.mode ≠ 2 ∧ s.mode ≠ 3) → exec .attReport s = .next (s.attRefuse 2))
     ∧ (s.kept.factorySeen = false → s.mode = 2 ∨ s.mode = 3 → 2 ^ 40 ≤ n ∨ (s.hssInit = true ∧ s.inForce 0 = none) → exec .attReport s = .next (s.attRefuse 3))
     ∧ (s.kept.factorySeen = false → s.mode = 2 ∨ s.mode = 3 → n < 2 ^ 40 → s.hssInit = false ∨ s.inForce 0 ≠ none →
         exec .attReport s = .next (State.reserve { s.put attStat 31 31 1 with
           att := some { report := true, index := n, reserved := decide (n < s.nextFree), head := s.reportHead n, dst := s.attDst } }))) ∧
  -- a reservation (R431): NEXT_FREE := n + 64 committed before the report goes on; none where the index is reserved
  (∀ (s : State) (a : AttJob), s.att = some a → s.commit = none →
     (a.report = true → a.reserved = false → s.reserve = s.startCommit 0 (securityRecord (a.index + 64))) ∧ (a.reserved = true → s.reserve = s)) ∧
  -- ATT_IDENTITY, and GO while BUSY (R429, R432)
  (∀ s : State, s.reaches attCtrl = true →
     (s.fld attStat 31 31 ≠ 1 → exec .attIdentity s = .next { s.put attStat 31 31 1 with att := some { report := false, dst := s.attDst } })
     ∧ (s.fld attStat 31 31 = 1 → exec .attIdentity s = .next (s.badAccess attCtrl) ∧ exec .attReport s = .next (s.badAccess attCtrl))) ∧
  -- ATT_DONE (R431, R432)
  (∀ (s u : State) (a : AttJob), s.att = some a → (a.report = true → a.reserved = true) → u = (if a.report then s.setHssNext (a.index + 1) else s) →
     (s.canWrite pf0 = true → exec (.attDone true) s = .next ((hostSend 6068 u pf0 a.dst (attBytes a)).attEnd 1) ∧ exec (.attDone false) s = .next (u.attEnd 4))
     ∧ (s.canWrite pf0 = false → exec (.attDone true) s = .next ((u.countDrop.raise pgPCIE 2).attEnd 4))) ∧
  -- what is sent (R429, R430): 256 bytes and both signatures, or the two keys; the index grows with each report
  (∀ (a : AttJob) (s : State), (a.report = true → a.head.length = 256 → (attBytes a).length = 6068 ∧ (attBytes a).take 256 = a.head)
     ∧ (a.report = false → (attBytes a).length = 156) ∧ ((s.reportHead a.index).length = 256)) ∧
  -- the end of an attestation command (R432): BUSY off, RESULT, ATT_DONE
  (∀ (s : State) (res : Nat), res < 8 → (s.attEnd res).fld attStat 31 31 = 0 ∧ (s.attEnd res).fld attStat 30 28 = res ∧ (s.attEnd res).att = none
     ∧ bit ((s.attEnd res).reg (pgBTU + 0x02C)) 0 = true)

/-- A word joins the staging buffer at its pointer; COMMIT starts a commit of the staged record into the bank not in force, marking it pending, ARM and DISARM set and clear PENDING, and all are bad accesses with another key; a commit that ends well puts its record in force with the next SEQ, one that fails leaves the older bank; a commit cut short leaves its trace. Where a clause rests on a choice or an inference of the model and no rule, that is log entries 34, 36 and 176. -/
def Obligations.RetentionStore : Prop :=
  -- RSTO_STAGE_WRITE (R436): only the word at the pointer, which advances
  (∀ (v : W32) (s : State) (w : Nat), s.reaches (pgRSTO + 0x054) = true → w = s.fld (pgRSTO + 0x050) 15 2 → Completes (.rstoStageWrite v) s (fun t =>
     tabGet (fun _ => 0) t.stage w = v ∧ (∀ j, j ≠ w → tabGet (fun _ => (0 : W32)) t.stage j = tabGet (fun _ => 0) s.stage j)
     ∧ t.fld (pgRSTO + 0x050) 15 2 = (w + 1) % 2 ^ 14 ∧ OnlyParts [.regs, .stage] s t)) ∧
  -- COMMIT, ARM, DISARM (R436, R437)
  (∀ s r : State, s.reaches rstoCmd = true → r = (s.put (pgRSTO + 0x068) 30 28 2).raise pgRSTO 0 →
     (s.commitRefused = false → exec (.commit 0x434D) s = .next (s.startCommit 1 s.stagedRecord) ∧ exec (.arm 0x434D) s = .next (s.put (rstoKey 1) 27 27 1))
     ∧ (s.commitRefused = true → exec (.commit 0x434D) s = .next r ∧ exec (.arm 0x434D) s = .next r)
     ∧ exec (.disarm 0x434D) s = .next (s.put (rstoKey 1) 27 27 0)) ∧
  -- another key
  (∀ (key : W16) (s : State), s.reaches rstoCmd = true → key ≠ 0x434D → exec (.commit key) s = .next (s.badAccess rstoCmd)
     ∧ exec (.arm key) s = .next (s.badAccess rstoCmd) ∧ exec (.disarm key) s = .next (s.badAccess rstoCmd)) ∧
  -- a commit begins (R435): the bank not in force takes the pending marker, the other stays, BUSY
  (∀ (s t : State) (c : Nat) (p : Bytes) (b : Bool) (n : W32), t = s.startCommit c p →
     (s.inForce c = some (!b) → n = bankSeq (s.bankOf c (!b)) + 1 → t.bankOf c b = pendingMark c b ++ (s.bankOf c b).drop 8
       ∧ t.bankPending c b = true ∧ t.bankGood c b = false ∧ t.bankOf c (!b) = s.bankOf c (!b) ∧ t.inForce c = some (!b)
       ∧ t.commit = some { cls := c, bankB := b, seq := n, payload := p })
     ∧ (s.inForce c = none → t.bankPending c false = true ∧ t.commit = some { cls := c, bankB := false, seq := 0, payload := p })) ∧
  -- a commit cut short (R435, R447) leaves its bank as it stands, with its marker
  (∀ (s : State) (k : Commit) (c : Nat) (b : Bool), s.commit = some k → s.cutCommit.bankOf c b = s.bankOf c b ∧ s.cutCommit.commit = none
     ∧ s.cutCommit.fld (rstoKey k.cls) 26 26 = 0) ∧
  -- the bank in force (R434): the only valid one, of two the one whose SEQ is ahead
  (∀ (s : State) (c : Nat), (s.bankGood c false = true → s.bankGood c true = true →
       s.inForce c = some (decide (0 < (bankSeq (s.bankOf c true) - bankSeq (s.bankOf c false)).toInt)))
     ∧ (s.bankGood c false = true → s.bankGood c true = false → s.inForce c = some false)
     ∧ (s.bankGood c false = false → s.bankGood c true = true → s.inForce c = some true)
     ∧ (s.bankGood c false = false → s.bankGood c true = false → s.inForce c = none)) ∧
  -- what makes a bank valid (R433, R434): the header of its place, LEN in range, the CRC, and in class 0 the TAG
  (∀ (c : Nat) (b : Bool) (x : Bytes), bankValid c b x = true ↔ x.take 8 = bytesLE 4 0x57494C4C ++ bytesLE 1 c ++ bytesLE 1 (b2n b) ++ bytesLE 2 1
     ∧ natLE ((x.drop 12).take 4) ≤ 65472 ∧ natLE ((x.drop 60).take 4) = crc32c (x.take 60 ++ bankPayload x)
     ∧ (c = 0 → natLE ((x.drop 16).take 16) = (Config.recordTag (x.take 16 ++ bankPayload x)).toNat)) ∧
  -- COMMIT_DONE of the host's class (R435): the record in force, BUSY and PENDING off, RESULT, COMMIT_DONE
  (∀ (ok : Bool) (s u : State) (k : Commit), s.commit = some k → k.cls = 1 → s.mode ≠ 4 → s.att = none → u = { s.put (rstoKey 1) 26 26 0 with commit := none } →
     exec (.commitDone ok) s = .next (((if ok = true then
         ((u.setBank 1 k.bankB (bankRecord 1 k.bankB k.seq k.payload)).put (pgRSTO + 0x068) 30 28 1).put (rstoKey 1) 27 27 0
       else (u.raise pgRSTO 1).put (pgRSTO + 0x068) 30 28 3).irqBit pgRSTO 0).examine)) ∧
  -- COMMIT_DONE of a reservation (R431): the report goes on, or is refused with RESULT 4
  (∀ (ok : Bool) (s u : State) (k : Commit) (a : AttJob), s.commit = some k → k.cls = 0 → s.mode ≠ 4 → s.att = some a →
     a.report = true → a.reserved = false → u = { s.put (rstoKey 0) 26 26 0 with commit := none } →
     exec (.commitDone ok) s = .next (((if ok = true then
         { (u.setBank 0 k.bankB (bankRecord 0 k.bankB k.seq k.payload)).put (pgFUSE + 0x048) 27 27 1 with att := some { a with reserved := true } }
       else (u.raise pgRSTO 1).attRefuse 4).irqBit pgRSTO 0).examine)) ∧
  -- COMMIT_DONE of a reservation in DRAIN (R437): the report is refused with RESULT 2
  (∀ (s u : State) (k : Commit) (a : AttJob), s.commit = some k → k.cls = 0 → s.mode = 4 → s.drainStep ≠ 5 → s.att = some a →
     a.report = true → a.reserved = false → u = { s.put (rstoKey 0) 26 26 0 with commit := none } →
     exec (.commitDone true) s = .next (((((u.setBank 0 k.bankB (bankRecord 0 k.bankB k.seq k.payload)).put (pgFUSE + 0x048) 27 27 1).attRefuse 2).irqBit pgRSTO 0).examine)) ∧
  -- the store examines its banks (R434): one with a byte that is not zero and no valid record raises BANK_INVALID
  (∀ s : State, ((∃ c < 2, ∃ b, s.bankUsed c b = true ∧ s.bankGood c b = false) → s.examine = s.raise pgRSTO 2)
     ∧ ((∀ c < 2, ∀ b, s.bankUsed c b = true → s.bankGood c b = true) → s.examine = s))

/-- The loss of VDD_WELL leaves the fuses and the retention store alone; a SYSTEM reset acts over a DEVICE reset and not over itself, a DEVICE reset over neither; each records its type, source, DRAIN and count; a DEVICE reset keeps the Well's pages, waits at its release for a commit in progress, and lets BOOT begin; PERST_L starts a DEVICE reset or a PERST reset as PERST_DEV selects, or only holds the link down during another. Where a clause rests on a choice or an inference of the model and no rule, that is log entries 11, 42, 43 and 44. -/
def Obligations.WideResets : Prop :=
  -- WELL_POR (R434, R443): every register but the fuses at its Reset column, RAW, EPOCH and FACTORY_SEEN 0, mode BOOT, the store and the fused hashes as they were
  (∀ s : State, (∀ c < 2, ∀ b, s.bankUsed c b = true → s.bankGood c b = true) → Completes .wellPor s (fun t =>
     (∀ k, t.reg k = if isFuse k = true then s.reg k else resetWord k) ∧ t.kept = ⟨0, 0, false⟩ ∧ t.mode = 1 ∧ t.wide = none ∧ t.tasks = [] ∧ t.quad = []
     ∧ t.mem.hbm = [] ∧ (∀ k, tabGet (fun _ => false) t.mem.valid k = false) ∧ t.rsto = s.rsto ∧ t.khash = s.khash)) ∧
  -- WELL_POR over an interrupted commit, and PWR_GOOD low (R434, R438)
  (∀ s : State, exec .wellPor s = .next s.wellReset.examine ∧ exec .pwrGoodLoss s = .next { s.wellReset with wide := some .power }) ∧
  -- WELL_RST_STAT (R443 to R448)
  (∀ (s t : State) (ty src : Nat), ty < 4 → src < 4 → t = s.recordReset ty src →
     t.fld (pgWELL + 0x048) 31 28 = ty ∧ t.fld (pgWELL + 0x048) 27 26 = src ∧ t.fld (pgWELL + 0x048) 25 25 = b2n (decide (s.mode = 4))
     ∧ t.fld (pgWELL + 0x048) 24 24 = 0 ∧ t.fld (pgWELL + 0x048) 23 20 = (if s.mode = 4 then s.drainStep else 0)
     ∧ t.fld (pgWELL + 0x048) 15 0 = min (s.fld (pgWELL + 0x048) 15 0 + 1) 65535 ∧ (∀ k, k ≠ pgWELL + 0x048 → t.reg k = s.reg k)) ∧
  -- SYS_RST and WELL_RST_SYSTEM (R442, R447, R448)
  (∀ (key : W16) (s : State) (sys : Nat → State),
     sys = (fun src => { (s.recordReset 1 src).systemReset with wide := some .system, commit := none, ejectHeld := false }) →
     (s.wide = none ∨ s.wide = some .device → exec .sysRst s = .next (sys 0)) ∧ (s.wide = some .system ∨ s.wide = some .power → exec .sysRst s = .next s)
     ∧ (s.reaches (pgWELL + 0x044) = true → key = 0x5253 → exec (.wellRstSystem key) s = .next (sys 1))
     ∧ (s.reaches (pgWELL + 0x044) = true → key ≠ 0x5253 → exec (.wellRstSystem key) s = .next (s.badAccess (pgWELL + 0x044)))) ∧
  -- WELL_RST_DEVICE (R442, R446)
  (∀ (key : W16) (s : State), s.reaches (pgWELL + 0x044) = true →
     (key = 0x5253 → exec (.wellRstDevice key) s = .next { (s.recordReset 2 1).deviceReset with
       wide := some .device, ejectHeld := s.ejectHeld || (decide (s.mode = 4) && bit (s.reg (pgGPIO + 0x048)) 30) })
     ∧ (key ≠ 0x5253 → exec (.wellRstDevice key) s = .next (s.badAccess (pgWELL + 0x044)))) ∧
  -- what a SYSTEM and a DEVICE reset take (R443): registers but those kept, tasks, domains, memory words; BOOT
  (∀ s : State, (∀ k, s.deviceReset.reg k = if keptByDevice (k % barSize) = true ∨ keptAlways (k % barSize) = true then s.reg k else resetWord k)
     ∧ (∀ k, s.systemReset.reg k = if keptBySystem (k % barSize) = true then s.reg k else resetWord k)
     ∧ ∀ t, t = s.deviceReset ∨ t = s.systemReset → t.mode = 1 ∧ t.inTransition = false ∧ t.tasks = [] ∧ t.kept = s.kept ∧ t.rsto = s.rsto ∧ t.khash = s.khash
         ∧ (∀ g < 64, t.cgPhase g = 3) ∧ (∀ q < 4, t.quadOn q = false) ∧ t.mem.hbm = [] ∧ (∀ k, tabGet (fun _ => false) t.mem.valid k = false) ∧ t.links = []) ∧
  -- SYSTEM_RESET_RELEASE and DEVICE_RESET_RELEASE (R444, R447)
  (∀ s : State, (s.wide = some .system → exec .systemResetRelease s = .next { s with wide := none })
     ∧ (s.wide = some .device → s.commit = none → exec .deviceResetRelease s = .next { s with wide := none })
     ∧ (s.wide = some .device → s.commit.isSome = true → exec .deviceResetRelease s = .next (s.put (pgWELL + 0x048) 24 24 1))) ∧
  -- a release without its reset
  (∀ s : State, (s.wide ≠ some .system → exec .systemResetRelease s = .next s) ∧ (s.wide ≠ some .device → exec .deviceResetRelease s = .next s)) ∧
  -- PERST_ASSERT (R443, R445, R448)
  (∀ s u : State, u = { s with pcie := { s.pcie with perstLow := true } } →
     (s.pcie.perstLow = false → s.wide = none → s.fld (pgWELL + 0x040) 0 0 = 1 → exec .perstAssert s = .next (u.assertDevice 3))
     ∧ (s.pcie.perstLow = false → s.wide = none → s.fld (pgWELL + 0x040) 0 0 ≠ 1 → exec .perstAssert s = .next ((u.recordReset 3 0).linkDown.dropRegs
         (fun a => inPages pgPCIE 1 a && !decide (a = pgPCIE + 0x040) && !decide (a = pgPCIE + 0x044))))
     ∧ (s.pcie.perstLow = true ∨ s.wide ≠ none → exec .perstAssert s = .next u)) ∧
  -- PERST_RELEASE (R445)
  (∀ s : State, exec .perstRelease s = .next { s with pcie := { s.pcie with perstLow := false } })

/-- Each test instruction is selected and runs one scan: of the boundary register, which captures the balls and holds what is shifted in, driving it where the instruction drives; of the identification register, 0x1724_056F; or of the bypass register. The test logic's reset selects IDCODE. THERMTRIP_L falls once and stays low. The Fyil port sends its oldest frame, or an idle one. Where a clause rests on a choice or an inference of the model and no rule, that is log entries 127, 128 and 129. -/
def Obligations.TestPort : Prop :=
  -- EXTEST, SAMPLE/PRELOAD, EXTEST_PULSE, EXTEST_TRAIN (R462)
  (∀ (balls din : Boundary) (c : Instr) (i : W8) (s : State), (c = .extest balls din ∧ i = 0) ∨ (c = .samplePreload balls din ∧ i = 2)
       ∨ (c = .extestPulse balls din ∧ i = 3) ∨ (c = .extestTrain balls din ∧ i = 4) →
     exec c s = .next { s with
       tap := ⟨i, din, balls⟩
       out := s.out ++ (if s.tap.inst = i then [] else [.balls i (if i = 2 then 0 else s.tap.held)]) ++ (if i = 2 then [] else [.balls i din]) }) ∧
  -- IDCODE, CLAMP, HIGHZ, BYPASS (R462): what they capture; CLAMP drives what the boundary register holds
  (∀ (c : Instr) (i : W8) (s : State), (c = .idcode ∧ i = 1) ∨ (c = .clamp ∧ i = 5) ∨ (c = .highz ∧ i = 6) ∨ (c = .bypass ∧ i = 0xFF) →
     exec c s = .next { s with
       tap := ⟨i, s.tap.held, if i = 1 then 0x1724056F else 0⟩
       out := s.out ++ (if s.tap.inst = i then [] else [.balls i (if i = 5 then s.tap.held else 0)]) }) ∧
  -- each instruction on its own: every one completes in every state
  (∀ (balls din : Boundary) (s : State), Completes (.extest balls din) s (fun t => t.tap = ⟨0, din, balls⟩)
     ∧ Completes (.samplePreload balls din) s (fun t => t.tap = ⟨2, din, balls⟩) ∧ Completes (.extestPulse balls din) s (fun t => t.tap = ⟨3, din, balls⟩)
     ∧ Completes (.extestTrain balls din) s (fun t => t.tap = ⟨4, din, balls⟩) ∧ Completes .idcode s (fun t => t.tap = ⟨1, s.tap.held, 0x1724056F⟩)
     ∧ Completes .clamp s (fun t => t.tap = ⟨5, s.tap.held, 0⟩) ∧ Completes .highz s (fun t => t.tap = ⟨6, s.tap.held, 0⟩)
     ∧ Completes .bypass s (fun t => t.tap = ⟨0xFF, s.tap.held, 0⟩) ∧ Completes .tapReset s (fun t => t.tap = ⟨1, s.tap.held, s.tap.shifted⟩ ∧ OnlyParts [.out, .tap] s t)) ∧
  -- THERMTRIP (R457)
  (∀ s : State, (s.thermtrip = false → s.wide ≠ some .power → exec .thermtrip s = .next { s with
       thermtrip := true
       out := s.out ++ [.thermtrip true] })
     ∧ (s.thermtrip = true → exec .thermtrip s = .next s)) ∧
  -- FYIL_FRAME (R463)
  (∀ (s : State) (x : BitVec 256) (l : List (BitVec 256)), s.fld (pgFYIL + 0x040) 31 31 = 1 → s.slotState 7 < 2 →
     (s.fyil = x :: l → exec .fyilFrame s = .next { s with
       fyil := l
       out := s.out ++ [.fyil x] })
     ∧ (s.fyil = [] → exec .fyilFrame s = .next { s with out := s.out ++ [.fyil (BitVec.ofNat 256 (s.rawNs32 * 2 ^ 192))] })) ∧
  -- a frame joins the queue, or is dropped and counted where 64 wait (R463)
  (∀ (s : State) (kind weir body : Nat), (s.fyil.length < 64 → (s.fyilPush kind weir body).fyil.length = s.fyil.length + 1)
     ∧ (64 ≤ s.fyil.length → s.fyilPush kind weir body = s.inc (pgFYIL + 0x044) 31 0 1))
end

