-- ==== Sys2Proof/Laws/Tab.lean ====
section
/-! SUPPORT. The sparse tables: a read after a write, a write leaves every other key alone, and every operation keeps the canonical
form. -/

namespace Sys2Proof.Machine

open Sys2Proof

variable {α : Type}

/-- Dropping keys leaves what an unlisted key reads as at them, and every other key as it was. -/
theorem tabGet_drop (d : Nat → α) (t : Tab α) (p : Nat → Bool) (k : Nat) :
    tabGet d (tabDrop t p) k = if p k then d k else tabGet d t k := by
  unfold tabDrop
  induction t with
  | nil => exact (ite_self _).symm
  | cons e t ih => cases hp : p e.1 <;> by_cases hk : e.1 = k <;> simp_all [tabGet]

theorem tabErase_eq_drop (t : Tab α) (k : Nat) : tabErase t k = tabDrop t (fun a => decide (a = k)) :=
  List.filter_congr fun _ _ => decide_not

theorem tabGet_erase (d : Nat → α) (t : Tab α) (k j : Nat) : tabGet d (tabErase t k) j = if j = k then d k else tabGet d t j := by
  rw [tabErase_eq_drop, tabGet_drop]
  by_cases h : j = k <;> simp [h]

/-- A pair put in its place reads back, whatever stands beside it: no entry of the table has its key. -/
theorem tabGet_insert (d : Nat → α) (t : Tab α) (k j : Nat) (v : α) (h : ∀ p ∈ t, p.1 ≠ k) :
    tabGet d (tabInsert t k v) j = if j = k then v else tabGet d t j := by
  induction t with
  | nil => simp [tabInsert, tabGet, eq_comm]
  | cons p t ih =>
    have hp : p.1 ≠ k := h p List.mem_cons_self
    have := ih fun q hq => h q (List.mem_cons_of_mem p hq)
    unfold tabInsert
    split <;> simp only [tabGet, this] <;> grind

theorem tabErase_no_key (t : Tab α) (k : Nat) : ∀ p ∈ tabErase t k, p.1 ≠ k := fun _ hp => of_decide_eq_true (List.mem_filter.1 hp).2

variable [DecidableEq α]

theorem tabGet_set (d : Nat → α) (t : Tab α) (k j : Nat) (v : α) :
    tabGet d (tabSet d t k v) j = if j = k then v else tabGet d t j := by
  rw [tabSet, apply_ite (tabGet d · j), tabGet_insert _ _ _ _ _ (tabErase_no_key t k), tabGet_erase]
  by_cases h : j = k <;> simp +contextual [h]

@[simp] theorem tabGet_set_self (d : Nat → α) (t : Tab α) (k : Nat) (v : α) : tabGet d (tabSet d t k v) k = v := by
  rw [tabGet_set, if_pos rfl]

theorem tabGet_set_ne (d : Nat → α) (t : Tab α) {k j : Nat} (v : α) (h : j ≠ k) :
    tabGet d (tabSet d t k v) j = tabGet d t j := by rw [tabGet_set, if_neg h]

/-! ## The canonical form -/

omit [DecidableEq α] in
theorem tabRising_iff (t : Tab α) : tabRising t = true ↔ t.Pairwise (fun p q => p.1 < q.1) := by
  induction t with
  | nil => exact iff_of_true rfl .nil
  | cons e t ih => simp [tabRising, ih]

/-- What the canonical form says: keys rise, and each entry says something. -/
theorem tabWf_iff {d : Nat → α} (t : Tab α) : tabWf d t = true ↔ t.Pairwise (fun p q => p.1 < q.1) ∧ ∀ p ∈ t, p.2 ≠ d p.1 := by
  simp [tabWf, tabRising_iff]

theorem tabWf_filter {d : Nat → α} {t : Tab α} (p : Nat × α → Bool) (h : tabWf d t = true) : tabWf d (t.filter p) = true :=
  (tabWf_iff _).2 ⟨((tabWf_iff t).1 h).1.filter p, fun x hx => ((tabWf_iff t).1 h).2 x (List.mem_filter.1 hx).1⟩

theorem tabWf_erase {d : Nat → α} {t : Tab α} (k : Nat) (h : tabWf d t = true) : tabWf d (tabErase t k) = true := tabWf_filter _ h

theorem tabWf_drop {d : Nat → α} {t : Tab α} (p : Nat → Bool) (h : tabWf d t = true) : tabWf d (tabDrop t p) = true := tabWf_filter _ h

omit [DecidableEq α] in
/-- The entries after a pair has been put in its place. -/
theorem tabInsert_perm (t : Tab α) (k : Nat) (v : α) : (tabInsert t k v).Perm ((k, v) :: t) := by
  induction t with
  | nil => exact .refl _
  | cons e t ih =>
    unfold tabInsert
    split
    · exact .refl _
    · exact (ih.cons e).trans (.swap ..)

omit [DecidableEq α] in
theorem tabInsert_rising {t : Tab α} {k : Nat} {v : α} (h : t.Pairwise (fun p q => p.1 < q.1)) (hk : ∀ p ∈ t, p.1 ≠ k) :
    (tabInsert t k v).Pairwise (fun p q => p.1 < q.1) := by
  induction h with
  | nil => exact List.pairwise_singleton ..
  | @cons e t he ht ih =>
    have hne : e.1 ≠ k := hk e List.mem_cons_self
    unfold tabInsert
    split
    · exact .cons (List.forall_mem_cons.2 ⟨‹_›, fun x hx => Nat.lt_trans ‹_› (he x hx)⟩) (.cons he ht)
    · refine .cons (fun x hx => ?_) (ih fun p hp => hk p (List.mem_cons_of_mem _ hp))
      exact (List.mem_cons.1 ((tabInsert_perm ..).mem_iff.1 hx)).elim (fun e => e ▸ (by omega)) (he x)

theorem tabWf_set {d : Nat → α} {t : Tab α} (k : Nat) (v : α) (h : tabWf d t = true) : tabWf d (tabSet d t k v) = true := by
  have he := (tabWf_iff _).1 (tabWf_erase (d := d) k h)
  by_cases hv : v = d k
  · rw [tabSet, if_pos hv]; exact tabWf_erase k h
  · rw [tabSet, if_neg hv, tabWf_iff]
    exact ⟨tabInsert_rising he.1 (tabErase_no_key t k),
      fun x hx => (List.mem_cons.1 ((tabInsert_perm ..).mem_iff.1 hx)).elim (fun e => e ▸ hv) (he.2 x)⟩

end Sys2Proof.Machine
end

