-- ==== Sys2Proof/Laws/Memory.lean ====
section
/-! SUPPORT. The laws of memory: every write keeps the canonical form, a byte written reads back, every other byte stays; the code columns. -/

namespace Sys2Proof.Machine

open Sys2Proof

theorem memWf_iff {s : State} : s.memWf = true ↔ Memory.wf s.mem.cells = true ∧ tabWf noByte s.mem.hbm = true := by
  rw [State.memWf, Bool.and_eq_true]

theorem putBytes_wf {m : List Host.Cell} (k : Nat) (bs : Bytes) (h : Memory.wf m = true) : Memory.wf (putBytes m k bs) = true := by
  induction bs generalizing m k with
  | nil => exact h
  | cons b bs ih => exact ih _ (tabWf_set _ _ h)

theorem putHbm_wf {m : Tab (Option W8)} (k : Nat) (bs : Bytes) (h : tabWf noByte m = true) :
    tabWf noByte (putHbm m k bs) = true := by
  induction bs generalizing m k with
  | nil => exact h
  | cons b bs ih => exact ih _ (tabWf_set _ _ h)

/-- What a byte reads as after a write of a list of bytes. -/
theorem tabGet_putBytes (m : List Host.Cell) (k j : Nat) (bs : Bytes) :
    tabGet zero8 (putBytes m k bs) j = if k ≤ j ∧ j < k + bs.length then bs.getD (j - k) 0 else tabGet zero8 m j := by
  induction bs generalizing m k with
  | nil => rw [putBytes, if_neg]; rintro ⟨h1, h2⟩; exact absurd h2 (Nat.not_lt.2 h1)
  | cons b bs ih =>
    rw [putBytes, ih, tabGet_set, List.length_cons]
    rcases Nat.lt_trichotomy j k with h | rfl | h
    · rw [if_neg (by omega), if_neg (Nat.ne_of_lt h), if_neg (by omega)]
    · rw [if_neg (by omega), if_pos rfl, if_pos (by rw [Nat.add_comm]; omega), Nat.sub_self]; rfl
    · obtain ⟨n, rfl⟩ := Nat.exists_eq_add_of_lt h
      have e : k + n + 1 - k = n + 1 := by omega
      rw [e, List.getD_cons_succ, Nat.add_right_comm k n 1, Nat.add_sub_cancel_left, if_neg (Nat.ne_of_gt (by omega))]
      exact ite_congr (propext (by omega)) (fun _ => rfl) fun _ => rfl

/-- Columns are drawn from the list, one place after another. -/
theorem pickColumns_mem : ∀ (n i : Nat) (l : List W8) (x : W8), n ≤ l.length → x ∈ pickColumns n i l → x ∈ l
  | 0, _, _, _, _, h => by simp [pickColumns] at h
  | n + 1, i, l, x, hn, h => by
    have hj : Config.eccPick i % l.length < l.length := Nat.mod_lt _ (by omega)
    rw [pickColumns, List.mem_cons] at h
    obtain rfl | h := h
    · simp [List.getD_eq_getElem?_getD, List.getElem?_eq_getElem hj]
    · exact List.mem_of_mem_eraseIdx (pickColumns_mem n (i + 1) _ x (by rw [List.length_eraseIdx_of_lt hj]; omega) h)

/-- Every column has odd weight (R166). -/
theorem eccColumns_odd {x : W8} (h : x ∈ eccColumns) : popCount x % 2 = 1 := by
  simpa using (List.mem_filter.mp (pickColumns_mem 72 0 _ x (by decide +kernel) h)).2

/-- The syndrome that is the column of bit 0 names a correctable word. -/
theorem eccClass_column : eccClass (eccColumns.getD 0 0) = .correctable := by
  have ho : popCount (eccColumns.getD 0 0) % 2 = 1 := eccColumns_odd (by simp [eccColumns, pickColumns])
  have hz : eccColumns.getD 0 0 ≠ 0 := fun h => by rw [h] at ho; exact absurd ho (by decide)
  have hb : (eccBit (eccColumns.getD 0 0)).isSome = true := by
    rw [eccBit, List.find?_isSome]; exact ⟨0, by simp, by simp⟩
  rw [eccClass, if_neg hz, if_pos ⟨ho, hb⟩]

/-- A stored word keeps the syndrome it was stored with. -/
theorem State.storeWord_syndrome (s : State) (k : Nat) (x : W64) (syn : W8) : (s.storeWord k x syn).syndrome k = syn := by
  simp [State.storeWord, State.syndrome]
end Sys2Proof.Machine
end

