-- ==== Sys2Proof/Laws/Frame.lean ====
section
/-! SUPPORT. The laws of frames: which parts of the state can differ, as a mask, and how masks compose. The lemmas of the other
Frame files, one for each definition that answers a state, say so of the operations and commands. -/

namespace Sys2Proof.Machine

open Sys2Proof



/-- Nothing differs but the parts whose bit the mask has, bit n being the n-th part; and memory in its canonical form stays in it. -/
structure Frame (m : Nat) (s t : State) : Prop where
  same : ∀ p : StatePart, m.testBit p.ctorIdx = false → Same p s t
  wf : s.memWf = true → t.memWf = true

theorem Same.refl' (p : StatePart) (s : State) : Same p s s := by cases p <;> rfl

theorem Same.trans {p : StatePart} {s t u : State} (h : Same p s t) (k : Same p t u) : Same p s u := by
  cases p <;> exact Eq.trans k h

theorem Frame.refl (m : Nat) (s : State) : Frame m s s := ⟨fun p _ => Same.refl' p s, id⟩

theorem Frame.trans {m : Nat} {s t u : State} (h : Frame m s t) (k : Frame m t u) : Frame m s u :=
  ⟨fun p hp => (h.same p hp).trans (k.same p hp), fun w => k.wf (h.wf w)⟩

theorem Frame.mono {a b : Nat} {s t : State} (h : Frame a s t) (k : Nat.land a b = a) : Frame b s t := by
  refine ⟨fun p hp => h.same p ?_, h.wf⟩
  rw [← k]
  show (a &&& b).testBit _ = false
  rw [Nat.testBit_and, hp, Bool.and_false]

theorem Frame.step {a b : Nat} {s t u : State} (h : Frame a t u) (k : Nat.land a b = a) (r : Frame b s t) : Frame b s u :=
  r.trans (h.mono k)

theorem Frame.sub_trans {a b c : Nat} (h : Nat.land a b = a) (k : Nat.land b c = b) : Nat.land a c = a := by
  have h' : a &&& b = a := h
  have k' : b &&& c = b := k
  show a &&& c = a
  rw [← h', Nat.and_assoc, k']

theorem Frame.ite {m : Nat} {s a b : State} {c : Prop} [Decidable c] (ha : Frame m s a) (hb : Frame m s b) :
    Frame m s (if c then a else b) := by split <;> assumption

theorem Frame.foldl {α : Type} {m : Nat} {s : State} (l : List α) (f : State → α → State) (t : State)
    (h : ∀ t a, Frame m t (f t a)) (hs : Frame m s t) : Frame m s (l.foldl f t) := by
  induction l generalizing t with
  | nil => exact hs
  | cons a l ih => exact ih _ (hs.trans (h t a))

theorem Frame.iteF {α : Type} {m : Nat} {s : State} {a b : α} {c : Prop} [Decidable c] (p : α → State) (ha : Frame m s
    (p a))
    (hb : Frame m s (p b)) : Frame m s (p (if c then a else b)) := by split <;> assumption

theorem Frame.foldlF {α β : Type} {m : Nat} {s : State} (p : β → State) (l : List α) (f : β → α → β) (t : β)
    (h : ∀ t a, Frame m (p t) (p (f t a))) (hs : Frame m s (p t)) : Frame m s (p (l.foldl f t)) := by
  induction l generalizing t with
  | nil => exact hs
  | cons a l ih => exact ih _ (hs.trans (h t a))

/-- The state a slot leaves, or the state before, while its bundle stalls. -/
def Res.after (s : State) : Res → State
  | .fault t _ => t
  | .done t _ => t
  | .stall => s

theorem Frame.res_done {m : Nat} {s t : State} {c : Ctl} (h : Frame m s t) : Frame m s (Res.after s (.done t c)) := h

theorem Frame.res_fault {m : Nat} {s t : State} {c : Nat} (h : Frame m s t) : Frame m s (Res.after s (.fault t c)) := h

theorem Frame.res_stall {m : Nat} {s : State} : Frame m s (Res.after s .stall) := Frame.refl _ _

theorem Frame.res_ite {m : Nat} {s : State} {a b : Res} {c : Prop} [Decidable c] (ha : Frame m s (Res.after s a))
    (hb : Frame m s (Res.after s b)) : Frame m s (Res.after s (if c then a else b)) := by split <;> assumption

theorem Frame.res_mono {a b : Nat} {s t : State} (h : Frame a s t) (k : Nat.land a b = a) : Frame b s t := h.mono k

theorem Frame.bit_of {a b i : Nat} (h : Nat.land a b = a) (k : a.testBit i = true) : b.testBit i = true := by
  have h' : a &&& b = a := h
  rw [← h', Nat.testBit_and, Bool.and_eq_true] at k
  exact k.2

theorem upd_wide {F : Nat} {s : State} {x0} (h0 : F.testBit 12 = true) : Frame F s { s with wide := x0 } := by
  refine ⟨fun p hp => ?_, id⟩; cases p <;> first | exact rfl | (exact absurd (hp.symm.trans h0) (by decide))

theorem upd_tsq {F : Nat} {s : State} {x0} (h0 : F.testBit 37 = true) : Frame F s { s with tsq := x0 } := by
  refine ⟨fun p hp => ?_, id⟩; cases p <;> first | exact rfl | (exact absurd (hp.symm.trans h0) (by decide))

theorem upd_tsPend {F : Nat} {s : State} {x0} (h0 : F.testBit 38 = true) : Frame F s { s with tsPend := x0 } := by
  refine ⟨fun p hp => ?_, id⟩; cases p <;> first | exact rfl | (exact absurd (hp.symm.trans h0) (by decide))

theorem upd_traceAt {F : Nat} {s : State} {x0} (h0 : F.testBit 29 = true) : Frame F s { s with traceAt := x0 } := by
  refine ⟨fun p hp => ?_, id⟩; cases p <;> first | exact rfl | (exact absurd (hp.symm.trans h0) (by decide))

theorem upd_time {F : Nat} {s : State} {x0} (h0 : F.testBit 2 = true) : Frame F s { s with time := x0 } := by
  refine ⟨fun p hp => ?_, id⟩; cases p <;> first | exact rfl | (exact absurd (hp.symm.trans h0) (by decide))

theorem upd_tiles {F : Nat} {s : State} {x0} (h0 : F.testBit 17 = true) : Frame F s { s with tiles := x0 } := by
  refine ⟨fun p hp => ?_, id⟩; cases p <;> first | exact rfl | (exact absurd (hp.symm.trans h0) (by decide))

theorem upd_thermtrip {F : Nat} {s : State} {x0} (h0 : F.testBit 56 = true) : Frame F s { s with thermtrip := x0 }
    := by
  refine ⟨fun p hp => ?_, id⟩; cases p <;> first | exact rfl | (exact absurd (hp.symm.trans h0) (by decide))

theorem upd_tap {F : Nat} {s : State} {x0} (h0 : F.testBit 57 = true) : Frame F s { s with tap := x0 } := by
  refine ⟨fun p hp => ?_, id⟩; cases p <;> first | exact rfl | (exact absurd (hp.symm.trans h0) (by decide))

theorem upd_stage {F : Nat} {s : State} {x0} (h0 : F.testBit 46 = true) : Frame F s { s with stage := x0 } := by
  refine ⟨fun p hp => ?_, id⟩; cases p <;> first | exact rfl | (exact absurd (hp.symm.trans h0) (by decide))

theorem upd_sluice {F : Nat} {s : State} {x0} (h0 : F.testBit 16 = true) : Frame F s { s with sluice := x0 } := by
  refine ⟨fun p hp => ?_, id⟩; cases p <;> first | exact rfl | (exact absurd (hp.symm.trans h0) (by decide))

theorem upd_slotLate {F : Nat} {s : State} {x0} (h0 : F.testBit 36 = true) : Frame F s { s with slotLate := x0 } :=
    by
  refine ⟨fun p hp => ?_, id⟩; cases p <;> first | exact rfl | (exact absurd (hp.symm.trans h0) (by decide))

theorem upd_shpHist {F : Nat} {s : State} {x0} (h0 : F.testBit 43 = true) : Frame F s { s with shpHist := x0 } := by
  refine ⟨fun p hp => ?_, id⟩; cases p <;> first | exact rfl | (exact absurd (hp.symm.trans h0) (by decide))

theorem upd_sends {F : Nat} {s : State} {x0} (h0 : F.testBit 28 = true) : Frame F s { s with sends := x0 } := by
  refine ⟨fun p hp => ?_, id⟩; cases p <;> first | exact rfl | (exact absurd (hp.symm.trans h0) (by decide))

theorem upd_sagWarned {F : Nat} {s : State} {x0} (h0 : F.testBit 15 = true) : Frame F s { s with sagWarned := x0 }
    := by
  refine ⟨fun p hp => ?_, id⟩; cases p <;> first | exact rfl | (exact absurd (hp.symm.trans h0) (by decide))

theorem upd_rsto {F : Nat} {s : State} {x0} (h0 : F.testBit 45 = true) : Frame F s { s with rsto := x0 } := by
  refine ⟨fun p hp => ?_, id⟩; cases p <;> first | exact rfl | (exact absurd (hp.symm.trans h0) (by decide))

theorem upd_resetting {F : Nat} {s : State} {x0} (h0 : F.testBit 10 = true) : Frame F s { s with resetting := x0 }
    := by
  refine ⟨fun p hp => ?_, id⟩; cases p <;> first | exact rfl | (exact absurd (hp.symm.trans h0) (by decide))

theorem upd_regs {F : Nat} {s : State} {x0} (h0 : F.testBit 3 = true) : Frame F s { s with regs := x0 } := by
  refine ⟨fun p hp => ?_, id⟩; cases p <;> first | exact rfl | (exact absurd (hp.symm.trans h0) (by decide))

theorem upd_readData {F : Nat} {s : State} {x0} (h0 : F.testBit 5 = true) : Frame F s { s with readData := x0 } :=
    by
  refine ⟨fun p hp => ?_, id⟩; cases p <;> first | exact rfl | (exact absurd (hp.symm.trans h0) (by decide))

theorem upd_quad {F : Nat} {s : State} {x0} (h0 : F.testBit 9 = true) : Frame F s { s with quad := x0 } := by
  refine ⟨fun p hp => ?_, id⟩; cases p <;> first | exact rfl | (exact absurd (hp.symm.trans h0) (by decide))

theorem upd_pumpBytes {F : Nat} {s : State} {x0} (h0 : F.testBit 21 = true) : Frame F s { s with pumpBytes := x0 }
    := by
  refine ⟨fun p hp => ?_, id⟩; cases p <;> first | exact rfl | (exact absurd (hp.symm.trans h0) (by decide))

theorem upd_pump {F : Nat} {s : State} {x0} (h0 : F.testBit 20 = true) : Frame F s { s with pump := x0 } := by
  refine ⟨fun p hp => ?_, id⟩; cases p <;> first | exact rfl | (exact absurd (hp.symm.trans h0) (by decide))

theorem upd_pulses {F : Nat} {s : State} {x0} (h0 : F.testBit 42 = true) : Frame F s { s with pulses := x0 } := by
  refine ⟨fun p hp => ?_, id⟩; cases p <;> first | exact rfl | (exact absurd (hp.symm.trans h0) (by decide))

theorem upd_ptpTx {F : Nat} {s : State} {x0} (h0 : F.testBit 40 = true) : Frame F s { s with ptpTx := x0 } := by
  refine ⟨fun p hp => ?_, id⟩; cases p <;> first | exact rfl | (exact absurd (hp.symm.trans h0) (by decide))

theorem upd_power {F : Nat} {s : State} {x0} (h0 : F.testBit 8 = true) : Frame F s { s with power := x0 } := by
  refine ⟨fun p hp => ?_, id⟩; cases p <;> first | exact rfl | (exact absurd (hp.symm.trans h0) (by decide))

theorem upd_pmb {F : Nat} {s : State} {x0} (h0 : F.testBit 41 = true) : Frame F s { s with pmb := x0 } := by
  refine ⟨fun p hp => ?_, id⟩; cases p <;> first | exact rfl | (exact absurd (hp.symm.trans h0) (by decide))

theorem upd_pending {F : Nat} {s : State} {x0} (h0 : F.testBit 0 = true) : Frame F s { s with pending := x0 } := by
  refine ⟨fun p hp => ?_, id⟩; cases p <;> first | exact rfl | (exact absurd (hp.symm.trans h0) (by decide))

theorem upd_pcie {F : Nat} {s : State} {x0} (h0 : F.testBit 19 = true) : Frame F s { s with pcie := x0 } := by
  refine ⟨fun p hp => ?_, id⟩; cases p <;> first | exact rfl | (exact absurd (hp.symm.trans h0) (by decide))

theorem upd_pairs {F : Nat} {s : State} {x0} (h0 : F.testBit 34 = true) : Frame F s { s with pairs := x0 } := by
  refine ⟨fun p hp => ?_, id⟩; cases p <;> first | exact rfl | (exact absurd (hp.symm.trans h0) (by decide))

theorem upd_pairLo {F : Nat} {s : State} {x0} (h0 : F.testBit 35 = true) : Frame F s { s with pairLo := x0 } := by
  refine ⟨fun p hp => ?_, id⟩; cases p <;> first | exact rfl | (exact absurd (hp.symm.trans h0) (by decide))

theorem upd_out {F : Nat} {s : State} {x0} (h0 : F.testBit 6 = true) : Frame F s { s with out := x0 } := by
  refine ⟨fun p hp => ?_, id⟩; cases p <;> first | exact rfl | (exact absurd (hp.symm.trans h0) (by decide))

theorem upd_memPoison {F : Nat} {s : State} {x0} (h0 : F.testBit 24 = true) : Frame F s { s with memPoison := x0 }
    := by
  refine ⟨fun p hp => ?_, id⟩; cases p <;> first | exact rfl | (exact absurd (hp.symm.trans h0) (by decide))

theorem upd_memErr {F : Nat} {s : State} {x0} (h0 : F.testBit 25 = true) : Frame F s { s with memErr := x0 } := by
  refine ⟨fun p hp => ?_, id⟩; cases p <;> first | exact rfl | (exact absurd (hp.symm.trans h0) (by decide))

theorem upd_memData {F : Nat} {s : State} {x0} (h0 : F.testBit 23 = true) : Frame F s { s with memData := x0 } := by
  refine ⟨fun p hp => ?_, id⟩; cases p <;> first | exact rfl | (exact absurd (hp.symm.trans h0) (by decide))

theorem upd_mem {F : Nat} {s : State} {x0} (h0 : F.testBit 18 = true)
    (w : s.memWf = true → ({ s with mem := x0 } : State).memWf = true) : Frame F s { s with mem := x0 } := by
  refine ⟨fun p hp => ?_, w⟩; cases p <;> first | exact rfl | (exact absurd (hp.symm.trans h0) (by decide))

theorem upd_links {F : Nat} {s : State} {x0} (h0 : F.testBit 27 = true) : Frame F s { s with links := x0 } := by
  refine ⟨fun p hp => ?_, id⟩; cases p <;> first | exact rfl | (exact absurd (hp.symm.trans h0) (by decide))

theorem upd_lenReads {F : Nat} {s : State} {x0} (h0 : F.testBit 39 = true) : Frame F s { s with lenReads := x0 } :=
    by
  refine ⟨fun p hp => ?_, id⟩; cases p <;> first | exact rfl | (exact absurd (hp.symm.trans h0) (by decide))

theorem upd_latch {F : Nat} {s : State} {x0} (h0 : F.testBit 4 = true) : Frame F s { s with latch := x0 } := by
  refine ⟨fun p hp => ?_, id⟩; cases p <;> first | exact rfl | (exact absurd (hp.symm.trans h0) (by decide))

theorem upd_lanes {F : Nat} {s : State} {x0} (h0 : F.testBit 26 = true) : Frame F s { s with lanes := x0 } := by
  refine ⟨fun p hp => ?_, id⟩; cases p <;> first | exact rfl | (exact absurd (hp.symm.trans h0) (by decide))

theorem upd_khash {F : Nat} {s : State} {x0} (h0 : F.testBit 48 = true) : Frame F s { s with khash := x0 } := by
  refine ⟨fun p hp => ?_, id⟩; cases p <;> first | exact rfl | (exact absurd (hp.symm.trans h0) (by decide))

theorem upd_kept {F : Nat} {s : State} {x0} (h0 : F.testBit 1 = true) : Frame F s { s with kept := x0 } := by
  refine ⟨fun p hp => ?_, id⟩; cases p <;> first | exact rfl | (exact absurd (hp.symm.trans h0) (by decide))

theorem upd_hraceAt {F : Nat} {s : State} {x0} (h0 : F.testBit 32 = true) : Frame F s { s with hraceAt := x0 } := by
  refine ⟨fun p hp => ?_, id⟩; cases p <;> first | exact rfl | (exact absurd (hp.symm.trans h0) (by decide))

theorem upd_gsm {F : Nat} {s : State} {x0} (h0 : F.testBit 54 = true) : Frame F s { s with gsm := x0 } := by
  refine ⟨fun p hp => ?_, id⟩; cases p <;> first | exact rfl | (exact absurd (hp.symm.trans h0) (by decide))

theorem upd_fyil {F : Nat} {s : State} {x0} (h0 : F.testBit 22 = true) : Frame F s { s with fyil := x0 } := by
  refine ⟨fun p hp => ?_, id⟩; cases p <;> first | exact rfl | (exact absurd (hp.symm.trans h0) (by decide))

theorem upd_free {F : Nat} {s : State} {x0} (h0 : F.testBit 7 = true) : Frame F s { s with free := x0 } := by
  refine ⟨fun p hp => ?_, id⟩; cases p <;> first | exact rfl | (exact absurd (hp.symm.trans h0) (by decide))

theorem upd_events {F : Nat} {s : State} {x0} (h0 : F.testBit 33 = true) : Frame F s { s with events := x0 } := by
  refine ⟨fun p hp => ?_, id⟩; cases p <;> first | exact rfl | (exact absurd (hp.symm.trans h0) (by decide))

theorem upd_ethSeq {F : Nat} {s : State} {x0} (h0 : F.testBit 30 = true) : Frame F s { s with ethSeq := x0 } := by
  refine ⟨fun p hp => ?_, id⟩; cases p <;> first | exact rfl | (exact absurd (hp.symm.trans h0) (by decide))

theorem upd_ethLast {F : Nat} {s : State} {x0} (h0 : F.testBit 31 = true) : Frame F s { s with ethLast := x0 } := by
  refine ⟨fun p hp => ?_, id⟩; cases p <;> first | exact rfl | (exact absurd (hp.symm.trans h0) (by decide))

theorem upd_eng {F : Nat} {s : State} {x0} (h0 : F.testBit 53 = true) : Frame F s { s with eng := x0 } := by
  refine ⟨fun p hp => ?_, id⟩; cases p <;> first | exact rfl | (exact absurd (hp.symm.trans h0) (by decide))

theorem upd_ejectHeld {F : Nat} {s : State} {x0} (h0 : F.testBit 11 = true) : Frame F s { s with ejectHeld := x0 }
    := by
  refine ⟨fun p hp => ?_, id⟩; cases p <;> first | exact rfl | (exact absurd (hp.symm.trans h0) (by decide))

theorem upd_drainRaw {F : Nat} {s : State} {x0} (h0 : F.testBit 44 = true) : Frame F s { s with drainRaw := x0 } :=
    by
  refine ⟨fun p hp => ?_, id⟩; cases p <;> first | exact rfl | (exact absurd (hp.symm.trans h0) (by decide))

theorem upd_commit {F : Nat} {s : State} {x0} (h0 : F.testBit 47 = true) : Frame F s { s with commit := x0 } := by
  refine ⟨fun p hp => ?_, id⟩; cases p <;> first | exact rfl | (exact absurd (hp.symm.trans h0) (by decide))

theorem upd_cgStop {F : Nat} {s : State} {x0} (h0 : F.testBit 13 = true) : Frame F s { s with cgStop := x0 } := by
  refine ⟨fun p hp => ?_, id⟩; cases p <;> first | exact rfl | (exact absurd (hp.symm.trans h0) (by decide))

theorem upd_cgFault {F : Nat} {s : State} {x0} (h0 : F.testBit 14 = true) : Frame F s { s with cgFault := x0 } := by
  refine ⟨fun p hp => ?_, id⟩; cases p <;> first | exact rfl | (exact absurd (hp.symm.trans h0) (by decide))

theorem upd_burn {F : Nat} {s : State} {x0} (h0 : F.testBit 49 = true) : Frame F s { s with burn := x0 } := by
  refine ⟨fun p hp => ?_, id⟩; cases p <;> first | exact rfl | (exact absurd (hp.symm.trans h0) (by decide))

theorem upd_bootDormant {F : Nat} {s : State} {x0} (h0 : F.testBit 51 = true) : Frame F s
    { s with bootDormant := x0 } := by
  refine ⟨fun p hp => ?_, id⟩; cases p <;> first | exact rfl | (exact absurd (hp.symm.trans h0) (by decide))

theorem upd_boot {F : Nat} {s : State} {x0} (h0 : F.testBit 50 = true) : Frame F s { s with boot := x0 } := by
  refine ⟨fun p hp => ?_, id⟩; cases p <;> first | exact rfl | (exact absurd (hp.symm.trans h0) (by decide))

theorem upd_bmon {F : Nat} {s : State} {x0} (h0 : F.testBit 55 = true) : Frame F s { s with bmon := x0 } := by
  refine ⟨fun p hp => ?_, id⟩; cases p <;> first | exact rfl | (exact absurd (hp.symm.trans h0) (by decide))

theorem upd_att {F : Nat} {s : State} {x0} (h0 : F.testBit 52 = true) : Frame F s { s with att := x0 } := by
  refine ⟨fun p hp => ?_, id⟩; cases p <;> first | exact rfl | (exact absurd (hp.symm.trans h0) (by decide))

theorem upd_many1 {F : Nat} {s : State} {x0} {x1} {x2} {x3} {x4} {x5} {x6} {x7} {x8} (h : Nat.land 0x10000000716500
    F = 0x10000000716500) :
    Frame F s { s with
    power := x0, resetting := x1, cgStop := x2, cgFault := x3, sluice := x4, pump := x5, pumpBytes := x6, fyil := x7,
    att := x8 } :=
  Frame.mono (a := 0x10000000716500) ⟨fun p hp => by cases p <;> first | exact rfl | exact absurd hp (by decide), id⟩
      h

theorem upd_many2 {F : Nat} {s : State} {x0} {x1} {x2} {x3} (h : Nat.land 0x4020500 F = 0x4020500) :
    Frame F s { s with
    power := x0, resetting := x1, tiles := x2, lanes := x3 } :=
  Frame.mono (a := 0x4020500) ⟨fun p hp => by cases p <;> first | exact rfl | exact absurd hp (by decide), id⟩ h

theorem upd_many3 {F : Nat} {s : State} {x0} {x1} {x2} {x3} (h : Nat.land 0xc00000018 F = 0xc00000018) :
    Frame F s { s with
    regs := x0, latch := x1, pairs := x2, pairLo := x3 } :=
  Frame.mono (a := 0xc00000018) ⟨fun p hp => by cases p <;> first | exact rfl | exact absurd hp (by decide), id⟩ h

theorem upd_many4 {F : Nat} {s : State} {x0} {x1} {x2} {x3} {x4} (h : Nat.land 0x1f000000000 F = 0x1f000000000) :
    Frame F s { s with
    slotLate := x0, tsq := x1, tsPend := x2, lenReads := x3, ptpTx := x4 } :=
  Frame.mono (a := 0x1f000000000) ⟨fun p hp => by cases p <;> first | exact rfl | exact absurd hp (by decide), id⟩ h

theorem upd_many5 {F : Nat} {s : State} {x0} {x1} {x2} {x3} {x4} {x5} (h : Nat.land 0x60080208010000 F =
    0x60080208010000) :
    Frame F s { s with
    sluice := x0, links := x1, events := x2, shpHist := x3, eng := x4, gsm := x5 } :=
  Frame.mono (a := 0x60080208010000) ⟨fun p hp => by cases p <;> first | exact rfl | exact absurd hp (by decide), id⟩
      h

theorem upd_boot_bootDormant {F : Nat} {s : State} {x0} {x1} (h0 : F.testBit 50 = true) (h1 : F.testBit 51 = true) :
    Frame F s { s with boot := x0, bootDormant := x1 } :=
  (upd_boot h0 : Frame F s { s with boot := x0 }).trans (upd_bootDormant h1)

theorem upd_ejectHeld_drainRaw {F : Nat} {s : State} {x0} {x1} (h0 : F.testBit 11 = true) (h1 : F.testBit 44 = true)
    : Frame F s { s with ejectHeld := x0, drainRaw := x1 } :=
  (upd_ejectHeld h0 : Frame F s { s with ejectHeld := x0 }).trans (upd_drainRaw h1)

theorem upd_ejectHeld_wide {F : Nat} {s : State} {x0} {x1} (h0 : F.testBit 11 = true) (h1 : F.testBit 12 = true) :
    Frame F s { s with ejectHeld := x0, wide := x1 } :=
  (upd_ejectHeld h0 : Frame F s { s with ejectHeld := x0 }).trans (upd_wide h1)

theorem upd_ejectHeld_wide_commit {F : Nat} {s : State} {x0} {x1} {x2} (h0 : F.testBit 11 = true) (h1 : F.testBit 12
    = true) (h2 : F.testBit 47 = true) : Frame F s { s with ejectHeld := x0, wide := x1, commit := x2 } :=
  ((upd_ejectHeld h0 : Frame F s { s with ejectHeld := x0 }).trans (upd_wide h1) : Frame F s
      { s with ejectHeld := x0, wide := x1 }).trans (upd_commit h2)

theorem upd_ethLast_hraceAt {F : Nat} {s : State} {x0} {x1} (h0 : F.testBit 31 = true) (h1 : F.testBit 32 = true) :
    Frame F s { s with ethLast := x0, hraceAt := x1 } :=
  (upd_ethLast h0 : Frame F s { s with ethLast := x0 }).trans (upd_hraceAt h1)

theorem upd_kept_boot {F : Nat} {s : State} {x0} {x1} (h0 : F.testBit 1 = true) (h1 : F.testBit 50 = true) : Frame F
    s { s with kept := x0, boot := x1 } :=
  (upd_kept h0 : Frame F s { s with kept := x0 }).trans (upd_boot h1)

theorem upd_links_events {F : Nat} {s : State} {x0} {x1} (h0 : F.testBit 27 = true) (h1 : F.testBit 33 = true) :
    Frame F s { s with links := x0, events := x1 } :=
  (upd_links h0 : Frame F s { s with links := x0 }).trans (upd_events h1)

theorem upd_memData_memPoison_memErr {F : Nat} {s : State} {x0} {x1} {x2} (h0 : F.testBit 23 = true) (h1 : F.testBit
    24 = true) (h2 : F.testBit 25 = true) : Frame F s { s with memData := x0, memPoison := x1, memErr := x2 } :=
  ((upd_memData h0 : Frame F s { s with memData := x0 }).trans (upd_memPoison h1) : Frame F s
      { s with memData := x0, memPoison := x1 }).trans (upd_memErr h2)

theorem upd_pmb_stage_bmon {F : Nat} {s : State} {x0} {x1} {x2} (h0 : F.testBit 41 = true) (h1 : F.testBit 46 =
    true) (h2 : F.testBit 55 = true) : Frame F s { s with pmb := x0, stage := x1, bmon := x2 } :=
  ((upd_pmb h0 : Frame F s { s with pmb := x0 }).trans (upd_stage h1) : Frame F s
      { s with pmb := x0, stage := x1 }).trans (upd_bmon h2)

theorem upd_pump_pumpBytes {F : Nat} {s : State} {x0} {x1} (h0 : F.testBit 20 = true) (h1 : F.testBit 21 = true) :
    Frame F s { s with pump := x0, pumpBytes := x1 } :=
  (upd_pump h0 : Frame F s { s with pump := x0 }).trans (upd_pumpBytes h1)

theorem upd_readData_bmon {F : Nat} {s : State} {x0} {x1} (h0 : F.testBit 5 = true) (h1 : F.testBit 55 = true) :
    Frame F s { s with readData := x0, bmon := x1 } :=
  (upd_readData h0 : Frame F s { s with readData := x0 }).trans (upd_bmon h1)

theorem upd_sends_traceAt_ethSeq {F : Nat} {s : State} {x0} {x1} {x2} (h0 : F.testBit 28 = true) (h1 : F.testBit 29
    = true) (h2 : F.testBit 30 = true) : Frame F s { s with sends := x0, traceAt := x1, ethSeq := x2 } :=
  ((upd_sends h0 : Frame F s { s with sends := x0 }).trans (upd_traceAt h1) : Frame F s
      { s with sends := x0, traceAt := x1 }).trans (upd_ethSeq h2)

theorem upd_sluice_tiles {F : Nat} {s : State} {x0} {x1} (h0 : F.testBit 16 = true) (h1 : F.testBit 17 = true) :
    Frame F s { s with sluice := x0, tiles := x1 } :=
  (upd_sluice h0 : Frame F s { s with sluice := x0 }).trans (upd_tiles h1)

/-- The mask of a list of parts. -/
def maskOf (ps : List StatePart) : Nat := ps.foldl (fun m p => m ||| 2 ^ p.ctorIdx) 0

/-- Bit n of a mask built up from m: one of m's, or that of a part listed. -/
theorem maskOf_fold (ps : List StatePart) (m n : Nat) :
    (ps.foldl (fun m p => m ||| 2 ^ p.ctorIdx) m).testBit n = (m.testBit n || ps.any (fun p => decide (p.ctorIdx = n))) := by
  induction ps generalizing m with
  | nil => exact (Bool.or_false _).symm
  | cons p ps ih => rw [List.foldl_cons, ih, Nat.testBit_or, Nat.testBit_two_pow, List.any_cons, Bool.or_assoc]

theorem StatePart.ctorIdx_inj {p q : StatePart} (h : p.ctorIdx = q.ctorIdx) : p = q := by
  rw [← StatePart.ofNat_ctorIdx p, ← StatePart.ofNat_ctorIdx q, h]

/-- A frame whose mask is covered by a list of parts. -/
theorem Frame.parts {m : Nat} {s t : State} {ps : List StatePart} (h : Frame m s t) (k : Nat.land m (maskOf ps) = m) :
    OnlyParts ps s t := by
  intro p hp
  refine (h.mono k).same p (Bool.eq_false_iff.2 fun e => ?_)
  rw [maskOf, maskOf_fold, Nat.zero_testBit, Bool.false_or, List.any_eq_true] at e
  obtain ⟨q, hq, hi⟩ := e
  exact hp (StatePart.ctorIdx_inj (of_decide_eq_true hi) ▸ hq)

end Sys2Proof.Machine
end

