-- ==== Sys2Proof/Laws/FrameOps.lean ====
section
/-! SUPPORT. Which parts of the state the operations and commands of registers, interrupts, the Weirs and the general register write can change: one lemma per definition. -/

namespace Sys2Proof.Machine

open Sys2Proof

theorem State.setReg_frame (s : State) (k : Nat) (v : W32) : Frame 0x8 s (State.setReg s k v) := by
  unfold State.setReg
  exact upd_regs rfl

theorem State.put_frame (s : State) (k hi lo v : Nat) : Frame 0x8 s (State.put s k hi lo v) := by
  unfold State.put
  exact (State.setReg_frame ..).mono rfl

theorem State.inc_frame (s : State) (k hi lo n : Nat) : Frame 0x8 s (State.inc s k hi lo n) := by
  unfold State.inc
  exact (State.put_frame ..).mono rfl

theorem State.orReg_frame (s : State) (k : Nat) (m : W32) : Frame 0x8 s (State.orReg s k m) := by
  unfold State.orReg
  exact (State.setReg_frame ..).mono rfl

theorem State.setReg64_frame (s : State) (k : Nat) (v : W64) : Frame 0x8 s (State.setReg64 s k v) := by
  unfold State.setReg64
  exact (State.setReg_frame ..).step rfl ((State.setReg_frame ..).mono rfl)

theorem State.setRowBit_frame (s : State) (k n : Nat) (b : Bool) : Frame 0x8 s (State.setRowBit s k n b) := by
  unfold State.setRowBit
  exact (State.put_frame ..).mono rfl

theorem State.emit_frame (s : State) (o : Output) : Frame 0x40 s (State.emit s o) := by
  unfold State.emit
  exact upd_out rfl

theorem State.drawn_frame (s : State) (n : Nat) : Frame 0x80 s (State.drawn s n) := by
  unfold State.drawn
  exact upd_free rfl

theorem State.rebase_frame (s : State) : Frame 0x4 s (State.rebase s) := by
  unfold State.rebase
  exact upd_time rfl

theorem State.setSlot_frame (s : State) (k : Nat) (p : PowerSlot) : Frame 0x100 s (State.setSlot s k p) := by
  unfold State.setSlot
  exact upd_power rfl

theorem State.setQuad_frame (s : State) (q : Nat) (x : QuadSt) : Frame 0x200 s (State.setQuad s q x) := by
  unfold State.setQuad
  exact upd_quad rfl

theorem State.fyilPush_frame (s : State) (kind weir : Nat) (body : Nat) : Frame 0x400008 s (State.fyilPush s kind
    weir body) := by
  unfold State.fyilPush
  exact Frame.ite (upd_fyil rfl) ((State.inc_frame ..).mono rfl)

theorem State.weirRecord_frame (s : State) (w : Nat) (e : WeirEvent) : Frame 0x400008 s (State.weirRecord s w e) := by
  unfold State.weirRecord
  extract_lets +onlyGivenNames y1
  extract_lets +onlyGivenNames y2
  have hy2 : Frame 0x400008 s y2 := (State.setRowBit_frame ..).mono rfl
  extract_lets +onlyGivenNames y3
  have hy3 : Frame 0x400008 s y3 := Frame.ite ((State.setReg_frame ..).step rfl ((State.setReg_frame ..).step rfl
    ((State.setReg_frame ..).step rfl hy2))) ((State.inc_frame ..).step rfl hy2)
  extract_lets +onlyGivenNames y4
  have hy4 : Frame 0x400008 s y4 := (State.inc_frame ..).step rfl hy3
  extract_lets +onlyGivenNames y5
  have hy5 : Frame 0x400008 s y5 := Frame.ite ((State.setRowBit_frame ..).step rfl hy4) hy4
  exact Frame.ite ((State.fyilPush_frame ..).step rfl hy5) hy5

theorem State.weirEvent_frame (s : State) (w : Nat) (e : WeirEvent) : Frame 0x400008 s (State.weirEvent s w e) := by
  unfold State.weirEvent
  exact Frame.ite ((State.weirRecord_frame ..).mono rfl) (Frame.refl _ _)

theorem State.weirCycle_frame (s : State) (w : Nat) (es : List WeirEvent) : Frame 0x400008 s (State.weirCycle s w
    es) := by
  unfold State.weirCycle
  exact Frame.foldl _ _ _ (fun t1 a1 => (State.weirEvent_frame ..).mono rfl) (Frame.refl _ _)

theorem State.countDrop_frame (s : State) : Frame 0x8 s (State.countDrop s) := by
  unfold State.countDrop
  exact (State.inc_frame ..).mono rfl

theorem State.message_frame (s : State) (fn v : Nat) : Frame 0x80048 s (State.message s fn v).1 := by
  unfold State.message
  exact Frame.iteF Prod.fst (Frame.iteF Prod.fst ((State.emit_frame ..).step rfl (upd_pcie rfl))
    ((State.countDrop_frame ..).mono rfl)) (upd_pcie rfl)

theorem State.setErrs_frame (s : State) (pg : Nat) (bits : W32) : Frame 0x8 s (State.setErrs s pg bits) := by
  unfold State.setErrs
  extract_lets +onlyGivenNames y1
  have hy1 : Frame 0x8 s y1 := (State.setReg_frame ..).mono rfl
  split
  · exact Frame.ite ((State.setReg_frame ..).step rfl hy1) hy1
  · exact hy1

theorem State.raiseQuiet_frame (s : State) (pg : Nat) (p : Page) (bits : W32) (loc : W16) (cg : Option Nat)
    (injected : Bool) : Frame 0x400008 s (State.raiseQuiet s pg p bits loc cg injected) := by
  unfold State.raiseQuiet
  exact Frame.ite ((State.setErrs_frame ..).mono rfl) ((State.weirEvent_frame ..).step rfl ((State.setErrs_frame
    ..).mono rfl))

theorem State.vecEdge_frame (s : State) (v : Nat) (was : Bool) : Frame 0x480048 s (State.vecEdge s v was) := by
  unfold State.vecEdge
  refine Frame.ite ?_ ?_
  · extract_lets +onlyGivenNames y1
    have hy1 : Frame 0x480048 s y1.1 := (State.message_frame ..).mono rfl
    refine Frame.ite ?_ ?_
    · extract_lets +onlyGivenNames y2
      extract_lets +onlyGivenNames y3
      have hy3 : Frame 0x480048 s y3 := (State.raiseQuiet_frame ..).step rfl hy1
      exact Frame.ite ((State.message_frame ..).step rfl hy3) hy3
    · exact hy1
  · exact Frame.refl _ _

theorem State.withVecs_frame {F : Nat} (hF : Nat.land 0x480048 F = 0x480048) (s : State) (vs : List Nat) (f : State
    → State) (hf : ∀ t0, Frame F t0 (f t0)) : Frame F s (State.withVecs s vs f) := by
  unfold State.withVecs
  exact Frame.foldl _ _ _ (fun t1 a1 => (State.vecEdge_frame ..).mono (Frame.sub_trans rfl hF)) (hf ..)

theorem State.raiseAt_frame (s : State) (pg : Nat) (bits : W32) (loc : W16) (cg : Option Nat) (injected : Bool) :
    Frame 0x480048 s (State.raiseAt s pg bits loc cg injected) := by
  unfold State.raiseAt
  split
  · exact Frame.refl _ _
  · exact State.withVecs_frame rfl _ _ _ (fun t1 => (State.raiseQuiet_frame ..).mono rfl)

theorem State.raise_frame (s : State) (pg n : Nat) (cg : Option Nat) : Frame 0x480048 s (State.raise s pg n cg) := by
  unfold State.raise
  split
  · exact Frame.refl _ _
  · exact (State.raiseAt_frame ..).mono rfl

theorem State.irq_frame (s : State) (pg : Nat) (bits : W32) : Frame 0x480048 s (State.irq s pg bits) := by
  unfold State.irq
  split
  · exact Frame.refl _ _
  · exact State.withVecs_frame rfl _ _ _ (fun t1 => (State.orReg_frame ..).mono rfl)

theorem State.irqBit_frame (s : State) (pg n : Nat) : Frame 0x480048 s (State.irqBit s pg n) := by
  unfold State.irqBit
  exact (State.irq_frame ..).mono rfl

theorem State.sendVector_frame (s : State) (fn v : Nat) : Frame 0x480048 s (State.sendVector s fn v) := by
  unfold State.sendVector
  refine Frame.ite ?_ ?_
  · exact (State.raise_frame ..).mono rfl
  · extract_lets +onlyGivenNames y1
    have hy1 : Frame 0x480048 s y1.1 := (State.message_frame ..).mono rfl
    exact Frame.ite ((State.raise_frame ..).step rfl hy1) hy1

theorem State.hostWrite_frame (s : State) (fn addr : Nat) (data : Bytes) (poison record : Bool) : Frame 0x480048 s
    (State.hostWrite s fn addr data poison record) := by
  unfold State.hostWrite
  exact Frame.ite ((State.emit_frame ..).mono rfl) ((State.raise_frame ..).step rfl (Frame.ite ((State.inc_frame
    ..).mono rfl) ((State.countDrop_frame ..).mono rfl)))

theorem State.weirSettle_frame (s : State) (w : Nat) : Frame 0x8 s (State.weirSettle s w) := by
  unfold State.weirSettle
  exact Frame.ite ((State.setReg_frame ..).step rfl ((State.put_frame ..).mono rfl)) (Frame.refl _ _)

theorem State.countAcc_frame (s : State) (w off kind addr : Nat) : Frame 0x8 s (State.countAcc s w off kind addr) :=
    by
  unfold State.countAcc
  exact (State.setReg_frame ..).step rfl ((State.inc_frame ..).mono rfl)

theorem State.badAccess_frame (s : State) (addr : Nat) : Frame 0x8 s (State.badAccess s addr) := by
  unfold State.badAccess
  exact (State.countAcc_frame ..).mono rfl

theorem State.liveDrop_frame (s : State) (addr : Nat) : Frame 0x480048 s (State.liveDrop s addr) := by
  unfold State.liveDrop
  split
  · exact Frame.refl _ _
  · exact (State.raise_frame ..).step rfl ((State.countAcc_frame ..).mono rfl)

theorem State.ctrlReject_frame (s : State) (pg : Nat) : Frame 0x480048 s (State.ctrlReject s pg) := by
  unfold State.ctrlReject
  split
  · exact Frame.refl _ _
  · extract_lets +onlyGivenNames y1
    have hy1 : Frame 0x480048 s y1 := (State.badAccess_frame ..).mono rfl
    extract_lets +onlyGivenNames y2
    have hy2 : Frame 0x480048 s y2 := Frame.ite ((State.countAcc_frame ..).step rfl hy1) hy1
    exact (State.raise_frame ..).step rfl hy2

theorem State.darkReadAt_frame (s : State) (p : Page) (addr : Nat) : Frame 0x28 s (State.darkReadAt s p addr) := by
  unfold State.darkReadAt
  extract_lets +onlyGivenNames y1
  extract_lets +onlyGivenNames y2
  have hy2 : Frame 0x28 s y2 := (State.setRowBit_frame ..).step rfl ((State.countAcc_frame ..).mono rfl)
  exact Frame.trans hy2 (upd_readData rfl)

theorem State.darkWriteAt_frame (s : State) (p : Page) (addr : Nat) : Frame 0x8 s (State.darkWriteAt s p addr) := by
  unfold State.darkWriteAt
  exact (State.countAcc_frame ..).mono rfl

theorem State.access_frame {F : Nat} (hF : Nat.land 0x8 F = 0x8) (s : State) (addr : Nat) (k : State → State) (hk :
    ∀ t0, Frame F t0 (k t0)) : Frame F s (State.access s addr k) := by
  unfold State.access
  refine Frame.ite ?_ ?_
  · exact Frame.refl _ _
  · split
    · exact (State.badAccess_frame ..).mono (Frame.sub_trans rfl hF)
    · exact Frame.ite ((State.darkWriteAt_frame ..).mono (Frame.sub_trans rfl hF)) (hk ..)

theorem State.readAccess_frame {F : Nat} (hF : Nat.land 0x28 F = 0x28) (s : State) (addr : Nat) (k : State → State)
    (hk : ∀ t0, Frame F t0 (k t0)) : Frame F s (State.readAccess s addr k) := by
  unfold State.readAccess
  refine Frame.ite ?_ ?_
  · exact Frame.refl _ _
  · split
    · extract_lets +onlyGivenNames y1
      have hy1 : Frame F s y1 := (State.badAccess_frame ..).mono (Frame.sub_trans rfl hF)
      exact Frame.trans hy1 (upd_readData (Frame.bit_of hF rfl))
    · exact Frame.ite ((State.darkReadAt_frame ..).mono (Frame.sub_trans rfl hF)) (hk ..)

theorem State.dropRegs_frame (s : State) (p : Nat → Bool) : Frame 0xc00000018 s (State.dropRegs s p) := by
  unfold State.dropRegs
  exact upd_many3 rfl

theorem State.dropInstance_frame (s : State) (pg : Nat) (b : Block) (p : Nat → Bool) : Frame 0xc00000018 s
    (State.dropInstance s pg b p) := by
  unfold State.dropInstance
  exact (State.dropRegs_frame ..).mono rfl

theorem State.slotReset_frame (s : State) (k : Nat) : Frame 0xc00000018 s (State.slotReset s k) := by
  unfold State.slotReset
  split
  · exact Frame.refl _ _
  · split
    · exact Frame.refl _ _
    · exact (State.put_frame ..).step rfl ((State.dropInstance_frame ..).mono rfl)

theorem State.setTile_frame (s : State) (d t : Nat) (x : Tile) : Frame 0x20000 s (State.setTile s d t x) := by
  unfold State.setTile
  exact upd_tiles rfl

theorem State.scoped_frame {F : Nat} (hF : Nat.land 0x480048 F = 0x480048) (s : State) (addr : Nat) (v : W32) (k :
    W32 → State → State) (hk : ∀ x0 t0, Frame F t0 (k x0 t0)) : Frame F s (State.scoped s addr v k) := by
  unfold State.scoped
  split
  · exact Frame.refl _ _
  · extract_lets +onlyGivenNames y1
    extract_lets +onlyGivenNames y2
    exact Frame.ite (Frame.trans ((State.setReg_frame ..).mono (Frame.sub_trans rfl hF)) (hk ..))
      ((State.liveDrop_frame ..).mono (Frame.sub_trans rfl hF))

end Sys2Proof.Machine
end

