-- ==== Sys2Proof/Laws/Reg.lean ====
section
/-! SUPPORT. The laws of registers: what a write of a word, of a field, of a pair leaves in it and in every other word. -/

namespace Sys2Proof.Machine

open Sys2Proof

/-! ## Bit fields -/

theorem putFld_getLsbD {w : Nat} (x : BitVec w) (hi lo v n : Nat) (hn : n < w) :
    (putFld x hi lo v).getLsbD n = if lo ≤ n ∧ n < hi + 1 then v.testBit (n - lo) else x.getLsbD n := by
  unfold putFld fmask
  simp only [BitVec.getLsbD_or, BitVec.getLsbD_and, BitVec.getLsbD_not, BitVec.getLsbD_ofNat, Nat.testBit_shiftLeft,
    Nat.testBit_two_pow_sub_one, Nat.testBit_mod_two_pow]
  by_cases h1 : lo ≤ n
  · by_cases h2 : n < hi + 1
    · simp [hn, h1, h2, show n - lo < hi + 1 - lo by omega]
    · simp [hn, h1, h2, show ¬ n - lo < hi + 1 - lo by omega]
  · simp [hn, h1]

theorem bitsOf_testBit {w : Nat} (x : BitVec w) (hi lo n : Nat) :
    (bitsOf x hi lo).testBit n = (decide (n < hi + 1 - lo) && x.getLsbD (lo + n)) := by
  unfold bitsOf
  rw [Nat.testBit_mod_two_pow, Nat.testBit_shiftRight, BitVec.getLsbD]

/-- A field reads back what was put into it. -/
theorem bitsOf_putFld_self {w : Nat} (x : BitVec w) {hi lo v : Nat} (h : hi < w) :
    bitsOf (putFld x hi lo v) hi lo = v % 2 ^ (hi + 1 - lo) := by
  refine Nat.eq_of_testBit_eq fun n => ?_
  rw [bitsOf_testBit, Nat.testBit_mod_two_pow]
  by_cases hn : n < hi + 1 - lo
  · rw [putFld_getLsbD _ _ _ _ _ (by omega), if_pos (by omega), show lo + n - lo = n by omega]
  · simp [hn]

/-- A field outside the one written stays. -/
theorem bitsOf_putFld_ne {w : Nat} (x : BitVec w) {hi lo v hi' lo' : Nat} (h : hi' < w) (k : hi' < lo ∨ hi < lo') :
    bitsOf (putFld x hi lo v) hi' lo' = bitsOf x hi' lo' := by
  refine Nat.eq_of_testBit_eq fun n => ?_
  rw [bitsOf_testBit, bitsOf_testBit]
  by_cases hn : n < hi' + 1 - lo'
  · rw [putFld_getLsbD _ _ _ _ _ (by omega), if_neg (by omega)]
  · simp [hn]

/-! ## Words -/

@[simp] theorem reg_setReg_self (s : State) (k : Nat) (v : W32) : (s.setReg k v).reg k = v := tabGet_set_self ..

theorem reg_setReg_ne (s : State) {k j : Nat} (v : W32) (h : j ≠ k) : (s.setReg k v).reg j = s.reg j := tabGet_set_ne _ _ _ h

theorem reg_setReg (s : State) (k j : Nat) (v : W32) : (s.setReg k v).reg j = if j = k then v else s.reg j := tabGet_set ..

theorem reg_put_self (s : State) (k hi lo v : Nat) : (s.put k hi lo v).reg k = putFld (s.reg k) hi lo v := reg_setReg_self ..

theorem reg_put_ne (s : State) {k j : Nat} (hi lo v : Nat) (h : j ≠ k) : (s.put k hi lo v).reg j = s.reg j := reg_setReg_ne _ _ h

theorem reg_inc_ne (s : State) {k j : Nat} (hi lo n : Nat) (h : j ≠ k) : (s.inc k hi lo n).reg j = s.reg j := reg_put_ne _ _ _ _ h

theorem reg_orReg_self (s : State) (k : Nat) (m : W32) : (s.orReg k m).reg k = s.reg k ||| m := reg_setReg_self ..

theorem reg_orReg_ne (s : State) {k j : Nat} (m : W32) (h : j ≠ k) : (s.orReg k m).reg j = s.reg j := reg_setReg_ne _ _ h

theorem fld_put_self (s : State) (k lo v : Nat) {hi : Nat} (h : hi < 32) :
    (s.put k hi lo v).fld k hi lo = v % 2 ^ (hi + 1 - lo) := by
  rw [State.fld, reg_put_self, bitsOf_putFld_self _ h]

theorem fld_put_other (s : State) (k v : Nat) {hi lo hi' lo' : Nat} (h : hi' < 32) (c : hi' < lo ∨ hi < lo') :
    (s.put k hi lo v).fld k hi' lo' = s.fld k hi' lo' := by
  rw [State.fld, reg_put_self, bitsOf_putFld_ne _ h c]; rfl

theorem fld_put_ne (s : State) {k j : Nat} (hi lo v hi' lo' : Nat) (h : j ≠ k) :
    (s.put k hi lo v).fld j hi' lo' = s.fld j hi' lo' := by
  rw [State.fld, reg_put_ne _ _ _ _ h]; rfl

theorem fld_inc_self (s : State) (k lo n : Nat) {hi : Nat} (h : hi < 32) :
    (s.inc k hi lo n).fld k hi lo = satAdd (hi + 1 - lo) (s.fld k hi lo) n % 2 ^ (hi + 1 - lo) := fld_put_self _ _ _ _ h

end Sys2Proof.Machine
end

