-- ==== Sys2Proof/Laws/Event.lean ====
section
/-! SUPPORT. The laws of events: raising an error bit or an interrupt changes nothing but what an event can change. -/

namespace Sys2Proof.Machine

open Sys2Proof

theorem EventRegs.refl (s : State) : EventRegs s s := fun _ _ => rfl

theorem EventRegs.trans {s t u : State} (h : EventRegs s t) (k : EventRegs t u) : EventRegs s u :=
  fun j hj => (k j hj).trans (h j hj)

theorem EventRegs.ite {s a b : State} {c : Prop} [Decidable c] (ha : EventRegs s a) (hb : EventRegs s b) :
    EventRegs s (if c then a else b) := by split <;> assumption

theorem EventRegs.of_regs {s t : State} (h : t.regs = s.regs) : EventRegs s t := fun k _ => by rw [State.reg, h]; rfl

theorem EventRegs.setReg {s t : State} {k : Nat} (v : W32) (h : EventRegs s t) (e : eventReg k = true) : EventRegs s (t.setReg k v) :=
  fun j hj => (reg_setReg_ne _ _ (fun q => by rw [q, e] at hj; cases hj)).trans (h j hj)

theorem EventRegs.put {s t : State} {k : Nat} (hi lo v : Nat) (h : EventRegs s t) (e : eventReg k = true) :
    EventRegs s (t.put k hi lo v) := EventRegs.setReg _ h e

theorem EventRegs.inc {s t : State} {k : Nat} (hi lo v : Nat) (h : EventRegs s t) (e : eventReg k = true) :
    EventRegs s (t.inc k hi lo v) := EventRegs.setReg _ h e

theorem EventRegs.fyilPush {s t : State} (kind w body : Nat) (h : EventRegs s t) : EventRegs s (t.fyilPush kind w body) := by
  unfold State.fyilPush
  exact EventRegs.ite (h.trans (.of_regs rfl)) (h.inc _ _ _ (by decide))

/-! ## The addresses of the Weirs and of the pages -/

theorem eventReg_weir (w : Nat) {x : Nat} (h : x < 0x1000) : eventReg (pgWEIR w + x) = true := by
  have e : pgWEIR w % 0x1000 = 0 ∧ pgWEIR w + 0x1000 ≤ barSize ∧ ∃ v < 5, pgWEIR v = pgWEIR w := by
    by_cases k : w < 4
    · rcases (by omega : w = 0 ∨ w = 1 ∨ w = 2 ∨ w = 3) with rfl | rfl | rfl | rfl <;>
        exact ⟨by decide, by decide, _, by decide, rfl⟩
    · have q : pgWEIR w = pgWEIR 4 := by rw [pgWEIR, pgWEIR, if_neg k, if_neg (by decide)]
      rw [q]; exact ⟨by decide, by decide, 4, by decide, rfl⟩
  obtain ⟨a, b, v, hv, hw⟩ := e
  have m : (List.range 5).any (fun w' => decide (pgWEIR w + x - (pgWEIR w + x) % 0x1000 = pgWEIR w')) = true :=
    List.any_eq_true.2 ⟨v, List.mem_range.2 hv, decide_eq_true (by rw [hw]; omega)⟩
  simp only [eventReg, m, Bool.or_true, Bool.true_or, Bool.and_true, decide_eq_true_eq]
  omega

theorem eventReg_page {pg x : Nat} (h : pg % 0x1000 = 0) (k : pg + 0x1000 ≤ barSize)
    (e : x = 0x010 ∨ x = 0x018 ∨ x = 0x02C) : eventReg (pg + x) = true := by
  have m : (pg + x) % 0x1000 = x := by omega
  have l : pg + x < barSize := by omega
  simp only [eventReg, m, l, decide_true, Bool.true_and]
  rcases e with rfl | rfl | rfl <;> simp

theorem pageOf_bound {a : Nat} {p : Page} (h : pageOf a = some p) : a < 0x1400000 := by
  unfold pageOf at h
  split at h
  · omega
  · split at h
    · omega
    · cases h

theorem ite_weirBit {c : Prop} [Decidable c] {x y : Option Page} (hx : c → ∀ p, x = some p → p.weirBit < 64)
    (hy : ¬c → ∀ p, y = some p → p.weirBit < 64) : ∀ p, (if c then x else y) = some p → p.weirBit < 64 := by
  by_cases k : c
  · rw [if_pos k]; exact hx k
  · rw [if_neg k]; exact hy k

theorem some_weirBit {q : Page} (h : q.weirBit < 64) : ∀ p, some q = some p → p.weirBit < 64 := by
  intro p e; cases e; exact h

theorem none_weirBit : ∀ p, (none : Option Page) = some p → p.weirBit < 64 := fun _ e => nomatch e

theorem devicePage_weirBit (i : Nat) : ∀ p, devicePage i = some p → p.weirBit < 64 := by
  unfold devicePage
  repeat' refine ite_weirBit (fun _ => ?_) (fun _ => ?_)
  all_goals first | exact none_weirBit | (refine some_weirBit ?_; simp only [Page.weirBit]; (try split) <;> omega)

theorem quadPage_weirBit (q i : Nat) : ∀ p, quadPage q i = some p → p.weirBit < 64 := by
  unfold quadPage
  repeat' refine ite_weirBit (fun _ => ?_) (fun _ => ?_)
  all_goals first | exact none_weirBit | (refine some_weirBit ?_; simp only [Page.weirBit]; (try split) <;> omega)

theorem pageOf_weirBit {a : Nat} {p : Page} (h : pageOf a = some p) : p.weirBit < 64 := by
  unfold pageOf at h
  split at h
  · exact devicePage_weirBit _ _ h
  · split at h
    · exact quadPage_weirBit _ _ _ h
    · cases h

/-! ## Events -/

theorem weirRecord_regs (s : State) (w : Nat) (e : WeirEvent) (hb : e.bit < 64) (hc : e.cls < 16) :
    EventRegs s (s.weirRecord w e) := by
  unfold State.weirRecord
  have r : ∀ {t : State} (x n : Nat) (b : Bool), EventRegs s t → x < 0x100 → n < 64 → EventRegs s (t.setRowBit (pgWEIR w + x) n b) := by
    intro t x n b ht hx hn
    have := ht.put (n % 32) (n % 32) (b2n b) (eventReg_weir w (x := x + 4 * (n / 32)) (by omega))
    rwa [← Nat.add_assoc] at this
  have h1 := r 0x040 e.bit true (EventRegs.refl s) (by decide) hb
  have h2 : EventRegs s (if s.fld (pgWEIR w + 0x048) 31 31 = 0 then
      (((s.setRowBit (pgWEIR w + 0x040) e.bit true).setReg (pgWEIR w + 0x048) e.first).setReg (pgWEIR w + 0x04C)
        e.firstLoc).setReg (pgWEIR w + 0x050) (BitVec.ofNat 32 s.rawNs32)
      else (s.setRowBit (pgWEIR w + 0x040) e.bit true).inc (pgWEIR w + 0x054) 15 0 1) :=
    EventRegs.ite (((h1.setReg _ (eventReg_weir w (by decide))).setReg _ (eventReg_weir w (by decide))).setReg _
      (eventReg_weir w (by decide))) (h1.inc _ _ _ (eventReg_weir w (by decide)))
  have h3 := h2.inc (k := pgWEIR w + 0x05C + 4 * e.cls) 31 0 1 (by rw [Nat.add_assoc]; exact eventReg_weir w (by omega))
  extract_lets pg s1 s2 s3 s4
  have h3 : EventRegs s s3 := h3
  have h4 : EventRegs s s4 := by
    refine EventRegs.ite ?_ h3
    by_cases c : e.cls - 1 < 64
    · exact r 0x02C _ true h3 (by decide) c
    · omega
  exact EventRegs.ite (h4.fyilPush _ _ _) h4

theorem weirEvent_regs (s : State) (w : Nat) (e : WeirEvent) (hb : e.bit < 64) (hc : e.cls < 16) :
    EventRegs s (s.weirEvent w e) := EventRegs.ite (weirRecord_regs s w e hb hc) (EventRegs.refl s)

theorem countDrop_regs (s : State) : EventRegs s s.countDrop := (EventRegs.refl s).inc _ _ _ (by decide)

theorem message_regs (s : State) (fn v : Nat) : EventRegs s (s.message fn v).1 := by
  unfold State.message
  split
  · split
    · exact EventRegs.of_regs rfl
    · exact countDrop_regs s
  · exact EventRegs.of_regs rfl

theorem errClass_le (b : Block) (n : Nat) : errClass b n < 16 := by
  unfold errClass
  split
  · decide
  · cases b <;> dsimp only <;> first | decide | (split <;> decide)

theorem highestClass_le (b : Block) (x : W32) : highestClass b x < 16 := by
  unfold highestClass
  have : ∀ (l : List Nat) (c : Nat), c < 16 → l.foldl (fun c n => max c (errClass b n)) c < 16 := by
    intro l
    induction l with
    | nil => exact fun _ h => h
    | cons n l ih => exact fun c h => ih _ (Nat.max_lt.2 ⟨h, errClass_le b n⟩)
  exact this _ 0 (by decide)

theorem raiseQuiet_regs (s : State) {pg : Nat} (p : Page) (bits : W32) (loc : W16) (cg : Option Nat) (inj : Bool)
    (h : pg % 0x1000 = 0) (k : pg + 0x1000 ≤ barSize) (hb : p.weirBit < 64) :
    EventRegs s (s.raiseQuiet pg p bits loc cg inj) := by
  have e : ∀ {x}, x = 0x010 ∨ x = 0x018 ∨ x = 0x02C → eventReg (pg + x) = true := fun hx => eventReg_page h k hx
  have h1 : EventRegs s (s.setErrs pg bits) := by
    have h0 := (EventRegs.refl s).setReg (s.reg (pg + 0x010) ||| bits) (e (.inl rfl))
    unfold State.setErrs
    split
    · exact .ite (h0.setReg _ (e (.inr (.inl rfl)))) h0
    · exact h0
  exact .ite h1 (h1.trans (weirEvent_regs _ _ _ hb (highestClass_le _ _)))

theorem vecEdge_regs (s : State) (v : Nat) (was : Bool) : EventRegs s (s.vecEdge v was) := by
  have h : EventRegs s (s.message pf0 v).1 := message_regs s pf0 v
  have h2 := h.trans (raiseQuiet_regs (s.message pf0 v).1 (pg := pgPCIE) ⟨.pcie, 0, 0, 4⟩ 4 0 none false (by decide) (by decide) (by decide))
  exact EventRegs.ite (EventRegs.ite (EventRegs.ite (h2.trans (message_regs _ pf0 1)) h2) h) (EventRegs.refl s)

theorem withVecs_regs (s : State) (vs : List Nat) (f : State → State) (h : EventRegs s (f s)) : EventRegs s (s.withVecs vs f) := by
  unfold State.withVecs
  generalize f s = t at h ⊢
  induction vs generalizing t with
  | nil => exact h
  | cons v vs ih => exact ih _ (h.trans (vecEdge_regs t v _))

theorem raiseAt_regs (s : State) {pg : Nat} (bits : W32) (loc : W16) (cg : Option Nat) (inj : Bool) (h : pg % 0x1000 = 0) :
    EventRegs s (s.raiseAt pg bits loc cg inj) := by
  unfold State.raiseAt
  split
  · exact EventRegs.refl s
  · rename_i p e
    have b := pageOf_bound e
    exact withVecs_regs _ _ _ (raiseQuiet_regs _ _ _ _ _ _ h (by unfold barSize; omega) (pageOf_weirBit e))

theorem raise_regs (s : State) {pg : Nat} (n : Nat) (cg : Option Nat) (h : pg % 0x1000 = 0) : EventRegs s (s.raise pg n cg) := by
  unfold State.raise
  split
  · exact EventRegs.refl s
  · exact raiseAt_regs _ _ _ _ _ h

theorem irq_regs (s : State) {pg : Nat} (bits : W32) (h : pg % 0x1000 = 0) : EventRegs s (s.irq pg bits) := by
  unfold State.irq
  split
  · exact EventRegs.refl s
  · rename_i p e
    have b := pageOf_bound e
    exact withVecs_regs _ _ _ ((EventRegs.refl s).setReg _ (eventReg_page h (by unfold barSize; omega) (by decide)))

/-! ## Error bits and interrupts, once -/

/-- Raising an error bit changes nothing but what an event can change. -/
theorem raise_event (s : State) {pg : Nat} (n : Nat) (cg : Option Nat) (h : pg % 0x1000 = 0) : EventOnly s (s.raise pg n cg) :=
  ⟨(State.raise_frame ..).parts (by decide), raise_regs s n cg h⟩

theorem raiseAt_event (s : State) {pg : Nat} (bits : W32) (loc : W16) (cg : Option Nat) (inj : Bool) (h : pg % 0x1000 = 0) :
    EventOnly s (s.raiseAt pg bits loc cg inj) := ⟨(State.raiseAt_frame ..).parts (by decide), raiseAt_regs s bits loc cg inj h⟩

/-- Setting interrupt bits changes nothing but what an event can change. -/
theorem irq_event (s : State) {pg : Nat} (bits : W32) (h : pg % 0x1000 = 0) : EventOnly s (s.irq pg bits) :=
  ⟨(State.irq_frame ..).parts (by decide), irq_regs s bits h⟩

theorem irqBit_event (s : State) {pg : Nat} (n : Nat) (h : pg % 0x1000 = 0) : EventOnly s (s.irqBit pg n) := irq_event s _ h

theorem OnlyParts.refl (ps : List StatePart) (s : State) : OnlyParts ps s s := fun p _ => Same.refl' p s

theorem OnlyParts.trans {ps : List StatePart} {s t u : State} (h : OnlyParts ps s t) (k : OnlyParts ps t u) : OnlyParts ps s u :=
  fun p hp => (h p hp).trans (k p hp)

theorem EventOnly.refl (s : State) : EventOnly s s := ⟨OnlyParts.refl _ s, EventRegs.refl s⟩

theorem EventOnly.trans {s t u : State} (h : EventOnly s t) (k : EventOnly t u) : EventOnly s u := ⟨h.1.trans k.1, h.2.trans k.2⟩

end Sys2Proof.Machine
end

