-- ==== Sys2Proof/Laws/FrameMem.lean ====
section
/-! SUPPORT. Which parts of the state the operations and commands of the memories can change: one lemma per definition. -/

namespace Sys2Proof.Machine

open Sys2Proof

theorem State.logCe_frame (s : State) (pg space addr : Nat) (loc : W16) (syn : Nat) : Frame 0x480048 s (State.logCe
    s pg space addr loc syn) := by
  unfold State.logCe
  extract_lets +onlyGivenNames y1
  have hy1 : Frame 0x480048 s y1 := (State.inc_frame ..).mono rfl
  extract_lets +onlyGivenNames y2
  extract_lets +onlyGivenNames y3
  extract_lets +onlyGivenNames y4
  split
  · exact (State.inc_frame ..).step rfl hy1
  · split
    · exact (State.inc_frame ..).step rfl ((State.setReg_frame ..).step rfl ((State.setReg_frame ..).step rfl
        ((State.setReg_frame ..).step rfl hy1)))
    · extract_lets +onlyGivenNames y5
      have hy5 : Frame 0x480048 s y5 := (State.inc_frame ..).step rfl hy1
      exact Frame.ite ((State.raise_frame ..).step rfl hy5) hy5

theorem State.captureUe_frame (s : State) (pg space addr : Nat) (loc : W16) (syn : Nat) : Frame 0x8 s
    (State.captureUe s pg space addr loc syn) := by
  unfold State.captureUe
  extract_lets +onlyGivenNames y1
  have hy1 : Frame 0x8 s y1 := (State.inc_frame ..).mono rfl
  exact Frame.ite ((State.setReg_frame ..).step rfl ((State.setReg_frame ..).step rfl ((State.setReg_frame ..).step
    rfl hy1))) hy1

theorem State.storeWord_frame (s : State) (k : Nat) (x : W64) (syn : W8) : Frame 0x40000 s (State.storeWord s k x
    syn) := by
  unfold State.storeWord
  exact upd_mem rfl fun h => memWf_iff.2 ⟨putBytes_wf _ _ (memWf_iff.1 h).1, (memWf_iff.1 h).2⟩

theorem State.seeCe_frame (s : State) (k : Nat) : Frame 0x480048 s (State.seeCe s k) := by
  unfold State.seeCe
  extract_lets +onlyGivenNames y1
  exact (State.logCe_frame ..).step rfl ((State.raiseAt_frame ..).mono rfl)

theorem State.seeUe_frame (s : State) (k n : Nat) : Frame 0x480048 s (State.seeUe s k n) := by
  unfold State.seeUe
  extract_lets +onlyGivenNames y1
  exact (State.captureUe_frame ..).step rfl ((State.raiseAt_frame ..).mono rfl)

theorem State.readStored_frame (s : State) (k : Nat) : Frame 0x4c0048 s (State.readStored s k).1 := by
  unfold State.readStored
  refine Frame.iteF Prod.fst ?_ ?_
  · exact Frame.refl _ _
  · split
    · exact Frame.refl _ _
    · extract_lets +onlyGivenNames y1
      have hy1 : Frame 0x4c0048 s y1 := (State.seeCe_frame ..).mono rfl
      exact Frame.trans hy1 (upd_mem rfl id)
    · exact (State.seeUe_frame ..).mono rfl

theorem State.setMerge_frame (s : State) (u : Nat) (l : List MergeLine) : Frame 0x40000 s (State.setMerge s u l) := by
  unfold State.setMerge
  exact upd_mem rfl id

theorem State.drainWord_frame (s : State) (l : MergeLine) (i : Nat) : Frame 0x4c0048 s (State.drainWord s l i) := by
  unfold State.drainWord
  extract_lets +onlyGivenNames y1
  extract_lets +onlyGivenNames y2
  extract_lets +onlyGivenNames y3
  extract_lets +onlyGivenNames y4
  refine Frame.ite ?_ ?_
  · exact Frame.refl _ _
  · refine Frame.ite ?_ ?_
    · exact (State.storeWord_frame ..).mono rfl
    · refine Frame.ite ?_ ?_
      · exact (State.storeWord_frame ..).mono rfl
      · split
        · exact (State.storeWord_frame ..).mono rfl
        · exact (State.storeWord_frame ..).step rfl ((State.seeCe_frame ..).mono rfl)
        · exact (State.storeWord_frame ..).step rfl (Frame.ite (Frame.refl _ _) ((State.seeUe_frame ..).mono rfl))

theorem State.drainLine_frame (s : State) (u : Nat) (l : MergeLine) : Frame 0x4c0048 s (State.drainLine s u l) := by
  unfold State.drainLine
  exact Frame.foldl _ _ _ (fun t1 a1 => (State.drainWord_frame ..).mono rfl) ((State.setMerge_frame ..).mono rfl)

theorem State.drainUnit_frame (s : State) (u : Nat) : Frame 0x4c0048 s (State.drainUnit s u) := by
  unfold State.drainUnit
  exact Frame.foldl _ _ _ (fun t1 a1 => (State.drainLine_frame ..).mono rfl) (Frame.refl _ _)

theorem State.dropBuffered_frame (s : State) (u k : Nat) : Frame 0x40000 s (State.dropBuffered s u k) := by
  unfold State.dropBuffered
  extract_lets +onlyGivenNames y1
  extract_lets +onlyGivenNames y2
  extract_lets +onlyGivenNames y3
  exact (State.setMerge_frame ..).mono rfl

theorem State.writeChip_frame (s : State) (k : Nat) (x : W64) (mask poison : Nat) : Frame 0x4c0048 s
    (State.writeChip s k x mask poison) := by
  unfold State.writeChip
  extract_lets +onlyGivenNames y1
  refine Frame.ite ?_ ?_
  · exact Frame.refl _ _
  · refine Frame.ite ?_ ?_
    · exact (State.storeWord_frame ..).step rfl ((State.dropBuffered_frame ..).mono rfl)
    · extract_lets +onlyGivenNames y2
      extract_lets +onlyGivenNames y3
      clear_value y3
      split
      · extract_lets +onlyGivenNames y4
        extract_lets +onlyGivenNames y5
        have hy5 : Frame 0x4c0048 s y5 := (State.setMerge_frame ..).mono rfl
        exact Frame.ite ((State.drainLine_frame ..).step rfl hy5) hy5
      · extract_lets +onlyGivenNames y6
        have hy6 : Frame 0x4c0048 s y6 := by
          refine Frame.ite ?_ ?_
          · split
            · exact (State.drainLine_frame ..).mono rfl
            · exact Frame.refl _ _
          · exact Frame.refl _ _
        exact (State.setMerge_frame ..).step rfl hy6

theorem State.readChip_frame (s : State) (k : Nat) : Frame 0x4c0048 s (State.readChip s k).1 := by
  unfold State.readChip
  extract_lets +onlyGivenNames y1
  split
  · exact (State.readStored_frame ..).mono rfl
  · extract_lets +onlyGivenNames y2
    extract_lets +onlyGivenNames y3
    extract_lets +onlyGivenNames y4
    refine Frame.iteF Prod.fst ?_ ?_
    · exact Frame.refl _ _
    · extract_lets +onlyGivenNames y5
      have hy5 : Frame 0x4c0048 s y5.1 := (State.readStored_frame ..).mono rfl
      exact hy5

theorem State.clearRange_frame (s : State) (u lo len : Nat) : Frame 0x40000 s (State.clearRange s u lo len) := by
  unfold State.clearRange
  exact upd_mem rfl id

theorem State.clearBank_frame (s : State) (q b : Nat) : Frame 0x40000 s (State.clearBank s q b) := by
  unfold State.clearBank
  exact (State.clearRange_frame ..).mono rfl

theorem State.clearCluster_frame (s : State) (d : Nat) : Frame 0x40000 s (State.clearCluster s d) := by
  unfold State.clearCluster
  exact (State.clearRange_frame ..).mono rfl

theorem State.clearTile_frame (s : State) (d t : Nat) : Frame 0x40000 s (State.clearTile s d t) := by
  unfold State.clearTile
  exact (State.clearRange_frame ..).mono rfl

theorem State.markUnit_frame (s : State) (k : Nat) : Frame 0x40000 s (State.markUnit s k) := by
  unfold State.markUnit
  exact upd_mem rfl id

theorem State.readHbm_frame (s : State) (k : Nat) (sev : Nat) : Frame 0x4c0048 s (State.readHbm s k sev).1 := by
  unfold State.readHbm
  extract_lets +onlyGivenNames y1
  extract_lets +onlyGivenNames y2
  refine Frame.iteF Prod.fst ?_ (Frame.iteF Prod.fst ?_ (Frame.iteF Prod.fst ?_ (Frame.refl _ _)))
  · exact ((State.markUnit_frame ..).mono rfl).trans (((State.raise_frame (s.markUnit k) y1 3 none).mono rfl).trans
      ((State.captureUe_frame ((s.markUnit k).raise y1 3) y1 0 k 0 2).mono rfl))
  · exact ((State.raise_frame s y1 3 none).mono rfl).trans ((State.captureUe_frame (s.raise y1 3) y1 0 k 0 2).mono
      rfl)
  · exact ((State.raise_frame s y1 2 none).mono rfl).trans ((State.logCe_frame (s.raise y1 2) y1 0 k 0 1).mono rfl)

theorem State.partialRead_frame (s : State) (k sev : Nat) : Frame 0x4c0048 s (State.partialRead s k sev).1 := by
  have d : State.partialRead s k sev = State.partialRead s k sev := rfl
  conv at d => rhs; unfold State.partialRead
  rw [d]
  generalize ((List.range 8).any fun i => s.hbmBad (k - k % 64 + 8 * i)) = c
  refine Frame.iteF Prod.fst ?_ (Frame.iteF Prod.fst ?_ (Frame.iteF Prod.fst ?_ (Frame.refl _ _)))
  · exact ((State.markUnit_frame ..).mono rfl).trans (((State.raise_frame (s.markUnit k) _ 4 none).mono rfl).trans
      ((State.captureUe_frame ((s.markUnit k).raise _ 4) _ 0 _ 0 2).mono rfl))
  · exact ((State.raise_frame s _ 4 none).mono rfl).trans ((State.captureUe_frame (s.raise _ 4) _ 0 _ 0 2).mono rfl)
  · exact ((State.raise_frame s _ 2 none).mono rfl).trans ((State.logCe_frame (s.raise _ 2) _ 0 _ 0 1).mono rfl)

theorem State.writeHbm_frame (s : State) (k : Nat) (x : W64) (mask poison : Nat) (whole : Bool) : Frame 0x4c0048 s
    (State.writeHbm s k x mask poison whole).1 := by
  unfold State.writeHbm
  extract_lets +onlyGivenNames y1
  extract_lets +onlyGivenNames y2
  refine Frame.iteF Prod.fst ?_ ?_
  · exact ((State.raise_frame s y2 4 none).mono rfl).trans ((State.captureUe_frame (s.raise y2 4) y2 0 y1 0 2).mono
      rfl)
  · extract_lets +onlyGivenNames y3
    extract_lets +onlyGivenNames _ y4
    clear_value y4 y3 y1
    refine upd_mem rfl fun h => ?_
    rw [memWf_iff] at h ⊢
    refine ⟨h.1, ?_⟩
    dsimp only
    exact putHbm_wf k (bytesLE 8 y3.toNat) h.2

theorem State.wakeDomain_frame {F : Nat} (hF : Nat.land 0xc00000118 F = 0xc00000118) (s : State) (k : Nat) (clear :
    State → State) (hclear : ∀ t0, Frame F t0 (clear t0)) : Frame F s (State.wakeDomain s k clear) := by
  unfold State.wakeDomain
  refine Frame.ite ?_ ?_
  · extract_lets +onlyGivenNames y1
    have hy1 : Frame F s y1 := Frame.ite (Frame.trans ((State.slotReset_frame ..).mono (Frame.sub_trans rfl hF))
      (hclear ..)) (Frame.refl _ _)
    exact (State.setSlot_frame ..).step (Frame.sub_trans rfl hF) hy1
  · exact Frame.refl _ _

theorem State.devCheck_frame (s : State) (who : Req) (a : Nat) : Frame 0xc004c0158 s (State.devCheck s who a).1 := by
  unfold State.devCheck
  split
  · exact Frame.refl _ _
  · refine Frame.iteF Prod.fst (Frame.refl _ _) (Frame.iteF Prod.fst ?_ ?_)
    · exact (State.raise_frame ..).mono rfl
    · extract_lets +onlyGivenNames y1
      extract_lets +onlyGivenNames y2
      have hy2 : Frame 0xc004c0158 s y2 := State.wakeDomain_frame rfl _ _ _ (fun t3 => (State.clearBank_frame
        ..).mono rfl)
      split
      · exact Frame.iteF Prod.fst ((State.raise_frame ..).mono rfl) hy2
      · exact hy2
  · exact Frame.iteF Prod.fst (Frame.refl _ _)
      (State.wakeDomain_frame rfl _ _ _ (fun t => (State.clearCluster_frame t _).mono rfl))
  · exact Frame.iteF Prod.fst (Frame.refl _ _) (State.wakeDomain_frame rfl _ _ _ (fun t => Frame.refl _ t))

theorem State.readWord_frame (s : State) (k : Nat) : Frame 0x4c0048 s (State.readWord s k).1 := by
  unfold State.readWord
  exact Frame.iteF Prod.fst ((State.readHbm_frame ..).mono rfl) ((State.readChip_frame ..).mono rfl)

theorem State.readSpan_frame (s : State) (who : Req) (a e : Nat) (x0 : Nat) (x1 : Nat) : Frame 0xc004c0158 s
    (State.readSpan s who a e x0 x1).1 := by
  induction x0 generalizing s x1 with
  | zero => exact Frame.refl _ _
  | succ n ih =>
    rw [State.readSpan]
    exact Frame.iteF Prod.fst (Frame.mono (State.devCheck_frame ..) rfl) (((State.devCheck_frame ..).mono rfl).trans
      (((State.readWord_frame ..).mono rfl).trans (ih ..)))

theorem State.devRead_frame (s : State) (who : Req) (a n : Nat) : Frame 0xc004c0158 s (State.devRead s who a n).1 :=
    by
  unfold State.devRead
  exact Frame.iteF Prod.fst (Frame.refl _ _) ((State.readSpan_frame ..).mono rfl)

theorem State.writeSpan_frame (s : State) (who : Req) (a : Nat) (bs : List PByte) (x0 : Nat) (x1 : Nat) : Frame
    0xc004c0158 s (State.writeSpan s who a bs x0 x1).1 := by
  induction x0 generalizing s x1 with
  | zero => exact Frame.refl _ _
  | succ n ih =>
    rw [State.writeSpan]
    refine Frame.iteF Prod.fst ?_ ?_
    · exact Frame.mono (State.devCheck_frame ..) rfl
    · extract_lets w r
      have hr : Frame 0xc004c0158 s r.1 := Frame.iteF Prod.fst (((State.devCheck_frame ..).mono rfl).trans
        ((State.writeHbm_frame ..).mono rfl)) (((State.devCheck_frame ..).mono rfl).trans ((State.writeChip_frame
        ..).mono rfl))
      refine Frame.iteF Prod.fst hr ?_
      exact hr.trans (ih ..)

theorem State.devWrite_frame (s : State) (who : Req) (a : Nat) (bs : List PByte) : Frame 0xc004c0158 s
    (State.devWrite s who a bs).1 := by
  unfold State.devWrite
  exact Frame.iteF Prod.fst (Frame.refl _ _) ((State.writeSpan_frame ..).mono rfl)

theorem State.chipSpan_frame (s : State) (a : Nat) (bs : List PByte) (x0 : Nat) (x1 : Nat) : Frame 0x4c0048 s
    (State.chipSpan s a bs x0 x1) := by
  induction x0 generalizing s x1 with
  | zero => exact Frame.refl _ _
  | succ n ih =>
    rw [State.chipSpan]
    exact ((State.writeChip_frame ..).mono rfl).trans (ih ..)

theorem State.chipWrite_frame (s : State) (a : Nat) (bs : List PByte) : Frame 0x4c0048 s (State.chipWrite s a bs) :=
    by
  unfold State.chipWrite
  exact Frame.ite (Frame.refl _ _) ((State.chipSpan_frame ..).mono rfl)

theorem State.readElem_frame (s : State) (d t x : Nat) : Frame 0x4c0048 s (State.readElem s d t x).1 := by
  unfold State.readElem
  extract_lets +onlyGivenNames y1
  have hy1 : Frame 0x4c0048 s y1.1 := (State.readChip_frame ..).mono rfl
  exact hy1

theorem State.writeElem_frame (s : State) (d t x n : Nat) (v : W32) (poison : Bool) : Frame 0x4c0048 s
    (State.writeElem s d t x n v poison) := by
  unfold State.writeElem
  extract_lets +onlyGivenNames y1
  exact (State.writeChip_frame ..).mono rfl

theorem State.readTileWords_frame (s : State) (d t : Nat) (x0 : List Nat) : Frame 0x4c0048 s (State.readTileWords s
    d t x0).1 := by
  induction x0 generalizing s with
  | nil => exact Frame.refl _ _
  | cons k ks ih =>
    rw [State.readTileWords]
    exact ((State.readChip_frame ..).mono rfl).trans (ih ..)

theorem State.readElems_frame (s : State) (d t : Nat) (xs : List Nat) : Frame 0x4c0048 s (State.readElems s d t
    xs).1 := by
  unfold State.readElems
  extract_lets +onlyGivenNames y1
  have hy1 : Frame 0x4c0048 s y1.1 := (State.readTileWords_frame ..).mono rfl
  extract_lets +onlyGivenNames y2
  exact hy1

theorem State.writeElems_frame (s : State) (d t : Nat) (x0 : List (Nat × W32 × Bool)) : Frame 0x4c0048 s
    (State.writeElems s d t x0) := by
  induction s, x0 using State.writeElems.induct d t with
  | case1 s => exact Frame.refl _ _
  | case2 s e => exact (State.writeElem_frame ..).mono rfl
  | case3 s e f es h ih =>
    rw [State.writeElems, if_pos h]
    exact ((State.writeChip_frame ..).mono rfl).trans ih
  | case4 s e f es h ih =>
    rw [State.writeElems, if_neg h]
    exact ((State.writeElem_frame ..).mono rfl).trans ih

theorem State.spaceCheck_frame (s : State) (sp : MemSpace) (who : Requester) (a : Nat) : Frame 0xc004c0158 s
    (State.spaceCheck s sp who a).1 := by
  unfold State.spaceCheck
  split
  · exact (State.devCheck_frame ..).mono rfl
  · exact Frame.refl _ _
  · exact Frame.refl _ _

theorem State.upset_frame (s : State) (k : Nat) (up : Upset) : Frame 0x4c0048 s (State.upset s k up) := by
  unfold State.upset
  extract_lets +onlyGivenNames y1
  extract_lets +onlyGivenNames _ y2
  have hy2 : Frame 0x4c0048 s y2 := Frame.ite (upd_mem rfl id) (Frame.refl _ _)
  exact Frame.ite ((State.raiseAt_frame ..).step rfl hy2) hy2

theorem State.parityRetries_frame (s : State) (n : Nat) (p ca : Parity) : Frame 0x480048 s (State.parityRetries s n
    p ca).1 := by
  unfold State.parityRetries
  extract_lets +onlyGivenNames y1
  extract_lets +onlyGivenNames y2
  have hy2 : Frame 0x480048 s y2 := Frame.ite (Frame.refl _ _) ((State.raise_frame ..).step rfl ((State.inc_frame
    ..).step rfl ((State.inc_frame ..).mono rfl)))
  exact Frame.iteF Prod.fst ((State.raise_frame ..).step rfl hy2) hy2

theorem State.memAnswer_frame (s : State) (x : W64) (bad err : Bool) : Frame 0x3800000 s (State.memAnswer s x bad
    err) := by
  unfold State.memAnswer
  exact upd_memData_memPoison_memErr rfl rfl rfl

theorem execMemoryRead_frame (sp : MemSpace) (a : W64) (who : Requester) (up : Upset) (s : State) : ∃ nx,
    execMemoryRead sp a who up s = .next nx ∧ Frame 0xc03cc0158 s nx := by
  unfold execMemoryRead
  refine ⟨_, rfl, ?_⟩
  extract_lets +onlyGivenNames y1
  have hy1 : Frame 0xc03cc0158 s y1.1 := (State.spaceCheck_frame ..).mono rfl
  split
  · refine Frame.ite ?_ ?_
    · extract_lets +onlyGivenNames y2
      have hy2 : Frame 0xc03cc0158 s y2.1 := (State.parityRetries_frame ..).step rfl hy1
      refine Frame.ite ?_ ?_
      · extract_lets +onlyGivenNames y3
        have hy3 : Frame 0xc03cc0158 s y3.1 := (State.readHbm_frame ..).step rfl hy2
        exact (State.memAnswer_frame ..).step rfl hy3
      · exact (State.memAnswer_frame ..).step rfl hy2
    · extract_lets +onlyGivenNames y4
      have hy4 : Frame 0xc03cc0158 s y4.1 := (State.readChip_frame ..).step rfl ((State.upset_frame ..).step rfl hy1)
      exact (State.memAnswer_frame ..).step rfl hy4
  · exact (State.memAnswer_frame ..).step rfl hy1

theorem State.writeLine_frame (s : State) (k : Nat) (data : W512) (be : W64) (poison : W8) : Frame 0x4c0048 s
    (State.writeLine s k data be poison).1 := by
  unfold State.writeLine
  refine Frame.foldlF Prod.fst _ _ _ (fun t1 a1 => ?_) ?_
  · refine Frame.iteF Prod.fst ?_ ?_
    · exact Frame.refl _ _
    · extract_lets +onlyGivenNames y2
      exact Frame.iteF Prod.fst ((State.writeHbm_frame ..).mono rfl) ((State.writeChip_frame ..).mono rfl)
  · exact Frame.refl _ _

theorem State.hbmBefore_frame (s : State) (k : Nat) (be : W64) (par ca : Parity) (rd : Fin3) : Frame 0x4c0048 s
    (State.hbmBefore s k be par ca rd).1 := by
  unfold State.hbmBefore
  extract_lets +onlyGivenNames y1
  have hy1 : Frame 0x4c0048 s y1.1 := (State.parityRetries_frame ..).mono rfl
  exact Frame.iteF Prod.fst hy1 (Frame.iteF Prod.fst hy1 ((State.partialRead_frame ..).step rfl hy1))

theorem execMemoryWrite_frame (sp : MemSpace) (a : W64) (data : W512) (be : W64) (poison : W8) (who : Requester)
    (x : Meets) (s : State) : ∃ nx, execMemoryWrite sp a data be poison who x s = .next nx ∧
    Frame 0xc03cc0158 s nx := by
  unfold execMemoryWrite
  refine ⟨_, rfl, ?_⟩
  extract_lets +onlyGivenNames y1
  have hy1 : Frame 0xc03cc0158 s y1.1 := (State.spaceCheck_frame ..).mono rfl
  split
  · extract_lets +onlyGivenNames y2
    have hy2 : Frame 0xc03cc0158 s y2.1 := Frame.iteF Prod.fst ((State.hbmBefore_frame ..).step rfl hy1) hy1
    refine Frame.ite ?_ ?_
    · extract_lets +onlyGivenNames y3
      have hy3 : Frame 0xc03cc0158 s y3.1 := (State.writeLine_frame ..).step rfl hy2
      exact (State.memAnswer_frame ..).step rfl hy3
    · exact (State.memAnswer_frame ..).step rfl hy2
  · exact (State.memAnswer_frame ..).step rfl hy1

theorem State.correctWord_frame (s : State) (k : Nat) : Frame 0x40000 s (State.correctWord s k) := by
  unfold State.correctWord
  exact upd_mem rfl id

theorem execEccWriteback_frame (sp : MemSpace) (a : W64) (s : State) : ∃ nx, execEccWriteback sp a s = .next nx ∧
    Frame 0x40000 s nx := by
  unfold execEccWriteback
  refine ⟨_, rfl, ?_⟩
  split
  · exact Frame.ite ((State.correctWord_frame ..).mono rfl) (Frame.refl _ _)
  · exact Frame.refl _ _

theorem State.upsetLine_frame (s : State) (k : Nat) (ups : LineUpset) (p : Nat → Bool) : Frame 0x4c0048 s
    (State.upsetLine s k ups p) := by
  unfold State.upsetLine
  exact Frame.foldl _ _ _ (fun t1 a1 => Frame.ite ((State.upset_frame ..).mono rfl) (Frame.refl _ _)) (Frame.refl _ _)

theorem execMergeLineDrain_frame (sp : MemSpace) (a : W64) (ups : LineUpset) (s : State) : ∃ nx, execMergeLineDrain
    sp a ups s = .next nx ∧ Frame 0x4c0048 s nx := by
  unfold execMergeLineDrain
  refine ⟨_, rfl, ?_⟩
  split
  · refine Frame.ite ?_ ?_
    · exact Frame.refl _ _
    · extract_lets +onlyGivenNames y1
      split
      · exact (State.drainLine_frame ..).step rfl ((State.upsetLine_frame ..).mono rfl)
      · exact Frame.refl _ _
  · exact Frame.refl _ _

theorem execCbankClear_frame (q : Quad) (b : Bank) (s : State) : ∃ nx, execCbankClear q b s = .next nx ∧ Frame
    0x4c0048 s nx := by
  unfold execCbankClear
  exact ⟨_, rfl, State.access_frame rfl _ _ _ (fun t1 => Frame.ite ((State.clearBank_frame ..).mono rfl)
    ((State.liveDrop_frame ..).mono rfl))⟩

theorem execCmemClear_frame (d : Clu) (s : State) : ∃ nx, execCmemClear d s = .next nx ∧ Frame 0x40008 s nx := by
  unfold execCmemClear
  exact ⟨_, rfl, State.access_frame rfl _ _ _ (fun t1 => (State.clearCluster_frame ..).mono rfl)⟩

theorem State.writeRetire_frame (s : State) (q b : Nat) (v : W32) : Frame 0x4c0048 s (State.writeRetire s q b v) := by
  unfold State.writeRetire
  extract_lets +onlyGivenNames y1
  extract_lets +onlyGivenNames y2
  exact Frame.ite (Frame.refl _ _) (Frame.ite ((State.liveDrop_frame ..).mono rfl) (Frame.foldl _ _ _ (fun t3 a3 =>
    (State.clearRange_frame ..).mono rfl) ((State.setReg_frame ..).mono rfl)))

theorem execGranuleRetire_frame (q : Quad) (b : Bank) (v : W32) (s : State) : ∃ nx, execGranuleRetire q b v s =
    .next nx ∧ Frame 0x4c0048 s nx := by
  unfold execGranuleRetire
  exact ⟨_, rfl, State.access_frame rfl _ _ _ (fun t1 => (State.writeRetire_frame ..).mono rfl)⟩

theorem State.holdOff_frame (s : State) (q b : Nat) : Frame 0x300 s (State.holdOff s q b) := by
  unfold State.holdOff
  extract_lets +onlyGivenNames y1
  exact (State.setQuad_frame ..).step rfl ((State.setSlot_frame ..).mono rfl)

theorem State.ownerChange_frame (s : State) (q b o n : Nat) : Frame 0x40300 s (State.ownerChange s q b o n) := by
  unfold State.ownerChange
  exact Frame.ite ((State.holdOff_frame ..).step rfl ((State.clearBank_frame ..).mono rfl)) (Frame.ite
    ((State.clearBank_frame ..).mono rfl) (Frame.refl _ _))

theorem State.writeOwner_frame (s : State) (q k : Nat) (v : W32) : Frame 0x4c0348 s (State.writeOwner s q k v) := by
  unfold State.writeOwner
  extract_lets +onlyGivenNames y1
  extract_lets +onlyGivenNames y2
  exact Frame.ite ((State.badAccess_frame ..).mono rfl) (Frame.ite (Frame.refl _ _) (Frame.ite
    ((State.liveDrop_frame ..).mono rfl) (Frame.foldl _ _ _ (fun t3 a3 => (State.ownerChange_frame ..).mono rfl)
    ((State.setReg_frame ..).mono rfl))))

theorem execBankOwnerWrite_frame (q : Quad) (k : Fin3) (v : W32) (s : State) : ∃ nx, execBankOwnerWrite q k v s =
    .next nx ∧ Frame 0x4c0348 s nx := by
  unfold execBankOwnerWrite
  exact ⟨_, rfl, State.access_frame rfl _ _ _ (fun t1 => (State.writeOwner_frame ..).mono rfl)⟩

theorem State.setScrub_frame (s : State) (m : Nat) (x : Scrub) : Frame 0x40000 s (State.setScrub s m x) := by
  unfold State.setScrub
  exact upd_mem rfl id

theorem State.scrubGo_frame (s : State) (m : Nat) (v : W32) : Frame 0x4c0048 s (State.scrubGo s m v) := by
  unfold State.scrubGo
  extract_lets +onlyGivenNames y1
  extract_lets +onlyGivenNames y2
  have hy2 : Frame 0x4c0048 s y2 := (State.put_frame ..).step rfl ((State.put_frame ..).mono rfl)
  extract_lets +onlyGivenNames y3
  extract_lets +onlyGivenNames y4
  extract_lets +onlyGivenNames y5
  extract_lets +onlyGivenNames y6
  refine Frame.ite ?_ ?_
  · extract_lets +onlyGivenNames y7
    have hy7 : Frame 0x4c0048 s y7 := (State.raise_frame ..).step rfl ((State.put_frame ..).step rfl hy2)
    exact Frame.ite ((State.setScrub_frame ..).step rfl hy7) hy7
  · extract_lets +onlyGivenNames y8
    have hy8 : Frame 0x4c0048 s y8 := Frame.foldl _ _ _ (fun t9 a9 => (State.setReg_frame ..).mono rfl) hy2
    exact (State.setScrub_frame ..).step rfl ((State.put_frame ..).step rfl ((State.put_frame ..).step rfl hy8))

theorem State.scrubCtl_frame (s : State) (m : Nat) (v : W32) : Frame 0x40008 s (State.scrubCtl s m v) := by
  unfold State.scrubCtl
  extract_lets +onlyGivenNames y1
  extract_lets +onlyGivenNames y2
  have hy2 : Frame 0x40008 s y2 := (State.put_frame ..).step rfl ((State.put_frame ..).mono rfl)
  extract_lets +onlyGivenNames y3
  exact Frame.ite ((State.setScrub_frame ..).step rfl hy2) hy2

theorem State.writeScrubCtrl_frame (s : State) (m : Nat) (v : W32) : Frame 0x4c0048 s (State.writeScrubCtrl s m v)
    := by
  unfold State.writeScrubCtrl
  exact Frame.ite ((State.scrubGo_frame ..).mono rfl) ((State.scrubCtl_frame ..).mono rfl)

theorem execScrubGo_frame (m : MemCtl) (v : W32) (s : State) : ∃ nx, execScrubGo m v s = .next nx ∧ Frame 0x4c0048 s
    nx := by
  unfold execScrubGo
  exact ⟨_, rfl, State.access_frame rfl _ _ _ (fun t1 => (State.scrubGo_frame ..).mono rfl)⟩

theorem execScrubFillGo_frame (m : MemCtl) (v : W32) (s : State) : ∃ nx, execScrubFillGo m v s = .next nx ∧ Frame
    0x4c0048 s nx := by
  unfold execScrubFillGo
  exact ⟨_, rfl, State.access_frame rfl _ _ _ (fun t1 => (State.scrubGo_frame ..).mono rfl)⟩

theorem execScrubAbort_frame (m : MemCtl) (v : W32) (s : State) : ∃ nx, execScrubAbort m v s = .next nx ∧ Frame
    0x40008 s nx := by
  unfold execScrubAbort
  exact ⟨_, rfl, State.access_frame rfl _ _ _ (fun t1 => (State.scrubCtl_frame ..).mono rfl)⟩

theorem State.scrubEnd_frame (s : State) (m res : Nat) : Frame 0x4c0048 s (State.scrubEnd s m res) := by
  unfold State.scrubEnd
  extract_lets +onlyGivenNames y1
  exact (State.irqBit_frame ..).step rfl ((State.put_frame ..).step rfl ((State.put_frame ..).step rfl
    ((State.setScrub_frame ..).mono rfl)))

theorem State.scrubFound_frame (s : State) (m off k : Nat) : Frame 0x8 s (State.scrubFound s m off k) := by
  unfold State.scrubFound
  extract_lets +onlyGivenNames y1
  extract_lets +onlyGivenNames y2
  extract_lets +onlyGivenNames y3
  extract_lets +onlyGivenNames y4
  have hy4 : Frame 0x8 s y4 := (State.inc_frame ..).mono rfl
  extract_lets +onlyGivenNames y5
  have hy5 : Frame 0x8 s y5 := Frame.ite ((State.setReg_frame ..).step rfl ((State.setReg_frame ..).step rfl hy4)) hy4
  exact (State.setReg_frame ..).step rfl ((State.setReg_frame ..).step rfl hy5)

theorem State.scrubWord_frame (s : State) (m k : Nat) : Frame 0x4c0048 s (State.scrubWord s m k) := by
  unfold State.scrubWord
  refine Frame.ite ?_ ?_
  · exact Frame.refl _ _
  · split
    · exact Frame.refl _ _
    · extract_lets +onlyGivenNames y1
      exact (State.correctWord_frame ..).step rfl ((State.logCe_frame ..).step rfl ((State.scrubFound_frame ..).mono
        rfl))
    · extract_lets +onlyGivenNames y2
      exact (State.captureUe_frame ..).step rfl ((State.scrubFound_frame ..).mono rfl)

theorem State.scrubUnit_frame (s : State) (m k sev : Nat) : Frame 0x4c0048 s (State.scrubUnit s m k sev) := by
  unfold State.scrubUnit
  extract_lets +onlyGivenNames y1
  exact Frame.ite ((State.captureUe_frame ..).step rfl ((State.scrubFound_frame ..).step rfl ((State.markUnit_frame
    ..).mono rfl))) (Frame.ite ((State.captureUe_frame ..).step rfl ((State.scrubFound_frame ..).mono rfl)) (Frame.ite
    ((State.logCe_frame ..).step rfl ((State.scrubFound_frame ..).mono rfl)) (Frame.refl _ _)))

theorem State.scrubLine_frame (s : State) (m k : Nat) (ups : LineUpset) : Frame 0xc004c0158 s (State.scrubLine s m k
    ups) := by
  unfold State.scrubLine
  extract_lets +onlyGivenNames y1
  refine Frame.ite ?_ ?_
  · exact (State.inc_frame ..).mono rfl
  · refine Frame.ite ?_ ?_
    · refine Frame.ite ?_ ?_
      · exact (State.writeLine_frame ..).mono rfl
      · extract_lets +onlyGivenNames y2
        have hy2 : Frame 0xc004c0158 s y2.1 := (State.parityRetries_frame ..).mono rfl
        exact Frame.ite ((State.scrubUnit_frame ..).step rfl hy2) hy2
    · extract_lets +onlyGivenNames y3
      have hy3 : Frame 0xc004c0158 s y3 := (State.devCheck_frame ..).mono rfl
      extract_lets +onlyGivenNames y4
      extract_lets +onlyGivenNames y5
      have hy5 : Frame 0xc004c0158 s y5 := by
        unfold y5
        split
        · exact (State.drainLine_frame ..).step rfl hy3
        · exact hy3
      exact Frame.foldl _ _ _ (fun t6 a6 => (State.scrubWord_frame ..).mono rfl) ((State.upsetLine_frame ..).step
        rfl hy5)

theorem execScrubLine_frame (m : MemCtl) (ups : LineUpset) (s : State) : ∃ nx, execScrubLine m ups s = .next nx ∧
    Frame 0xc004c0158 s nx := by
  unfold execScrubLine
  refine ⟨_, rfl, ?_⟩
  extract_lets +onlyGivenNames y1
  refine Frame.ite ?_ ?_
  · exact Frame.refl _ _
  · refine Frame.ite ?_ ?_
    · exact (State.scrubEnd_frame ..).mono rfl
    · extract_lets +onlyGivenNames y2
      extract_lets +onlyGivenNames y3
      refine Frame.ite ?_ ?_
      · exact (State.scrubEnd_frame ..).mono rfl
      · extract_lets +onlyGivenNames y4
        have hy4 : Frame 0xc004c0158 s y4 := (State.inc_frame ..).step rfl ((State.scrubLine_frame ..).mono rfl)
        extract_lets +onlyGivenNames y5
        exact Frame.ite ((State.scrubEnd_frame ..).step rfl hy4) ((State.setScrub_frame ..).step rfl hy4)

theorem State.memLogClr_frame (s : State) (m : Nat) : Frame 0x8 s (State.memLogClr s m) := by
  unfold State.memLogClr
  extract_lets +onlyGivenNames y1
  extract_lets +onlyGivenNames y2
  have hy2 : Frame 0x8 s y2 := Frame.foldl _ _ _ (fun t3 a3 => (State.setReg_frame ..).step rfl ((State.setReg_frame
    ..).step rfl ((State.setReg_frame ..).mono rfl))) (Frame.refl _ _)
  exact (State.setReg_frame ..).step rfl ((State.setReg_frame ..).step rfl ((State.setReg_frame ..).step rfl
    ((State.setReg_frame ..).step rfl hy2)))

theorem execMemLogClr_frame (m : MemCtl) (s : State) : ∃ nx, execMemLogClr m s = .next nx ∧ Frame 0x8 s nx := by
  unfold execMemLogClr
  exact ⟨_, rfl, State.access_frame rfl _ _ _ (fun t1 => (State.memLogClr_frame ..).mono rfl)⟩

theorem State.remapGo_frame (s : State) (n : Nat) : Frame 0x40008 s (State.remapGo s n) := by
  unfold State.remapGo
  extract_lets +onlyGivenNames y1
  extract_lets +onlyGivenNames y2
  extract_lets +onlyGivenNames y3
  refine Frame.ite ?_ ?_
  · exact (State.badAccess_frame ..).mono rfl
  · refine Frame.ite ?_ ?_
    · exact (State.put_frame ..).mono rfl
    · extract_lets +onlyGivenNames y4
      extract_lets +onlyGivenNames y5
      have hy5 : Frame 0x40008 s y5 := (State.put_frame ..).mono rfl
      exact Frame.trans hy5 (upd_mem rfl id)

theorem execRowRemapGo_frame (n : Stack) (s : State) : ∃ nx, execRowRemapGo n s = .next nx ∧ Frame 0x40008 s nx := by
  unfold execRowRemapGo
  exact ⟨_, rfl, State.access_frame rfl _ _ _ (fun t1 => (State.remapGo_frame ..).mono rfl)⟩

theorem execRemapDone_frame (n : Stack) (bad : W16) (s : State) : ∃ nx, execRemapDone n bad s = .next nx ∧ Frame
    0x4c0048 s nx := by
  unfold execRemapDone
  refine ⟨_, rfl, ?_⟩
  extract_lets +onlyGivenNames y1
  split
  · exact Frame.refl _ _
  · extract_lets +onlyGivenNames y2
    extract_lets +onlyGivenNames y3
    extract_lets +onlyGivenNames _ y4
    have hy4 : Frame 0x4c0048 s y4 := upd_mem rfl id
    exact (State.irqBit_frame ..).step rfl ((State.put_frame ..).step rfl ((State.put_frame ..).step rfl
      ((State.put_frame ..).step rfl hy4)))

theorem State.forgetRemap_frame (s : State) (n : Nat) : Frame 0x40000 s (State.forgetRemap s n) := by
  unfold State.forgetRemap
  extract_lets +onlyGivenNames y1
  refine Frame.trans (Frame.refl _ _) (upd_mem rfl ?_)
  intro h
  have h' := memWf_iff.1 h
  exact memWf_iff.2 ⟨h'.1, tabWf_drop _ h'.2⟩

theorem execHbmTempHigh_frame (n : Stack) (temp : W8) (s : State) : ∃ nx, execHbmTempHigh n temp s = .next nx ∧
    Frame 0x480048 s nx := by
  unfold execHbmTempHigh
  refine ⟨_, rfl, ?_⟩
  extract_lets +onlyGivenNames y1
  extract_lets +onlyGivenNames y2
  have hy2 : Frame 0x480048 s y2 := (State.put_frame ..).mono rfl
  exact Frame.ite (Frame.ite ((State.raise_frame ..).step rfl ((State.put_frame ..).step rfl hy2)) hy2)
    ((State.put_frame ..).step rfl hy2)

end Sys2Proof.Machine
end

