-- ==== Sys2Proof/Laws/FrameSched.lean ====
section
/-! SUPPORT. Which parts of the state the operations and commands of the central Sluice can change: one lemma per definition. -/

namespace Sys2Proof.Machine

open Sys2Proof

theorem State.setTasks_frame (s : State) (l : List Task) : Frame 0x10000 s (State.setTasks s l) := by
  unfold State.setTasks
  exact upd_sluice rfl

theorem State.mapTasks_frame (s : State) (p : Task → Bool) (f : Task → Task) : Frame 0x10000 s (State.mapTasks s p
    f) := by
  unfold State.mapTasks
  exact (State.setTasks_frame ..).mono rfl

theorem State.mapTask_frame (s : State) (r q : Nat) (f : Task → Task) : Frame 0x10000 s (State.mapTask s r q f) := by
  unfold State.mapTask
  exact (State.mapTasks_frame ..).mono rfl

theorem State.vaneTick_frame (s : State) : Frame 0x10000 s (State.vaneTick s) := by
  unfold State.vaneTick
  exact upd_sluice rfl

theorem State.regate_frame (s : State) : Frame 0x10000 s (State.regate s) := by
  unfold State.regate
  exact (State.mapTasks_frame ..).mono rfl

theorem State.evtAdd_frame (s : State) (e n : Nat) : Frame 0x10000 s (State.evtAdd s e n) := by
  unfold State.evtAdd
  exact (State.regate_frame ..).step rfl (upd_sluice rfl)

theorem State.setKernel_frame (s : State) (d k : Nat) (x : Kernel) : Frame 0x10000 s (State.setKernel s d k x) := by
  unfold State.setKernel
  exact upd_sluice rfl

theorem State.inOneCycle_frame {F : Nat} (hF : Nat.land 0x10000 F = 0x10000) (s : State) (f : State → State) (hf : ∀
    t0, Frame F t0 (f t0)) : Frame F s (State.inOneCycle s f) := by
  unfold State.inOneCycle
  extract_lets +onlyGivenNames y1
  have hy1 : Frame F s y1 := hf ..
  extract_lets +onlyGivenNames y2
  exact Frame.trans hy1 (upd_sluice (Frame.bit_of hF rfl))

theorem State.noteReady_frame (s : State) (c : Nat) : Frame 0x10000 s (State.noteReady s c) := by
  unfold State.noteReady
  split
  · exact Frame.ite (upd_sluice rfl) (Frame.refl _ _)
  · exact Frame.refl _ _

theorem State.countMiss_frame (s : State) (f : Nat) : Frame 0x8 s (State.countMiss s f) := by
  unfold State.countMiss
  exact (State.inc_frame ..).mono rfl

theorem State.stopFlow_frame (s : State) (f : Nat) : Frame 0x10008 s (State.stopFlow s f) := by
  unfold State.stopFlow
  exact (State.mapTasks_frame ..).step rfl ((State.setRowBit_frame ..).mono rfl)

theorem State.endTask_frame (s : State) (t : Task) (status : Nat) (finish : W64) (loc : W16) : Frame 0x10008 s
    (State.endTask s t status finish loc) := by
  unfold State.endTask
  extract_lets +onlyGivenNames y1
  have hy1 : Frame 0x10008 s y1 := (State.mapTask_frame ..).mono rfl
  extract_lets +onlyGivenNames y2
  have hy2 : Frame 0x10008 s y2 := Frame.ite ((State.countMiss_frame ..).step rfl hy1) hy1
  extract_lets +onlyGivenNames y3
  have hy3 : Frame 0x10008 s y3 := Frame.ite ((State.stopFlow_frame ..).step rfl hy2) hy2
  extract_lets +onlyGivenNames y4
  have hy4 : Frame 0x10008 s y4 := Frame.ite ((State.evtAdd_frame ..).step rfl hy3) hy3
  exact (State.noteReady_frame ..).step rfl hy4

theorem State.setPhase_frame (s : State) (g p : Nat) : Frame 0x8 s (State.setPhase s g p) := by
  unfold State.setPhase
  exact (State.put_frame ..).mono rfl

theorem State.settleN_frame (x0 : Nat) (x1 : State) : Frame 0x10008 x1 (State.settleN x0 x1) := by
  induction x0 generalizing x1 with
  | zero => exact Frame.refl _ _
  | succ n ih =>
    rw [State.settleN]
    split
    · exact ((State.endTask_frame ..).mono rfl).trans (ih ..)
    · split
      · exact ((State.setPhase_frame ..).mono rfl).trans (ih ..)
      · exact Frame.refl _ _

theorem State.settle_frame (s : State) : Frame 0x10008 s (State.settle s) := by
  unfold State.settle
  exact State.inOneCycle_frame rfl _ _ (fun t1 => (State.settleN_frame ..).mono rfl)

theorem State.endNow_frame (s : State) (t : Task) (status : Nat) (finish : W64) (loc : W16) : Frame 0x10008 s
    (State.endNow s t status finish loc) := by
  unfold State.endNow
  exact State.inOneCycle_frame rfl _ _ (fun t1 => (State.settle_frame ..).step rfl ((State.endTask_frame ..).mono
    rfl))

theorem State.endWaiting_frame (s : State) (t : Task) (status : Nat) : Frame 0x10008 s (State.endWaiting s t status)
    := by
  unfold State.endWaiting
  exact (State.endNow_frame ..).mono rfl

theorem State.partnerDeparts_frame (s : State) (e : Nat) : Frame 0x10000 s (State.partnerDeparts s e) := by
  unfold State.partnerDeparts
  exact (State.mapTasks_frame ..).step rfl (upd_sluice rfl)

theorem State.freeTile_frame (s : State) (d t : Nat) : Frame 0x30000 s (State.freeTile s d t) := by
  unfold State.freeTile
  extract_lets +onlyGivenNames y1
  extract_lets +onlyGivenNames y2
  exact upd_sluice_tiles rfl rfl

theorem State.reportTask_frame (s : State) (t : Task) (loc : W16) : Frame 0x10000 s (State.reportTask s t loc) := by
  unfold State.reportTask
  extract_lets +onlyGivenNames y1
  exact (State.mapTask_frame ..).mono rfl

theorem State.abandonTask_frame (s : State) (t : Task) : Frame 0x30000 s (State.abandonTask s t) := by
  unfold State.abandonTask
  extract_lets +onlyGivenNames y1
  have hy1 : Frame 0x30000 s y1 := (State.mapTask_frame ..).mono rfl
  split
  · exact (State.setTile_frame ..).step rfl hy1
  · exact hy1

theorem State.abandonGroup_frame (s : State) (g : Nat) : Frame 0x30008 s (State.abandonGroup s g) := by
  unfold State.abandonGroup
  extract_lets +onlyGivenNames y1
  extract_lets +onlyGivenNames y2
  have hy2 : Frame 0x30008 s y2 := Frame.foldl _ _ _ (fun t3 a3 => (State.abandonTask_frame ..).mono rfl)
    (Frame.refl _ _)
  exact Frame.ite ((State.inc_frame ..).step rfl hy2) hy2

theorem State.haltGroup_frame (s : State) (g cause : Nat) : Frame 0x16008 s (State.haltGroup s g cause) := by
  unfold State.haltGroup
  extract_lets +onlyGivenNames y1
  refine Frame.ite ?_ ?_
  · refine Frame.trans ?_ (Frame.mono (State.settle_frame ..) rfl)
    extract_lets +onlyGivenNames y2
    have hy2 : Frame 0x16008 s y2 := (State.put_frame ..).step rfl ((State.put_frame ..).step rfl
      ((State.setPhase_frame ..).mono rfl))
    exact Frame.trans hy2 (upd_cgStop rfl)
  · refine Frame.ite ?_ ?_
    · refine Frame.ite ?_ ?_
      · exact upd_cgFault rfl
      · refine Frame.trans ?_ (Frame.mono (State.settle_frame ..) rfl)
        extract_lets +onlyGivenNames y3
        have hy3 : Frame 0x16008 s y3 := (State.put_frame ..).step rfl ((State.put_frame ..).step rfl
          ((State.setPhase_frame ..).mono rfl))
        exact Frame.trans hy3 (upd_cgFault rfl)
    · exact Frame.refl _ _

theorem State.enter_frame (s : State) (t : Task) (p : Place) : Frame 0x10000 s (State.enter s t p) := by
  unfold State.enter
  exact (State.mapTask_frame ..).step rfl (upd_sluice rfl)

theorem State.notePeak_frame (s : State) (d p : Nat) : Frame 0x8 s (State.notePeak s d p) := by
  unfold State.notePeak
  extract_lets +onlyGivenNames y1
  exact Frame.ite ((State.put_frame ..).mono rfl) (Frame.refl _ _)

theorem State.placeHead_frame (s : State) (f : Nat) : Frame 0x490048 s (State.placeHead s f) := by
  unfold State.placeHead
  split
  · exact Frame.refl _ _
  · refine Frame.ite ?_ ?_
    · refine Frame.ite ?_ ?_
      · refine Frame.ite ?_ ?_
        · exact (State.raise_frame ..).step rfl ((State.endWaiting_frame ..).mono rfl)
        · split
          · exact Frame.ite (Frame.refl _ _) ((State.notePeak_frame ..).step rfl ((State.enter_frame ..).mono rfl))
          · exact Frame.refl _ _
      · split
        · exact Frame.ite ((State.enter_frame ..).mono rfl) (Frame.refl _ _)
        · exact Frame.refl _ _
    · exact Frame.refl _ _

theorem State.countWait_frame (s : State) (d : Nat) (t : Task) : Frame 0x480048 s (State.countWait s d t) := by
  unfold State.countWait
  extract_lets +onlyGivenNames y1
  extract_lets +onlyGivenNames y2
  extract_lets +onlyGivenNames y3
  have hy3 : Frame 0x480048 s y3 := (State.inc_frame ..).mono rfl
  exact Frame.ite ((State.raise_frame ..).step rfl hy3) hy3

theorem State.startTask_frame (s : State) (d k : Nat) (t : Task) : Frame 0x4f0048 s (State.startTask s d k t) := by
  unfold State.startTask
  extract_lets +onlyGivenNames y1
  extract_lets +onlyGivenNames y2
  have hy2 : Frame 0x4f0048 s y2 := (State.clearTile_frame ..).step rfl ((State.countWait_frame ..).mono rfl)
  extract_lets +onlyGivenNames y3
  have hy3 : Frame 0x4f0048 s y3 := (State.mapTask_frame ..).step rfl hy2
  extract_lets +onlyGivenNames y4
  have hy4 : Frame 0x4f0048 s y4 := (State.setTile_frame ..).step rfl hy3
  exact Frame.trans hy4 (upd_sluice rfl)

theorem State.stopRing_frame (s : State) (r cause : Nat) : Frame 0x480048 s (State.stopRing s r cause) := by
  unfold State.stopRing
  exact (State.irqBit_frame ..).step rfl ((State.raise_frame ..).step rfl ((State.put_frame ..).step rfl
    ((State.put_frame ..).mono rfl)))

theorem State.setTurn_frame (s : State) (r n : Nat) : Frame 0x10000 s (State.setTurn s r n) := by
  unfold State.setTurn
  exact upd_sluice rfl

theorem execDescriptorFetch_frame (r : Ring) (resp : FetchResp) (s : State) : ∃ nx, execDescriptorFetch r resp s =
    .next nx ∧ Frame 0x490048 s nx := by
  unfold execDescriptorFetch
  refine ⟨_, rfl, ?_⟩
  refine Frame.ite ?_ ?_
  · exact Frame.refl _ _
  · split
    · exact (State.stopRing_frame ..).mono rfl
    · extract_lets +onlyGivenNames y1
      extract_lets +onlyGivenNames y2
      refine Frame.ite ?_ ?_
      · exact (State.stopRing_frame ..).mono rfl
      · extract_lets +onlyGivenNames y3
        extract_lets +onlyGivenNames y4
        extract_lets +onlyGivenNames y5
        have hy5 : Frame 0x490048 s y5 := (State.put_frame ..).step rfl ((State.put_frame ..).mono rfl)
        refine Frame.ite ?_ ?_
        · extract_lets +onlyGivenNames y6
          have hy6 : Frame 0x490048 s y6 := (State.put_frame ..).step rfl ((State.put_frame ..).step rfl hy5)
          exact (State.settle_frame ..).step rfl ((State.setTurn_frame ..).step rfl ((State.setTasks_frame ..).step
            rfl hy6))
        · exact (State.setTurn_frame ..).step rfl hy5

theorem State.ringRestart_frame (s : State) : Frame 0x8 s (State.ringRestart s) := by
  unfold State.ringRestart
  extract_lets +onlyGivenNames y1
  exact (State.put_frame ..).step rfl ((State.put_frame ..).mono rfl)

theorem execRingRestart_frame (s : State) : ∃ nx, execRingRestart s = .next nx ∧ Frame 0x8 s nx := by
  unfold execRingRestart
  exact ⟨_, rfl, State.access_frame rfl _ _ _ (fun t1 => (State.ringRestart_frame ..).mono rfl)⟩

theorem execEvtSignal_frame (evt inc : W8) (s : State) : ∃ nx, execEvtSignal evt inc s = .next nx ∧ Frame 0x10008 s
    nx := by
  unfold execEvtSignal
  exact ⟨_, rfl, State.access_frame rfl _ _ _ (fun t1 => (State.settle_frame ..).step rfl ((State.evtAdd_frame
    ..).mono rfl))⟩

theorem execGateTimeReady_frame (r : Ring) (seq : W16) (s : State) : ∃ nx, execGateTimeReady r seq s = .next nx ∧
    Frame 0x10008 s nx := by
  unfold execGateTimeReady
  refine ⟨_, rfl, ?_⟩
  split
  · exact (State.settle_frame ..).step rfl ((State.mapTask_frame ..).mono rfl)
  · exact Frame.refl _ _

theorem execDeadlineExpired_frame (r : Ring) (seq : W16) (s : State) : ∃ nx, execDeadlineExpired r seq s = .next nx
    ∧ Frame 0x10008 s nx := by
  unfold execDeadlineExpired
  refine ⟨_, rfl, ?_⟩
  split
  · exact (State.settle_frame ..).step rfl ((State.mapTask_frame ..).mono rfl)
  · exact Frame.refl _ _

theorem execTaskPlace_frame (flow : Flow) (s : State) : ∃ nx, execTaskPlace flow s = .next nx ∧ Frame 0x490048 s nx
    := by
  unfold execTaskPlace
  exact ⟨_, rfl, (State.placeHead_frame ..).mono rfl⟩

theorem execTaskReplace_frame (flow : Flow) (s : State) : ∃ nx, execTaskReplace flow s = .next nx ∧ Frame 0x490048 s
    nx := by
  unfold execTaskReplace
  exact ⟨_, rfl, (State.placeHead_frame ..).mono rfl⟩

theorem execTaskDispatch_frame (d : Clu) (s : State) : ∃ nx, execTaskDispatch d s = .next nx ∧ Frame 0x4f0048 s nx
    := by
  unfold execTaskDispatch
  refine ⟨_, rfl, ?_⟩
  refine Frame.ite ?_ ?_
  · exact Frame.refl _ _
  · split
    · exact Frame.refl _ _
    · extract_lets +onlyGivenNames y1
      refine Frame.ite ?_ ?_
      · exact (State.endWaiting_frame ..).mono rfl
      · refine Frame.ite ?_ ?_
        · exact (State.raise_frame ..).step rfl ((State.mapTask_frame ..).mono rfl)
        · split
          · exact (State.startTask_frame ..).mono rfl
          · exact Frame.refl _ _

theorem execTaskEnd_frame (r : Ring) (seq : W16) (s : State) : ∃ nx, execTaskEnd r seq s = .next nx ∧ Frame 0x10008
    s nx := by
  unfold execTaskEnd
  refine ⟨_, rfl, ?_⟩
  split
  · exact (State.endNow_frame ..).mono rfl
  · exact Frame.refl _ _

theorem State.coalesce_frame (s : State) (c : Nat) : Frame 0x490048 s (State.coalesce s c) := by
  unfold State.coalesce
  extract_lets +onlyGivenNames y1
  extract_lets +onlyGivenNames y2
  exact Frame.ite ((State.sendVector_frame ..).step rfl (upd_sluice rfl)) (upd_sluice rfl)

theorem State.writeRecord_frame (s : State) (c : Nat) (t : Task) : Frame 0x490048 s (State.writeRecord s c t) := by
  unfold State.writeRecord
  extract_lets +onlyGivenNames y1
  extract_lets +onlyGivenNames y2
  extract_lets +onlyGivenNames y3
  extract_lets +onlyGivenNames y4
  extract_lets +onlyGivenNames y5
  have hy5 : Frame 0x490048 s y5 := (State.hostWrite_frame ..).mono rfl
  extract_lets +onlyGivenNames y6
  have hy6 : Frame 0x490048 s y6 := (State.put_frame ..).step rfl ((State.setTasks_frame ..).step rfl hy5)
  extract_lets +onlyGivenNames _ y7
  have hy7 : Frame 0x490048 s y7 := (State.noteReady_frame ..).step rfl (Frame.trans hy6 (upd_sluice rfl))
  extract_lets +onlyGivenNames y8
  have hy8 : Frame 0x490048 s y8 := (State.coalesce_frame ..).step rfl hy7
  exact Frame.ite ((State.fyilPush_frame ..).step rfl hy8) hy8

theorem State.writeReady_frame (s : State) (eng : Bool) : Frame 0x490048 s (State.writeReady s eng) := by
  unfold State.writeReady
  split
  · split
    · exact Frame.ite ((State.writeRecord_frame ..).mono rfl) (Frame.refl _ _)
    · exact Frame.refl _ _
  · exact Frame.refl _ _

theorem execCompletionRecordWrite_frame (eng : Bool) (s : State) : ∃ nx, execCompletionRecordWrite eng s = .next nx
    ∧ Frame 0x490048 s nx := by
  unfold execCompletionRecordWrite
  exact ⟨_, rfl, (State.writeReady_frame ..).mono rfl⟩

theorem State.writeAllReady_frame (s : State) : Frame 0x490048 s (State.writeAllReady s) := by
  unfold State.writeAllReady
  exact Frame.foldl _ _ _ (fun t1 a1 => (State.writeReady_frame ..).step rfl ((State.writeReady_frame ..).mono rfl))
    (Frame.refl _ _)

theorem execCqCoalTimer_frame (c : Cq) (s : State) : ∃ nx, execCqCoalTimer c s = .next nx ∧ Frame 0x490048 s nx := by
  unfold execCqCoalTimer
  exact ⟨_, rfl, Frame.ite ((State.sendVector_frame ..).step rfl (upd_sluice rfl)) (Frame.refl _ _)⟩

theorem State.startCancel_frame (s : State) (res : Nat) (count : Option Nat) : Frame 0x10008 s (State.startCancel s
    res count) := by
  unfold State.startCancel
  extract_lets +onlyGivenNames y1
  have hy1 : Frame 0x10008 s y1 := (State.put_frame ..).mono rfl
  exact Frame.trans hy1 (upd_sluice rfl)

theorem State.cancelTask_frame (s : State) (r : Nat) (q : W16) : Frame 0x490048 s (State.cancelTask s r q) := by
  unfold State.cancelTask
  refine Frame.ite ?_ ?_
  · exact (State.raise_frame ..).mono rfl
  · split
    · exact (State.settle_frame ..).step rfl ((State.mapTask_frame ..).step rfl ((State.startCancel_frame ..).mono
        rfl))
    · exact Frame.ite ((State.startCancel_frame ..).mono rfl) ((State.startCancel_frame ..).mono rfl)

theorem State.cancelFlow_frame (s : State) (f : Nat) : Frame 0x490048 s (State.cancelFlow s f) := by
  unfold State.cancelFlow
  refine Frame.ite ?_ ?_
  · exact (State.raise_frame ..).mono rfl
  · extract_lets +onlyGivenNames y1
    extract_lets +onlyGivenNames y2
    extract_lets +onlyGivenNames y3
    exact (State.settle_frame ..).step rfl ((State.mapTasks_frame ..).step rfl ((State.startCancel_frame ..).mono
      rfl))

theorem execCancelTask_frame (r : Ring) (seq : W16) (s : State) : ∃ nx, execCancelTask r seq s = .next nx ∧ Frame
    0x490048 s nx := by
  unfold execCancelTask
  exact ⟨_, rfl, State.access_frame rfl _ _ _ (fun t1 => (State.cancelTask_frame ..).mono rfl)⟩

theorem execCancelFlow_frame (flow : Flow) (s : State) : ∃ nx, execCancelFlow flow s = .next nx ∧ Frame 0x490048 s
    nx := by
  unfold execCancelFlow
  exact ⟨_, rfl, State.access_frame rfl _ _ _ (fun t1 => (State.cancelFlow_frame ..).mono rfl)⟩

theorem execCancelDone_frame (s : State) : ∃ nx, execCancelDone s = .next nx ∧ Frame 0x10088 s nx := by
  unfold execCancelDone
  refine ⟨_, rfl, ?_⟩
  split
  · exact Frame.refl _ _
  · extract_lets +onlyGivenNames y1
    have hy1 : Frame 0x10088 s y1 := (State.put_frame ..).step rfl ((State.put_frame ..).mono rfl)
    extract_lets +onlyGivenNames _ y2
    have hy2 : Frame 0x10088 s y2 := Frame.trans hy1 (upd_sluice rfl)
    split
    · exact hy2
    · exact Frame.ite ((State.put_frame ..).step rfl hy2) ((State.drawn_frame ..).step rfl ((State.put_frame
        ..).step rfl hy2))

theorem execFlowResume_frame (k : W7) (v : W32) (s : State) : ∃ nx, execFlowResume k v s = .next nx ∧ Frame 0x8 s nx
    := by
  unfold execFlowResume
  exact ⟨_, rfl, State.access_frame rfl _ _ _ (fun t1 => (State.setReg_frame ..).mono rfl)⟩

theorem State.histClr_frame (s : State) (d : Nat) : Frame 0x8 s (State.histClr s d) := by
  unfold State.histClr
  extract_lets +onlyGivenNames y1
  have hy1 : Frame 0x8 s y1 := Frame.foldl _ _ _ (fun t2 a2 => (State.setReg_frame ..).mono rfl) (Frame.refl _ _)
  exact Frame.foldl _ _ _ (fun t3 a3 => (State.put_frame ..).mono rfl) hy1

theorem execHistClr_frame (d : Clu) (s : State) : ∃ nx, execHistClr d s = .next nx ∧ Frame 0x8 s nx := by
  unfold execHistClr
  exact ⟨_, rfl, State.access_frame rfl _ _ _ (fun t1 => (State.histClr_frame ..).mono rfl)⟩

theorem State.loadRecord_frame (s : State) (d k : Nat) : Frame 0x10008 s (State.loadRecord s d k) := by
  unfold State.loadRecord
  extract_lets +onlyGivenNames y1
  extract_lets +onlyGivenNames y2
  extract_lets +onlyGivenNames y3
  have hy3 : Frame 0x10008 s y3 := (State.setReg_frame ..).mono rfl
  exact Frame.trans hy3 (upd_sluice rfl)

theorem State.startWindows_frame (s : State) (d : Nat) : Frame 0x10000 s (State.startWindows s d) := by
  unfold State.startWindows
  exact Frame.foldl _ _ _ (fun t1 a1 => upd_sluice rfl) (Frame.refl _ _)

theorem execLoadWindow_frame (d : Clu) (s : State) : ∃ nx, execLoadWindow d s = .next nx ∧ Frame 0x490048 s nx := by
  unfold execLoadWindow
  exact ⟨_, rfl, Frame.ite (Frame.refl _ _) ((State.irqBit_frame ..).step rfl (Frame.foldl _ _ _ (fun t1 a1 =>
    (State.loadRecord_frame ..).mono rfl) (Frame.refl _ _)))⟩

end Sys2Proof.Machine
end

