-- ==== Sys2Proof/Laws/FrameVane.lean ====
section
/-! SUPPORT. Which parts of the state the operations and commands of the tiles, the coprocessors and the kernel tables can change: one lemma per definition. -/

namespace Sys2Proof.Machine

open Sys2Proof

theorem State.stopTile_frame (s : State) (d t : Nat) : Frame 0x30000 s (State.stopTile s d t) := by
  unfold State.stopTile
  extract_lets +onlyGivenNames y1
  extract_lets +onlyGivenNames y2
  exact (State.mapTask_frame ..).step rfl ((State.setTile_frame ..).mono rfl)

theorem State.tileFault_frame (s : State) (d t n : Nat) : Frame 0x4b0048 s (State.tileFault s d t n) := by
  unfold State.tileFault
  exact (State.raiseAt_frame ..).step rfl ((State.stopTile_frame ..).mono rfl)

theorem State.beginBundle_frame (s : State) (d t : Nat) : Frame 0x4f0048 s (State.beginBundle s d t).1 := by
  unfold State.beginBundle
  extract_lets +onlyGivenNames y1
  refine Frame.iteF Prod.fst ?_ ?_
  · exact (State.tileFault_frame ..).mono rfl
  · extract_lets +onlyGivenNames y2
    have hy2 : Frame 0x4f0048 s y2.1 := (State.readChip_frame ..).mono rfl
    refine Frame.iteF Prod.fst ?_ ?_
    · refine Frame.trans ?_ (Frame.mono (State.tileFault_frame ..) rfl)
      extract_lets +onlyGivenNames y3
      have hy3 : Frame 0x4f0048 s y3 := hy2
      exact Frame.trans hy3 (upd_sluice rfl)
    · exact Frame.iteF Prod.fst ((State.tileFault_frame ..).step rfl hy2) ((State.setTile_frame ..).step rfl hy2)

theorem State.finishBundle_frame (s : State) (d t : Nat) (c : Ctl) : Frame 0x20000 s (State.finishBundle s d t c) :=
    by
  unfold State.finishBundle
  extract_lets +onlyGivenNames y1
  exact (State.setTile_frame ..).mono rfl

theorem State.slotX_frame {F : Nat} (hF : Nat.land 0x4f0048 F = 0x4f0048) (s : State) (d t : Nat) (y : Bool) (dst :
    List RegId) (f : State → TileRegs → Res) (hf : ∀ t0 x1, Frame F t0 (Res.after t0 (f t0 x1))) : Frame F s
    (State.slotX s d t y dst f) := by
  unfold State.slotX
  extract_lets +onlyGivenNames y1
  refine Frame.ite (Frame.refl _ _) ?_
  refine Frame.ite ?_ ?_
  · extract_lets +onlyGivenNames y2
    have hy2 : Frame F s y2.1 :=
      Frame.iteF Prod.fst (Frame.refl _ _) ((State.beginBundle_frame ..).mono (Frame.sub_trans rfl hF))
    exact Frame.ite (hy2.trans ((State.tileFault_frame ..).mono (Frame.sub_trans rfl hF))) hy2
  · extract_lets +onlyGivenNames y3
    have hy3 : Frame F s y3 :=
      Frame.ite ((State.finishBundle_frame ..).mono (Frame.sub_trans rfl hF)) (Frame.refl _ _)
    extract_lets +onlyGivenNames y4
    have hy4 : Frame F s y4.1 := hy3.trans ((State.beginBundle_frame ..).mono (Frame.sub_trans rfl hF))
    refine Frame.ite hy4 ?_
    have hk := hy4.trans (hf y4.1 (y4.1.tile d t).regs)
    revert hk
    generalize f y4.1 (y4.1.tile d t).regs = z
    intro hk
    cases z with
    | fault s1 n => exact hk.trans ((State.tileFault_frame ..).mono (Frame.sub_trans rfl hF))
    | stall => exact hy3.trans ((State.setTile_frame ..).mono (Frame.sub_trans rfl hF))
    | done s1 c => exact hk.trans ((State.setTile_frame ..).mono (Frame.sub_trans rfl hF))

theorem State.slotY_frame {F : Nat} (hF : Nat.land 0x4f0048 F = 0x4f0048) (s : State) (d t : Nat) (y : Bool) (dst :
    List RegId) (f : State → TileRegs → Res) (hf : ∀ t0 x1, Frame F t0 (Res.after t0 (f t0 x1))) : Frame F s
    (State.slotY s d t y dst f) := by
  unfold State.slotY
  extract_lets +onlyGivenNames y1
  refine Frame.ite (Frame.refl _ _) ?_
  refine Frame.ite ?_ ?_
  · extract_lets +onlyGivenNames y2
    have hy2 : Frame F s y2 :=
      Frame.ite ((State.finishBundle_frame ..).mono (Frame.sub_trans rfl hF)) (Frame.refl _ _)
    extract_lets +onlyGivenNames y3
    have hy3 : Frame F s y3.1 := hy2.trans ((State.beginBundle_frame ..).mono (Frame.sub_trans rfl hF))
    exact Frame.ite (hy3.trans ((State.tileFault_frame ..).mono (Frame.sub_trans rfl hF))) hy3
  · extract_lets +onlyGivenNames y4
    have hy4 : Frame F s y4.1 :=
      Frame.iteF Prod.fst (Frame.refl _ _) ((State.beginBundle_frame ..).mono (Frame.sub_trans rfl hF))
    refine Frame.ite hy4 ?_
    extract_lets +onlyGivenNames y5
    refine Frame.ite (hy4.trans ((State.tileFault_frame ..).mono (Frame.sub_trans rfl hF))) ?_
    split
    · rename_i s1 n heq
      have hk : Frame F y4.1 (Res.after y4.1 (.fault s1 n)) := heq ▸ hf y4.1 _
      exact hy4.trans (hk.trans ((State.tileFault_frame ..).mono (Frame.sub_trans rfl hF)))
    · exact hy4.trans ((State.setTile_frame ..).mono (Frame.sub_trans rfl hF))
    · rename_i s1 c heq
      have hk : Frame F y4.1 (Res.after y4.1 (.done s1 c)) := heq ▸ hf y4.1 _
      exact hy4.trans (hk.trans ((State.finishBundle_frame ..).mono (Frame.sub_trans rfl hF)))

theorem State.upd_frame (s : State) (d t : Nat) (f : TileRegs → TileRegs) : Frame 0x20000 s (State.upd s d t f) := by
  unfold State.upd
  extract_lets +onlyGivenNames y1
  exact (State.setTile_frame ..).mono rfl

theorem State.opX_frame (s : State) (d t : Nat) (y : Bool) (dst : List RegId) (f : TileRegs → TileRegs) : Frame
    0x4f0048 s (State.opX s d t y dst f) := by
  unfold State.opX
  exact State.slotX_frame rfl _ _ _ _ _ _ (fun t1 x11 => Frame.res_done ((State.upd_frame ..).mono rfl))

theorem State.opY_frame (s : State) (d t : Nat) (y : Bool) (dst : List RegId) (f : TileRegs → TileRegs → TileRegs) :
    Frame 0x4f0048 s (State.opY s d t y dst f) := by
  unfold State.opY
  exact State.slotY_frame rfl _ _ _ _ _ _ (fun t1 x11 => Frame.res_done ((State.upd_frame ..).mono rfl))

theorem execNop_frame (d : Clu) (t : Tix) (y : Bool) (s : State) : ∃ nx, execNop d t y s = .next nx ∧ Frame 0x4f0048
    s nx := by
  unfold execNop
  exact ⟨_, rfl, Frame.ite (State.slotY_frame rfl _ _ _ _ _ _ (fun t1 x11 => Frame.res_done (Frame.refl _ _)))
    (State.slotX_frame rfl _ _ _ _ _ _ (fun t2 x21 => Frame.res_done (Frame.refl _ _)))⟩

theorem execVecAdd_frame (d : Clu) (t : Tix) (y : Bool) (vd va vb : VReg) (s : State) : ∃ nx, execVecAdd d t y vd va
    vb s = .next nx ∧ Frame 0x4f0048 s nx := by
  unfold execVecAdd
  exact ⟨_, rfl, (State.opX_frame ..).mono rfl⟩

theorem execVecSubtract_frame (d : Clu) (t : Tix) (y : Bool) (vd va vb : VReg) (s : State) : ∃ nx, execVecSubtract d
    t y vd va vb s = .next nx ∧ Frame 0x4f0048 s nx := by
  unfold execVecSubtract
  exact ⟨_, rfl, (State.opX_frame ..).mono rfl⟩

theorem execVecNegate_frame (d : Clu) (t : Tix) (y : Bool) (vd va : VReg) (s : State) : ∃ nx, execVecNegate d t y vd
    va s = .next nx ∧ Frame 0x4f0048 s nx := by
  unfold execVecNegate
  exact ⟨_, rfl, (State.opX_frame ..).mono rfl⟩

theorem execVecConjugate_frame (d : Clu) (t : Tix) (y : Bool) (vd va : VReg) (s : State) : ∃ nx, execVecConjugate d
    t y vd va s = .next nx ∧ Frame 0x4f0048 s nx := by
  unfold execVecConjugate
  exact ⟨_, rfl, (State.opX_frame ..).mono rfl⟩

theorem execVecShift_frame (d : Clu) (t : Tix) (y : Bool) (vd va vb : VReg) (func : W11) (s : State) : ∃ nx,
    execVecShift d t y vd va vb func s = .next nx ∧ Frame 0x4f0048 s nx := by
  unfold execVecShift
  exact ⟨_, rfl, (State.opX_frame ..).mono rfl⟩

theorem execVecMin_frame (d : Clu) (t : Tix) (y : Bool) (vd va vb : VReg) (s : State) : ∃ nx, execVecMin d t y vd va
    vb s = .next nx ∧ Frame 0x4f0048 s nx := by
  unfold execVecMin
  exact ⟨_, rfl, (State.opX_frame ..).mono rfl⟩

theorem execVecMax_frame (d : Clu) (t : Tix) (y : Bool) (vd va vb : VReg) (s : State) : ∃ nx, execVecMax d t y vd va
    vb s = .next nx ∧ Frame 0x4f0048 s nx := by
  unfold execVecMax
  exact ⟨_, rfl, (State.opX_frame ..).mono rfl⟩

theorem execPermute_frame (d : Clu) (t : Tix) (y : Bool) (vd va vb : VReg) (func : W11) (s : State) : ∃ nx,
    execPermute d t y vd va vb func s = .next nx ∧ Frame 0x4f0048 s nx := by
  unfold execPermute
  exact ⟨_, rfl, (State.opX_frame ..).mono rfl⟩

theorem execBroadcast_frame (d : Clu) (t : Tix) (y : Bool) (vd va : VReg) (elem : W4) (s : State) : ∃ nx,
    execBroadcast d t y vd va elem s = .next nx ∧ Frame 0x4f0048 s nx := by
  unfold execBroadcast
  exact ⟨_, rfl, (State.opX_frame ..).mono rfl⟩

theorem execCompare_frame (d : Clu) (t : Tix) (y : Bool) (vd va vb : VReg) (func : W11) (s : State) : ∃ nx,
    execCompare d t y vd va vb func s = .next nx ∧ Frame 0x4f0048 s nx := by
  unfold execCompare
  exact ⟨_, rfl, (State.opX_frame ..).mono rfl⟩

theorem execSelect_frame (d : Clu) (t : Tix) (y : Bool) (vd va vb : VReg) (func : W11) (s : State) : ∃ nx,
    execSelect d t y vd va vb func s = .next nx ∧ Frame 0x4f0048 s nx := by
  unfold execSelect
  exact ⟨_, rfl, (State.opX_frame ..).mono rfl⟩

theorem execCmac_frame (d : Clu) (t : Tix) (y : Bool) (ad : AReg) (sfx : W2) (va vb : VReg) (s : State) : ∃ nx,
    execCmac d t y ad sfx va vb s = .next nx ∧ Frame 0x4f0048 s nx := by
  unfold execCmac
  exact ⟨_, rfl, (State.opX_frame ..).mono rfl⟩

theorem execCmac2_frame (d : Clu) (t : Tix) (y : Bool) (ad : AReg) (sfx : W2) (va vb : VReg) (s : State) : ∃ nx,
    execCmac2 d t y ad sfx va vb s = .next nx ∧ Frame 0x4f0048 s nx := by
  unfold execCmac2
  exact ⟨_, rfl, State.slotX_frame rfl _ _ _ _ _ _ (fun t1 x11 => Frame.res_ite (Frame.res_fault (Frame.refl _ _))
    (Frame.res_done ((State.upd_frame ..).mono rfl)))⟩

theorem execCmacb_frame (d : Clu) (t : Tix) (y : Bool) (ad : AReg) (sfx : W2) (va vb : VReg) (elem : W4) (s : State)
    : ∃ nx, execCmacb d t y ad sfx va vb elem s = .next nx ∧ Frame 0x4f0048 s nx := by
  unfold execCmacb
  exact ⟨_, rfl, (State.opX_frame ..).mono rfl⟩

theorem execCmacb2_frame (d : Clu) (t : Tix) (y : Bool) (ad : AReg) (sfx : W2) (va vb : VReg) (elem : W4) (s :
    State) : ∃ nx, execCmacb2 d t y ad sfx va vb elem s = .next nx ∧ Frame 0x4f0048 s nx := by
  unfold execCmacb2
  exact ⟨_, rfl, State.slotX_frame rfl _ _ _ _ _ _ (fun t1 x11 => Frame.res_ite (Frame.res_fault (Frame.refl _ _))
    (Frame.res_done ((State.upd_frame ..).mono rfl)))⟩

theorem execAclr_frame (d : Clu) (t : Tix) (y : Bool) (ad : AReg) (s : State) : ∃ nx, execAclr d t y ad s = .next nx
    ∧ Frame 0x4f0048 s nx := by
  unfold execAclr
  exact ⟨_, rfl, (State.opX_frame ..).mono rfl⟩

theorem execAscale_frame (d : Clu) (t : Tix) (y : Bool) (ad : AReg) (k : W4) (s : State) : ∃ nx, execAscale d t y ad
    k s = .next nx ∧ Frame 0x4f0048 s nx := by
  unfold execAscale
  exact ⟨_, rfl, State.slotX_frame rfl _ _ _ _ _ _ (fun t1 x11 => Frame.res_ite (Frame.res_fault (Frame.refl _ _))
    (Frame.res_done ((State.upd_frame ..).mono rfl)))⟩

theorem execAscaleT_frame (d : Clu) (t : Tix) (y : Bool) (ad : AReg) (k : W4) (s : State) : ∃ nx, execAscaleT d t y
    ad k s = .next nx ∧ Frame 0x4f0048 s nx := by
  unfold execAscaleT
  exact ⟨_, rfl, State.slotX_frame rfl _ _ _ _ _ _ (fun t1 x11 => Frame.res_ite (Frame.res_fault (Frame.refl _ _))
    (Frame.res_done ((State.upd_frame ..).mono rfl)))⟩

theorem execAadd_frame (d : Clu) (t : Tix) (y : Bool) (ad src : AReg) (s : State) : ∃ nx, execAadd d t y ad src s =
    .next nx ∧ Frame 0x4f0048 s nx := by
  unfold execAadd
  exact ⟨_, rfl, (State.opX_frame ..).mono rfl⟩

theorem execAmov_frame (d : Clu) (t : Tix) (y : Bool) (ad src : AReg) (s : State) : ∃ nx, execAmov d t y ad src s =
    .next nx ∧ Frame 0x4f0048 s nx := by
  unfold execAmov
  exact ⟨_, rfl, (State.opX_frame ..).mono rfl⟩

theorem execAmovVector_frame (d : Clu) (t : Tix) (y : Bool) (ad : AReg) (va : VReg) (k : W4) (s : State) : ∃ nx,
    execAmovVector d t y ad va k s = .next nx ∧ Frame 0x4f0048 s nx := by
  unfold execAmovVector
  exact ⟨_, rfl, (State.opX_frame ..).mono rfl⟩

theorem execExt_frame (d : Clu) (t : Tix) (y : Bool) (vd : VReg) (src : AReg) (sh : W5) (s : State) : ∃ nx, execExt
    d t y vd src sh s = .next nx ∧ Frame 0x4f0048 s nx := by
  unfold execExt
  exact ⟨_, rfl, (State.opX_frame ..).mono rfl⟩

theorem execExtT_frame (d : Clu) (t : Tix) (y : Bool) (vd : VReg) (src : AReg) (sh : W5) (s : State) : ∃ nx,
    execExtT d t y vd src sh s = .next nx ∧ Frame 0x4f0048 s nx := by
  unfold execExtT
  exact ⟨_, rfl, (State.opX_frame ..).mono rfl⟩

theorem State.loadElems_frame (s : State) (d t : Nat) (r : TileRegs) (pn mode : Nat) (imm : W16) (cnt : Nat) (w :
    TileRegs → List W32 → TileRegs) : Frame 0x4e0048 s (Res.after s (State.loadElems s d t r pn mode imm cnt w)) := by
  unfold State.loadElems
  split
  · exact Frame.res_fault (Frame.refl _ _)
  · extract_lets +onlyGivenNames y1
    have hy1 : Frame 0x4e0048 s y1.1 := (State.readElems_frame ..).mono rfl
    exact Frame.res_ite (Frame.res_fault hy1) (Frame.res_done ((State.upd_frame ..).step rfl hy1))

theorem execVld_frame (d : Clu) (t : Tix) (y : Bool) (v : VReg) (pn : PReg) (amode : W2) (imm : W16) (s : State) : ∃
    nx, execVld d t y v pn amode imm s = .next nx ∧ Frame 0x4f0048 s nx := by
  unfold execVld
  exact ⟨_, rfl, State.slotY_frame rfl _ _ _ _ _ _ (fun t1 x11 => Frame.res_mono (State.loadElems_frame ..) rfl)⟩

theorem execVst_frame (d : Clu) (t : Tix) (y : Bool) (v : VReg) (pn : PReg) (amode : W2) (imm : W16) (s : State) : ∃
    nx, execVst d t y v pn amode imm s = .next nx ∧ Frame 0x4f0048 s nx := by
  unfold execVst
  refine ⟨_, rfl, ?_⟩
  refine Frame.trans ?_ (State.slotY_frame rfl _ _ _ _ _ _ (fun t1 x11 => ?_))
  · exact Frame.refl _ _
  · split
    · exact Frame.res_fault (Frame.refl _ _)
    · exact Frame.res_done ((State.upd_frame ..).step rfl ((State.writeElems_frame ..).mono rfl))

theorem execVlds_frame (d : Clu) (t : Tix) (y : Bool) (v : VReg) (pn : PReg) (amode : W2) (imm : W16) (s : State) :
    ∃ nx, execVlds d t y v pn amode imm s = .next nx ∧ Frame 0x4f0048 s nx := by
  unfold execVlds
  exact ⟨_, rfl, State.slotY_frame rfl _ _ _ _ _ _ (fun t1 x11 => Frame.res_ite (Frame.res_fault (Frame.refl _ _))
    (Frame.res_mono (State.loadElems_frame ..) rfl))⟩

theorem execScalarLoad_frame (d : Clu) (t : Tix) (y : Bool) (sd : SReg) (size : ScalarSize) (pn : PReg) (amode : W2)
    (imm : W16) (s : State) : ∃ nx, execScalarLoad d t y sd size pn amode imm s = .next nx ∧ Frame 0x4f0048 s nx := by
  unfold execScalarLoad
  refine ⟨_, rfl, ?_⟩
  refine Frame.trans ?_ (State.slotY_frame rfl _ _ _ _ _ _ (fun t1 x11 => ?_))
  · exact Frame.refl _ _
  · split
    · exact Frame.res_fault (Frame.refl _ _)
    · extract_lets +onlyGivenNames y2
      extract_lets +onlyGivenNames y3
      have hy3 : Frame 0x4f0048 t1 y3.1 := (State.readElems_frame ..).mono rfl
      exact Frame.res_ite (Frame.res_fault hy3) (Frame.res_done ((State.upd_frame ..).step rfl hy3))

theorem execScalarStore_frame (d : Clu) (t : Tix) (y : Bool) (sd : SReg) (size : ScalarSize) (pn : PReg) (amode :
    W2) (imm : W16) (s : State) : ∃ nx, execScalarStore d t y sd size pn amode imm s = .next nx ∧ Frame 0x4f0048 s nx :=
    by
  unfold execScalarStore
  refine ⟨_, rfl, ?_⟩
  refine Frame.trans ?_ (State.slotY_frame rfl _ _ _ _ _ _ (fun t1 x11 => ?_))
  · exact Frame.refl _ _
  · split
    · exact Frame.res_fault (Frame.refl _ _)
    · exact Frame.res_done ((State.upd_frame ..).step rfl ((State.writeElem_frame ..).mono rfl))

theorem execScalarAlu_frame (d : Clu) (t : Tix) (y : Bool) (fn : W5) (sd sa sb : SReg) (s : State) : ∃ nx,
    execScalarAlu d t y fn sd sa sb s = .next nx ∧ Frame 0x4f0048 s nx := by
  unfold execScalarAlu
  exact ⟨_, rfl, (State.opY_frame ..).mono rfl⟩

theorem execScalarMultiply_frame (d : Clu) (t : Tix) (y : Bool) (sd sa sb : SReg) (s : State) : ∃ nx,
    execScalarMultiply d t y sd sa sb s = .next nx ∧ Frame 0x4f0048 s nx := by
  unfold execScalarMultiply
  exact ⟨_, rfl, (State.opY_frame ..).mono rfl⟩

theorem execImmediateMove_frame (d : Clu) (t : Tix) (y : Bool) (sd : SReg) (imm : W16) (s : State) : ∃ nx,
    execImmediateMove d t y sd imm s = .next nx ∧ Frame 0x4f0048 s nx := by
  unfold execImmediateMove
  exact ⟨_, rfl, (State.opY_frame ..).mono rfl⟩

theorem execPmov_frame (d : Clu) (t : Tix) (y : Bool) (pn : PReg) (sa : SReg) (s : State) : ∃ nx, execPmov d t y pn
    sa s = .next nx ∧ Frame 0x4f0048 s nx := by
  unfold execPmov
  exact ⟨_, rfl, (State.opY_frame ..).mono rfl⟩

theorem execPadd_frame (d : Clu) (t : Tix) (y : Bool) (pn : PReg) (imm : W16) (s : State) : ∃ nx, execPadd d t y pn
    imm s = .next nx ∧ Frame 0x4f0048 s nx := by
  unfold execPadd
  exact ⟨_, rfl, (State.opY_frame ..).mono rfl⟩

theorem execPaddM_frame (d : Clu) (t : Tix) (y : Bool) (pn : PReg) (imm : W16) (s : State) : ∃ nx, execPaddM d t y
    pn imm s = .next nx ∧ Frame 0x4f0048 s nx := by
  unfold execPaddM
  refine ⟨_, rfl, ?_⟩
  refine Frame.trans ?_ (State.slotY_frame rfl _ _ _ _ _ _ (fun t1 x11 => ?_))
  · exact Frame.refl _ _
  · split
    · exact Frame.res_fault (Frame.refl _ _)
    · exact Frame.res_done ((State.upd_frame ..).mono rfl)

theorem execBmov_frame (d : Clu) (t : Tix) (y : Bool) (pn : PReg) (sa : SReg) (s : State) : ∃ nx, execBmov d t y pn
    sa s = .next nx ∧ Frame 0x4f0048 s nx := by
  unfold execBmov
  exact ⟨_, rfl, (State.opY_frame ..).mono rfl⟩

theorem execLmov_frame (d : Clu) (t : Tix) (y : Bool) (pn : PReg) (sa : SReg) (s : State) : ∃ nx, execLmov d t y pn
    sa s = .next nx ∧ Frame 0x4f0048 s nx := by
  unfold execLmov
  exact ⟨_, rfl, (State.opY_frame ..).mono rfl⟩

theorem State.squash_frame (s : State) (d t : Nat) (q : Squash) : Frame 0x20000 s (State.squash s d t q) := by
  unfold State.squash
  extract_lets +onlyGivenNames y1
  extract_lets +onlyGivenNames y2
  extract_lets +onlyGivenNames y3
  exact (State.setTile_frame ..).mono rfl

theorem execBranch_frame (d : Clu) (t : Tix) (y : Bool) (cond : W4) (sa : SReg) (off : W17) (sq : Squash) (s :
    State) : ∃ nx, execBranch d t y cond sa off sq s = .next nx ∧ Frame 0x4f0048 s nx := by
  unfold execBranch
  refine ⟨_, rfl, ?_⟩
  refine Frame.trans ?_ (State.slotY_frame rfl _ _ _ _ _ _ (fun t1 x11 => ?_))
  · exact Frame.refl _ _
  · split
    · exact Frame.res_fault (Frame.refl _ _)
    · exact Frame.res_done ((State.squash_frame ..).mono rfl)
    · exact Frame.res_done (Frame.refl _ _)

theorem execCall_frame (d : Clu) (t : Tix) (y : Bool) (off : W17) (sq : Squash) (s : State) : ∃ nx, execCall d t y
    off sq s = .next nx ∧ Frame 0x4f0048 s nx := by
  unfold execCall
  exact ⟨_, rfl, State.slotY_frame rfl _ _ _ _ _ _ (fun t1 x11 => Frame.res_ite (Frame.res_fault (Frame.refl _ _))
    (Frame.res_done ((State.squash_frame ..).mono rfl)))⟩

theorem execRet_frame (d : Clu) (t : Tix) (y : Bool) (sq : Squash) (s : State) : ∃ nx, execRet d t y sq s = .next nx
    ∧ Frame 0x4f0048 s nx := by
  unfold execRet
  exact ⟨_, rfl, State.slotY_frame rfl _ _ _ _ _ _ (fun t1 x11 => Frame.res_ite (Frame.res_fault (Frame.refl _ _))
    (Frame.res_done ((State.squash_frame ..).mono rfl)))⟩

theorem execRepeatLoop_frame (d : Clu) (t : Tix) (y : Bool) (src : Bool) (count : W12) (sa : SReg) (len : W13) (s :
    State) : ∃ nx, execRepeatLoop d t y src count sa len s = .next nx ∧ Frame 0x4f0048 s nx := by
  unfold execRepeatLoop
  refine ⟨_, rfl, ?_⟩
  refine Frame.trans ?_ (State.slotY_frame rfl _ _ _ _ _ _ (fun t1 x11 => ?_))
  · exact Frame.refl _ _
  · extract_lets +onlyGivenNames y2
    exact Frame.res_ite (Frame.res_fault (Frame.refl _ _)) (Frame.res_ite (Frame.res_fault (Frame.refl _ _))
      (Frame.res_done (Frame.refl _ _)))

theorem execEndTask_frame (d : Clu) (t : Tix) (y : Bool) (s : State) : ∃ nx, execEndTask d t y s = .next nx ∧ Frame
    0x4f0048 s nx := by
  unfold execEndTask
  refine ⟨_, rfl, ?_⟩
  extract_lets +onlyGivenNames y1
  have hy1 : Frame 0x4f0048 s y1 := State.slotY_frame rfl _ _ _ _ _ _ (fun t2 x21 => Frame.res_ite (Frame.res_fault
    (Frame.refl _ _)) (Frame.res_done (Frame.refl _ _)))
  extract_lets +onlyGivenNames y3
  refine Frame.ite ?_ ?_
  · extract_lets +onlyGivenNames y4
    have hy4 : Frame 0x4f0048 s y4 := (State.setTile_frame ..).step rfl hy1
    exact Frame.ite ((State.raiseAt_frame ..).step rfl hy4) hy4
  · exact hy1

theorem execTaskFinishReport_frame (d : Clu) (t : Tix) (s : State) : ∃ nx, execTaskFinishReport d t s = .next nx ∧
    Frame 0x30000 s nx := by
  unfold execTaskFinishReport
  refine ⟨_, rfl, ?_⟩
  extract_lets +onlyGivenNames y1
  refine Frame.ite ?_ ?_
  · split
    · exact (State.freeTile_frame ..).step rfl ((State.reportTask_frame ..).mono rfl)
    · exact (State.freeTile_frame ..).mono rfl
  · exact Frame.refl _ _

theorem execTaskLimit_frame (d : Clu) (t : Tix) (s : State) : ∃ nx, execTaskLimit d t s = .next nx ∧ Frame 0x4b0048
    s nx := by
  unfold execTaskLimit
  refine ⟨_, rfl, ?_⟩
  extract_lets +onlyGivenNames y1
  exact Frame.ite ((State.tileFault_frame ..).mono rfl) (Frame.refl _ _)

theorem execMovcRead_frame (d : Clu) (t : Tix) (y : Bool) (sd : SReg) (idx : W6) (s : State) : ∃ nx, execMovcRead d
    t y sd idx s = .next nx ∧ Frame 0x4f0048 s nx := by
  unfold execMovcRead
  exact ⟨_, rfl, State.slotY_frame rfl _ _ _ _ _ _ (fun t1 x11 => Frame.res_done ((State.upd_frame ..).mono rfl))⟩

theorem execMovcWrite_frame (d : Clu) (t : Tix) (y : Bool) (idx : W6) (sa : SReg) (s : State) : ∃ nx, execMovcWrite
    d t y idx sa s = .next nx ∧ Frame 0x4f0048 s nx := by
  unfold execMovcWrite
  refine ⟨_, rfl, ?_⟩
  refine Frame.trans ?_ (State.slotY_frame rfl _ _ _ _ _ _ (fun t1 x11 => ?_))
  · exact Frame.refl _ _
  · extract_lets +onlyGivenNames y2
    extract_lets +onlyGivenNames y3
    refine Frame.res_ite ?_ ?_
    · exact Frame.res_done ((State.upd_frame ..).mono rfl)
    · refine Frame.res_ite ?_ ?_
      · exact Frame.res_done ((State.upd_frame ..).mono rfl)
      · refine Frame.res_ite ?_ ?_
        · exact Frame.res_done ((State.upd_frame ..).mono rfl)
        · refine Frame.res_ite ?_ ?_
          · extract_lets +onlyGivenNames y4
            exact Frame.res_done ((State.setTile_frame ..).mono rfl)
          · exact Frame.res_fault (Frame.refl _ _)

theorem State.dmaq_frame (s : State) (d t : Nat) (r : TileRegs) (out : Bool) (pn sf sl : Nat) (tag : W3) (adv :
    Bool) : Frame 0x20000 s (Res.after s (State.dmaq s d t r out pn sf sl tag adv)) := by
  unfold State.dmaq
  extract_lets +onlyGivenNames y1
  extract_lets +onlyGivenNames y2
  extract_lets +onlyGivenNames y3
  extract_lets +onlyGivenNames y4
  extract_lets +onlyGivenNames y5
  extract_lets +onlyGivenNames y6
  extract_lets +onlyGivenNames y7
  refine Frame.res_ite ?_ ?_
  · exact Frame.res_fault (Frame.refl _ _)
  · refine Frame.res_ite ?_ ?_
    · exact Frame.res_stall
    · refine Frame.res_ite ?_ ?_
      · exact Frame.res_fault (Frame.refl _ _)
      · split
        · exact Frame.res_fault (Frame.refl _ _)
        · refine Frame.res_ite ?_ ?_
          · exact Frame.res_fault (Frame.refl _ _)
          · extract_lets +onlyGivenNames y8
            have hy8 : Frame 0x20000 s y8 := (State.setTile_frame ..).mono rfl
            extract_lets +onlyGivenNames y9
            exact Frame.res_done (Frame.ite ((State.upd_frame ..).step rfl hy8) hy8)

theorem execDmaqIn_frame (d : Clu) (t : Tix) (y : Bool) (pn : PReg) (sf sl : SReg) (tag : W3) (adv : Bool) (s :
    State) : ∃ nx, execDmaqIn d t y pn sf sl tag adv s = .next nx ∧ Frame 0x4f0048 s nx := by
  unfold execDmaqIn
  exact ⟨_, rfl, State.slotY_frame rfl _ _ _ _ _ _ (fun t1 x11 => Frame.res_mono (State.dmaq_frame ..) rfl)⟩

theorem execDmaqOut_frame (d : Clu) (t : Tix) (y : Bool) (pn : PReg) (sf sl : SReg) (tag : W3) (adv : Bool) (s :
    State) : ∃ nx, execDmaqOut d t y pn sf sl tag adv s = .next nx ∧ Frame 0x4f0048 s nx := by
  unfold execDmaqOut
  exact ⟨_, rfl, State.slotY_frame rfl _ _ _ _ _ _ (fun t1 x11 => Frame.res_mono (State.dmaq_frame ..) rfl)⟩

theorem State.readNear_frame (s : State) (d t : Nat) (x0 : List Nat) : Frame 0x4c0048 s (State.readNear s d t x0).1
    := by
  induction x0 generalizing s with
  | nil => exact Frame.refl _ _
  | cons k ks ih =>
    rw [State.readNear]
    exact ((State.readElem_frame ..).mono rfl).trans (ih ..)

theorem State.runDma_frame (s : State) (d t : Nat) (e : DmaEntry) : Frame 0xc004c0158 s (State.runDma s d t e).1 := by
  unfold State.runDma
  extract_lets +onlyGivenNames y1
  refine Frame.iteF Prod.fst ?_ ?_
  · extract_lets +onlyGivenNames y2
    have hy2 : Frame 0xc004c0158 s y2.1 := (State.readNear_frame ..).mono rfl
    extract_lets +onlyGivenNames y3
    have hy3 : Frame 0xc004c0158 s y3.1 := (State.devWrite_frame ..).step rfl hy2
    exact hy3
  · extract_lets +onlyGivenNames y4
    have hy4 : Frame 0xc004c0158 s y4.1 := (State.devRead_frame ..).mono rfl
    extract_lets +onlyGivenNames y5
    exact (State.writeElems_frame ..).step rfl hy4

theorem execDmaEntryDone_frame (d : Clu) (t : Tix) (slot : W3) (s : State) : ∃ nx, execDmaEntryDone d t slot s =
    .next nx ∧ Frame 0xc004f0158 s nx := by
  unfold execDmaEntryDone
  refine ⟨_, rfl, ?_⟩
  extract_lets +onlyGivenNames y1
  split
  · exact Frame.refl _ _
  · refine Frame.ite ?_ ?_
    · exact Frame.refl _ _
    · extract_lets +onlyGivenNames y2
      have hy2 : Frame 0xc004f0158 s y2.1 := (State.runDma_frame ..).mono rfl
      extract_lets +onlyGivenNames y3
      extract_lets +onlyGivenNames y4
      exact Frame.ite ((State.setTile_frame ..).step rfl hy2) (Frame.ite ((State.tileFault_frame ..).step rfl
        ((State.setTile_frame ..).step rfl hy2)) ((State.setTile_frame ..).step rfl hy2))

theorem execDmawait_frame (d : Clu) (t : Tix) (y : Bool) (mask : W8) (s : State) : ∃ nx, execDmawait d t y mask s =
    .next nx ∧ Frame 0x4f0048 s nx := by
  unfold execDmawait
  refine ⟨_, rfl, ?_⟩
  refine Frame.trans ?_ (State.slotY_frame rfl _ _ _ _ _ _ (fun t1 x11 => ?_))
  · exact Frame.refl _ _
  · extract_lets +onlyGivenNames y2
    exact Frame.res_ite Frame.res_stall (Frame.res_ite (Frame.res_fault (Frame.refl _ _)) (Frame.res_done
      (Frame.refl _ _)))

theorem execWinarm_frame (d : Clu) (t : Tix) (y : Bool) (w : W2) (sa sb sc : SReg) (s : State) : ∃ nx, execWinarm d
    t y w sa sb sc s = .next nx ∧ Frame 0x4f0048 s nx := by
  unfold execWinarm
  refine ⟨_, rfl, ?_⟩
  refine Frame.trans ?_ (State.slotY_frame rfl _ _ _ _ _ _ (fun t1 x11 => ?_))
  · exact Frame.refl _ _
  · extract_lets +onlyGivenNames y2
    extract_lets +onlyGivenNames y3
    extract_lets +onlyGivenNames y4
    extract_lets +onlyGivenNames y5
    exact Frame.res_ite (Frame.res_fault (Frame.refl _ _)) (Frame.res_ite (Frame.res_fault (Frame.refl _ _))
      (Frame.res_ite (Frame.res_done ((State.setTile_frame ..).mono rfl)) (Frame.res_done ((State.setTile_frame
      ..).mono rfl))))

theorem State.copX_frame {F : Nat} (hF : Nat.land 0x4f0048 F = 0x4f0048) (s : State) (d t : Nat) (y : Bool) (dst :
    List RegId) (f : State → TileRegs → Res) (hf : ∀ t0 x1, Frame F t0 (Res.after t0 (f t0 x1))) : Frame F s (State.copX
    s d t y dst f) := by
  unfold State.copX
  refine State.slotX_frame hF _ _ _ _ _ _ (fun t1 x11 => ?_)
  refine Frame.res_ite ?_ (Frame.res_fault (Frame.refl _ _))
  have h := hf t1 x11
  generalize f t1 x11 = o at h ⊢
  cases o with
  | done u c => exact Frame.trans h ((State.setTile_frame ..).mono (Frame.sub_trans rfl hF))
  | stall => exact h
  | fault u n => exact h

theorem State.copIssue_frame (s : State) (d t : Nat) (y : Bool) (kind : CopKind) (n md mr ma mb : Nat) : Frame
    0x4f0048 s (State.copIssue s d t y kind n md mr ma mb) := by
  unfold State.copIssue
  refine Frame.trans ?_ (State.copX_frame rfl _ _ _ _ _ _ (fun t1 x11 => ?_))
  · exact Frame.refl _ _
  · extract_lets +onlyGivenNames y2
    exact Frame.res_ite Frame.res_stall (Frame.res_done ((State.setTile_frame ..).mono rfl))

theorem execMvM_frame (d : Clu) (t : Tix) (y : Bool) (md : MReg) (va : VReg) (q : W2) (sete : Bool) (ex : W5) (s :
    State) : ∃ nx, execMvM d t y md va q sete ex s = .next nx ∧ Frame 0x4f0048 s nx := by
  unfold execMvM
  refine ⟨_, rfl, ?_⟩
  refine Frame.trans ?_ (State.copX_frame rfl _ _ _ _ _ _ (fun t1 x11 => ?_))
  · exact Frame.refl _ _
  · extract_lets +onlyGivenNames y2
    exact Frame.res_ite Frame.res_stall (Frame.res_done ((State.upd_frame ..).mono rfl))

theorem execMvV_frame (d : Clu) (t : Tix) (y : Bool) (vd : VReg) (ma : MReg) (q : W2) (s : State) : ∃ nx, execMvV d
    t y vd ma q s = .next nx ∧ Frame 0x4f0048 s nx := by
  unfold execMvV
  exact ⟨_, rfl, State.copX_frame rfl _ _ _ _ _ _ (fun t1 x11 => Frame.res_ite Frame.res_stall (Frame.res_done
    ((State.upd_frame ..).mono rfl)))⟩

theorem execMmul_frame (d : Clu) (t : Tix) (y : Bool) (n : W3) (md ma mb : MReg) (ha hb : Bool) (s : State) : ∃ nx,
    execMmul d t y n md ma mb ha hb s = .next nx ∧ Frame 0x4f0048 s nx := by
  unfold execMmul
  exact ⟨_, rfl, (State.copIssue_frame ..).mono rfl⟩

theorem execMadd_frame (d : Clu) (t : Tix) (y : Bool) (n : W3) (md ma mb : MReg) (s : State) : ∃ nx, execMadd d t y
    n md ma mb s = .next nx ∧ Frame 0x4f0048 s nx := by
  unfold execMadd
  exact ⟨_, rfl, (State.copIssue_frame ..).mono rfl⟩

theorem execMsub_frame (d : Clu) (t : Tix) (y : Bool) (n : W3) (md ma mb : MReg) (s : State) : ∃ nx, execMsub d t y
    n md ma mb s = .next nx ∧ Frame 0x4f0048 s nx := by
  unfold execMsub
  exact ⟨_, rfl, (State.copIssue_frame ..).mono rfl⟩

theorem execMherm_frame (d : Clu) (t : Tix) (y : Bool) (n : W3) (md ma : MReg) (s : State) : ∃ nx, execMherm d t y n
    md ma s = .next nx ∧ Frame 0x4f0048 s nx := by
  unfold execMherm
  exact ⟨_, rfl, (State.copIssue_frame ..).mono rfl⟩

theorem execMchol_frame (d : Clu) (t : Tix) (y : Bool) (n : W3) (md ma : MReg) (s : State) : ∃ nx, execMchol d t y n
    md ma s = .next nx ∧ Frame 0x4f0048 s nx := by
  unfold execMchol
  exact ⟨_, rfl, (State.copIssue_frame ..).mono rfl⟩

theorem execMtrs_frame (d : Clu) (t : Tix) (y : Bool) (n : W3) (md ma mb : MReg) (upper herm : Bool) (s : State) : ∃
    nx, execMtrs d t y n md ma mb upper herm s = .next nx ∧ Frame 0x4f0048 s nx := by
  unfold execMtrs
  exact ⟨_, rfl, (State.copIssue_frame ..).mono rfl⟩

theorem execMqr_frame (d : Clu) (t : Tix) (y : Bool) (n : W3) (mq mr ma : MReg) (s : State) : ∃ nx, execMqr d t y n
    mq mr ma s = .next nx ∧ Frame 0x4f0048 s nx := by
  unfold execMqr
  exact ⟨_, rfl, Frame.ite (State.copX_frame rfl _ _ _ _ _ _ (fun t1 x11 => Frame.res_fault (Frame.refl _ _)))
    ((State.copIssue_frame ..).mono rfl)⟩

theorem execMinv_frame (d : Clu) (t : Tix) (y : Bool) (n : W3) (md ma : MReg) (s : State) : ∃ nx, execMinv d t y n
    md ma s = .next nx ∧ Frame 0x4f0048 s nx := by
  unfold execMinv
  exact ⟨_, rfl, (State.copIssue_frame ..).mono rfl⟩

theorem execMstat_frame (d : Clu) (t : Tix) (y : Bool) (vd : VReg) (s : State) : ∃ nx, execMstat d t y vd s = .next
    nx ∧ Frame 0x4f0048 s nx := by
  unfold execMstat
  exact ⟨_, rfl, State.copX_frame rfl _ _ _ _ _ _ (fun t1 x11 => Frame.res_ite (Frame.res_done ((State.upd_frame
    ..).mono rfl)) Frame.res_stall)⟩

theorem execMwait_frame (d : Clu) (t : Tix) (y : Bool) (s : State) : ∃ nx, execMwait d t y s = .next nx ∧ Frame
    0x4f0048 s nx := by
  unfold execMwait
  exact ⟨_, rfl, State.copX_frame rfl _ _ _ _ _ _ (fun t1 x11 => Frame.res_ite (Frame.res_done (Frame.refl _ _))
    Frame.res_stall)⟩

theorem execCopOpStart_frame (d : Clu) (t : Tix) (s : State) : ∃ nx, execCopOpStart d t s = .next nx ∧ Frame 0x20000
    s nx := by
  unfold execCopOpStart
  refine ⟨_, rfl, ?_⟩
  extract_lets +onlyGivenNames y1
  extract_lets +onlyGivenNames y2
  split
  · exact (State.setTile_frame ..).mono rfl
  · exact Frame.refl _ _

theorem execCopOpWriteback_frame (d : Clu) (t : Tix) (s : State) : ∃ nx, execCopOpWriteback d t s = .next nx ∧ Frame
    0x20000 s nx := by
  unfold execCopOpWriteback
  refine ⟨_, rfl, ?_⟩
  extract_lets +onlyGivenNames y1
  split
  · refine Frame.ite ?_ ?_
    · exact Frame.refl _ _
    · extract_lets +onlyGivenNames y2
      extract_lets +onlyGivenNames y3
      exact (State.setTile_frame ..).mono rfl
  · exact Frame.refl _ _

theorem execCopUnitStop_frame (d : Clu) (t : Tix) (s : State) : ∃ nx, execCopUnitStop d t s = .next nx ∧ Frame
    0x20000 s nx := by
  unfold execCopUnitStop
  refine ⟨_, rfl, ?_⟩
  extract_lets +onlyGivenNames y1
  exact Frame.ite ((State.setTile_frame ..).mono rfl) (Frame.refl _ _)

theorem State.kloadGo_frame (s : State) (d kid : Nat) : Frame 0x490048 s (State.kloadGo s d kid) := by
  unfold State.kloadGo
  extract_lets +onlyGivenNames y1
  extract_lets +onlyGivenNames y2
  extract_lets +onlyGivenNames y3
  extract_lets +onlyGivenNames y4
  refine Frame.ite ?_ ?_
  · exact (State.raise_frame ..).mono rfl
  · refine Frame.ite ?_ ?_
    · exact (State.raise_frame ..).step rfl ((State.put_frame ..).step rfl ((State.put_frame ..).mono rfl))
    · extract_lets +onlyGivenNames y5
      extract_lets +onlyGivenNames y6
      have hy6 : Frame 0x490048 s y6 := (State.setReg_frame ..).mono rfl
      exact Frame.trans hy6 (upd_sluice rfl)

theorem execKloadGo_frame (d : Clu) (kid : W8) (s : State) : ∃ nx, execKloadGo d kid s = .next nx ∧ Frame 0x490048 s
    nx := by
  unfold execKloadGo
  exact ⟨_, rfl, State.access_frame rfl _ _ _ (fun t1 => (State.kloadGo_frame ..).mono rfl)⟩

theorem State.writeBundle_frame (s : State) (d b : Nat) (x : W64) : Frame 0x40000 s (State.writeBundle s d b x) := by
  unfold State.writeBundle
  exact Frame.foldl _ _ _ (fun t1 a1 => (State.storeWord_frame ..).mono rfl) (Frame.refl _ _)

theorem State.writeBundles_frame (s : State) (d b : Nat) (xs : List W64) : Frame 0x40000 s (State.writeBundles s d b
    xs) := by
  unfold State.writeBundles
  exact Frame.foldl _ _ _ (fun t1 a1 => (State.writeBundle_frame ..).mono rfl) (Frame.refl _ _)

theorem execKloadDone_frame (d : Clu) (s : State) : ∃ nx, execKloadDone d s = .next nx ∧ Frame 0xc004d0158 s nx := by
  unfold execKloadDone
  refine ⟨_, rfl, ?_⟩
  split
  · exact Frame.refl _ _
  · extract_lets +onlyGivenNames y1
    extract_lets +onlyGivenNames y2
    have hy2 : Frame 0xc004d0158 s y2.1 := (State.devRead_frame ..).mono rfl
    extract_lets +onlyGivenNames y3
    extract_lets +onlyGivenNames y4
    have hy4 : Frame 0xc004d0158 s y4 := (State.writeBundles_frame ..).step rfl hy2
    extract_lets +onlyGivenNames _ y5
    have hy5 : Frame 0xc004d0158 s y5 := Frame.trans hy4 (upd_sluice rfl)
    refine Frame.ite ?_ ?_
    · extract_lets +onlyGivenNames y6
      have hy6 : Frame 0xc004d0158 s y6 := (State.setKernel_frame ..).step rfl hy5
      extract_lets +onlyGivenNames _ y7
      have hy7 : Frame 0xc004d0158 s y7 := Frame.trans hy6 (upd_sluice rfl)
      exact (State.irqBit_frame ..).step rfl ((State.put_frame ..).step rfl ((State.put_frame ..).step rfl hy7))
    · exact (State.irqBit_frame ..).step rfl ((State.raise_frame ..).step rfl ((State.put_frame ..).step rfl
        ((State.put_frame ..).step rfl hy5)))

theorem State.kernelInvalidate_frame (s : State) (d : Nat) : Frame 0x10000 s (State.kernelInvalidate s d) := by
  unfold State.kernelInvalidate
  extract_lets +onlyGivenNames y1
  exact (State.setKernel_frame ..).mono rfl

theorem execKernelInvalidate_frame (d : Clu) (s : State) : ∃ nx, execKernelInvalidate d s = .next nx ∧ Frame 0x10008
    s nx := by
  unfold execKernelInvalidate
  exact ⟨_, rfl, State.access_frame rfl _ _ _ (fun t1 => (State.kernelInvalidate_frame ..).mono rfl)⟩

end Sys2Proof.Machine
end

