-- ==== Sys2Proof/Laws/FrameLinks.lean ====
section
/-! SUPPORT. Which parts of the state the operations and commands of lanes, time and links can change: one lemma per definition. -/

namespace Sys2Proof.Machine

open Sys2Proof

theorem State.setLane_frame (s : State) (l : Nat) (x : LaneSt) : Frame 0x4000000 s (State.setLane s l x) := by
  unfold State.setLane
  exact upd_lanes rfl

theorem State.modLane_frame (s : State) (l : Nat) (f : LaneSt → LaneSt) : Frame 0x4000000 s (State.modLane s l f) :=
    by
  unfold State.modLane
  exact (State.setLane_frame ..).mono rfl

theorem State.setLink_frame (s : State) (e : Nat) (x : LinkSt) : Frame 0x8000000 s (State.setLink s e x) := by
  unfold State.setLink
  exact upd_links rfl

theorem State.modLink_frame (s : State) (e : Nat) (f : LinkSt → LinkSt) : Frame 0x8000000 s (State.modLink s e f) :=
    by
  unfold State.modLink
  exact (State.setLink_frame ..).mono rfl

theorem State.txOn_frame (s : State) (l : Nat) : Frame 0x40 s (State.txOn s l) := by
  unfold State.txOn
  exact Frame.ite ((State.emit_frame ..).mono rfl) (Frame.refl _ _)

theorem State.sendBlocks_frame (s : State) (bs : List (Nat × LineWord × W64)) : Frame 0x40000c0 s (State.sendBlocks
    s bs) := by
  unfold State.sendBlocks
  extract_lets +onlyGivenNames y1
  extract_lets +onlyGivenNames y2
  have hy2 : Frame 0x40000c0 s y2 := Frame.foldl _ _ _ (fun t3 a3 => (State.modLane_frame ..).mono rfl) (Frame.refl
    _ _)
  exact Frame.ite (Frame.refl _ _) (Frame.ite ((State.drawn_frame ..).step rfl hy2) ((State.emit_frame ..).step rfl
    ((State.drawn_frame ..).step rfl hy2)))

theorem State.sendOn_frame (s : State) (ls : List Nat) (b : LineWord) : Frame 0x40000c0 s (State.sendOn s ls b) := by
  unfold State.sendOn
  exact (State.sendBlocks_frame ..).mono rfl

theorem State.sendStriped_frame (s : State) (e : Nat) (bs : List (LineWord × W64)) : Frame 0xc0000c0 s
    (State.sendStriped s e bs) := by
  unfold State.sendStriped
  extract_lets +onlyGivenNames y1
  extract_lets +onlyGivenNames y2
  exact Frame.ite (Frame.refl _ _) ((State.sendBlocks_frame ..).step rfl ((State.modLink_frame ..).mono rfl))

theorem State.excludeLanes_frame (s : State) (e : Nat) : Frame 0x4480048 s (State.excludeLanes s e) := by
  unfold State.excludeLanes
  extract_lets +onlyGivenNames y1
  extract_lets +onlyGivenNames y2
  extract_lets +onlyGivenNames y3
  have hy3 : Frame 0x4480048 s y3 := Frame.foldl _ _ _ (fun t4 a4 => (State.modLane_frame ..).mono rfl) (Frame.refl
    _ _)
  exact Frame.ite hy3 ((State.raise_frame ..).step rfl hy3)

theorem State.showLink_frame (s : State) (e : Nat) : Frame 0x480048 s (State.showLink s e) := by
  unfold State.showLink
  extract_lets +onlyGivenNames y1
  refine Frame.ite ?_ ?_
  · exact (State.setReg_frame ..).mono rfl
  · extract_lets +onlyGivenNames y2
    extract_lets +onlyGivenNames y3
    extract_lets +onlyGivenNames y4
    have hy4 : Frame 0x480048 s y4 := (State.setReg_frame ..).mono rfl
    exact Frame.ite ((State.irqBit_frame ..).step rfl hy4) hy4

theorem State.sendLstate_frame (s : State) (e : Nat) : Frame 0x40000c0 s (State.sendLstate s e) := by
  unfold State.sendLstate
  extract_lets +onlyGivenNames y1
  exact (State.sendOn_frame ..).mono rfl

theorem State.showMembers_frame (s : State) (e : Nat) : Frame 0x8 s (State.showMembers s e) := by
  unfold State.showMembers
  exact Frame.foldl _ _ _ (fun t1 a1 => (State.put_frame ..).mono rfl) (Frame.refl _ _)

theorem State.linkStops_frame (s : State) (e : Nat) : Frame 0x8000000 s (State.linkStops s e) := by
  unfold State.linkStops
  exact (State.modLink_frame ..).mono rfl

theorem State.noGroup_frame (s : State) (e : Nat) : Frame 0x8480048 s (State.noGroup s e) := by
  unfold State.noGroup
  exact Frame.ite ((State.showLink_frame ..).mono rfl) ((State.showLink_frame ..).step rfl ((State.showMembers_frame
    ..).step rfl ((State.linkStops_frame ..).step rfl ((State.modLink_frame ..).mono rfl))))

theorem State.regroup_frame (s : State) (e : Nat) : Frame 0xc4800c8 s (State.regroup s e) := by
  unfold State.regroup
  refine Frame.ite ?_ ?_
  · exact (State.noGroup_frame ..).mono rfl
  · extract_lets +onlyGivenNames y1
    have hy1 : Frame 0xc4800c8 s y1 := (State.excludeLanes_frame ..).mono rfl
    extract_lets +onlyGivenNames y2
    extract_lets +onlyGivenNames y3
    refine Frame.ite ?_ ?_
    · exact (State.showLink_frame ..).step rfl hy1
    · extract_lets +onlyGivenNames y4
      extract_lets +onlyGivenNames y5
      extract_lets +onlyGivenNames y6
      have hy6 : Frame 0xc4800c8 s y6 := (State.setLink_frame ..).step rfl ((State.drawn_frame ..).step rfl hy1)
      extract_lets +onlyGivenNames y7
      have hy7 : Frame 0xc4800c8 s y7 := Frame.ite ((State.raise_frame ..).step rfl hy6) hy6
      extract_lets +onlyGivenNames y8
      have hy8 : Frame 0xc4800c8 s y8 := (State.sendLstate_frame ..).step rfl ((State.showMembers_frame ..).step rfl
        hy7)
      exact (State.showLink_frame ..).step rfl (Frame.ite ((State.linkStops_frame ..).step rfl hy8) hy8)

theorem State.regroupAll_frame (s : State) (ls : List Nat) : Frame 0xc4800c8 s (State.regroupAll s ls) := by
  unfold State.regroupAll
  exact Frame.foldl _ _ _ (fun t1 a1 => (State.regroup_frame ..).mono rfl) (Frame.refl _ _)

theorem State.linkArrives_frame (s : State) (e l : Nat) (serial : W64) (cls caps : Nat) : Frame 0x8480048 s
    (State.linkArrives s e l serial cls caps) := by
  unfold State.linkArrives
  extract_lets +onlyGivenNames y1
  have hy1 : Frame 0x8480048 s y1 := (State.setReg_frame ..).mono rfl
  extract_lets +onlyGivenNames y2
  have hy2 : Frame 0x8480048 s y2 := (State.setReg_frame ..).step rfl ((State.setReg64_frame ..).step rfl hy1)
  extract_lets +onlyGivenNames _ y3
  have hy3 : Frame 0x8480048 s y3 := (State.setLink_frame ..).step rfl hy2
  exact (State.irqBit_frame ..).step rfl hy3

theorem State.laneArrives_frame (s : State) (l : Nat) : Frame 0xc480048 s (State.laneArrives s l) := by
  unfold State.laneArrives
  extract_lets +onlyGivenNames y1
  extract_lets +onlyGivenNames y2
  extract_lets +onlyGivenNames y3
  have hy3 : Frame 0xc480048 s y3 := (State.modLane_frame ..).mono rfl
  extract_lets +onlyGivenNames y4
  exact Frame.ite ((State.linkArrives_frame ..).step rfl hy3) (Frame.ite ((State.put_frame ..).step rfl hy3) hy3)

theorem State.showUnacked_frame (s : State) (e : Nat) : Frame 0x8 s (State.showUnacked s e) := by
  unfold State.showUnacked
  exact (State.put_frame ..).mono rfl

theorem State.setTsWaiting_frame (s : State) (q : Nat) (l : List TsReq) : Frame 0x4000000000 s (State.setTsWaiting s
    q l) := by
  unfold State.setTsWaiting
  exact upd_tsPend rfl

theorem State.dropStore_frame (s : State) (e : Nat) : Frame 0x4008000008 s (State.dropStore s e) := by
  unfold State.dropStore
  extract_lets +onlyGivenNames y1
  extract_lets +onlyGivenNames y2
  extract_lets +onlyGivenNames y3
  have hy3 : Frame 0x4008000008 s y3 := (State.setTsWaiting_frame ..).mono rfl
  extract_lets +onlyGivenNames y4
  have hy4 : Frame 0x4008000008 s y4 := (State.setLink_frame ..).step rfl hy3
  exact (State.showUnacked_frame ..).step rfl ((State.inc_frame ..).step rfl hy4)

theorem State.entryDeparts_frame (s : State) (e : Nat) : Frame 0x4008490048 s (State.entryDeparts s e) := by
  unfold State.entryDeparts
  refine Frame.ite ?_ ?_
  · exact Frame.refl _ _
  · extract_lets +onlyGivenNames y1
    have hy1 : Frame 0x4008490048 s y1 := (State.dropStore_frame ..).step rfl ((State.put_frame ..).step rfl
      ((State.put_frame ..).mono rfl))
    exact (State.settle_frame ..).step rfl ((State.partnerDeparts_frame ..).step rfl ((State.irqBit_frame ..).step
      rfl hy1))

theorem State.laneDeparts_frame (s : State) (l : Nat) : Frame 0x400c490048 s (State.laneDeparts s l) := by
  unfold State.laneDeparts
  extract_lets +onlyGivenNames y1
  split
  · exact Frame.refl _ _
  · extract_lets +onlyGivenNames y2
    have hy2 : Frame 0x400c490048 s y2 := (State.modLane_frame ..).mono rfl
    extract_lets +onlyGivenNames y3
    exact Frame.ite hy2 (Frame.ite ((State.entryDeparts_frame ..).step rfl hy2) ((State.put_frame ..).step rfl hy2))

theorem State.eyeEnd_frame (s : State) (l : Nat) (ok : Bool) : Frame 0x4480048 s (State.eyeEnd s l ok) := by
  unfold State.eyeEnd
  split
  · exact Frame.refl _ _
  · exact (State.irqBit_frame ..).step rfl ((State.put_frame ..).step rfl ((State.put_frame ..).step rfl
      ((State.modLane_frame ..).mono rfl)))

theorem State.setLaneState_frame (s : State) (l st : Nat) : Frame 0x4480048 s (State.setLaneState s l st) := by
  unfold State.setLaneState
  extract_lets +onlyGivenNames y1
  have hy1 : Frame 0x4480048 s y1 := Frame.ite ((State.eyeEnd_frame ..).mono rfl) (Frame.refl _ _)
  exact (State.put_frame ..).step rfl hy1

theorem State.setRx_frame (s : State) (l rate : Nat) (lock fec : Bool) : Frame 0x8 s (State.setRx s l rate lock fec)
    := by
  unfold State.setRx
  exact (State.put_frame ..).step rfl ((State.put_frame ..).step rfl ((State.put_frame ..).mono rfl))

theorem State.applyEq_frame (s : State) (l : Nat) : Frame 0x4480048 s (State.applyEq s l) := by
  unfold State.applyEq
  extract_lets +onlyGivenNames y1
  extract_lets +onlyGivenNames y2
  exact Frame.ite ((State.raise_frame ..).step rfl ((State.modLane_frame ..).mono rfl)) ((State.modLane_frame
    ..).mono rfl)

theorem State.hunt_frame (s : State) (l : Nat) : Frame 0x4480048 s (State.hunt s l) := by
  unfold State.hunt
  exact (State.txOn_frame ..).step rfl ((State.modLane_frame ..).step rfl ((State.setRx_frame ..).step rfl
    ((State.setLaneState_frame ..).mono rfl)))

theorem State.toHunt_frame (s : State) (l : Nat) : Frame 0xc4800c8 s (State.toHunt s l) := by
  unfold State.toHunt
  exact (State.regroup_frame ..).step rfl ((State.hunt_frame ..).mono rfl)

theorem State.applyTest_frame (s : State) (l : Nat) : Frame 0xc0 s (State.applyTest s l) := by
  unfold State.applyTest
  extract_lets +onlyGivenNames y1
  extract_lets +onlyGivenNames y2
  extract_lets +onlyGivenNames y3
  exact (State.emit_frame ..).step rfl ((State.emit_frame ..).step rfl ((State.drawn_frame ..).mono rfl))

theorem State.laneStart_frame (s : State) (l : Nat) : Frame 0xc4800c8 s (State.laneStart s l) := by
  unfold State.laneStart
  extract_lets +onlyGivenNames y1
  refine Frame.ite ?_ ?_
  · exact Frame.refl _ _
  · extract_lets +onlyGivenNames y2
    have hy2 : Frame 0xc4800c8 s y2 := Frame.ite (Frame.refl _ _) ((State.raise_frame ..).mono rfl)
    refine Frame.ite ?_ ?_
    · exact (State.toHunt_frame ..).step rfl hy2
    · refine Frame.ite ?_ ?_
      · extract_lets +onlyGivenNames y3
        have hy3 : Frame 0xc4800c8 s y3 := (State.showLink_frame ..).step rfl ((State.txOn_frame ..).step rfl
          ((State.applyEq_frame ..).step rfl ((State.setRx_frame ..).step rfl ((State.setLaneState_frame ..).step rfl
          hy2))))
        exact Frame.ite ((State.raise_frame ..).step rfl hy3) hy3
      · exact (State.applyTest_frame ..).step rfl ((State.applyEq_frame ..).step rfl ((State.setRx_frame ..).step
          rfl ((State.setLaneState_frame ..).step rfl hy2)))

theorem State.portDown_frame (s : State) (e : Nat) : Frame 0x4480048 s (State.portDown s e) := by
  unfold State.portDown
  extract_lets +onlyGivenNames y1
  have hy1 : Frame 0x4480048 s y1 := Frame.foldl _ _ _ (fun t2 a2 => Frame.ite ((State.applyEq_frame ..).step rfl
    ((State.put_frame ..).step rfl ((State.setLaneState_frame ..).mono rfl))) (Frame.refl _ _)) (Frame.refl _ _)
  exact (State.showLink_frame ..).step rfl ((State.modLane_frame ..).step rfl ((State.put_frame ..).step rfl hy1))

theorem State.portRate_frame (s : State) (e : Nat) : Frame 0x8 s (State.portRate s e) := by
  unfold State.portRate
  exact Frame.ite (Frame.refl _ _) (Frame.foldl _ _ _ (fun t1 a1 => Frame.ite ((State.put_frame ..).step rfl
    ((State.put_frame ..).mono rfl)) (Frame.refl _ _)) (Frame.refl _ _))

theorem State.disable_frame (s : State) (l : Nat) : Frame 0x400c490048 s (State.disable s l) := by
  unfold State.disable
  extract_lets +onlyGivenNames y1
  have hy1 : Frame 0x400c490048 s y1 := Frame.ite ((State.portDown_frame ..).mono rfl) (Frame.refl _ _)
  extract_lets +onlyGivenNames y2
  have hy2 : Frame 0x400c490048 s y2 := Frame.ite hy1 ((State.put_frame ..).step rfl hy1)
  extract_lets +onlyGivenNames y3
  have hy3 : Frame 0x400c490048 s y3 := (State.modLane_frame ..).step rfl ((State.put_frame ..).step rfl
    ((State.setRx_frame ..).step rfl ((State.setLaneState_frame ..).step rfl hy2)))
  exact (State.laneDeparts_frame ..).step rfl ((State.emit_frame ..).step rfl hy3)

theorem State.portGone_frame (s : State) (e : Nat) : Frame 0x4008490048 s (State.portGone s e) := by
  unfold State.portGone
  exact Frame.ite ((State.entryDeparts_frame ..).mono rfl) (Frame.refl _ _)

theorem State.disableAll_frame (s : State) (ls : List Nat) : Frame 0x400c4900c8 s (State.disableAll s ls) := by
  unfold State.disableAll
  extract_lets +onlyGivenNames y1
  extract_lets +onlyGivenNames y2
  have hy2 : Frame 0x400c4900c8 s y2 := Frame.foldl _ _ _ (fun t3 a3 => (State.disable_frame ..).mono rfl)
    (Frame.refl _ _)
  exact Frame.foldl _ _ _ (fun t4 a4 => (State.portGone_frame ..).step rfl ((State.regroup_frame ..).mono rfl)) hy2

theorem State.toDisabled_frame (s : State) (l : Nat) : Frame 0x400c4900c8 s (State.toDisabled s l) := by
  unfold State.toDisabled
  exact (State.disableAll_frame ..).mono rfl

theorem State.clearFails_frame (s : State) (l : Nat) : Frame 0x8 s (State.clearFails s l) := by
  unfold State.clearFails
  exact (State.put_frame ..).mono rfl

theorem State.laneRestart_frame (s : State) (l : Nat) : Frame 0x400c4900c8 s (State.laneRestart s l) := by
  unfold State.laneRestart
  exact (State.laneStart_frame ..).step rfl ((State.toDisabled_frame ..).step rfl ((State.modLane_frame ..).step rfl
    ((State.clearFails_frame ..).mono rfl)))

theorem State.countLoss_frame (s : State) (l cause : Nat) : Frame 0x8 s (State.countLoss s l cause) := by
  unfold State.countLoss
  exact (State.setReg_frame ..).step rfl ((State.inc_frame ..).mono rfl)

theorem State.attemptLost_frame (s : State) (l last : Nat) : Frame 0x4480048 s (State.attemptLost s l last) := by
  unfold State.attemptLost
  extract_lets +onlyGivenNames y1
  extract_lets +onlyGivenNames y2
  extract_lets +onlyGivenNames y3
  have hy3 : Frame 0x4480048 s y3 := Frame.ite ((State.put_frame ..).mono rfl) (Frame.refl _ _)
  extract_lets +onlyGivenNames y4
  have hy4 : Frame 0x4480048 s y4 := (State.raise_frame ..).step rfl ((State.put_frame ..).step rfl hy3)
  extract_lets +onlyGivenNames y5
  have hy5 : Frame 0x4480048 s y5 := Frame.ite ((State.raise_frame ..).step rfl hy4) hy4
  exact (State.hunt_frame ..).step rfl ((State.emit_frame ..).step rfl ((State.modLane_frame ..).step rfl hy5))

theorem State.attemptFails_frame (s : State) (l last : Nat) : Frame 0xc4800c8 s (State.attemptFails s l last) := by
  unfold State.attemptFails
  exact (State.regroup_frame ..).step rfl ((State.attemptLost_frame ..).mono rfl)

theorem State.toUp_frame (s : State) (l : Nat) : Frame 0xc4800c8 s (State.toUp s l) := by
  unfold State.toUp
  extract_lets +onlyGivenNames y1
  have hy1 : Frame 0xc4800c8 s y1 := Frame.ite (Frame.refl _ _) ((State.raise_frame ..).mono rfl)
  exact (State.regroup_frame ..).step rfl ((State.laneArrives_frame ..).step rfl ((State.irqBit_frame ..).step rfl
    ((State.setLaneState_frame ..).step rfl hy1)))

theorem State.helloLeave_frame (s : State) (l : Nat) : Frame 0xc4800c8 s (State.helloLeave s l) := by
  unfold State.helloLeave
  extract_lets +onlyGivenNames y1
  extract_lets +onlyGivenNames y2
  refine Frame.ite ?_ ?_
  · refine Frame.ite ?_ ?_
    · exact (State.toUp_frame ..).mono rfl
    · extract_lets +onlyGivenNames y3
      exact (State.txOn_frame ..).step rfl ((State.modLane_frame ..).step rfl ((State.applyEq_frame ..).step rfl
        ((State.setRx_frame ..).step rfl ((State.setLaneState_frame ..).mono rfl))))
  · exact Frame.refl _ _

theorem State.stepLeave_frame (s : State) (l : Nat) : Frame 0xc4800c8 s (State.stepLeave s l) := by
  unfold State.stepLeave
  exact Frame.ite ((State.toUp_frame ..).step rfl ((State.sendOn_frame ..).mono rfl)) (Frame.refl _ _)

theorem State.qrefLost_frame (s : State) (n : Nat) : Frame 0x400c4900c8 s (State.qrefLost s n) := by
  unfold State.qrefLost
  extract_lets +onlyGivenNames y1
  exact (State.disableAll_frame ..).step rfl (Frame.foldl _ _ _ (fun t2 a2 => Frame.ite ((State.countLoss_frame
    ..).mono rfl) (Frame.refl _ _)) ((State.put_frame ..).mono rfl))

theorem State.qrefGained_frame (s : State) (n : Nat) : Frame 0xc4800c8 s (State.qrefGained s n) := by
  unfold State.qrefGained
  exact Frame.foldl _ _ _ (fun t1 a1 => (State.laneStart_frame ..).mono rfl) ((State.put_frame ..).mono rfl)

theorem State.qrefFollow_frame (s : State) (locked : Bool) : Frame 0x400c4900c8 s (State.qrefFollow s locked) := by
  unfold State.qrefFollow
  exact Frame.foldl _ _ _ (fun t1 a1 => Frame.ite (Frame.ite (Frame.ite (Frame.refl _ _) ((State.qrefGained_frame
    ..).mono rfl)) (Frame.ite ((State.qrefLost_frame ..).mono rfl) (Frame.refl _ _))) (Frame.refl _ _)) (Frame.refl _
    _)

theorem State.sendFrame0_frame (s : State) (l type : Nat) (seen : Bool) : Frame 0x40 s (State.sendFrame0 s l type
    seen) := by
  unfold State.sendFrame0
  exact Frame.ite ((State.emit_frame ..).mono rfl) (Frame.refl _ _)

theorem State.lanesDepart_frame (s : State) (notify : Bool) : Frame 0x400c4900c8 s (State.lanesDepart s notify) := by
  unfold State.lanesDepart
  extract_lets +onlyGivenNames y1
  exact (State.disableAll_frame ..).step rfl (Frame.ite (Frame.foldl _ _ _ (fun t2 a2 => Frame.ite (Frame.refl _ _)
    (Frame.ite ((State.sendOn_frame ..).mono rfl) (Frame.ite ((State.sendFrame0_frame ..).mono rfl) (Frame.refl _
    _)))) (Frame.refl _ _)) (Frame.refl _ _))

theorem execLaneStart_frame (l : Lane) (s : State) : ∃ nx, execLaneStart l s = .next nx ∧ Frame 0xc4800c8 s nx := by
  unfold execLaneStart
  exact ⟨_, rfl, (State.laneStart_frame ..).mono rfl⟩

theorem execLaneAlign_frame (l : Lane) (s : State) : ∃ nx, execLaneAlign l s = .next nx ∧ Frame 0x4480048 s nx := by
  unfold execLaneAlign
  exact ⟨_, rfl, Frame.ite ((State.put_frame ..).step rfl ((State.setLaneState_frame ..).mono rfl)) (Frame.refl _ _)⟩

theorem State.sendHello_frame (s : State) (l : Nat) : Frame 0xc4800c8 s (State.sendHello s l) := by
  unfold State.sendHello
  extract_lets +onlyGivenNames y1
  exact (State.helloLeave_frame ..).step rfl ((State.modLane_frame ..).step rfl ((State.sendFrame0_frame ..).mono
    rfl))

theorem execHelloSend_frame (l : Lane) (s : State) : ∃ nx, execHelloSend l s = .next nx ∧ Frame 0xc4800c8 s nx := by
  unfold execHelloSend
  exact ⟨_, rfl, Frame.ite ((State.sendHello_frame ..).mono rfl) (Frame.refl _ _)⟩

theorem State.mergeFails_frame (s : State) (l : Nat) (theirs : W8) : Frame 0x8 s (State.mergeFails s l theirs) := by
  unfold State.mergeFails
  exact Frame.foldl _ _ _ (fun t1 a1 => (State.put_frame ..).mono rfl) (Frame.refl _ _)

theorem State.storeHello_frame (s : State) (l : Nat) (h : HelloMsg) : Frame 0x8 s (State.storeHello s l h) := by
  unfold State.storeHello
  exact (State.setReg64_frame ..).step rfl ((State.setReg_frame ..).mono rfl)

theorem State.goodHello_frame (s : State) (l : Nat) (h : HelloMsg) : Frame 0x400c4900c8 s (State.goodHello s l h) :=
    by
  unfold State.goodHello
  extract_lets +onlyGivenNames y1
  extract_lets +onlyGivenNames y2
  extract_lets +onlyGivenNames y3
  extract_lets +onlyGivenNames y4
  have hy4 : Frame 0x400c4900c8 s y4 := Frame.ite ((State.clearFails_frame ..).mono rfl) (Frame.refl _ _)
  extract_lets +onlyGivenNames y5
  have hy5 : Frame 0x400c4900c8 s y5 := Frame.ite ((State.laneDeparts_frame ..).step rfl hy4) hy4
  extract_lets +onlyGivenNames y6
  have hy6 : Frame 0x400c4900c8 s y6 := (State.modLane_frame ..).step rfl ((State.mergeFails_frame ..).step rfl
    ((State.storeHello_frame ..).step rfl hy5))
  refine Frame.ite ?_ ?_
  · exact hy6
  · extract_lets +onlyGivenNames y7
    have hy7 : Frame 0x400c4900c8 s y7 := (State.put_frame ..).step rfl hy6
    extract_lets +onlyGivenNames y8
    have hy8 : Frame 0x400c4900c8 s y8 := (State.put_frame ..).step rfl hy7
    extract_lets +onlyGivenNames y9
    have hy9 : Frame 0x400c4900c8 s y9 := Frame.ite ((State.put_frame ..).step rfl hy8) hy8
    exact Frame.ite (Frame.ite ((State.regroup_frame ..).step rfl ((State.laneArrives_frame ..).step rfl hy9)) hy9)
      ((State.helloLeave_frame ..).step rfl hy9)

theorem State.takeHello_frame (s : State) (l : Nat) (x : HelloData) (code : Nat) : Frame 0x400c4900c8 s
    (State.takeHello s l x code) := by
  unfold State.takeHello
  extract_lets +onlyGivenNames y1
  have hy1 : Frame 0x400c4900c8 s y1 := (State.inc_frame ..).mono rfl
  exact Frame.ite ((State.goodHello_frame ..).step rfl hy1) (Frame.ite ((State.regroup_frame ..).step rfl
    ((State.laneDeparts_frame ..).step rfl hy1)) ((State.inc_frame ..).step rfl hy1))

theorem execHelloReceive_frame (l : Lane) (x : HelloIn) (s : State) : ∃ nx, execHelloReceive l x
    s = .next nx ∧ Frame 0x400c4900c8 s nx := by
  unfold execHelloReceive
  exact ⟨_, rfl, Frame.ite ((State.takeHello_frame ..).mono rfl) (Frame.refl _ _)⟩

theorem execDepartFrameReceive_frame (x : OnLane HelloData) (s : State) : ∃ nx, execDepartFrameReceive x s =
    .next nx ∧ Frame 0x400c4900c8 s nx := by
  unfold execDepartFrameReceive
  exact ⟨_, rfl, Frame.ite ((State.takeHello_frame ..).mono rfl) (Frame.refl _ _)⟩

theorem execBlockLock_frame (x : OnLane W10) (s : State) : ∃ nx, execBlockLock x s = .next nx ∧ Frame
    0xc4800c8 s nx := by
  unfold execBlockLock
  exact ⟨_, rfl, Frame.ite ((State.stepLeave_frame ..).step rfl ((State.modLane_frame ..).step rfl ((State.put_frame
    ..).mono rfl))) (Frame.refl _ _)⟩

theorem execTrainReceive_frame (l : Lane) (rxOk : Bool) (s : State) : ∃ nx, execTrainReceive l rxOk s = .next nx ∧
    Frame 0xc4800c8 s nx := by
  unfold execTrainReceive
  exact ⟨_, rfl, Frame.ite ((State.stepLeave_frame ..).step rfl ((State.modLane_frame ..).mono rfl)) (Frame.refl _ _)⟩

theorem execStepTimeout_frame (l : Lane) (s : State) : ∃ nx, execStepTimeout l s = .next nx ∧ Frame 0xc4800c8 s nx
    := by
  unfold execStepTimeout
  exact ⟨_, rfl, Frame.ite ((State.attemptFails_frame ..).mono rfl) (Frame.refl _ _)⟩

theorem execTxSquelchEnd_frame (l : Lane) (s : State) : ∃ nx, execTxSquelchEnd l s = .next nx ∧ Frame 0x4000040 s nx
    := by
  unfold execTxSquelchEnd
  refine ⟨_, rfl, ?_⟩
  refine Frame.ite ?_ ?_
  · extract_lets +onlyGivenNames y1
    have hy1 : Frame 0x4000040 s y1 := (State.modLane_frame ..).mono rfl
    exact Frame.ite ((State.txOn_frame ..).step rfl hy1) hy1
  · exact Frame.refl _ _

theorem execCdrLock_frame (l : Lane) (s : State) : ∃ nx, execCdrLock l s = .next nx ∧ Frame 0x4480048 s nx := by
  unfold execCdrLock
  exact ⟨_, rfl, Frame.ite ((State.irqBit_frame ..).step rfl ((State.put_frame ..).step rfl ((State.put_frame
    ..).step rfl ((State.setLaneState_frame ..).mono rfl)))) (Frame.refl _ _)⟩

theorem execSyncWindowEnd_frame (l : Lane) (errs : W11) (s : State) : ∃ nx, execSyncWindowEnd l errs s = .next nx ∧
    Frame 0x8 s nx := by
  unfold execSyncWindowEnd
  exact ⟨_, rfl, Frame.ite ((State.inc_frame ..).step rfl ((State.put_frame ..).step rfl ((State.inc_frame ..).mono
    rfl))) (Frame.refl _ _)⟩

theorem State.slipBit_frame (s : State) (l : Nat) : Frame 0x8 s (State.slipBit s l) := by
  unfold State.slipBit
  exact Frame.ite ((State.put_frame ..).step rfl ((State.put_frame ..).step rfl ((State.put_frame ..).mono rfl)))
    (Frame.refl _ _)

theorem State.acceptSlip_frame (s : State) (l : Nat) : Frame 0xc4800c8 s (State.acceptSlip s l) := by
  unfold State.acceptSlip
  exact Frame.ite ((State.toUp_frame ..).mono rfl) ((State.raise_frame ..).mono rfl)

theorem execSlip_frame (l : Lane) (s : State) : ∃ nx, execSlip l s = .next nx ∧ Frame 0x8 s nx := by
  unfold execSlip
  exact ⟨_, rfl, State.access_frame rfl _ _ _ (fun t1 => (State.slipBit_frame ..).mono rfl)⟩

theorem execAccept_frame (l : Lane) (s : State) : ∃ nx, execAccept l s = .next nx ∧ Frame 0xc4800c8 s nx := by
  unfold execAccept
  exact ⟨_, rfl, State.access_frame rfl _ _ _ (fun t1 => (State.acceptSlip_frame ..).mono rfl)⟩

theorem execSlipLimit_frame (l : Lane) (s : State) : ∃ nx, execSlipLimit l s = .next nx ∧ Frame 0xc4800c8 s nx := by
  unfold execSlipLimit
  exact ⟨_, rfl, Frame.ite ((State.attemptFails_frame ..).mono rfl) (Frame.refl _ _)⟩

theorem State.lossOf_frame (s : State) (l cause : Nat) : Frame 0x4480048 s (State.lossOf s l cause) := by
  unfold State.lossOf
  extract_lets +onlyGivenNames y1
  have hy1 : Frame 0x4480048 s y1 := (State.countLoss_frame ..).mono rfl
  extract_lets +onlyGivenNames y2
  have hy2 : Frame 0x4480048 s y2 := Frame.ite ((State.put_frame ..).step rfl hy1) hy1
  exact Frame.ite ((State.hunt_frame ..).step rfl hy2) (Frame.ite ((State.hunt_frame ..).step rfl
    ((State.irqBit_frame ..).step rfl ((State.raise_frame ..).step rfl hy2))) ((State.attemptLost_frame ..).step rfl
    hy2))

theorem State.lossMet_frame (s : State) (l cause : Nat) : Frame 0x4480048 s (State.lossMet s l cause) := by
  unfold State.lossMet
  exact Frame.ite ((State.lossOf_frame ..).mono rfl) (Frame.ite ((State.put_frame ..).mono rfl) (Frame.refl _ _))

theorem execLockLoss_frame (l : Lane) (x : Losses) (s : State) : ∃ nx,
    execLockLoss l x s = .next nx ∧ Frame 0xc4800c8 s nx := by
  unfold execLockLoss
  refine ⟨_, rfl, ?_⟩
  extract_lets +onlyGivenNames y1
  have hy1 : Frame 0xc4800c8 s y1 := Frame.ite ((State.inc_frame ..).mono rfl) (Frame.refl _ _)
  extract_lets +onlyGivenNames y2
  extract_lets +onlyGivenNames y3
  exact (State.regroupAll_frame ..).step rfl (Frame.foldl _ _ _ (fun t4 a4 => (State.lossMet_frame ..).mono rfl) hy1)

theorem State.modeCheck_frame (s : State) (e : Nat) : Frame 0x480048 s (State.modeCheck s e) := by
  unfold State.modeCheck
  exact Frame.ite ((State.raise_frame ..).mono rfl) (Frame.refl _ _)

theorem State.writeLaneCfg_frame (s : State) (l : Nat) (v : W32) : Frame 0x400c4900c8 s (State.writeLaneCfg s l v)
    := by
  unfold State.writeLaneCfg
  extract_lets +onlyGivenNames y1
  refine Frame.ite ?_ ?_
  · exact (State.badAccess_frame ..).mono rfl
  · refine Frame.trans ?_ (State.scoped_frame rfl _ _ _ _ (fun x20 t2 => ?_))
    · exact Frame.refl _ _
    · extract_lets +onlyGivenNames y3
      refine Frame.ite ?_ ?_
      · exact Frame.refl _ _
      · extract_lets +onlyGivenNames y4
        have hy4 : Frame 0x400c4900c8 t2 y4 := (State.laneRestart_frame ..).mono rfl
        extract_lets +onlyGivenNames y5
        have hy5 : Frame 0x400c4900c8 t2 y5 := Frame.ite ((State.regroup_frame ..).step rfl ((State.modeCheck_frame
          ..).step rfl hy4)) hy4
        exact (State.portRate_frame ..).step rfl hy5

theorem execLaneCfgWrite_frame (l : Lane) (v : W32) (s : State) : ∃ nx, execLaneCfgWrite l v s = .next nx ∧ Frame
    0x400c4900c8 s nx := by
  unfold execLaneCfgWrite
  exact ⟨_, rfl, State.access_frame rfl _ _ _ (fun t1 => (State.writeLaneCfg_frame ..).mono rfl)⟩

theorem State.retrain_frame (s : State) (l : Nat) : Frame 0x400c4900c8 s (State.retrain s l) := by
  unfold State.retrain
  exact Frame.ite ((State.liveDrop_frame ..).mono rfl) ((State.laneRestart_frame ..).mono rfl)

theorem execRetrain_frame (l : Lane) (s : State) : ∃ nx, execRetrain l s = .next nx ∧ Frame 0x400c4900c8 s nx := by
  unfold execRetrain
  exact ⟨_, rfl, State.access_frame rfl _ _ _ (fun t1 => (State.retrain_frame ..).mono rfl)⟩

theorem State.writeQref_frame (s : State) (l : Nat) (v : W32) : Frame 0x400c4900c8 s (State.writeQref s l v) := by
  unfold State.writeQref
  refine Frame.ite ?_ ?_
  · exact Frame.refl _ _
  · refine Frame.trans ?_ (State.scoped_frame rfl _ _ _ _ (fun x10 t1 => ?_))
    · exact Frame.refl _ _
    · refine Frame.ite ?_ ?_
      · exact Frame.refl _ _
      · extract_lets +onlyGivenNames y2
        have hy2 : Frame 0x400c4900c8 t1 y2 := (State.put_frame ..).mono rfl
        exact Frame.foldl _ _ _ (fun t3 a3 => (State.laneRestart_frame ..).mono rfl) hy2

theorem execQrefSelWrite_frame (l : Lane) (sel : Bool) (s : State) : ∃ nx, execQrefSelWrite l sel s = .next nx ∧
    Frame 0x400c4900c8 s nx := by
  unfold execQrefSelWrite
  exact ⟨_, rfl, State.access_frame rfl _ _ _ (fun t1 => (State.writeQref_frame ..).mono rfl)⟩

theorem execQrefLock_frame (n : LaneQuad) (s : State) : ∃ nx, execQrefLock n s = .next nx ∧ Frame 0xc4800c8 s nx := by
  unfold execQrefLock
  exact ⟨_, rfl, Frame.ite ((State.qrefGained_frame ..).mono rfl) (Frame.refl _ _)⟩

theorem execQrefUnlock_frame (n : LaneQuad) (s : State) : ∃ nx, execQrefUnlock n s = .next nx ∧ Frame 0x400c4900c8 s
    nx := by
  unfold execQrefUnlock
  exact ⟨_, rfl, Frame.ite ((State.qrefLost_frame ..).mono rfl) (Frame.refl _ _)⟩

theorem execSignalDetect_frame (l : Lane) (s : State) : ∃ nx, execSignalDetect l s = .next nx ∧ Frame 0x8 s nx := by
  unfold execSignalDetect
  exact ⟨_, rfl, Frame.ite ((State.put_frame ..).mono rfl) (Frame.refl _ _)⟩

theorem State.portUp_frame (s : State) (e : Nat) : Frame 0xc480048 s (State.portUp s e) := by
  unfold State.portUp
  extract_lets +onlyGivenNames y1
  have hy1 : Frame 0xc480048 s y1 := Frame.foldl _ _ _ (fun t2 a2 => (State.irqBit_frame ..).step rfl
    ((State.put_frame ..).step rfl ((State.setLaneState_frame ..).mono rfl))) (Frame.refl _ _)
  extract_lets +onlyGivenNames y3
  have hy3 : Frame 0xc480048 s y3 := (State.modLane_frame ..).step rfl ((State.put_frame ..).step rfl hy1)
  exact (State.showLink_frame ..).step rfl (Frame.ite hy3 ((State.linkArrives_frame ..).step rfl hy3))

theorem execEthPortAligned_frame (l : Lane) (s : State) : ∃ nx, execEthPortAligned l s = .next nx ∧ Frame 0xc480048
    s nx := by
  unfold execEthPortAligned
  refine ⟨_, rfl, ?_⟩
  extract_lets +onlyGivenNames y1
  exact Frame.ite ((State.portUp_frame ..).mono rfl) (Frame.refl _ _)

theorem execEthLockLoss_frame (l : Lane) (s : State) : ∃ nx, execEthLockLoss l s = .next nx ∧ Frame 0x4480048 s nx
    := by
  unfold execEthLockLoss
  exact ⟨_, rfl, Frame.ite ((State.portDown_frame ..).step rfl ((State.irqBit_frame ..).step rfl ((State.raise_frame
    ..).mono rfl))) (Frame.ite ((State.put_frame ..).mono rfl) (Frame.refl _ _))⟩

theorem execPrbsCheckLock_frame (x : OnLane (BitVec 95)) (s : State) : ∃ nx, execPrbsCheckLock x s = .next nx
    ∧ Frame 0x8 s nx := by
  unfold execPrbsCheckLock
  exact ⟨_, rfl, Frame.ite ((State.put_frame ..).mono rfl) (Frame.refl _ _)⟩

theorem State.prbsCount_frame (s : State) (l : Nat) (errs : W32) (bits : W64) : Frame 0x4000008 s (State.prbsCount s
    l errs bits) := by
  unfold State.prbsCount
  exact Frame.ite ((State.modLane_frame ..).step rfl ((State.inc_frame ..).mono rfl)) (Frame.refl _ _)

theorem execPrbsCheckUnlock_frame (l : Lane) (errs : W32) (bits : W64) (s : State) : ∃ nx, execPrbsCheckUnlock l
    errs bits s = .next nx ∧ Frame 0x4000008 s nx := by
  unfold execPrbsCheckUnlock
  exact ⟨_, rfl, Frame.ite ((State.prbsCount_frame ..).mono rfl) ((State.put_frame ..).step rfl
    ((State.prbsCount_frame ..).mono rfl))⟩

theorem State.readPrbs_frame (s : State) (l : Nat) : Frame 0x4000028 s (State.readPrbs s l) := by
  unfold State.readPrbs
  extract_lets +onlyGivenNames y1
  have hy1 : Frame 0x4000028 s y1 := (State.modLane_frame ..).step rfl ((State.setReg_frame ..).step rfl
    ((State.setReg_frame ..).mono rfl))
  exact Frame.trans hy1 (upd_readData rfl)

theorem execPrbsErrRead_frame (l : Lane) (errs : W32) (bits : W64) (s : State) : ∃ nx, execPrbsErrRead l errs bits s
    = .next nx ∧ Frame 0x4000028 s nx := by
  unfold execPrbsErrRead
  exact ⟨_, rfl, State.readAccess_frame rfl _ _ _ (fun t1 => (State.readPrbs_frame ..).step rfl
    ((State.prbsCount_frame ..).mono rfl))⟩

theorem State.eyeGo_frame (s : State) (l : Nat) : Frame 0x4480048 s (State.eyeGo s l) := by
  unfold State.eyeGo
  exact Frame.ite ((State.modLane_frame ..).step rfl ((State.put_frame ..).step rfl ((State.put_frame ..).mono
    rfl))) ((State.raise_frame ..).mono rfl)

theorem State.eyeAbort_frame (s : State) (l : Nat) : Frame 0x4000000 s (State.eyeAbort s l) := by
  unfold State.eyeAbort
  exact (State.modLane_frame ..).mono rfl

theorem State.writeEye_frame (s : State) (l : Nat) (v : W32) : Frame 0x4480048 s (State.writeEye s l v) := by
  unfold State.writeEye
  refine Frame.trans ?_ (State.scoped_frame rfl _ _ _ _ (fun x10 t1 => ?_))
  · exact Frame.refl _ _
  · extract_lets +onlyGivenNames y2
    have hy2 : Frame 0x4480048 t1 y2 := Frame.ite ((State.eyeGo_frame ..).mono rfl) (Frame.refl _ _)
    exact Frame.ite ((State.eyeAbort_frame ..).step rfl hy2) hy2

theorem execEyeSweepGo_frame (l : Lane) (v : W32) (s : State) : ∃ nx, execEyeSweepGo l v s = .next nx ∧ Frame
    0x4480048 s nx := by
  unfold execEyeSweepGo
  exact ⟨_, rfl, State.access_frame rfl _ _ _ (fun t1 => (State.writeEye_frame ..).mono rfl)⟩

theorem execEyeSweepAbort_frame (l : Lane) (s : State) : ∃ nx, execEyeSweepAbort l s = .next nx ∧ Frame 0x4000008 s
    nx := by
  unfold execEyeSweepAbort
  exact ⟨_, rfl, State.access_frame rfl _ _ _ (fun t1 => (State.eyeAbort_frame ..).mono rfl)⟩

theorem execEyePointDone_frame (l : Lane) (dis : W32) (s : State) : ∃ nx, execEyePointDone l dis s = .next nx ∧
    Frame 0x4480048 s nx := by
  unfold execEyePointDone
  refine ⟨_, rfl, ?_⟩
  split
  · exact Frame.refl _ _
  · refine Frame.ite ?_ ?_
    · exact (State.eyeEnd_frame ..).mono rfl
    · extract_lets +onlyGivenNames y1
      extract_lets +onlyGivenNames y2
      refine Frame.ite ?_ ?_
      · extract_lets +onlyGivenNames y3
        have hy3 : Frame 0x4480048 s y3 := (State.put_frame ..).mono rfl
        exact Frame.ite ((State.eyeEnd_frame ..).step rfl hy3) ((State.modLane_frame ..).step rfl hy3)
      · exact (State.modLane_frame ..).mono rfl

theorem State.setPair_frame (s : State) (key : Nat) (v : W64) : Frame 0x400000000 s (State.setPair s key v) := by
  unfold State.setPair
  exact upd_pairs rfl

theorem State.setLoWritten_frame (s : State) (key : Nat) (b : Bool) : Frame 0x800000000 s (State.setLoWritten s key
    b) := by
  unfold State.setLoWritten
  exact upd_pairLo rfl

theorem State.commitPair_frame (s : State) (key : Nat) : Frame 0xc00000000 s (State.commitPair s key) := by
  unfold State.commitPair
  exact (State.setLoWritten_frame ..).step rfl ((State.setPair_frame ..).mono rfl)

theorem State.movePair_frame (s : State) (key : Nat) (v : W64) : Frame 0x400000008 s (State.movePair s key v) := by
  unfold State.movePair
  exact (State.setPair_frame ..).step rfl (Frame.ite ((State.setReg_frame ..).mono rfl) ((State.setReg64_frame
    ..).mono rfl))

theorem State.endSlew_frame (s : State) : Frame 0x48004c s (State.endSlew s) := by
  unfold State.endSlew
  extract_lets +onlyGivenNames y1
  extract_lets +onlyGivenNames y2
  exact (State.irqBit_frame ..).step rfl (upd_time rfl)

theorem State.advanceRaw_frame (s : State) : Frame 0x48004a s (State.advanceRaw s) := by
  unfold State.advanceRaw
  extract_lets +onlyGivenNames y1
  extract_lets +onlyGivenNames _ y2
  have hy2 : Frame 0x48004a s y2 := upd_kept rfl
  exact Frame.ite ((State.irqBit_frame ..).step rfl hy2) hy2

theorem State.setEec_frame (s : State) (st : Nat) : Frame 0x8 s (State.setEec s st) := by
  unfold State.setEec
  exact (State.put_frame ..).mono rfl

theorem State.track_frame (s : State) (sec : Bool) : Frame 0x8 s (State.track s sec) := by
  unfold State.track
  exact (State.setReg_frame ..).step rfl ((State.put_frame ..).mono rfl)

theorem State.eecAcquire_frame (s : State) : Frame 0x8 s (State.eecAcquire s) := by
  unfold State.eecAcquire
  exact Frame.ite ((State.track_frame ..).step rfl ((State.setEec_frame ..).mono rfl)) (Frame.refl _ _)

theorem State.eecLockOn_frame (s : State) (sec : Bool) : Frame 0x400c4900cc s (State.eecLockOn s sec) := by
  unfold State.eecLockOn
  extract_lets +onlyGivenNames y1
  have hy1 : Frame 0x400c4900cc s y1 := (State.irqBit_frame ..).step rfl ((State.track_frame ..).step rfl
    ((State.setEec_frame ..).mono rfl))
  exact (State.qrefFollow_frame ..).step rfl (Frame.trans hy1 (upd_time rfl))

theorem State.eecLose_frame (s : State) : Frame 0x400c4900c8 s (State.eecLose s) := by
  unfold State.eecLose
  exact Frame.ite (Frame.ite ((State.track_frame ..).mono rfl) ((State.eecAcquire_frame ..).step rfl
    ((State.setEec_frame ..).mono rfl))) (Frame.ite (Frame.ite ((State.raise_frame ..).step rfl ((State.setEec_frame
    ..).mono rfl)) ((State.eecAcquire_frame ..).step rfl ((State.qrefFollow_frame ..).step rfl ((State.raise_frame
    ..).step rfl ((State.setEec_frame ..).mono rfl))))) (Frame.refl _ _))

theorem State.eecOff_frame (s : State) : Frame 0x400c4900c8 s (State.eecOff s) := by
  unfold State.eecOff
  exact (State.qrefFollow_frame ..).step rfl ((State.setEec_frame ..).mono rfl)

theorem State.eecReconfig_frame (s : State) (old : W32) : Frame 0x400c4900cc s (State.eecReconfig s old) := by
  unfold State.eecReconfig
  extract_lets +onlyGivenNames y1
  extract_lets +onlyGivenNames y2
  extract_lets +onlyGivenNames y3
  extract_lets +onlyGivenNames y4
  extract_lets +onlyGivenNames y5
  have hy5 : Frame 0x400c4900cc s y5 := (State.put_frame ..).step rfl ((State.put_frame ..).mono rfl)
  extract_lets +onlyGivenNames _ y6
  have hy6 : Frame 0x400c4900cc s y6 := Frame.trans hy5 (upd_time rfl)
  exact Frame.ite (Frame.ite hy6 ((State.eecOff_frame ..).step rfl hy6)) (Frame.ite ((State.eecAcquire_frame
    ..).step rfl hy6) (Frame.ite ((State.track_frame ..).step rfl hy6) (Frame.ite ((State.track_frame ..).step rfl
    hy6) ((State.eecLose_frame ..).step rfl hy6))))

theorem State.ringWrite_frame (s : State) (who : Req) (base size pos : Nat) (bs : Bytes) : Frame 0xc004c0158 s
    (State.ringWrite s who base size pos bs) := by
  unfold State.ringWrite
  extract_lets +onlyGivenNames y1
  extract_lets +onlyGivenNames y2
  extract_lets +onlyGivenNames y3
  have hy3 : Frame 0xc004c0158 s y3 := (State.devWrite_frame ..).mono rfl
  exact (State.devWrite_frame ..).step rfl hy3

theorem State.ringRead_frame (s : State) (who : Req) (base size pos n : Nat) : Frame 0xc004c0158 s (State.ringRead s
    who base size pos n).1 := by
  unfold State.ringRead
  extract_lets +onlyGivenNames y1
  extract_lets +onlyGivenNames y2
  extract_lets +onlyGivenNames y3
  have hy3 : Frame 0xc004c0158 s y3.1 := (State.devRead_frame ..).mono rfl
  refine Frame.iteF Prod.fst ?_ ?_
  · exact hy3
  · extract_lets +onlyGivenNames y4
    have hy4 : Frame 0xc004c0158 s y4.1 := (State.devRead_frame ..).step rfl hy3
    exact hy4

theorem State.ptpDeliver_frame (s : State) (e : Nat) (raw : Bytes) (ecpri : Bool) : Frame 0xc004d0158 s
    (State.ptpDeliver s e raw ecpri) := by
  unfold State.ptpDeliver
  extract_lets +onlyGivenNames y1
  extract_lets +onlyGivenNames y2
  refine Frame.ite ?_ ?_
  · exact Frame.refl _ _
  · extract_lets +onlyGivenNames y3
    extract_lets +onlyGivenNames y4
    extract_lets +onlyGivenNames y5
    extract_lets +onlyGivenNames y6
    extract_lets +onlyGivenNames y7
    extract_lets +onlyGivenNames y8
    extract_lets +onlyGivenNames y9
    extract_lets +onlyGivenNames y10
    have hy10 : Frame 0xc004d0158 s y10 := (State.ringWrite_frame ..).mono rfl
    extract_lets +onlyGivenNames y11
    have hy11 : Frame 0xc004d0158 s y11 := (State.irqBit_frame ..).step rfl ((State.setReg_frame ..).step rfl hy10)
    exact Frame.ite ((State.settle_frame ..).step rfl ((State.evtAdd_frame ..).step rfl hy11)) hy11

theorem State.setTsQueue_frame (s : State) (q : Nat) (l : List (BitVec 128)) : Frame 0x2000000000 s
    (State.setTsQueue s q l) := by
  unfold State.setTsQueue
  exact upd_tsq rfl

theorem State.takeTimestamp_frame (s : State) (q : Nat) (r : TsReq) : Frame 0x2000480048 s (State.takeTimestamp s q
    r).1 := by
  unfold State.takeTimestamp
  extract_lets +onlyGivenNames y1
  extract_lets +onlyGivenNames y2
  have hy2 : Frame 0x2000480048 s y2 := (State.put_frame ..).mono rfl
  extract_lets +onlyGivenNames y3
  extract_lets +onlyGivenNames y4
  extract_lets +onlyGivenNames y5
  exact Frame.ite ((State.raise_frame ..).step rfl ((State.inc_frame ..).step rfl ((State.put_frame ..).step rfl
    hy2))) ((State.irqBit_frame ..).step rfl ((State.setTsQueue_frame ..).step rfl hy2))

theorem State.setLate_frame (s : State) (q k : Nat) (b : Bool) : Frame 0x1000000000 s (State.setLate s q k b) := by
  unfold State.setLate
  exact upd_slotLate rfl

theorem State.slotOff_frame (s : State) (q k : Nat) : Frame 0x1000000008 s (State.slotOff s q k) := by
  unfold State.slotOff
  exact (State.setLate_frame ..).step rfl ((State.put_frame ..).mono rfl)

theorem State.markLate_frame (s t : State) : Frame 0x1000000000 t (State.markLate s t) := by
  unfold State.markLate
  refine Frame.foldl _ _ _ (fun t1 a1 => ?_) (Frame.refl _ _)
  refine Frame.foldl _ _ _ (fun t2 a2 => ?_) (Frame.refl _ _)
  exact Frame.ite ((State.setLate_frame ..).mono rfl) (Frame.refl _ _)

theorem State.setSends_frame (s : State) (q : Nat) (l : List SendReq) : Frame 0x10000000 s (State.setSends s q l) :=
    by
  unfold State.setSends
  exact upd_sends rfl

theorem State.requestSends_frame (s : State) (q first span n : Nat) : Frame 0x10480048 s (State.requestSends s q
    first span n) := by
  unfold State.requestSends
  refine Frame.ite ?_ ?_
  · exact (State.raise_frame ..).mono rfl
  · extract_lets +onlyGivenNames y1
    exact (State.setSends_frame ..).mono rfl

theorem State.slotAct_frame (s : State) (q k : Nat) : Frame 0x8010490048 s (State.slotAct s q k) := by
  unfold State.slotAct
  extract_lets +onlyGivenNames y1
  extract_lets +onlyGivenNames y2
  split
  · refine Frame.ite ?_ ?_
    · extract_lets +onlyGivenNames y3
      extract_lets +onlyGivenNames y4
      exact upd_lenReads rfl
    · exact (State.requestSends_frame ..).mono rfl
  · exact (State.settle_frame ..).step rfl ((State.evtAdd_frame ..).mono rfl)
  · exact Frame.refl _ _

theorem State.slotNext_frame (s : State) (q k : Nat) : Frame 0x1400000008 s (State.slotNext s q k) := by
  unfold State.slotNext
  extract_lets +onlyGivenNames y1
  refine Frame.ite ?_ ?_
  · exact (State.slotOff_frame ..).mono rfl
  · extract_lets +onlyGivenNames y2
    exact (State.inc_frame ..).step rfl ((State.movePair_frame ..).mono rfl)

theorem State.deliverSlot_frame (s : State) (q k : Nat) : Frame 0x9410490048 s (State.deliverSlot s q k) := by
  unfold State.deliverSlot
  extract_lets +onlyGivenNames y1
  have hy1 : Frame 0x9410490048 s y1 := (State.setReg64_frame ..).mono rfl
  extract_lets +onlyGivenNames y2
  have hy2 : Frame 0x9410490048 s y2 := Frame.ite ((State.setLate_frame ..).step rfl ((State.irqBit_frame ..).step
    rfl ((State.put_frame ..).step rfl hy1))) hy1
  extract_lets +onlyGivenNames y3
  have hy3 : Frame 0x9410490048 s y3 := Frame.ite ((State.slotAct_frame ..).step rfl hy2) ((State.put_frame ..).step
    rfl hy2)
  exact (State.slotNext_frame ..).step rfl hy3

theorem State.timeMarks_frame (s : State) : Frame 0x10008 s (State.timeMarks s) := by
  unfold State.timeMarks
  extract_lets +onlyGivenNames y1
  have hy1 : Frame 0x10008 s y1 := (State.mapTasks_frame ..).mono rfl
  exact (State.settle_frame ..).step rfl ((State.mapTasks_frame ..).step rfl hy1)

theorem State.makeStep_frame (s old : State) (pt : W64) (epoch : W16) : Frame 0x100049004c s (State.makeStep s old
    pt epoch) := by
  unfold State.makeStep
  extract_lets +onlyGivenNames _ y1
  have hy1 : Frame 0x100049004c s y1 := upd_time rfl
  exact (State.timeMarks_frame ..).step rfl ((State.markLate_frame ..).step rfl ((State.irqBit_frame ..).step rfl
    ((State.put_frame ..).step rfl hy1)))

theorem State.cycle_frame (s : State) : Frame 0x100049004e s (State.cycle s) := by
  unfold State.cycle
  extract_lets +onlyGivenNames y1
  have hy1 : Frame 0x100049004e s y1 := (State.advanceRaw_frame ..).step rfl ((State.vaneTick_frame ..).mono rfl)
  split
  · exact (State.makeStep_frame ..).step rfl hy1
  · extract_lets +onlyGivenNames y2
    have hy2 : Frame 0x100049004e s y2 := Frame.ite ((State.endSlew_frame ..).step rfl hy1) hy1
    exact Frame.ite (Frame.trans hy2 (upd_time rfl)) hy2

theorem execRawWrap_frame (s : State) : ∃ nx, execRawWrap s = .next nx ∧ Frame 0x100049004e s nx := by
  unfold execRawWrap
  exact ⟨_, rfl, Frame.ite ((State.cycle_frame ..).mono rfl) (Frame.refl _ _)⟩

theorem execPtWrap_frame (s : State) : ∃ nx, execPtWrap s = .next nx ∧ Frame 0x100049004e s nx := by
  unfold execPtWrap
  exact ⟨_, rfl, Frame.ite ((State.cycle_frame ..).mono rfl) (Frame.refl _ _)⟩

theorem State.commitRate_frame (s : State) (v : W32) : Frame 0xc s (State.commitRate s v) := by
  unfold State.commitRate
  extract_lets +onlyGivenNames y1
  refine Frame.ite ?_ ?_
  · exact (State.badAccess_frame ..).mono rfl
  · extract_lets +onlyGivenNames y2
    have hy2 : Frame 0xc s y2 := (State.setReg_frame ..).mono rfl
    refine Frame.ite ?_ ?_
    · exact hy2
    · extract_lets +onlyGivenNames y3
      have hy3 : Frame 0xc s y3 := (State.rebase_frame ..).step rfl hy2
      exact Frame.trans hy3 (upd_time rfl)

theorem execRateCommit_frame (v : W32) (s : State) : ∃ nx, execRateCommit v s = .next nx ∧ Frame 0xc s nx := by
  unfold execRateCommit
  exact ⟨_, rfl, State.access_frame rfl _ _ _ (fun t1 => (State.commitRate_frame ..).mono rfl)⟩

theorem State.snapshot_frame (s : State) : Frame 0x8 s (State.snapshot s) := by
  unfold State.snapshot
  exact (State.setReg_frame ..).step rfl ((State.setReg64_frame ..).step rfl ((State.setReg64_frame ..).mono rfl))

theorem execSnap_frame (s : State) : ∃ nx, execSnap s = .next nx ∧ Frame 0x8 s nx := by
  unfold execSnap
  exact ⟨_, rfl, State.access_frame rfl _ _ _ (fun t1 => (State.snapshot_frame ..).mono rfl)⟩

theorem State.adjust_frame (s : State) (v : W32) : Frame 0x48004c s (State.adjust s v) := by
  unfold State.adjust
  extract_lets +onlyGivenNames y1
  refine Frame.ite ?_ ?_
  · exact (State.raise_frame ..).mono rfl
  · refine Frame.ite ?_ ?_
    · refine Frame.ite ?_ ?_
      · extract_lets +onlyGivenNames y2
        have hy2 : Frame 0x48004c s y2 := (State.rebase_frame ..).mono rfl
        exact (State.irqBit_frame ..).step rfl (Frame.trans hy2 (upd_time rfl))
      · exact Frame.refl _ _
    · refine Frame.ite ?_ ?_
      · exact upd_time rfl
      · extract_lets +onlyGivenNames y3
        have hy3 : Frame 0x48004c s y3 := (State.rebase_frame ..).mono rfl
        exact Frame.trans hy3 (upd_time rfl)

theorem execFtbAdjWrite_frame (v : W32) (s : State) : ∃ nx, execFtbAdjWrite v s = .next nx ∧ Frame 0x48004c s nx := by
  unfold execFtbAdjWrite
  exact ⟨_, rfl, State.access_frame rfl _ _ _ (fun t1 => (State.adjust_frame ..).mono rfl)⟩

theorem execSlewDone_frame (s : State) : ∃ nx, execSlewDone s = .next nx ∧ Frame 0x100049004e s nx := by
  unfold execSlewDone
  exact ⟨_, rfl, Frame.ite ((State.cycle_frame ..).mono rfl) (Frame.refl _ _)⟩

theorem State.stepTime_frame (s : State) (epoch : W16) : Frame 0x4 s (State.stepTime s epoch) := by
  unfold State.stepTime
  exact upd_time rfl

theorem execFtbStep_frame (epoch : W16) (s : State) : ∃ nx, execFtbStep epoch s = .next nx ∧ Frame 0xc s nx := by
  unfold execFtbStep
  exact ⟨_, rfl, State.access_frame rfl _ _ _ (fun t1 => (State.stepTime_frame ..).mono rfl)⟩

theorem execEecInputQualify_frame (sec : Bool) (freq : W32) (s : State) : ∃ nx, execEecInputQualify sec freq s =
    .next nx ∧ Frame 0xc s nx := by
  unfold execEecInputQualify
  refine ⟨_, rfl, ?_⟩
  extract_lets +onlyGivenNames y1
  refine Frame.ite ?_ ?_
  · extract_lets +onlyGivenNames y2
    have hy2 : Frame 0xc s y2 := Frame.ite ((State.put_frame ..).mono rfl) ((State.put_frame ..).mono rfl)
    extract_lets +onlyGivenNames y3
    extract_lets +onlyGivenNames _ y4
    have hy4 : Frame 0xc s y4 := Frame.trans hy2 (upd_time rfl)
    extract_lets +onlyGivenNames y5
    have hy5 : Frame 0xc s y5 := Frame.ite ((State.setReg_frame ..).step rfl hy4) hy4
    exact (State.eecAcquire_frame ..).step rfl hy5
  · exact Frame.refl _ _

theorem execEecInputDisqualify_frame (sec : Bool) (s : State) : ∃ nx, execEecInputDisqualify sec s = .next nx ∧
    Frame 0x400c4900c8 s nx := by
  unfold execEecInputDisqualify
  refine ⟨_, rfl, ?_⟩
  extract_lets +onlyGivenNames y1
  have hy1 : Frame 0x400c4900c8 s y1 := Frame.ite ((State.put_frame ..).mono rfl) ((State.put_frame ..).mono rfl)
  exact Frame.ite ((State.eecLose_frame ..).step rfl hy1) hy1

theorem execEecLock_frame (s : State) : ∃ nx, execEecLock s = .next nx ∧ Frame 0x400c4900cc s nx := by
  unfold execEecLock
  exact ⟨_, rfl, Frame.ite ((State.eecLockOn_frame ..).mono rfl) (Frame.refl _ _)⟩

theorem execEecRevert_frame (s : State) : ∃ nx, execEecRevert s = .next nx ∧ Frame 0x400c4900cc s nx := by
  unfold execEecRevert
  exact ⟨_, rfl, Frame.ite ((State.eecLockOn_frame ..).mono rfl) (Frame.refl _ _)⟩

theorem execEecHoldoverExit_frame (sec : Bool) (s : State) : ∃ nx, execEecHoldoverExit sec s = .next nx ∧ Frame
    0x400c4900cc s nx := by
  unfold execEecHoldoverExit
  exact ⟨_, rfl, Frame.ite ((State.eecLockOn_frame ..).mono rfl) (Frame.refl _ _)⟩

theorem execEecDisable_frame (s : State) : ∃ nx, execEecDisable s = .next nx ∧ Frame 0x400c4900cc s nx := by
  unfold execEecDisable
  exact ⟨_, rfl, State.access_frame rfl _ _ _ (fun t1 => (State.eecReconfig_frame ..).step rfl ((State.put_frame
    ..).mono rfl))⟩

theorem execPtpReceive_frame (l : Lane) (bytes : Bytes) (s : State) : ∃ nx, execPtpReceive l bytes s = .next nx ∧
    Frame 0xc004d0158 s nx := by
  unfold execPtpReceive
  refine ⟨_, rfl, ?_⟩
  extract_lets +onlyGivenNames y1
  exact Frame.ite (Frame.refl _ _) (Frame.ite ((State.ptpDeliver_frame ..).step rfl ((State.inc_frame ..).mono rfl))
    ((State.inc_frame ..).mono rfl))

theorem State.ptpResult_frame (s : State) (q res : Nat) : Frame 0x480048 s (State.ptpResult s q res) := by
  unfold State.ptpResult
  exact (State.irqBit_frame ..).step rfl ((State.put_frame ..).step rfl ((State.put_frame ..).mono rfl))

theorem State.ptpGo_frame (s : State) (q : Nat) (v : W32) : Frame 0x14c004c0158 s (State.ptpGo s q v) := by
  unfold State.ptpGo
  extract_lets +onlyGivenNames y1
  refine Frame.ite ?_ ?_
  · exact (State.badAccess_frame ..).mono rfl
  · refine Frame.ite ?_ ?_
    · exact (State.ptpResult_frame ..).mono rfl
    · extract_lets +onlyGivenNames y2
      extract_lets +onlyGivenNames y3
      have hy3 : Frame 0x14c004c0158 s y3.1 := (State.devRead_frame ..).mono rfl
      extract_lets +onlyGivenNames y4
      have hy4 : Frame 0x14c004c0158 s y4 := (State.put_frame ..).step rfl hy3
      extract_lets +onlyGivenNames y5
      have hy5 : Frame 0x14c004c0158 s y5 := Frame.trans hy4 (upd_ptpTx rfl)
      exact Frame.ite ((State.setTsWaiting_frame ..).step rfl hy5) hy5

theorem execPtpTxGo_frame (q : Quad) (v : W32) (s : State) : ∃ nx, execPtpTxGo q v s = .next nx ∧ Frame
    0x14c004c0158 s nx := by
  unfold execPtpTxGo
  exact ⟨_, rfl, State.access_frame rfl _ _ _ (fun t1 => (State.ptpGo_frame ..).mono rfl)⟩

theorem State.stampFirst_frame (s : State) (q : Nat) (p : TsReq → Bool) : Frame 0x16000480048 s (State.stampFirst s
    q p) := by
  unfold State.stampFirst
  split
  · exact Frame.refl _ _
  · extract_lets +onlyGivenNames y1
    have hy1 : Frame 0x16000480048 s y1.1 := (State.takeTimestamp_frame ..).step rfl ((State.setTsWaiting_frame
      ..).mono rfl)
    refine Frame.ite ?_ ?_
    · split
      · refine Frame.trans ?_ (Frame.mono (State.emit_frame ..) rfl)
        extract_lets +onlyGivenNames y2
        have hy2 : Frame 0x16000480048 s y2 := hy1
        exact Frame.trans hy2 (upd_ptpTx rfl)
      · exact hy1
    · exact hy1

theorem execPtpTxDone_frame (q : Quad) (s : State) : ∃ nx, execPtpTxDone q s = .next nx ∧ Frame 0x16000480048 s nx
    := by
  unfold execPtpTxDone
  refine ⟨_, rfl, ?_⟩
  split
  · exact Frame.refl _ _
  · extract_lets +onlyGivenNames y1
    refine Frame.ite ?_ ?_
    · exact (State.ptpResult_frame ..).step rfl ((State.setTsWaiting_frame ..).step rfl (upd_ptpTx rfl))
    · refine Frame.ite ?_ ?_
      · exact (State.ptpResult_frame ..).step rfl ((State.setTsWaiting_frame ..).step rfl (upd_ptpTx rfl))
      · extract_lets +onlyGivenNames y2
        have hy2 : Frame 0x16000480048 s y2 := Frame.ite ((State.stampFirst_frame ..).mono rfl) (Frame.refl _ _)
        extract_lets +onlyGivenNames y3
        exact (State.ptpResult_frame ..).step rfl ((State.put_frame ..).step rfl ((State.setTsWaiting_frame ..).step
          rfl (Frame.trans hy2 (upd_ptpTx rfl))))

theorem State.slotCtrl_frame (s : State) (q : Nat) (arm disarm : Bool) : Frame 0x1000000008 s (State.slotCtrl s q
    arm disarm) := by
  unfold State.slotCtrl
  extract_lets +onlyGivenNames y1
  refine Frame.ite ?_ ?_
  · exact (State.slotOff_frame ..).mono rfl
  · refine Frame.ite ?_ ?_
    · extract_lets +onlyGivenNames y2
      have hy2 : Frame 0x1000000008 s y2 := (State.put_frame ..).step rfl ((State.put_frame ..).mono rfl)
      exact (State.setLate_frame ..).step rfl hy2
    · exact Frame.refl _ _

theorem execSlotArm_frame (q : Quad) (s : State) : ∃ nx, execSlotArm q s = .next nx ∧ Frame 0x1000000008 s nx := by
  unfold execSlotArm
  exact ⟨_, rfl, State.access_frame rfl _ _ _ (fun t1 => (State.slotCtrl_frame ..).mono rfl)⟩

theorem execSlotDisarm_frame (q : Quad) (arm : Bool) (s : State) : ∃ nx, execSlotDisarm q arm s = .next nx ∧ Frame
    0x1000000008 s nx := by
  unfold execSlotDisarm
  exact ⟨_, rfl, State.access_frame rfl _ _ _ (fun t1 => (State.slotCtrl_frame ..).mono rfl)⟩

theorem State.commitSlotTime_frame (s : State) (q : Nat) (v : W32) : Frame 0x1c00000008 s (State.commitSlotTime s q
    v) := by
  unfold State.commitSlotTime
  extract_lets +onlyGivenNames y1
  extract_lets +onlyGivenNames y2
  have hy2 : Frame 0x1c00000008 s y2 := (State.commitPair_frame ..).step rfl ((State.setReg_frame ..).mono rfl)
  exact Frame.ite ((State.setLate_frame ..).step rfl hy2) ((State.setLate_frame ..).step rfl hy2)

theorem execSlotTimeCommit_frame (q : Quad) (v : W32) (s : State) : ∃ nx, execSlotTimeCommit q v s = .next nx ∧
    Frame 0x1c00000008 s nx := by
  unfold execSlotTimeCommit
  exact ⟨_, rfl, State.access_frame rfl _ _ _ (fun t1 => (State.commitSlotTime_frame ..).mono rfl)⟩

theorem execSlotDue_frame (q : Quad) (s : State) : ∃ nx, execSlotDue q s = .next nx ∧ Frame 0x9410490048 s nx := by
  unfold execSlotDue
  refine ⟨_, rfl, ?_⟩
  refine Frame.ite ?_ ?_
  · exact Frame.refl _ _
  · split
    · exact (State.deliverSlot_frame ..).mono rfl
    · exact Frame.refl _ _

theorem execSlotLenReadDone_frame (q : Quad) (s : State) : ∃ nx, execSlotLenReadDone q s = .next nx ∧ Frame
    0x8c104c0158 s nx := by
  unfold execSlotLenReadDone
  refine ⟨_, rfl, ?_⟩
  split
  · exact Frame.refl _ _
  · extract_lets +onlyGivenNames y1
    extract_lets +onlyGivenNames y2
    have hy2 : Frame 0x8c104c0158 s y2 := upd_lenReads rfl
    extract_lets +onlyGivenNames y3
    have hy3 : Frame 0x8c104c0158 s y3.1 := (State.devRead_frame ..).step rfl hy2
    exact Frame.ite ((State.raise_frame ..).step rfl hy3) ((State.requestSends_frame ..).step rfl hy3)

theorem execTxTimestamp_frame (l : Lane) (s : State) : ∃ nx, execTxTimestamp l s = .next nx ∧ Frame 0x16000480048 s
    nx := by
  unfold execTxTimestamp
  refine ⟨_, rfl, ?_⟩
  extract_lets +onlyGivenNames y1
  exact Frame.ite (Frame.refl _ _) ((State.stampFirst_frame ..).mono rfl)

theorem execTsqPop_frame (q : Quad) (s : State) : ∃ nx, execTsqPop q s = .next nx ∧ Frame 0x2000000008 s nx := by
  unfold execTsqPop
  exact ⟨_, rfl, State.access_frame rfl _ _ _ (fun t1 => (State.setTsQueue_frame ..).mono rfl)⟩

theorem execPpsOutEdge_frame (s : State) : ∃ nx, execPpsOutEdge s = .next nx ∧ Frame 0x40000004c s nx := by
  unfold execPpsOutEdge
  refine ⟨_, rfl, ?_⟩
  extract_lets +onlyGivenNames y1
  extract_lets +onlyGivenNames y2
  refine Frame.ite ?_ ?_
  · extract_lets +onlyGivenNames y3
    extract_lets +onlyGivenNames y4
    have hy4 : Frame 0x40000004c s y4 := (State.movePair_frame ..).mono rfl
    exact (State.emit_frame ..).step rfl (Frame.trans hy4 (upd_time rfl))
  · exact Frame.refl _ _

theorem execPpsOutFall_frame (s : State) : ∃ nx, execPpsOutFall s = .next nx ∧ Frame 0x44 s nx := by
  unfold execPpsOutFall
  exact ⟨_, rfl, Frame.ite ((State.emit_frame ..).step rfl (upd_time rfl)) (Frame.refl _ _)⟩

theorem execPpsInEdge_frame (s : State) : ∃ nx, execPpsInEdge s = .next nx ∧ Frame 0x480048 s nx := by
  unfold execPpsInEdge
  refine ⟨_, rfl, ?_⟩
  refine Frame.ite ?_ ?_
  · extract_lets +onlyGivenNames y1
    exact (State.irqBit_frame ..).step rfl ((State.setReg64_frame ..).mono rfl)
  · exact Frame.refl _ _

theorem execPpsInMiss_frame (s : State) : ∃ nx, execPpsInMiss s = .next nx ∧ Frame 0x480048 s nx := by
  unfold execPpsInMiss
  exact ⟨_, rfl, Frame.ite ((State.raise_frame ..).mono rfl) (Frame.refl _ _)⟩

theorem State.armAlarm_frame (s : State) (k : Nat) : Frame 0x8 s (State.armAlarm s k) := by
  unfold State.armAlarm
  exact (State.put_frame ..).mono rfl

theorem execAlarmArm_frame (k : W2) (s : State) : ∃ nx, execAlarmArm k s = .next nx ∧ Frame 0x8 s nx := by
  unfold execAlarmArm
  exact ⟨_, rfl, State.access_frame rfl _ _ _ (fun t1 => (State.armAlarm_frame ..).mono rfl)⟩

theorem execAlarm_frame (k : W2) (s : State) : ∃ nx, execAlarm k s = .next nx ∧ Frame 0x480048 s nx := by
  unfold execAlarm
  refine ⟨_, rfl, ?_⟩
  extract_lets +onlyGivenNames y1
  exact Frame.ite ((State.irqBit_frame ..).step rfl ((State.put_frame ..).step rfl ((State.put_frame ..).mono rfl)))
    (Frame.refl _ _)

theorem execAlarmFiredClear_frame (k : W2) (s : State) : ∃ nx, execAlarmFiredClear k s = .next nx ∧ Frame 0x8 s nx
    := by
  unfold execAlarmFiredClear
  exact ⟨_, rfl, State.access_frame rfl _ _ _ (fun t1 => (State.put_frame ..).mono rfl)⟩

theorem State.portCheck_frame (s : State) (e : Nat) : Frame 0x4480048 s (State.portCheck s e) := by
  unfold State.portCheck
  exact Frame.ite ((State.raise_frame ..).step rfl (Frame.ite ((State.portDown_frame ..).mono rfl) (Frame.refl _
    _))) (Frame.refl _ _)

theorem State.writeLinkCfg_frame (s : State) (q : Nat) (v : W32) : Frame 0x400c4900c8 s (State.writeLinkCfg s q v)
    := by
  unfold State.writeLinkCfg
  extract_lets +onlyGivenNames y1
  refine Frame.ite ?_ ?_
  · exact (State.badAccess_frame ..).mono rfl
  · refine Frame.trans ?_ (State.scoped_frame rfl _ _ _ _ (fun x20 t2 => ?_))
    · exact Frame.refl _ _
    · refine Frame.ite ?_ ?_
      · exact Frame.refl _ _
      · extract_lets +onlyGivenNames y3
        extract_lets +onlyGivenNames y4
        extract_lets +onlyGivenNames y5
        have hy5 : Frame 0x400c4900c8 t2 y5 := by
          refine Frame.foldl _ _ _ (fun t6 a6 => ?_) ?_
          · extract_lets +onlyGivenNames y7
            have hy7 : Frame 0x400c4900c8 t6 y7 := (State.setReg_frame ..).mono rfl
            exact Frame.ite ((State.portDown_frame ..).step rfl hy7) ((State.laneDeparts_frame ..).step rfl hy7)
          · exact Frame.refl _ _
        extract_lets +onlyGivenNames y8
        have hy8 : Frame 0x400c4900c8 t2 y8 := Frame.foldl _ _ _ (fun t9 a9 => (State.setLink_frame ..).mono rfl)
          ((State.setReg_frame ..).step rfl hy5)
        extract_lets +onlyGivenNames y10
        have hy10 : Frame 0x400c4900c8 t2 y10 := Frame.ite ((State.raise_frame ..).step rfl hy8) hy8
        exact Frame.foldl _ _ _ (fun t11 a11 => Frame.ite ((State.portCheck_frame ..).step rfl
          ((State.portRate_frame ..).step rfl ((State.regroup_frame ..).mono rfl))) ((State.showLink_frame ..).mono
          rfl)) hy10

theorem execLinkCfgWrite_frame (q : Quad) (v : W32) (s : State) : ∃ nx, execLinkCfgWrite q v s = .next nx ∧ Frame
    0x400c4900c8 s nx := by
  unfold execLinkCfgWrite
  exact ⟨_, rfl, State.access_frame rfl _ _ _ (fun t1 => (State.writeLinkCfg_frame ..).mono rfl)⟩

theorem State.injTick_frame (s : State) (l : Nat) : Frame 0x4000048 s (State.injTick s l) := by
  unfold State.injTick
  split
  · exact Frame.refl _ _
  · exact (State.put_frame ..).step rfl ((State.txOn_frame ..).step rfl ((State.modLane_frame ..).mono rfl))
  · exact (State.modLane_frame ..).mono rfl

theorem State.sendCommas_frame (s : State) (ls : List Nat) : Frame 0x40000c0 s (State.sendCommas s ls) := by
  unfold State.sendCommas
  exact Frame.foldl _ _ _ (fun t1 a1 => (State.modLane_frame ..).mono rfl) ((State.sendOn_frame ..).mono rfl)

theorem execCommaSend_frame (x : OnLane (BitVec 14)) (s : State) : ∃ nx, execCommaSend x s = .next nx ∧
    Frame 0xc0000c8 s nx := by
  unfold execCommaSend
  refine ⟨_, rfl, ?_⟩
  refine Frame.ite ?_ ?_
  · exact Frame.refl _ _
  · extract_lets +onlyGivenNames y1
    extract_lets +onlyGivenNames y2
    extract_lets +onlyGivenNames y3
    have hy3 : Frame 0xc0000c8 s y3 := (State.sendCommas_frame ..).step rfl (Frame.foldl _ _ _ (fun t4 a4 =>
      (State.injTick_frame ..).mono rfl) (Frame.refl _ _))
    exact Frame.ite ((State.sendLstate_frame ..).step rfl ((State.modLink_frame ..).step rfl hy3)) hy3

theorem execLstateReceive_frame (l : Lane) (num mask at_ : W8) (s : State) : ∃ nx, execLstateReceive l num mask at_
    s = .next nx ∧ Frame 0x8000000 s nx := by
  unfold execLstateReceive
  refine ⟨_, rfl, ?_⟩
  extract_lets +onlyGivenNames y1
  exact Frame.ite ((State.modLink_frame ..).mono rfl) (Frame.refl _ _)

theorem State.putFrame_frame (s : State) (e : Nat) (f : TxFrame) (flip : Bool) : Frame 0xc0000c0 s (State.putFrame s
    e f flip) := by
  unfold State.putFrame
  extract_lets +onlyGivenNames y1
  exact (State.sendStriped_frame ..).step rfl (Frame.ite ((State.drawn_frame ..).mono rfl) (Frame.refl _ _))

theorem State.injDone_frame (s : State) (e : Nat) : Frame 0x8 s (State.injDone s e) := by
  unfold State.injDone
  exact (State.put_frame ..).mono rfl

theorem State.sendFrame_frame (s : State) (e : Nat) (f : TxFrame) : Frame 0xc0000c8 s (State.sendFrame s e f) := by
  unfold State.sendFrame
  split
  · exact Frame.ite (Frame.refl _ _) ((State.injDone_frame ..).step rfl ((State.modLink_frame ..).step rfl
      ((State.putFrame_frame ..).step rfl ((State.putFrame_frame ..).mono rfl))))
  · split
    · exact (State.injDone_frame ..).mono rfl
    · exact (State.injDone_frame ..).step rfl ((State.putFrame_frame ..).mono rfl)
    · exact (State.modLink_frame ..).mono rfl
    · exact (State.putFrame_frame ..).mono rfl

theorem State.markSent_frame (s : State) (e : Nat) (p : TxFrame → Bool) : Frame 0x8000000 s (State.markSent s e p)
    := by
  unfold State.markSent
  exact (State.modLink_frame ..).mono rfl

theorem State.resendFrom_frame (s : State) (e : Nat) (p : TxFrame → Bool) : Frame 0xc0000c8 s (State.resendFrom s e
    p) := by
  unfold State.resendFrom
  extract_lets +onlyGivenNames y1
  exact (State.inc_frame ..).step rfl ((State.markSent_frame ..).step rfl (Frame.foldl _ _ _ (fun t2 a2 =>
    (State.sendFrame_frame ..).mono rfl) (Frame.refl _ _)))

theorem State.sendNak_frame (s : State) (e : Nat) : Frame 0xc0000c0 s (State.sendNak s e) := by
  unfold State.sendNak
  extract_lets +onlyGivenNames y1
  extract_lets +onlyGivenNames y2
  exact Frame.ite (Frame.refl _ _) (Frame.ite ((State.modLink_frame ..).mono rfl) ((State.sendStriped_frame ..).step
    rfl ((State.setLink_frame ..).mono rfl)))

theorem State.rxApply_frame (s : State) (e : Nat) : Frame 0x8000000 s (State.rxApply s e) := by
  unfold State.rxApply
  extract_lets +onlyGivenNames y1
  split
  · exact Frame.refl _ _
  · exact Frame.ite ((State.setLink_frame ..).mono rfl) (Frame.refl _ _)

theorem State.txApply_frame (s : State) (e : Nat) : Frame 0xc4800c8 s (State.txApply s e) := by
  unfold State.txApply
  extract_lets +onlyGivenNames y1
  split
  · exact Frame.refl _ _
  · refine Frame.ite ?_ ?_
    · extract_lets +onlyGivenNames y2
      have hy2 : Frame 0xc4800c8 s y2 := (State.resendFrom_frame ..).step rfl ((State.showLink_frame ..).step rfl
        ((State.modLink_frame ..).mono rfl))
      exact Frame.ite ((State.sendNak_frame ..).step rfl hy2) hy2
    · exact Frame.refl _ _

theorem execMaskApply_frame (l : Lane) (s : State) : ∃ nx, execMaskApply l s = .next nx ∧ Frame 0xc4800c8 s nx := by
  unfold execMaskApply
  refine ⟨_, rfl, ?_⟩
  extract_lets +onlyGivenNames y1
  exact Frame.ite (Frame.refl _ _) ((State.txApply_frame ..).step rfl ((State.rxApply_frame ..).mono rfl))

theorem State.acked_frame (s : State) (e : Nat) (nxt : W16) : Frame 0x8000008 s (State.acked s e nxt) := by
  unfold State.acked
  exact (State.showUnacked_frame ..).step rfl ((State.modLink_frame ..).mono rfl)

theorem execAckReceive_frame (l : Lane) (nxt : W16) (s : State) : ∃ nx, execAckReceive l nxt s = .next nx ∧ Frame
    0x8000008 s nx := by
  unfold execAckReceive
  exact ⟨_, rfl, Frame.ite ((State.acked_frame ..).mono rfl) (Frame.refl _ _)⟩

theorem execNakReceive_frame (l : Lane) (nxt : W16) (s : State) : ∃ nx, execNakReceive l nxt s = .next nx ∧ Frame
    0xc0000c8 s nx := by
  unfold execNakReceive
  refine ⟨_, rfl, ?_⟩
  extract_lets +onlyGivenNames y1
  refine Frame.ite ?_ ?_
  · exact Frame.refl _ _
  · extract_lets +onlyGivenNames y2
    have hy2 : Frame 0xc0000c8 s y2 := (State.acked_frame ..).mono rfl
    exact Frame.ite ((State.resendFrom_frame ..).step rfl hy2) hy2

theorem execAckSend_frame (l : Lane) (s : State) : ∃ nx, execAckSend l s = .next nx ∧ Frame 0xc0000c0 s nx := by
  unfold execAckSend
  refine ⟨_, rfl, ?_⟩
  extract_lets +onlyGivenNames y1
  exact Frame.ite ((State.sendStriped_frame ..).mono rfl) (Frame.refl _ _)

theorem execReplayTimeout_frame (l : Lane) (s : State) : ∃ nx, execReplayTimeout l s = .next nx ∧ Frame 0xc0000c8 s
    nx := by
  unfold execReplayTimeout
  refine ⟨_, rfl, ?_⟩
  extract_lets +onlyGivenNames y1
  exact Frame.ite ((State.resendFrom_frame ..).mono rfl) (Frame.refl _ _)

theorem execDepartReceive_frame (l : Lane) (s : State) : ∃ nx, execDepartReceive l s = .next nx ∧ Frame 0x400c4900c8
    s nx := by
  unfold execDepartReceive
  exact ⟨_, rfl, Frame.ite ((State.regroup_frame ..).step rfl ((State.laneDeparts_frame ..).mono rfl)) (Frame.refl _
    _)⟩

theorem execPartnerTimeout_frame (l : Lane) (s : State) : ∃ nx, execPartnerTimeout l s = .next nx ∧ Frame
    0x400c4900c8 s nx := by
  unfold execPartnerTimeout
  refine ⟨_, rfl, ?_⟩
  split
  · exact Frame.refl _ _
  · split
    · exact (State.entryDeparts_frame ..).step rfl ((State.modLane_frame ..).mono rfl)
    · exact (State.regroup_frame ..).step rfl ((State.laneDeparts_frame ..).mono rfl)

theorem State.noMap_frame (s : State) (q : Nat) : Frame 0x480048 s (State.noMap s q) := by
  unfold State.noMap
  exact (State.raise_frame ..).step rfl ((State.inc_frame ..).mono rfl)

theorem State.landBytes_frame (s : State) (d : Nat) (gen : Nat) (tw : Nat) (off : Nat) (bs : Bytes) : Frame 0x4c0048
    s (State.landBytes s d gen tw off bs).1 := by
  unfold State.landBytes
  extract_lets +onlyGivenNames y1
  refine Frame.iteF Prod.fst ?_ ?_
  · exact Frame.ite (Frame.refl _ _) ((State.raise_frame ..).mono rfl)
  · extract_lets +onlyGivenNames y2
    extract_lets +onlyGivenNames y3
    have hy3 : Frame 0x4c0048 s y3 := (State.chipWrite_frame ..).mono rfl
    exact Frame.iteF Prod.fst ((State.raise_frame ..).step rfl hy3) hy3

theorem State.lookup_frame (s : State) (e : Nat) (seq : W16) (stream : Nat) : Frame 0x480048 s (State.lookup s e seq
    stream).1 := by
  unfold State.lookup
  extract_lets +onlyGivenNames y1
  extract_lets +onlyGivenNames y2
  extract_lets +onlyGivenNames y3
  extract_lets +onlyGivenNames y4
  have hy4 : Frame 0x480048 s y4 := (State.inc_frame ..).mono rfl
  refine Frame.iteF Prod.fst ?_ ?_
  · exact (State.noMap_frame ..).mono rfl
  · refine Frame.iteF Prod.fst ?_ ?_
    · exact Frame.refl _ _
    · extract_lets +onlyGivenNames y5
      split
      · exact Frame.iteF Prod.fst hy4 (Frame.refl _ _)
      · exact hy4

theorem State.queueEvent_frame (s : State) (e : Nat) (l : Landing) : Frame 0x200000000 s (State.queueEvent s e l) :=
    by
  unfold State.queueEvent
  exact Frame.ite (upd_events rfl) (Frame.refl _ _)

theorem State.toRing_frame (s : State) (q : Nat) (l : Landing) (status : Nat) (pay : Bytes) : Frame 0xd004c0158 s
    (State.toRing s q l status pay) := by
  unfold State.toRing
  extract_lets +onlyGivenNames y1
  extract_lets +onlyGivenNames y2
  extract_lets +onlyGivenNames y3
  extract_lets +onlyGivenNames y4
  extract_lets +onlyGivenNames y5
  have hy5 : Frame 0xd004c0158 s y5 := (State.ringWrite_frame ..).mono rfl
  exact Frame.trans hy5 (upd_hraceAt rfl)

theorem State.deliver_frame (s : State) (e : Nat) (l : Landing) (replayed : Bool) (seqField : Nat) (pay : Bytes) :
    Frame 0xf004e0158 s (State.deliver s e l replayed seqField pay) := by
  unfold State.deliver
  extract_lets +onlyGivenNames y1
  extract_lets +onlyGivenNames y2
  refine Frame.ite ?_ ?_
  · exact Frame.refl _ _
  · split
    · exact (State.queueEvent_frame ..).step rfl ((State.toRing_frame ..).mono rfl)
    · extract_lets +onlyGivenNames y3
      extract_lets +onlyGivenNames y4
      have hy4 : Frame 0xf004e0158 s y4.1 := (State.landBytes_frame ..).mono rfl
      refine Frame.ite ?_ ?_
      · exact (State.raise_frame ..).step rfl ((State.inc_frame ..).step rfl hy4)
      · extract_lets +onlyGivenNames y5
        have hy5 : Frame 0xf004e0158 s y5 := (State.landBytes_frame ..).step rfl hy4
        extract_lets +onlyGivenNames y6
        exact (State.queueEvent_frame ..).step rfl ((State.setTile_frame ..).step rfl hy5)

theorem State.lineErrors_frame (s : State) (l : Nat) (f : FrameIn) : Frame 0x8 s (State.lineErrors s l f) := by
  unfold State.lineErrors
  extract_lets +onlyGivenNames y1
  have hy1 : Frame 0x8 s y1 := (State.inc_frame ..).mono rfl
  exact Frame.ite ((State.inc_frame ..).step rfl ((State.inc_frame ..).step rfl hy1)) hy1

theorem execFrameHdrReceive_frame (l : Lane) (f : FrameIn) (s : State) : ∃ nx, execFrameHdrReceive l f s = .next nx
    ∧ Frame 0x84c0048 s nx := by
  unfold execFrameHdrReceive
  refine ⟨_, rfl, ?_⟩
  extract_lets +onlyGivenNames y1
  refine Frame.ite ?_ ?_
  · exact Frame.refl _ _
  · split
    · exact Frame.refl _ _
    · extract_lets +onlyGivenNames y2
      have hy2 : Frame 0x84c0048 s y2.1 := (State.lookup_frame ..).mono rfl
      split
      · exact (State.modLink_frame ..).step rfl hy2
      · extract_lets +onlyGivenNames y3
        have hy3 : Frame 0x84c0048 s y3.1 := (State.landBytes_frame ..).step rfl hy2
        exact (State.modLink_frame ..).step rfl hy3

theorem State.acceptFrame_frame (s : State) (e : Nat) (f : FrameIn) : Frame 0xf084e0158 s (State.acceptFrame s e f)
    := by
  unfold State.acceptFrame
  extract_lets +onlyGivenNames y1
  extract_lets +onlyGivenNames y2
  have hy2 : Frame 0xf084e0158 s y2 := (State.setLink_frame ..).mono rfl
  extract_lets +onlyGivenNames y3
  have hy3 : Frame 0xf084e0158 s y3.1 := by
    unfold y3
    split
    · exact hy2
    · exact (State.lookup_frame ..).step rfl hy2
  exact (State.deliver_frame ..).step rfl hy3

theorem execFrameReceive_frame (l : Lane) (f : FrameIn) (s : State) : ∃ nx, execFrameReceive l f s = .next nx ∧
    Frame 0xf0c4e01d8 s nx := by
  unfold execFrameReceive
  refine ⟨_, rfl, ?_⟩
  extract_lets +onlyGivenNames y1
  refine Frame.ite ?_ ?_
  · exact Frame.refl _ _
  · extract_lets +onlyGivenNames y2
    have hy2 : Frame 0xf0c4e01d8 s y2 := (State.lineErrors_frame ..).mono rfl
    exact Frame.ite ((State.acceptFrame_frame ..).step rfl hy2) (Frame.ite ((State.sendNak_frame ..).step rfl
      ((State.modLink_frame ..).step rfl hy2)) ((State.sendNak_frame ..).step rfl hy2))

theorem execFrameDeliveredEvent_frame (l : Lane) (stream : W10) (s : State) : ∃ nx, execFrameDeliveredEvent l stream
    s = .next nx ∧ Frame 0x200010008 s nx := by
  unfold execFrameDeliveredEvent
  refine ⟨_, rfl, ?_⟩
  extract_lets +onlyGivenNames y1
  extract_lets +onlyGivenNames y2
  split
  · exact Frame.refl _ _
  · extract_lets +onlyGivenNames y3
    exact (State.settle_frame ..).step rfl ((State.evtAdd_frame ..).step rfl (upd_events rfl))

theorem State.ethGap_frame (s : State) (e stream : Nat) (seq : W8) : Frame 0x80000008 s (State.ethGap s e stream
    seq) := by
  unfold State.ethGap
  extract_lets +onlyGivenNames y1
  extract_lets +onlyGivenNames y2
  extract_lets +onlyGivenNames y3
  have hy3 : Frame 0x80000008 s y3 := upd_ethLast rfl
  exact Frame.ite ((State.inc_frame ..).step rfl hy3) hy3

theorem execEcpriReceive_frame (l : Lane) (f : EcpriIn) (s : State) : ∃ nx, execEcpriReceive l f s = .next nx ∧
    Frame 0xf804f0158 s nx := by
  unfold execEcpriReceive
  refine ⟨_, rfl, ?_⟩
  extract_lets +onlyGivenNames y1
  refine Frame.ite ?_ ?_
  · exact Frame.refl _ _
  · refine Frame.ite ?_ ?_
    · exact (State.inc_frame ..).mono rfl
    · extract_lets +onlyGivenNames y2
      have hy2 : Frame 0xf804f0158 s y2 := (State.inc_frame ..).mono rfl
      refine Frame.ite ?_ ?_
      · exact (State.ptpDeliver_frame ..).step rfl hy2
      · extract_lets +onlyGivenNames y3
        extract_lets +onlyGivenNames y4
        have hy4 : Frame 0xf804f0158 s y4 := (State.ethGap_frame ..).step rfl hy2
        refine Frame.ite ?_ ?_
        · exact hy4
        · extract_lets +onlyGivenNames y5
          have hy5 : Frame 0xf804f0158 s y5.1 := (State.lookup_frame ..).step rfl hy4
          exact (State.deliver_frame ..).step rfl hy5

theorem execControlBlockUnknown_frame (x : OnLane W8) (s : State) : ∃ nx, execControlBlockUnknown x s =
    .next nx ∧ Frame 0x8 s nx := by
  unfold execControlBlockUnknown
  exact ⟨_, rfl, Frame.ite ((State.inc_frame ..).mono rfl) (Frame.refl _ _)⟩

theorem State.firstSend_frame (s : State) (e : Nat) (f : TxFrame) : Frame 0xc0000c8 s (State.firstSend s e f) := by
  unfold State.firstSend
  exact (State.markSent_frame ..).step rfl ((State.sendFrame_frame ..).mono rfl)

theorem State.loseFrame_frame (s : State) (q : Nat) : Frame 0x8 s (State.loseFrame s q) := by
  unfold State.loseFrame
  exact (State.inc_frame ..).mono rfl

theorem State.sourceBytes_frame (s : State) (q k n : Nat) : Frame 0xc204c01d8 s (State.sourceBytes s q k n).1 := by
  unfold State.sourceBytes
  extract_lets +onlyGivenNames y1
  extract_lets +onlyGivenNames y2
  extract_lets +onlyGivenNames y3
  extract_lets +onlyGivenNames y4
  have hy4 : Frame 0xc204c01d8 s y4.1 := (State.ringRead_frame ..).mono rfl
  extract_lets +onlyGivenNames y5
  extract_lets +onlyGivenNames _ y6
  have hy6 : Frame 0xc204c01d8 s y6 := Frame.trans hy4 (upd_traceAt rfl)
  extract_lets +onlyGivenNames y8
  exact (State.drawn_frame ..).step rfl hy6

theorem State.sendBirlis_frame (s : State) (e : Nat) (a : W32) (k : Nat) (pay : Bytes) : Frame 0x400c0000c8 s
    (State.sendBirlis s e a k pay) := by
  unfold State.sendBirlis
  extract_lets +onlyGivenNames y1
  extract_lets +onlyGivenNames y2
  extract_lets +onlyGivenNames y3
  have hy3 : Frame 0x400c0000c8 s y3 := (State.showUnacked_frame ..).step rfl ((State.setLink_frame ..).mono rfl)
  extract_lets +onlyGivenNames y4
  have hy4 : Frame 0x400c0000c8 s y4 := Frame.ite ((State.setTsWaiting_frame ..).step rfl hy3) hy3
  exact Frame.ite ((State.firstSend_frame ..).step rfl hy4) hy4

theorem State.sendEth_frame (s : State) (e : Nat) (a : W32) (q k : Nat) (pay : Bytes) : Frame 0x4040000040 s
    (State.sendEth s e a q k pay) := by
  unfold State.sendEth
  extract_lets +onlyGivenNames y1
  extract_lets +onlyGivenNames y2
  have hy2 : Frame 0x4040000040 s y2 := upd_ethSeq rfl
  extract_lets +onlyGivenNames y3
  have hy3 : Frame 0x4040000040 s y3 := (State.emit_frame ..).step rfl hy2
  exact Frame.ite ((State.setTsWaiting_frame ..).step rfl hy3) hy3

theorem State.traceSend_frame (s : State) (q k n : Nat) : Frame 0x4c6c4c01d8 s (State.traceSend s q k n) := by
  unfold State.traceSend
  extract_lets +onlyGivenNames y1
  extract_lets +onlyGivenNames y2
  refine Frame.ite ?_ ?_
  · exact Frame.refl _ _
  · extract_lets +onlyGivenNames y3
    have hy3 : Frame 0x4c6c4c01d8 s y3.1 := (State.sourceBytes_frame ..).mono rfl
    exact Frame.ite (Frame.ite ((State.sendEth_frame ..).step rfl hy3) ((State.loseFrame_frame ..).step rfl hy3))
      (Frame.ite ((State.sendBirlis_frame ..).step rfl hy3) ((State.loseFrame_frame ..).step rfl hy3))

theorem State.takeSend_frame (s : State) (q : Nat) (r : SendReq) : Frame 0x10000000 s (State.takeSend s q r) := by
  unfold State.takeSend
  extract_lets +onlyGivenNames y1
  exact (State.setSends_frame ..).mono rfl

theorem execTailraceFrameSend_frame (q : Quad) (entry : W10) (n : W16) (s : State) : ∃ nx, execTailraceFrameSend q
    entry n s = .next nx ∧ Frame 0x4c7c4c01d8 s nx := by
  unfold execTailraceFrameSend
  refine ⟨_, rfl, ?_⟩
  extract_lets +onlyGivenNames y1
  split
  · exact Frame.refl _ _
  · exact Frame.ite (Frame.refl _ _) (Frame.ite (Frame.refl _ _) ((State.traceSend_frame ..).step rfl
      ((State.takeSend_frame ..).mono rfl)))

theorem State.writeInj_frame (s : State) (q : Nat) (v : W32) : Frame 0x4480048 s (State.writeInj s q v) := by
  unfold State.writeInj
  refine Frame.trans ?_ (State.scoped_frame rfl _ _ _ _ (fun x10 t1 => ?_))
  · exact Frame.refl _ _
  · refine Frame.ite ?_ ?_
    · extract_lets +onlyGivenNames y2
      extract_lets +onlyGivenNames y3
      exact Frame.ite ((State.put_frame ..).mono rfl) ((State.emit_frame ..).step rfl ((State.modLane_frame ..).mono
        rfl))
    · exact Frame.refl _ _

theorem execInjDrop_frame (q : Quad) (link : W4) (s : State) : ∃ nx, execInjDrop q link s = .next nx ∧ Frame
    0x4480048 s nx := by
  unfold execInjDrop
  exact ⟨_, rfl, State.access_frame rfl _ _ _ (fun t1 => (State.writeInj_frame ..).mono rfl)⟩

theorem execInjCorrupt_frame (q : Quad) (link : W4) (s : State) : ∃ nx, execInjCorrupt q link s = .next nx ∧ Frame
    0x4480048 s nx := by
  unfold execInjCorrupt
  exact ⟨_, rfl, State.access_frame rfl _ _ _ (fun t1 => (State.writeInj_frame ..).mono rfl)⟩

theorem execInjReorder_frame (q : Quad) (link : W4) (s : State) : ∃ nx, execInjReorder q link s = .next nx ∧ Frame
    0x4480048 s nx := by
  unfold execInjReorder
  exact ⟨_, rfl, State.access_frame rfl _ _ _ (fun t1 => (State.writeInj_frame ..).mono rfl)⟩

theorem execInjLaneDrop_frame (q : Quad) (link lane : W4) (count : W8) (s : State) : ∃ nx, execInjLaneDrop q link
    lane count s = .next nx ∧ Frame 0x4480048 s nx := by
  unfold execInjLaneDrop
  exact ⟨_, rfl, State.access_frame rfl _ _ _ (fun t1 => (State.writeInj_frame ..).mono rfl)⟩

end Sys2Proof.Machine
end

