-- ==== Sys2Proof/Laws/FramePower.lean ====
section
/-! SUPPORT. Which parts of the state the operations and commands of resets, power, faults and shadow copies can change: one lemma per definition. -/

namespace Sys2Proof.Machine

open Sys2Proof

theorem State.resetTime_frame (s : State) : Frame 0x44 s (State.resetTime s) := by
  unfold State.resetTime
  extract_lets +onlyGivenNames _ y1
  have hy1 : Frame 0x44 s y1 := upd_time rfl
  exact Frame.ite ((State.emit_frame ..).step rfl hy1) hy1

theorem State.resetFqu_frame (s : State) (q : Nat) : Frame 0x1f000000000 s (State.resetFqu s q) := by
  unfold State.resetFqu
  exact upd_many4 rfl

theorem State.resetLinks_frame (s : State) (q : Nat) : Frame 0x20c000000 s (State.resetLinks s q) := by
  unfold State.resetLinks
  exact Frame.foldl _ _ _ (fun t1 a1 => (State.modLane_frame ..).mono rfl) (upd_links_events rfl rfl)

theorem State.resetHrace_frame (s : State) (q : Nat) : Frame 0x180000000 s (State.resetHrace s q) := by
  unfold State.resetHrace
  exact upd_ethLast_hraceAt rfl rfl

theorem State.resetTrace_frame (s : State) (q : Nat) : Frame 0x70000000 s (State.resetTrace s q) := by
  unfold State.resetTrace
  exact upd_sends_traceAt_ethSeq rfl rfl rfl

theorem State.resetSlc_frame (s : State) : Frame 0x10000 s (State.resetSlc s) := by
  unfold State.resetSlc
  exact upd_sluice rfl

theorem State.resetInner_frame (s : State) (p : Page) : Frame 0xc00bf3fc750044 s (State.resetInner s p) := by
  unfold State.resetInner
  split
  · exact upd_lanes rfl
  · exact (State.resetTime_frame ..).mono rfl
  · exact (State.resetFqu_frame ..).mono rfl
  · exact (State.resetLinks_frame ..).mono rfl
  · exact (State.resetHrace_frame ..).mono rfl
  · exact (State.resetTrace_frame ..).mono rfl
  · exact (State.resetSlc_frame ..).mono rfl
  · exact upd_pump_pumpBytes rfl rfl
  · exact upd_fyil rfl
  · exact upd_shpHist rfl
  · exact upd_gsm rfl
  · exact upd_pmb rfl
  · exact upd_bmon rfl
  · exact (State.forgetRemap_frame ..).mono rfl
  · exact Frame.refl _ _

theorem State.dropKernels_frame (s : State) (d : Nat) : Frame 0x10000 s (State.dropKernels s d) := by
  unfold State.dropKernels
  exact upd_sluice rfl

theorem State.clearTiles_frame (s : State) (d : Nat) : Frame 0x40000 s (State.clearTiles s d) := by
  unfold State.clearTiles
  exact Frame.foldl _ _ _ (fun t1 a1 => (State.clearTile_frame ..).mono rfl) (Frame.refl _ _)

theorem State.clearQuadMem_frame (s : State) (q : Nat) : Frame 0x40000 s (State.clearQuadMem s q) := by
  unfold State.clearQuadMem
  exact upd_mem rfl id

theorem State.quadReset_frame (s : State) (q : Nat) : Frame 0x6009fffc070518 s (State.quadReset s q) := by
  unfold State.quadReset
  extract_lets +onlyGivenNames y1
  have hy1 : Frame 0x6009fffc070518 s y1 := (State.dropRegs_frame ..).mono rfl
  extract_lets +onlyGivenNames y2
  have hy2 : Frame 0x6009fffc070518 s y2 := Frame.trans hy1 (upd_many2 rfl)
  extract_lets +onlyGivenNames y3
  have hy3 : Frame 0x6009fffc070518 s y3 := (State.resetTrace_frame ..).step rfl ((State.resetHrace_frame ..).step
    rfl ((State.resetFqu_frame ..).step rfl hy2))
  extract_lets +onlyGivenNames y4
  have hy4 : Frame 0x6009fffc070518 s y4 := (State.clearQuadMem_frame ..).step rfl (Frame.foldl _ _ _ (fun t5 a5 =>
    (State.dropKernels_frame ..).mono rfl) hy3)
  exact Frame.trans hy4 (upd_many5 rfl)

theorem State.softReset_frame (s : State) (pg : Nat) (p : Page) : Frame 0xc00bfffc75045c s (State.softReset s pg p)
    := by
  unfold State.softReset
  extract_lets +onlyGivenNames y1
  have hy1 : Frame 0xc00bfffc75045c s y1 := (State.dropRegs_frame ..).mono rfl
  extract_lets +onlyGivenNames y2
  have hy2 : Frame 0xc00bfffc75045c s y2 := (State.resetInner_frame ..).step rfl hy1
  exact Frame.trans hy2 (upd_resetting rfl)

theorem State.offReset_frame (s : State) (k : Nat) (p : Page) : Frame 0xc00bfffc75005c s (State.offReset s k p) := by
  unfold State.offReset
  extract_lets +onlyGivenNames y1
  have hy1 : Frame 0xc00bfffc75005c s y1 := (State.resetInner_frame ..).step rfl ((State.slotReset_frame ..).mono rfl)
  split
  · exact (State.clearTiles_frame ..).step rfl ((State.dropKernels_frame ..).step rfl hy1)
  · exact (State.clearCluster_frame ..).step rfl hy1
  · exact (State.clearBank_frame ..).step rfl hy1
  · exact hy1

theorem State.resetWork_frame (s : State) : Frame 0x7e0df3fc7fe700 s (State.resetWork s) := by
  unfold State.resetWork
  exact ⟨fun p hp => by cases p <;> first | exact rfl | exact absurd hp (by decide), fun h => memWf_iff.2
    ⟨(memWf_iff.1 h).1, rfl⟩⟩

theorem State.lanesOff_frame (s : State) : Frame 0x40 s (State.lanesOff s) := by
  unfold State.lanesOff
  exact Frame.foldl _ _ _ (fun t1 a1 => Frame.ite (Frame.refl _ _) ((State.emit_frame ..).mono rfl)) (Frame.refl _ _)

theorem State.deviceReset_frame (s : State) : Frame 0x7e0dfffc7fe758 s (State.deviceReset s) := by
  unfold State.deviceReset
  exact (State.resetWork_frame ..).step rfl ((State.dropRegs_frame ..).step rfl ((State.lanesOff_frame ..).mono rfl))

theorem State.systemReset_frame (s : State) : Frame 0xfe4ffffc7fe75c s (State.systemReset s) := by
  unfold State.systemReset
  extract_lets +onlyGivenNames y1
  have hy1 : Frame 0xfe4ffffc7fe75c s y1 := (State.resetWork_frame ..).step rfl ((State.dropRegs_frame ..).step rfl
    ((State.lanesOff_frame ..).mono rfl))
  exact (State.resetTime_frame ..).step rfl (Frame.trans hy1 (upd_pmb_stage_bmon rfl rfl rfl))

theorem State.wellReset_frame (s : State) : Frame 0x3fedffffffffffe s (State.wellReset s) := by
  have h0 : Frame 0x100040 s (if s.time.ppsOut then s.lanesOff.emit (.pps false) else s.lanesOff) :=
    Frame.ite (((State.lanesOff_frame ..).mono rfl).trans ((State.emit_frame ..).mono rfl)) ((State.lanesOff_frame ..).mono rfl)
  have h1 : Frame 0x100040 s (if s.thermtrip then (if s.time.ppsOut then s.lanesOff.emit (.pps false) else s.lanesOff).emit (.thermtrip false)
      else (if s.time.ppsOut then s.lanesOff.emit (.pps false) else s.lanesOff)) :=
    Frame.ite (h0.trans ((State.emit_frame ..).mono rfl)) h0
  unfold State.wellReset
  refine ⟨fun p hp => ?_, fun h => memWf_iff.2 ⟨(memWf_iff.1 (h1.wf h)).1, rfl⟩⟩
  cases p <;> first | exact absurd hp (by decide) | exact h1.same .pending (by decide) | exact h1.same .rsto (by decide) | exact h1.same .khash (by decide)

theorem State.setMode_frame (s : State) (m : Nat) : Frame 0x8 s (State.setMode s m) := by
  unfold State.setMode
  exact (State.put_frame ..).step rfl ((State.put_frame ..).mono rfl)

theorem State.endTransition_frame (s : State) (m res : Nat) : Frame 0x480048 s (State.endTransition s m res) := by
  unfold State.endTransition
  exact (State.irqBit_frame ..).step rfl ((State.put_frame ..).step rfl ((State.put_frame ..).step rfl
    ((State.setMode_frame ..).mono rfl)))

theorem State.setPmb_frame (s : State) (b : Nat) (x : PmbSt) : Frame 0x20000000000 s (State.setPmb s b x) := by
  unfold State.setPmb
  exact upd_pmb rfl

theorem State.pmbPush_frame (s : State) (b : Nat) (j : PmbJob) : Frame 0x20000000000 s (State.pmbPush s b j) := by
  unfold State.pmbPush
  exact (State.setPmb_frame ..).mono rfl

theorem State.pmbDrop_frame (s : State) (b : Nat) (j : PmbJob) : Frame 0x20000000000 s (State.pmbDrop s b j) := by
  unfold State.pmbDrop
  exact (State.setPmb_frame ..).mono rfl

theorem State.orderRail_frame (s : State) (r : Nat) (on : Bool) : Frame 0x20000000000 s (State.orderRail s r on) := by
  unfold State.orderRail
  exact (State.pmbPush_frame ..).mono rfl

theorem State.requestVoltage_frame (s : State) (q mv : Nat) (why : VoltWhy) : Frame 0x20000000200 s
    (State.requestVoltage s q mv why) := by
  unfold State.requestVoltage
  exact (State.pmbPush_frame ..).step rfl ((State.setQuad_frame ..).mono rfl)

theorem State.switchPll_frame (s : State) (q level : Nat) : Frame 0x208 s (State.switchPll s q level) := by
  unfold State.switchPll
  extract_lets +onlyGivenNames y1
  exact (State.put_frame ..).step rfl ((State.setQuad_frame ..).mono rfl)

theorem State.startChange_frame (s : State) (q t : Nat) : Frame 0x20000000208 s (State.startChange s q t) := by
  unfold State.startChange
  extract_lets +onlyGivenNames y1
  extract_lets +onlyGivenNames y2
  refine Frame.ite ?_ ?_
  · exact (State.put_frame ..).mono rfl
  · extract_lets +onlyGivenNames y3
    have hy3 : Frame 0x20000000208 s y3 := (State.setQuad_frame ..).step rfl ((State.put_frame ..).mono rfl)
    exact Frame.ite hy3 ((State.requestVoltage_frame ..).step rfl hy3)

theorem State.idlePll_frame (s : State) (q : Nat) : Frame 0x200 s (State.idlePll s q) := by
  unfold State.idlePll
  refine Frame.ite ?_ ?_
  · exact Frame.refl _ _
  · extract_lets +onlyGivenNames y1
    exact (State.setQuad_frame ..).mono rfl

theorem State.endChange_frame (s : State) (q res : Nat) : Frame 0x20000480248 s (State.endChange s q res) := by
  unfold State.endChange
  extract_lets +onlyGivenNames y1
  extract_lets +onlyGivenNames y2
  have hy2 : Frame 0x20000480248 s y2 := (State.setQuad_frame ..).step rfl ((State.put_frame ..).mono rfl)
  extract_lets +onlyGivenNames y3
  have hy3 : Frame 0x20000480248 s y3 := by
    unfold y3
    split
    · exact (State.startChange_frame ..).step rfl hy2
    · exact (State.put_frame ..).step rfl hy2
  exact Frame.ite hy3 ((State.irqBit_frame ..).step rfl ((State.idlePll_frame ..).step rfl hy3))

theorem State.changeRailGood_frame (s : State) (q t : Nat) : Frame 0x20000480248 s (State.changeRailGood s q t) := by
  unfold State.changeRailGood
  extract_lets +onlyGivenNames y1
  have hy1 : Frame 0x20000480248 s y1 := (State.put_frame ..).step rfl ((State.put_frame ..).mono rfl)
  exact Frame.ite ((State.endChange_frame ..).step rfl hy1) (Frame.ite hy1 ((State.endChange_frame ..).step rfl
    ((State.switchPll_frame ..).step rfl hy1)))

theorem State.coreOff_frame (s : State) : Frame 0x10000c00716518 s (State.coreOff s) := by
  unfold State.coreOff
  extract_lets +onlyGivenNames y1
  extract_lets +onlyGivenNames y2
  have hy2 : Frame 0x10000c00716518 s y2 := (State.dropRegs_frame ..).mono rfl
  exact Frame.trans hy2 (upd_many1 rfl)

theorem State.bootFail_frame (s : State) (code : Nat) : Frame 0x14000c00796558 s (State.bootFail s code) := by
  unfold State.bootFail
  extract_lets +onlyGivenNames y1
  have hy1 : Frame 0x14000c00796558 s y1 := (State.put_frame ..).step rfl ((State.put_frame ..).step rfl
    ((State.coreOff_frame ..).step rfl (upd_boot rfl)))
  exact (State.endTransition_frame ..).step rfl ((State.raise_frame ..).step rfl hy1)

theorem State.bootRails_frame (s : State) : Frame 0x8 s (State.bootRails s) := by
  unfold State.bootRails
  exact Frame.ite ((State.put_frame ..).mono rfl) (Frame.refl _ _)

theorem State.railGood_frame (s : State) (q : Nat) : Frame 0x20000480248 s (State.railGood s q) := by
  unfold State.railGood
  extract_lets +onlyGivenNames y1
  split
  · exact Frame.refl _ _
  · extract_lets +onlyGivenNames y2
    have hy2 : Frame 0x20000480248 s y2 := (State.setQuad_frame ..).mono rfl
    split
    · split
      · exact (State.changeRailGood_frame ..).step rfl hy2
      · exact hy2
    · extract_lets +onlyGivenNames y3
      extract_lets +onlyGivenNames y4
      have hy4 : Frame 0x20000480248 s y4 := (State.put_frame ..).step rfl ((State.put_frame ..).step rfl
        ((State.put_frame ..).step rfl hy2))
      exact (State.setQuad_frame ..).step rfl hy4
    · exact hy2
    · exact (State.bootRails_frame ..).step rfl ((State.put_frame ..).step rfl ((State.put_frame ..).step rfl
        ((State.put_frame ..).step rfl hy2)))

theorem State.pmbRetire_frame (s : State) (q : Nat) : Frame 0x20000000000 s (State.pmbRetire s q) := by
  unfold State.pmbRetire
  extract_lets +onlyGivenNames y1
  extract_lets +onlyGivenNames y2
  exact (State.setPmb_frame ..).step rfl ((State.pmbDrop_frame ..).mono rfl)

theorem State.railFails_frame (s : State) (q res : Nat) : Frame 0x14020c00796758 s (State.railFails s q res) := by
  unfold State.railFails
  extract_lets +onlyGivenNames y1
  split
  · exact Frame.refl _ _
  · extract_lets +onlyGivenNames y2
    have hy2 : Frame 0x14020c00796758 s y2 := (State.raise_frame ..).step rfl ((State.pmbRetire_frame ..).step rfl
      ((State.setQuad_frame ..).mono rfl))
    split
    · extract_lets +onlyGivenNames y3
      have hy3 : Frame 0x14020c00796758 s y3 := by
        unfold y3
        split
        · exact Frame.ite ((State.put_frame ..).step rfl hy2) hy2
        · exact hy2
      exact (State.endChange_frame ..).step rfl hy3
    · extract_lets +onlyGivenNames _ y4
      have hy4 : Frame 0x14020c00796758 s y4 := (State.raise_frame ..).step rfl ((State.setQuad_frame ..).step rfl
        hy2)
      extract_lets +onlyGivenNames y5
      have hy5 : Frame 0x14020c00796758 s y5 := (State.irqBit_frame ..).step rfl hy4
      exact Frame.ite ((State.orderRail_frame ..).step rfl hy5) ((State.requestVoltage_frame ..).step rfl hy5)
    · exact hy2
    · exact (State.bootFail_frame ..).step rfl hy2

theorem State.modSlot_frame (s : State) (k : Nat) (f : PowerSlot → PowerSlot) : Frame 0x100 s (State.modSlot s k f)
    := by
  unfold State.modSlot
  exact (State.setSlot_frame ..).mono rfl

theorem State.wakeSlot_frame (s : State) (k : Nat) : Frame 0x300 s (State.wakeSlot s k) := by
  unfold State.wakeSlot
  extract_lets +onlyGivenNames y1
  refine Frame.ite ?_ ?_
  · exact Frame.refl _ _
  · refine Frame.ite ?_ ?_
    · exact (State.setSlot_frame ..).mono rfl
    · refine Frame.ite ?_ ?_
      · exact Frame.refl _ _
      · refine Frame.ite ?_ ?_
        · extract_lets +onlyGivenNames y2
          refine Frame.ite ?_ ?_
          · exact Frame.refl _ _
          · refine Frame.ite ?_ ?_
            · extract_lets +onlyGivenNames y3
              have hy3 : Frame 0x300 s y3 := (State.setSlot_frame ..).mono rfl
              exact Frame.ite ((State.modSlot_frame ..).step rfl hy3) hy3
            · exact Frame.ite (Frame.refl _ _) ((State.setQuad_frame ..).mono rfl)
        · exact (State.setSlot_frame ..).mono rfl

theorem State.refuse_frame (s : State) (k cause : Nat) : Frame 0x100 s (State.refuse s k cause) := by
  unfold State.refuse
  exact (State.modSlot_frame ..).mono rfl

theorem State.answerEntry_frame (s : State) (k : Nat) (outstanding : Bool) : Frame 0x100 s (State.answerEntry s k
    outstanding) := by
  unfold State.answerEntry
  extract_lets +onlyGivenNames y1
  exact Frame.ite ((State.refuse_frame ..).mono rfl) (Frame.ite ((State.modSlot_frame ..).mono rfl)
    ((State.modSlot_frame ..).mono rfl))

theorem State.drainSlot_frame (s : State) (k : Nat) : Frame 0x4c0048 s (State.drainSlot s k) := by
  unfold State.drainSlot
  split
  · exact Frame.refl _ _
  · split
    · exact (State.drainUnit_frame ..).mono rfl
    · exact (State.drainUnit_frame ..).mono rfl
    · exact Frame.foldl _ _ _ (fun t1 a1 => (State.drainUnit_frame ..).mono rfl) (Frame.refl _ _)
    · exact Frame.refl _ _

theorem State.finishEntry_frame (s0 : State) (k : Nat) : Frame 0x4c0348 s0 (State.finishEntry s0 k) := by
  unfold State.finishEntry
  extract_lets +onlyGivenNames y1
  have hy1 : Frame 0x4c0348 s0 y1 := (State.drainSlot_frame ..).mono rfl
  extract_lets +onlyGivenNames y2
  extract_lets +onlyGivenNames yh
  extract_lets +onlyGivenNames y3
  have hy3 : Frame 0x4c0348 s0 y3 := (State.setSlot_frame ..).step rfl hy1
  extract_lets +onlyGivenNames y4
  have hy4 : Frame 0x4c0348 s0 y4 := by
    unfold y4
    split
    · exact hy3
    · split
      · exact Frame.ite ((State.clearTiles_frame ..).step rfl hy3) hy3
      · exact Frame.ite hy3 ((State.emit_frame ..).step rfl hy3)
      · exact hy3
  exact Frame.ite ((State.idlePll_frame ..).step rfl hy4) hy4

theorem State.retLoss_frame (s : State) (d kind : Nat) : Frame 0x480048 s (State.retLoss s d kind) := by
  unfold State.retLoss
  extract_lets +onlyGivenNames y1
  extract_lets +onlyGivenNames y2
  exact (State.raiseAt_frame ..).step rfl ((State.setReg_frame ..).mono rfl)

theorem State.canaryFails_frame (s : State) (p : Page) : Frame 0x4d0048 s (State.canaryFails s p) := by
  unfold State.canaryFails
  split
  · exact (State.raise_frame ..).step rfl ((State.clearBank_frame ..).mono rfl)
  · exact (State.retLoss_frame ..).step rfl ((State.clearCluster_frame ..).mono rfl)
  · exact (State.retLoss_frame ..).step rfl ((State.dropKernels_frame ..).mono rfl)
  · exact Frame.refl _ _

theorem State.finishWake_frame (s : State) (k : Nat) (canaryOk : Bool) : Frame 0xc00bfffc7d03dc s (State.finishWake
    s k canaryOk) := by
  unfold State.finishWake
  extract_lets +onlyGivenNames y1
  split
  · extract_lets +onlyGivenNames y2
    have hy2 : Frame 0xc00bfffc7d03dc s y2 := Frame.ite ((State.offReset_frame ..).mono rfl) (Frame.refl _ _)
    extract_lets +onlyGivenNames y3
    have hy3 : Frame 0xc00bfffc7d03dc s y3 := Frame.ite ((State.canaryFails_frame ..).step rfl hy2) hy2
    extract_lets +onlyGivenNames y4
    have hy4 : Frame 0xc00bfffc7d03dc s y4 := (State.setSlot_frame ..).step rfl hy3
    extract_lets +onlyGivenNames y5
    have hy5 : Frame 0xc00bfffc7d03dc s y5 := Frame.ite ((State.setQuad_frame ..).step rfl hy4) hy4
    split
    · exact Frame.ite ((State.toHunt_frame ..).step rfl hy5) ((State.laneStart_frame ..).step rfl hy5)
    · exact hy5
  · exact Frame.refl _ _

theorem State.startDomain_frame (s : State) (q : Nat) : Frame 0x20000000200 s (State.startDomain s q) := by
  unfold State.startDomain
  extract_lets +onlyGivenNames y1
  extract_lets +onlyGivenNames y2
  have hy2 : Frame 0x20000000200 s y2 := (State.setQuad_frame ..).mono rfl
  exact (State.requestVoltage_frame ..).step rfl (Frame.ite ((State.orderRail_frame ..).step rfl hy2) hy2)

theorem State.domainOn_frame (s : State) (q : Nat) : Frame 0x600bfffc4f07d8 s (State.domainOn s q) := by
  unfold State.domainOn
  extract_lets +onlyGivenNames y1
  extract_lets +onlyGivenNames y2
  have hy2 : Frame 0x600bfffc4f07d8 s y2 := Frame.ite ((State.quadReset_frame ..).mono rfl) (Frame.refl _ _)
  extract_lets +onlyGivenNames y3
  have hy3 : Frame 0x600bfffc4f07d8 s y3 := (State.modSlot_frame ..).step rfl ((State.setQuad_frame ..).step rfl hy2)
  extract_lets +onlyGivenNames y4
  have hy4 : Frame 0x600bfffc4f07d8 s y4 := Frame.foldl _ _ _ (fun t5 a5 => (State.wakeSlot_frame ..).mono rfl)
    (Frame.ite hy3 ((State.startChange_frame ..).step rfl hy3))
  extract_lets +onlyGivenNames y6
  have hy6 : Frame 0x600bfffc4f07d8 s y6 := (State.qrefFollow_frame ..).step rfl hy4
  exact Frame.ite (Frame.foldl _ _ _ (fun t7 a7 => (State.laneStart_frame ..).mono rfl) hy6) hy6

theorem State.domainSleep_frame (s : State) (q floor : Nat) : Frame 0x20000000208 s (State.domainSleep s q floor) :=
    by
  unfold State.domainSleep
  extract_lets +onlyGivenNames y1
  extract_lets +onlyGivenNames y2
  have hy2 : Frame 0x20000000208 s y2 := (State.weirSettle_frame ..).step rfl ((State.setQuad_frame ..).mono rfl)
  exact Frame.ite ((State.orderRail_frame ..).step rfl hy2) ((State.requestVoltage_frame ..).step rfl hy2)

theorem execPowerEntryRequest_frame (slot : SlotIx) (outstanding : Bool) (s : State) : ∃ nx, execPowerEntryRequest
    slot outstanding s = .next nx ∧ Frame 0x100 s nx := by
  unfold execPowerEntryRequest
  exact ⟨_, rfl, Frame.ite ((State.answerEntry_frame ..).mono rfl) (Frame.refl _ _)⟩

theorem execPowerDeferEnd_frame (slot : SlotIx) (s : State) : ∃ nx, execPowerDeferEnd slot s = .next nx ∧ Frame
    0x100 s nx := by
  unfold execPowerDeferEnd
  exact ⟨_, rfl, Frame.ite ((State.answerEntry_frame ..).mono rfl) (Frame.refl _ _)⟩

theorem execPowerDeferLimit_frame (slot : SlotIx) (s : State) : ∃ nx, execPowerDeferLimit slot s = .next nx ∧ Frame
    0x480148 s nx := by
  unfold execPowerDeferLimit
  exact ⟨_, rfl, Frame.ite (Frame.ite ((State.raise_frame ..).step rfl ((State.refuse_frame ..).mono rfl))
    ((State.refuse_frame ..).mono rfl)) (Frame.refl _ _)⟩

theorem execPowerEntryComplete_frame (slot : SlotIx) (s : State) : ∃ nx, execPowerEntryComplete slot s = .next nx ∧
    Frame 0x4c0348 s nx := by
  unfold execPowerEntryComplete
  exact ⟨_, rfl, Frame.ite ((State.finishEntry_frame ..).mono rfl) (Frame.refl _ _)⟩

theorem execVoteLingerExpiry_frame (slot : SlotIx) (s : State) : ∃ nx, execVoteLingerExpiry slot s = .next nx ∧
    Frame 0x100 s nx := by
  unfold execVoteLingerExpiry
  exact ⟨_, rfl, Frame.ite ((State.modSlot_frame ..).mono rfl) (Frame.refl _ _)⟩

theorem execWakeEvent_frame (slot : SlotIx) (s : State) : ∃ nx, execWakeEvent slot s = .next nx ∧ Frame 0x300 s nx
    := by
  unfold execWakeEvent
  exact ⟨_, rfl, Frame.ite ((State.wakeSlot_frame ..).mono rfl) (Frame.refl _ _)⟩

theorem State.wakeStat_frame (s : State) (n : Nat) : Frame 0x480048 s (State.wakeStat s n) := by
  unfold State.wakeStat
  exact (State.irqBit_frame ..).step rfl ((State.put_frame ..).mono rfl)

theorem execPulseWake_frame (k : W3) (phase : W2) (s : State) : ∃ nx, execPulseWake k phase s = .next nx ∧ Frame
    0x40000480348 s nx := by
  unfold execPulseWake
  refine ⟨_, rfl, ?_⟩
  extract_lets +onlyGivenNames y1
  extract_lets +onlyGivenNames y2
  refine Frame.ite ?_ ?_
  · exact Frame.refl _ _
  · extract_lets +onlyGivenNames y3
    have hy3 : Frame 0x40000480348 s y3 := upd_pulses rfl
    extract_lets +onlyGivenNames y4
    exact Frame.ite hy3 (Frame.ite ((State.raise_frame ..).step rfl ((State.wakeStat_frame ..).step rfl hy3))
      (Frame.ite ((State.wakeStat_frame ..).step rfl ((State.modSlot_frame ..).step rfl hy3)) (Frame.ite
      ((State.wakeStat_frame ..).step rfl ((State.wakeSlot_frame ..).step rfl hy3)) hy3)))

theorem execWakeComplete_frame (slot : SlotIx) (canaryOk : Bool) (s : State) : ∃ nx, execWakeComplete slot canaryOk
    s = .next nx ∧ Frame 0xc00bfffc7d03dc s nx := by
  unfold execWakeComplete
  refine ⟨_, rfl, ?_⟩
  extract_lets +onlyGivenNames y1
  exact Frame.ite ((State.finishWake_frame ..).mono rfl) (Frame.refl _ _)

theorem execQuadDomainEntry_frame (q : Quad) (s : State) : ∃ nx, execQuadDomainEntry q s = .next nx ∧ Frame
    0x20000000208 s nx := by
  unfold execQuadDomainEntry
  exact ⟨_, rfl, Frame.ite ((State.domainSleep_frame ..).mono rfl) (Frame.refl _ _)⟩

theorem execQuadDomainWake_frame (q : Quad) (s : State) : ∃ nx, execQuadDomainWake q s = .next nx ∧ Frame
    0x20000000200 s nx := by
  unfold execQuadDomainWake
  exact ⟨_, rfl, Frame.ite ((State.startDomain_frame ..).mono rfl) (Frame.refl _ _)⟩

theorem execQuadWakeRetry_frame (q : Quad) (s : State) : ∃ nx, execQuadWakeRetry q s = .next nx ∧ Frame
    0x20000000200 s nx := by
  unfold execQuadWakeRetry
  exact ⟨_, rfl, Frame.ite ((State.startDomain_frame ..).mono rfl) (Frame.refl _ _)⟩

theorem State.writePlevel_frame (s : State) (q : Nat) (v : W32) : Frame 0x20000000208 s (State.writePlevel s q v) :=
    by
  unfold State.writePlevel
  extract_lets +onlyGivenNames y1
  refine Frame.ite ?_ ?_
  · exact (State.badAccess_frame ..).mono rfl
  · extract_lets +onlyGivenNames y2
    have hy2 : Frame 0x20000000208 s y2 := (State.put_frame ..).mono rfl
    exact Frame.ite hy2 (Frame.ite ((State.setQuad_frame ..).step rfl hy2) ((State.startChange_frame ..).step rfl
      hy2))

theorem execPlevelWrite_frame (q : Quad) (v : W32) (s : State) : ∃ nx, execPlevelWrite q v s = .next nx ∧ Frame
    0x20000000208 s nx := by
  unfold execPlevelWrite
  exact ⟨_, rfl, State.access_frame rfl _ _ _ (fun t1 => (State.writePlevel_frame ..).mono rfl)⟩

theorem execPllLock_frame (q : Quad) (b : Bool) (s : State) : ∃ nx, execPllLock q b s = .next nx ∧ Frame
    0x600bfffc4f07d8 s nx := by
  unfold execPllLock
  refine ⟨_, rfl, ?_⟩
  extract_lets +onlyGivenNames y1
  refine Frame.ite ?_ ?_
  · exact Frame.refl _ _
  · refine Frame.ite ?_ ?_
    · exact Frame.ite ((State.domainOn_frame ..).mono rfl) (Frame.refl _ _)
    · refine Frame.ite ?_ ?_
      · exact Frame.refl _ _
      · extract_lets +onlyGivenNames y2
        have hy2 : Frame 0x600bfffc4f07d8 s y2 := (State.setQuad_frame ..).mono rfl
        split
        · exact hy2
        · exact Frame.ite ((State.requestVoltage_frame ..).step rfl ((State.switchPll_frame ..).step rfl hy2))
            (Frame.ite ((State.endChange_frame ..).step rfl ((State.switchPll_frame ..).step rfl hy2)) hy2)

theorem execVoutPoll_frame (q : Quad) (res : VoutRes) (s : State) : ∃ nx, execVoutPoll q res s = .next nx ∧ Frame
    0x14020c00796758 s nx := by
  unfold execVoutPoll
  refine ⟨_, rfl, ?_⟩
  split
  · exact Frame.refl _ _
  · extract_lets +onlyGivenNames y1
    refine Frame.ite ?_ ?_
    · extract_lets +onlyGivenNames y2
      have hy2 : Frame 0x14020c00796758 s y2 := (State.emit_frame ..).mono rfl
      split
      · exact (State.railFails_frame ..).step rfl hy2
      · exact hy2
      · exact Frame.ite ((State.railGood_frame ..).step rfl hy2) hy2
    · exact Frame.refl _ _

theorem execVregTimeout_frame (q : Quad) (s : State) : ∃ nx, execVregTimeout q s = .next nx ∧ Frame 0x14020c00796758
    s nx := by
  unfold execVregTimeout
  exact ⟨_, rfl, Frame.ite ((State.railFails_frame ..).mono rfl) (Frame.refl _ _)⟩

theorem execPowerEstUpdate_frame (k : Rail5) (mw : W16) (s : State) : ∃ nx, execPowerEstUpdate k mw s = .next nx ∧
    Frame 0x8 s nx := by
  unfold execPowerEstUpdate
  exact ⟨_, rfl, (State.put_frame ..).mono rfl⟩

theorem State.setEng_frame (s : State) (q u : Nat) (j : Option EngJob) : Frame 0x20000000000000 s (State.setEng s q
    u j) := by
  unfold State.setEng
  exact upd_eng rfl

theorem EngJob.begin_frame (j : EngJob) (s : State) : Frame 0x0 s (EngJob.begin j s).st := by
  unfold EngJob.begin
  exact Frame.refl _ _

theorem JobRun.read_frame (r : JobRun) (a n : Nat) : Frame 0xc004c0158 r.st (JobRun.read r a n).1.st := by
  unfold JobRun.read
  refine Frame.iteF (fun z => JobRun.st (Prod.fst (z))) ?_ ?_
  · exact Frame.refl _ _
  · extract_lets +onlyGivenNames y1
    have hy1 : Frame 0xc004c0158 r.st y1.1 := (State.devRead_frame ..).mono rfl
    exact hy1

theorem JobRun.write_frame (r : JobRun) (a : Nat) (bs : Bytes) : Frame 0xc004c0158 r.st (JobRun.write r a bs).st := by
  unfold JobRun.write
  refine Frame.iteF JobRun.st ?_ ?_
  · exact Frame.refl _ _
  · extract_lets +onlyGivenNames y1
    have hy1 : Frame 0xc004c0158 r.st y1.1 := (State.devWrite_frame ..).mono rfl
    exact hy1

theorem State.jobRan_frame (s : State) (q u : Nat) (j : EngJob) (cause : Nat) (res : List Nat) : Frame
    0x20000000000000 s (State.jobRan s q u j cause res) := by
  unfold State.jobRan
  exact (State.setEng_frame ..).mono rfl

theorem State.runOp_frame {F : Nat} (hF : Nat.land 0x20000000000080 F = 0x20000000000080) (s : State) (q u op : Nat)
    (units : EngJob → Nat) (work : EngJob → Nat → State → State × Nat × List Nat) (hwork : ∀ x0 x1 t0, Frame F t0 (work
    x0 x1 t0).1) : Frame F s (State.runOp s q u op units work) := by
  unfold State.runOp
  split
  · exact Frame.refl _ _
  · refine Frame.ite ?_ ?_
    · exact Frame.refl _ _
    · extract_lets +onlyGivenNames y1
      extract_lets +onlyGivenNames y2
      extract_lets +onlyGivenNames y3
      extract_lets +onlyGivenNames y4
      have hy4 : Frame F s y4.1 := Frame.trans (Frame.ite ((State.drawn_frame ..).mono (Frame.sub_trans rfl hF))
        (Frame.refl _ _)) (hwork ..)
      exact (State.jobRan_frame ..).step (Frame.sub_trans rfl hF) hy4

theorem State.spoil_frame (s : State) (who : Req) (a n : Nat) : Frame 0xc004c01d8 s (State.spoil s who a n) := by
  unfold State.spoil
  extract_lets +onlyGivenNames y1
  have hy1 : Frame 0xc004c01d8 s y1.1 := (State.devWrite_frame ..).mono rfl
  exact Frame.ite ((State.drawn_frame ..).step rfl hy1) (Frame.refl _ _)

theorem State.spoilJob_frame (s : State) (j : EngJob) : Frame 0xc004c01d8 s (State.spoilJob s j) := by
  unfold State.spoilJob
  exact (State.spoil_frame ..).step rfl ((State.spoil_frame ..).mono rfl)

theorem State.spoilGsm_frame (s : State) (k : Nat) : Frame 0x40000000000080 s (State.spoilGsm s k) := by
  unfold State.spoilGsm
  extract_lets +onlyGivenNames y1
  extract_lets +onlyGivenNames y2
  exact (State.drawn_frame ..).step rfl (upd_gsm rfl)

theorem State.spoilQuad_frame (s : State) (q : Nat) (jobs : Tab (Option EngJob)) (ctx : Tab GsmSt) : Frame
    0x40000c004c01d8 s (State.spoilQuad s q jobs ctx) := by
  unfold State.spoilQuad
  extract_lets +onlyGivenNames y1
  have hy1 : Frame 0x40000c004c01d8 s y1 := by
    refine Frame.foldl _ _ _ (fun t2 a2 => ?_) ?_
    · split
      · exact (State.spoilJob_frame ..).mono rfl
      · exact Frame.refl _ _
    · exact Frame.refl _ _
  exact Frame.foldl _ _ _ (fun t3 a3 => (State.spoilGsm_frame ..).mono rfl) hy1

theorem State.poisonReport_frame (s : State) (q u : Nat) (j : EngJob) (cause : Nat) : Frame 0x490048 s
    (State.poisonReport s q u j cause) := by
  unfold State.poisonReport
  extract_lets +onlyGivenNames y1
  extract_lets +onlyGivenNames y2
  extract_lets +onlyGivenNames y3
  have hy3 : Frame 0x490048 s y3 := (State.setReg_frame ..).step rfl ((State.inc_frame ..).mono rfl)
  exact (State.raiseAt_frame ..).step rfl ((State.mapTask_frame ..).step rfl hy3)

theorem State.smudge_frame (s : State) (a n : Nat) : Frame 0x4c00c8 s (State.smudge s a n) := by
  unfold State.smudge
  extract_lets +onlyGivenNames y1
  extract_lets +onlyGivenNames y2
  have hy2 : Frame 0x4c00c8 s y2 := by
    refine Frame.foldl _ _ _ (fun t3 a3 => ?_) ?_
    · extract_lets +onlyGivenNames y4
      extract_lets +onlyGivenNames y5
      split
      · exact Frame.refl _ _
      · exact (State.writeHbm_frame ..).mono rfl
      · exact (State.writeChip_frame ..).mono rfl
    · exact Frame.refl _ _
  exact (State.drawn_frame ..).step rfl hy2

theorem State.finishJob_frame (s : State) (q u : Nat) (j : EngJob) : Frame 0x20000c004d01d8 s (State.finishJob s q u
    j) := by
  unfold State.finishJob
  extract_lets +onlyGivenNames y1
  extract_lets +onlyGivenNames y2
  have hy2 : Frame 0x20000c004d01d8 s y2.1 := (State.devWrite_frame ..).mono rfl
  extract_lets +onlyGivenNames y3
  have hy3 : Frame 0x20000c004d01d8 s y3.1 := Frame.iteF Prod.fst hy2 ((State.smudge_frame ..).step rfl hy2)
  extract_lets +onlyGivenNames y4
  have hy4 : Frame 0x20000c004d01d8 s y4 := (State.inc_frame ..).step rfl ((State.setEng_frame ..).step rfl hy3)
  extract_lets +onlyGivenNames y5
  extract_lets +onlyGivenNames y6
  have hy6 : Frame 0x20000c004d01d8 s y6 := Frame.ite hy4 ((State.poisonReport_frame ..).step rfl hy4)
  split
  · exact (State.reportTask_frame ..).step rfl hy6
  · exact hy6

theorem State.recordReset_frame (s : State) (ty src : Nat) : Frame 0x8 s (State.recordReset s ty src) := by
  unfold State.recordReset
  extract_lets +onlyGivenNames y1
  extract_lets +onlyGivenNames y2
  exact (State.setReg_frame ..).mono rfl

theorem State.assertDevice_frame (s : State) (src : Nat) : Frame 0x7e0dfffc7fff58 s (State.assertDevice s src) := by
  unfold State.assertDevice
  split
  · exact Frame.refl _ _
  · extract_lets +onlyGivenNames y1
    extract_lets +onlyGivenNames y2
    have hy2 : Frame 0x7e0dfffc7fff58 s y2 := (State.deviceReset_frame ..).step rfl ((State.recordReset_frame
      ..).mono rfl)
    exact Frame.trans hy2 (upd_ejectHeld_wide rfl rfl)

theorem State.fenceEec_frame (s : State) (q : Nat) : Frame 0x400c4900c8 s (State.fenceEec s q) := by
  unfold State.fenceEec
  extract_lets +onlyGivenNames y1
  extract_lets +onlyGivenNames y2
  refine Frame.ite ?_ ?_
  · extract_lets +onlyGivenNames y3
    have hy3 : Frame 0x400c4900c8 s y3 := by
      refine Frame.trans ?_ (Frame.mono (State.put_frame ..) rfl)
      refine Frame.ite ?_ ?_
      · extract_lets +onlyGivenNames y4
        have hy4 : Frame 0x400c4900c8 s y4 := (State.put_frame ..).mono rfl
        exact Frame.ite ((State.eecLose_frame ..).step rfl hy4) hy4
      · exact Frame.refl _ _
    exact Frame.ite ((State.eecLose_frame ..).step rfl hy3) hy3
  · refine Frame.ite ?_ ?_
    · extract_lets +onlyGivenNames y5
      have hy5 : Frame 0x400c4900c8 s y5 := (State.put_frame ..).mono rfl
      exact Frame.ite ((State.eecLose_frame ..).step rfl hy5) hy5
    · exact Frame.refl _ _

theorem State.markDma_frame (s : State) (q : Nat) : Frame 0x20000 s (State.markDma s q) := by
  unfold State.markDma
  exact upd_tiles rfl

theorem State.startFence_frame (s : State) (q code : Nat) (loc : W16) (injected : Bool) : Frame 0x400c4b03c8 s
    (State.startFence s q code loc injected) := by
  unfold State.startFence
  refine Frame.ite ?_ ?_
  · exact Frame.refl _ _
  · extract_lets +onlyGivenNames y1
    have hy1 : Frame 0x400c4b03c8 s y1 := State.withVecs_frame rfl _ _ _ (fun t2 => (State.weirEvent_frame ..).mono
      rfl)
    extract_lets +onlyGivenNames y3
    have hy3 : Frame 0x400c4b03c8 s y3 := (State.inc_frame ..).step rfl ((State.put_frame ..).step rfl hy1)
    extract_lets +onlyGivenNames y4
    have hy4 : Frame 0x400c4b03c8 s y4 := Frame.foldl _ _ _ (fun t5 a5 => Frame.ite ((State.setRowBit_frame ..).mono
      rfl) (Frame.refl _ _)) ((State.markDma_frame ..).step rfl hy3)
    extract_lets +onlyGivenNames _ y6
    have hy6 : Frame 0x400c4b03c8 s y6 := (State.setQuad_frame ..).step rfl hy4
    extract_lets +onlyGivenNames y7
    have hy7 : Frame 0x400c4b03c8 s y7 := Frame.foldl _ _ _ (fun t8 a8 => (State.modSlot_frame ..).mono rfl) hy6
    extract_lets +onlyGivenNames y9
    extract_lets +onlyGivenNames y10
    have hy10 : Frame 0x400c4b03c8 s y10 := Frame.foldl _ _ _ (fun t11 a11 => (State.entryDeparts_frame ..).mono
      rfl) ((State.disableAll_frame ..).step rfl hy7)
    exact (State.settle_frame ..).step rfl ((State.weirSettle_frame ..).step rfl ((State.fenceEec_frame ..).step rfl
      hy10))

theorem State.loseQuad_frame (s : State) (q : Nat) : Frame 0x6009fffc4f05d8 s (State.loseQuad s q) := by
  unfold State.loseQuad
  extract_lets +onlyGivenNames y1
  have hy1 : Frame 0x6009fffc4f05d8 s y1 := (State.put_frame ..).mono rfl
  extract_lets +onlyGivenNames y2
  extract_lets +onlyGivenNames y3
  have hy3 : Frame 0x6009fffc4f05d8 s y3 := Frame.trans hy1 (State.inOneCycle_frame rfl _ _ (fun t4 =>
    (State.settle_frame ..).step rfl (Frame.foldl _ _ _ (fun t5 a5 => (State.endTask_frame ..).mono rfl) (Frame.refl _
    _))))
  extract_lets +onlyGivenNames y6
  extract_lets +onlyGivenNames y7
  have hy7 : Frame 0x6009fffc4f05d8 s y7 := (State.setReg64_frame ..).step rfl hy3
  extract_lets +onlyGivenNames y8
  have hy8 : Frame 0x6009fffc4f05d8 s y8 := (State.setReg_frame ..).step rfl hy7
  extract_lets +onlyGivenNames y9
  have hy9 : Frame 0x6009fffc4f05d8 s y9 := (State.setReg_frame ..).step rfl hy8
  exact (State.put_frame ..).step rfl ((State.spoilQuad_frame ..).step rfl ((State.quadReset_frame ..).step rfl hy9))

theorem State.containAct_frame (s : State) (p : Page) (n : Nat) : Frame 0x20000000030000 s (State.containAct s p n)
    := by
  unfold State.containAct
  refine Frame.ite ?_ ?_
  · split
    · exact Frame.ite (Frame.refl _ _) ((State.stopTile_frame ..).mono rfl)
    · exact Frame.refl _ _
  · split
    · exact Frame.refl _ _
    · split
      · exact Frame.refl _ _
      · split
        · exact (State.setEng_frame ..).mono rfl
        · exact Frame.refl _ _

theorem State.poisonSite_frame (s : State) (x : FaultSite) : Frame 0x10000 s (State.poisonSite s x) := by
  unfold State.poisonSite
  split
  · refine Frame.foldl _ _ _ (fun t1 a1 => ?_) ?_
    · split
      · exact Frame.ite ((State.mapTask_frame ..).mono rfl) (Frame.refl _ _)
      · exact Frame.refl _ _
    · exact Frame.refl _ _
  · exact Frame.refl _ _

theorem State.integAct_frame (s : State) (w code : Nat) (cg : Option Nat) (site : FaultSite) (loc : W16) (injected :
    Bool) : Frame 0x7e0dfffc7fffd8 s (State.integAct s w code cg site loc injected) := by
  unfold State.integAct
  extract_lets +onlyGivenNames y1
  refine Frame.ite ?_ ?_
  · refine Frame.trans ?_ (Frame.mono (State.poisonSite_frame ..) rfl)
    split
    · exact (State.haltGroup_frame ..).mono rfl
    · exact Frame.refl _ _
  · refine Frame.ite ?_ ?_
    · exact (State.startFence_frame ..).mono rfl
    · refine Frame.ite ?_ ?_
      · extract_lets +onlyGivenNames y2
        have hy2 : Frame 0x7e0dfffc7fffd8 s y2 := (State.setReg_frame ..).step rfl ((State.setReg_frame ..).mono rfl)
        exact (State.assertDevice_frame ..).step rfl hy2
      · exact Frame.refl _ _

theorem State.setInteg_frame (s : State) (w code : Nat) : Frame 0x8 s (State.setInteg s w code) := by
  unfold State.setInteg
  extract_lets +onlyGivenNames y1
  have hy1 : Frame 0x8 s y1 := (State.orReg_frame ..).mono rfl
  exact Frame.ite ((State.setRowBit_frame ..).step rfl hy1) hy1

theorem State.integrity_frame (s : State) (w code : Nat) (cg : Option Nat) (site : FaultSite) (loc : W16) (injected
    : Bool) : Frame 0x7e0dfffc7fffd8 s (State.integrity s w code cg site loc injected) := by
  unfold State.integrity
  exact Frame.ite (Frame.refl _ _) ((State.integAct_frame ..).step rfl (State.withVecs_frame rfl _ _ _ (fun t1 =>
    (State.weirRecord_frame ..).step rfl ((State.setInteg_frame ..).mono rfl))))

theorem State.blockSets_frame (s : State) (w : Nat) (b : BlockCycle) : Frame 0x8 s (State.blockSets s w b) := by
  unfold State.blockSets
  extract_lets +onlyGivenNames y1
  have hy1 : Frame 0x8 s y1 := by
    unfold y1
    split
    · exact (State.setErrs_frame ..).mono rfl
    · exact Frame.refl _ _
  extract_lets +onlyGivenNames y2
  have hy2 : Frame 0x8 s y2 := Frame.foldl _ _ _ (fun t3 a3 => (State.setInteg_frame ..).mono rfl) hy1
  exact Frame.ite hy2 ((State.setRowBit_frame ..).step rfl hy2)

theorem State.blockActs_frame (s s0 : State) (w : Nat) (b : BlockCycle) : Frame 0x7e0dfffc7fffd8 s (State.blockActs
    s s0 w b) := by
  unfold State.blockActs
  extract_lets +onlyGivenNames y1
  have hy1 : Frame 0x7e0dfffc7fffd8 s y1 := by
    unfold y1
    split
    · exact Frame.foldl _ _ _ (fun t2 a2 => (State.containAct_frame ..).mono rfl) (Frame.refl _ _)
    · exact Frame.refl _ _
  exact Frame.foldl _ _ _ (fun t3 a3 => (State.integAct_frame ..).mono rfl) hy1

theorem State.blocksCycle_frame (s : State) (w : Nat) (bs : List BlockCycle) : Frame 0x7e0dfffc7fffd8 s
    (State.blocksCycle s w bs) := by
  unfold State.blocksCycle
  refine Frame.ite ?_ ?_
  · exact Frame.refl _ _
  · extract_lets +onlyGivenNames y1
    have hy1 : Frame 0x7e0dfffc7fffd8 s y1 := State.withVecs_frame rfl _ _ _ (fun t2 => (State.weirCycle_frame
      ..).step rfl (Frame.foldl _ _ _ (fun t3 a3 => (State.blockSets_frame ..).mono rfl) (Frame.refl _ _)))
    exact Frame.foldl _ _ _ (fun t4 a4 => (State.blockActs_frame ..).mono rfl) hy1

theorem State.noteSample_frame (s : State) (r mv : Nat) : Frame 0x8 s (State.noteSample s r mv) := by
  unfold State.noteSample
  exact Frame.ite ((State.put_frame ..).mono rfl) (Frame.refl _ _)

theorem execIntegrityFault_frame (weir : WeirIx) (page : PageIx) (errs : BitVec 32) (srcs : List IntegSrc) (others : List BlockCycle) (s : State) : ∃ nx,
    execIntegrityFault weir page errs srcs others s = .next nx ∧ Frame 0x7e0dfffc7fffd8 s nx := by
  unfold execIntegrityFault
  exact ⟨_, rfl, (State.blocksCycle_frame ..).mono rfl⟩

theorem State.noteSamples_frame (s : State) (rail : Rail) (prev mv : W16) : Frame 0x8 s (State.noteSamples s rail
    prev mv) := by
  unfold State.noteSamples
  exact (State.noteSample_frame ..).step rfl ((State.noteSample_frame ..).mono rfl)

theorem execSagWarn_frame (rail : Rail) (x : Samples) (s : State) : ∃ nx, execSagWarn rail x s = .next nx ∧
    Frame 0x7e0dfffc7fffd8 s nx := by
  unfold execSagWarn
  refine ⟨_, rfl, ?_⟩
  extract_lets +onlyGivenNames y1
  have hy1 : Frame 0x7e0dfffc7fffd8 s y1 := (State.noteSamples_frame ..).mono rfl
  exact Frame.ite ((State.integrity_frame ..).step rfl (Frame.trans hy1 (upd_sagWarned rfl))) hy1

theorem execSagAction_frame (rail : Rail) (x : Samples) (s : State) : ∃ nx, execSagAction rail x s = .next
    nx ∧ Frame 0x7e0dfffc7fffd8 s nx := by
  unfold execSagAction
  refine ⟨_, rfl, ?_⟩
  extract_lets +onlyGivenNames y1
  have hy1 : Frame 0x7e0dfffc7fffd8 s y1 := (State.noteSamples_frame ..).mono rfl
  exact Frame.ite hy1 ((State.integrity_frame ..).step rfl hy1)

theorem execSagWarnRearm_frame (rail : Rail) (mv : W16) (s : State) : ∃ nx, execSagWarnRearm rail mv s = .next nx ∧
    Frame 0x8008 s nx := by
  unfold execSagWarnRearm
  refine ⟨_, rfl, ?_⟩
  extract_lets +onlyGivenNames y1
  have hy1 : Frame 0x8008 s y1 := (State.noteSample_frame ..).mono rfl
  exact Frame.ite hy1 (Frame.trans hy1 (upd_sagWarned rfl))

theorem execFenceRequestsDrained_frame (q : Quad) (s : State) : ∃ nx, execFenceRequestsDrained q s = .next nx ∧
    Frame 0x6009fffc4f05d8 s nx := by
  unfold execFenceRequestsDrained
  exact ⟨_, rfl, Frame.ite ((State.loseQuad_frame ..).mono rfl) (Frame.refl _ _)⟩

theorem execFenceRailOk_frame (q : Quad) (s : State) : ∃ nx, execFenceRailOk q s = .next nx ∧ Frame 0x8 s nx := by
  unfold execFenceRailOk
  exact ⟨_, rfl, Frame.ite ((State.put_frame ..).mono rfl) (Frame.refl _ _)⟩

theorem execFenceDone_frame (q : Quad) (s : State) : ∃ nx, execFenceDone q s = .next nx ∧ Frame 0xc4802c8 s nx := by
  unfold execFenceDone
  refine ⟨_, rfl, ?_⟩
  refine Frame.ite ?_ ?_
  · extract_lets +onlyGivenNames y1
    have hy1 : Frame 0xc4802c8 s y1 := (State.put_frame ..).mono rfl
    extract_lets +onlyGivenNames _ y2
    have hy2 : Frame 0xc4802c8 s y2 := (State.irqBit_frame ..).step rfl ((State.setQuad_frame ..).step rfl hy1)
    exact Frame.foldl _ _ _ (fun t3 a3 => (State.laneStart_frame ..).mono rfl) hy2
  · exact Frame.refl _ _

theorem State.writeWeirInj_frame (s : State) (w : Nat) (v : W32) : Frame 0x7e0dfffc7fffd8 s (State.writeWeirInj s w
    v) := by
  unfold State.writeWeirInj
  extract_lets +onlyGivenNames y1
  extract_lets +onlyGivenNames y2
  exact Frame.ite (Frame.ite ((State.liveDrop_frame ..).mono rfl) (State.scoped_frame rfl _ _ _ _ (fun x30 t3 =>
    Frame.refl _ _))) (Frame.ite ((State.badAccess_frame ..).mono rfl) (Frame.ite (State.scoped_frame rfl _ _ _ _ (fun
    x40 t4 => Frame.refl _ _)) ((State.integrity_frame ..).step rfl ((State.put_frame ..).step rfl
    ((State.setReg_frame ..).mono rfl)))))

theorem execWeirInj_frame (weir : WeirIx) (v : W32) (s : State) : ∃ nx, execWeirInj weir v s = .next nx ∧ Frame
    0x7e0dfffc7fffd8 s nx := by
  unfold execWeirInj
  exact ⟨_, rfl, State.access_frame rfl _ _ _ (fun t1 => (State.writeWeirInj_frame ..).mono rfl)⟩

theorem State.copyWord_frame (s : State) (a i : Nat) : Frame 0x8 s (State.copyWord s a i) := by
  unfold State.copyWord
  exact (State.setReg_frame ..).mono rfl

theorem State.copied_frame (s : State) (b : Block) (q i : Nat) : Frame 0x40081000000008 s (State.copied s b q i) := by
  unfold State.copied
  split
  · exact (State.slotOff_frame ..).mono rfl
  · exact upd_gsm rfl
  · exact upd_shpHist rfl
  · exact Frame.refl _ _

theorem State.copyEntry_frame (s : State) (b : Block) (q pg g i : Nat) : Frame 0x40081000480048 s (State.copyEntry s
    b q pg g i) := by
  unfold State.copyEntry
  extract_lets +onlyGivenNames y1
  extract_lets +onlyGivenNames y2
  refine Frame.ite ?_ ?_
  · exact Frame.refl _ _
  · refine Frame.ite ?_ ?_
    · exact (State.raise_frame ..).mono rfl
    · extract_lets +onlyGivenNames y3
      extract_lets +onlyGivenNames y4
      extract_lets +onlyGivenNames y5
      extract_lets +onlyGivenNames y6
      have hy6 : Frame 0x40081000480048 s y6 := Frame.foldl _ _ _ (fun t7 a7 => (State.copyWord_frame ..).mono rfl)
        (Frame.refl _ _)
      extract_lets +onlyGivenNames y8
      have hy8 : Frame 0x40081000480048 s y8 := Frame.foldl _ _ _ (fun t9 a9 => (State.copyWord_frame ..).mono rfl)
        hy6
      exact Frame.ite ((State.copied_frame ..).step rfl hy8) hy8

theorem State.copyContexts_frame (s : State) (g : Nat) : Frame 0x40081000480048 s (State.copyContexts s g) := by
  unfold State.copyContexts
  exact Frame.foldl _ _ _ (fun t1 a1 => Frame.foldl _ _ _ (fun t2 a2 => Frame.ite (Frame.foldl _ _ _ (fun t3 a3 =>
    (State.copyEntry_frame ..).mono rfl) (Frame.refl _ _)) (Frame.refl _ _)) (Frame.refl _ _)) (Frame.refl _ _)

theorem State.copyPolicies_frame (s : State) (g : Nat) : Frame 0x8 s (State.copyPolicies s g) := by
  unfold State.copyPolicies
  exact Frame.foldl _ _ _ (fun t1 a1 => Frame.ite ((State.setRowBit_frame ..).mono rfl) (Frame.refl _ _))
    (Frame.refl _ _)

theorem State.startCopy_frame (s : State) (g : Nat) : Frame 0x40081000496048 s (State.startCopy s g) := by
  unfold State.startCopy
  extract_lets +onlyGivenNames y1
  have hy1 : Frame 0x40081000496048 s y1 := (State.copyPolicies_frame ..).step rfl ((State.copyContexts_frame
    ..).mono rfl)
  extract_lets +onlyGivenNames y2
  have hy2 : Frame 0x40081000496048 s y2 := (State.setReg_frame ..).step rfl hy1
  extract_lets +onlyGivenNames y3
  have hy3 : Frame 0x40081000496048 s y3 := Frame.foldl _ _ _ (fun t4 a4 => Frame.ite (Frame.refl _ _)
    ((State.setRowBit_frame ..).mono rfl)) hy2
  extract_lets +onlyGivenNames y5
  have hy5 : Frame 0x40081000496048 s y5 := (State.setPhase_frame ..).step rfl ((State.setReg_frame ..).step rfl hy3)
  exact Frame.ite ((State.haltGroup_frame ..).step rfl (Frame.trans hy5 (upd_cgFault rfl))) ((State.settle_frame
    ..).step rfl hy5)

end Sys2Proof.Machine
end

