-- ==== Sys2Proof/Laws/FrameHost.lean ====
section
/-! SUPPORT. Which parts of the state the operations and commands of boot, the Pump, PCIe, modes, resets and trust can change: one lemma per definition. -/

namespace Sys2Proof.Machine

open Sys2Proof

theorem State.setBank_frame (s : State) (c : Nat) (b : Bool) (x : Bytes) : Frame 0x200000000000 s (State.setBank s c
    b x) := by
  unfold State.setBank
  exact upd_rsto rfl

theorem State.examine_frame (s : State) : Frame 0x480048 s (State.examine s) := by
  unfold State.examine
  exact Frame.ite ((State.raise_frame ..).mono rfl) (Frame.refl _ _)

theorem State.startCommit_frame (s : State) (c : Nat) (payload : Bytes) : Frame 0xa00000000008 s (State.startCommit
    s c payload) := by
  unfold State.startCommit
  extract_lets +onlyGivenNames y1
  extract_lets +onlyGivenNames y2
  extract_lets +onlyGivenNames y3
  have hy3 : Frame 0xa00000000008 s y3 := (State.put_frame ..).step rfl ((State.setBank_frame ..).mono rfl)
  exact Frame.trans hy3 (upd_commit rfl)

theorem State.cutCommit_frame (s : State) : Frame 0x800000000008 s (State.cutCommit s) := by
  unfold State.cutCommit
  split
  · exact Frame.refl _ _
  · extract_lets +onlyGivenNames y1
    have hy1 : Frame 0x800000000008 s y1 := (State.put_frame ..).mono rfl
    exact Frame.trans hy1 (upd_commit rfl)

theorem State.setHssNext_frame (s : State) (n : Nat) : Frame 0x8 s (State.setHssNext s n) := by
  unfold State.setHssNext
  exact (State.setReg_frame ..).step rfl ((State.setReg_frame ..).mono rfl)

theorem State.takeHssIndex_frame (s : State) : Frame 0x8 s (State.takeHssIndex s) := by
  unfold State.takeHssIndex
  extract_lets +onlyGivenNames y1
  exact (State.setHssNext_frame ..).mono rfl

theorem State.setBootStep_frame (s : State) (n : Nat) : Frame 0x8 s (State.setBootStep s n) := by
  unfold State.setBootStep
  exact (State.put_frame ..).mono rfl

theorem State.openWindow_frame (s : State) : Frame 0x480048 s (State.openWindow s) := by
  unfold State.openWindow
  exact (State.irqBit_frame ..).step rfl ((State.put_frame ..).mono rfl)

theorem State.bootPlatform_frame (s : State) (m : Manifest) (fromDormant : Bool) : Frame 0x20000000208 s
    (State.bootPlatform s m fromDormant) := by
  unfold State.bootPlatform
  extract_lets +onlyGivenNames y1
  have hy1 : Frame 0x20000000208 s y1 := Frame.foldl _ _ _ (fun t2 a2 => (State.setReg_frame ..).mono rfl)
    (Frame.refl _ _)
  exact Frame.foldl _ _ _ (fun t3 a3 => (State.requestVoltage_frame ..).step rfl (Frame.ite ((State.orderRail_frame
    ..).mono rfl) (Frame.refl _ _))) ((State.setBootStep_frame ..).step rfl ((State.setReg_frame ..).step rfl hy1))

theorem State.orderHscOff_frame (s : State) : Frame 0x20000000000 s (State.orderHscOff s) := by
  unfold State.orderHscOff
  extract_lets +onlyGivenNames y1
  exact Frame.ite ((State.pmbPush_frame ..).mono rfl) (Frame.refl _ _)

theorem State.setChState_frame (s : State) (c n : Nat) : Frame 0x8 s (State.setChState s c n) := by
  unfold State.setChState
  exact (State.put_frame ..).mono rfl

theorem State.setChList_frame (s : State) (c : Nat) (l : List PumpDesc) : Frame 0x100000 s (State.setChList s c l)
    := by
  unfold State.setChList
  exact upd_pump rfl

theorem State.chStop_frame (s : State) (c st res : Nat) : Frame 0x580048 s (State.chStop s c st res) := by
  unfold State.chStop
  exact (State.irqBit_frame ..).step rfl ((State.setChList_frame ..).step rfl ((State.put_frame ..).step rfl
    ((State.setChState_frame ..).mono rfl)))

theorem State.chDoorbell_frame (s : State) (c tail : Nat) : Frame 0x580048 s (State.chDoorbell s c tail) := by
  unfold State.chDoorbell
  extract_lets +onlyGivenNames y1
  have hy1 : Frame 0x580048 s y1 := (State.put_frame ..).mono rfl
  exact Frame.ite ((State.chStop_frame ..).step rfl ((State.raise_frame ..).step rfl hy1)) hy1

theorem State.chFetch_frame (s : State) (c : Nat) (f : PumpFetch) : Frame 0x100008 s (State.chFetch s c f) := by
  unfold State.chFetch
  extract_lets +onlyGivenNames y1
  extract_lets +onlyGivenNames y2
  exact Frame.ite (Frame.refl _ _) ((State.setChState_frame ..).step rfl ((State.setChList_frame ..).mono rfl))

theorem State.countBytes_frame (s : State) (out : Bool) (n : Nat) : Frame 0x200008 s (State.countBytes s out n) := by
  unfold State.countBytes
  extract_lets +onlyGivenNames y1
  extract_lets +onlyGivenNames y2
  have hy2 : Frame 0x200008 s y2 := (State.inc_frame ..).mono rfl
  exact Frame.trans hy2 (upd_pumpBytes rfl)

theorem devFill_frame (x0 : Nat) (x1 : PumpMove) (x2 : Nat) (x3 : List PByte) : Frame 0xc004c0158 x1.st (devFill x0
    x1 x2 x3).st := by
  induction x0 generalizing x1 x2 x3 with
  | zero => exact Frame.refl _ _
  | succ n ih =>
    rw [devFill]
    refine Frame.iteF PumpMove.st (Frame.refl _ _) ?_
    refine Frame.iteF PumpMove.st ?_ ?_
    · refine Frame.trans ?_ (ih ..)
      exact (State.devWrite_frame ..).mono rfl
    · exact (State.devWrite_frame ..).mono rfl

theorem devSend_frame (x0 : Nat) (x1 : PumpMove) (x2 : Nat) (x3 : Nat) (x4 : Nat) (x5 : Nat) : Frame 0xc004c0158
    x1.st (devSend x0 x1 x2 x3 x4 x5).st := by
  induction x0 generalizing x1 x2 x3 x4 x5 with
  | zero => exact Frame.refl _ _
  | succ n ih =>
    rw [devSend]
    refine Frame.iteF PumpMove.st (Frame.refl _ _) ?_
    refine Frame.iteF PumpMove.st ?_ ?_
    · refine Frame.trans ?_ (ih ..)
      exact ((State.devRead_frame ..).mono rfl).trans ((State.hostWrite_frame ..).mono rfl)
    · exact (State.devRead_frame ..).mono rfl

theorem devCopy_frame (x0 : Nat) (x1 : PumpMove) (x2 : Nat) (x3 : Nat) (x4 : Nat) : Frame 0xc004c0158 x1.st (devCopy
    x0 x1 x2 x3 x4).st := by
  induction x0 generalizing x1 x2 x3 x4 with
  | zero => exact Frame.refl _ _
  | succ n ih =>
    rw [devCopy]
    refine Frame.iteF PumpMove.st (Frame.refl _ _) ?_
    refine Frame.iteF PumpMove.st ?_ ?_
    · refine Frame.iteF PumpMove.st ?_ ?_
      · refine Frame.trans ?_ (ih ..)
        exact ((State.devRead_frame ..).mono rfl).trans ((State.devWrite_frame ..).mono rfl)
      · exact ((State.devRead_frame ..).mono rfl).trans ((State.devWrite_frame ..).mono rfl)
    · exact (State.devRead_frame ..).mono rfl

theorem State.pumpMove_frame (s : State) (fn : Nat) (d : PumpDesc) (r : PumpResp) : Frame 0xc006c0158 s
    (State.pumpMove s fn d r).1.st := by
  unfold State.pumpMove
  refine Frame.iteF (fun z => PumpMove.st (Prod.fst (z))) ?_ ?_
  · exact Frame.refl _ _
  · extract_lets +onlyGivenNames y1
    have hy1 : Frame 0xc006c0158 s y1.st := by
      unfold y1
      split
      · refine Frame.trans ?_ (Frame.mono (devFill_frame ..) rfl)
        exact Frame.refl _ _
      · refine Frame.trans ?_ (Frame.mono (devSend_frame ..) rfl)
        exact Frame.refl _ _
      · refine Frame.trans ?_ (Frame.mono (devCopy_frame ..) rfl)
        exact Frame.refl _ _
    extract_lets +onlyGivenNames y2
    refine Frame.ite ?_ ?_
    · refine Frame.trans ?_ (Frame.mono (State.countBytes_frame ..) rfl)
      exact hy1
    · refine Frame.ite ?_ ?_
      · refine Frame.trans ?_ (Frame.mono (State.countBytes_frame ..) rfl)
        exact hy1
      · exact hy1

theorem State.chInterrupt_frame (s : State) (c : Nat) : Frame 0x480048 s (State.chInterrupt s c) := by
  unfold State.chInterrupt
  exact Frame.ite ((State.irqBit_frame ..).mono rfl) ((State.sendVector_frame ..).mono rfl)

theorem State.writeStatus_frame (s : State) (c : Nat) (d : PumpDesc) (res len : Nat) : Frame 0x480048 s
    (State.writeStatus s c d res len) := by
  unfold State.writeStatus
  extract_lets +onlyGivenNames y1
  have hy1 : Frame 0x480048 s y1 := (State.hostWrite_frame ..).mono rfl
  extract_lets +onlyGivenNames y2
  have hy2 : Frame 0x480048 s y2 := (State.put_frame ..).step rfl ((State.put_frame ..).step rfl hy1)
  exact Frame.ite ((State.chInterrupt_frame ..).step rfl hy2) hy2

theorem State.chComplete_frame (s : State) (c : Nat) (r : PumpResp) : Frame 0xc007c0158 s (State.chComplete s c r)
    := by
  unfold State.chComplete
  split
  · exact Frame.refl _ _
  · extract_lets +onlyGivenNames y1
    have hy1 : Frame 0xc007c0158 s y1.1.st := (State.pumpMove_frame ..).mono rfl
    extract_lets +onlyGivenNames y2
    have hy2 : Frame 0xc007c0158 s y2 := Frame.ite ((State.raise_frame ..).step rfl hy1) hy1
    extract_lets +onlyGivenNames y3
    have hy3 : Frame 0xc007c0158 s y3 := (State.writeStatus_frame ..).step rfl ((State.setChList_frame ..).step rfl
      hy2)
    exact Frame.ite ((State.chStop_frame ..).step rfl ((State.raise_frame ..).step rfl hy3)) (Frame.ite
      ((State.chStop_frame ..).step rfl ((State.raise_frame ..).step rfl hy3)) (Frame.ite ((State.chStop_frame
      ..).step rfl ((State.raise_frame ..).step rfl hy3)) (Frame.ite ((State.setChState_frame ..).step rfl hy3) hy3)))

theorem State.abandonDesc_frame (s : State) (c : Nat) (d : PumpDesc) : Frame 0x480048 s (State.abandonDesc s c d) :=
    by
  unfold State.abandonDesc
  exact Frame.ite ((State.writeStatus_frame ..).mono rfl) ((State.put_frame ..).step rfl ((State.put_frame ..).mono
    rfl))

theorem State.abandonChannel_frame (s : State) (c : Nat) : Frame 0x580048 s (State.abandonChannel s c) := by
  unfold State.abandonChannel
  exact (State.chStop_frame ..).step rfl (Frame.foldl _ _ _ (fun t1 a1 => (State.abandonDesc_frame ..).mono rfl)
    (Frame.refl _ _))

theorem State.abortChannel_frame (s : State) (c : Nat) : Frame 0x580048 s (State.abortChannel s c) := by
  unfold State.abortChannel
  extract_lets +onlyGivenNames y1
  extract_lets +onlyGivenNames y2
  extract_lets +onlyGivenNames y3
  exact (State.chStop_frame ..).step rfl (Frame.foldl _ _ _ (fun t4 a4 => (State.abandonDesc_frame ..).mono rfl)
    (Frame.refl _ _))

theorem State.resetConfig_frame (s : State) (p : Nat → Bool) : Frame 0x80000 s (State.resetConfig s p) := by
  unfold State.resetConfig
  exact upd_pcie rfl

theorem State.dropVfs_frame (s : State) : Frame 0x80000 s (State.dropVfs s) := by
  unfold State.dropVfs
  extract_lets +onlyGivenNames y1
  have hy1 : Frame 0x80000 s y1 := (State.resetConfig_frame ..).mono rfl
  exact Frame.trans hy1 (upd_pcie rfl)

theorem State.resetFn_frame (s : State) (fn : Nat) : Frame 0x80000 s (State.resetFn s fn) := by
  unfold State.resetFn
  extract_lets +onlyGivenNames y1
  have hy1 : Frame 0x80000 s y1 := (State.resetConfig_frame ..).mono rfl
  refine Frame.ite ?_ ?_
  · extract_lets +onlyGivenNames y2
    have hy2 : Frame 0x80000 s y2 := (State.dropVfs_frame ..).step rfl hy1
    exact Frame.trans hy2 (upd_pcie rfl)
  · exact Frame.ite (Frame.trans hy1 (upd_pcie rfl)) hy1

theorem State.stopOwned_frame (s : State) (p : Nat → Bool) : Frame 0x580048 s (State.stopOwned s p) := by
  unfold State.stopOwned
  extract_lets +onlyGivenNames y1
  have hy1 : Frame 0x580048 s y1 := Frame.foldl _ _ _ (fun t2 a2 => Frame.ite ((State.stopRing_frame ..).mono rfl)
    (Frame.refl _ _)) (Frame.refl _ _)
  exact Frame.foldl _ _ _ (fun t3 a3 => Frame.ite ((State.abandonChannel_frame ..).mono rfl) (Frame.refl _ _)) hy1

theorem State.linkDown_frame (s : State) : Frame 0x580048 s (State.linkDown s) := by
  unfold State.linkDown
  extract_lets +onlyGivenNames _ y1
  have hy1 : Frame 0x580048 s y1 := upd_pcie rfl
  extract_lets +onlyGivenNames y2
  have hy2 : Frame 0x580048 s y2 := (State.inc_frame ..).step rfl ((State.put_frame ..).step rfl hy1)
  exact (State.irqBit_frame ..).step rfl ((State.raise_frame ..).step rfl ((State.stopOwned_frame ..).step rfl hy2))

theorem State.badDoorbell_frame (s : State) (n : Nat) : Frame 0x480048 s (State.badDoorbell s n) := by
  unfold State.badDoorbell
  exact (State.raise_frame ..).step rfl ((State.inc_frame ..).mono rfl)

theorem State.doorbell_frame {F : Nat} (hF : Nat.land 0x480048 F = 0x480048) (s : State) (fn owner : Nat) (v : W32)
    (k : Nat → State → State) (hk : ∀ x0 t0, Frame F t0 (k x0 t0)) : Frame F s (State.doorbell s fn owner v k) := by
  unfold State.doorbell
  exact Frame.ite (Frame.refl _ _) (Frame.ite ((State.badDoorbell_frame ..).mono (Frame.sub_trans rfl hF)) (hk ..))

theorem execPumpDoorbell_frame (fn : Fn) (ch : W4) (v : W32) (s : State) : ∃ nx, execPumpDoorbell fn ch v s = .next
    nx ∧ Frame 0x580048 s nx := by
  unfold execPumpDoorbell
  exact ⟨_, rfl, State.doorbell_frame rfl _ _ _ _ _ (fun x10 t1 => (State.chDoorbell_frame ..).mono rfl)⟩

theorem State.writeChDb_frame (s : State) (v : W32) : Frame 0x580048 s (State.writeChDb s v) := by
  unfold State.writeChDb
  extract_lets +onlyGivenNames y1
  exact Frame.ite (State.access_frame rfl _ _ _ (fun t2 => Frame.refl _ _)) (Frame.ite ((State.badAccess_frame
    ..).mono rfl) ((State.chDoorbell_frame ..).mono rfl))

theorem execPumpChDb_frame (v : W32) (s : State) : ∃ nx, execPumpChDb v s = .next nx ∧ Frame 0x580048 s nx := by
  unfold execPumpChDb
  exact ⟨_, rfl, (State.writeChDb_frame ..).mono rfl⟩

theorem execPumpDescFetch_frame (ch : W4) (resp : PumpFetch) (s : State) : ∃ nx, execPumpDescFetch ch resp s = .next
    nx ∧ Frame 0x100008 s nx := by
  unfold execPumpDescFetch
  exact ⟨_, rfl, Frame.ite ((State.chFetch_frame ..).mono rfl) (Frame.refl _ _)⟩

theorem execPumpDescComplete_frame (ch : W4) (resp : PumpResp) (s : State) : ∃ nx, execPumpDescComplete ch resp s =
    .next nx ∧ Frame 0xc007c0158 s nx := by
  unfold execPumpDescComplete
  exact ⟨_, rfl, (State.chComplete_frame ..).mono rfl⟩

theorem execCplTimeout_frame (ch : W4) (resp : PumpResp) (s : State) : ∃ nx, execCplTimeout ch resp s = .next nx ∧
    Frame 0xc007c0158 s nx := by
  unfold execCplTimeout
  exact ⟨_, rfl, Frame.ite ((State.chComplete_frame ..).step rfl ((State.raise_frame ..).mono rfl)) (Frame.refl _ _)⟩

theorem State.resumeChannel_frame (s : State) (c : Nat) : Frame 0x8 s (State.resumeChannel s c) := by
  unfold State.resumeChannel
  exact Frame.ite ((State.setChState_frame ..).mono rfl) (Frame.refl _ _)

theorem State.writeChCtrl_frame (s : State) (v : W32) : Frame 0x580048 s (State.writeChCtrl s v) := by
  unfold State.writeChCtrl
  extract_lets +onlyGivenNames y1
  extract_lets +onlyGivenNames y2
  have hy2 : Frame 0x580048 s y2 := Frame.ite ((State.abortChannel_frame ..).mono rfl) (Frame.refl _ _)
  exact Frame.ite ((State.resumeChannel_frame ..).step rfl hy2) hy2

theorem execPumpAbort_frame (s : State) : ∃ nx, execPumpAbort s = .next nx ∧ Frame 0x580048 s nx := by
  unfold execPumpAbort
  exact ⟨_, rfl, State.access_frame rfl _ _ _ (fun t1 => (State.abortChannel_frame ..).mono rfl)⟩

theorem execPumpResume_frame (s : State) : ∃ nx, execPumpResume s = .next nx ∧ Frame 0x8 s nx := by
  unfold execPumpResume
  exact ⟨_, rfl, State.access_frame rfl _ _ _ (fun t1 => (State.resumeChannel_frame ..).mono rfl)⟩

theorem State.ringDoorbell_frame (s : State) (r tail : Nat) : Frame 0x480048 s (State.ringDoorbell s r tail) := by
  unfold State.ringDoorbell
  refine Frame.ite ?_ ?_
  · exact (State.raise_frame ..).step rfl ((State.inc_frame ..).mono rfl)
  · extract_lets +onlyGivenNames y1
    have hy1 : Frame 0x480048 s y1 := (State.put_frame ..).mono rfl
    exact Frame.ite ((State.stopRing_frame ..).step rfl hy1) hy1

theorem execRingDoorbell_frame (fn : Fn) (r : Ring) (v : W32) (s : State) : ∃ nx, execRingDoorbell fn r v s = .next
    nx ∧ Frame 0x480048 s nx := by
  unfold execRingDoorbell
  exact ⟨_, rfl, State.doorbell_frame rfl _ _ _ _ _ (fun x10 t1 => (State.ringDoorbell_frame ..).mono rfl)⟩

theorem State.cqDoorbell_frame (s : State) (c head : Nat) : Frame 0x480048 s (State.cqDoorbell s c head) := by
  unfold State.cqDoorbell
  extract_lets +onlyGivenNames y1
  exact Frame.ite ((State.put_frame ..).step rfl ((State.put_frame ..).mono rfl)) ((State.badDoorbell_frame ..).mono
    rfl)

theorem execCqHeadDoorbell_frame (fn : Fn) (c : Cq) (v : W32) (s : State) : ∃ nx, execCqHeadDoorbell fn c v s =
    .next nx ∧ Frame 0x480048 s nx := by
  unfold execCqHeadDoorbell
  exact ⟨_, rfl, State.doorbell_frame rfl _ _ _ _ _ (fun x10 t1 => (State.cqDoorbell_frame ..).mono rfl)⟩

theorem execDoorbellRead_frame (fn : Fn) (off : W22) (s : State) : ∃ nx, execDoorbellRead fn off s = .next nx ∧
    Frame 0x60 s nx := by
  unfold execDoorbellRead
  exact ⟨_, rfl, Frame.ite ((State.emit_frame ..).mono rfl) ((State.emit_frame ..).step rfl (upd_readData rfl))⟩

theorem State.cfgWrite_frame (s : State) (fn : Nat) (w : ConfigReq) : Frame 0x80000 s (State.cfgWrite s fn w) := by
  unfold State.cfgWrite
  split
  · exact Frame.refl _ _
  · exact upd_pcie rfl
  · exact upd_pcie rfl
  · refine Frame.ite ?_ ?_
    · exact Frame.refl _ _
    · extract_lets +onlyGivenNames y1
      have hy1 : Frame 0x80000 s y1 := Frame.ite (Frame.refl _ _) ((State.dropVfs_frame ..).mono rfl)
      exact Frame.trans hy1 (upd_pcie rfl)
  · exact Frame.ite (Frame.refl _ _) (upd_pcie rfl)
  · exact Frame.ite (upd_pcie rfl) (Frame.refl _ _)

theorem State.sendPending_frame (s : State) (fn v : Nat) : Frame 0x480048 s (State.sendPending s fn v) := by
  unfold State.sendPending
  extract_lets +onlyGivenNames y1
  refine Frame.ite ?_ ?_
  · exact Frame.refl _ _
  · refine Frame.ite ?_ ?_
    · exact upd_pcie rfl
    · extract_lets +onlyGivenNames y2
      have hy2 : Frame 0x480048 s y2.1 := (State.message_frame ..).mono rfl
      exact Frame.ite ((State.raise_frame ..).step rfl hy2) hy2

theorem State.msixOn_frame (s : State) (fn : Nat) : Frame 0x480048 s (State.msixOn s fn) := by
  unfold State.msixOn
  exact Frame.foldl _ _ _ (fun t1 a1 => (State.sendPending_frame ..).mono rfl) ((State.cfgWrite_frame ..).mono rfl)

theorem State.cfgAct_frame (s : State) (fn : Nat) (w : ConfigReq) : Frame 0x480048 s (State.cfgAct s fn w) := by
  unfold State.cfgAct
  exact Frame.ite ((State.msixOn_frame ..).mono rfl) ((State.cfgWrite_frame ..).mono rfl)

theorem execConfigRequest_frame (fn : Fn) (w : ConfigReq) (s : State) : ∃ nx, execConfigRequest fn w s = .next nx ∧
    Frame 0x480048 s nx := by
  unfold execConfigRequest
  exact ⟨_, rfl, Frame.ite (Frame.refl _ _) (Frame.ite ((State.emit_frame ..).mono rfl) ((State.emit_frame ..).step
    rfl ((State.cfgAct_frame ..).mono rfl)))⟩

theorem State.setMask_frame (s : State) (fn v : Nat) (open_ : Bool) : Frame 0x80000 s (State.setMask s fn v open_)
    := by
  unfold State.setMask
  exact upd_pcie rfl

theorem execMsixUnmask_frame (fn : Fn) (vec : MsixTarget) (s : State) : ∃ nx, execMsixUnmask fn vec s = .next nx ∧
    Frame 0x480048 s nx := by
  unfold execMsixUnmask
  refine ⟨_, rfl, ?_⟩
  refine Frame.ite ?_ ?_
  · exact Frame.refl _ _
  · split
    · exact (State.msixOn_frame ..).mono rfl
    · exact Frame.ite ((State.sendPending_frame ..).step rfl ((State.setMask_frame ..).mono rfl)) (Frame.refl _ _)
    · exact Frame.ite ((State.setMask_frame ..).mono rfl) (Frame.refl _ _)

theorem State.resend_frame (s : State) (v : Nat) : Frame 0x480048 s (State.resend s v) := by
  unfold State.resend
  refine Frame.ite ?_ ?_
  · extract_lets +onlyGivenNames y1
    have hy1 : Frame 0x480048 s y1.1 := (State.message_frame ..).mono rfl
    exact Frame.ite ((State.raise_frame ..).step rfl hy1) hy1
  · exact Frame.refl _ _

theorem State.rearm_frame (s : State) (hi : Bool) (v : W32) : Frame 0x480048 s (State.rearm s hi v) := by
  unfold State.rearm
  exact Frame.foldl _ _ _ (fun t1 a1 => (State.resend_frame ..).mono rfl) (Frame.refl _ _)

theorem execIrqRearm_frame (hi : Bool) (v : W32) (s : State) : ∃ nx, execIrqRearm hi v s = .next nx ∧ Frame 0x480048
    s nx := by
  unfold execIrqRearm
  exact ⟨_, rfl, State.access_frame rfl _ _ _ (fun t1 => (State.rearm_frame ..).mono rfl)⟩

theorem execPcieLinkUp_frame (speed : W3) (width : W5) (s : State) : ∃ nx, execPcieLinkUp speed width s = .next nx ∧
    Frame 0x480048 s nx := by
  unfold execPcieLinkUp
  exact ⟨_, rfl, Frame.ite (Frame.refl _ _) ((State.irqBit_frame ..).step rfl ((State.put_frame ..).step rfl
    ((State.put_frame ..).step rfl ((State.put_frame ..).mono rfl))))⟩

theorem execFunctionLevelReset_frame (fn : Fn) (s : State) : ∃ nx, execFunctionLevelReset fn s = .next nx ∧ Frame
    0x580048 s nx := by
  unfold execFunctionLevelReset
  refine ⟨_, rfl, ?_⟩
  refine Frame.ite ?_ ?_
  · exact Frame.refl _ _
  · extract_lets +onlyGivenNames y1
    have hy1 : Frame 0x580048 s y1 := (State.resetFn_frame ..).mono rfl
    exact Frame.ite hy1 ((State.stopOwned_frame ..).step rfl hy1)

theorem execLinkReset_frame (s : State) : ∃ nx, execLinkReset s = .next nx ∧ Frame 0x580048 s nx := by
  unfold execLinkReset
  exact ⟨_, rfl, Frame.ite ((State.linkDown_frame ..).mono rfl) (Frame.refl _ _)⟩

theorem State.rejectMode_frame (s : State) : Frame 0x480048 s (State.rejectMode s) := by
  unfold State.rejectMode
  exact (State.badAccess_frame ..).step rfl ((State.irqBit_frame ..).step rfl ((State.put_frame ..).mono rfl))

theorem State.startTransition_frame (s : State) (target : Nat) : Frame 0x8 s (State.startTransition s target) := by
  unfold State.startTransition
  exact (State.put_frame ..).step rfl ((State.put_frame ..).mono rfl)

theorem State.haltLimit_frame (s : State) (g : Nat) : Frame 0x4b0048 s (State.haltLimit s g) := by
  unfold State.haltLimit
  exact (State.settle_frame ..).step rfl ((State.setPhase_frame ..).step rfl ((State.raise_frame ..).step rfl
    ((State.put_frame ..).step rfl ((State.abandonGroup_frame ..).mono rfl))))

theorem State.setDrainStep_frame (s : State) (n : Nat) : Frame 0x8 s (State.setDrainStep s n) := by
  unfold State.setDrainStep
  exact (State.put_frame ..).mono rfl

theorem State.startDrain_frame (s : State) (cause : Nat) : Frame 0x100000496848 s (State.startDrain s cause) := by
  unfold State.startDrain
  extract_lets +onlyGivenNames y1
  have hy1 : Frame 0x100000496848 s y1 := (State.setReg_frame ..).step rfl ((State.setDrainStep_frame ..).step rfl
    ((State.put_frame ..).step rfl ((State.startTransition_frame ..).step rfl ((State.put_frame ..).mono rfl))))
  extract_lets +onlyGivenNames _ y2
  have hy2 : Frame 0x100000496848 s y2 := Frame.trans ((State.put_frame ..).step rfl hy1) (upd_ejectHeld_drainRaw
    rfl rfl)
  exact (State.irqBit_frame ..).step rfl (Frame.foldl _ _ _ (fun t4 a4 => (State.haltGroup_frame ..).mono rfl) hy2)

theorem State.commitPending_frame (s : State) : Frame 0xa00000480048 s (State.commitPending s) := by
  unfold State.commitPending
  refine Frame.ite ?_ ?_
  · exact Frame.refl _ _
  · refine Frame.ite ?_ ?_
    · exact (State.raise_frame ..).step rfl ((State.put_frame ..).mono rfl)
    · extract_lets +onlyGivenNames y1
      have hy1 : Frame 0xa00000480048 s y1 := (State.startCommit_frame ..).mono rfl
      exact Frame.trans hy1 (upd_commit rfl)

theorem State.blocksDown_frame (s : State) (q floor : Nat) : Frame 0x4c0148 s (State.blocksDown s q floor) := by
  unfold State.blocksDown
  exact Frame.foldl _ _ _ (fun t1 a1 => (State.modSlot_frame ..).step rfl ((State.drainSlot_frame ..).mono rfl))
    (Frame.refl _ _)

theorem State.dropChange_frame (s : State) (q : Nat) : Frame 0x208 s (State.dropChange s q) := by
  unfold State.dropChange
  exact (State.setQuad_frame ..).step rfl ((State.put_frame ..).mono rfl)

theorem State.quadDown_frame (s : State) (q : Nat) : Frame 0x600bfffc4f0758 s (State.quadDown s q) := by
  unfold State.quadDown
  refine Frame.ite ?_ ?_
  · exact (State.domainSleep_frame ..).step rfl ((State.dropChange_frame ..).step rfl ((State.put_frame ..).step rfl
      ((State.quadReset_frame ..).mono rfl)))
  · extract_lets +onlyGivenNames y1
    refine Frame.ite ?_ ?_
    · exact Frame.refl _ _
    · extract_lets +onlyGivenNames y2
      have hy2 : Frame 0x600bfffc4f0758 s y2 := Frame.foldl _ _ _ (fun t3 a3 => (State.clearTiles_frame ..).mono
        rfl) ((State.dropChange_frame ..).step rfl ((State.blocksDown_frame ..).mono rfl))
      exact (State.domainSleep_frame ..).step rfl hy2

theorem State.enterStep_frame (s : State) (n : Nat) : Frame 0x60abfffc4f07d8 s (State.enterStep s n) := by
  unfold State.enterStep
  extract_lets +onlyGivenNames y1
  have hy1 : Frame 0x60abfffc4f07d8 s y1 := (State.setDrainStep_frame ..).mono rfl
  split
  · exact (State.lanesDepart_frame ..).step rfl hy1
  · exact (State.commitPending_frame ..).step rfl hy1
  · exact Frame.foldl _ _ _ (fun t2 a2 => (State.quadDown_frame ..).mono rfl) hy1
  · exact hy1

theorem State.endDrain_frame (s : State) : Frame 0x10020c00796558 s (State.endDrain s) := by
  unfold State.endDrain
  extract_lets +onlyGivenNames y1
  extract_lets +onlyGivenNames y2
  extract_lets +onlyGivenNames y3
  have hy3 : Frame 0x10020c00796558 s y3 := (State.setReg_frame ..).step rfl ((State.orderRail_frame ..).step rfl
    ((State.coreOff_frame ..).mono rfl))
  extract_lets +onlyGivenNames y4
  have hy4 : Frame 0x10020c00796558 s y4 := (State.endTransition_frame ..).step rfl ((State.setDrainStep_frame
    ..).step rfl hy3)
  exact Frame.ite ((State.orderHscOff_frame ..).step rfl hy4) hy4

theorem State.nextStep_frame (s : State) : Frame 0x70abfffc7f67d8 s (State.nextStep s) := by
  unfold State.nextStep
  exact Frame.ite ((State.endDrain_frame ..).mono rfl) ((State.enterStep_frame ..).mono rfl)

theorem State.cutStep_frame (s : State) (n : Nat) : Frame 0x8000005b0048 s (State.cutStep s n) := by
  unfold State.cutStep
  split
  · exact Frame.foldl _ _ _ (fun t1 a1 => Frame.ite ((State.haltLimit_frame ..).mono rfl) (Frame.refl _ _))
      (Frame.refl _ _)
  · exact (State.writeAllReady_frame ..).step rfl (Frame.foldl _ _ _ (fun t2 a2 => Frame.ite (Frame.refl _ _)
      ((State.abandonChannel_frame ..).mono rfl)) (Frame.refl _ _))
  · split
    · exact Frame.refl _ _
    · exact (State.irqBit_frame ..).step rfl (Frame.ite ((State.put_frame ..).step rfl ((State.cutCommit_frame
        ..).mono rfl)) ((State.cutCommit_frame ..).mono rfl))
  · exact Frame.refl _ _

theorem State.modeReq_frame {F : Nat} (hF : Nat.land 0x480048 F = 0x480048) (s : State) (key : W16) (ok : Bool) (k :
    State → State) (hk : ∀ t0, Frame F t0 (k t0)) : Frame F s (State.modeReq s key ok k) := by
  unfold State.modeReq
  exact Frame.ite ((State.badAccess_frame ..).mono (Frame.sub_trans rfl hF)) (Frame.ite (hk ..)
    ((State.rejectMode_frame ..).mono (Frame.sub_trans rfl hF)))

theorem State.reqBoot_frame (s : State) (key : W16) : Frame 0x8000000480048 s (State.reqBoot s key) := by
  unfold State.reqBoot
  refine Frame.trans ?_ (State.modeReq_frame rfl _ _ _ _ (fun t1 => ?_))
  · exact Frame.refl _ _
  · extract_lets +onlyGivenNames y2
    have hy2 : Frame 0x8000000480048 t1 y2 := (State.endTransition_frame ..).mono rfl
    exact Frame.trans hy2 (upd_bootDormant rfl)

theorem State.reqConfig_frame (s : State) (key : W16) : Frame 0x480048 s (State.reqConfig s key) := by
  unfold State.reqConfig
  exact State.modeReq_frame rfl _ _ _ _ (fun t1 => (State.startTransition_frame ..).mono rfl)

theorem State.reqService_frame (s : State) (key : W16) : Frame 0x480048 s (State.reqService s key) := by
  unfold State.reqService
  exact State.modeReq_frame rfl _ _ _ _ (fun t1 => (State.startTransition_frame ..).mono rfl)

theorem State.reqDrain_frame (s : State) (key : W16) : Frame 0x100000496848 s (State.reqDrain s key) := by
  unfold State.reqDrain
  exact State.modeReq_frame rfl _ _ _ _ (fun t1 => (State.startDrain_frame ..).mono rfl)

theorem State.writeModeReq_frame (s : State) (v : W32) : Frame 0x8100000496848 s (State.writeModeReq s v) := by
  unfold State.writeModeReq
  extract_lets +onlyGivenNames y1
  split
  · exact (State.reqBoot_frame ..).mono rfl
  · exact (State.reqConfig_frame ..).mono rfl
  · exact (State.reqService_frame ..).mono rfl
  · exact (State.reqDrain_frame ..).mono rfl
  · exact State.modeReq_frame rfl _ _ _ _ (fun t2 => Frame.refl _ _)

theorem execModeReqBoot_frame (key : W16) (s : State) : ∃ nx, execModeReqBoot key s = .next nx ∧ Frame
    0x8000000480048 s nx := by
  unfold execModeReqBoot
  exact ⟨_, rfl, (State.reqBoot_frame ..).mono rfl⟩

theorem execModeReqConfig_frame (key : W16) (s : State) : ∃ nx, execModeReqConfig key s = .next nx ∧ Frame 0x480048
    s nx := by
  unfold execModeReqConfig
  exact ⟨_, rfl, (State.reqConfig_frame ..).mono rfl⟩

theorem execModeReqService_frame (key : W16) (s : State) : ∃ nx, execModeReqService key s = .next nx ∧ Frame
    0x480048 s nx := by
  unfold execModeReqService
  exact ⟨_, rfl, (State.reqService_frame ..).mono rfl⟩

theorem execModeReqDrain_frame (key : W16) (s : State) : ∃ nx, execModeReqDrain key s = .next nx ∧ Frame
    0x100000496848 s nx := by
  unfold execModeReqDrain
  exact ⟨_, rfl, (State.reqDrain_frame ..).mono rfl⟩

theorem execModeDone_frame (s : State) : ∃ nx, execModeDone s = .next nx ∧ Frame 0x100000496848 s nx := by
  unfold execModeDone
  refine ⟨_, rfl, ?_⟩
  refine Frame.ite ?_ ?_
  · extract_lets +onlyGivenNames y1
    have hy1 : Frame 0x100000496848 s y1 := (State.endTransition_frame ..).mono rfl
    exact Frame.ite ((State.startDrain_frame ..).step rfl hy1) (Frame.trans hy1 (upd_ejectHeld rfl))
  · exact Frame.refl _ _

theorem State.ejectActs_frame (s : State) : Frame 0x120000496848 s (State.ejectActs s) := by
  unfold State.ejectActs
  exact Frame.ite (upd_ejectHeld rfl) (Frame.ite (Frame.ite ((State.orderHscOff_frame ..).mono rfl) (Frame.refl _
    _)) (Frame.ite (Frame.refl _ _) ((State.startDrain_frame ..).mono rfl)))

theorem execEjectAssert_frame (s : State) : ∃ nx, execEjectAssert s = .next nx ∧ Frame 0x120000496848 s nx := by
  unfold execEjectAssert
  exact ⟨_, rfl, Frame.ite (Frame.refl _ _) ((State.ejectActs_frame ..).step rfl ((State.irqBit_frame ..).step rfl
    ((State.put_frame ..).mono rfl)))⟩

theorem execEjectRelease_frame (s : State) : ∃ nx, execEjectRelease s = .next nx ∧ Frame 0x480048 s nx := by
  unfold execEjectRelease
  exact ⟨_, rfl, Frame.ite ((State.irqBit_frame ..).step rfl ((State.put_frame ..).mono rfl)) (Frame.refl _ _)⟩

theorem execDrainStepEnd_frame (s : State) : ∃ nx, execDrainStepEnd s = .next nx ∧ Frame 0x70abfffc7f67d8 s nx := by
  unfold execDrainStepEnd
  exact ⟨_, rfl, Frame.ite ((State.nextStep_frame ..).mono rfl) (Frame.refl _ _)⟩

theorem execDrainStepCut_frame (s : State) : ∃ nx, execDrainStepCut s = .next nx ∧ Frame 0x70abfffc7f67d8 s nx := by
  unfold execDrainStepCut
  refine ⟨_, rfl, ?_⟩
  refine Frame.ite ?_ ?_
  · extract_lets +onlyGivenNames y1
    exact (State.nextStep_frame ..).step rfl ((State.cutStep_frame ..).step rfl ((State.put_frame ..).mono rfl))
  · exact Frame.refl _ _

theorem execCgDispatchStopped_frame (g : Cg) (s : State) : ∃ nx, execCgDispatchStopped g s = .next nx ∧ Frame
    0x4b2048 s nx := by
  unfold execCgDispatchStopped
  refine ⟨_, rfl, ?_⟩
  refine Frame.ite ?_ ?_
  · extract_lets +onlyGivenNames y1
    have hy1 : Frame 0x4b2048 s y1 := (State.settle_frame ..).step rfl (upd_cgStop rfl)
    exact Frame.ite ((State.haltLimit_frame ..).step rfl hy1) hy1
  · exact Frame.refl _ _

theorem execCgHaltLimit_frame (g : Cg) (s : State) : ∃ nx, execCgHaltLimit g s = .next nx ∧ Frame 0x4b0048 s nx := by
  unfold execCgHaltLimit
  exact ⟨_, rfl, Frame.ite ((State.haltLimit_frame ..).mono rfl) (Frame.refl _ _)⟩

theorem execCgFlushDone_frame (g : Cg) (s : State) : ∃ nx, execCgFlushDone g s = .next nx ∧ Frame 0x482048 s nx := by
  unfold execCgFlushDone
  refine ⟨_, rfl, ?_⟩
  refine Frame.ite ?_ ?_
  · refine Frame.trans ?_ (Frame.mono (State.irqBit_frame ..) rfl)
    extract_lets +onlyGivenNames y1
    have hy1 : Frame 0x482048 s y1 := (State.setPhase_frame ..).mono rfl
    exact Frame.trans hy1 (upd_cgStop rfl)
  · exact Frame.refl _ _

theorem execCgStartCopy_frame (g : Cg) (s : State) : ∃ nx, execCgStartCopy g s = .next nx ∧ Frame 0x40081000496048 s
    nx := by
  unfold execCgStartCopy
  exact ⟨_, rfl, Frame.ite ((State.startCopy_frame ..).mono rfl) (Frame.refl _ _)⟩

theorem execWellPor_frame (s : State) : ∃ nx, execWellPor s = .next nx ∧ Frame 0x3fedffffffffffe s nx := by
  unfold execWellPor
  exact ⟨_, rfl, (State.examine_frame ..).step rfl ((State.wellReset_frame ..).mono rfl)⟩

theorem execPwrGoodLoss_frame (s : State) : ∃ nx, execPwrGoodLoss s = .next nx ∧ Frame 0x3fedffffffffffe s nx := by
  unfold execPwrGoodLoss
  refine ⟨_, rfl, ?_⟩
  extract_lets +onlyGivenNames y1
  have hy1 : Frame 0x3fedffffffffffe s y1 := (State.wellReset_frame ..).mono rfl
  exact Frame.trans hy1 (upd_wide rfl)

theorem State.assertSystem_frame (s : State) (src : Nat) : Frame 0xfecffffc7fff5c s (State.assertSystem s src) := by
  unfold State.assertSystem
  split
  · exact Frame.refl _ _
  · exact Frame.refl _ _
  · extract_lets +onlyGivenNames y1
    have hy1 : Frame 0xfecffffc7fff5c s y1 := (State.systemReset_frame ..).step rfl ((State.recordReset_frame
      ..).mono rfl)
    exact Frame.trans hy1 (upd_ejectHeld_wide_commit rfl rfl rfl)

theorem execSysRst_frame (s : State) : ∃ nx, execSysRst s = .next nx ∧ Frame 0xfecffffc7fff5c s nx := by
  unfold execSysRst
  exact ⟨_, rfl, (State.assertSystem_frame ..).mono rfl⟩

theorem execSystemResetRelease_frame (s : State) : ∃ nx, execSystemResetRelease s = .next nx ∧ Frame 0x1000 s nx := by
  unfold execSystemResetRelease
  exact ⟨_, rfl, Frame.ite (upd_wide rfl) (Frame.refl _ _)⟩

theorem State.writeRstCmd_frame (s : State) (key : W16) (ty : Nat) : Frame 0xfecffffc7fff5c s (State.writeRstCmd s
    key ty) := by
  unfold State.writeRstCmd
  exact Frame.ite ((State.badAccess_frame ..).mono rfl) (Frame.ite ((State.assertSystem_frame ..).mono rfl)
    ((State.assertDevice_frame ..).mono rfl))

theorem execWellRstSystem_frame (key : W16) (s : State) : ∃ nx, execWellRstSystem key s = .next nx ∧ Frame
    0xfecffffc7fff5c s nx := by
  unfold execWellRstSystem
  exact ⟨_, rfl, State.access_frame rfl _ _ _ (fun t1 => (State.writeRstCmd_frame ..).mono rfl)⟩

theorem execWellRstDevice_frame (key : W16) (s : State) : ∃ nx, execWellRstDevice key s = .next nx ∧ Frame
    0xfecffffc7fff5c s nx := by
  unfold execWellRstDevice
  exact ⟨_, rfl, State.access_frame rfl _ _ _ (fun t1 => (State.writeRstCmd_frame ..).mono rfl)⟩

theorem execDeviceResetRelease_frame (s : State) : ∃ nx, execDeviceResetRelease s = .next nx ∧ Frame 0x1008 s nx := by
  unfold execDeviceResetRelease
  exact ⟨_, rfl, Frame.ite (Frame.ite ((State.put_frame ..).mono rfl) (upd_wide rfl)) (Frame.refl _ _)⟩

theorem State.perstReset_frame (s : State) : Frame 0xc00580058 s (State.perstReset s) := by
  unfold State.perstReset
  exact (State.dropRegs_frame ..).step rfl ((State.linkDown_frame ..).step rfl ((State.recordReset_frame ..).mono
    rfl))

theorem execPerstAssert_frame (s : State) : ∃ nx, execPerstAssert s = .next nx ∧ Frame 0x7e0dfffc7fff58 s nx := by
  unfold execPerstAssert
  refine ⟨_, rfl, ?_⟩
  extract_lets +onlyGivenNames _ y1
  have hy1 : Frame 0x7e0dfffc7fff58 s y1 := upd_pcie rfl
  exact Frame.ite hy1 (Frame.ite ((State.assertDevice_frame ..).step rfl hy1) ((State.perstReset_frame ..).step rfl
    hy1))

theorem execPerstRelease_frame (s : State) : ∃ nx, execPerstRelease s = .next nx ∧ Frame 0x80000 s nx := by
  unfold execPerstRelease
  exact ⟨_, rfl, upd_pcie rfl⟩

theorem execBootBegin_frame (src : W2) (s : State) : ∃ nx, execBootBegin src s = .next nx ∧ Frame 0x1c020c00796558 s
    nx := by
  unfold execBootBegin
  refine ⟨_, rfl, ?_⟩
  refine Frame.ite ?_ ?_
  · exact Frame.refl _ _
  · extract_lets +onlyGivenNames _ y1
    have hy1 : Frame 0x1c020c00796558 s y1 := Frame.trans ((State.setReg_frame ..).mono rfl) (upd_boot_bootDormant
      rfl rfl)
    extract_lets +onlyGivenNames y3
    have hy3 : Frame 0x1c020c00796558 s y3 := Frame.ite ((State.orderRail_frame ..).step rfl hy1) hy1
    exact Frame.ite ((State.bootFail_frame ..).step rfl hy3) hy3

theorem State.modBoot_frame (s : State) (f : BootSt → BootSt) : Frame 0x4000000000000 s (State.modBoot s f) := by
  unfold State.modBoot
  exact upd_boot rfl

theorem execFuseReadDone_frame (s : State) : ∃ nx, execFuseReadDone s = .next nx ∧ Frame 0x4000000480048 s nx := by
  unfold execFuseReadDone
  refine ⟨_, rfl, ?_⟩
  split
  · exact Frame.refl _ _
  · exact Frame.ite (Frame.ite ((State.openWindow_frame ..).step rfl ((State.modBoot_frame ..).step rfl
      ((State.takeHssIndex_frame ..).mono rfl))) ((State.setBootStep_frame ..).step rfl ((State.takeHssIndex_frame
      ..).mono rfl))) (Frame.refl _ _)

theorem State.pushGo_frame (s : State) : Frame 0x4000000000008 s (State.pushGo s) := by
  unfold State.pushGo
  exact Frame.ite ((State.setBootStep_frame ..).step rfl ((State.modBoot_frame ..).step rfl ((State.put_frame
    ..).mono rfl))) ((State.badAccess_frame ..).mono rfl)

theorem execPushGo_frame (s : State) : ∃ nx, execPushGo s = .next nx ∧ Frame 0x4000000000008 s nx := by
  unfold execPushGo
  exact ⟨_, rfl, State.access_frame rfl _ _ _ (fun t1 => (State.pushGo_frame ..).mono rfl)⟩

theorem execPushWindowTimeout_frame (s : State) : ∃ nx, execPushWindowTimeout s = .next nx ∧ Frame 0x14000c00796558
    s nx := by
  unfold execPushWindowTimeout
  exact ⟨_, rfl, Frame.ite ((State.bootFail_frame ..).mono rfl) (Frame.refl _ _)⟩

theorem State.manifestBad_frame (s : State) (b : BootSt) (code : Nat) : Frame 0x14000c00796558 s (State.manifestBad
    s b code) := by
  unfold State.manifestBad
  exact Frame.ite ((State.bootFail_frame ..).mono rfl) (Frame.ite ((State.modBoot_frame ..).mono rfl) (Frame.ite
    ((State.openWindow_frame ..).step rfl ((State.modBoot_frame ..).mono rfl)) ((State.bootFail_frame ..).mono rfl)))

theorem execManifestReadDone_frame (m : ManifestRead) (s : State) : ∃ nx, execManifestReadDone m s = .next nx ∧
    Frame 0x14020c00796758 s nx := by
  unfold execManifestReadDone
  refine ⟨_, rfl, ?_⟩
  split
  · exact Frame.refl _ _
  · refine Frame.ite ?_ ?_
    · extract_lets +onlyGivenNames y1
      exact Frame.ite ((State.manifestBad_frame ..).mono rfl) ((State.bootPlatform_frame ..).step rfl
        ((State.modBoot_frame ..).mono rfl))
    · exact Frame.refl _ _

theorem execHbmStackTrained_frame (n : Stack) (height : W2) (s : State) : ∃ nx, execHbmStackTrained n height s =
    .next nx ∧ Frame 0x14000c00796558 s nx := by
  unfold execHbmStackTrained
  refine ⟨_, rfl, ?_⟩
  split
  · exact Frame.refl _ _
  · refine Frame.ite ?_ ?_
    · refine Frame.ite ?_ ?_
      · exact (State.bootFail_frame ..).mono rfl
      · extract_lets +onlyGivenNames y1
        have hy1 : Frame 0x14000c00796558 s y1 := (State.put_frame ..).step rfl ((State.put_frame ..).mono rfl)
        extract_lets +onlyGivenNames y2
        have hy2 : Frame 0x14000c00796558 s y2 := (State.modBoot_frame ..).step rfl hy1
        exact Frame.ite hy2 ((State.setBootStep_frame ..).step rfl hy2)
    · exact Frame.refl _ _

theorem State.loadImages_frame (x0 : State) (x1 : List ImageEntry) (x2 : List Bytes) : Frame 0xc004c0158 x0
    (State.loadImages x0 x1 x2).1 := by
  induction x1 generalizing x0 x2 with
  | nil => exact Frame.refl _ _
  | cons e es ih =>
    cases x2 with
    | nil => exact Frame.refl _ _
    | cons x xs =>
      have ht : Frame 0xc004c0158 x0 (if e.load then (x0.devWrite ({} : Req) e.dest (plain (x.take e.len))).1 else
        x0) :=
        Frame.ite ((State.devWrite_frame ..).mono rfl) (Frame.refl _ _)
      unfold State.loadImages
      dsimp only
      revert ht
      generalize (if e.load then (x0.devWrite ({} : Req) e.dest (plain (x.take e.len))).1 else x0) = t
      intro ht
      generalize x.take e.len = w
      exact Frame.iteF Prod.fst ht (Frame.iteF Prod.fst ht (ht.trans (ih t xs)))

theorem execImagesLoaded_frame (images : List (List W8)) (s : State) : ∃ nx, execImagesLoaded images s = .next nx ∧
    Frame 0x14000c007d6558 s nx := by
  unfold execImagesLoaded
  refine ⟨_, rfl, ?_⟩
  split
  · exact Frame.refl _ _
  · split
    · exact Frame.refl _ _
    · refine Frame.ite ?_ ?_
      · extract_lets +onlyGivenNames y1
        have hy1 : Frame 0x14000c007d6558 s y1.1 := (State.loadImages_frame ..).mono rfl
        exact Frame.ite ((State.bootFail_frame ..).step rfl hy1) (Frame.ite ((State.bootFail_frame ..).step rfl hy1)
          ((State.startTransition_frame ..).step rfl ((State.setBootStep_frame ..).step rfl hy1)))
      · exact Frame.refl _ _

theorem State.showManifest_frame (s : State) (b : BootSt) (m : Manifest) : Frame 0x8 s (State.showManifest s b m) :=
    by
  unfold State.showManifest
  extract_lets +onlyGivenNames y1
  extract_lets +onlyGivenNames y2
  exact Frame.foldl _ _ _ (fun t3 a3 => (State.setReg_frame ..).mono rfl) ((State.setReg_frame ..).step rfl
    ((State.setReg_frame ..).mono rfl))

theorem State.bootDomain_frame (s : State) (q : Nat) : Frame 0x600bfffc4f07d8 s (State.bootDomain s q) := by
  unfold State.bootDomain
  exact Frame.ite (Frame.refl _ _) ((State.domainOn_frame ..).step rfl ((State.setQuad_frame ..).mono rfl))

theorem State.endBoot_frame (s : State) (b : BootSt) (m : Manifest) : Frame 0x641bfffc4f6fda s (State.endBoot s b m)
    := by
  have hz : Frame 0x641bfffc4f6fda s (s.showManifest b m) := (State.showManifest_frame s b m).mono rfl
  unfold State.endBoot
  revert hz
  generalize s.showManifest b m = z
  intro hz
  extract_lets +onlyGivenNames _ _ y1
  have hy1 : Frame 0x641bfffc4f6fda s y1 := hz.trans (upd_kept_boot rfl rfl)
  extract_lets +onlyGivenNames y3
  have hy3 : Frame 0x641bfffc4f6fda s y3 :=
    Frame.foldl _ _ _ (fun t a => (State.bootDomain_frame t a).mono rfl) (hy1.trans ((State.setMode_frame y1 _).mono
      rfl))
  extract_lets +onlyGivenNames y5
  have hy5 : Frame 0x641bfffc4f6fda s y5 := hy3.trans ((State.endTransition_frame y3 _ _).mono rfl)
  exact Frame.ite (hy5.trans ((State.startDrain_frame y5 _).mono rfl)) (hy5.trans (upd_ejectHeld rfl))

theorem execBootEnd_frame (s : State) : ∃ nx, execBootEnd s = .next nx ∧ Frame 0x641bfffc4f6fda s nx := by
  unfold execBootEnd
  refine ⟨_, rfl, ?_⟩
  split
  · exact Frame.refl _ _
  · split
    · exact Frame.ite ((State.endBoot_frame ..).mono rfl) (Frame.refl _ _)
    · exact Frame.refl _ _

theorem State.writeFuseCmd_frame (s : State) (key : W16) (op arg : Nat) : Frame 0x2000000480048 s
    (State.writeFuseCmd s key op arg) := by
  unfold State.writeFuseCmd
  refine Frame.ite ?_ ?_
  · exact (State.badAccess_frame ..).mono rfl
  · refine Frame.ite ?_ ?_
    · extract_lets +onlyGivenNames y1
      have hy1 : Frame 0x2000000480048 s y1 := (State.put_frame ..).mono rfl
      exact Frame.trans hy1 (upd_burn rfl)
    · exact (State.raise_frame ..).step rfl ((State.put_frame ..).mono rfl)

theorem execBurnOwner_frame (key : W16) (s : State) : ∃ nx, execBurnOwner key s = .next nx ∧ Frame 0x2000000480048 s
    nx := by
  unfold execBurnOwner
  exact ⟨_, rfl, State.access_frame rfl _ _ _ (fun t1 => (State.writeFuseCmd_frame ..).mono rfl)⟩

theorem execRevokeOwner_frame (key : W16) (s : State) : ∃ nx, execRevokeOwner key s = .next nx ∧ Frame
    0x2000000480048 s nx := by
  unfold execRevokeOwner
  exact ⟨_, rfl, State.access_frame rfl _ _ _ (fun t1 => (State.writeFuseCmd_frame ..).mono rfl)⟩

theorem execAdvanceSvn_frame (key : W16) (arg : W7) (s : State) : ∃ nx, execAdvanceSvn key arg s = .next nx ∧ Frame
    0x2000000480048 s nx := by
  unfold execAdvanceSvn
  exact ⟨_, rfl, State.access_frame rfl _ _ _ (fun t1 => (State.writeFuseCmd_frame ..).mono rfl)⟩

theorem execRevokeVendor_frame (key : W16) (arg : W7) (s : State) : ∃ nx, execRevokeVendor key arg s = .next nx ∧
    Frame 0x2000000480048 s nx := by
  unfold execRevokeVendor
  exact ⟨_, rfl, State.access_frame rfl _ _ _ (fun t1 => (State.writeFuseCmd_frame ..).mono rfl)⟩

theorem execVendorBootDis_frame (key : W16) (s : State) : ∃ nx, execVendorBootDis key s = .next nx ∧ Frame
    0x2000000480048 s nx := by
  unfold execVendorBootDis
  exact ⟨_, rfl, State.access_frame rfl _ _ _ (fun t1 => (State.writeFuseCmd_frame ..).mono rfl)⟩

theorem State.burnt_frame (s : State) (b : Burn) : Frame 0x1000000000008 s (State.burnt s b) := by
  unfold State.burnt
  extract_lets +onlyGivenNames y1
  split
  · extract_lets +onlyGivenNames y2
    have hy2 : Frame 0x1000000000008 s y2 := (State.put_frame ..).mono rfl
    exact Frame.trans hy2 (upd_khash rfl)
  · exact (State.put_frame ..).mono rfl
  · exact (State.put_frame ..).mono rfl
  · exact (State.put_frame ..).mono rfl
  · exact (State.put_frame ..).mono rfl

theorem execBurnDone_frame (ok : Bool) (s : State) : ∃ nx, execBurnDone ok s = .next nx ∧ Frame 0x3000000480048 s nx
    := by
  unfold execBurnDone
  refine ⟨_, rfl, ?_⟩
  split
  · exact Frame.refl _ _
  · extract_lets +onlyGivenNames _ y1
    have hy1 : Frame 0x3000000480048 s y1 := Frame.trans ((State.put_frame ..).step rfl ((State.put_frame ..).mono
      rfl)) (upd_burn rfl)
    exact (State.irqBit_frame ..).step rfl (Frame.ite ((State.burnt_frame ..).step rfl hy1) ((State.raise_frame
      ..).step rfl hy1))

theorem State.attEnd_frame (s : State) (res : Nat) : Frame 0x10000000480048 s (State.attEnd s res) := by
  unfold State.attEnd
  refine Frame.trans ?_ (Frame.mono (State.irqBit_frame ..) rfl)
  extract_lets +onlyGivenNames y1
  have hy1 : Frame 0x10000000480048 s y1 := (State.put_frame ..).step rfl ((State.put_frame ..).mono rfl)
  exact Frame.trans hy1 (upd_att rfl)

theorem State.attRefuse_frame (s : State) (res : Nat) : Frame 0x10000000480048 s (State.attRefuse s res) := by
  unfold State.attRefuse
  exact (State.attEnd_frame ..).step rfl ((State.raise_frame ..).mono rfl)

theorem State.reserve_frame (s : State) : Frame 0xa00000000008 s (State.reserve s) := by
  unfold State.reserve
  split
  · exact Frame.ite ((State.startCommit_frame ..).mono rfl) (Frame.refl _ _)
  · exact Frame.refl _ _

theorem State.attReport_frame (s : State) : Frame 0x10a00000480048 s (State.attReport s) := by
  unfold State.attReport
  extract_lets +onlyGivenNames y1
  refine Frame.ite ?_ ?_
  · exact (State.attRefuse_frame ..).mono rfl
  · refine Frame.ite ?_ ?_
    · exact (State.attRefuse_frame ..).mono rfl
    · refine Frame.trans ?_ (Frame.mono (State.reserve_frame ..) rfl)
      extract_lets +onlyGivenNames y2
      have hy2 : Frame 0x10a00000480048 s y2 := (State.put_frame ..).mono rfl
      exact Frame.trans hy2 (upd_att rfl)

theorem State.attIdentity_frame (s : State) : Frame 0x10000000000008 s (State.attIdentity s) := by
  unfold State.attIdentity
  extract_lets +onlyGivenNames y1
  have hy1 : Frame 0x10000000000008 s y1 := (State.put_frame ..).mono rfl
  exact Frame.trans hy1 (upd_att rfl)

theorem State.writeAttCtrl_frame (s : State) (go : Bool) (op : Nat) : Frame 0x10a00000480048 s (State.writeAttCtrl s
    go op) := by
  unfold State.writeAttCtrl
  exact Frame.ite ((State.badAccess_frame ..).mono rfl) (Frame.ite (Frame.refl _ _) (Frame.ite
    ((State.badAccess_frame ..).mono rfl) (Frame.ite ((State.attReport_frame ..).mono rfl) ((State.attIdentity_frame
    ..).mono rfl))))

theorem execAttReport_frame (s : State) : ∃ nx, execAttReport s = .next nx ∧ Frame 0x10a00000480048 s nx := by
  unfold execAttReport
  exact ⟨_, rfl, State.access_frame rfl _ _ _ (fun t1 => (State.writeAttCtrl_frame ..).mono rfl)⟩

theorem execAttIdentity_frame (s : State) : ∃ nx, execAttIdentity s = .next nx ∧ Frame 0x10a00000480048 s nx := by
  unfold execAttIdentity
  exact ⟨_, rfl, State.access_frame rfl _ _ _ (fun t1 => (State.writeAttCtrl_frame ..).mono rfl)⟩

theorem hostSend_frame (x0 : Nat) (x1 : State) (x2 : Nat) (x3 : Nat) (x4 : Bytes) : Frame 0x480048 x1 (hostSend x0
    x1 x2 x3 x4) := by
  induction x0 generalizing x1 x3 x4 with
  | zero => exact Frame.refl _ _
  | succ n ih =>
    rw [hostSend]
    exact Frame.ite (Frame.refl _ _) (((State.hostWrite_frame ..).mono rfl).trans (ih ..))

theorem execAttDone_frame (ok : Bool) (s : State) : ∃ nx, execAttDone ok s = .next nx ∧ Frame 0x10000000480048 s nx
    := by
  unfold execAttDone
  refine ⟨_, rfl, ?_⟩
  split
  · exact Frame.refl _ _
  · refine Frame.ite ?_ ?_
    · exact Frame.refl _ _
    · extract_lets +onlyGivenNames y1
      have hy1 : Frame 0x10000000480048 s y1 := Frame.ite ((State.setHssNext_frame ..).mono rfl) (Frame.refl _ _)
      exact Frame.ite ((State.attEnd_frame ..).step rfl ((hostSend_frame ..).step rfl hy1)) ((State.attEnd_frame
        ..).step rfl (Frame.ite hy1 ((State.raise_frame ..).step rfl ((State.countDrop_frame ..).step rfl hy1))))

theorem State.stageWrite_frame (s : State) (v : W32) : Frame 0x400000000008 s (State.stageWrite s v) := by
  unfold State.stageWrite
  extract_lets +onlyGivenNames y1
  extract_lets +onlyGivenNames y2
  extract_lets +onlyGivenNames y3
  have hy3 : Frame 0x400000000008 s y3 := (State.put_frame ..).mono rfl
  exact Frame.trans hy3 (upd_stage rfl)

theorem execRstoStageWrite_frame (v : W32) (s : State) : ∃ nx, execRstoStageWrite v s = .next nx ∧ Frame
    0x400000000008 s nx := by
  unfold execRstoStageWrite
  exact ⟨_, rfl, State.access_frame rfl _ _ _ (fun t1 => (State.stageWrite_frame ..).mono rfl)⟩

theorem State.rstoDo_frame (s : State) (c : Nat) : Frame 0xa00000480048 s (State.rstoDo s c) := by
  unfold State.rstoDo
  exact Frame.ite ((State.put_frame ..).mono rfl) (Frame.ite ((State.raise_frame ..).step rfl ((State.put_frame
    ..).mono rfl)) (Frame.ite ((State.put_frame ..).mono rfl) ((State.startCommit_frame ..).mono rfl)))

theorem State.writeRstoCmd_frame (s : State) (key : W16) (bits : List Nat) : Frame 0xa00000480048 s
    (State.writeRstoCmd s key bits) := by
  unfold State.writeRstoCmd
  exact Frame.ite ((State.badAccess_frame ..).mono rfl) (Frame.foldl _ _ _ (fun t1 a1 => (State.rstoDo_frame
    ..).mono rfl) (Frame.refl _ _))

theorem execCommit_frame (key : W16) (s : State) : ∃ nx, execCommit key s = .next nx ∧ Frame 0xa00000480048 s nx := by
  unfold execCommit
  exact ⟨_, rfl, State.access_frame rfl _ _ _ (fun t1 => (State.writeRstoCmd_frame ..).mono rfl)⟩

theorem execArm_frame (key : W16) (s : State) : ∃ nx, execArm key s = .next nx ∧ Frame 0xa00000480048 s nx := by
  unfold execArm
  exact ⟨_, rfl, State.access_frame rfl _ _ _ (fun t1 => (State.writeRstoCmd_frame ..).mono rfl)⟩

theorem execDisarm_frame (key : W16) (s : State) : ∃ nx, execDisarm key s = .next nx ∧ Frame 0xa00000480048 s nx := by
  unfold execDisarm
  exact ⟨_, rfl, State.access_frame rfl _ _ _ (fun t1 => (State.writeRstoCmd_frame ..).mono rfl)⟩

theorem State.reservedNow_frame (s : State) (ok : Bool) : Frame 0x10000000480048 s (State.reservedNow s ok) := by
  unfold State.reservedNow
  split
  · exact Frame.refl _ _
  · exact Frame.ite ((State.attRefuse_frame ..).mono rfl) (Frame.ite ((State.attRefuse_frame ..).mono rfl) (upd_att
      rfl))

theorem State.endCommit_frame (s : State) (k : Commit) (ok : Bool) : Frame 0x10a00000480048 s (State.endCommit s k
    ok) := by
  unfold State.endCommit
  extract_lets +onlyGivenNames _ y1
  have hy1 : Frame 0x10a00000480048 s y1 := Frame.trans ((State.put_frame ..).mono rfl) (upd_commit rfl)
  extract_lets +onlyGivenNames y3
  have hy3 : Frame 0x10a00000480048 s y3 := Frame.ite ((State.setBank_frame ..).step rfl hy1) ((State.raise_frame
    ..).step rfl hy1)
  extract_lets +onlyGivenNames y5 y4
  have hy4 : Frame 0x10a00000480048 s y4 := by
    refine Frame.ite ?_ ?_
    · have hy5 : Frame 0x10a00000480048 s y5 := (State.put_frame ..).step rfl hy3
      exact Frame.ite ((State.put_frame ..).step rfl hy5) hy5
    · exact (State.reservedNow_frame ..).step rfl (Frame.ite ((State.put_frame ..).step rfl hy3) hy3)
  exact (State.examine_frame ..).step rfl ((State.irqBit_frame ..).step rfl hy4)

theorem execCommitDone_frame (ok : Bool) (s : State) : ∃ nx, execCommitDone ok s = .next nx ∧ Frame 0x10a00000480048
    s nx := by
  unfold execCommitDone
  refine ⟨_, rfl, ?_⟩
  split
  · exact Frame.refl _ _
  · extract_lets +onlyGivenNames y1
    have hy1 : Frame 0x10a00000480048 s y1 := (State.reserve_frame ..).step rfl ((State.endCommit_frame ..).mono rfl)
    exact Frame.ite ((State.commitPending_frame ..).step rfl hy1) hy1

end Sys2Proof.Machine
end

