-- ==== Sys2Proof/Laws/FrameEng.lean ====
section
/-! SUPPORT. Which parts of the state the operations and commands of the engines can change: one lemma per definition. -/

namespace Sys2Proof.Machine

open Sys2Proof

theorem EngJob.step_frame (j : EngJob) (x : FftRun) (k : Nat) : Frame 0xc004c0158 x.run.st (EngJob.step j x
    k).run.st := by
  unfold EngJob.step
  extract_lets +onlyGivenNames y1
  have hy1 : Frame 0xc004c0158 x.run.st y1.1.st := (JobRun.read_frame ..).mono rfl
  refine Frame.iteF (fun z => JobRun.st (FftRun.run (z))) ?_ ?_
  · extract_lets +onlyGivenNames y2
    extract_lets +onlyGivenNames y3
    have hy3 : Frame 0xc004c0158 x.run.st y3.st := (JobRun.write_frame ..).step rfl hy1
    exact Frame.iteF (fun z => JobRun.st (FftRun.run (z))) hy3 hy3
  · exact hy1

theorem fftWork_frame (q : Nat) (j : EngJob) (n : Nat) (s : State) : Frame 0xc004c0158 s (fftWork q j n s).1 := by
  unfold fftWork
  extract_lets +onlyGivenNames y1
  have hy1 : Frame 0xc004c0158 s y1.run.st := Frame.foldlF (fun z => JobRun.st (FftRun.run (z))) _ _ _ (fun t2 a2 =>
    Frame.iteF (fun z => JobRun.st (FftRun.run (z))) ((EngJob.step_frame ..).mono rfl) (Frame.refl _ _))
    ((EngJob.begin_frame ..).mono rfl)
  exact Frame.ite hy1 ((State.raiseAt_frame ..).step rfl hy1)

theorem execFft_frame (q : Quad) (s : State) : ∃ nx, execFft q s = .next nx ∧ Frame 0x20000c004c01d8 s nx := by
  unfold execFft
  exact ⟨_, rfl, State.runOp_frame rfl _ _ _ _ _ _ (fun x10 x11 t1 => (fftWork_frame ..).mono rfl)⟩

theorem execIfft_frame (q : Quad) (s : State) : ∃ nx, execIfft q s = .next nx ∧ Frame 0x20000c004c01d8 s nx := by
  unfold execIfft
  exact ⟨_, rfl, State.runOp_frame rfl _ _ _ _ _ _ (fun x10 x11 t1 => (fftWork_frame ..).mono rfl)⟩

theorem execDft_frame (q : Quad) (s : State) : ∃ nx, execDft q s = .next nx ∧ Frame 0x20000c004c01d8 s nx := by
  unfold execDft
  exact ⟨_, rfl, State.runOp_frame rfl _ _ _ _ _ _ (fun x10 x11 t1 => (fftWork_frame ..).mono rfl)⟩

theorem execIdft_frame (q : Quad) (s : State) : ∃ nx, execIdft q s = .next nx ∧ Frame 0x20000c004c01d8 s nx := by
  unfold execIdft
  exact ⟨_, rfl, State.runOp_frame rfl _ _ _ _ _ _ (fun x10 x11 t1 => (fftWork_frame ..).mono rfl)⟩

theorem State.setHist_frame (s : State) (q c : Nat) (l : List W32) : Frame 0x80000000000 s (State.setHist s q c l)
    := by
  unfold State.setHist
  exact upd_shpHist rfl

theorem EngJob.shapeBlock_frame (j : EngJob) (x : ShpRun) (k : Nat) : Frame 0xc004c0158 x.run.st (EngJob.shapeBlock
    j x k).run.st := by
  unfold EngJob.shapeBlock
  extract_lets +onlyGivenNames y1
  extract_lets +onlyGivenNames y2
  have hy2 : Frame 0xc004c0158 x.run.st y2.1.st := (JobRun.read_frame ..).mono rfl
  refine Frame.iteF (fun z => JobRun.st (ShpRun.run (z))) ?_ ?_
  · extract_lets +onlyGivenNames y3
    extract_lets +onlyGivenNames y4
    have hy4 : Frame 0xc004c0158 x.run.st y4.st := (JobRun.write_frame ..).step rfl hy2
    exact Frame.iteF (fun z => JobRun.st (ShpRun.run (z))) (Frame.iteF (fun z => JobRun.st (ShpRun.run (z))) hy4
      hy4) hy4
  · exact hy2

theorem shpWork_frame (q : Nat) (j : EngJob) (n : Nat) (s : State) : Frame 0x80c004c0158 s (shpWork q j n s).1 := by
  unfold shpWork
  extract_lets +onlyGivenNames y1
  have hy1 : Frame 0x80c004c0158 s y1.run.st := Frame.foldlF (fun z => JobRun.st (ShpRun.run (z))) _ _ _ (fun t2 a2
    => Frame.iteF (fun z => JobRun.st (ShpRun.run (z))) ((EngJob.shapeBlock_frame ..).mono rfl) (Frame.refl _ _))
    ((EngJob.begin_frame ..).mono rfl)
  extract_lets +onlyGivenNames y3
  extract_lets +onlyGivenNames y4
  have hy4 : Frame 0x80c004c0158 s y4 := (State.setHist_frame ..).step rfl hy1
  extract_lets +onlyGivenNames y5
  have hy5 : Frame 0x80c004c0158 s y5 := Frame.ite hy4 ((State.raiseAt_frame ..).step rfl hy4)
  extract_lets +onlyGivenNames y6
  have hy6 : Frame 0x80c004c0158 s y6 := Frame.ite hy5 ((State.irqBit_frame ..).step rfl ((State.raiseAt_frame
    ..).step rfl hy5))
  extract_lets +onlyGivenNames y7
  exact hy6

theorem execFilter_frame (q : Quad) (s : State) : ∃ nx, execFilter q s = .next nx ∧ Frame 0x20080c004c01d8 s nx := by
  unfold execFilter
  exact ⟨_, rfl, State.runOp_frame rfl _ _ _ _ _ _ (fun x10 x11 t1 => (shpWork_frame ..).mono rfl)⟩

theorem EngJob.readState_frame (j : EngJob) (r : JobRun) (i : Nat) : Frame 0xc004c0158 r.st (EngJob.readState j r
    i).1.st := by
  unfold EngJob.readState
  refine Frame.iteF (fun z => JobRun.st (Prod.fst (z))) ?_ ?_
  · exact Frame.refl _ _
  · extract_lets +onlyGivenNames y1
    have hy1 : Frame 0xc004c0158 r.st y1.1.st := (JobRun.read_frame ..).mono rfl
    exact hy1

theorem EngJob.writeState_frame (j : EngJob) (r : JobRun) (i : Nat) (x : NscState) : Frame 0xc004c0158 r.st
    (EngJob.writeState j r i x).st := by
  unfold EngJob.writeState
  exact (JobRun.write_frame ..).mono rfl

theorem ExpandRun.parse_frame (x : ExpandRun) : Frame 0xc004c0158 x.run.st (ExpandRun.parse x).1.st := by
  unfold ExpandRun.parse
  refine Frame.iteF (fun z => JobRun.st (Prod.fst (z))) ?_ ?_
  · exact Frame.refl _ _
  · extract_lets +onlyGivenNames y1
    have hy1 : Frame 0xc004c0158 x.run.st y1.1.st := (JobRun.read_frame ..).mono rfl
    extract_lets +onlyGivenNames y2
    extract_lets +onlyGivenNames y3
    refine Frame.iteF (fun z => JobRun.st (Prod.fst (z))) ?_ ?_
    · exact hy1
    · extract_lets +onlyGivenNames y4
      have hy4 : Frame 0xc004c0158 x.run.st y4.1.st := (JobRun.read_frame ..).step rfl hy1
      extract_lets +onlyGivenNames y5
      exact hy4

theorem EngJob.expandRb_frame (j : EngJob) (i : Nat) (x : ExpandRun) (r : Nat) : Frame 0xc004c0158 x.run.st
    (EngJob.expandRb j i x r).run.st := by
  unfold EngJob.expandRb
  refine Frame.iteF (fun z => JobRun.st (ExpandRun.run (z))) ?_ ?_
  · extract_lets +onlyGivenNames y1
    have hy1 : Frame 0xc004c0158 x.run.st y1.1.st := (ExpandRun.parse_frame ..).mono rfl
    refine Frame.iteF (fun z => JobRun.st (ExpandRun.run (z))) ?_ ?_
    · exact hy1
    · extract_lets +onlyGivenNames y2
      extract_lets +onlyGivenNames y3
      have hy3 : Frame 0xc004c0158 x.run.st y3.st := (JobRun.write_frame ..).step rfl hy1
      extract_lets +onlyGivenNames y4
      extract_lets +onlyGivenNames y5
      split
      · exact hy3
      · exact hy3
  · exact Frame.refl _ _

theorem EngJob.frame_frame (j : EngJob) (r : JobRun) (i : Nat) : Frame 0xc004c0158 r.st (EngJob.frame j r i).1.st :=
    by
  unfold EngJob.frame
  extract_lets +onlyGivenNames y1
  have hy1 : Frame 0xc004c0158 r.st y1.1.st := (JobRun.read_frame ..).mono rfl
  extract_lets +onlyGivenNames y2
  extract_lets +onlyGivenNames y3
  have hy3 : Frame 0xc004c0158 r.st y3.1.st := (JobRun.read_frame ..).step rfl hy1
  extract_lets +onlyGivenNames y4
  refine Frame.iteF (fun z => JobRun.st (Prod.fst (z))) ?_ ?_
  · extract_lets +onlyGivenNames y5
    have hy5 : Frame 0xc004c0158 r.st y5.1.st := (JobRun.read_frame ..).step rfl hy3
    extract_lets +onlyGivenNames y6
    extract_lets +onlyGivenNames y7
    extract_lets +onlyGivenNames y8
    exact hy5
  · exact hy3

theorem EngJob.expandStream_frame (j : EngJob) (lim : Nat) (x : NscRun) (i : Nat) : Frame 0xc004c0158 x.run.st
    (EngJob.expandStream j lim x i).run.st := by
  unfold EngJob.expandStream
  refine Frame.iteF (fun z => JobRun.st (NscRun.run (z))) ?_ ?_
  · extract_lets +onlyGivenNames y1
    have hy1 : Frame 0xc004c0158 x.run.st y1.1.st := (EngJob.frame_frame ..).mono rfl
    extract_lets +onlyGivenNames y2
    have hy2 : Frame 0xc004c0158 x.run.st y2.1.st := Frame.iteF (fun z => JobRun.st (Prod.fst (z))) hy1
      ((EngJob.readState_frame ..).step rfl hy1)
    split
    · refine Frame.iteF (fun z => JobRun.st (NscRun.run (z))) ?_ ?_
      · extract_lets +onlyGivenNames _ y3
        have hy3 : Frame 0xc004c0158 x.run.st y3.st := Frame.iteF JobRun.st hy2 ((EngJob.writeState_frame ..).step
          rfl hy2)
        exact hy3
      · exact hy2
    · extract_lets +onlyGivenNames y4
      have hy4 : Frame 0xc004c0158 x.run.st y4.run.st := Frame.foldlF (fun z => JobRun.st (ExpandRun.run (z))) _ _ _
        (fun t5 a5 => (EngJob.expandRb_frame ..).mono rfl) hy2
      extract_lets +onlyGivenNames y6
      extract_lets +onlyGivenNames _ y7
      have hy7 : Frame 0xc004c0158 x.run.st y7.st := Frame.iteF JobRun.st hy4 ((EngJob.writeState_frame ..).step rfl
        hy4)
      exact hy7
  · exact Frame.refl _ _

theorem EngJob.streams_frame {F : Nat} (hF : Nat.land 0x0 F = 0x0) (j : EngJob) (n : Nat) (one : Nat → NscRun → Nat
    → NscRun) (s : State) (hone : ∀ x0 t0 x2, Frame F t0.run.st (one x0 t0 x2).run.st) : Frame F s (EngJob.streams j n
    one s).run.st := by
  unfold EngJob.streams
  exact Frame.foldlF (fun z => JobRun.st (NscRun.run (z))) _ _ _ (fun t1 a1 => Frame.iteF (fun z => JobRun.st
    (NscRun.run (z))) (hone ..) (Frame.refl _ _)) ((EngJob.begin_frame ..).mono (Frame.sub_trans rfl hF))

theorem expandWork_frame (q : Nat) (j : EngJob) (n : Nat) (s : State) : Frame 0xc004c0158 s (expandWork q j n s).1
    := by
  unfold expandWork
  extract_lets +onlyGivenNames y1
  have hy1 : Frame 0xc004c0158 s y1.run.st := EngJob.streams_frame rfl _ _ _ _ (fun x20 t2 x22 =>
    (EngJob.expandStream_frame ..).mono rfl)
  extract_lets +onlyGivenNames y3
  have hy3 : Frame 0xc004c0158 s y3 := Frame.ite hy1 ((State.raiseAt_frame ..).step rfl hy1)
  extract_lets +onlyGivenNames y4
  have hy4 : Frame 0xc004c0158 s y4 := Frame.ite hy3 ((State.raiseAt_frame ..).step rfl hy3)
  exact hy4

theorem EngJob.packStream_frame (j : EngJob) (ms : Bytes) (lim : Nat) (x : NscRun) (i : Nat) : Frame 0xc004c0158
    x.run.st (EngJob.packStream j ms lim x i).run.st := by
  unfold EngJob.packStream
  extract_lets +onlyGivenNames y1
  extract_lets +onlyGivenNames y2
  have hy2 : Frame 0xc004c0158 x.run.st y2.st := (JobRun.write_frame ..).mono rfl
  extract_lets +onlyGivenNames y3
  have hy3 : Frame 0xc004c0158 x.run.st y3.1.st := by
    refine Frame.foldlF (fun z => JobRun.st (Prod.fst (z))) _ _ _ (fun t4 a4 => ?_) ?_
    · extract_lets +onlyGivenNames y5
      have hy5 : Frame 0xc004c0158 t4.1.st y5.1.st := (JobRun.read_frame ..).mono rfl
      extract_lets +onlyGivenNames y6
      exact Frame.iteF JobRun.st ((JobRun.write_frame ..).step rfl hy5) hy5
    · exact hy2
  exact hy3

theorem packWork_frame (j : EngJob) (n : Nat) (s : State) : Frame 0xc004c0158 s (packWork j n s).1 := by
  unfold packWork
  extract_lets +onlyGivenNames y1
  have hy1 : Frame 0xc004c0158 s y1.1.st := (JobRun.read_frame ..).step rfl ((EngJob.begin_frame ..).mono rfl)
  refine Frame.iteF Prod.fst ?_ ?_
  · extract_lets +onlyGivenNames y2
    have hy2 : Frame 0xc004c0158 s y2.run.st := Frame.trans hy1 (EngJob.streams_frame rfl _ _ _ _ (fun x30 t3 x32 =>
      (EngJob.packStream_frame ..).mono rfl))
    exact hy2
  · exact hy1

theorem EngJob.updateStream_frame (j : EngJob) (lim : Nat) (x : NscRun) (i : Nat) : Frame 0xc004c0158 x.run.st
    (EngJob.updateStream j lim x i).run.st := by
  unfold EngJob.updateStream
  refine Frame.iteF (fun z => JobRun.st (NscRun.run (z))) ?_ ?_
  · extract_lets +onlyGivenNames y1
    have hy1 : Frame 0xc004c0158 x.run.st y1.1.st := (EngJob.readState_frame ..).mono rfl
    extract_lets +onlyGivenNames y2
    have hy2 : Frame 0xc004c0158 x.run.st y2.1.st := (JobRun.read_frame ..).step rfl hy1
    extract_lets +onlyGivenNames y3
    refine Frame.iteF (fun z => JobRun.st (NscRun.run (z))) ?_ ?_
    · extract_lets +onlyGivenNames y4
      have hy4 : Frame 0xc004c0158 x.run.st y4.st := (JobRun.write_frame ..).step rfl ((EngJob.writeState_frame
        ..).step rfl hy2)
      exact hy4
    · exact hy2
  · exact Frame.refl _ _

theorem updateWork_frame (j : EngJob) (n : Nat) (s : State) : Frame 0xc004c0158 s (updateWork j n s).1 := by
  unfold updateWork
  extract_lets +onlyGivenNames y1
  have hy1 : Frame 0xc004c0158 s y1.run.st := EngJob.streams_frame rfl _ _ _ _ (fun x20 t2 x22 =>
    (EngJob.updateStream_frame ..).mono rfl)
  exact hy1

theorem execExpand_frame (q : Quad) (s : State) : ∃ nx, execExpand q s = .next nx ∧ Frame 0x20000c004c01d8 s nx := by
  unfold execExpand
  exact ⟨_, rfl, State.runOp_frame rfl _ _ _ _ _ _ (fun x10 x11 t1 => (expandWork_frame ..).mono rfl)⟩

theorem execPack_frame (q : Quad) (s : State) : ∃ nx, execPack q s = .next nx ∧ Frame 0x20000c004c01d8 s nx := by
  unfold execPack
  exact ⟨_, rfl, State.runOp_frame rfl _ _ _ _ _ _ (fun x10 x11 t1 => (packWork_frame ..).mono rfl)⟩

theorem execUpdate_frame (q : Quad) (s : State) : ∃ nx, execUpdate q s = .next nx ∧ Frame 0x20000c004c01d8 s nx := by
  unfold execUpdate
  exact ⟨_, rfl, State.runOp_frame rfl _ _ _ _ _ _ (fun x10 x11 t1 => (updateWork_frame ..).mono rfl)⟩

theorem EngJob.readSoft_frame (j : EngJob) (p : CodePlan) (r : JobRun) (b : Nat) : Frame 0xc004c0158 r.st
    (EngJob.readSoft j p r b).1.st := by
  unfold EngJob.readSoft
  refine Frame.iteF (fun z => JobRun.st (Prod.fst (z))) ?_ ?_
  · extract_lets +onlyGivenNames y1
    have hy1 : Frame 0xc004c0158 r.st y1.1.st := (JobRun.read_frame ..).mono rfl
    exact hy1
  · exact Frame.refl _ _

theorem EngJob.putBits_frame (j : EngJob) (r : JobRun) (tb : List Bool) (from_ : Nat) : Frame 0xc004c0158 r.st
    (EngJob.putBits j r tb from_).st := by
  unfold EngJob.putBits
  exact (JobRun.write_frame ..).mono rfl

theorem EngJob.gather_frame (j : EngJob) (p : CodePlan) (r : JobRun) (src b : Nat) : Frame 0xc004c0158 r.st
    (EngJob.gather j p r src b).1.st := by
  unfold EngJob.gather
  extract_lets +onlyGivenNames y1
  have hy1 : Frame 0xc004c0158 r.st y1.1.st := (EngJob.readSoft_frame ..).mono rfl
  extract_lets +onlyGivenNames y2
  have hy2 : Frame 0xc004c0158 r.st y2.1.st := (JobRun.read_frame ..).step rfl hy1
  extract_lets +onlyGivenNames y3
  extract_lets +onlyGivenNames y4
  exact Frame.iteF JobRun.st ((JobRun.write_frame ..).step rfl hy2) hy2

theorem EngJob.decode_frame (j : EngJob) (p : CodePlan) (x : DecRun) (b : Nat) : Frame 0xc004c0158 x.run.st
    (EngJob.decode j p x b).run.st := by
  unfold EngJob.decode
  refine Frame.iteF (fun z => JobRun.st (DecRun.run (z))) ?_ ?_
  · extract_lets +onlyGivenNames y1
    have hy1 : Frame 0xc004c0158 x.run.st y1.1.st := (EngJob.gather_frame ..).mono rfl
    refine Frame.iteF (fun z => JobRun.st (DecRun.run (z))) ?_ ?_
    · extract_lets +onlyGivenNames y2
      have hy2 : Frame 0xc004c0158 x.run.st y2.st := hy1
      extract_lets +onlyGivenNames y3
      extract_lets +onlyGivenNames y4
      extract_lets +onlyGivenNames y5
      extract_lets +onlyGivenNames y6
      have hy6 : Frame 0xc004c0158 x.run.st y6.st := (EngJob.putBits_frame ..).step rfl hy2
      extract_lets +onlyGivenNames y7
      extract_lets +onlyGivenNames y8
      extract_lets +onlyGivenNames y9
      have hy9 : Frame 0xc004c0158 x.run.st y9.st := Frame.iteF JobRun.st hy6 ((JobRun.write_frame ..).step rfl hy6)
      exact Frame.iteF (fun z => JobRun.st (DecRun.run (z))) hy9 hy9
    · exact hy1
  · exact Frame.refl _ _

theorem State.decCount_frame (s : State) (q cg blocks fail iters : Nat) (ok : Bool) : Frame 0x480048 s
    (State.decCount s q cg blocks fail iters ok) := by
  unfold State.decCount
  extract_lets +onlyGivenNames y1
  extract_lets +onlyGivenNames y2
  have hy2 : Frame 0x480048 s y2 := (State.inc_frame ..).step rfl ((State.inc_frame ..).step rfl ((State.inc_frame
    ..).mono rfl))
  exact Frame.ite hy2 ((State.raiseAt_frame ..).step rfl hy2)

theorem EngJob.statRest_frame (j : EngJob) (p : CodePlan) (busy : Nat → Bool) (x : DecRun) (n : Nat) : Frame
    0xc004c0158 x.run.st (EngJob.statRest j p busy x n).st := by
  unfold EngJob.statRest
  extract_lets +onlyGivenNames y1
  refine Frame.foldlF (fun z => JobRun.st (Prod.fst (z))) _ _ _ (fun t2 a2 => ?_) ?_
  · extract_lets +onlyGivenNames y3
    extract_lets +onlyGivenNames y4
    extract_lets +onlyGivenNames y5
    have hy5 : Frame 0xc004c0158 t2.1.st y5.st := Frame.iteF JobRun.st ((EngJob.gather_frame ..).mono rfl)
      (Frame.refl _ _)
    exact Frame.iteF JobRun.st hy5 ((JobRun.write_frame ..).step rfl hy5)
  · exact Frame.refl _ _

theorem decodeWork_frame (q : Nat) (j : EngJob) (n : Nat) (s : State) : Frame 0xc004c01d8 s (decodeWork q j n s).1
    := by
  unfold decodeWork
  extract_lets +onlyGivenNames y1
  extract_lets +onlyGivenNames y2
  have hy2 : Frame 0xc004c01d8 s y2.run.st := Frame.foldlF (fun z => JobRun.st (DecRun.run (z))) _ _ _ (fun t3 a3 =>
    (EngJob.decode_frame ..).mono rfl) ((EngJob.begin_frame ..).mono rfl)
  extract_lets +onlyGivenNames y4
  have hy4 : Frame 0xc004c01d8 s y4.st := (EngJob.statRest_frame ..).step rfl hy2
  extract_lets +onlyGivenNames y5
  exact (State.decCount_frame ..).step rfl ((State.drawn_frame ..).step rfl hy4)

theorem encodeWork_frame (j : EngJob) (n : Nat) (s : State) : Frame 0xc004c0158 s (encodeWork j n s).1 := by
  unfold encodeWork
  extract_lets +onlyGivenNames y1
  extract_lets +onlyGivenNames y2
  have hy2 : Frame 0xc004c0158 s y2.1.st := (JobRun.read_frame ..).step rfl ((EngJob.begin_frame ..).mono rfl)
  extract_lets +onlyGivenNames y3
  extract_lets +onlyGivenNames y4
  extract_lets +onlyGivenNames y5
  extract_lets +onlyGivenNames y6
  have hy6 : Frame 0xc004c0158 s y6.st := (JobRun.write_frame ..).step rfl hy2
  exact hy6

theorem polarDecWork_frame (q : Nat) (j : EngJob) (n : Nat) (s : State) : Frame 0xc004c0158 s (polarDecWork q j n
    s).1 := by
  unfold polarDecWork
  extract_lets +onlyGivenNames y1
  extract_lets +onlyGivenNames y2
  have hy2 : Frame 0xc004c0158 s y2.1.st := (JobRun.read_frame ..).step rfl ((EngJob.begin_frame ..).mono rfl)
  extract_lets +onlyGivenNames y3
  extract_lets +onlyGivenNames y4
  extract_lets +onlyGivenNames y5
  have hy5 : Frame 0xc004c0158 s y5.st := (JobRun.write_frame ..).step rfl hy2
  extract_lets +onlyGivenNames y6
  extract_lets +onlyGivenNames y7
  extract_lets +onlyGivenNames y8
  exact (State.decCount_frame ..).step rfl hy5

theorem polarEncWork_frame (j : EngJob) (n : Nat) (s : State) : Frame 0xc004c0158 s (polarEncWork j n s).1 := by
  unfold polarEncWork
  extract_lets +onlyGivenNames y1
  extract_lets +onlyGivenNames y2
  have hy2 : Frame 0xc004c0158 s y2.1.st := (JobRun.read_frame ..).step rfl ((EngJob.begin_frame ..).mono rfl)
  extract_lets +onlyGivenNames y3
  extract_lets +onlyGivenNames y4
  have hy4 : Frame 0xc004c0158 s y4.st := (JobRun.write_frame ..).step rfl hy2
  exact hy4

theorem execLdpcDec_frame (q : Quad) (s : State) : ∃ nx, execLdpcDec q s = .next nx ∧ Frame 0x20000c004c01d8 s nx :=
    by
  unfold execLdpcDec
  exact ⟨_, rfl, State.runOp_frame rfl _ _ _ _ _ _ (fun x10 x11 t1 => (decodeWork_frame ..).mono rfl)⟩

theorem execLdpcEnc_frame (q : Quad) (s : State) : ∃ nx, execLdpcEnc q s = .next nx ∧ Frame 0x20000c004c01d8 s nx :=
    by
  unfold execLdpcEnc
  exact ⟨_, rfl, State.runOp_frame rfl _ _ _ _ _ _ (fun x10 x11 t1 => (encodeWork_frame ..).mono rfl)⟩

theorem execTurboDec_frame (q : Quad) (s : State) : ∃ nx, execTurboDec q s = .next nx ∧ Frame 0x20000c004c01d8 s nx
    := by
  unfold execTurboDec
  exact ⟨_, rfl, State.runOp_frame rfl _ _ _ _ _ _ (fun x10 x11 t1 => (decodeWork_frame ..).mono rfl)⟩

theorem execTurboEnc_frame (q : Quad) (s : State) : ∃ nx, execTurboEnc q s = .next nx ∧ Frame 0x20000c004c01d8 s nx
    := by
  unfold execTurboEnc
  exact ⟨_, rfl, State.runOp_frame rfl _ _ _ _ _ _ (fun x10 x11 t1 => (encodeWork_frame ..).mono rfl)⟩

theorem execPolarDec_frame (q : Quad) (s : State) : ∃ nx, execPolarDec q s = .next nx ∧ Frame 0x20000c004c01d8 s nx
    := by
  unfold execPolarDec
  exact ⟨_, rfl, State.runOp_frame rfl _ _ _ _ _ _ (fun x10 x11 t1 => (polarDecWork_frame ..).mono rfl)⟩

theorem execPolarEnc_frame (q : Quad) (s : State) : ∃ nx, execPolarEnc q s = .next nx ∧ Frame 0x20000c004c01d8 s nx
    := by
  unfold execPolarEnc
  exact ⟨_, rfl, State.runOp_frame rfl _ _ _ _ _ _ (fun x10 x11 t1 => (polarEncWork_frame ..).mono rfl)⟩

theorem trellisDecWork_frame (q : Nat) (j : EngJob) (n : Nat) (s : State) : Frame 0xc004c0158 s (trellisDecWork q j
    n s).1 := by
  unfold trellisDecWork
  extract_lets +onlyGivenNames y1
  extract_lets +onlyGivenNames y2
  have hy2 : Frame 0xc004c0158 s y2.1.st := by
    refine Frame.trans ?_ (Frame.mono (JobRun.read_frame ..) rfl)
    exact Frame.refl _ _
  extract_lets +onlyGivenNames y3
  extract_lets +onlyGivenNames y4
  extract_lets +onlyGivenNames y5
  have hy5 : Frame 0xc004c0158 s y5.st := Frame.iteF JobRun.st (hy2.trans ((JobRun.write_frame ..).mono rfl)) hy2
  exact Frame.iteF Prod.fst (hy5.trans ((State.decCount_frame y5.st q j.cg 1 0 0 true).mono rfl)) hy5

theorem convEncWork_frame (j : EngJob) (n : Nat) (s : State) : Frame 0xc004c0158 s (convEncWork j n s).1 := by
  unfold convEncWork
  extract_lets +onlyGivenNames y1
  extract_lets +onlyGivenNames y2
  have hy2 : Frame 0xc004c0158 s y2.1.st := (JobRun.read_frame ..).step rfl ((EngJob.begin_frame ..).mono rfl)
  extract_lets +onlyGivenNames y3
  extract_lets +onlyGivenNames y4
  have hy4 : Frame 0xc004c0158 s y4.st := Frame.iteF JobRun.st ((JobRun.write_frame ..).step rfl hy2) hy2
  exact hy4

theorem execTrellisDec_frame (q : Quad) (s : State) : ∃ nx, execTrellisDec q s = .next nx ∧ Frame 0x20000c004c01d8 s
    nx := by
  unfold execTrellisDec
  exact ⟨_, rfl, State.runOp_frame rfl _ _ _ _ _ _ (fun x10 x11 t1 => (trellisDecWork_frame ..).mono rfl)⟩

theorem execConvEnc_frame (q : Quad) (s : State) : ∃ nx, execConvEnc q s = .next nx ∧ Frame 0x20000c004c01d8 s nx :=
    by
  unfold execConvEnc
  exact ⟨_, rfl, State.runOp_frame rfl _ _ _ _ _ _ (fun x10 x11 t1 => (convEncWork_frame ..).mono rfl)⟩

theorem EngJob.putRec_frame (j : EngJob) (x : AbdRun) (status preamble : Nat) (m : Int) (pos w2 : Nat) : Frame
    0xc004c0158 x.run.st (EngJob.putRec j x status preamble m pos w2).run.st := by
  unfold EngJob.putRec
  refine Frame.iteF (fun z => JobRun.st (AbdRun.run (z))) ?_ ?_
  · exact Frame.refl _ _
  · refine Frame.iteF (fun z => JobRun.st (AbdRun.run (z))) ?_ ?_
    · extract_lets +onlyGivenNames y1
      extract_lets +onlyGivenNames y2
      have hy2 : Frame 0xc004c0158 x.run.st y2.st := (JobRun.write_frame ..).mono rfl
      exact Frame.iteF (fun z => JobRun.st (AbdRun.run (z))) hy2 hy2
    · exact Frame.refl _ _

theorem EngJob.candidate_frame (j : EngJob) (r : AbdRun) (preamble : Nat) (at_ : Nat → Nat) (x : Nat) (m : Int) :
    Frame 0xc004c0158 r.run.st (EngJob.candidate j r preamble at_ x m).run.st := by
  unfold EngJob.candidate
  split
  · exact Frame.iteF (fun z => JobRun.st (AbdRun.run (z))) (Frame.refl _ _) (Frame.refl _ _)
  · refine Frame.iteF (fun z => JobRun.st (AbdRun.run (z))) ?_ ?_
    · extract_lets +onlyGivenNames y1
      have hy1 : Frame 0xc004c0158 r.run.st y1.run.st := (EngJob.putRec_frame ..).mono rfl
      exact hy1
    · exact Frame.iteF (fun z => JobRun.st (AbdRun.run (z))) (Frame.refl _ _) (Frame.refl _ _)

theorem EngJob.readAnts_frame (j : EngJob) (r : JobRun) (base n : Nat) : Frame 0xc004c0158 r.st (EngJob.readAnts j r
    base n).1.st := by
  unfold EngJob.readAnts
  refine Frame.foldlF (fun z => JobRun.st (Prod.fst (z))) _ _ _ (fun t1 a1 => ?_) ?_
  · extract_lets +onlyGivenNames y2
    have hy2 : Frame 0xc004c0158 t1.1.st y2.1.st := (JobRun.read_frame ..).mono rfl
    exact hy2
  · exact Frame.refl _ _

theorem EngJob.window_frame (j : EngJob) (occ root v : Nat) (ms : List Int) (x : AbdRun) : Frame 0xc004c0158
    x.run.st (EngJob.window j occ root v ms x).run.st := by
  unfold EngJob.window
  extract_lets +onlyGivenNames y1
  extract_lets +onlyGivenNames y2
  extract_lets +onlyGivenNames y3
  extract_lets +onlyGivenNames y4
  have hy4 : Frame 0xc004c0158 x.run.st y4.run.st := Frame.foldlF (fun z => JobRun.st (AbdRun.run (z))) _ _ _ (fun
    t5 a5 => (EngJob.candidate_frame ..).mono rfl) (Frame.refl _ _)
  split
  · exact hy4
  · extract_lets +onlyGivenNames y6
    have hy6 : Frame 0xc004c0158 x.run.st y6.run.st := (EngJob.putRec_frame ..).step rfl hy4
    exact hy6

theorem EngJob.occasion_frame (j : EngJob) (x : AbdRun) (occ : Nat) : Frame 0xc004c0158 x.run.st (EngJob.occasion j
    x occ).run.st := by
  unfold EngJob.occasion
  extract_lets +onlyGivenNames y1
  have hy1 : Frame 0xc004c0158 x.run.st y1.1.st := (EngJob.readAnts_frame ..).mono rfl
  refine Frame.iteF (fun z => JobRun.st (AbdRun.run (z))) ?_ ?_
  · refine Frame.foldlF (fun z => JobRun.st (AbdRun.run (z))) _ _ _ (fun t2 a2 => ?_) ?_
    · extract_lets +onlyGivenNames y3
      extract_lets +onlyGivenNames y4
      extract_lets +onlyGivenNames y5
      extract_lets +onlyGivenNames y6
      exact Frame.foldlF (fun z => JobRun.st (AbdRun.run (z))) _ _ _ (fun t7 a7 => (EngJob.window_frame ..).mono
        rfl) (Frame.refl _ _)
    · exact hy1
  · exact hy1

theorem State.abdCount_frame (s : State) (q cg : Nat) (x : AbdRun) : Frame 0x480048 s (State.abdCount s q cg x) := by
  unfold State.abdCount
  extract_lets +onlyGivenNames y1
  extract_lets +onlyGivenNames y2
  have hy2 : Frame 0x480048 s y2 := (State.inc_frame ..).step rfl ((State.inc_frame ..).step rfl ((State.inc_frame
    ..).step rfl ((State.inc_frame ..).mono rfl)))
  extract_lets +onlyGivenNames y3
  have hy3 : Frame 0x480048 s y3 := Frame.ite hy2 ((State.raiseAt_frame ..).step rfl hy2)
  exact Frame.ite hy3 ((State.irqBit_frame ..).step rfl hy3)

theorem prachWork_frame (q : Nat) (j : EngJob) (n : Nat) (s : State) : Frame 0xc004c0158 s (prachWork q j n s).1 := by
  unfold prachWork
  extract_lets +onlyGivenNames y1
  have hy1 : Frame 0xc004c0158 s y1.run.st := Frame.foldlF (fun z => JobRun.st (AbdRun.run (z))) _ _ _ (fun t2 a2 =>
    Frame.iteF (fun z => JobRun.st (AbdRun.run (z))) ((EngJob.occasion_frame ..).mono rfl) (Frame.refl _ _))
    ((EngJob.begin_frame ..).mono rfl)
  exact (State.abdCount_frame ..).step rfl hy1

theorem State.setGsm_frame (s : State) (q c : Nat) (x : GsmSt) : Frame 0x40000000000000 s (State.setGsm s q c x) := by
  unfold State.setGsm
  exact upd_gsm rfl

theorem EngJob.close_frame (j : EngJob) (pos : Nat) (fulls : List (List W32)) (r : AbdRun) (p : Nat) (m : Int) (i :
    Nat) : Frame 0xc004c0158 r.run.st (EngJob.close j pos fulls r p m i).run.st := by
  unfold EngJob.close
  extract_lets +onlyGivenNames y1
  extract_lets +onlyGivenNames y2
  extract_lets +onlyGivenNames y3
  extract_lets +onlyGivenNames y4
  have hy4 : Frame 0xc004c0158 r.run.st y4.run.st := (EngJob.putRec_frame ..).mono rfl
  exact hy4

theorem EngJob.gsmCandidate_frame (j : EngJob) (pos : Nat) (fulls : List (List W32)) (noise : Nat) (r : AbdRun) (c :
    Nat) : Frame 0xc004c0158 r.run.st (EngJob.gsmCandidate j pos fulls noise r c).run.st := by
  unfold EngJob.gsmCandidate
  extract_lets +onlyGivenNames y1
  extract_lets +onlyGivenNames y2
  extract_lets +onlyGivenNames y3
  have hy3 : Frame 0xc004c0158 r.run.st y3.run.st := by
    unfold y3
    split
    · extract_lets +onlyGivenNames y4
      exact Frame.iteF (fun z => JobRun.st (AbdRun.run (z))) ((EngJob.close_frame ..).mono rfl) (Frame.refl _ _)
    · exact Frame.refl _ _
  exact (EngJob.candidate_frame ..).step rfl hy3

theorem EngJob.cut_frame (j : EngJob) (x : AbdRun) : Frame 0xc004c0158 x.run.st (EngJob.cut j x).run.st := by
  unfold EngJob.cut
  split
  · exact Frame.refl _ _
  · extract_lets +onlyGivenNames y1
    have hy1 : Frame 0xc004c0158 x.run.st y1.run.st := (EngJob.putRec_frame ..).mono rfl
    exact hy1

theorem gsmWork_frame (q : Nat) (j : EngJob) (n : Nat) (s : State) : Frame 0x40000c004c0158 s (gsmWork q j n s).1 :=
    by
  unfold gsmWork
  extract_lets +onlyGivenNames y1
  extract_lets +onlyGivenNames y2
  extract_lets +onlyGivenNames y3
  extract_lets +onlyGivenNames y4
  have hy4 : Frame 0x40000c004c0158 s y4.run.st := (EngJob.begin_frame ..).mono rfl
  extract_lets +onlyGivenNames y5
  have hy5 : Frame 0x40000c004c0158 s y5.run.st := Frame.iteF (fun z => JobRun.st (AbdRun.run (z)))
    ((EngJob.cut_frame ..).step rfl hy4) hy4
  extract_lets +onlyGivenNames y6
  extract_lets +onlyGivenNames y7
  have hy7 : Frame 0x40000c004c0158 s y7.1.st := (EngJob.readAnts_frame ..).step rfl hy5
  refine Frame.iteF Prod.fst ?_ ?_
  · extract_lets +onlyGivenNames y8
    extract_lets +onlyGivenNames y9
    extract_lets +onlyGivenNames y10
    extract_lets +onlyGivenNames y11
    extract_lets +onlyGivenNames y12
    extract_lets +onlyGivenNames y13
    have hy13 : Frame 0x40000c004c0158 s y13.run.st := Frame.foldlF (fun z => JobRun.st (AbdRun.run (z))) _ _ _ (fun
      t14 a14 => Frame.iteF (fun z => JobRun.st (AbdRun.run (z))) ((EngJob.gsmCandidate_frame ..).mono rfl)
      (Frame.refl _ _)) hy7
    extract_lets +onlyGivenNames y15
    have hy15 : Frame 0x40000c004c0158 s y15.run.st := Frame.iteF (fun z => JobRun.st (AbdRun.run (z)))
      ((EngJob.cut_frame ..).step rfl hy13) hy13
    extract_lets +onlyGivenNames y16
    exact (State.abdCount_frame ..).step rfl ((State.setGsm_frame ..).step rfl hy15)
  · exact (State.abdCount_frame ..).step rfl ((State.setGsm_frame ..).step rfl hy7)

theorem State.gsmLate_frame (s : State) (q : Nat) (j : EngJob) : Frame 0x40000c004c0158 s (State.gsmLate s q j).1 :=
    by
  unfold State.gsmLate
  refine Frame.iteF Prod.fst ?_ ?_
  · extract_lets +onlyGivenNames y1
    extract_lets +onlyGivenNames y2
    extract_lets +onlyGivenNames y3
    have hy3 : Frame 0x40000c004c0158 s y3.run.st := (EngJob.begin_frame ..).mono rfl
    extract_lets +onlyGivenNames y4
    have hy4 : Frame 0x40000c004c0158 s y4.run.st := (EngJob.cut_frame ..).step rfl hy3
    extract_lets +onlyGivenNames y5
    have hy5 : Frame 0x40000c004c0158 s y5 := (State.abdCount_frame ..).step rfl ((State.setGsm_frame ..).step rfl
      hy4)
    exact hy5
  · exact Frame.refl _ _

theorem execPrach_frame (q : Quad) (s : State) : ∃ nx, execPrach q s = .next nx ∧ Frame 0x20000c004c01d8 s nx := by
  unfold execPrach
  exact ⟨_, rfl, State.runOp_frame rfl _ _ _ _ _ _ (fun x10 x11 t1 => (prachWork_frame ..).mono rfl)⟩

theorem execGsm_frame (q : Quad) (s : State) : ∃ nx, execGsm q s = .next nx ∧ Frame 0x60000c004c01d8 s nx := by
  unfold execGsm
  exact ⟨_, rfl, State.runOp_frame rfl _ _ _ _ _ _ (fun x10 x11 t1 => (gsmWork_frame ..).mono rfl)⟩

theorem State.acceptJob_frame (s : State) (q e u : Nat) (t : Task) : Frame 0x20000c004c0158 s (State.acceptJob s q e
    u t) := by
  unfold State.acceptJob
  extract_lets +onlyGivenNames y1
  have hy1 : Frame 0x20000c004c0158 s y1.1.st := by
    refine Frame.iteF (fun z => JobRun.st (Prod.fst (z))) ?_ ?_
    · refine Frame.trans ?_ (Frame.mono (JobRun.read_frame ..) rfl)
      exact Frame.refl _ _
    · exact Frame.refl _ _
  extract_lets +onlyGivenNames y2
  extract_lets +onlyGivenNames y3
  refine Frame.trans ?_ (Frame.mono (State.setEng_frame ..) rfl)
  exact hy1

theorem execEngineJobOffer_frame (q : Quad) (e : Eng) (s : State) : ∃ nx, execEngineJobOffer q e s = .next nx ∧
    Frame 0x20000c004d0158 s nx := by
  unfold execEngineJobOffer
  refine ⟨_, rfl, ?_⟩
  refine Frame.ite ?_ ?_
  · exact Frame.refl _ _
  · split
    · exact Frame.refl _ _
    · extract_lets +onlyGivenNames y1
      refine Frame.ite ?_ ?_
      · exact (State.endWaiting_frame ..).mono rfl
      · extract_lets +onlyGivenNames y2
        exact (State.acceptJob_frame ..).step rfl ((State.mapTask_frame ..).mono rfl)

theorem execEngineJobFinish_frame (q : Quad) (u : JobUnit) (s : State) : ∃ nx, execEngineJobFinish q u s = .next nx
    ∧ Frame 0x60000c004d01d8 s nx := by
  unfold execEngineJobFinish
  refine ⟨_, rfl, ?_⟩
  split
  · exact Frame.refl _ _
  · refine Frame.ite ?_ ?_
    · extract_lets +onlyGivenNames y1
      have hy1 : Frame 0x60000c004d01d8 s y1.1 := Frame.iteF Prod.fst ((State.gsmLate_frame ..).mono rfl)
        (Frame.refl _ _)
      exact (State.finishJob_frame ..).step rfl hy1
    · exact Frame.refl _ _

end Sys2Proof.Machine
end

