-- ==== Sys2Proof/Laws/FrameBoard.lean ====
section
/-! SUPPORT. Which parts of the state the operations and commands of the monitor, PMBus, GPIO, the TAP and register accesses can change: one lemma per definition. -/

namespace Sys2Proof.Machine

open Sys2Proof

theorem State.boardPulse_frame (s : State) (src n : Nat) : Frame 0x40000000000 s (State.boardPulse s src n) := by
  unfold State.boardPulse
  refine Frame.foldl _ _ _ (fun t1 a1 => ?_) ?_
  · extract_lets +onlyGivenNames y2
    exact Frame.ite (upd_pulses rfl) (Frame.refl _ _)
  · exact Frame.refl _ _

theorem State.bmonNext_frame (s : State) : Frame 0x80000000000000 s (State.bmonNext s) := by
  unfold State.bmonNext
  extract_lets +onlyGivenNames y1
  split
  · exact upd_bmon rfl
  · exact upd_bmon rfl
  · exact upd_bmon rfl
  · exact upd_bmon rfl

theorem State.bmonKick_frame (s : State) : Frame 0x80000000000000 s (State.bmonKick s) := by
  unfold State.bmonKick
  exact Frame.ite (Frame.refl _ _) (Frame.ite ((State.bmonNext_frame ..).mono rfl) (upd_bmon rfl))

theorem State.bmonTrigger_frame (s : State) : Frame 0x80000000480048 s (State.bmonTrigger s) := by
  unfold State.bmonTrigger
  refine Frame.ite ?_ ?_
  · exact (State.raise_frame ..).step rfl ((State.inc_frame ..).step rfl (upd_bmon rfl))
  · split
    · exact (State.irqBit_frame ..).mono rfl
    · exact (State.bmonKick_frame ..).step rfl (upd_bmon rfl)

theorem State.bmonInject_frame (s : State) (ch : Nat) : Frame 0x80000000480048 s (State.bmonInject s ch) := by
  unfold State.bmonInject
  exact Frame.ite ((State.raise_frame ..).mono rfl) ((State.bmonKick_frame ..).step rfl (upd_bmon rfl))

theorem State.bmonCalibrate_frame (s : State) : Frame 0x80000000000000 s (State.bmonCalibrate s) := by
  unfold State.bmonCalibrate
  exact Frame.ite (Frame.refl _ _) ((State.bmonKick_frame ..).step rfl (upd_bmon rfl))

theorem State.writeBmonCtrl_frame (s : State) (v : W32) : Frame 0x80000000480048 s (State.writeBmonCtrl s v) := by
  unfold State.writeBmonCtrl
  refine Frame.ite ?_ ?_
  · exact (State.badAccess_frame ..).mono rfl
  · extract_lets +onlyGivenNames y1
    have hy1 : Frame 0x80000000480048 s y1 := Frame.ite ((State.bmonInject_frame ..).mono rfl) (Frame.refl _ _)
    extract_lets +onlyGivenNames y2
    have hy2 : Frame 0x80000000480048 s y2 := Frame.ite ((State.bmonCalibrate_frame ..).step rfl hy1) hy1
    exact Frame.ite ((State.bmonTrigger_frame ..).step rfl hy2) hy2

theorem State.bmonLevel_frame (s : State) : Frame 0x480048 s (State.bmonLevel s) := by
  unfold State.bmonLevel
  exact Frame.ite ((State.irqBit_frame ..).mono rfl) (Frame.refl _ _)

theorem State.bmonPop_frame (s : State) : Frame 0x80000000000020 s (State.bmonPop s) := by
  unfold State.bmonPop
  split
  · exact upd_readData rfl
  · exact upd_readData_bmon rfl rfl

theorem State.bmonQueue_frame (s : State) (inj : Bool) (ch : Nat) (code : W12) : Frame 0x80000000480048 s
    (State.bmonQueue s inj ch code) := by
  unfold State.bmonQueue
  refine Frame.ite ?_ ?_
  · extract_lets +onlyGivenNames y1
    exact (State.bmonLevel_frame ..).step rfl (upd_bmon rfl)
  · exact (State.raise_frame ..).step rfl ((State.inc_frame ..).step rfl (upd_bmon rfl))

theorem State.compare_frame (s : State) (ch : Nat) (code : W12) (k : Nat) : Frame 0x80040000480048 s (State.compare
    s ch code k) := by
  unfold State.compare
  extract_lets +onlyGivenNames y1
  refine Frame.ite ?_ ?_
  · exact Frame.refl _ _
  · extract_lets +onlyGivenNames y2
    extract_lets +onlyGivenNames y3
    extract_lets +onlyGivenNames y4
    have hy4 : Frame 0x80040000480048 s y4 := (State.put_frame ..).mono rfl
    refine Frame.ite ?_ ?_
    · extract_lets +onlyGivenNames y5
      extract_lets +onlyGivenNames y6
      extract_lets +onlyGivenNames y7
      extract_lets +onlyGivenNames _ y8
      have hy8 : Frame 0x80040000480048 s y8 := Frame.trans hy4 (upd_bmon rfl)
      exact Frame.ite ((State.boardPulse_frame ..).step rfl ((State.irqBit_frame ..).step rfl ((State.put_frame
        ..).step rfl hy8))) hy8
    · exact Frame.trans hy4 (upd_bmon rfl)

theorem State.bmonResult_frame (s : State) (inj : Bool) (ch : Nat) (code : W12) : Frame 0x80040000480048 s
    (State.bmonResult s inj ch code) := by
  unfold State.bmonResult
  exact Frame.foldl _ _ _ (fun t1 a1 => (State.compare_frame ..).mono rfl) ((State.bmonQueue_frame ..).mono rfl)

theorem State.hscTxn_frame (s : State) (b cmd : Nat) (read : Bool) (data : Bytes) : Frame 0x40 s (State.hscTxn s b
    cmd read data) := by
  unfold State.hscTxn
  extract_lets +onlyGivenNames y1
  exact (State.emit_frame ..).mono rfl

theorem State.railTxn_frame (s : State) (b r cmd : Nat) (data : Bytes) : Frame 0x40 s (State.railTxn s b r cmd data)
    := by
  unfold State.railTxn
  exact (State.emit_frame ..).mono rfl

theorem State.pageTxn_frame (s : State) (b r : Nat) : Frame 0x40 s (State.pageTxn s b r) := by
  unfold State.pageTxn
  exact (State.railTxn_frame ..).mono rfl

theorem State.pmbStart_frame (s : State) (b : Nat) : Frame 0x20000000040 s (State.pmbStart s b) := by
  have hj : ∀ (u : State) (j : PmbJob) (t : State), u.startJob b j = some t → Frame 0x20000000040 u t := by
    intro u j t h
    unfold State.startJob at h
    cases j with
    | rail q =>
      dsimp only at h
      split at h
      · cases h
      · split at h
        · cases h; exact (State.pageTxn_frame ..).mono rfl
        · cases h; exact (State.railTxn_frame ..).mono rfl
        · cases h
    | railOp r on =>
      cases h
      exact Frame.trans (Frame.ite ((State.pageTxn_frame ..).mono rfl) (Frame.refl _ _)) ((State.railTxn_frame
        ..).mono rfl)
    | hscOff => cases h; exact (State.hscTxn_frame ..).mono rfl
    | hscVin => cases h; exact (State.hscTxn_frame ..).mono rfl
    | hscIin => cases h; exact (State.hscTxn_frame ..).mono rfl
    | host => cases h; exact (State.emit_frame ..).mono rfl
    | stale => cases h
  unfold State.pmbStart
  split
  · exact Frame.refl _ _
  · extract_lets y1
    have hy1 : Frame 0x20000000040 s y1 := (State.pmbDrop_frame ..).mono rfl
    split
    · exact hy1.trans ((hj _ _ _ (by assumption)).trans ((State.setPmb_frame ..).mono rfl))
    · exact hy1

theorem State.txnError_frame (s : State) (b : Nat) (r : Option TxnRes) : Frame 0x480048 s (State.txnError s b r) := by
  unfold State.txnError
  split
  · exact (State.raise_frame ..).mono rfl
  · exact (State.raise_frame ..).mono rfl
  · exact (State.raise_frame ..).mono rfl
  · exact Frame.refl _ _

theorem State.hostTxnEnds_frame (s : State) (b : Nat) (r : Option TxnRes) : Frame 0x480048 s (State.hostTxnEnds s b
    r) := by
  unfold State.hostTxnEnds
  extract_lets +onlyGivenNames y1
  extract_lets +onlyGivenNames y2
  extract_lets +onlyGivenNames y3
  extract_lets +onlyGivenNames y4
  have hy4 : Frame 0x480048 s y4 := (State.setReg_frame ..).mono rfl
  extract_lets +onlyGivenNames y5
  have hy5 : Frame 0x480048 s y5 := Frame.foldl _ _ _ (fun t6 a6 => (State.put_frame ..).mono rfl) hy4
  exact (State.irqBit_frame ..).step rfl hy5

theorem State.hscReadEnds_frame (s : State) (b lo : Nat) (r : Option TxnRes) : Frame 0x480048 s (State.hscReadEnds s
    b lo r) := by
  unfold State.hscReadEnds
  split
  · extract_lets +onlyGivenNames y1
    have hy1 : Frame 0x480048 s y1 := (State.put_frame ..).mono rfl
    exact Frame.ite ((State.put_frame ..).step rfl hy1) hy1
  · exact (State.raise_frame ..).step rfl ((State.inc_frame ..).step rfl ((State.put_frame ..).mono rfl))

theorem State.railTxnEnds_frame (s : State) (b q : Nat) (r : Option TxnRes) : Frame 0x14020c00796758 s
    (State.railTxnEnds s b q r) := by
  unfold State.railTxnEnds
  extract_lets +onlyGivenNames y1
  split
  · exact Frame.refl _ _
  · exact (State.railFails_frame ..).mono rfl
  · exact (State.railFails_frame ..).mono rfl
  · exact Frame.ite ((State.pmbPush_frame ..).step rfl ((State.setQuad_frame ..).mono rfl)) ((State.setQuad_frame
      ..).mono rfl)

theorem State.txnEnds_frame (s : State) (b : Nat) (r : Option TxnRes) : Frame 0x14020c00796758 s (State.txnEnds s b
    r) := by
  unfold State.txnEnds
  split
  · exact Frame.refl _ _
  · extract_lets +onlyGivenNames _ y1
    have hy1 : Frame 0x14020c00796758 s y1 := (State.txnError_frame ..).step rfl ((State.setPmb_frame ..).mono rfl)
    split
    · exact (State.railTxnEnds_frame ..).step rfl hy1
    · exact hy1
    · exact hy1
    · exact (State.hscReadEnds_frame ..).step rfl hy1
    · exact (State.hscReadEnds_frame ..).step rfl hy1
    · exact (State.hostTxnEnds_frame ..).step rfl hy1
    · exact hy1

theorem State.writePmbTxn_frame (s : State) (b : Nat) (v : W32) : Frame 0x20000000008 s (State.writePmbTxn s b v) :=
    by
  unfold State.writePmbTxn
  extract_lets +onlyGivenNames y1
  refine Frame.ite ?_ ?_
  · exact (State.badAccess_frame ..).mono rfl
  · extract_lets +onlyGivenNames y2
    have hy2 : Frame 0x20000000008 s y2 := (State.setReg_frame ..).mono rfl
    exact Frame.ite ((State.pmbPush_frame ..).step rfl ((State.put_frame ..).step rfl hy2)) hy2

theorem State.writeHscOff_frame (s : State) (v : W32) : Frame 0x20000000008 s (State.writeHscOff s v) := by
  unfold State.writeHscOff
  exact Frame.ite (Frame.ite ((State.orderHscOff_frame ..).mono rfl) (Frame.refl _ _)) ((State.badAccess_frame
    ..).mono rfl)

theorem State.gpioChange_frame (s : State) (n : Nat) (level : Bool) : Frame 0x80040000480048 s (State.gpioChange s n
    level) := by
  unfold State.gpioChange
  refine Frame.ite ?_ ?_
  · exact Frame.refl _ _
  · extract_lets +onlyGivenNames y1
    have hy1 : Frame 0x80040000480048 s y1 := (State.put_frame ..).mono rfl
    extract_lets +onlyGivenNames y2
    refine Frame.ite ?_ ?_
    · extract_lets +onlyGivenNames y3
      have hy3 : Frame 0x80040000480048 s y3 := (State.boardPulse_frame ..).step rfl ((State.irqBit_frame ..).step
        rfl hy1)
      exact Frame.ite ((State.bmonTrigger_frame ..).step rfl hy3) hy3
    · exact hy1

theorem execScanStart_frame (s : State) : ∃ nx, execScanStart s = .next nx ∧ Frame 0x80000000480048 s nx := by
  unfold execScanStart
  exact ⟨_, rfl, State.access_frame rfl _ _ _ (fun t1 => (State.writeBmonCtrl_frame ..).mono rfl)⟩

theorem execScanTimer_frame (s : State) : ∃ nx, execScanTimer s = .next nx ∧ Frame 0x80000000480048 s nx := by
  unfold execScanTimer
  exact ⟨_, rfl, Frame.ite ((State.bmonTrigger_frame ..).mono rfl) (Frame.refl _ _)⟩

theorem execAdcStartupDone_frame (s : State) : ∃ nx, execAdcStartupDone s = .next nx ∧ Frame 0x80000000000000 s nx
    := by
  unfold execAdcStartupDone
  exact ⟨_, rfl, Frame.ite ((State.bmonNext_frame ..).step rfl (upd_bmon rfl)) (Frame.refl _ _)⟩

theorem execInjGo_frame (ch : W6) (s : State) : ∃ nx, execInjGo ch s = .next nx ∧ Frame 0x80000000480048 s nx := by
  unfold execInjGo
  exact ⟨_, rfl, State.access_frame rfl _ _ _ (fun t1 => (State.writeBmonCtrl_frame ..).mono rfl)⟩

theorem execCalGo_frame (s : State) : ∃ nx, execCalGo s = .next nx ∧ Frame 0x80000000480048 s nx := by
  unfold execCalGo
  exact ⟨_, rfl, State.access_frame rfl _ _ _ (fun t1 => (State.writeBmonCtrl_frame ..).mono rfl)⟩

theorem execConversionDone_frame (code : W12) (s : State) : ∃ nx, execConversionDone code s = .next nx ∧ Frame
    0x80040000480048 s nx := by
  unfold execConversionDone
  refine ⟨_, rfl, ?_⟩
  split
  · extract_lets +onlyGivenNames y1
    have hy1 : Frame 0x80040000480048 s y1 := (State.bmonResult_frame ..).mono rfl
    extract_lets +onlyGivenNames _ y2
    have hy2 : Frame 0x80040000480048 s y2 := Frame.ite ((State.irqBit_frame ..).step rfl (Frame.trans hy1 (upd_bmon
      rfl))) hy1
    exact (State.bmonNext_frame ..).step rfl (Frame.trans hy2 (upd_bmon rfl))
  · extract_lets +onlyGivenNames y3
    have hy3 : Frame 0x80040000480048 s y3 := (State.irqBit_frame ..).step rfl ((State.bmonResult_frame ..).mono rfl)
    exact (State.bmonNext_frame ..).step rfl (Frame.trans hy3 (upd_bmon rfl))
  · exact Frame.refl _ _

theorem execCalDone_frame (gain offset : W16) (s : State) : ∃ nx, execCalDone gain offset s = .next nx ∧ Frame
    0x80000000480048 s nx := by
  unfold execCalDone
  refine ⟨_, rfl, ?_⟩
  refine Frame.ite ?_ ?_
  · extract_lets +onlyGivenNames y1
    have hy1 : Frame 0x80000000480048 s y1 := (State.put_frame ..).step rfl ((State.setReg_frame ..).mono rfl)
    extract_lets +onlyGivenNames y2
    have hy2 : Frame 0x80000000480048 s y2 := (State.irqBit_frame ..).step rfl hy1
    exact (State.bmonNext_frame ..).step rfl (Frame.trans hy2 (upd_bmon rfl))
  · exact Frame.refl _ _

theorem execBmonQueueRead_frame (s : State) : ∃ nx, execBmonQueueRead s = .next nx ∧ Frame 0x80000000000028 s nx := by
  unfold execBmonQueueRead
  exact ⟨_, rfl, State.readAccess_frame rfl _ _ _ (fun t1 => (State.bmonPop_frame ..).mono rfl)⟩

theorem execPmbTxnGo_frame (b : Fin2) (v : W32) (s : State) : ∃ nx, execPmbTxnGo b v s = .next nx ∧ Frame
    0x20000000008 s nx := by
  unfold execPmbTxnGo
  exact ⟨_, rfl, State.access_frame rfl _ _ _ (fun t1 => (State.writePmbTxn_frame ..).mono rfl)⟩

theorem execPmbTxnStart_frame (b : Fin2) (s : State) : ∃ nx, execPmbTxnStart b s = .next nx ∧ Frame 0x20000000040 s
    nx := by
  unfold execPmbTxnStart
  exact ⟨_, rfl, Frame.ite ((State.pmbStart_frame ..).mono rfl) (Frame.refl _ _)⟩

theorem execTxnDone_frame (b : Fin2) (res : TxnRes) (s : State) : ∃ nx, execTxnDone b res s = .next nx ∧ Frame
    0x14020c00796758 s nx := by
  unfold execTxnDone
  exact ⟨_, rfl, (State.txnEnds_frame ..).mono rfl⟩

theorem execPmbTimeout_frame (b : Fin2) (s : State) : ∃ nx, execPmbTimeout b s = .next nx ∧ Frame 0x14020c00796758 s
    nx := by
  unfold execPmbTimeout
  exact ⟨_, rfl, (State.txnEnds_frame ..).mono rfl⟩

theorem execPmbAlert_frame (b : Fin2) (s : State) : ∃ nx, execPmbAlert b s = .next nx ∧ Frame 0x480048 s nx := by
  unfold execPmbAlert
  exact ⟨_, rfl, Frame.ite ((State.irqBit_frame ..).mono rfl) (Frame.refl _ _)⟩

theorem execHscPoll_frame (s : State) : ∃ nx, execHscPoll s = .next nx ∧ Frame 0x20000000000 s nx := by
  unfold execHscPoll
  refine ⟨_, rfl, ?_⟩
  extract_lets +onlyGivenNames y1
  extract_lets +onlyGivenNames y2
  extract_lets +onlyGivenNames y3
  exact Frame.ite ((State.pmbPush_frame ..).step rfl ((State.pmbPush_frame ..).mono rfl)) (Frame.refl _ _)

theorem execHscOff_frame (v : W32) (s : State) : ∃ nx, execHscOff v s = .next nx ∧ Frame 0x20000000008 s nx := by
  unfold execHscOff
  exact ⟨_, rfl, State.access_frame rfl _ _ _ (fun t1 => (State.writeHscOff_frame ..).mono rfl)⟩

theorem execGpioEdge_frame (n : W4) (level : Bool) (s : State) : ∃ nx, execGpioEdge n level s = .next nx ∧ Frame
    0x80040000480048 s nx := by
  unfold execGpioEdge
  exact ⟨_, rfl, Frame.ite ((State.gpioChange_frame ..).mono rfl) (Frame.refl _ _)⟩

theorem State.tapSelect_frame (s : State) (i : W8) : Frame 0x200000000000040 s (State.tapSelect s i) := by
  unfold State.tapSelect
  extract_lets +onlyGivenNames _ y1
  have hy1 : Frame 0x200000000000040 s y1 := upd_tap rfl
  exact Frame.ite hy1 ((State.emit_frame ..).step rfl hy1)

theorem State.boundaryScan_frame (s : State) (i : W8) (balls din : Boundary) : Frame 0x200000000000040 s
    (State.boundaryScan s i balls din) := by
  unfold State.boundaryScan
  extract_lets +onlyGivenNames y1
  have hy1 : Frame 0x200000000000040 s y1 := (State.tapSelect_frame ..).mono rfl
  extract_lets +onlyGivenNames _ y2
  have hy2 : Frame 0x200000000000040 s y2 := Frame.trans hy1 (upd_tap rfl)
  exact Frame.ite ((State.emit_frame ..).step rfl hy2) hy2

theorem State.otherScan_frame (s : State) (i : W8) (captured : Boundary) : Frame 0x200000000000040 s
    (State.otherScan s i captured) := by
  unfold State.otherScan
  extract_lets +onlyGivenNames y1
  have hy1 : Frame 0x200000000000040 s y1 := (State.tapSelect_frame ..).mono rfl
  exact Frame.trans hy1 (upd_tap rfl)

theorem execTapReset_frame (s : State) : ∃ nx, execTapReset s = .next nx ∧ Frame 0x200000000000040 s nx := by
  unfold execTapReset
  exact ⟨_, rfl, (State.tapSelect_frame ..).mono rfl⟩

theorem execThermtrip_frame (s : State) : ∃ nx, execThermtrip s = .next nx ∧ Frame 0x100000000000040 s nx := by
  unfold execThermtrip
  exact ⟨_, rfl, Frame.ite (Frame.refl _ _) ((State.emit_frame ..).step rfl (upd_thermtrip rfl))⟩

theorem execExtest_frame (balls din : Boundary) (s : State) : ∃ nx, execExtest balls din s = .next nx ∧ Frame
    0x200000000000040 s nx := by
  unfold execExtest
  exact ⟨_, rfl, (State.boundaryScan_frame ..).mono rfl⟩

theorem execIdcode_frame (s : State) : ∃ nx, execIdcode s = .next nx ∧ Frame 0x200000000000040 s nx := by
  unfold execIdcode
  exact ⟨_, rfl, (State.otherScan_frame ..).mono rfl⟩

theorem execSamplePreload_frame (balls din : Boundary) (s : State) : ∃ nx, execSamplePreload balls din s = .next nx
    ∧ Frame 0x200000000000040 s nx := by
  unfold execSamplePreload
  exact ⟨_, rfl, (State.boundaryScan_frame ..).mono rfl⟩

theorem execExtestPulse_frame (balls din : Boundary) (s : State) : ∃ nx, execExtestPulse balls din s = .next nx ∧
    Frame 0x200000000000040 s nx := by
  unfold execExtestPulse
  exact ⟨_, rfl, (State.boundaryScan_frame ..).mono rfl⟩

theorem execExtestTrain_frame (balls din : Boundary) (s : State) : ∃ nx, execExtestTrain balls din s = .next nx ∧
    Frame 0x200000000000040 s nx := by
  unfold execExtestTrain
  exact ⟨_, rfl, (State.boundaryScan_frame ..).mono rfl⟩

theorem execClamp_frame (s : State) : ∃ nx, execClamp s = .next nx ∧ Frame 0x200000000000040 s nx := by
  unfold execClamp
  exact ⟨_, rfl, (State.otherScan_frame ..).mono rfl⟩

theorem execHighz_frame (s : State) : ∃ nx, execHighz s = .next nx ∧ Frame 0x200000000000040 s nx := by
  unfold execHighz
  exact ⟨_, rfl, (State.otherScan_frame ..).mono rfl⟩

theorem execBypass_frame (s : State) : ∃ nx, execBypass s = .next nx ∧ Frame 0x200000000000040 s nx := by
  unfold execBypass
  exact ⟨_, rfl, (State.otherScan_frame ..).mono rfl⟩

theorem execFyilFrame_frame (s : State) : ∃ nx, execFyilFrame s = .next nx ∧ Frame 0x400040 s nx := by
  unfold execFyilFrame
  refine ⟨_, rfl, ?_⟩
  refine Frame.ite ?_ ?_
  · exact Frame.refl _ _
  · split
    · exact (State.emit_frame ..).step rfl (upd_fyil rfl)
    · exact (State.emit_frame ..).mono rfl

theorem State.runHalt_frame (s : State) (g : Nat) (run halt : Bool) : Frame 0x496048 s (State.runHalt s g run halt)
    := by
  unfold State.runHalt
  extract_lets +onlyGivenNames y1
  have hy1 : Frame 0x496048 s y1 := Frame.ite ((State.haltGroup_frame ..).mono rfl) (Frame.refl _ _)
  exact Frame.ite (Frame.ite ((State.setPhase_frame ..).step rfl hy1) ((State.ctrlReject_frame ..).step rfl hy1)) hy1

theorem State.qrefReset_frame (s old : State) (l : Nat) : Frame 0x400c4900c8 s (State.qrefReset s old l) := by
  unfold State.qrefReset
  exact Frame.ite (Frame.refl _ _) (Frame.ite ((State.qrefLost_frame ..).mono rfl) ((State.put_frame ..).mono rfl))

theorem State.ctrlReset_frame (s : State) (pg : Nat) (p : Page) : Frame 0xc00bfffc7d04dc s (State.ctrlReset s pg p)
    := by
  unfold State.ctrlReset
  exact Frame.ite (Frame.refl _ _) (Frame.ite ((State.ctrlReject_frame ..).mono rfl) (Frame.ite
    ((State.qrefReset_frame ..).step rfl ((State.softReset_frame ..).mono rfl)) ((State.softReset_frame ..).mono
    rfl)))

theorem State.writeCtrl_frame (s : State) (pg : Nat) (p : Page) (v : W32) : Frame 0xc00bfffc7d64dc s
    (State.writeCtrl s pg p v) := by
  unfold State.writeCtrl
  extract_lets +onlyGivenNames y1
  have hy1 : Frame 0xc00bfffc7d64dc s y1 := (State.put_frame ..).mono rfl
  exact Frame.ite ((State.runHalt_frame ..).step rfl hy1) (Frame.ite ((State.ctrlReset_frame ..).step rfl hy1) hy1)

theorem State.endSoftReset_frame (s : State) (pg : Nat) : Frame 0xc4804c8 s (State.endSoftReset s pg) := by
  unfold State.endSoftReset
  refine Frame.ite ?_ ?_
  · extract_lets +onlyGivenNames y1
    have hy1 : Frame 0xc4804c8 s y1 := upd_resetting rfl
    split
    · exact Frame.ite ((State.laneStart_frame ..).step rfl hy1) hy1
    · exact hy1
  · exact Frame.refl _ _

theorem State.injectErr_frame (s : State) (pg : Nat) (p : Page) (n : Nat) : Frame 0x200000004b0048 s
    (State.injectErr s pg p n) := by
  unfold State.injectErr
  extract_lets +onlyGivenNames y1
  have hy1 : Frame 0x200000004b0048 s y1 := Frame.ite ((State.containAct_frame ..).mono rfl) (Frame.refl _ _)
  extract_lets +onlyGivenNames y2
  exact (State.raiseAt_frame ..).step rfl hy1

theorem State.writeErrInj_frame (s : State) (pg : Nat) (p : Page) (v : W32) : Frame 0x200000004b0048 s
    (State.writeErrInj s pg p v) := by
  unfold State.writeErrInj
  exact State.scoped_frame rfl _ _ _ _ (fun x10 t1 => Frame.ite ((State.injectErr_frame ..).step rfl
    ((State.put_frame ..).mono rfl)) (Frame.refl _ _))

theorem State.wakeActs_frame (s : State) (k : Nat) : Frame 0x300 s (State.wakeActs s k) := by
  unfold State.wakeActs
  exact Frame.ite ((State.wakeSlot_frame ..).mono rfl) (Frame.refl _ _)

theorem State.writePwr_frame (s : State) (pg : Nat) (p : Page) (v : W32) : Frame 0x308 s (State.writePwr s pg p v)
    := by
  unfold State.writePwr
  extract_lets +onlyGivenNames y1
  extract_lets +onlyGivenNames y2
  have hy2 : Frame 0x308 s y2 := (State.put_frame ..).step rfl ((State.put_frame ..).mono rfl)
  split
  · exact (State.wakeActs_frame ..).step rfl hy2
  · exact hy2

theorem State.writeMirror_frame (s : State) (k : Nat) (v : W32) : Frame 0x308 s (State.writeMirror s k v) := by
  unfold State.writeMirror
  exact (State.wakeActs_frame ..).step rfl ((State.put_frame ..).mono rfl)

theorem State.writeErrStat_frame (s : State) (pg : Nat) (v : W32) : Frame 0x8 s (State.writeErrStat s pg v) := by
  unfold State.writeErrStat
  extract_lets +onlyGivenNames y1
  extract_lets +onlyGivenNames y2
  have hy2 : Frame 0x8 s y2 := (State.setReg_frame ..).mono rfl
  exact Frame.ite ((State.put_frame ..).step rfl hy2) hy2

theorem State.writeHeader_frame (s : State) (pg : Nat) (p : Page) (off : Nat) (v : W32) : Frame 0xe00bfffc7f67dc s
    (State.writeHeader s pg p off v) := by
  unfold State.writeHeader
  split
  · exact (State.writeCtrl_frame ..).mono rfl
  · exact (State.writeErrStat_frame ..).mono rfl
  · exact (State.setReg_frame ..).mono rfl
  · exact (State.writeErrInj_frame ..).mono rfl
  · exact (State.writePwr_frame ..).mono rfl
  · exact State.withVecs_frame rfl _ _ _ (fun t1 => (State.setReg_frame ..).mono rfl)
  · extract_lets +onlyGivenNames y2
    have hy2 : Frame 0xe00bfffc7f67dc s y2 := (State.setReg_frame ..).mono rfl
    exact Frame.ite ((State.bmonLevel_frame ..).step rfl hy2) hy2
  · exact Frame.refl _ _

theorem State.plainWrite_frame (s : State) (addr : Nat) (v : W32) : Frame 0x480048 s (State.plainWrite s addr v) := by
  unfold State.plainWrite
  exact State.scoped_frame rfl _ _ _ _ (fun x10 t1 => Frame.refl _ _)

theorem State.storeThen_frame {F : Nat} (hF : Nat.land 0x480048 F = 0x480048) (s : State) (addr : Nat) (v : W32) (k
    : State → State) (hk : ∀ t0, Frame F t0 (k t0)) : Frame F s (State.storeThen s addr v k) := by
  unfold State.storeThen
  exact State.scoped_frame (Frame.sub_trans rfl hF) _ _ _ _ (fun x10 t1 => hk ..)

theorem State.memCtlWrite_frame (s : State) (m addr : Nat) (v : W32) : Frame 0x4c0048 s (State.memCtlWrite s m addr
    v) := by
  unfold State.memCtlWrite
  split
  · exact (State.writeScrubCtrl_frame ..).mono rfl
  · exact Frame.ite ((State.memLogClr_frame ..).mono rfl) (Frame.refl _ _)
  · exact (State.plainWrite_frame ..).mono rfl

theorem State.weirClear_frame (s : State) (w addr : Nat) (v : W32) : Frame 0x8 s (State.weirClear s w addr v) := by
  unfold State.weirClear
  extract_lets +onlyGivenNames y1
  have hy1 : Frame 0x8 s y1 := (State.weirSettle_frame ..).step rfl ((State.setReg_frame ..).mono rfl)
  exact Frame.ite ((State.weirSettle_frame ..).step rfl hy1) hy1

theorem State.weirWrite_frame (s : State) (w addr : Nat) (v : W32) : Frame 0x7e0dfffc7fffd8 s (State.weirWrite s w
    addr v) := by
  unfold State.weirWrite
  split
  · exact (State.weirClear_frame ..).mono rfl
  · exact (State.weirClear_frame ..).mono rfl
  · exact (State.weirClear_frame ..).mono rfl
  · exact Frame.ite ((State.put_frame ..).mono rfl) (Frame.refl _ _)
  · exact (State.writeWeirInj_frame ..).mono rfl
  · exact (State.plainWrite_frame ..).mono rfl

theorem State.dpwrWrite_frame (s : State) (addr : Nat) (v : W32) : Frame 0x20000480348 s (State.dpwrWrite s addr v)
    := by
  unfold State.dpwrWrite
  extract_lets +onlyGivenNames y1
  exact Frame.ite ((State.writePlevel_frame ..).mono rfl) (Frame.ite ((State.writeMirror_frame ..).mono rfl)
    ((State.plainWrite_frame ..).mono rfl))

theorem State.writeAlarm_frame (s : State) (addr : Nat) (v : W32) : Frame 0x480048 s (State.writeAlarm s addr v) := by
  unfold State.writeAlarm
  exact State.storeThen_frame rfl _ _ _ _ (fun t1 => Frame.ite ((State.put_frame ..).mono rfl) (Frame.refl _ _))

theorem State.ftbWrite_frame (s : State) (seq addr : Nat) (v : W32) : Frame 0x4c0c4900cc s (State.ftbWrite s seq
    addr v) := by
  unfold State.ftbWrite
  split
  · exact Frame.ite ((State.snapshot_frame ..).mono rfl) (Frame.refl _ _)
  · exact (State.commitRate_frame ..).mono rfl
  · exact Frame.ite ((State.plainWrite_frame ..).step rfl ((State.rebase_frame ..).mono rfl))
      ((State.plainWrite_frame ..).mono rfl)
  · exact (State.adjust_frame ..).mono rfl
  · exact (State.commitPair_frame ..).step rfl ((State.setReg_frame ..).mono rfl)
  · exact Frame.ite ((State.stepTime_frame ..).mono rfl) (Frame.refl _ _)
  · exact State.scoped_frame rfl _ _ _ _ (fun x10 t1 => (State.eecReconfig_frame ..).mono rfl)
  · exact (State.setLoWritten_frame ..).step rfl ((State.setReg_frame ..).mono rfl)
  · exact (State.commitPair_frame ..).step rfl ((State.setReg_frame ..).mono rfl)
  · exact Frame.ite ((State.commitPair_frame ..).step rfl ((State.setReg_frame ..).mono rfl)) (Frame.ite
      ((State.writeAlarm_frame ..).mono rfl) ((State.plainWrite_frame ..).mono rfl))
  · exact (State.plainWrite_frame ..).mono rfl

theorem State.bmonWrite_frame (s : State) (addr : Nat) (v : W32) : Frame 0x80000000480048 s (State.bmonWrite s addr
    v) := by
  unfold State.bmonWrite
  split
  · exact (State.writeBmonCtrl_frame ..).mono rfl
  · exact State.storeThen_frame rfl _ _ _ _ (fun t1 => (State.bmonLevel_frame ..).mono rfl)
  · exact (State.plainWrite_frame ..).mono rfl

theorem State.pmbWrite_frame (s : State) (b addr : Nat) (v : W32) : Frame 0x20000480048 s (State.pmbWrite s b addr
    v) := by
  unfold State.pmbWrite
  split
  · exact (State.writePmbTxn_frame ..).mono rfl
  · exact Frame.ite ((State.writeHscOff_frame ..).mono rfl) (Frame.refl _ _)
  · exact (State.plainWrite_frame ..).mono rfl

theorem State.rstoWrite_frame (s : State) (addr : Nat) (v : W32) : Frame 0xe00000480048 s (State.rstoWrite s addr v)
    := by
  unfold State.rstoWrite
  split
  · exact (State.stageWrite_frame ..).mono rfl
  · exact (State.writeRstoCmd_frame ..).mono rfl
  · exact (State.plainWrite_frame ..).mono rfl

theorem State.btuWrite_frame (s : State) (seq addr : Nat) (v : W32) : Frame 0x14a00000480048 s (State.btuWrite s seq
    addr v) := by
  unfold State.btuWrite
  split
  · exact Frame.ite ((State.pushGo_frame ..).mono rfl) (Frame.refl _ _)
  · exact (State.writeAttCtrl_frame ..).mono rfl
  · exact (State.plainWrite_frame ..).mono rfl

theorem State.pcieWrite_frame (s : State) (addr : Nat) (v : W32) : Frame 0x480048 s (State.pcieWrite s addr v) := by
  unfold State.pcieWrite
  split
  · exact (State.rearm_frame ..).mono rfl
  · exact (State.rearm_frame ..).mono rfl
  · exact (State.plainWrite_frame ..).mono rfl

theorem State.pumpWrite_frame (s : State) (seq addr : Nat) (v : W32) : Frame 0x580048 s (State.pumpWrite s seq addr
    v) := by
  unfold State.pumpWrite
  split
  · exact (State.writeChCtrl_frame ..).mono rfl
  · exact (State.writeChDb_frame ..).mono rfl
  · exact (State.plainWrite_frame ..).mono rfl

theorem State.hbmcWrite_frame (s : State) (n seq addr : Nat) (v : W32) : Frame 0x4c0048 s (State.hbmcWrite s n seq
    addr v) := by
  unfold State.hbmcWrite
  exact Frame.ite ((State.memCtlWrite_frame ..).mono rfl) (Frame.ite (Frame.ite ((State.remapGo_frame ..).mono rfl)
    (Frame.refl _ _)) ((State.plainWrite_frame ..).mono rfl))

theorem State.slcWrite_frame (s : State) (seq addr : Nat) (v : W32) : Frame 0x490048 s (State.slcWrite s seq addr v)
    := by
  unfold State.slcWrite
  split
  · exact Frame.ite ((State.ringRestart_frame ..).mono rfl) (Frame.refl _ _)
  · exact Frame.ite ((State.cancelFlow_frame ..).mono rfl) ((State.cancelTask_frame ..).mono rfl)
  · exact (State.settle_frame ..).step rfl ((State.evtAdd_frame ..).mono rfl)
  · exact (State.plainWrite_frame ..).mono rfl

theorem State.ptpRxCfg_frame (s : State) (q addr : Nat) (v : W32) : Frame 0x480048 s (State.ptpRxCfg s q addr v) := by
  unfold State.ptpRxCfg
  exact State.scoped_frame rfl _ _ _ _ (fun x10 t1 => Frame.ite ((State.setReg_frame ..).mono rfl) (Frame.refl _ _))

theorem State.fquWrite_frame (s : State) (q seq addr : Nat) (v : W32) : Frame 0x17c004c0158 s (State.fquWrite s q
    seq addr v) := by
  unfold State.fquWrite
  split
  · exact State.storeThen_frame rfl _ _ _ _ (fun t1 => (State.setLoWritten_frame ..).mono rfl)
  · exact (State.commitSlotTime_frame ..).mono rfl
  · exact State.storeThen_frame rfl _ _ _ _ (fun t2 => (State.commitPair_frame ..).mono rfl)
  · exact State.storeThen_frame rfl _ _ _ _ (fun t3 => (State.commitPair_frame ..).mono rfl)
  · exact (State.slotCtrl_frame ..).mono rfl
  · exact Frame.ite ((State.setTsQueue_frame ..).mono rfl) (Frame.refl _ _)
  · exact (State.commitPair_frame ..).step rfl ((State.setReg_frame ..).mono rfl)
  · exact (State.ptpRxCfg_frame ..).mono rfl
  · exact (State.commitPair_frame ..).step rfl ((State.setReg_frame ..).mono rfl)
  · exact Frame.ite ((State.ptpGo_frame ..).mono rfl) (Frame.refl _ _)
  · exact (State.plainWrite_frame ..).mono rfl

theorem State.cistWrite_frame (s : State) (q addr : Nat) (v : W32) : Frame 0x4c0348 s (State.cistWrite s q addr v)
    := by
  unfold State.cistWrite
  extract_lets +onlyGivenNames y1
  exact Frame.ite ((State.writeOwner_frame ..).mono rfl) (Frame.ite ((State.writeRetire_frame ..).mono rfl)
    ((State.memCtlWrite_frame ..).mono rfl))

theorem State.cbankWrite_frame (s : State) (q b addr : Nat) (v : W32) : Frame 0x4c0048 s (State.cbankWrite s q b
    addr v) := by
  unfold State.cbankWrite
  exact Frame.ite (Frame.ite (Frame.ite ((State.clearBank_frame ..).mono rfl) ((State.liveDrop_frame ..).mono rfl))
    (Frame.refl _ _)) ((State.plainWrite_frame ..).mono rfl)

theorem State.cmemWrite_frame (s : State) (d addr : Nat) (v : W32) : Frame 0x4c0048 s (State.cmemWrite s d addr v)
    := by
  unfold State.cmemWrite
  exact Frame.ite (Frame.ite ((State.clearCluster_frame ..).mono rfl) (Frame.refl _ _)) ((State.memCtlWrite_frame
    ..).mono rfl)

theorem State.coefAdvance_frame (s : State) (pg : Nat) : Frame 0x8 s (State.coefAdvance s pg) := by
  unfold State.coefAdvance
  extract_lets +onlyGivenNames y1
  exact Frame.ite ((State.put_frame ..).mono rfl) (Frame.refl _ _)

theorem State.shpWrite_frame (s : State) (pg addr : Nat) (v : W32) : Frame 0x480048 s (State.shpWrite s pg addr v)
    := by
  unfold State.shpWrite
  exact Frame.ite (State.storeThen_frame rfl _ _ _ _ (fun t1 => (State.coefAdvance_frame ..).mono rfl))
    ((State.plainWrite_frame ..).mono rfl)

theorem State.writeTest_frame (s : State) (l : Nat) (v : W32) : Frame 0x4800c8 s (State.writeTest s l v) := by
  unfold State.writeTest
  refine Frame.ite ?_ ?_
  · exact (State.badAccess_frame ..).mono rfl
  · refine Frame.trans ?_ (State.storeThen_frame rfl _ _ _ _ (fun t1 => ?_))
    · exact Frame.refl _ _
    · extract_lets +onlyGivenNames y2
      have hy2 : Frame 0x4800c8 t1 y2 := Frame.ite ((State.applyTest_frame ..).step rfl ((State.put_frame ..).mono
        rfl)) (Frame.refl _ _)
      exact Frame.ite hy2 ((State.put_frame ..).step rfl hy2)

theorem State.laneWrite_frame (s : State) (l addr : Nat) (v : W32) : Frame 0x400c4900c8 s (State.laneWrite s l addr
    v) := by
  unfold State.laneWrite
  split
  · exact (State.writeLaneCfg_frame ..).mono rfl
  · exact Frame.ite ((State.retrain_frame ..).mono rfl) (Frame.refl _ _)
  · extract_lets +onlyGivenNames y1
    have hy1 : Frame 0x400c4900c8 s y1 := Frame.ite ((State.slipBit_frame ..).mono rfl) (Frame.refl _ _)
    exact Frame.ite ((State.acceptSlip_frame ..).step rfl hy1) hy1
  · exact (State.writeTest_frame ..).mono rfl
  · exact (State.writeEye_frame ..).mono rfl
  · exact (State.writeQref_frame ..).mono rfl
  · exact (State.plainWrite_frame ..).mono rfl

theorem State.cluWrite_frame (s : State) (d addr : Nat) (v : W32) : Frame 0x490048 s (State.cluWrite s d addr v) := by
  unfold State.cluWrite
  split
  · exact Frame.ite ((State.kloadGo_frame ..).mono rfl) (Frame.refl _ _)
  · exact Frame.ite (Frame.refl _ _) ((State.kernelInvalidate_frame ..).mono rfl)
  · exact State.storeThen_frame rfl _ _ _ _ (fun t1 => Frame.ite ((State.histClr_frame ..).mono rfl) (Frame.refl _ _))
  · exact State.scoped_frame rfl _ _ _ _ (fun x20 t2 => Frame.ite ((State.startWindows_frame ..).mono rfl)
      (Frame.refl _ _))
  · exact (State.plainWrite_frame ..).mono rfl

theorem State.blockWrite_frame (s : State) (pg : Nat) (p : Page) (addr : Nat) (v : W32) : Frame 0xfefffffc7fffdc s
    (State.blockWrite s pg p addr v) := by
  unfold State.blockWrite
  split
  · exact Frame.ite ((State.writeModeReq_frame ..).mono rfl) ((State.plainWrite_frame ..).mono rfl)
  · exact Frame.ite ((State.writeRstCmd_frame ..).mono rfl) ((State.plainWrite_frame ..).mono rfl)
  · exact (State.dpwrWrite_frame ..).mono rfl
  · exact (State.weirWrite_frame ..).mono rfl
  · exact (State.ftbWrite_frame ..).mono rfl
  · exact (State.bmonWrite_frame ..).mono rfl
  · exact (State.pmbWrite_frame ..).mono rfl
  · exact (State.rstoWrite_frame ..).mono rfl
  · exact Frame.ite ((State.writeFuseCmd_frame ..).mono rfl) ((State.plainWrite_frame ..).mono rfl)
  · exact (State.btuWrite_frame ..).mono rfl
  · exact (State.pcieWrite_frame ..).mono rfl
  · exact (State.pumpWrite_frame ..).mono rfl
  · exact (State.hbmcWrite_frame ..).mono rfl
  · exact (State.slcWrite_frame ..).mono rfl
  · exact Frame.ite ((State.writeMirror_frame ..).mono rfl) ((State.plainWrite_frame ..).mono rfl)
  · exact (State.fquWrite_frame ..).mono rfl
  · exact (State.cistWrite_frame ..).mono rfl
  · exact (State.cbankWrite_frame ..).mono rfl
  · exact (State.cmemWrite_frame ..).mono rfl
  · exact (State.shpWrite_frame ..).mono rfl
  · exact Frame.ite ((State.writeLinkCfg_frame ..).mono rfl) (Frame.ite ((State.writeInj_frame ..).mono rfl)
      ((State.plainWrite_frame ..).mono rfl))
  · exact (State.laneWrite_frame ..).mono rfl
  · exact (State.cluWrite_frame ..).mono rfl
  · exact (State.plainWrite_frame ..).mono rfl

theorem State.writeAt_frame (s : State) (addr : Nat) (v : W32) : Frame 0xfefffffc7fffdc s (State.writeAt s addr v)
    := by
  unfold State.writeAt
  split
  · exact Frame.refl _ _
  · extract_lets +onlyGivenNames y1
    split
    · exact Frame.refl _ _
    · exact Frame.ite ((State.writeHeader_frame ..).mono rfl) (Frame.ite (Frame.refl _ _) ((State.blockWrite_frame
        ..).mono rfl))

theorem State.hwSets_frame (s : State) (addr : Nat) (p : Page) (d : RegDesc) (m : W32) : Frame 0x480048 s
    (State.hwSets s addr p d m) := by
  unfold State.hwSets
  extract_lets +onlyGivenNames y1
  exact Frame.ite (Frame.refl _ _) (Frame.ite ((State.raiseAt_frame ..).mono rfl) (Frame.ite ((State.irq_frame
    ..).mono rfl) ((State.orReg_frame ..).mono rfl)))

theorem State.writeWith_frame (s : State) (addr : Nat) (v hwSet : W32) : Frame 0xfefffffc7fffdc s (State.writeWith s
    addr v hwSet) := by
  unfold State.writeWith
  split
  · exact Frame.refl _ _
  · extract_lets +onlyGivenNames y1
    exact (State.writeAt_frame ..).step rfl ((State.hwSets_frame ..).mono rfl)

theorem State.busWrite_frame (s : State) (addr : Nat) (v : W32) (be : W4) (hwSet : W32) : Frame 0xfefffffc7fffdc s
    (State.busWrite s addr v be hwSet) := by
  unfold State.busWrite
  exact Frame.ite (Frame.refl _ _) (Frame.ite ((State.badAccess_frame ..).mono rfl) (Frame.ite
    ((State.writeChDb_frame ..).mono rfl) (State.access_frame rfl _ _ _ (fun t1 => (State.writeWith_frame ..).mono
    rfl))))

theorem State.readReg_frame (s : State) (addr : Nat) (hwSet : W32) : Frame 0x80000004000038 s (State.readReg s addr
    hwSet) := by
  unfold State.readReg
  extract_lets +onlyGivenNames y1
  have hy1 : Frame 0x80000004000038 s y1 := upd_readData rfl
  split
  · exact hy1
  · extract_lets +onlyGivenNames y2
    refine Frame.ite ?_ ?_
    · exact (State.bmonPop_frame ..).mono rfl
    · refine Frame.ite ?_ ?_
      · extract_lets +onlyGivenNames y3
        have hy3 : Frame 0x80000004000038 s y3 := (State.readPrbs_frame ..).mono rfl
        exact (State.setReg_frame ..).step rfl hy3
      · refine Frame.ite ?_ ?_
        · extract_lets +onlyGivenNames y4
          exact Frame.trans hy1 (upd_latch rfl)
        · refine Frame.ite ?_ ?_
          · exact hy1
          · extract_lets +onlyGivenNames y5
            exact (State.setReg_frame ..).step rfl hy1

theorem State.returned_frame (s : State) (be : W4) : Frame 0x20 s (State.returned s be) := by
  unfold State.returned
  exact upd_readData rfl

theorem State.busRead_frame (s : State) (addr : Nat) (hwSet : W32) : Frame 0x80000004000038 s (State.busRead s addr
    hwSet) := by
  unfold State.busRead
  exact State.readAccess_frame rfl _ _ _ (fun t1 => (State.readReg_frame ..).mono rfl)

theorem execRegWrite_frame (a : W24) (v : W32) (x : Beat) (s : State) : ∃ nx, execRegWrite a v x
    s = .next nx ∧ Frame 0xfefffffc7fffdc s nx := by
  unfold execRegWrite
  exact ⟨_, rfl, (State.busWrite_frame ..).mono rfl⟩

theorem execUnpopulatedAccess_frame (a : W24) (write : Bool) (s : State) : ∃ nx, execUnpopulatedAccess a write s =
    .next nx ∧ Frame 0x28 s nx := by
  unfold execUnpopulatedAccess
  exact ⟨_, rfl, Frame.ite (Frame.refl _ _) (Frame.ite (State.access_frame rfl _ _ _ (fun t1 => Frame.refl _ _))
    (State.readAccess_frame rfl _ _ _ (fun t2 => Frame.refl _ _)))⟩

theorem execRcRead_frame (a : W24) (x : Beat) (s : State) : ∃ nx, execRcRead a x s = .next nx ∧
    Frame 0x80000004000038 s nx := by
  unfold execRcRead
  exact ⟨_, rfl, (State.returned_frame ..).step rfl ((State.busRead_frame ..).mono rfl)⟩

theorem execLatchedPairRead_frame (x : ReadAt) (s : State) : ∃ nx, execLatchedPairRead x s = .next nx ∧
    Frame 0x80000004000038 s nx := by
  unfold execLatchedPairRead
  exact ⟨_, rfl, (State.returned_frame ..).step rfl ((State.busRead_frame ..).mono rfl)⟩

theorem execDarkRead_frame (x : ReadAt) (s : State) : ∃ nx, execDarkRead x s = .next nx ∧ Frame 0x28 s nx
    := by
  unfold execDarkRead
  exact ⟨_, rfl, Frame.ite ((State.returned_frame ..).step rfl (State.readAccess_frame rfl _ _ _ (fun t1 =>
    Frame.refl _ _))) (Frame.refl _ _)⟩

theorem execDarkWrite_frame (a : W24) (v : W32) (s : State) : ∃ nx, execDarkWrite a v s = .next nx ∧ Frame
    0xfefffffc7fffdc s nx := by
  unfold execDarkWrite
  exact ⟨_, rfl, Frame.ite ((State.busWrite_frame ..).mono rfl) (Frame.refl _ _)⟩

theorem execRun_frame (page : PageIx) (v : W32) (s : State) : ∃ nx, execRun page v s = .next nx ∧ Frame
    0xfefffffc7fffdc s nx := by
  unfold execRun
  exact ⟨_, rfl, State.access_frame rfl _ _ _ (fun t1 => (State.writeAt_frame ..).mono rfl)⟩

theorem execHalt_frame (page : PageIx) (v : W32) (s : State) : ∃ nx, execHalt page v s = .next nx ∧ Frame
    0xfefffffc7fffdc s nx := by
  unfold execHalt
  exact ⟨_, rfl, State.access_frame rfl _ _ _ (fun t1 => (State.writeAt_frame ..).mono rfl)⟩

theorem execSoftReset_frame (page : PageIx) (v : W32) (s : State) : ∃ nx, execSoftReset page v s = .next nx ∧ Frame
    0xfefffffc7fffdc s nx := by
  unfold execSoftReset
  exact ⟨_, rfl, State.access_frame rfl _ _ _ (fun t1 => (State.writeAt_frame ..).mono rfl)⟩

theorem execSoftResetEnd_frame (page : PageIx) (s : State) : ∃ nx, execSoftResetEnd page s = .next nx ∧ Frame
    0xc4804c8 s nx := by
  unfold execSoftResetEnd
  exact ⟨_, rfl, (State.endSoftReset_frame ..).mono rfl⟩

theorem execErrInj_frame (page : PageIx) (n : W5) (s : State) : ∃ nx, execErrInj page n s = .next nx ∧ Frame
    0xfefffffc7fffdc s nx := by
  unfold execErrInj
  exact ⟨_, rfl, State.access_frame rfl _ _ _ (fun t1 => (State.writeAt_frame ..).mono rfl)⟩

theorem execWakeWrite_frame (slot : SlotIx) (mirror : Bool) (v : W32) (s : State) : ∃ nx, execWakeWrite slot mirror
    v s = .next nx ∧ Frame 0xfefffffc7fffdc s nx := by
  unfold execWakeWrite
  refine ⟨_, rfl, ?_⟩
  split
  · exact Frame.refl _ _
  · exact State.access_frame rfl _ _ _ (fun t1 => (State.writeAt_frame ..).mono rfl)

theorem State.idle_frame (s : State) : Frame 0x100049004e s (State.idle s) := by
  unfold State.idle
  exact Frame.ite (Frame.refl _ _) ((State.bmonLevel_frame ..).step rfl ((State.cycle_frame ..).mono rfl))

theorem State.withFetchWord_frame (s : State) (nbits w : Nat) : Frame 0x1 s (State.withFetchWord s nbits w) := by
  unfold State.withFetchWord
  split
  · exact upd_pending rfl
  · exact Frame.refl _ _

end Sys2Proof.Machine
end

