-- ==== Sys2Proof/Laws/Access.lean ====
section
/-! SUPPORT. The laws of register commands: what an access does at a page it reaches, at an unpopulated page, at a dark one. -/

namespace Sys2Proof.Machine

open Sys2Proof

theorem reaches_iff {s : State} {a : Nat} : s.reaches a = true ↔ s.wide = none ∧ ∃ p, pageOf a = some p ∧ s.dark p = false := by
  unfold State.reaches
  rw [Bool.and_eq_true, Option.isNone_iff_eq_none]
  cases pageOf a with
  | none => simp
  | some p => simp

theorem access_reaches {s : State} {a : Nat} (k : State → State) (h : s.reaches a = true) : s.access a k = k s := by
  obtain ⟨w, p, hp, hd⟩ := reaches_iff.1 h
  unfold State.access
  rw [w, if_neg (by decide), hp]
  exact if_neg (by rw [hd]; decide)

theorem readAccess_reaches {s : State} {a : Nat} (k : State → State) (h : s.reaches a = true) : s.readAccess a k = k s := by
  obtain ⟨w, p, hp, hd⟩ := reaches_iff.1 h
  unfold State.readAccess
  rw [w, if_neg (by decide), hp]
  exact if_neg (by rw [hd]; decide)

theorem access_none {s : State} {a : Nat} (k : State → State) (w : s.wide = none) (h : pageOf a = none) :
    s.access a k = s.badAccess a := by
  unfold State.access
  rw [w, if_neg (by decide), h]

theorem access_dark {s : State} {a : Nat} {p : Page} (k : State → State) (w : s.wide = none) (h : pageOf a = some p)
    (d : s.dark p = true) : s.access a k = s.darkWriteAt p a := by
  unfold State.access
  rw [w, if_neg (by decide), h]
  exact if_pos d

theorem readAccess_none {s : State} {a : Nat} (k : State → State) (w : s.wide = none) (h : pageOf a = none) :
    s.readAccess a k = { s.badAccess a with readData := 0 } := by
  unfold State.readAccess
  rw [w, if_neg (by decide), h]

theorem readAccess_dark {s : State} {a : Nat} {p : Page} (k : State → State) (w : s.wide = none) (h : pageOf a = some p)
    (d : s.dark p = true) : s.readAccess a k = s.darkReadAt p a := by
  unfold State.readAccess
  rw [w, if_neg (by decide), h]
  exact if_pos d


end Sys2Proof.Machine
end

