-- ==== Sys2Proof/Laws/Bank.lean ====
section
/-! SUPPORT. Numbers as bytes and back; a record that a commit writes is valid (R433, R434). -/

namespace Sys2Proof.Machine

open Sys2Proof

@[simp] theorem bytesLE_length (n v : Nat) : (bytesLE n v).length = n := by
  induction n generalizing v with
  | zero => rfl
  | succ n ih => simp [bytesLE, ih]

@[simp] theorem natLE_bytesLE (n v : Nat) : natLE (bytesLE n v) = v % 256 ^ n := by
  induction n generalizing v with
  | zero => simp [bytesLE, natLE, Nat.mod_one]
  | succ n ih =>
    simp only [bytesLE, natLE, ih, BitVec.toNat_ofNat, Nat.pow_succ']
    exact (Nat.mod_mul ..).symm

@[simp] theorem bankWord_length (c : Nat) (b : Bool) (f : Nat) : (bankWord c b f).length = 8 := by simp [bankWord]

@[simp] theorem bankHead_length (c : Nat) (b : Bool) (seq : W32) (p : Bytes) : (bankHead c b seq p).length = 60 := by simp [bankHead]

theorem crc32c_lt (bs : Bytes) : crc32c bs < 256 ^ 4 := by unfold crc32c; omega

/-- What a committed record holds, field by field. -/
theorem bankRecord_fields (c : Nat) (b : Bool) (seq : W32) (p : Bytes) :
    (bankRecord c b seq p).take 8 = bankWord c b 1 ∧ ((bankRecord c b seq p).drop 8).take 4 = bytesLE 4 seq.toNat
    ∧ ((bankRecord c b seq p).drop 12).take 4 = bytesLE 4 p.length
    ∧ (bankRecord c b seq p).take 16 = bankWord c b 1 ++ bytesLE 4 seq.toNat ++ bytesLE 4 p.length
    ∧ ((bankRecord c b seq p).drop 16).take 16
      = bytesLE 16 (if c = 0 then (Config.recordTag (bankWord c b 1 ++ bytesLE 4 seq.toNat ++ bytesLE 4 p.length ++ p)).toNat else 0)
    ∧ (bankRecord c b seq p).take 60 = bankHead c b seq p
    ∧ ((bankRecord c b seq p).drop 60).take 4 = bytesLE 4 (crc32c (bankHead c b seq p ++ p))
    ∧ (bankRecord c b seq p).drop 64 = p := by
  refine ⟨?_, ?_, ?_, ?_, ?_, ?_, ?_, ?_⟩ <;>
    simp [bankRecord, bankHead, List.take_append, List.drop_append, List.take_of_length_le, List.drop_eq_nil_of_le]

theorem bankSeq_bankRecord (c : Nat) (b : Bool) (seq : W32) (p : Bytes) : bankSeq (bankRecord c b seq p) = seq := by
  simp only [bankSeq, (bankRecord_fields c b seq p).2.1, natLE_bytesLE, Nat.mod_eq_of_lt (show seq.toNat < 256 ^ 4 from seq.isLt)]
  simp

theorem bankPayload_bankRecord (c : Nat) (b : Bool) (seq : W32) (p : Bytes) (h : p.length ≤ 65472) :
    bankPayload (bankRecord c b seq p) = p := by
  have hf := bankRecord_fields c b seq p
  have hn : natLE (bytesLE 4 p.length) = p.length := by rw [natLE_bytesLE]; exact Nat.mod_eq_of_lt (by omega)
  simp only [bankPayload, hf.2.2.1, hf.2.2.2.2.2.2.2, hn, List.take_length, Nat.sub_self, List.replicate_zero, List.append_nil]

/-- A committed record is valid. -/
theorem bankRecord_valid (c : Nat) (b : Bool) (seq : W32) (p : Bytes) (h : p.length ≤ 65472) :
    bankValid c b (bankRecord c b seq p) = true := by
  obtain ⟨h1, -, h3, h4, h5, h6, h7, -⟩ := bankRecord_fields c b seq p
  have hp := bankPayload_bankRecord c b seq p h
  have ht (x : BitVec 128) : x.toNat % 256 ^ 16 = x.toNat := Nat.mod_eq_of_lt x.isLt
  simp only [bankValid, h1, h3, h4, h5, h6, h7, hp, natLE_bytesLE, Nat.mod_eq_of_lt (crc32c_lt _),
    Nat.mod_eq_of_lt (show p.length < 256 ^ 4 by omega)]
  by_cases h0 : c = 0
  · simp only [h0, if_true, ht]
    simpa using h
  · simpa [h0] using h

/-- A bank that is written holds what was written, and the others what they held. -/
@[simp] theorem State.bankOf_setBank (s : State) (c d : Nat) (a b : Bool) (x : Bytes) :
    (s.setBank c a x).bankOf d b = if d = c ∧ b = a then x else s.bankOf d b := by
  have h : (2 * d + b2n b = 2 * c + b2n a) ↔ (d = c ∧ b = a) := by cases a <;> cases b <;> simp [b2n] <;> omega
  simp only [State.bankOf, State.setBank, tabGet_set, h]

/-- With bank A valid and bank B not, A is in force. -/
theorem inForce_first {s : State} {c : Nat} (h : s.bankGood c false = true) (g : s.bankGood c true = false) : s.inForce c = some false := by
  simp [State.inForce, h, g]

end Sys2Proof.Machine
end

