-- ==== Sys2Proof/Laws/State.lean ====
section
/-! SUPPORT. One law for each field and each update of the state: what the update leaves in the field. -/

namespace Sys2Proof.Machine

open Sys2Proof

variable (s : State)

/-! ## setReg -/

@[simp] theorem setReg_pending (k : Nat) (v : W32) : (s.setReg k v).pending = s.pending := rfl
@[simp] theorem setReg_kept (k : Nat) (v : W32) : (s.setReg k v).kept = s.kept := rfl
@[simp] theorem setReg_time (k : Nat) (v : W32) : (s.setReg k v).time = s.time := rfl
@[simp] theorem setReg_latch (k : Nat) (v : W32) : (s.setReg k v).latch = s.latch := rfl
@[simp] theorem setReg_readData (k : Nat) (v : W32) : (s.setReg k v).readData = s.readData := rfl
@[simp] theorem setReg_out (k : Nat) (v : W32) : (s.setReg k v).out = s.out := rfl
@[simp] theorem setReg_free (k : Nat) (v : W32) : (s.setReg k v).free = s.free := rfl
@[simp] theorem setReg_power (k : Nat) (v : W32) : (s.setReg k v).power = s.power := rfl
@[simp] theorem setReg_quad (k : Nat) (v : W32) : (s.setReg k v).quad = s.quad := rfl
@[simp] theorem setReg_resetting (k : Nat) (v : W32) : (s.setReg k v).resetting = s.resetting := rfl
@[simp] theorem setReg_ejectHeld (k : Nat) (v : W32) : (s.setReg k v).ejectHeld = s.ejectHeld := rfl
@[simp] theorem setReg_wide (k : Nat) (v : W32) : (s.setReg k v).wide = s.wide := rfl
@[simp] theorem setReg_cgStop (k : Nat) (v : W32) : (s.setReg k v).cgStop = s.cgStop := rfl
@[simp] theorem setReg_cgFault (k : Nat) (v : W32) : (s.setReg k v).cgFault = s.cgFault := rfl
@[simp] theorem setReg_sagWarned (k : Nat) (v : W32) : (s.setReg k v).sagWarned = s.sagWarned := rfl
@[simp] theorem setReg_sluice (k : Nat) (v : W32) : (s.setReg k v).sluice = s.sluice := rfl
@[simp] theorem setReg_tiles (k : Nat) (v : W32) : (s.setReg k v).tiles = s.tiles := rfl
@[simp] theorem setReg_mem (k : Nat) (v : W32) : (s.setReg k v).mem = s.mem := rfl
@[simp] theorem setReg_pcie (k : Nat) (v : W32) : (s.setReg k v).pcie = s.pcie := rfl
@[simp] theorem setReg_pump (k : Nat) (v : W32) : (s.setReg k v).pump = s.pump := rfl
@[simp] theorem setReg_pumpBytes (k : Nat) (v : W32) : (s.setReg k v).pumpBytes = s.pumpBytes := rfl
@[simp] theorem setReg_fyil (k : Nat) (v : W32) : (s.setReg k v).fyil = s.fyil := rfl
@[simp] theorem setReg_memData (k : Nat) (v : W32) : (s.setReg k v).memData = s.memData := rfl
@[simp] theorem setReg_memPoison (k : Nat) (v : W32) : (s.setReg k v).memPoison = s.memPoison := rfl
@[simp] theorem setReg_memErr (k : Nat) (v : W32) : (s.setReg k v).memErr = s.memErr := rfl
@[simp] theorem setReg_lanes (k : Nat) (v : W32) : (s.setReg k v).lanes = s.lanes := rfl
@[simp] theorem setReg_links (k : Nat) (v : W32) : (s.setReg k v).links = s.links := rfl
@[simp] theorem setReg_sends (k : Nat) (v : W32) : (s.setReg k v).sends = s.sends := rfl
@[simp] theorem setReg_traceAt (k : Nat) (v : W32) : (s.setReg k v).traceAt = s.traceAt := rfl
@[simp] theorem setReg_ethSeq (k : Nat) (v : W32) : (s.setReg k v).ethSeq = s.ethSeq := rfl
@[simp] theorem setReg_ethLast (k : Nat) (v : W32) : (s.setReg k v).ethLast = s.ethLast := rfl
@[simp] theorem setReg_hraceAt (k : Nat) (v : W32) : (s.setReg k v).hraceAt = s.hraceAt := rfl
@[simp] theorem setReg_events (k : Nat) (v : W32) : (s.setReg k v).events = s.events := rfl
@[simp] theorem setReg_pairs (k : Nat) (v : W32) : (s.setReg k v).pairs = s.pairs := rfl
@[simp] theorem setReg_pairLo (k : Nat) (v : W32) : (s.setReg k v).pairLo = s.pairLo := rfl
@[simp] theorem setReg_slotLate (k : Nat) (v : W32) : (s.setReg k v).slotLate = s.slotLate := rfl
@[simp] theorem setReg_tsq (k : Nat) (v : W32) : (s.setReg k v).tsq = s.tsq := rfl
@[simp] theorem setReg_tsPend (k : Nat) (v : W32) : (s.setReg k v).tsPend = s.tsPend := rfl
@[simp] theorem setReg_lenReads (k : Nat) (v : W32) : (s.setReg k v).lenReads = s.lenReads := rfl
@[simp] theorem setReg_ptpTx (k : Nat) (v : W32) : (s.setReg k v).ptpTx = s.ptpTx := rfl
@[simp] theorem setReg_pmb (k : Nat) (v : W32) : (s.setReg k v).pmb = s.pmb := rfl
@[simp] theorem setReg_pulses (k : Nat) (v : W32) : (s.setReg k v).pulses = s.pulses := rfl
@[simp] theorem setReg_shpHist (k : Nat) (v : W32) : (s.setReg k v).shpHist = s.shpHist := rfl
@[simp] theorem setReg_drainRaw (k : Nat) (v : W32) : (s.setReg k v).drainRaw = s.drainRaw := rfl
@[simp] theorem setReg_rsto (k : Nat) (v : W32) : (s.setReg k v).rsto = s.rsto := rfl
@[simp] theorem setReg_stage (k : Nat) (v : W32) : (s.setReg k v).stage = s.stage := rfl
@[simp] theorem setReg_commit (k : Nat) (v : W32) : (s.setReg k v).commit = s.commit := rfl
@[simp] theorem setReg_khash (k : Nat) (v : W32) : (s.setReg k v).khash = s.khash := rfl
@[simp] theorem setReg_burn (k : Nat) (v : W32) : (s.setReg k v).burn = s.burn := rfl
@[simp] theorem setReg_boot (k : Nat) (v : W32) : (s.setReg k v).boot = s.boot := rfl
@[simp] theorem setReg_bootDormant (k : Nat) (v : W32) : (s.setReg k v).bootDormant = s.bootDormant := rfl
@[simp] theorem setReg_att (k : Nat) (v : W32) : (s.setReg k v).att = s.att := rfl
@[simp] theorem setReg_eng (k : Nat) (v : W32) : (s.setReg k v).eng = s.eng := rfl
@[simp] theorem setReg_gsm (k : Nat) (v : W32) : (s.setReg k v).gsm = s.gsm := rfl
@[simp] theorem setReg_bmon (k : Nat) (v : W32) : (s.setReg k v).bmon = s.bmon := rfl
@[simp] theorem setReg_thermtrip (k : Nat) (v : W32) : (s.setReg k v).thermtrip = s.thermtrip := rfl
@[simp] theorem setReg_tap (k : Nat) (v : W32) : (s.setReg k v).tap = s.tap := rfl

/-! ## put -/

@[simp] theorem put_pending (k hi lo v : Nat) : (s.put k hi lo v).pending = s.pending := rfl
@[simp] theorem put_kept (k hi lo v : Nat) : (s.put k hi lo v).kept = s.kept := rfl
@[simp] theorem put_time (k hi lo v : Nat) : (s.put k hi lo v).time = s.time := rfl
@[simp] theorem put_latch (k hi lo v : Nat) : (s.put k hi lo v).latch = s.latch := rfl
@[simp] theorem put_readData (k hi lo v : Nat) : (s.put k hi lo v).readData = s.readData := rfl
@[simp] theorem put_out (k hi lo v : Nat) : (s.put k hi lo v).out = s.out := rfl
@[simp] theorem put_free (k hi lo v : Nat) : (s.put k hi lo v).free = s.free := rfl
@[simp] theorem put_power (k hi lo v : Nat) : (s.put k hi lo v).power = s.power := rfl
@[simp] theorem put_quad (k hi lo v : Nat) : (s.put k hi lo v).quad = s.quad := rfl
@[simp] theorem put_resetting (k hi lo v : Nat) : (s.put k hi lo v).resetting = s.resetting := rfl
@[simp] theorem put_ejectHeld (k hi lo v : Nat) : (s.put k hi lo v).ejectHeld = s.ejectHeld := rfl
@[simp] theorem put_wide (k hi lo v : Nat) : (s.put k hi lo v).wide = s.wide := rfl
@[simp] theorem put_cgStop (k hi lo v : Nat) : (s.put k hi lo v).cgStop = s.cgStop := rfl
@[simp] theorem put_cgFault (k hi lo v : Nat) : (s.put k hi lo v).cgFault = s.cgFault := rfl
@[simp] theorem put_sagWarned (k hi lo v : Nat) : (s.put k hi lo v).sagWarned = s.sagWarned := rfl
@[simp] theorem put_sluice (k hi lo v : Nat) : (s.put k hi lo v).sluice = s.sluice := rfl
@[simp] theorem put_tiles (k hi lo v : Nat) : (s.put k hi lo v).tiles = s.tiles := rfl
@[simp] theorem put_mem (k hi lo v : Nat) : (s.put k hi lo v).mem = s.mem := rfl
@[simp] theorem put_pcie (k hi lo v : Nat) : (s.put k hi lo v).pcie = s.pcie := rfl
@[simp] theorem put_pump (k hi lo v : Nat) : (s.put k hi lo v).pump = s.pump := rfl
@[simp] theorem put_pumpBytes (k hi lo v : Nat) : (s.put k hi lo v).pumpBytes = s.pumpBytes := rfl
@[simp] theorem put_fyil (k hi lo v : Nat) : (s.put k hi lo v).fyil = s.fyil := rfl
@[simp] theorem put_memData (k hi lo v : Nat) : (s.put k hi lo v).memData = s.memData := rfl
@[simp] theorem put_memPoison (k hi lo v : Nat) : (s.put k hi lo v).memPoison = s.memPoison := rfl
@[simp] theorem put_memErr (k hi lo v : Nat) : (s.put k hi lo v).memErr = s.memErr := rfl
@[simp] theorem put_lanes (k hi lo v : Nat) : (s.put k hi lo v).lanes = s.lanes := rfl
@[simp] theorem put_links (k hi lo v : Nat) : (s.put k hi lo v).links = s.links := rfl
@[simp] theorem put_sends (k hi lo v : Nat) : (s.put k hi lo v).sends = s.sends := rfl
@[simp] theorem put_traceAt (k hi lo v : Nat) : (s.put k hi lo v).traceAt = s.traceAt := rfl
@[simp] theorem put_ethSeq (k hi lo v : Nat) : (s.put k hi lo v).ethSeq = s.ethSeq := rfl
@[simp] theorem put_ethLast (k hi lo v : Nat) : (s.put k hi lo v).ethLast = s.ethLast := rfl
@[simp] theorem put_hraceAt (k hi lo v : Nat) : (s.put k hi lo v).hraceAt = s.hraceAt := rfl
@[simp] theorem put_events (k hi lo v : Nat) : (s.put k hi lo v).events = s.events := rfl
@[simp] theorem put_pairs (k hi lo v : Nat) : (s.put k hi lo v).pairs = s.pairs := rfl
@[simp] theorem put_pairLo (k hi lo v : Nat) : (s.put k hi lo v).pairLo = s.pairLo := rfl
@[simp] theorem put_slotLate (k hi lo v : Nat) : (s.put k hi lo v).slotLate = s.slotLate := rfl
@[simp] theorem put_tsq (k hi lo v : Nat) : (s.put k hi lo v).tsq = s.tsq := rfl
@[simp] theorem put_tsPend (k hi lo v : Nat) : (s.put k hi lo v).tsPend = s.tsPend := rfl
@[simp] theorem put_lenReads (k hi lo v : Nat) : (s.put k hi lo v).lenReads = s.lenReads := rfl
@[simp] theorem put_ptpTx (k hi lo v : Nat) : (s.put k hi lo v).ptpTx = s.ptpTx := rfl
@[simp] theorem put_pmb (k hi lo v : Nat) : (s.put k hi lo v).pmb = s.pmb := rfl
@[simp] theorem put_pulses (k hi lo v : Nat) : (s.put k hi lo v).pulses = s.pulses := rfl
@[simp] theorem put_shpHist (k hi lo v : Nat) : (s.put k hi lo v).shpHist = s.shpHist := rfl
@[simp] theorem put_drainRaw (k hi lo v : Nat) : (s.put k hi lo v).drainRaw = s.drainRaw := rfl
@[simp] theorem put_rsto (k hi lo v : Nat) : (s.put k hi lo v).rsto = s.rsto := rfl
@[simp] theorem put_stage (k hi lo v : Nat) : (s.put k hi lo v).stage = s.stage := rfl
@[simp] theorem put_commit (k hi lo v : Nat) : (s.put k hi lo v).commit = s.commit := rfl
@[simp] theorem put_khash (k hi lo v : Nat) : (s.put k hi lo v).khash = s.khash := rfl
@[simp] theorem put_burn (k hi lo v : Nat) : (s.put k hi lo v).burn = s.burn := rfl
@[simp] theorem put_boot (k hi lo v : Nat) : (s.put k hi lo v).boot = s.boot := rfl
@[simp] theorem put_bootDormant (k hi lo v : Nat) : (s.put k hi lo v).bootDormant = s.bootDormant := rfl
@[simp] theorem put_att (k hi lo v : Nat) : (s.put k hi lo v).att = s.att := rfl
@[simp] theorem put_eng (k hi lo v : Nat) : (s.put k hi lo v).eng = s.eng := rfl
@[simp] theorem put_gsm (k hi lo v : Nat) : (s.put k hi lo v).gsm = s.gsm := rfl
@[simp] theorem put_bmon (k hi lo v : Nat) : (s.put k hi lo v).bmon = s.bmon := rfl
@[simp] theorem put_thermtrip (k hi lo v : Nat) : (s.put k hi lo v).thermtrip = s.thermtrip := rfl
@[simp] theorem put_tap (k hi lo v : Nat) : (s.put k hi lo v).tap = s.tap := rfl

/-! ## inc -/

@[simp] theorem inc_pending (k hi lo n : Nat) : (s.inc k hi lo n).pending = s.pending := rfl
@[simp] theorem inc_kept (k hi lo n : Nat) : (s.inc k hi lo n).kept = s.kept := rfl
@[simp] theorem inc_time (k hi lo n : Nat) : (s.inc k hi lo n).time = s.time := rfl
@[simp] theorem inc_latch (k hi lo n : Nat) : (s.inc k hi lo n).latch = s.latch := rfl
@[simp] theorem inc_readData (k hi lo n : Nat) : (s.inc k hi lo n).readData = s.readData := rfl
@[simp] theorem inc_out (k hi lo n : Nat) : (s.inc k hi lo n).out = s.out := rfl
@[simp] theorem inc_free (k hi lo n : Nat) : (s.inc k hi lo n).free = s.free := rfl
@[simp] theorem inc_power (k hi lo n : Nat) : (s.inc k hi lo n).power = s.power := rfl
@[simp] theorem inc_quad (k hi lo n : Nat) : (s.inc k hi lo n).quad = s.quad := rfl
@[simp] theorem inc_resetting (k hi lo n : Nat) : (s.inc k hi lo n).resetting = s.resetting := rfl
@[simp] theorem inc_ejectHeld (k hi lo n : Nat) : (s.inc k hi lo n).ejectHeld = s.ejectHeld := rfl
@[simp] theorem inc_wide (k hi lo n : Nat) : (s.inc k hi lo n).wide = s.wide := rfl
@[simp] theorem inc_cgStop (k hi lo n : Nat) : (s.inc k hi lo n).cgStop = s.cgStop := rfl
@[simp] theorem inc_cgFault (k hi lo n : Nat) : (s.inc k hi lo n).cgFault = s.cgFault := rfl
@[simp] theorem inc_sagWarned (k hi lo n : Nat) : (s.inc k hi lo n).sagWarned = s.sagWarned := rfl
@[simp] theorem inc_sluice (k hi lo n : Nat) : (s.inc k hi lo n).sluice = s.sluice := rfl
@[simp] theorem inc_tiles (k hi lo n : Nat) : (s.inc k hi lo n).tiles = s.tiles := rfl
@[simp] theorem inc_mem (k hi lo n : Nat) : (s.inc k hi lo n).mem = s.mem := rfl
@[simp] theorem inc_pcie (k hi lo n : Nat) : (s.inc k hi lo n).pcie = s.pcie := rfl
@[simp] theorem inc_pump (k hi lo n : Nat) : (s.inc k hi lo n).pump = s.pump := rfl
@[simp] theorem inc_pumpBytes (k hi lo n : Nat) : (s.inc k hi lo n).pumpBytes = s.pumpBytes := rfl
@[simp] theorem inc_fyil (k hi lo n : Nat) : (s.inc k hi lo n).fyil = s.fyil := rfl
@[simp] theorem inc_memData (k hi lo n : Nat) : (s.inc k hi lo n).memData = s.memData := rfl
@[simp] theorem inc_memPoison (k hi lo n : Nat) : (s.inc k hi lo n).memPoison = s.memPoison := rfl
@[simp] theorem inc_memErr (k hi lo n : Nat) : (s.inc k hi lo n).memErr = s.memErr := rfl
@[simp] theorem inc_lanes (k hi lo n : Nat) : (s.inc k hi lo n).lanes = s.lanes := rfl
@[simp] theorem inc_links (k hi lo n : Nat) : (s.inc k hi lo n).links = s.links := rfl
@[simp] theorem inc_sends (k hi lo n : Nat) : (s.inc k hi lo n).sends = s.sends := rfl
@[simp] theorem inc_traceAt (k hi lo n : Nat) : (s.inc k hi lo n).traceAt = s.traceAt := rfl
@[simp] theorem inc_ethSeq (k hi lo n : Nat) : (s.inc k hi lo n).ethSeq = s.ethSeq := rfl
@[simp] theorem inc_ethLast (k hi lo n : Nat) : (s.inc k hi lo n).ethLast = s.ethLast := rfl
@[simp] theorem inc_hraceAt (k hi lo n : Nat) : (s.inc k hi lo n).hraceAt = s.hraceAt := rfl
@[simp] theorem inc_events (k hi lo n : Nat) : (s.inc k hi lo n).events = s.events := rfl
@[simp] theorem inc_pairs (k hi lo n : Nat) : (s.inc k hi lo n).pairs = s.pairs := rfl
@[simp] theorem inc_pairLo (k hi lo n : Nat) : (s.inc k hi lo n).pairLo = s.pairLo := rfl
@[simp] theorem inc_slotLate (k hi lo n : Nat) : (s.inc k hi lo n).slotLate = s.slotLate := rfl
@[simp] theorem inc_tsq (k hi lo n : Nat) : (s.inc k hi lo n).tsq = s.tsq := rfl
@[simp] theorem inc_tsPend (k hi lo n : Nat) : (s.inc k hi lo n).tsPend = s.tsPend := rfl
@[simp] theorem inc_lenReads (k hi lo n : Nat) : (s.inc k hi lo n).lenReads = s.lenReads := rfl
@[simp] theorem inc_ptpTx (k hi lo n : Nat) : (s.inc k hi lo n).ptpTx = s.ptpTx := rfl
@[simp] theorem inc_pmb (k hi lo n : Nat) : (s.inc k hi lo n).pmb = s.pmb := rfl
@[simp] theorem inc_pulses (k hi lo n : Nat) : (s.inc k hi lo n).pulses = s.pulses := rfl
@[simp] theorem inc_shpHist (k hi lo n : Nat) : (s.inc k hi lo n).shpHist = s.shpHist := rfl
@[simp] theorem inc_drainRaw (k hi lo n : Nat) : (s.inc k hi lo n).drainRaw = s.drainRaw := rfl
@[simp] theorem inc_rsto (k hi lo n : Nat) : (s.inc k hi lo n).rsto = s.rsto := rfl
@[simp] theorem inc_stage (k hi lo n : Nat) : (s.inc k hi lo n).stage = s.stage := rfl
@[simp] theorem inc_commit (k hi lo n : Nat) : (s.inc k hi lo n).commit = s.commit := rfl
@[simp] theorem inc_khash (k hi lo n : Nat) : (s.inc k hi lo n).khash = s.khash := rfl
@[simp] theorem inc_burn (k hi lo n : Nat) : (s.inc k hi lo n).burn = s.burn := rfl
@[simp] theorem inc_boot (k hi lo n : Nat) : (s.inc k hi lo n).boot = s.boot := rfl
@[simp] theorem inc_bootDormant (k hi lo n : Nat) : (s.inc k hi lo n).bootDormant = s.bootDormant := rfl
@[simp] theorem inc_att (k hi lo n : Nat) : (s.inc k hi lo n).att = s.att := rfl
@[simp] theorem inc_eng (k hi lo n : Nat) : (s.inc k hi lo n).eng = s.eng := rfl
@[simp] theorem inc_gsm (k hi lo n : Nat) : (s.inc k hi lo n).gsm = s.gsm := rfl
@[simp] theorem inc_bmon (k hi lo n : Nat) : (s.inc k hi lo n).bmon = s.bmon := rfl
@[simp] theorem inc_thermtrip (k hi lo n : Nat) : (s.inc k hi lo n).thermtrip = s.thermtrip := rfl
@[simp] theorem inc_tap (k hi lo n : Nat) : (s.inc k hi lo n).tap = s.tap := rfl

/-! ## setReg64 -/

@[simp] theorem setReg64_pending (k : Nat) (v : W64) : (s.setReg64 k v).pending = s.pending := rfl
@[simp] theorem setReg64_kept (k : Nat) (v : W64) : (s.setReg64 k v).kept = s.kept := rfl
@[simp] theorem setReg64_time (k : Nat) (v : W64) : (s.setReg64 k v).time = s.time := rfl
@[simp] theorem setReg64_latch (k : Nat) (v : W64) : (s.setReg64 k v).latch = s.latch := rfl
@[simp] theorem setReg64_readData (k : Nat) (v : W64) : (s.setReg64 k v).readData = s.readData := rfl
@[simp] theorem setReg64_out (k : Nat) (v : W64) : (s.setReg64 k v).out = s.out := rfl
@[simp] theorem setReg64_free (k : Nat) (v : W64) : (s.setReg64 k v).free = s.free := rfl
@[simp] theorem setReg64_power (k : Nat) (v : W64) : (s.setReg64 k v).power = s.power := rfl
@[simp] theorem setReg64_quad (k : Nat) (v : W64) : (s.setReg64 k v).quad = s.quad := rfl
@[simp] theorem setReg64_resetting (k : Nat) (v : W64) : (s.setReg64 k v).resetting = s.resetting := rfl
@[simp] theorem setReg64_ejectHeld (k : Nat) (v : W64) : (s.setReg64 k v).ejectHeld = s.ejectHeld := rfl
@[simp] theorem setReg64_wide (k : Nat) (v : W64) : (s.setReg64 k v).wide = s.wide := rfl
@[simp] theorem setReg64_cgStop (k : Nat) (v : W64) : (s.setReg64 k v).cgStop = s.cgStop := rfl
@[simp] theorem setReg64_cgFault (k : Nat) (v : W64) : (s.setReg64 k v).cgFault = s.cgFault := rfl
@[simp] theorem setReg64_sagWarned (k : Nat) (v : W64) : (s.setReg64 k v).sagWarned = s.sagWarned := rfl
@[simp] theorem setReg64_sluice (k : Nat) (v : W64) : (s.setReg64 k v).sluice = s.sluice := rfl
@[simp] theorem setReg64_tiles (k : Nat) (v : W64) : (s.setReg64 k v).tiles = s.tiles := rfl
@[simp] theorem setReg64_mem (k : Nat) (v : W64) : (s.setReg64 k v).mem = s.mem := rfl
@[simp] theorem setReg64_pcie (k : Nat) (v : W64) : (s.setReg64 k v).pcie = s.pcie := rfl
@[simp] theorem setReg64_pump (k : Nat) (v : W64) : (s.setReg64 k v).pump = s.pump := rfl
@[simp] theorem setReg64_pumpBytes (k : Nat) (v : W64) : (s.setReg64 k v).pumpBytes = s.pumpBytes := rfl
@[simp] theorem setReg64_fyil (k : Nat) (v : W64) : (s.setReg64 k v).fyil = s.fyil := rfl
@[simp] theorem setReg64_memData (k : Nat) (v : W64) : (s.setReg64 k v).memData = s.memData := rfl
@[simp] theorem setReg64_memPoison (k : Nat) (v : W64) : (s.setReg64 k v).memPoison = s.memPoison := rfl
@[simp] theorem setReg64_memErr (k : Nat) (v : W64) : (s.setReg64 k v).memErr = s.memErr := rfl
@[simp] theorem setReg64_lanes (k : Nat) (v : W64) : (s.setReg64 k v).lanes = s.lanes := rfl
@[simp] theorem setReg64_links (k : Nat) (v : W64) : (s.setReg64 k v).links = s.links := rfl
@[simp] theorem setReg64_sends (k : Nat) (v : W64) : (s.setReg64 k v).sends = s.sends := rfl
@[simp] theorem setReg64_traceAt (k : Nat) (v : W64) : (s.setReg64 k v).traceAt = s.traceAt := rfl
@[simp] theorem setReg64_ethSeq (k : Nat) (v : W64) : (s.setReg64 k v).ethSeq = s.ethSeq := rfl
@[simp] theorem setReg64_ethLast (k : Nat) (v : W64) : (s.setReg64 k v).ethLast = s.ethLast := rfl
@[simp] theorem setReg64_hraceAt (k : Nat) (v : W64) : (s.setReg64 k v).hraceAt = s.hraceAt := rfl
@[simp] theorem setReg64_events (k : Nat) (v : W64) : (s.setReg64 k v).events = s.events := rfl
@[simp] theorem setReg64_pairs (k : Nat) (v : W64) : (s.setReg64 k v).pairs = s.pairs := rfl
@[simp] theorem setReg64_pairLo (k : Nat) (v : W64) : (s.setReg64 k v).pairLo = s.pairLo := rfl
@[simp] theorem setReg64_slotLate (k : Nat) (v : W64) : (s.setReg64 k v).slotLate = s.slotLate := rfl
@[simp] theorem setReg64_tsq (k : Nat) (v : W64) : (s.setReg64 k v).tsq = s.tsq := rfl
@[simp] theorem setReg64_tsPend (k : Nat) (v : W64) : (s.setReg64 k v).tsPend = s.tsPend := rfl
@[simp] theorem setReg64_lenReads (k : Nat) (v : W64) : (s.setReg64 k v).lenReads = s.lenReads := rfl
@[simp] theorem setReg64_ptpTx (k : Nat) (v : W64) : (s.setReg64 k v).ptpTx = s.ptpTx := rfl
@[simp] theorem setReg64_pmb (k : Nat) (v : W64) : (s.setReg64 k v).pmb = s.pmb := rfl
@[simp] theorem setReg64_pulses (k : Nat) (v : W64) : (s.setReg64 k v).pulses = s.pulses := rfl
@[simp] theorem setReg64_shpHist (k : Nat) (v : W64) : (s.setReg64 k v).shpHist = s.shpHist := rfl
@[simp] theorem setReg64_drainRaw (k : Nat) (v : W64) : (s.setReg64 k v).drainRaw = s.drainRaw := rfl
@[simp] theorem setReg64_rsto (k : Nat) (v : W64) : (s.setReg64 k v).rsto = s.rsto := rfl
@[simp] theorem setReg64_stage (k : Nat) (v : W64) : (s.setReg64 k v).stage = s.stage := rfl
@[simp] theorem setReg64_commit (k : Nat) (v : W64) : (s.setReg64 k v).commit = s.commit := rfl
@[simp] theorem setReg64_khash (k : Nat) (v : W64) : (s.setReg64 k v).khash = s.khash := rfl
@[simp] theorem setReg64_burn (k : Nat) (v : W64) : (s.setReg64 k v).burn = s.burn := rfl
@[simp] theorem setReg64_boot (k : Nat) (v : W64) : (s.setReg64 k v).boot = s.boot := rfl
@[simp] theorem setReg64_bootDormant (k : Nat) (v : W64) : (s.setReg64 k v).bootDormant = s.bootDormant := rfl
@[simp] theorem setReg64_att (k : Nat) (v : W64) : (s.setReg64 k v).att = s.att := rfl
@[simp] theorem setReg64_eng (k : Nat) (v : W64) : (s.setReg64 k v).eng = s.eng := rfl
@[simp] theorem setReg64_gsm (k : Nat) (v : W64) : (s.setReg64 k v).gsm = s.gsm := rfl
@[simp] theorem setReg64_bmon (k : Nat) (v : W64) : (s.setReg64 k v).bmon = s.bmon := rfl
@[simp] theorem setReg64_thermtrip (k : Nat) (v : W64) : (s.setReg64 k v).thermtrip = s.thermtrip := rfl
@[simp] theorem setReg64_tap (k : Nat) (v : W64) : (s.setReg64 k v).tap = s.tap := rfl

/-! ## emit -/

@[simp] theorem emit_pending (o : Output) : (s.emit o).pending = s.pending := rfl
@[simp] theorem emit_kept (o : Output) : (s.emit o).kept = s.kept := rfl
@[simp] theorem emit_time (o : Output) : (s.emit o).time = s.time := rfl
@[simp] theorem emit_regs (o : Output) : (s.emit o).regs = s.regs := rfl
@[simp] theorem emit_latch (o : Output) : (s.emit o).latch = s.latch := rfl
@[simp] theorem emit_readData (o : Output) : (s.emit o).readData = s.readData := rfl
@[simp] theorem emit_free (o : Output) : (s.emit o).free = s.free := rfl
@[simp] theorem emit_power (o : Output) : (s.emit o).power = s.power := rfl
@[simp] theorem emit_quad (o : Output) : (s.emit o).quad = s.quad := rfl
@[simp] theorem emit_resetting (o : Output) : (s.emit o).resetting = s.resetting := rfl
@[simp] theorem emit_ejectHeld (o : Output) : (s.emit o).ejectHeld = s.ejectHeld := rfl
@[simp] theorem emit_wide (o : Output) : (s.emit o).wide = s.wide := rfl
@[simp] theorem emit_cgStop (o : Output) : (s.emit o).cgStop = s.cgStop := rfl
@[simp] theorem emit_cgFault (o : Output) : (s.emit o).cgFault = s.cgFault := rfl
@[simp] theorem emit_sagWarned (o : Output) : (s.emit o).sagWarned = s.sagWarned := rfl
@[simp] theorem emit_sluice (o : Output) : (s.emit o).sluice = s.sluice := rfl
@[simp] theorem emit_tiles (o : Output) : (s.emit o).tiles = s.tiles := rfl
@[simp] theorem emit_mem (o : Output) : (s.emit o).mem = s.mem := rfl
@[simp] theorem emit_pcie (o : Output) : (s.emit o).pcie = s.pcie := rfl
@[simp] theorem emit_pump (o : Output) : (s.emit o).pump = s.pump := rfl
@[simp] theorem emit_pumpBytes (o : Output) : (s.emit o).pumpBytes = s.pumpBytes := rfl
@[simp] theorem emit_fyil (o : Output) : (s.emit o).fyil = s.fyil := rfl
@[simp] theorem emit_memData (o : Output) : (s.emit o).memData = s.memData := rfl
@[simp] theorem emit_memPoison (o : Output) : (s.emit o).memPoison = s.memPoison := rfl
@[simp] theorem emit_memErr (o : Output) : (s.emit o).memErr = s.memErr := rfl
@[simp] theorem emit_lanes (o : Output) : (s.emit o).lanes = s.lanes := rfl
@[simp] theorem emit_links (o : Output) : (s.emit o).links = s.links := rfl
@[simp] theorem emit_sends (o : Output) : (s.emit o).sends = s.sends := rfl
@[simp] theorem emit_traceAt (o : Output) : (s.emit o).traceAt = s.traceAt := rfl
@[simp] theorem emit_ethSeq (o : Output) : (s.emit o).ethSeq = s.ethSeq := rfl
@[simp] theorem emit_ethLast (o : Output) : (s.emit o).ethLast = s.ethLast := rfl
@[simp] theorem emit_hraceAt (o : Output) : (s.emit o).hraceAt = s.hraceAt := rfl
@[simp] theorem emit_events (o : Output) : (s.emit o).events = s.events := rfl
@[simp] theorem emit_pairs (o : Output) : (s.emit o).pairs = s.pairs := rfl
@[simp] theorem emit_pairLo (o : Output) : (s.emit o).pairLo = s.pairLo := rfl
@[simp] theorem emit_slotLate (o : Output) : (s.emit o).slotLate = s.slotLate := rfl
@[simp] theorem emit_tsq (o : Output) : (s.emit o).tsq = s.tsq := rfl
@[simp] theorem emit_tsPend (o : Output) : (s.emit o).tsPend = s.tsPend := rfl
@[simp] theorem emit_lenReads (o : Output) : (s.emit o).lenReads = s.lenReads := rfl
@[simp] theorem emit_ptpTx (o : Output) : (s.emit o).ptpTx = s.ptpTx := rfl
@[simp] theorem emit_pmb (o : Output) : (s.emit o).pmb = s.pmb := rfl
@[simp] theorem emit_pulses (o : Output) : (s.emit o).pulses = s.pulses := rfl
@[simp] theorem emit_shpHist (o : Output) : (s.emit o).shpHist = s.shpHist := rfl
@[simp] theorem emit_drainRaw (o : Output) : (s.emit o).drainRaw = s.drainRaw := rfl
@[simp] theorem emit_rsto (o : Output) : (s.emit o).rsto = s.rsto := rfl
@[simp] theorem emit_stage (o : Output) : (s.emit o).stage = s.stage := rfl
@[simp] theorem emit_commit (o : Output) : (s.emit o).commit = s.commit := rfl
@[simp] theorem emit_khash (o : Output) : (s.emit o).khash = s.khash := rfl
@[simp] theorem emit_burn (o : Output) : (s.emit o).burn = s.burn := rfl
@[simp] theorem emit_boot (o : Output) : (s.emit o).boot = s.boot := rfl
@[simp] theorem emit_bootDormant (o : Output) : (s.emit o).bootDormant = s.bootDormant := rfl
@[simp] theorem emit_att (o : Output) : (s.emit o).att = s.att := rfl
@[simp] theorem emit_eng (o : Output) : (s.emit o).eng = s.eng := rfl
@[simp] theorem emit_gsm (o : Output) : (s.emit o).gsm = s.gsm := rfl
@[simp] theorem emit_bmon (o : Output) : (s.emit o).bmon = s.bmon := rfl
@[simp] theorem emit_thermtrip (o : Output) : (s.emit o).thermtrip = s.thermtrip := rfl
@[simp] theorem emit_tap (o : Output) : (s.emit o).tap = s.tap := rfl

/-! ## setSlot -/

@[simp] theorem setSlot_pending (k : Nat) (x : PowerSlot) : (s.setSlot k x).pending = s.pending := rfl
@[simp] theorem setSlot_kept (k : Nat) (x : PowerSlot) : (s.setSlot k x).kept = s.kept := rfl
@[simp] theorem setSlot_time (k : Nat) (x : PowerSlot) : (s.setSlot k x).time = s.time := rfl
@[simp] theorem setSlot_regs (k : Nat) (x : PowerSlot) : (s.setSlot k x).regs = s.regs := rfl
@[simp] theorem setSlot_latch (k : Nat) (x : PowerSlot) : (s.setSlot k x).latch = s.latch := rfl
@[simp] theorem setSlot_readData (k : Nat) (x : PowerSlot) : (s.setSlot k x).readData = s.readData := rfl
@[simp] theorem setSlot_out (k : Nat) (x : PowerSlot) : (s.setSlot k x).out = s.out := rfl
@[simp] theorem setSlot_free (k : Nat) (x : PowerSlot) : (s.setSlot k x).free = s.free := rfl
@[simp] theorem setSlot_quad (k : Nat) (x : PowerSlot) : (s.setSlot k x).quad = s.quad := rfl
@[simp] theorem setSlot_resetting (k : Nat) (x : PowerSlot) : (s.setSlot k x).resetting = s.resetting := rfl
@[simp] theorem setSlot_ejectHeld (k : Nat) (x : PowerSlot) : (s.setSlot k x).ejectHeld = s.ejectHeld := rfl
@[simp] theorem setSlot_wide (k : Nat) (x : PowerSlot) : (s.setSlot k x).wide = s.wide := rfl
@[simp] theorem setSlot_cgStop (k : Nat) (x : PowerSlot) : (s.setSlot k x).cgStop = s.cgStop := rfl
@[simp] theorem setSlot_cgFault (k : Nat) (x : PowerSlot) : (s.setSlot k x).cgFault = s.cgFault := rfl
@[simp] theorem setSlot_sagWarned (k : Nat) (x : PowerSlot) : (s.setSlot k x).sagWarned = s.sagWarned := rfl
@[simp] theorem setSlot_sluice (k : Nat) (x : PowerSlot) : (s.setSlot k x).sluice = s.sluice := rfl
@[simp] theorem setSlot_tiles (k : Nat) (x : PowerSlot) : (s.setSlot k x).tiles = s.tiles := rfl
@[simp] theorem setSlot_mem (k : Nat) (x : PowerSlot) : (s.setSlot k x).mem = s.mem := rfl
@[simp] theorem setSlot_pcie (k : Nat) (x : PowerSlot) : (s.setSlot k x).pcie = s.pcie := rfl
@[simp] theorem setSlot_pump (k : Nat) (x : PowerSlot) : (s.setSlot k x).pump = s.pump := rfl
@[simp] theorem setSlot_pumpBytes (k : Nat) (x : PowerSlot) : (s.setSlot k x).pumpBytes = s.pumpBytes := rfl
@[simp] theorem setSlot_fyil (k : Nat) (x : PowerSlot) : (s.setSlot k x).fyil = s.fyil := rfl
@[simp] theorem setSlot_memData (k : Nat) (x : PowerSlot) : (s.setSlot k x).memData = s.memData := rfl
@[simp] theorem setSlot_memPoison (k : Nat) (x : PowerSlot) : (s.setSlot k x).memPoison = s.memPoison := rfl
@[simp] theorem setSlot_memErr (k : Nat) (x : PowerSlot) : (s.setSlot k x).memErr = s.memErr := rfl
@[simp] theorem setSlot_lanes (k : Nat) (x : PowerSlot) : (s.setSlot k x).lanes = s.lanes := rfl
@[simp] theorem setSlot_links (k : Nat) (x : PowerSlot) : (s.setSlot k x).links = s.links := rfl
@[simp] theorem setSlot_sends (k : Nat) (x : PowerSlot) : (s.setSlot k x).sends = s.sends := rfl
@[simp] theorem setSlot_traceAt (k : Nat) (x : PowerSlot) : (s.setSlot k x).traceAt = s.traceAt := rfl
@[simp] theorem setSlot_ethSeq (k : Nat) (x : PowerSlot) : (s.setSlot k x).ethSeq = s.ethSeq := rfl
@[simp] theorem setSlot_ethLast (k : Nat) (x : PowerSlot) : (s.setSlot k x).ethLast = s.ethLast := rfl
@[simp] theorem setSlot_hraceAt (k : Nat) (x : PowerSlot) : (s.setSlot k x).hraceAt = s.hraceAt := rfl
@[simp] theorem setSlot_events (k : Nat) (x : PowerSlot) : (s.setSlot k x).events = s.events := rfl
@[simp] theorem setSlot_pairs (k : Nat) (x : PowerSlot) : (s.setSlot k x).pairs = s.pairs := rfl
@[simp] theorem setSlot_pairLo (k : Nat) (x : PowerSlot) : (s.setSlot k x).pairLo = s.pairLo := rfl
@[simp] theorem setSlot_slotLate (k : Nat) (x : PowerSlot) : (s.setSlot k x).slotLate = s.slotLate := rfl
@[simp] theorem setSlot_tsq (k : Nat) (x : PowerSlot) : (s.setSlot k x).tsq = s.tsq := rfl
@[simp] theorem setSlot_tsPend (k : Nat) (x : PowerSlot) : (s.setSlot k x).tsPend = s.tsPend := rfl
@[simp] theorem setSlot_lenReads (k : Nat) (x : PowerSlot) : (s.setSlot k x).lenReads = s.lenReads := rfl
@[simp] theorem setSlot_ptpTx (k : Nat) (x : PowerSlot) : (s.setSlot k x).ptpTx = s.ptpTx := rfl
@[simp] theorem setSlot_pmb (k : Nat) (x : PowerSlot) : (s.setSlot k x).pmb = s.pmb := rfl
@[simp] theorem setSlot_pulses (k : Nat) (x : PowerSlot) : (s.setSlot k x).pulses = s.pulses := rfl
@[simp] theorem setSlot_shpHist (k : Nat) (x : PowerSlot) : (s.setSlot k x).shpHist = s.shpHist := rfl
@[simp] theorem setSlot_drainRaw (k : Nat) (x : PowerSlot) : (s.setSlot k x).drainRaw = s.drainRaw := rfl
@[simp] theorem setSlot_rsto (k : Nat) (x : PowerSlot) : (s.setSlot k x).rsto = s.rsto := rfl
@[simp] theorem setSlot_stage (k : Nat) (x : PowerSlot) : (s.setSlot k x).stage = s.stage := rfl
@[simp] theorem setSlot_commit (k : Nat) (x : PowerSlot) : (s.setSlot k x).commit = s.commit := rfl
@[simp] theorem setSlot_khash (k : Nat) (x : PowerSlot) : (s.setSlot k x).khash = s.khash := rfl
@[simp] theorem setSlot_burn (k : Nat) (x : PowerSlot) : (s.setSlot k x).burn = s.burn := rfl
@[simp] theorem setSlot_boot (k : Nat) (x : PowerSlot) : (s.setSlot k x).boot = s.boot := rfl
@[simp] theorem setSlot_bootDormant (k : Nat) (x : PowerSlot) : (s.setSlot k x).bootDormant = s.bootDormant := rfl
@[simp] theorem setSlot_att (k : Nat) (x : PowerSlot) : (s.setSlot k x).att = s.att := rfl
@[simp] theorem setSlot_eng (k : Nat) (x : PowerSlot) : (s.setSlot k x).eng = s.eng := rfl
@[simp] theorem setSlot_gsm (k : Nat) (x : PowerSlot) : (s.setSlot k x).gsm = s.gsm := rfl
@[simp] theorem setSlot_bmon (k : Nat) (x : PowerSlot) : (s.setSlot k x).bmon = s.bmon := rfl
@[simp] theorem setSlot_thermtrip (k : Nat) (x : PowerSlot) : (s.setSlot k x).thermtrip = s.thermtrip := rfl
@[simp] theorem setSlot_tap (k : Nat) (x : PowerSlot) : (s.setSlot k x).tap = s.tap := rfl

/-! ## setQuad -/

@[simp] theorem setQuad_pending (q : Nat) (x : QuadSt) : (s.setQuad q x).pending = s.pending := rfl
@[simp] theorem setQuad_kept (q : Nat) (x : QuadSt) : (s.setQuad q x).kept = s.kept := rfl
@[simp] theorem setQuad_time (q : Nat) (x : QuadSt) : (s.setQuad q x).time = s.time := rfl
@[simp] theorem setQuad_regs (q : Nat) (x : QuadSt) : (s.setQuad q x).regs = s.regs := rfl
@[simp] theorem setQuad_latch (q : Nat) (x : QuadSt) : (s.setQuad q x).latch = s.latch := rfl
@[simp] theorem setQuad_readData (q : Nat) (x : QuadSt) : (s.setQuad q x).readData = s.readData := rfl
@[simp] theorem setQuad_out (q : Nat) (x : QuadSt) : (s.setQuad q x).out = s.out := rfl
@[simp] theorem setQuad_free (q : Nat) (x : QuadSt) : (s.setQuad q x).free = s.free := rfl
@[simp] theorem setQuad_power (q : Nat) (x : QuadSt) : (s.setQuad q x).power = s.power := rfl
@[simp] theorem setQuad_resetting (q : Nat) (x : QuadSt) : (s.setQuad q x).resetting = s.resetting := rfl
@[simp] theorem setQuad_ejectHeld (q : Nat) (x : QuadSt) : (s.setQuad q x).ejectHeld = s.ejectHeld := rfl
@[simp] theorem setQuad_wide (q : Nat) (x : QuadSt) : (s.setQuad q x).wide = s.wide := rfl
@[simp] theorem setQuad_cgStop (q : Nat) (x : QuadSt) : (s.setQuad q x).cgStop = s.cgStop := rfl
@[simp] theorem setQuad_cgFault (q : Nat) (x : QuadSt) : (s.setQuad q x).cgFault = s.cgFault := rfl
@[simp] theorem setQuad_sagWarned (q : Nat) (x : QuadSt) : (s.setQuad q x).sagWarned = s.sagWarned := rfl
@[simp] theorem setQuad_sluice (q : Nat) (x : QuadSt) : (s.setQuad q x).sluice = s.sluice := rfl
@[simp] theorem setQuad_tiles (q : Nat) (x : QuadSt) : (s.setQuad q x).tiles = s.tiles := rfl
@[simp] theorem setQuad_mem (q : Nat) (x : QuadSt) : (s.setQuad q x).mem = s.mem := rfl
@[simp] theorem setQuad_pcie (q : Nat) (x : QuadSt) : (s.setQuad q x).pcie = s.pcie := rfl
@[simp] theorem setQuad_pump (q : Nat) (x : QuadSt) : (s.setQuad q x).pump = s.pump := rfl
@[simp] theorem setQuad_pumpBytes (q : Nat) (x : QuadSt) : (s.setQuad q x).pumpBytes = s.pumpBytes := rfl
@[simp] theorem setQuad_fyil (q : Nat) (x : QuadSt) : (s.setQuad q x).fyil = s.fyil := rfl
@[simp] theorem setQuad_memData (q : Nat) (x : QuadSt) : (s.setQuad q x).memData = s.memData := rfl
@[simp] theorem setQuad_memPoison (q : Nat) (x : QuadSt) : (s.setQuad q x).memPoison = s.memPoison := rfl
@[simp] theorem setQuad_memErr (q : Nat) (x : QuadSt) : (s.setQuad q x).memErr = s.memErr := rfl
@[simp] theorem setQuad_lanes (q : Nat) (x : QuadSt) : (s.setQuad q x).lanes = s.lanes := rfl
@[simp] theorem setQuad_links (q : Nat) (x : QuadSt) : (s.setQuad q x).links = s.links := rfl
@[simp] theorem setQuad_sends (q : Nat) (x : QuadSt) : (s.setQuad q x).sends = s.sends := rfl
@[simp] theorem setQuad_traceAt (q : Nat) (x : QuadSt) : (s.setQuad q x).traceAt = s.traceAt := rfl
@[simp] theorem setQuad_ethSeq (q : Nat) (x : QuadSt) : (s.setQuad q x).ethSeq = s.ethSeq := rfl
@[simp] theorem setQuad_ethLast (q : Nat) (x : QuadSt) : (s.setQuad q x).ethLast = s.ethLast := rfl
@[simp] theorem setQuad_hraceAt (q : Nat) (x : QuadSt) : (s.setQuad q x).hraceAt = s.hraceAt := rfl
@[simp] theorem setQuad_events (q : Nat) (x : QuadSt) : (s.setQuad q x).events = s.events := rfl
@[simp] theorem setQuad_pairs (q : Nat) (x : QuadSt) : (s.setQuad q x).pairs = s.pairs := rfl
@[simp] theorem setQuad_pairLo (q : Nat) (x : QuadSt) : (s.setQuad q x).pairLo = s.pairLo := rfl
@[simp] theorem setQuad_slotLate (q : Nat) (x : QuadSt) : (s.setQuad q x).slotLate = s.slotLate := rfl
@[simp] theorem setQuad_tsq (q : Nat) (x : QuadSt) : (s.setQuad q x).tsq = s.tsq := rfl
@[simp] theorem setQuad_tsPend (q : Nat) (x : QuadSt) : (s.setQuad q x).tsPend = s.tsPend := rfl
@[simp] theorem setQuad_lenReads (q : Nat) (x : QuadSt) : (s.setQuad q x).lenReads = s.lenReads := rfl
@[simp] theorem setQuad_ptpTx (q : Nat) (x : QuadSt) : (s.setQuad q x).ptpTx = s.ptpTx := rfl
@[simp] theorem setQuad_pmb (q : Nat) (x : QuadSt) : (s.setQuad q x).pmb = s.pmb := rfl
@[simp] theorem setQuad_pulses (q : Nat) (x : QuadSt) : (s.setQuad q x).pulses = s.pulses := rfl
@[simp] theorem setQuad_shpHist (q : Nat) (x : QuadSt) : (s.setQuad q x).shpHist = s.shpHist := rfl
@[simp] theorem setQuad_drainRaw (q : Nat) (x : QuadSt) : (s.setQuad q x).drainRaw = s.drainRaw := rfl
@[simp] theorem setQuad_rsto (q : Nat) (x : QuadSt) : (s.setQuad q x).rsto = s.rsto := rfl
@[simp] theorem setQuad_stage (q : Nat) (x : QuadSt) : (s.setQuad q x).stage = s.stage := rfl
@[simp] theorem setQuad_commit (q : Nat) (x : QuadSt) : (s.setQuad q x).commit = s.commit := rfl
@[simp] theorem setQuad_khash (q : Nat) (x : QuadSt) : (s.setQuad q x).khash = s.khash := rfl
@[simp] theorem setQuad_burn (q : Nat) (x : QuadSt) : (s.setQuad q x).burn = s.burn := rfl
@[simp] theorem setQuad_boot (q : Nat) (x : QuadSt) : (s.setQuad q x).boot = s.boot := rfl
@[simp] theorem setQuad_bootDormant (q : Nat) (x : QuadSt) : (s.setQuad q x).bootDormant = s.bootDormant := rfl
@[simp] theorem setQuad_att (q : Nat) (x : QuadSt) : (s.setQuad q x).att = s.att := rfl
@[simp] theorem setQuad_eng (q : Nat) (x : QuadSt) : (s.setQuad q x).eng = s.eng := rfl
@[simp] theorem setQuad_gsm (q : Nat) (x : QuadSt) : (s.setQuad q x).gsm = s.gsm := rfl
@[simp] theorem setQuad_bmon (q : Nat) (x : QuadSt) : (s.setQuad q x).bmon = s.bmon := rfl
@[simp] theorem setQuad_thermtrip (q : Nat) (x : QuadSt) : (s.setQuad q x).thermtrip = s.thermtrip := rfl
@[simp] theorem setQuad_tap (q : Nat) (x : QuadSt) : (s.setQuad q x).tap = s.tap := rfl

/-! ## setPmb -/

@[simp] theorem setPmb_pending (b : Nat) (x : PmbSt) : (s.setPmb b x).pending = s.pending := rfl
@[simp] theorem setPmb_kept (b : Nat) (x : PmbSt) : (s.setPmb b x).kept = s.kept := rfl
@[simp] theorem setPmb_time (b : Nat) (x : PmbSt) : (s.setPmb b x).time = s.time := rfl
@[simp] theorem setPmb_regs (b : Nat) (x : PmbSt) : (s.setPmb b x).regs = s.regs := rfl
@[simp] theorem setPmb_latch (b : Nat) (x : PmbSt) : (s.setPmb b x).latch = s.latch := rfl
@[simp] theorem setPmb_readData (b : Nat) (x : PmbSt) : (s.setPmb b x).readData = s.readData := rfl
@[simp] theorem setPmb_out (b : Nat) (x : PmbSt) : (s.setPmb b x).out = s.out := rfl
@[simp] theorem setPmb_free (b : Nat) (x : PmbSt) : (s.setPmb b x).free = s.free := rfl
@[simp] theorem setPmb_power (b : Nat) (x : PmbSt) : (s.setPmb b x).power = s.power := rfl
@[simp] theorem setPmb_quad (b : Nat) (x : PmbSt) : (s.setPmb b x).quad = s.quad := rfl
@[simp] theorem setPmb_resetting (b : Nat) (x : PmbSt) : (s.setPmb b x).resetting = s.resetting := rfl
@[simp] theorem setPmb_ejectHeld (b : Nat) (x : PmbSt) : (s.setPmb b x).ejectHeld = s.ejectHeld := rfl
@[simp] theorem setPmb_wide (b : Nat) (x : PmbSt) : (s.setPmb b x).wide = s.wide := rfl
@[simp] theorem setPmb_cgStop (b : Nat) (x : PmbSt) : (s.setPmb b x).cgStop = s.cgStop := rfl
@[simp] theorem setPmb_cgFault (b : Nat) (x : PmbSt) : (s.setPmb b x).cgFault = s.cgFault := rfl
@[simp] theorem setPmb_sagWarned (b : Nat) (x : PmbSt) : (s.setPmb b x).sagWarned = s.sagWarned := rfl
@[simp] theorem setPmb_sluice (b : Nat) (x : PmbSt) : (s.setPmb b x).sluice = s.sluice := rfl
@[simp] theorem setPmb_tiles (b : Nat) (x : PmbSt) : (s.setPmb b x).tiles = s.tiles := rfl
@[simp] theorem setPmb_mem (b : Nat) (x : PmbSt) : (s.setPmb b x).mem = s.mem := rfl
@[simp] theorem setPmb_pcie (b : Nat) (x : PmbSt) : (s.setPmb b x).pcie = s.pcie := rfl
@[simp] theorem setPmb_pump (b : Nat) (x : PmbSt) : (s.setPmb b x).pump = s.pump := rfl
@[simp] theorem setPmb_pumpBytes (b : Nat) (x : PmbSt) : (s.setPmb b x).pumpBytes = s.pumpBytes := rfl
@[simp] theorem setPmb_fyil (b : Nat) (x : PmbSt) : (s.setPmb b x).fyil = s.fyil := rfl
@[simp] theorem setPmb_memData (b : Nat) (x : PmbSt) : (s.setPmb b x).memData = s.memData := rfl
@[simp] theorem setPmb_memPoison (b : Nat) (x : PmbSt) : (s.setPmb b x).memPoison = s.memPoison := rfl
@[simp] theorem setPmb_memErr (b : Nat) (x : PmbSt) : (s.setPmb b x).memErr = s.memErr := rfl
@[simp] theorem setPmb_lanes (b : Nat) (x : PmbSt) : (s.setPmb b x).lanes = s.lanes := rfl
@[simp] theorem setPmb_links (b : Nat) (x : PmbSt) : (s.setPmb b x).links = s.links := rfl
@[simp] theorem setPmb_sends (b : Nat) (x : PmbSt) : (s.setPmb b x).sends = s.sends := rfl
@[simp] theorem setPmb_traceAt (b : Nat) (x : PmbSt) : (s.setPmb b x).traceAt = s.traceAt := rfl
@[simp] theorem setPmb_ethSeq (b : Nat) (x : PmbSt) : (s.setPmb b x).ethSeq = s.ethSeq := rfl
@[simp] theorem setPmb_ethLast (b : Nat) (x : PmbSt) : (s.setPmb b x).ethLast = s.ethLast := rfl
@[simp] theorem setPmb_hraceAt (b : Nat) (x : PmbSt) : (s.setPmb b x).hraceAt = s.hraceAt := rfl
@[simp] theorem setPmb_events (b : Nat) (x : PmbSt) : (s.setPmb b x).events = s.events := rfl
@[simp] theorem setPmb_pairs (b : Nat) (x : PmbSt) : (s.setPmb b x).pairs = s.pairs := rfl
@[simp] theorem setPmb_pairLo (b : Nat) (x : PmbSt) : (s.setPmb b x).pairLo = s.pairLo := rfl
@[simp] theorem setPmb_slotLate (b : Nat) (x : PmbSt) : (s.setPmb b x).slotLate = s.slotLate := rfl
@[simp] theorem setPmb_tsq (b : Nat) (x : PmbSt) : (s.setPmb b x).tsq = s.tsq := rfl
@[simp] theorem setPmb_tsPend (b : Nat) (x : PmbSt) : (s.setPmb b x).tsPend = s.tsPend := rfl
@[simp] theorem setPmb_lenReads (b : Nat) (x : PmbSt) : (s.setPmb b x).lenReads = s.lenReads := rfl
@[simp] theorem setPmb_ptpTx (b : Nat) (x : PmbSt) : (s.setPmb b x).ptpTx = s.ptpTx := rfl
@[simp] theorem setPmb_pulses (b : Nat) (x : PmbSt) : (s.setPmb b x).pulses = s.pulses := rfl
@[simp] theorem setPmb_shpHist (b : Nat) (x : PmbSt) : (s.setPmb b x).shpHist = s.shpHist := rfl
@[simp] theorem setPmb_drainRaw (b : Nat) (x : PmbSt) : (s.setPmb b x).drainRaw = s.drainRaw := rfl
@[simp] theorem setPmb_rsto (b : Nat) (x : PmbSt) : (s.setPmb b x).rsto = s.rsto := rfl
@[simp] theorem setPmb_stage (b : Nat) (x : PmbSt) : (s.setPmb b x).stage = s.stage := rfl
@[simp] theorem setPmb_commit (b : Nat) (x : PmbSt) : (s.setPmb b x).commit = s.commit := rfl
@[simp] theorem setPmb_khash (b : Nat) (x : PmbSt) : (s.setPmb b x).khash = s.khash := rfl
@[simp] theorem setPmb_burn (b : Nat) (x : PmbSt) : (s.setPmb b x).burn = s.burn := rfl
@[simp] theorem setPmb_boot (b : Nat) (x : PmbSt) : (s.setPmb b x).boot = s.boot := rfl
@[simp] theorem setPmb_bootDormant (b : Nat) (x : PmbSt) : (s.setPmb b x).bootDormant = s.bootDormant := rfl
@[simp] theorem setPmb_att (b : Nat) (x : PmbSt) : (s.setPmb b x).att = s.att := rfl
@[simp] theorem setPmb_eng (b : Nat) (x : PmbSt) : (s.setPmb b x).eng = s.eng := rfl
@[simp] theorem setPmb_gsm (b : Nat) (x : PmbSt) : (s.setPmb b x).gsm = s.gsm := rfl
@[simp] theorem setPmb_bmon (b : Nat) (x : PmbSt) : (s.setPmb b x).bmon = s.bmon := rfl
@[simp] theorem setPmb_thermtrip (b : Nat) (x : PmbSt) : (s.setPmb b x).thermtrip = s.thermtrip := rfl
@[simp] theorem setPmb_tap (b : Nat) (x : PmbSt) : (s.setPmb b x).tap = s.tap := rfl

/-! ## setLane -/

@[simp] theorem setLane_pending (l : Nat) (x : LaneSt) : (s.setLane l x).pending = s.pending := rfl
@[simp] theorem setLane_kept (l : Nat) (x : LaneSt) : (s.setLane l x).kept = s.kept := rfl
@[simp] theorem setLane_time (l : Nat) (x : LaneSt) : (s.setLane l x).time = s.time := rfl
@[simp] theorem setLane_regs (l : Nat) (x : LaneSt) : (s.setLane l x).regs = s.regs := rfl
@[simp] theorem setLane_latch (l : Nat) (x : LaneSt) : (s.setLane l x).latch = s.latch := rfl
@[simp] theorem setLane_readData (l : Nat) (x : LaneSt) : (s.setLane l x).readData = s.readData := rfl
@[simp] theorem setLane_out (l : Nat) (x : LaneSt) : (s.setLane l x).out = s.out := rfl
@[simp] theorem setLane_free (l : Nat) (x : LaneSt) : (s.setLane l x).free = s.free := rfl
@[simp] theorem setLane_power (l : Nat) (x : LaneSt) : (s.setLane l x).power = s.power := rfl
@[simp] theorem setLane_quad (l : Nat) (x : LaneSt) : (s.setLane l x).quad = s.quad := rfl
@[simp] theorem setLane_resetting (l : Nat) (x : LaneSt) : (s.setLane l x).resetting = s.resetting := rfl
@[simp] theorem setLane_ejectHeld (l : Nat) (x : LaneSt) : (s.setLane l x).ejectHeld = s.ejectHeld := rfl
@[simp] theorem setLane_wide (l : Nat) (x : LaneSt) : (s.setLane l x).wide = s.wide := rfl
@[simp] theorem setLane_cgStop (l : Nat) (x : LaneSt) : (s.setLane l x).cgStop = s.cgStop := rfl
@[simp] theorem setLane_cgFault (l : Nat) (x : LaneSt) : (s.setLane l x).cgFault = s.cgFault := rfl
@[simp] theorem setLane_sagWarned (l : Nat) (x : LaneSt) : (s.setLane l x).sagWarned = s.sagWarned := rfl
@[simp] theorem setLane_sluice (l : Nat) (x : LaneSt) : (s.setLane l x).sluice = s.sluice := rfl
@[simp] theorem setLane_tiles (l : Nat) (x : LaneSt) : (s.setLane l x).tiles = s.tiles := rfl
@[simp] theorem setLane_mem (l : Nat) (x : LaneSt) : (s.setLane l x).mem = s.mem := rfl
@[simp] theorem setLane_pcie (l : Nat) (x : LaneSt) : (s.setLane l x).pcie = s.pcie := rfl
@[simp] theorem setLane_pump (l : Nat) (x : LaneSt) : (s.setLane l x).pump = s.pump := rfl
@[simp] theorem setLane_pumpBytes (l : Nat) (x : LaneSt) : (s.setLane l x).pumpBytes = s.pumpBytes := rfl
@[simp] theorem setLane_fyil (l : Nat) (x : LaneSt) : (s.setLane l x).fyil = s.fyil := rfl
@[simp] theorem setLane_memData (l : Nat) (x : LaneSt) : (s.setLane l x).memData = s.memData := rfl
@[simp] theorem setLane_memPoison (l : Nat) (x : LaneSt) : (s.setLane l x).memPoison = s.memPoison := rfl
@[simp] theorem setLane_memErr (l : Nat) (x : LaneSt) : (s.setLane l x).memErr = s.memErr := rfl
@[simp] theorem setLane_links (l : Nat) (x : LaneSt) : (s.setLane l x).links = s.links := rfl
@[simp] theorem setLane_sends (l : Nat) (x : LaneSt) : (s.setLane l x).sends = s.sends := rfl
@[simp] theorem setLane_traceAt (l : Nat) (x : LaneSt) : (s.setLane l x).traceAt = s.traceAt := rfl
@[simp] theorem setLane_ethSeq (l : Nat) (x : LaneSt) : (s.setLane l x).ethSeq = s.ethSeq := rfl
@[simp] theorem setLane_ethLast (l : Nat) (x : LaneSt) : (s.setLane l x).ethLast = s.ethLast := rfl
@[simp] theorem setLane_hraceAt (l : Nat) (x : LaneSt) : (s.setLane l x).hraceAt = s.hraceAt := rfl
@[simp] theorem setLane_events (l : Nat) (x : LaneSt) : (s.setLane l x).events = s.events := rfl
@[simp] theorem setLane_pairs (l : Nat) (x : LaneSt) : (s.setLane l x).pairs = s.pairs := rfl
@[simp] theorem setLane_pairLo (l : Nat) (x : LaneSt) : (s.setLane l x).pairLo = s.pairLo := rfl
@[simp] theorem setLane_slotLate (l : Nat) (x : LaneSt) : (s.setLane l x).slotLate = s.slotLate := rfl
@[simp] theorem setLane_tsq (l : Nat) (x : LaneSt) : (s.setLane l x).tsq = s.tsq := rfl
@[simp] theorem setLane_tsPend (l : Nat) (x : LaneSt) : (s.setLane l x).tsPend = s.tsPend := rfl
@[simp] theorem setLane_lenReads (l : Nat) (x : LaneSt) : (s.setLane l x).lenReads = s.lenReads := rfl
@[simp] theorem setLane_ptpTx (l : Nat) (x : LaneSt) : (s.setLane l x).ptpTx = s.ptpTx := rfl
@[simp] theorem setLane_pmb (l : Nat) (x : LaneSt) : (s.setLane l x).pmb = s.pmb := rfl
@[simp] theorem setLane_pulses (l : Nat) (x : LaneSt) : (s.setLane l x).pulses = s.pulses := rfl
@[simp] theorem setLane_shpHist (l : Nat) (x : LaneSt) : (s.setLane l x).shpHist = s.shpHist := rfl
@[simp] theorem setLane_drainRaw (l : Nat) (x : LaneSt) : (s.setLane l x).drainRaw = s.drainRaw := rfl
@[simp] theorem setLane_rsto (l : Nat) (x : LaneSt) : (s.setLane l x).rsto = s.rsto := rfl
@[simp] theorem setLane_stage (l : Nat) (x : LaneSt) : (s.setLane l x).stage = s.stage := rfl
@[simp] theorem setLane_commit (l : Nat) (x : LaneSt) : (s.setLane l x).commit = s.commit := rfl
@[simp] theorem setLane_khash (l : Nat) (x : LaneSt) : (s.setLane l x).khash = s.khash := rfl
@[simp] theorem setLane_burn (l : Nat) (x : LaneSt) : (s.setLane l x).burn = s.burn := rfl
@[simp] theorem setLane_boot (l : Nat) (x : LaneSt) : (s.setLane l x).boot = s.boot := rfl
@[simp] theorem setLane_bootDormant (l : Nat) (x : LaneSt) : (s.setLane l x).bootDormant = s.bootDormant := rfl
@[simp] theorem setLane_att (l : Nat) (x : LaneSt) : (s.setLane l x).att = s.att := rfl
@[simp] theorem setLane_eng (l : Nat) (x : LaneSt) : (s.setLane l x).eng = s.eng := rfl
@[simp] theorem setLane_gsm (l : Nat) (x : LaneSt) : (s.setLane l x).gsm = s.gsm := rfl
@[simp] theorem setLane_bmon (l : Nat) (x : LaneSt) : (s.setLane l x).bmon = s.bmon := rfl
@[simp] theorem setLane_thermtrip (l : Nat) (x : LaneSt) : (s.setLane l x).thermtrip = s.thermtrip := rfl
@[simp] theorem setLane_tap (l : Nat) (x : LaneSt) : (s.setLane l x).tap = s.tap := rfl

/-! ## setLink -/

@[simp] theorem setLink_pending (e : Nat) (x : LinkSt) : (s.setLink e x).pending = s.pending := rfl
@[simp] theorem setLink_kept (e : Nat) (x : LinkSt) : (s.setLink e x).kept = s.kept := rfl
@[simp] theorem setLink_time (e : Nat) (x : LinkSt) : (s.setLink e x).time = s.time := rfl
@[simp] theorem setLink_regs (e : Nat) (x : LinkSt) : (s.setLink e x).regs = s.regs := rfl
@[simp] theorem setLink_latch (e : Nat) (x : LinkSt) : (s.setLink e x).latch = s.latch := rfl
@[simp] theorem setLink_readData (e : Nat) (x : LinkSt) : (s.setLink e x).readData = s.readData := rfl
@[simp] theorem setLink_out (e : Nat) (x : LinkSt) : (s.setLink e x).out = s.out := rfl
@[simp] theorem setLink_free (e : Nat) (x : LinkSt) : (s.setLink e x).free = s.free := rfl
@[simp] theorem setLink_power (e : Nat) (x : LinkSt) : (s.setLink e x).power = s.power := rfl
@[simp] theorem setLink_quad (e : Nat) (x : LinkSt) : (s.setLink e x).quad = s.quad := rfl
@[simp] theorem setLink_resetting (e : Nat) (x : LinkSt) : (s.setLink e x).resetting = s.resetting := rfl
@[simp] theorem setLink_ejectHeld (e : Nat) (x : LinkSt) : (s.setLink e x).ejectHeld = s.ejectHeld := rfl
@[simp] theorem setLink_wide (e : Nat) (x : LinkSt) : (s.setLink e x).wide = s.wide := rfl
@[simp] theorem setLink_cgStop (e : Nat) (x : LinkSt) : (s.setLink e x).cgStop = s.cgStop := rfl
@[simp] theorem setLink_cgFault (e : Nat) (x : LinkSt) : (s.setLink e x).cgFault = s.cgFault := rfl
@[simp] theorem setLink_sagWarned (e : Nat) (x : LinkSt) : (s.setLink e x).sagWarned = s.sagWarned := rfl
@[simp] theorem setLink_sluice (e : Nat) (x : LinkSt) : (s.setLink e x).sluice = s.sluice := rfl
@[simp] theorem setLink_tiles (e : Nat) (x : LinkSt) : (s.setLink e x).tiles = s.tiles := rfl
@[simp] theorem setLink_mem (e : Nat) (x : LinkSt) : (s.setLink e x).mem = s.mem := rfl
@[simp] theorem setLink_pcie (e : Nat) (x : LinkSt) : (s.setLink e x).pcie = s.pcie := rfl
@[simp] theorem setLink_pump (e : Nat) (x : LinkSt) : (s.setLink e x).pump = s.pump := rfl
@[simp] theorem setLink_pumpBytes (e : Nat) (x : LinkSt) : (s.setLink e x).pumpBytes = s.pumpBytes := rfl
@[simp] theorem setLink_fyil (e : Nat) (x : LinkSt) : (s.setLink e x).fyil = s.fyil := rfl
@[simp] theorem setLink_memData (e : Nat) (x : LinkSt) : (s.setLink e x).memData = s.memData := rfl
@[simp] theorem setLink_memPoison (e : Nat) (x : LinkSt) : (s.setLink e x).memPoison = s.memPoison := rfl
@[simp] theorem setLink_memErr (e : Nat) (x : LinkSt) : (s.setLink e x).memErr = s.memErr := rfl
@[simp] theorem setLink_lanes (e : Nat) (x : LinkSt) : (s.setLink e x).lanes = s.lanes := rfl
@[simp] theorem setLink_sends (e : Nat) (x : LinkSt) : (s.setLink e x).sends = s.sends := rfl
@[simp] theorem setLink_traceAt (e : Nat) (x : LinkSt) : (s.setLink e x).traceAt = s.traceAt := rfl
@[simp] theorem setLink_ethSeq (e : Nat) (x : LinkSt) : (s.setLink e x).ethSeq = s.ethSeq := rfl
@[simp] theorem setLink_ethLast (e : Nat) (x : LinkSt) : (s.setLink e x).ethLast = s.ethLast := rfl
@[simp] theorem setLink_hraceAt (e : Nat) (x : LinkSt) : (s.setLink e x).hraceAt = s.hraceAt := rfl
@[simp] theorem setLink_events (e : Nat) (x : LinkSt) : (s.setLink e x).events = s.events := rfl
@[simp] theorem setLink_pairs (e : Nat) (x : LinkSt) : (s.setLink e x).pairs = s.pairs := rfl
@[simp] theorem setLink_pairLo (e : Nat) (x : LinkSt) : (s.setLink e x).pairLo = s.pairLo := rfl
@[simp] theorem setLink_slotLate (e : Nat) (x : LinkSt) : (s.setLink e x).slotLate = s.slotLate := rfl
@[simp] theorem setLink_tsq (e : Nat) (x : LinkSt) : (s.setLink e x).tsq = s.tsq := rfl
@[simp] theorem setLink_tsPend (e : Nat) (x : LinkSt) : (s.setLink e x).tsPend = s.tsPend := rfl
@[simp] theorem setLink_lenReads (e : Nat) (x : LinkSt) : (s.setLink e x).lenReads = s.lenReads := rfl
@[simp] theorem setLink_ptpTx (e : Nat) (x : LinkSt) : (s.setLink e x).ptpTx = s.ptpTx := rfl
@[simp] theorem setLink_pmb (e : Nat) (x : LinkSt) : (s.setLink e x).pmb = s.pmb := rfl
@[simp] theorem setLink_pulses (e : Nat) (x : LinkSt) : (s.setLink e x).pulses = s.pulses := rfl
@[simp] theorem setLink_shpHist (e : Nat) (x : LinkSt) : (s.setLink e x).shpHist = s.shpHist := rfl
@[simp] theorem setLink_drainRaw (e : Nat) (x : LinkSt) : (s.setLink e x).drainRaw = s.drainRaw := rfl
@[simp] theorem setLink_rsto (e : Nat) (x : LinkSt) : (s.setLink e x).rsto = s.rsto := rfl
@[simp] theorem setLink_stage (e : Nat) (x : LinkSt) : (s.setLink e x).stage = s.stage := rfl
@[simp] theorem setLink_commit (e : Nat) (x : LinkSt) : (s.setLink e x).commit = s.commit := rfl
@[simp] theorem setLink_khash (e : Nat) (x : LinkSt) : (s.setLink e x).khash = s.khash := rfl
@[simp] theorem setLink_burn (e : Nat) (x : LinkSt) : (s.setLink e x).burn = s.burn := rfl
@[simp] theorem setLink_boot (e : Nat) (x : LinkSt) : (s.setLink e x).boot = s.boot := rfl
@[simp] theorem setLink_bootDormant (e : Nat) (x : LinkSt) : (s.setLink e x).bootDormant = s.bootDormant := rfl
@[simp] theorem setLink_att (e : Nat) (x : LinkSt) : (s.setLink e x).att = s.att := rfl
@[simp] theorem setLink_eng (e : Nat) (x : LinkSt) : (s.setLink e x).eng = s.eng := rfl
@[simp] theorem setLink_gsm (e : Nat) (x : LinkSt) : (s.setLink e x).gsm = s.gsm := rfl
@[simp] theorem setLink_bmon (e : Nat) (x : LinkSt) : (s.setLink e x).bmon = s.bmon := rfl
@[simp] theorem setLink_thermtrip (e : Nat) (x : LinkSt) : (s.setLink e x).thermtrip = s.thermtrip := rfl
@[simp] theorem setLink_tap (e : Nat) (x : LinkSt) : (s.setLink e x).tap = s.tap := rfl

/-! ## setTasks -/

@[simp] theorem setTasks_pending (l : List Task) : (s.setTasks l).pending = s.pending := rfl
@[simp] theorem setTasks_kept (l : List Task) : (s.setTasks l).kept = s.kept := rfl
@[simp] theorem setTasks_time (l : List Task) : (s.setTasks l).time = s.time := rfl
@[simp] theorem setTasks_regs (l : List Task) : (s.setTasks l).regs = s.regs := rfl
@[simp] theorem setTasks_latch (l : List Task) : (s.setTasks l).latch = s.latch := rfl
@[simp] theorem setTasks_readData (l : List Task) : (s.setTasks l).readData = s.readData := rfl
@[simp] theorem setTasks_out (l : List Task) : (s.setTasks l).out = s.out := rfl
@[simp] theorem setTasks_free (l : List Task) : (s.setTasks l).free = s.free := rfl
@[simp] theorem setTasks_power (l : List Task) : (s.setTasks l).power = s.power := rfl
@[simp] theorem setTasks_quad (l : List Task) : (s.setTasks l).quad = s.quad := rfl
@[simp] theorem setTasks_resetting (l : List Task) : (s.setTasks l).resetting = s.resetting := rfl
@[simp] theorem setTasks_ejectHeld (l : List Task) : (s.setTasks l).ejectHeld = s.ejectHeld := rfl
@[simp] theorem setTasks_wide (l : List Task) : (s.setTasks l).wide = s.wide := rfl
@[simp] theorem setTasks_cgStop (l : List Task) : (s.setTasks l).cgStop = s.cgStop := rfl
@[simp] theorem setTasks_cgFault (l : List Task) : (s.setTasks l).cgFault = s.cgFault := rfl
@[simp] theorem setTasks_sagWarned (l : List Task) : (s.setTasks l).sagWarned = s.sagWarned := rfl
@[simp] theorem setTasks_tiles (l : List Task) : (s.setTasks l).tiles = s.tiles := rfl
@[simp] theorem setTasks_mem (l : List Task) : (s.setTasks l).mem = s.mem := rfl
@[simp] theorem setTasks_pcie (l : List Task) : (s.setTasks l).pcie = s.pcie := rfl
@[simp] theorem setTasks_pump (l : List Task) : (s.setTasks l).pump = s.pump := rfl
@[simp] theorem setTasks_pumpBytes (l : List Task) : (s.setTasks l).pumpBytes = s.pumpBytes := rfl
@[simp] theorem setTasks_fyil (l : List Task) : (s.setTasks l).fyil = s.fyil := rfl
@[simp] theorem setTasks_memData (l : List Task) : (s.setTasks l).memData = s.memData := rfl
@[simp] theorem setTasks_memPoison (l : List Task) : (s.setTasks l).memPoison = s.memPoison := rfl
@[simp] theorem setTasks_memErr (l : List Task) : (s.setTasks l).memErr = s.memErr := rfl
@[simp] theorem setTasks_lanes (l : List Task) : (s.setTasks l).lanes = s.lanes := rfl
@[simp] theorem setTasks_links (l : List Task) : (s.setTasks l).links = s.links := rfl
@[simp] theorem setTasks_sends (l : List Task) : (s.setTasks l).sends = s.sends := rfl
@[simp] theorem setTasks_traceAt (l : List Task) : (s.setTasks l).traceAt = s.traceAt := rfl
@[simp] theorem setTasks_ethSeq (l : List Task) : (s.setTasks l).ethSeq = s.ethSeq := rfl
@[simp] theorem setTasks_ethLast (l : List Task) : (s.setTasks l).ethLast = s.ethLast := rfl
@[simp] theorem setTasks_hraceAt (l : List Task) : (s.setTasks l).hraceAt = s.hraceAt := rfl
@[simp] theorem setTasks_events (l : List Task) : (s.setTasks l).events = s.events := rfl
@[simp] theorem setTasks_pairs (l : List Task) : (s.setTasks l).pairs = s.pairs := rfl
@[simp] theorem setTasks_pairLo (l : List Task) : (s.setTasks l).pairLo = s.pairLo := rfl
@[simp] theorem setTasks_slotLate (l : List Task) : (s.setTasks l).slotLate = s.slotLate := rfl
@[simp] theorem setTasks_tsq (l : List Task) : (s.setTasks l).tsq = s.tsq := rfl
@[simp] theorem setTasks_tsPend (l : List Task) : (s.setTasks l).tsPend = s.tsPend := rfl
@[simp] theorem setTasks_lenReads (l : List Task) : (s.setTasks l).lenReads = s.lenReads := rfl
@[simp] theorem setTasks_ptpTx (l : List Task) : (s.setTasks l).ptpTx = s.ptpTx := rfl
@[simp] theorem setTasks_pmb (l : List Task) : (s.setTasks l).pmb = s.pmb := rfl
@[simp] theorem setTasks_pulses (l : List Task) : (s.setTasks l).pulses = s.pulses := rfl
@[simp] theorem setTasks_shpHist (l : List Task) : (s.setTasks l).shpHist = s.shpHist := rfl
@[simp] theorem setTasks_drainRaw (l : List Task) : (s.setTasks l).drainRaw = s.drainRaw := rfl
@[simp] theorem setTasks_rsto (l : List Task) : (s.setTasks l).rsto = s.rsto := rfl
@[simp] theorem setTasks_stage (l : List Task) : (s.setTasks l).stage = s.stage := rfl
@[simp] theorem setTasks_commit (l : List Task) : (s.setTasks l).commit = s.commit := rfl
@[simp] theorem setTasks_khash (l : List Task) : (s.setTasks l).khash = s.khash := rfl
@[simp] theorem setTasks_burn (l : List Task) : (s.setTasks l).burn = s.burn := rfl
@[simp] theorem setTasks_boot (l : List Task) : (s.setTasks l).boot = s.boot := rfl
@[simp] theorem setTasks_bootDormant (l : List Task) : (s.setTasks l).bootDormant = s.bootDormant := rfl
@[simp] theorem setTasks_att (l : List Task) : (s.setTasks l).att = s.att := rfl
@[simp] theorem setTasks_eng (l : List Task) : (s.setTasks l).eng = s.eng := rfl
@[simp] theorem setTasks_gsm (l : List Task) : (s.setTasks l).gsm = s.gsm := rfl
@[simp] theorem setTasks_bmon (l : List Task) : (s.setTasks l).bmon = s.bmon := rfl
@[simp] theorem setTasks_thermtrip (l : List Task) : (s.setTasks l).thermtrip = s.thermtrip := rfl
@[simp] theorem setTasks_tap (l : List Task) : (s.setTasks l).tap = s.tap := rfl

/-! ## setTile -/

@[simp] theorem setTile_pending (d t : Nat) (x : Tile) : (s.setTile d t x).pending = s.pending := rfl
@[simp] theorem setTile_kept (d t : Nat) (x : Tile) : (s.setTile d t x).kept = s.kept := rfl
@[simp] theorem setTile_time (d t : Nat) (x : Tile) : (s.setTile d t x).time = s.time := rfl
@[simp] theorem setTile_regs (d t : Nat) (x : Tile) : (s.setTile d t x).regs = s.regs := rfl
@[simp] theorem setTile_latch (d t : Nat) (x : Tile) : (s.setTile d t x).latch = s.latch := rfl
@[simp] theorem setTile_readData (d t : Nat) (x : Tile) : (s.setTile d t x).readData = s.readData := rfl
@[simp] theorem setTile_out (d t : Nat) (x : Tile) : (s.setTile d t x).out = s.out := rfl
@[simp] theorem setTile_free (d t : Nat) (x : Tile) : (s.setTile d t x).free = s.free := rfl
@[simp] theorem setTile_power (d t : Nat) (x : Tile) : (s.setTile d t x).power = s.power := rfl
@[simp] theorem setTile_quad (d t : Nat) (x : Tile) : (s.setTile d t x).quad = s.quad := rfl
@[simp] theorem setTile_resetting (d t : Nat) (x : Tile) : (s.setTile d t x).resetting = s.resetting := rfl
@[simp] theorem setTile_ejectHeld (d t : Nat) (x : Tile) : (s.setTile d t x).ejectHeld = s.ejectHeld := rfl
@[simp] theorem setTile_wide (d t : Nat) (x : Tile) : (s.setTile d t x).wide = s.wide := rfl
@[simp] theorem setTile_cgStop (d t : Nat) (x : Tile) : (s.setTile d t x).cgStop = s.cgStop := rfl
@[simp] theorem setTile_cgFault (d t : Nat) (x : Tile) : (s.setTile d t x).cgFault = s.cgFault := rfl
@[simp] theorem setTile_sagWarned (d t : Nat) (x : Tile) : (s.setTile d t x).sagWarned = s.sagWarned := rfl
@[simp] theorem setTile_sluice (d t : Nat) (x : Tile) : (s.setTile d t x).sluice = s.sluice := rfl
@[simp] theorem setTile_mem (d t : Nat) (x : Tile) : (s.setTile d t x).mem = s.mem := rfl
@[simp] theorem setTile_pcie (d t : Nat) (x : Tile) : (s.setTile d t x).pcie = s.pcie := rfl
@[simp] theorem setTile_pump (d t : Nat) (x : Tile) : (s.setTile d t x).pump = s.pump := rfl
@[simp] theorem setTile_pumpBytes (d t : Nat) (x : Tile) : (s.setTile d t x).pumpBytes = s.pumpBytes := rfl
@[simp] theorem setTile_fyil (d t : Nat) (x : Tile) : (s.setTile d t x).fyil = s.fyil := rfl
@[simp] theorem setTile_memData (d t : Nat) (x : Tile) : (s.setTile d t x).memData = s.memData := rfl
@[simp] theorem setTile_memPoison (d t : Nat) (x : Tile) : (s.setTile d t x).memPoison = s.memPoison := rfl
@[simp] theorem setTile_memErr (d t : Nat) (x : Tile) : (s.setTile d t x).memErr = s.memErr := rfl
@[simp] theorem setTile_lanes (d t : Nat) (x : Tile) : (s.setTile d t x).lanes = s.lanes := rfl
@[simp] theorem setTile_links (d t : Nat) (x : Tile) : (s.setTile d t x).links = s.links := rfl
@[simp] theorem setTile_sends (d t : Nat) (x : Tile) : (s.setTile d t x).sends = s.sends := rfl
@[simp] theorem setTile_traceAt (d t : Nat) (x : Tile) : (s.setTile d t x).traceAt = s.traceAt := rfl
@[simp] theorem setTile_ethSeq (d t : Nat) (x : Tile) : (s.setTile d t x).ethSeq = s.ethSeq := rfl
@[simp] theorem setTile_ethLast (d t : Nat) (x : Tile) : (s.setTile d t x).ethLast = s.ethLast := rfl
@[simp] theorem setTile_hraceAt (d t : Nat) (x : Tile) : (s.setTile d t x).hraceAt = s.hraceAt := rfl
@[simp] theorem setTile_events (d t : Nat) (x : Tile) : (s.setTile d t x).events = s.events := rfl
@[simp] theorem setTile_pairs (d t : Nat) (x : Tile) : (s.setTile d t x).pairs = s.pairs := rfl
@[simp] theorem setTile_pairLo (d t : Nat) (x : Tile) : (s.setTile d t x).pairLo = s.pairLo := rfl
@[simp] theorem setTile_slotLate (d t : Nat) (x : Tile) : (s.setTile d t x).slotLate = s.slotLate := rfl
@[simp] theorem setTile_tsq (d t : Nat) (x : Tile) : (s.setTile d t x).tsq = s.tsq := rfl
@[simp] theorem setTile_tsPend (d t : Nat) (x : Tile) : (s.setTile d t x).tsPend = s.tsPend := rfl
@[simp] theorem setTile_lenReads (d t : Nat) (x : Tile) : (s.setTile d t x).lenReads = s.lenReads := rfl
@[simp] theorem setTile_ptpTx (d t : Nat) (x : Tile) : (s.setTile d t x).ptpTx = s.ptpTx := rfl
@[simp] theorem setTile_pmb (d t : Nat) (x : Tile) : (s.setTile d t x).pmb = s.pmb := rfl
@[simp] theorem setTile_pulses (d t : Nat) (x : Tile) : (s.setTile d t x).pulses = s.pulses := rfl
@[simp] theorem setTile_shpHist (d t : Nat) (x : Tile) : (s.setTile d t x).shpHist = s.shpHist := rfl
@[simp] theorem setTile_drainRaw (d t : Nat) (x : Tile) : (s.setTile d t x).drainRaw = s.drainRaw := rfl
@[simp] theorem setTile_rsto (d t : Nat) (x : Tile) : (s.setTile d t x).rsto = s.rsto := rfl
@[simp] theorem setTile_stage (d t : Nat) (x : Tile) : (s.setTile d t x).stage = s.stage := rfl
@[simp] theorem setTile_commit (d t : Nat) (x : Tile) : (s.setTile d t x).commit = s.commit := rfl
@[simp] theorem setTile_khash (d t : Nat) (x : Tile) : (s.setTile d t x).khash = s.khash := rfl
@[simp] theorem setTile_burn (d t : Nat) (x : Tile) : (s.setTile d t x).burn = s.burn := rfl
@[simp] theorem setTile_boot (d t : Nat) (x : Tile) : (s.setTile d t x).boot = s.boot := rfl
@[simp] theorem setTile_bootDormant (d t : Nat) (x : Tile) : (s.setTile d t x).bootDormant = s.bootDormant := rfl
@[simp] theorem setTile_att (d t : Nat) (x : Tile) : (s.setTile d t x).att = s.att := rfl
@[simp] theorem setTile_eng (d t : Nat) (x : Tile) : (s.setTile d t x).eng = s.eng := rfl
@[simp] theorem setTile_gsm (d t : Nat) (x : Tile) : (s.setTile d t x).gsm = s.gsm := rfl
@[simp] theorem setTile_bmon (d t : Nat) (x : Tile) : (s.setTile d t x).bmon = s.bmon := rfl
@[simp] theorem setTile_thermtrip (d t : Nat) (x : Tile) : (s.setTile d t x).thermtrip = s.thermtrip := rfl
@[simp] theorem setTile_tap (d t : Nat) (x : Tile) : (s.setTile d t x).tap = s.tap := rfl

/-! ## setEng -/

@[simp] theorem setEng_pending (q u : Nat) (j : Option EngJob) : (s.setEng q u j).pending = s.pending := rfl
@[simp] theorem setEng_kept (q u : Nat) (j : Option EngJob) : (s.setEng q u j).kept = s.kept := rfl
@[simp] theorem setEng_time (q u : Nat) (j : Option EngJob) : (s.setEng q u j).time = s.time := rfl
@[simp] theorem setEng_regs (q u : Nat) (j : Option EngJob) : (s.setEng q u j).regs = s.regs := rfl
@[simp] theorem setEng_latch (q u : Nat) (j : Option EngJob) : (s.setEng q u j).latch = s.latch := rfl
@[simp] theorem setEng_readData (q u : Nat) (j : Option EngJob) : (s.setEng q u j).readData = s.readData := rfl
@[simp] theorem setEng_out (q u : Nat) (j : Option EngJob) : (s.setEng q u j).out = s.out := rfl
@[simp] theorem setEng_free (q u : Nat) (j : Option EngJob) : (s.setEng q u j).free = s.free := rfl
@[simp] theorem setEng_power (q u : Nat) (j : Option EngJob) : (s.setEng q u j).power = s.power := rfl
@[simp] theorem setEng_quad (q u : Nat) (j : Option EngJob) : (s.setEng q u j).quad = s.quad := rfl
@[simp] theorem setEng_resetting (q u : Nat) (j : Option EngJob) : (s.setEng q u j).resetting = s.resetting := rfl
@[simp] theorem setEng_ejectHeld (q u : Nat) (j : Option EngJob) : (s.setEng q u j).ejectHeld = s.ejectHeld := rfl
@[simp] theorem setEng_wide (q u : Nat) (j : Option EngJob) : (s.setEng q u j).wide = s.wide := rfl
@[simp] theorem setEng_cgStop (q u : Nat) (j : Option EngJob) : (s.setEng q u j).cgStop = s.cgStop := rfl
@[simp] theorem setEng_cgFault (q u : Nat) (j : Option EngJob) : (s.setEng q u j).cgFault = s.cgFault := rfl
@[simp] theorem setEng_sagWarned (q u : Nat) (j : Option EngJob) : (s.setEng q u j).sagWarned = s.sagWarned := rfl
@[simp] theorem setEng_sluice (q u : Nat) (j : Option EngJob) : (s.setEng q u j).sluice = s.sluice := rfl
@[simp] theorem setEng_tiles (q u : Nat) (j : Option EngJob) : (s.setEng q u j).tiles = s.tiles := rfl
@[simp] theorem setEng_mem (q u : Nat) (j : Option EngJob) : (s.setEng q u j).mem = s.mem := rfl
@[simp] theorem setEng_pcie (q u : Nat) (j : Option EngJob) : (s.setEng q u j).pcie = s.pcie := rfl
@[simp] theorem setEng_pump (q u : Nat) (j : Option EngJob) : (s.setEng q u j).pump = s.pump := rfl
@[simp] theorem setEng_pumpBytes (q u : Nat) (j : Option EngJob) : (s.setEng q u j).pumpBytes = s.pumpBytes := rfl
@[simp] theorem setEng_fyil (q u : Nat) (j : Option EngJob) : (s.setEng q u j).fyil = s.fyil := rfl
@[simp] theorem setEng_memData (q u : Nat) (j : Option EngJob) : (s.setEng q u j).memData = s.memData := rfl
@[simp] theorem setEng_memPoison (q u : Nat) (j : Option EngJob) : (s.setEng q u j).memPoison = s.memPoison := rfl
@[simp] theorem setEng_memErr (q u : Nat) (j : Option EngJob) : (s.setEng q u j).memErr = s.memErr := rfl
@[simp] theorem setEng_lanes (q u : Nat) (j : Option EngJob) : (s.setEng q u j).lanes = s.lanes := rfl
@[simp] theorem setEng_links (q u : Nat) (j : Option EngJob) : (s.setEng q u j).links = s.links := rfl
@[simp] theorem setEng_sends (q u : Nat) (j : Option EngJob) : (s.setEng q u j).sends = s.sends := rfl
@[simp] theorem setEng_traceAt (q u : Nat) (j : Option EngJob) : (s.setEng q u j).traceAt = s.traceAt := rfl
@[simp] theorem setEng_ethSeq (q u : Nat) (j : Option EngJob) : (s.setEng q u j).ethSeq = s.ethSeq := rfl
@[simp] theorem setEng_ethLast (q u : Nat) (j : Option EngJob) : (s.setEng q u j).ethLast = s.ethLast := rfl
@[simp] theorem setEng_hraceAt (q u : Nat) (j : Option EngJob) : (s.setEng q u j).hraceAt = s.hraceAt := rfl
@[simp] theorem setEng_events (q u : Nat) (j : Option EngJob) : (s.setEng q u j).events = s.events := rfl
@[simp] theorem setEng_pairs (q u : Nat) (j : Option EngJob) : (s.setEng q u j).pairs = s.pairs := rfl
@[simp] theorem setEng_pairLo (q u : Nat) (j : Option EngJob) : (s.setEng q u j).pairLo = s.pairLo := rfl
@[simp] theorem setEng_slotLate (q u : Nat) (j : Option EngJob) : (s.setEng q u j).slotLate = s.slotLate := rfl
@[simp] theorem setEng_tsq (q u : Nat) (j : Option EngJob) : (s.setEng q u j).tsq = s.tsq := rfl
@[simp] theorem setEng_tsPend (q u : Nat) (j : Option EngJob) : (s.setEng q u j).tsPend = s.tsPend := rfl
@[simp] theorem setEng_lenReads (q u : Nat) (j : Option EngJob) : (s.setEng q u j).lenReads = s.lenReads := rfl
@[simp] theorem setEng_ptpTx (q u : Nat) (j : Option EngJob) : (s.setEng q u j).ptpTx = s.ptpTx := rfl
@[simp] theorem setEng_pmb (q u : Nat) (j : Option EngJob) : (s.setEng q u j).pmb = s.pmb := rfl
@[simp] theorem setEng_pulses (q u : Nat) (j : Option EngJob) : (s.setEng q u j).pulses = s.pulses := rfl
@[simp] theorem setEng_shpHist (q u : Nat) (j : Option EngJob) : (s.setEng q u j).shpHist = s.shpHist := rfl
@[simp] theorem setEng_drainRaw (q u : Nat) (j : Option EngJob) : (s.setEng q u j).drainRaw = s.drainRaw := rfl
@[simp] theorem setEng_rsto (q u : Nat) (j : Option EngJob) : (s.setEng q u j).rsto = s.rsto := rfl
@[simp] theorem setEng_stage (q u : Nat) (j : Option EngJob) : (s.setEng q u j).stage = s.stage := rfl
@[simp] theorem setEng_commit (q u : Nat) (j : Option EngJob) : (s.setEng q u j).commit = s.commit := rfl
@[simp] theorem setEng_khash (q u : Nat) (j : Option EngJob) : (s.setEng q u j).khash = s.khash := rfl
@[simp] theorem setEng_burn (q u : Nat) (j : Option EngJob) : (s.setEng q u j).burn = s.burn := rfl
@[simp] theorem setEng_boot (q u : Nat) (j : Option EngJob) : (s.setEng q u j).boot = s.boot := rfl
@[simp] theorem setEng_bootDormant (q u : Nat) (j : Option EngJob) : (s.setEng q u j).bootDormant = s.bootDormant := rfl
@[simp] theorem setEng_att (q u : Nat) (j : Option EngJob) : (s.setEng q u j).att = s.att := rfl
@[simp] theorem setEng_gsm (q u : Nat) (j : Option EngJob) : (s.setEng q u j).gsm = s.gsm := rfl
@[simp] theorem setEng_bmon (q u : Nat) (j : Option EngJob) : (s.setEng q u j).bmon = s.bmon := rfl
@[simp] theorem setEng_thermtrip (q u : Nat) (j : Option EngJob) : (s.setEng q u j).thermtrip = s.thermtrip := rfl
@[simp] theorem setEng_tap (q u : Nat) (j : Option EngJob) : (s.setEng q u j).tap = s.tap := rfl

end Sys2Proof.Machine
end

