-- ==== Sys2Proof/Laws/Vane.lean ====
section
/-! SUPPORT. What issuing an instruction does, said once for slot X and once for slot Y (R79 to R82), and the reads of a tile's
registers after a write. -/

namespace Sys2Proof.Machine

open Sys2Proof

@[simp] theorem State.tile_setTile (s : State) (d t : Nat) (x : Tile) : (s.setTile d t x).tile d t = x := by
  unfold State.tile State.setTile; rw [tabGet_set, if_pos rfl]

theorem State.tile_setTile_ne (s : State) {d t e k : Nat} (x : Tile) (h : 8 * e + k ≠ 8 * d + t) :
    (s.setTile d t x).tile e k = s.tile e k := tabGet_set_ne _ _ _ h

theorem State.onlyParts_setTile (s : State) (d t : Nat) (x : Tile) : OnlyParts [.tiles] s (s.setTile d t x) := by
  intro p hp; cases p <;> first | rfl | (exact absurd (by simp) hp)

theorem State.TileIs.refl {s : State} {d t : Nat} {x : Tile} (h : s.tile d t = x) : s.TileIs s d t x :=
  ⟨h, fun _ _ _ => rfl, fun p _ => Same.refl' p s⟩

/-- One more write of the same tile. -/
theorem State.TileIs.set {s u : State} {d t : Nat} {x : Tile} (h : s.TileIs u d t x) (y : Tile) : s.TileIs (u.setTile d t y) d t y :=
  ⟨State.tile_setTile .., fun e k hk => (State.tile_setTile_ne u y hk).trans (h.2.1 e k hk),
    fun p hp => (h.2.2 p hp).trans (State.onlyParts_setTile u d t y p hp)⟩

theorem State.TileIs.setTile (s : State) (d t : Nat) (y : Tile) : s.TileIs (s.setTile d t y) d t y := (State.TileIs.refl rfl).set y

theorem State.readChip_tiles (s : State) (k : Nat) : (s.readChip k).1.tiles = s.tiles := (s.readChip_frame k).1 .tiles (by decide)

theorem State.readChip_tile (s : State) (k d t : Nat) : (s.readChip k).1.tile d t = s.tile d t := by
  unfold State.tile; rw [State.readChip_tiles]

theorem State.fetched_tile (s : State) (d t e k : Nat) : (s.fetched d t).tile e k = s.tile e k := State.readChip_tile ..

/-- A bundle that can be fetched begins. -/
theorem State.beginBundle_eq {s : State} {d t : Nat} (h : s.fetches d t = true) : s.beginBundle d t =
    ((s.fetched d t).setTile d t (s.tile d t).begun, true) := by
  simp only [State.fetches, Bool.and_eq_true, decide_eq_true_eq, Bool.not_eq_true'] at h
  obtain ⟨⟨⟨h1, h2⟩, h3⟩, h5⟩ := h
  unfold State.beginBundle State.fetched
  have h4 : ¬ ((s.tile d t).regs.pc < (s.tile d t).kbase ∨ (s.tile d t).kbase + (s.tile d t).klen ≤ (s.tile d t).regs.pc) := by omega
  simp only [h4, if_false, h3, h5, Bool.false_eq_true]
  rfl

@[simp] theorem State.inX_tile (s : State) (d t : Nat) : (s.inX d t).tile d t = ((s.atBundle d t).tile d t).begun := State.tile_setTile ..

theorem State.inY_regs (s : State) (d t : Nat) : ((s.inY d t).tile d t).regs = (s.tile d t).regs := by
  unfold State.inY
  by_cases h : (s.tile d t).snap.isSome = true
  · rw [if_pos h]
  · rw [if_neg h, State.tile_setTile]; rfl

/-- The tile with the bundle in issue, before slot X acts. -/
theorem State.slotX_begin {s : State} {d t : Nat} (h : s.readyX d t = true) :
    (s.tile d t).running = true ∧ (s.tile d t).stallY = false ∧ (s.atBundle d t).beginBundle d t
      = (s.inX d t, true) := by
  simp only [State.readyX, Bool.and_eq_true, Bool.not_eq_true'] at h
  exact ⟨h.1.1, h.1.2, State.beginBundle_eq h.2⟩

/-- What an instruction of slot X does that neither faults nor stalls. -/
theorem State.slotX_done {s : State} {d t : Nat} {dst : List RegId} {f : State → TileRegs → Res} {s1 : State} {c : Ctl}
    (h : s.readyX d t = true)
    (hf : f (s.inX d t) (s.regsX d t) = .done s1 c) :
    s.slotX d t false dst f = s1.setTile d t { s1.tile d t with xDst := dst, stallX := false } := by
  obtain ⟨h1, h2, h3⟩ := State.slotX_begin h
  unfold State.slotX
  simp only [h1, h2, Bool.true_eq_false, Bool.false_eq_true, or_self, if_false]
  have h4 : (if (s.tile d t).snap.isSome = true then s.finishBundle d t .next else s) = s.atBundle d t := rfl
  simp only [h4, h3, State.inX_tile, Bool.true_eq_false, if_false]
  have h5 : ((s.atBundle d t).tile d t).begun.regs = s.regsX d t := rfl
  rw [h5, hf]

theorem State.inX_is (s : State) (d t : Nat) : (s.inX d t).TileIs (s.inX d t) d t ((s.atBundle d t).tile d t).begun :=
  State.TileIs.refl (State.inX_tile ..)

/-- An instruction of slot X that only computes on registers: f answers the state with registers r. -/
theorem State.slotX_regs {s : State} {d t : Nat} {dst : List RegId} {f : State → TileRegs → Res} {r : TileRegs} {c : Ctl}
    (h : s.readyX d t = true)
    (hf : f (s.inX d t) (s.regsX d t) = .done ((s.inX d t).setTile d t { (s.inX d t).tile d t with regs := r }) c) :
    (s.inX d t).TileIs (s.slotX d t false dst f) d t (((s.atBundle d t).tile d t).didX dst r) := by
  rw [State.slotX_done h hf]
  simp only [State.tile_setTile, State.inX_tile]
  exact (State.TileIs.setTile _ d t _).set _

/-- An instruction of slot X that faults. -/
theorem State.slotX_fault {s : State} {d t : Nat} {dst : List RegId} {f : State → TileRegs → Res} {s1 : State} {n : Nat}
    (h : s.readyX d t = true) (hf : f (s.inX d t) (s.regsX d t) = .fault s1 n) : s.slotX d t false dst f = s1.tileFault d t n := by
  obtain ⟨h1, h2, h3⟩ := State.slotX_begin h
  unfold State.slotX
  simp only [h1, h2, Bool.true_eq_false, Bool.false_eq_true, or_self, if_false]
  have h4 : (if (s.tile d t).snap.isSome = true then s.finishBundle d t .next else s) = s.atBundle d t := rfl
  simp only [h4, h3, State.inX_tile, Bool.true_eq_false, if_false]
  have h5 : ((s.atBundle d t).tile d t).begun.regs = s.regsX d t := rfl
  rw [h5, hf]

/-- An instruction of slot X that stalls. -/
theorem State.slotX_stall {s : State} {d t : Nat} {dst : List RegId} {f : State → TileRegs → Res}
    (h : s.readyX d t = true) (hf : f (s.inX d t) (s.regsX d t) = .stall) :
    s.slotX d t false dst f = (s.atBundle d t).setTile d t { (s.atBundle d t).tile d t with stallX := true } := by
  obtain ⟨h1, h2, h3⟩ := State.slotX_begin h
  unfold State.slotX
  simp only [h1, h2, Bool.true_eq_false, Bool.false_eq_true, or_self, if_false]
  have h4 : (if (s.tile d t).snap.isSome = true then s.finishBundle d t .next else s) = s.atBundle d t := rfl
  simp only [h4, h3, State.inX_tile, Bool.true_eq_false, if_false]
  have h5 : ((s.atBundle d t).tile d t).begun.regs = s.regsX d t := rfl
  rw [h5, hf]

/-- An instruction of slot X that only computes. -/
theorem State.opX_eq {s : State} {d t : Nat} {dst : List RegId} {f : TileRegs → TileRegs} (h : s.readyX d t = true) :
    (s.inX d t).TileIs (s.opX d t false dst f) d t (((s.atBundle d t).tile d t).didX dst (f (s.regsX d t))) :=
  State.slotX_regs h rfl

/-- The result of an instruction of slot Y, whatever it answers. -/
theorem State.slotY_eq {s : State} {d t : Nat} {dst : List RegId} {f : State → TileRegs → Res}
    (h : s.readyY d t = true) (hc : s.clashes d t dst = false) : s.slotY d t true dst f =
      match f (s.inY d t) (s.regsY d t) with
      | .fault s1 n => s1.tileFault d t n
      | .stall => (s.inY d t).setTile d t { (s.inY d t).tile d t with stallY := true }
      | .done s1 c => s1.finishBundle d t c := by
  simp only [State.readyY, Bool.and_eq_true, Bool.not_eq_true', Bool.or_eq_true] at h
  obtain ⟨⟨h1, h2⟩, h3⟩ := h
  unfold State.slotY
  simp only [h1, h2, Bool.true_eq_false, Bool.false_eq_true, or_self, if_false]
  unfold State.clashes at hc
  unfold State.regsY State.inY
  cases hs : (s.tile d t).snap with
  | some p =>
    rw [hs] at hc
    simp only [Option.isSome_some, Bool.true_and] at hc
    simp only [Option.isSome_some, if_true, hc, hs, Bool.true_eq_false, Bool.false_eq_true, if_false]
    all_goals (cases f s p.1 <;> rfl)
  | none =>
    rw [hs] at h3
    simp only [Option.isSome_none, Bool.false_eq_true, false_or] at h3
    simp only [Option.isSome_none, Bool.false_eq_true, if_false, State.beginBundle_eq h3, State.tile_setTile,
      Bool.true_eq_false]
    have h5 : (dst.any fun r => (s.tile d t).begun.xDst.contains r) = false := by simp [Tile.begun]
    have h6 : (s.tile d t).begun.snap = some ((s.tile d t).regs, (s.tile d t).copQ) := rfl
    simp only [h5, h6, Bool.false_eq_true, if_false]
    all_goals (cases f ((s.fetched d t).setTile d t (s.tile d t).begun) (s.tile d t).regs <;> rfl)

/-- What an instruction of slot Y does that neither faults nor stalls. -/
theorem State.slotY_done {s : State} {d t : Nat} {dst : List RegId} {f : State → TileRegs → Res} {s1 : State} {c : Ctl}
    (h : s.readyY d t = true) (hc : s.clashes d t dst = false)
    (hf : f (s.inY d t) (s.regsY d t) = .done s1 c) : s.slotY d t true dst f = s1.finishBundle d t c := by
  rw [State.slotY_eq h hc, hf]

/-- An instruction of slot Y that faults. -/
theorem State.slotY_fault {s : State} {d t : Nat} {dst : List RegId} {f : State → TileRegs → Res} {s1 : State} {n : Nat}
    (h : s.readyY d t = true) (hc : s.clashes d t dst = false)
    (hf : f (s.inY d t) (s.regsY d t) = .fault s1 n) : s.slotY d t true dst f = s1.tileFault d t n := by
  rw [State.slotY_eq h hc, hf]

theorem State.inY_didY (s : State) (d t : Nat) (r : TileRegs) (c : Ctl) : ((s.inY d t).tile d t).didY r c = (s.tile d t).didY r c := by
  unfold State.inY
  by_cases h : (s.tile d t).snap.isSome = true
  · rw [if_pos h]
  · rw [if_neg h, State.tile_setTile]; rfl

/-- An instruction of slot Y that only computes: f answers the state with registers r. -/
theorem State.slotY_regs {s : State} {d t : Nat} {dst : List RegId} {f : State → TileRegs → Res} {r : TileRegs} {c : Ctl}
    (h : s.readyY d t = true) (hc : s.clashes d t dst = false)
    (hf : f (s.inY d t) (s.regsY d t) = .done ((s.inY d t).setTile d t { (s.inY d t).tile d t with regs := r }) c) :
    (s.inY d t).TileIs (s.slotY d t true dst f) d t ((s.tile d t).didY r c) := by
  rw [State.slotY_done h hc hf, ← State.inY_didY]
  unfold State.finishBundle
  simp only [State.tile_setTile]
  exact (State.TileIs.setTile _ d t _).set _

theorem State.opY_eq {s : State} {d t : Nat} {dst : List RegId} {f : TileRegs → TileRegs → TileRegs} (h : s.readyY d t = true)
    (hc : s.clashes d t dst = false) :
    (s.inY d t).TileIs (s.opY d t true dst f) d t ((s.tile d t).didY (f (s.regsY d t) (s.tile d t).regs) .next) :=
  State.slotY_regs h hc (by simp only [State.upd, State.inY_regs])

/-! ## Vectors by element -/

theorem vec_fold_elem (l : List W32) (i : Nat) :
    (l.foldr (fun x n => x.toNat + 4294967296 * n) 0) / 4294967296 ^ i % 4294967296 = (l.getD i 0).toNat := by
  induction l generalizing i with
  | nil => simp
  | cons x l ih =>
    have hx := x.isLt
    cases i with
    | zero => simp only [List.foldr_cons, List.getD_cons_zero, Nat.pow_zero]; omega
    | succ i =>
      simp only [List.foldr_cons, List.getD_cons_succ]
      rw [← ih i, Nat.pow_succ', ← Nat.div_div_eq_div_mul]
      congr 2
      omega

set_option exponentiation.threshold 600 in
theorem vecElem_vecOf (l : List W32) (i : Nat) (hi : i < 16) : vecElem (vecOf l) i = l.getD i 0 := by
  apply BitVec.eq_of_toNat_eq
  rw [← vec_fold_elem]
  unfold vecElem vecOf
  rw [BitVec.extractLsb'_toNat, BitVec.toNat_ofNat, Nat.shiftRight_eq_div_pow, Nat.pow_mul]
  generalize List.foldr (fun (x : W32) n => x.toNat + 4294967296 * n) 0 l = n
  show n % 2 ^ 512 / 4294967296 ^ i % 4294967296 = _
  have h : (2 : Nat) ^ 512 = 4294967296 ^ i * (4294967296 * 4294967296 ^ (15 - i)) := by
    rw [← Nat.pow_succ', ← Nat.pow_add, show (4294967296 : Nat) = 2 ^ 32 from rfl, ← Nat.pow_mul]
    congr 1; omega
  rw [h, Nat.mod_mul_right_div_self, Nat.mod_mul_right_mod]

theorem vecElem_vecMap (f : Nat → W32) (i : Nat) (hi : i < 16) : vecElem (vecMap f) i = f i := by
  unfold vecMap
  rw [vecElem_vecOf _ _ hi, List.getD_eq_getElem?_getD, List.getElem?_map, List.getElem?_range hi]
  rfl

theorem elemRe_eq (x : W512) (i : Nat) : elemRe x i = ((vecElem x i).extractLsb' 0 16).toInt := by
  unfold elemRe vecElem
  refine congrArg BitVec.toInt (BitVec.eq_of_toNat_eq ?_)
  rw [BitVec.extractLsb'_toNat, BitVec.extractLsb'_toNat, BitVec.extractLsb'_toNat]
  generalize x.toNat >>> (32 * i) = n
  rw [Nat.shiftRight_zero]
  omega

theorem elemIm_eq (x : W512) (i : Nat) : elemIm x i = ((vecElem x i).extractLsb' 16 16).toInt := by
  unfold elemIm vecElem
  refine congrArg BitVec.toInt (BitVec.eq_of_toNat_eq ?_)
  rw [BitVec.extractLsb'_toNat, BitVec.extractLsb'_toNat, BitVec.extractLsb'_toNat, Nat.shiftRight_add]
  generalize x.toNat >>> (32 * i) = n
  rw [Nat.shiftRight_eq_div_pow, Nat.shiftRight_eq_div_pow]
  omega

theorem elemOf_re (g h : W16) : (elemOf g h).extractLsb' 0 16 = g := by unfold elemOf; exact BitVec.extractLsb'_append_eq_right
theorem elemOf_im (g h : W16) : (elemOf g h).extractLsb' 16 16 = h := by unfold elemOf; exact BitVec.extractLsb'_append_eq_left

theorem elemRe_vecMap (g h : Nat → W16) (i : Nat) (hi : i < 16) : elemRe (vecMap (fun i => elemOf (g i) (h i))) i = (g i).toInt := by
  rw [elemRe_eq, vecElem_vecMap _ _ hi, elemOf_re]

theorem elemIm_vecMap (g h : Nat → W16) (i : Nat) (hi : i < 16) : elemIm (vecMap (fun i => elemOf (g i) (h i))) i = (h i).toInt := by
  rw [elemIm_eq, vecElem_vecMap _ _ hi, elemOf_im]

theorem alu16_toInt {x : Int} (h : -32768 ≤ x ∧ x ≤ 32767) : (alu16 x).toInt = x := by
  unfold alu16; rw [if_pos h]
  rw [BitVec.toInt_ofInt]
  apply Int.bmod_eq_of_le <;> omega

/-! ## Accumulators by lane -/

theorem TileRegs.getA_setA (r : TileRegs) (a i b j : Nat) (x : AccLane) :
    (r.setA a i x).getA b j = if 16 * b + j = 16 * a + i then x else r.getA b j := tabGet_set _ _ _ _ _

/-- One lane written: what the other lanes and bits are. -/
structure TileRegs.OneLane (r q : TileRegs) (a i : Nat) : Prop where
  lane : ∀ b j, 16 * b + j ≠ 16 * a + i → q.getA b j = r.getA b j
  sat : ∀ k, k < 128 → k ≠ 16 * a + i → q.accSat.getLsbD k = r.accSat.getLsbD k
  rest : q = { r with a := q.a, accSat := q.accSat, accNew := q.accNew }

theorem TileRegs.OneLane.refl (r : TileRegs) (a i : Nat) : r.OneLane r a i := ⟨fun _ _ _ => rfl, fun _ _ _ => rfl, rfl⟩

theorem TileRegs.OneLane.setA (r : TileRegs) (a i : Nat) (x : AccLane) : r.OneLane (r.setA a i x) a i :=
  ⟨fun b j h => by rw [TileRegs.getA_setA, if_neg h], fun _ _ _ => rfl, rfl⟩

theorem TileRegs.OneLane.satA {r q : TileRegs} {a i : Nat} (h : r.OneLane q a i) : r.OneLane (q.satA a i) a i := by
  refine ⟨h.lane, fun k hk hn => ?_, ?_⟩
  · rw [← h.sat k hk hn]
    unfold TileRegs.satA
    exact (putFld_getLsbD _ _ _ _ _ hk).trans (if_neg (by omega))
  · have := h.rest
    unfold TileRegs.satA
    rw [this]

theorem TileRegs.accPut_one (r : TileRegs) (a i : Nat) (x y : Int) : r.OneLane (r.accPut a i x y) a i := by
  unfold TileRegs.accPut
  dsimp only
  split
  · exact .setA ..
  · exact (TileRegs.OneLane.setA ..).satA

theorem TileRegs.accAdd_one (r : TileRegs) (a i sfx : Nat) (x y : Int) : r.OneLane (r.accAdd a i sfx x y) a i := by
  unfold TileRegs.accAdd
  dsimp only
  split
  · exact TileRegs.accPut_one ..
  · split
    · exact .refl ..
    · split <;> exact TileRegs.accPut_one ..

theorem TileRegs.accPut_lane (r : TileRegs) (a i : Nat) (x y : Int) (hk : 16 * a + i < 128) :
    (r.accPut a i x y).getA a i = ⟨BitVec.ofInt 40 (clampI accLo accHi x), BitVec.ofInt 40 (clampI accLo accHi y), !(inAcc x && inAcc y)⟩
    ∧ (r.accPut a i x y).accSat.getLsbD (16 * a + i) = (r.accSat.getLsbD (16 * a + i) || !(inAcc x && inAcc y)) := by
  unfold TileRegs.accPut
  dsimp only
  by_cases h : (inAcc x && inAcc y) = true
  · rw [if_pos h, TileRegs.getA_setA, if_pos rfl, h]
    exact ⟨rfl, by simp [TileRegs.setA]⟩
  · rw [if_neg h]
    rw [Bool.not_eq_true] at h
    rw [h]
    refine ⟨?_, ?_⟩
    · show (r.setA a i _).getA a i = _
      rw [TileRegs.getA_setA, if_pos rfl]
    · unfold TileRegs.satA
      simp only [Bool.not_false, Bool.or_true]
      rw [putFld_getLsbD _ _ _ _ _ hk, if_pos (by omega)]
      simp

theorem TileRegs.accAdd_rule (r : TileRegs) (a i sfx : Nat) (x y : Int) (hk : 16 * a + i < 128) :
    r.AccRule (r.accAdd a i sfx x y) a i sfx x y := by
  unfold TileRegs.AccRule TileRegs.accAdd
  dsimp only
  by_cases h1 : sfx = 1
  · simp only [h1, ne_eq, not_true_eq_false, false_and, if_false, if_true]
    intro u v hu hv
    rw [hu, hv]
    exact TileRegs.accPut_lane r a i x y hk
  · by_cases h2 : (r.getA a i).frozen = true
    · simp only [h1, h2, ne_eq, not_false_eq_true, and_self, if_true, if_false]
    · by_cases h3 : sfx = 2
      · simp only [h2, h3, ne_eq, and_false, if_false, if_true, show (2 : Nat) ≠ 1 by decide, Bool.false_eq_true]
        rintro _ _ rfl rfl
        exact TileRegs.accPut_lane r a i _ _ hk
      · simp only [h1, h2, h3, ne_eq, and_false, if_false, Bool.false_eq_true]
        rintro _ _ rfl rfl
        exact TileRegs.accPut_lane r a i _ _ hk

/-- The rule speaks of one lane and its bit. -/
theorem TileRegs.AccRule.congr {r r' q q' : TileRegs} {a i sfx : Nat} {x y : Int} (h : r.AccRule q a i sfx x y)
    (h1 : r'.getA a i = r.getA a i) (h2 : q'.getA a i = q.getA a i)
    (h3 : r'.accSat.getLsbD (16 * a + i) = r.accSat.getLsbD (16 * a + i))
    (h4 : q'.accSat.getLsbD (16 * a + i) = q.accSat.getLsbD (16 * a + i)) : r'.AccRule q' a i sfx x y := by
  unfold TileRegs.AccRule at *
  rw [h1, h2, h3, h4]
  exact h

theorem TileRegs.lanesOf {a : Nat} (ha : a < 8) (g : TileRegs → Nat → TileRegs) (P : TileRegs → TileRegs → Nat → Prop)
    (h1 : ∀ (q : TileRegs) i, i < 16 → q.OneLane (g q i) a i) (hp : ∀ q i, i < 16 → P q (g q i) i)
    (hc : ∀ r r' q q' i, i < 16 → P r q i → r'.getA a i = r.getA a i → q'.getA a i = q.getA a i →
      r'.accSat.getLsbD (16 * a + i) = r.accSat.getLsbD (16 * a + i) →
      q'.accSat.getLsbD (16 * a + i) = q.accSat.getLsbD (16 * a + i) → P r' q' i)
    (l : List Nat) : ∀ r : TileRegs, l.Nodup → (∀ i ∈ l, i < 16) →
      (∀ b j, (b ≠ a ∨ j ∉ l) → j < 16 → (l.foldl g r).getA b j = r.getA b j)
      ∧ (∀ j < 16, j ∉ l → (l.foldl g r).accSat.getLsbD (16 * a + j) = r.accSat.getLsbD (16 * a + j))
      ∧ (l.foldl g r) = { r with a := (l.foldl g r).a, accSat := (l.foldl g r).accSat, accNew := (l.foldl g r).accNew }
      ∧ ∀ i ∈ l, P r (l.foldl g r) i := by
  induction l with
  | nil => intro r _ _; exact ⟨fun _ _ _ _ => rfl, fun _ _ _ => rfl, rfl, fun i h => absurd h (by simp)⟩
  | cons x l ih =>
    intro r hn hl
    rw [List.nodup_cons] at hn
    have hx : x < 16 := hl x (by simp)
    obtain ⟨i1, i2, i3, i4⟩ := ih (g r x) hn.2 (fun i hi => hl i (by simp [hi]))
    have ho := h1 r x hx
    rw [List.foldl_cons]
    refine ⟨fun b j hb hj => ?_, fun j hj hjl => ?_, ?_, fun i hi => ?_⟩
    · have hb' : b ≠ a ∨ j ∉ l := hb.imp id (fun h hh => h (by simp [hh]))
      have hb2 : b ≠ a ∨ j ≠ x := hb.imp id (fun h hh => h (by simp [hh]))
      rw [i1 b j hb' hj, ho.lane b j (by omega)]
    · have hj2 : j ≠ x := fun hh => hjl (by simp [hh])
      rw [i2 j hj (fun hh => hjl (by simp [hh])), ho.sat _ (by omega) (by omega)]
    · have := ho.rest
      rw [i3]
      rw [this]
    · rcases List.mem_cons.mp hi with rfl | hi
      · exact hc r r (g r i) _ i hx (hp r i hx) rfl (i1 a i (.inr hn.1) hx) rfl (i2 i hx hn.1)
      · have hi16 := hl i (by simp [hi])
        have hne : i ≠ x := fun hh => hn.1 (hh ▸ hi)
        exact hc (g r x) r _ _ i hi16 (i4 i hi) (ho.lane a i (by omega)).symm rfl (ho.sat _ (by omega) (by omega)).symm rfl

/-- All sixteen lanes of an accumulator, each by the rule P of one lane. -/
theorem TileRegs.lanes_rule {a : Nat} (ha : a < 8) (r : TileRegs) (g : TileRegs → Nat → TileRegs) (P : TileRegs → TileRegs → Nat → Prop)
    (h1 : ∀ (q : TileRegs) i, i < 16 → q.OneLane (g q i) a i) (hp : ∀ q i, i < 16 → P q (g q i) i)
    (hc : ∀ r r' q q' i, i < 16 → P r q i → r'.getA a i = r.getA a i → q'.getA a i = q.getA a i →
      r'.accSat.getLsbD (16 * a + i) = r.accSat.getLsbD (16 * a + i) →
      q'.accSat.getLsbD (16 * a + i) = q.accSat.getLsbD (16 * a + i) → P r' q' i) :
    r.OnlyAcc (r.lanes g) a ∧ ∀ i < 16, P r (r.lanes g) i := by
  obtain ⟨k1, _, k3, k4⟩ := TileRegs.lanesOf ha g P h1 hp hc (List.range 16) r List.nodup_range (fun i h => List.mem_range.mp h)
  exact ⟨⟨fun b i hb hi => k1 b i (.inl hb) hi, k3⟩, fun i hi => k4 i (List.mem_range.mpr hi)⟩

theorem TileRegs.lanes_acc (r : TileRegs) {a : Nat} (ha : a < 8) (sfx : Nat) (f : Nat → Int × Int) :
    r.OnlyAcc (r.lanes (fun q i => q.accAdd a i sfx (f i).1 (f i).2)) a
    ∧ ∀ i < 16, r.AccRule (r.lanes (fun q i => q.accAdd a i sfx (f i).1 (f i).2)) a i sfx (f i).1 (f i).2 :=
  TileRegs.lanes_rule ha r _ (fun r q i => r.AccRule q a i sfx (f i).1 (f i).2) (fun q i _ => q.accAdd_one ..)
    (fun q i hi => q.accAdd_rule _ _ _ _ _ (by omega)) (fun _ _ _ _ _ _ h h1 h2 h3 h4 => h.congr h1 h2 h3 h4)

/-- Lanes written one by one, each from what the accumulator held. -/
theorem TileRegs.lanes_set (r : TileRegs) {a : Nat} (ha : a < 8) (f : AccLane → Nat → AccLane) :
    r.OnlyAcc (r.lanes (fun q i => q.setA a i (f (q.getA a i) i))) a
    ∧ ∀ i < 16, (r.lanes (fun q i => q.setA a i (f (q.getA a i) i))).getA a i = f (r.getA a i) i
        ∧ (r.lanes (fun q i => q.setA a i (f (q.getA a i) i))).accSat.getLsbD (16 * a + i) = r.accSat.getLsbD (16 * a + i) :=
  TileRegs.lanes_rule ha r _ (fun r q i => q.getA a i = f (r.getA a i) i ∧ q.accSat.getLsbD (16 * a + i) = r.accSat.getLsbD (16 * a + i))
    (fun q i _ => .setA ..) (fun q i _ => ⟨by rw [TileRegs.getA_setA, if_pos rfl], rfl⟩)
    (fun r r' q q' i _ h h1 h2 h3 h4 => ⟨by rw [h2, h1, h.1], by rw [h4, h3, h.2]⟩)
end Sys2Proof.Machine
end

