-- ==== Sys2Proof/WellFormed.lean ====
section
/-! DEFINITION. Commands that can arrive: what the spec says of an operand beyond its width. `exec` takes the others too. -/

namespace Sys2Proof

/-- A power slot of DPWR or of a QPWR that belongs to a block or a domain (R54, R361). -/
def slotOk (k : SlotIx) : Bool := decide (k.val < 12) || (decide (64 ≤ k.val) && decide (k.val % 64 < 52))

/-- A PCIe link trains at 2.5 to 32 GT/s, codes 1 to 5, with 1, 2, 4, 8 or 16 lanes (R397). -/
def speedOk (v : W3) : Bool := decide (1 ≤ v.toNat) && decide (v.toNat ≤ 5)
def widthOk (n : W5) : Bool := [1, 2, 4, 8, 16].contains n.toNat

/-- Max_Payload_Size is 128, 256 or 512 bytes (R397). -/
def ConfigReq.wf (r : ConfigReq) : Bool :=
  match r with
  | .maxPayload code => decide (code.toNat ≤ 2)
  | .read => true
  | .busMaster _ => true
  | .msixEnable _ => true
  | .sriov _ _ => true
  | .ari _ => true

/-- A frame carries the LEN bytes that its header gives (R221, R229). -/
def FrameIn.wf (f : FrameIn) : Bool := decide (f.len.toNat ≤ f.payload.length)

/-- A block read returns at most 32 bytes (R390). -/
def TxnRes.wf (r : TxnRes) : Bool :=
  match r with
  | .done d => decide (d.length ≤ 32)
  | .nak _ => true
  | .pecError => true
  | .blockLong => true

/-- A manifest that was read came whole: its entries, keys and signatures stand behind its header (R421). -/
def ManifestRead.wf (m : ManifestRead) : Bool := !m.readOk || decide (3204 + 80 * (m.bytes.getD 13 0).toNat ≤ m.bytes.length)

/-- A squash finds at most the two bundles that follow (R82). -/
def Squash.wf (q : Squash) : Bool := decide (q.behind.length ≤ 2)

/-- A cause of lock loss (R200). -/
def lossCause (c : W4) : Bool := decide (1 ≤ c.toNat) && decide (c.toNat ≤ 6)

/-- The command is one that can arrive. -/
def Instr.wf (i : Instr) : Bool :=
  match i with
  | .regWrite _ _ _ => true
  | .unpopulatedAccess _ _ => true
  | .rcRead _ _ => true
  | .latchedPairRead _ => true
  | .darkRead _ => true
  | .darkWrite _ _ => true
  | .run _ _ => true
  | .halt _ _ => true
  | .softReset _ _ => true
  | .softResetEnd _ => true
  | .errInj _ _ => true
  | .wakeWrite slot _ _ => slotOk slot
  | .modeReqBoot _ => true
  | .modeReqConfig _ => true
  | .modeReqService _ => true
  | .modeReqDrain _ => true
  | .modeDone => true
  | .ejectAssert => true
  | .ejectRelease => true
  | .drainStepEnd => true
  | .drainStepCut => true
  | .cgDispatchStopped _ => true
  | .cgHaltLimit _ => true
  | .cgFlushDone _ => true
  | .cgStartCopy _ => true
  | .nop _ _ _ => true
  | .vecAdd _ _ _ _ _ _ => true
  | .vecSubtract _ _ _ _ _ _ => true
  | .vecNegate _ _ _ _ _ => true
  | .vecConjugate _ _ _ _ _ => true
  | .vecShift _ _ _ _ _ _ _ => true
  | .vecMin _ _ _ _ _ _ => true
  | .vecMax _ _ _ _ _ _ => true
  | .permute _ _ _ _ _ _ _ => true
  | .broadcast _ _ _ _ _ _ => true
  | .compare _ _ _ _ _ _ _ => true
  | .select _ _ _ _ _ _ _ => true
  | .cmac _ _ _ _ _ _ _ => true
  | .cmac2 _ _ _ _ _ _ _ => true
  | .cmacb _ _ _ _ _ _ _ _ => true
  | .cmacb2 _ _ _ _ _ _ _ _ => true
  | .aclr _ _ _ _ => true
  | .ascale _ _ _ _ _ => true
  | .ascaleT _ _ _ _ _ => true
  | .aadd _ _ _ _ _ => true
  | .amov _ _ _ _ _ => true
  | .amovVector _ _ _ _ _ _ => true
  | .ext _ _ _ _ _ _ => true
  | .extT _ _ _ _ _ _ => true
  | .vld _ _ _ _ _ _ _ => true
  | .vst _ _ _ _ _ _ _ => true
  | .vlds _ _ _ _ _ _ _ => true
  | .scalarLoad _ _ _ _ _ _ _ _ => true
  | .scalarStore _ _ _ _ _ _ _ _ => true
  | .scalarAlu _ _ _ _ _ _ _ => true
  | .scalarMultiply _ _ _ _ _ _ => true
  | .immediateMove _ _ _ _ _ => true
  | .pmov _ _ _ _ _ => true
  | .padd _ _ _ _ _ => true
  | .paddM _ _ _ _ _ => true
  | .bmov _ _ _ _ _ => true
  | .lmov _ _ _ _ _ => true
  | .branch _ _ _ _ _ _ q => q.wf
  | .call _ _ _ _ q => q.wf
  | .ret _ _ _ q => q.wf
  | .repeatLoop _ _ _ _ _ _ _ => true
  | .endTask _ _ _ => true
  | .taskFinishReport _ _ => true
  | .movcRead _ _ _ _ _ => true
  | .movcWrite _ _ _ _ _ => true
  | .dmaqIn _ _ _ _ _ _ _ _ => true
  | .dmaqOut _ _ _ _ _ _ _ _ => true
  | .dmaEntryDone _ _ _ => true
  | .dmawait _ _ _ _ => true
  | .winarm _ _ _ _ _ _ _ => true
  | .taskLimit _ _ => true
  | .mvM _ _ _ _ _ _ _ _ => true
  | .mvV _ _ _ _ _ _ => true
  | .mmul _ _ _ _ _ _ _ _ _ => true
  | .madd _ _ _ _ _ _ _ => true
  | .msub _ _ _ _ _ _ _ => true
  | .mherm _ _ _ _ _ _ => true
  | .mchol _ _ _ _ _ _ => true
  | .mtrs _ _ _ _ _ _ _ _ _ => true
  | .mqr _ _ _ _ _ _ _ => true
  | .minv _ _ _ _ _ _ => true
  | .mstat _ _ _ _ => true
  | .mwait _ _ _ => true
  | .copOpStart _ _ => true
  | .copOpWriteback _ _ => true
  | .copUnitStop _ _ => true
  | .kloadGo _ _ => true
  | .kloadDone _ => true
  | .kernelInvalidate _ => true
  | .ringDoorbell _ _ _ => true
  | .descriptorFetch _ _ => true
  | .ringRestart => true
  | .evtSignal _ _ => true
  | .gateTimeReady _ _ => true
  | .deadlineExpired _ _ => true
  | .taskPlace _ => true
  | .taskDispatch _ => true
  | .taskReplace _ => true
  | .engineJobOffer _ _ => true
  | .taskEnd _ _ => true
  | .completionRecordWrite _ => true
  | .cqCoalTimer _ => true
  | .cqHeadDoorbell _ _ _ => true
  | .cancelTask _ _ => true
  | .cancelFlow _ => true
  | .cancelDone => true
  | .flowResume _ _ => true
  | .histClr _ => true
  | .loadWindow _ => true
  | .memoryRead _ a _ _ => decide (a.toNat % 8 = 0)
  | .memoryWrite _ a _ _ _ _ _ => decide (a.toNat % 64 = 0)
  | .eccWriteback _ a => decide (a.toNat % 8 = 0)
  | .mergeLineDrain _ a _ => decide (a.toNat % 64 = 0)
  | .cbankClear _ _ => true
  | .cmemClear _ => true
  | .scrubGo _ _ => true
  | .scrubFillGo _ _ => true
  | .scrubAbort _ _ => true
  | .scrubLine _ _ => true
  | .memLogClr _ => true
  | .granuleRetire _ _ _ => true
  | .bankOwnerWrite _ _ _ => true
  | .rowRemapGo _ => true
  | .remapDone _ _ => true
  | .hbmTempHigh _ _ => true
  | .laneStart _ => true
  | .laneAlign _ => true
  | .helloSend _ => true
  | .helloReceive _ _ => true
  | .departFrameReceive _ => true
  | .blockLock _ => true
  | .trainReceive _ _ => true
  | .stepTimeout _ => true
  | .txSquelchEnd _ => true
  | .cdrLock _ => true
  | .syncWindowEnd _ errs => decide (errs.toNat ≤ 1024)
  | .slip _ => true
  | .accept _ => true
  | .slipLimit _ => true
  | .lockLoss _ x => lossCause x.cause && x.also.all (fun y => lossCause y.2)
  | .laneCfgWrite _ _ => true
  | .retrain _ => true
  | .qrefSelWrite _ _ => true
  | .qrefLock _ => true
  | .qrefUnlock _ => true
  | .signalDetect _ => true
  | .ethPortAligned _ => true
  | .ethLockLoss _ => true
  | .prbsCheckLock _ => true
  | .prbsCheckUnlock _ _ _ => true
  | .prbsErrRead _ _ _ => true
  | .eyeSweepGo _ _ => true
  | .eyeSweepAbort _ => true
  | .eyePointDone _ _ => true
  | .linkCfgWrite _ _ => true
  | .commaSend _ => true
  | .lstateReceive _ _ _ _ => true
  | .maskApply _ => true
  | .frameReceive _ f => f.wf
  | .frameDeliveredEvent _ _ => true
  | .ecpriReceive _ _ => true
  | .controlBlockUnknown _ => true
  | .ackReceive _ _ => true
  | .nakReceive _ _ => true
  | .ackSend _ => true
  | .replayTimeout _ => true
  | .departReceive _ => true
  | .partnerTimeout _ => true
  | .tailraceFrameSend _ _ _ => true
  | .injDrop _ _ => true
  | .injCorrupt _ _ => true
  | .injReorder _ _ => true
  | .injLaneDrop _ _ _ _ => true
  | .frameHdrReceive _ f => f.wf
  | .fft _ => true
  | .ifft _ => true
  | .dft _ => true
  | .idft _ => true
  | .filter _ => true
  | .expand _ => true
  | .pack _ => true
  | .update _ => true
  | .ldpcDec _ => true
  | .ldpcEnc _ => true
  | .turboDec _ => true
  | .turboEnc _ => true
  | .polarDec _ => true
  | .polarEnc _ => true
  | .trellisDec _ => true
  | .convEnc _ => true
  | .prach _ => true
  | .gsm _ => true
  | .engineJobFinish _ _ => true
  | .rawWrap => true
  | .ptWrap => true
  | .rateCommit _ => true
  | .snap => true
  | .ftbAdjWrite _ => true
  | .slewDone => true
  | .ftbStep _ => true
  | .eecInputQualify _ _ => true
  | .eecInputDisqualify _ => true
  | .eecLock => true
  | .eecRevert => true
  | .eecHoldoverExit _ => true
  | .eecDisable => true
  | .ptpReceive _ _ => true
  | .ptpTxGo _ _ => true
  | .ptpTxDone _ => true
  | .slotArm _ => true
  | .slotDisarm _ _ => true
  | .slotTimeCommit _ _ => true
  | .slotDue _ => true
  | .slotLenReadDone _ => true
  | .txTimestamp _ => true
  | .tsqPop _ => true
  | .ppsOutEdge => true
  | .ppsOutFall => true
  | .ppsInEdge => true
  | .ppsInMiss => true
  | .alarmArm _ => true
  | .alarm _ => true
  | .alarmFiredClear _ => true
  | .integrityFault _ _ _ _ _ => true
  | .sagWarn _ _ => true
  | .sagAction _ _ => true
  | .sagWarnRearm _ _ => true
  | .fenceRequestsDrained _ => true
  | .fenceRailOk _ => true
  | .fenceDone _ => true
  | .weirInj _ _ => true
  | .powerEntryRequest slot _ => slotOk slot
  | .powerDeferEnd slot => slotOk slot
  | .powerDeferLimit slot => slotOk slot
  | .powerEntryComplete slot => slotOk slot
  | .voteLingerExpiry slot => slotOk slot
  | .wakeEvent slot => slotOk slot
  | .pulseWake _ _ => true
  | .wakeComplete slot _ => slotOk slot
  | .quadDomainEntry _ => true
  | .quadDomainWake _ => true
  | .quadWakeRetry _ => true
  | .plevelWrite _ _ => true
  | .pllLock _ _ => true
  | .voutPoll _ _ => true
  | .vregTimeout _ => true
  | .powerEstUpdate _ _ => true
  | .scanStart => true
  | .scanTimer => true
  | .adcStartupDone => true
  | .injGo _ => true
  | .calGo => true
  | .conversionDone _ => true
  | .calDone _ _ => true
  | .bmonQueueRead => true
  | .pmbTxnGo _ _ => true
  | .pmbTxnStart _ => true
  | .txnDone _ res => res.wf
  | .pmbTimeout _ => true
  | .pmbAlert _ => true
  | .hscPoll => true
  | .hscOff _ => true
  | .gpioEdge _ _ => true
  | .configRequest _ w => w.wf
  | .pcieLinkUp speed width => speedOk speed && widthOk width
  | .doorbellRead _ _ => true
  | .irqRearm _ _ => true
  | .msixUnmask _ _ => true
  | .functionLevelReset _ => true
  | .linkReset => true
  | .pumpDoorbell _ _ _ => true
  | .pumpChDb _ => true
  | .pumpDescFetch _ _ => true
  | .pumpDescComplete _ _ => true
  | .cplTimeout _ _ => true
  | .pumpAbort => true
  | .pumpResume => true
  | .burnOwner _ => true
  | .revokeOwner _ => true
  | .advanceSvn _ _ => true
  | .revokeVendor _ _ => true
  | .vendorBootDis _ => true
  | .burnDone _ => true
  | .bootBegin _ => true
  | .fuseReadDone => true
  | .pushGo => true
  | .pushWindowTimeout => true
  | .manifestReadDone m => m.wf
  | .hbmStackTrained _ _ => true
  | .imagesLoaded images => decide (images.length ≤ 32)
  | .bootEnd => true
  | .attReport => true
  | .attIdentity => true
  | .attDone _ => true
  | .rstoStageWrite _ => true
  | .commit _ => true
  | .arm _ => true
  | .disarm _ => true
  | .commitDone _ => true
  | .wellPor => true
  | .pwrGoodLoss => true
  | .sysRst => true
  | .systemResetRelease => true
  | .wellRstSystem _ => true
  | .wellRstDevice _ => true
  | .deviceResetRelease => true
  | .perstAssert => true
  | .perstRelease => true
  | .tapReset => true
  | .thermtrip => true
  | .extest _ _ => true
  | .idcode => true
  | .samplePreload _ _ => true
  | .extestPulse _ _ => true
  | .extestTrain _ _ => true
  | .clamp => true
  | .highz => true
  | .bypass => true
  | .fyilFrame => true

end Sys2Proof
end

