-- ==== Sys2Proof/Tests/Slice0.lean ====
section
/-! SUPPORT. Small states, values worked out in the spec, ill-formed commands, and for each statement with hypotheses the states that meet them. The kernel evaluations of this file run one after another (Elab.async). -/

namespace Sys2Proof.Machine

open Sys2Proof

set_option Elab.async false

/-- A device in SERVICE with every quadrant on, every group halted. -/
def upState : State :=
  { regs := [(pgDEV + 0x040, 3)], quad := [(0, { dom := 0 }), (1, { dom := 0 }), (2, { dom := 0 }), (3, { dom := 0 })] }

/-- Group 5 is STOPPING and its dispatch has stopped. -/
def stopState : State := { upState.put (pgCG 5 + 0x048) 2 0 1 with cgStop := [(5, true)] }

/-- Lane 0 has signal. -/
def sigState : State := upState.put (pgLANE 0 + 0x044) 27 27 1

/-- Lane 0 is an Ethernet port that is up, with the receive ring of its quadrant enabled. -/
def ptpState : State :=
  ((upState.put (pgLANE 0 + 0x040) 11 10 1).put (pgLANE 0 + 0x200) 31 31 1).put (pgFQU1 0 + 0x068) 31 31 1

def ptpFrame : Bytes := [0x01, 0x1B, 0x19, 0, 0, 0, 1, 2, 3, 4, 5, 6, 0x88, 0xF7, 0, 1]

/-- Slot 0 of quadrant 0 is due, with an action and an owner; group 0 runs. -/
def dueState (act owner : Nat) : State :=
  (((upState.put (slotKey 0x844 0 0) 31 29 (4 + act)).put (slotKey 0x844 0 0) 27 22 owner).put (slotKey 0x068 0 0) 31 31 1).put
    (pgCG 0 + 0x048) 2 0 0

/-- The first word of bank 0 of quadrant 0 holds 64. -/
def memState : State := upState.storeWord cisternBase 64 0

/-- memState with one LEN word in flight in quadrant 0. -/
def lenState : State := { memState with lenReads := [(0, [⟨1, 2, 5, BitVec.ofNat 64 cisternBase⟩])] }

def lenRead0 : State × List PByte × Bool :=
  ({ lenState with lenReads := tabSet (fun _ => []) lenState.lenReads 0 [] } : State).devRead { cg := some 5, quad := 0 } cisternBase 4

/-- A row retirement of stack 0 is set up, with stacks of 16 GiB. -/
def remapState : State := (upState.put (pgHBMC 0 + 0x044) 29 28 1).setReg64 (pgHBMC1 0 + 0x040) 0x1000000000

/-- A scrub of cluster 0's memory is set up. -/
def scrubState : State := (upState.setReg64 (pgCMEM 0 + 0x100) 0x200000000).setReg (pgCMEM 0 + 0x108) 2

/-- A load of two bundles is set up in cluster 0. -/
def kloadState : State := upState.put (pgCLU 0 + 0x050) 14 0 2

/-- A load of one bundle from a is under way in cluster 0. -/
def loadedState (a : Nat) : State :=
  { memState with sluice := { memState.sluice with kload := [(0, some ⟨7, a, 0, 1, 0⟩)] } }

/-- Ring 0 has one descriptor to be fetched: PF1 may read, group 0 runs in quadrant 0, flow 0 is its. -/
def fetchState : State :=
  let s := ((((upState.put (ringKey 0x050 0) 31 31 1).put (ringKey 0x058 0) 15 0 1).put (pgPCIE + 0x040) 31 31 1).put
    (cqKey 0x04C 0) 31 31 1).put (flowCgKey 0) 7 7 1
  let t := (s.put (pgCG 0 + 0x840) 0 0 1).put (pgCG 0 + 0x048) 2 0 0
  { t with pcie := { t.pcie with bme := [(0, true)] } }

/-- A tile task of flow 0, group 0, kernel 0, for cluster 0. -/
def fetchDesc : W512 := 2 ^ 64

def taskState (t : Task) : State := upState.setTasks [t]

def placeTask : Task := { ring := 0, seq := 0, desc := fetchDesc, ready := true }

/-- placeTask waits; cluster 0 has kernel 0. -/
def placeState : State := (fetchState.setTasks [placeTask]).setKernel 0 0 ⟨true, 0, 0, 2⟩

/-- A job of flow 0 for the FFT of quadrant 0. -/
def jobTask : Task := { placeTask with desc := 2 ^ 64 + 2 ^ 88 }

def jobPlaceState : State := placeState.setTasks [jobTask]

/-- Queue 3 has one record that no interrupt has reported. -/
def coalState : State :=
  let s := upState.put (cqKey 0x050 3) 31 16 10
  { s with sluice := { s.sluice with unreported := [(3, 1)] } }

/-- placeTask has ended and its record is ready. -/
def recordState : State :=
  let s := placeState.setTasks [{ placeTask with place := .ended }]
  { s with sluice := { s.sluice with readyQ := [0] } }

/-- Channel 0 of the Pump is PF0's and has one descriptor posted. -/
def pumpState : State :=
  let s := (((upState.put (chKey 0x04C 0) 31 31 1).put (chKey 0x04C 0) 29 24 33).put (chKey 0x054 0) 15 0 1).put (pgPCIE + 0x040) 31 31 1
  { s with pcie := { s.pcie with bme := [(33, true)] } }

/-- pumpState with a second descriptor posted and the first one started. -/
def pumpTwo : State := (pumpState.put (chKey 0x054 0) 15 0 2).setChList 0 [⟨0, 4, 0⟩]

/-- Channel 2 is PF1's. -/
def vfChan : State := upState.put (chKey 0x04C 2) 29 24 0

/-- PF1's vector 5 has a message pending, masked; its messages can be sent. -/
def msixState : State :=
  { upState.put (pgPCIE + 0x040) 31 31 1 with pcie := { upState.pcie with bme := [(0, true)], msixEn := [(0, true)], pend := [(5, true)] } }

/-- Vector 3 of PF0 is asserted and unmasked; its messages can be sent. -/
def rearmState : State :=
  { ((upState.setReg (pgFTB + 0x02C) 1).setReg (pgFTB + 0x028) 1).put (pgPCIE + 0x040) 31 31 1 with
    pcie := { upState.pcie with bme := [(33, true)], msixEn := [(33, true)], unmasked := [(4096 * 33 + 3, true)] } }

/-- Tile 2 of cluster 3 runs a kernel of two bundles at its entry. -/
def tileState : State := upState.setTile 3 2 { phase := .running, klen := 2 }

/-- tileState where MODE.RND acts. -/
def roundState : State := tileState.upd 3 2 (fun q => { q with rnd := true, rndNext := true, rndReg := true })

/-- tileState with the pointer P1. -/
def pointState (p : Nat) : State := tileState.upd 3 2 (fun q => { q with p := [(1, BitVec.ofNat 32 p)] })

/-- tileState with an uncorrectable word at address 0. -/
def badTile : State := tileState.storeWord (tileAddr 3 2 0) 5 3

/-- tileState with the operands of a transfer of n bytes: S0 and S1 the far address of bank 0, S2 the length. -/
def dmaTile (n : W32) : State := tileState.upd 3 2 (fun q => { q with s := [(0, BitVec.ofNat 32 cisternBase), (1, BitVec.ofNat 32 (cisternBase / 4294967296)), (2, n)] })

/-- tileState with the pointer, base and length of buffer 1. -/
def bufTile (p b l : W32) : State := tileState.upd 3 2 (fun q => { q with p := [(1, p)], b := [(1, b)], l := [(1, l)] })

/-- tileState with repeat levels, and with a return stack. -/
def loopTile (l : List Loop) : State := tileState.upd 3 2 (fun q => { q with loops := l })
def retTile (l : List Nat) : State := tileState.upd 3 2 (fun q => { q with ret := l })

/-- tileState with an element that EXT limited, END reporting it. -/
def satTile : State := (tileState.put (pgCLU 3 + 0x040) 2 2 1).upd 3 2 (fun q => { q with extSat := 1 })

/-- Task 2 of ring 1 has ended on tile 2 of cluster 3. -/
def endingState : State :=
  (taskState { ring := 1, seq := 2, desc := 0, place := .tile 3 2 }).setTile 3 2 { phase := .ending, ring := 1, seq := 2 }

/-- dmaTile 64 with a buffer of l bytes, with a pointer, with n entries out, and with an entry in from f. -/
def ringTile (l : W32) : State := (dmaTile 64).upd 3 2 (fun q => { q with l := [(1, l)] })
def farPtr (p : W32) : State := (dmaTile 64).upd 3 2 (fun q => { q with p := [(1, p)] })
def queued (n : Nat) : State :=
  (dmaTile 64).setTile 3 2 { (dmaTile 64).tile 3 2 with dma := List.replicate n ⟨true, 0, 0, 0, 0x100000, 4, 0, false⟩ }
def queuedIn (f : Nat) : State :=
  (dmaTile 64).setTile 3 2 { (dmaTile 64).tile 3 2 with dma := [⟨false, 0, 0, 0, f, 4, 0, false⟩] }
def queuedEnd : State := (queuedIn 16).setTile 3 2 { (queuedIn 16).tile 3 2 with phase := .ending }

/-- Tile 5 of cluster 3 has a window of key 0. -/
def armedTile : State := tileState.setTile 3 5 (({} : Tile).setWindow 1 ⟨true, 0, 64, 0, false, 1⟩)

/-- tileState with the coprocessor of its cluster enabled. -/
def copTile : State := tileState.put (pgCLU 3 + 0x040) 1 1 1

/-- copTile with one addition queued, with a full queue, and with the addition running. -/
def copBusy : State := copTile.setTile 3 2 { copTile.tile 3 2 with copQ := [⟨0, .madd, 1, 5, 0, 6, 7⟩] }
def copFull : State := copTile.setTile 3 2 { copTile.tile 3 2 with copQ := List.replicate 4 ⟨0, .madd, 1, 5, 0, 6, 7⟩ }
def copRuns : State := copTile.setTile 3 2 { copTile.tile 3 2 with copUnit := some ⟨0, .madd, 1, 5, 0, 6, 7⟩ }

/-- Lane 0, enabled with its reference, in the bring-up state st. -/
def laneAt (st : Nat) : State := ((upState.put (pgLANE 0 + 0x040) 31 31 1).put (qrefKey 0) 1 1 1).put (pgLANE 0 + 0x044) 31 28 st

/-- Lane 0 in HELLO with its exchange done, both sides at rate 0 and at rate 3. -/
def readyAt : State := (laneAt 2).setLane 0 { sent := 3, got := 3 }
def readyAt3 : State := (readyAt.put (pgLANE 0 + 0x040) 2 0 3).setReg (pgLANE 0 + 0x100) 0x0E000000

/-- Lane 0 in STEP with block lock. -/
def lockedAt : State := (laneAt 3).put (pgLANE 0 + 0x044) 25 25 1

/-- Lane 0 with a partner without commas. -/
def foreAt (st : Nat) : State := (laneAt st).put (pgLANE 0 + 0x044) 23 23 1

/-- Lanes 0 and 1 in UP, each a link of its own. -/
def twoUp : State := (laneAt 5).put (pgLANE 1 + 0x044) 31 28 5

/-- Lanes 0 and 1 are one link whose entry both hold. -/
def pairUp : State := (((laneAt 5).setReg (pgBLNK 0 + 0x040) 1).setReg (ptabKey 0x104 0) 0x80030000).setLane 1 { partner := some 7 }

/-- Lane 0 in TEST checks PRBS7, its own generator on, with LOOPBACK m. -/
def chkAt (m : Nat) : State := (laneAt 8).setReg (pgLANE 0 + 0x064) (BitVec.ofNat 32 (0xC0000000 + m * 2 ^ 26))

/-- A HELLO of serial number 7 from a partner at rate 3, and its DEPART. -/
def frameData (type : Nat) : HelloData := BitVec.ofNat 320 (natLE (helloBytes type 2 true false 3 0 0 0 7))
def goodHelloData : HelloData := frameData 0x48
def departData : HelloData := frameData 0x44

/-- Lane 0 as an Ethernet port of 25 Gb/s in the state st. -/
def ethAt (st : Nat) : State := ((laneAt st).put (pgLANE 0 + 0x040) 11 10 1).put (pgLANE 0 + 0x040) 2 0 3

/-- ethAt 6 where the entry is present. -/
def ethAtUp : State := (ethAt 6).put (ptabKey 0x104 0) 31 31 1

/-- Lane 0 is a link of one lane in UP at rate 3, its own group, with a partner. -/
def linkState : State :=
  (((laneAt 5).put (pgLANE 0 + 0x044) 22 20 3).setLink 0 { tx := 1, rx := 1 }).put (ptabKey 0x104 0) 31 31 1

/-- linkState with another state of its link. -/
def linkWith (k : LinkSt) : State := linkState.setLink 0 { k with rx := 1, tx := 1 }

/-- linkState of a FACTORY device with injection act armed on link 0. -/
def injState (act : Nat) : State :=
  (linkState.setReg (pgDEV + 0x040) 5).setReg (pgBLNK 0 + 0x140) (BitVec.ofNat 32 (2 ^ 31 + act * 2 ^ 24))

def goodFrame : FrameIn := { seq := 0, stream := 0, len := 8, payload := [1, 2, 3, 4, 5, 6, 7, 8], crc := BitVec.ofNat 32 (frameCrc 0 0 8 [1, 2, 3, 4, 5, 6, 7, 8]) }

def goodEcpri : EcpriIn :=
  { fcsOk := true, da := 0, tagged := true, etherOk := true, rev := 1, c := false, msg := 5, id := 0, seq := 0, sub := 0, payload := [], raw := [] }

/-- Stream 0 of link 0 goes to its ring; group 0 runs. -/
def raceState : State := (linkState.put (hraceKey 0x844 0 0) 31 31 1).put (pgCG 0 + 0x048) 2 0 0

/-- Stream 0 of link 0 goes to window 1 of tile 2 of cluster 0. -/
def windowState : State :=
  (raceState.put (hraceKey 0x844 0 0) 30 30 1).setTile 0 2 (({} : Tile).setWindow 1 ⟨true, 0, 64, 0, false, 0⟩)

/-- Entry 3 of quadrant 0 sends a frame of 64 bytes to the partner of link 0. -/
def traceState : State := (linkState.put (traceKey 0x844 0 3) 31 31 1).setSends 0 [⟨3, 64, 0⟩]

/-- traceState with a full replay store, and with lane 0 an Ethernet port. -/
def traceFull : State := traceState.setLink 0 { tx := 1, rx := 1, store := List.replicate 2048 ⟨0, 0, [], false⟩ }
def traceEth : State := traceState.put (pgLANE 0 + 0x040) 11 10 1

/-- An Ethernet port that is up, and one whose stream 0 has a map entry. -/
def ethPort : State := (ethAt 7).put (pgLANE 0 + 0x200) 31 31 1
def ethRace : State := ((ethPort.put (hraceKey 0x844 0 0) 31 31 1).put (pgCG 0 + 0x048) 2 0 0)

def factoryState : State := { upState with regs := [(pgDEV + 0x040, 5)] }

def testJob (op : Nat) (words : BitVec 384) (ctx : List W32) : EngJob :=
  { ring := 0, seq := 0, cg := 0, quad := 0, argp := cisternBase, op := op, words := words, ctx := ctx }

/-- Unit 0 of quadrant 0 holds an FFT job; its task runs. -/
def engState (op : Nat) : State := upState.setEng 0 0 (some (testJob op 0 []))

def finishState (cause : Nat) : State :=
  (upState.setTasks [{ ring := 0, seq := 0, desc := 0 }]).setEng 0 0 (some { testJob 0 0 [] with ran := true, cause := cause })

def offerTask : Task := { ring := 0, seq := 0, desc := 2 ^ 88 + 2 ^ 64 + 2 ^ 134, ready := true, place := .engQ 0 0 }

/-- The FFT queue of quadrant 0 has one task; group 0 runs. -/
def offerState : State := fetchState.setTasks [offerTask]

/-- Unit u of quadrant 0 holds a job of OP op; the same with its task abandoned. -/
def engAt (u op : Nat) : State := upState.setEng 0 u (some (testJob op 0 []))
def lostAt (u op : Nat) : State := (engAt u op).setTasks [{ ring := 0, seq := 0, desc := 0, abandoned := true }]

/-- offerState with another task, and one whose deadline is over. -/
def offerWith (t : Task) : State := offerState.setTasks [t]
def lateOffer : Task := { offerTask with desc := offerTask.desc ||| 2 ^ 55 ||| 2 ^ 191 }

/-- A finished FFT job whose results go to no memory; a finished GSM job whose task was abandoned. -/
def noWrite : State := (finishState 0).setEng 0 0 (some { testJob 0 0 [] with ran := true, argp := 64 })
def gsmEnd : State := (lostAt 8 1).setEng 0 8 (some { testJob 1 0 [] with ran := true })

/-- A run with n records and a cause. -/
def recRun (n cause : Nat) : AbdRun := { run := { st := upState, who := {}, cause := cause }, n := n }

/-- Quadrant 0 is in phase n of a fence that a sag began. -/
def fencedSag (n : Nat) : State := (upState.setQuad 0 { dom := 0, fenceSag := true }).put (pgDWEIR + 0x140) 26 24 n

/-- Block of slot k may go to state f. -/
def floorState (k f : Nat) : State :=
  let s := upState.put (slotCtrlKey k) 2 0 f
  match slotPage k with
  | some pg => s.put (pg + 0x008) 3 3 1
  | none => s

/-- Bank 0 of quadrant 0 may go to state f. -/
def bankState (f : Nat) : State := floorState 68 f

/-- Slot k is in state x with WAKE written. -/
def wakeState (k x : Nat) : State := (upState.setSlot k { st := x }).put (slotCtrlKey k) 3 3 1

/-- Slot 64 wakes while the MILL of its quadrant is in state x. -/
def wakingMill (x : Nat) : State := (upState.setSlot 64 { st := 2, waking := true }).setSlot 66 { st := x }

/-- Route 0 names slot k, and its pulse has come. -/
def pulseState (k : Nat) : State :=
  let s := (upState.put (pgDPWR + 0x0A0) 31 31 1).put (pgDPWR + 0x0A0) 3 0 k
  { s with pulses := [(0, true)] }

/-- Every block of quadrant q is at DOZE, or where it goes no deeper, and its domain may leave. -/
def dozeState (q : Nat) : State :=
  (List.range 52).foldl (fun s i => s.setSlot (qSlot q i) { st := 3 }) (upState.put (pgDPWR + 0x050 + 4 * q) 31 31 1)

/-- Quadrant q is off, and its domain's slot has WAKE. -/
def offState (q : Nat) : State := (upState.setQuad q {}).put (slotCtrlKey (8 + q)) 3 3 1

def bmonState (b : BmonSt) : State := { upState with bmon := b }

/-- Comparator 0 takes channel 7, low 100, high 200. -/
def cmpState : State :=
  (((upState.put (pgBMON + 0x080) 31 31 1).put (pgBMON + 0x080) 5 0 7).put (pgBMON + 0x084) 11 0 100).put (pgBMON + 0x084) 27 16 200

def pmbState (x : PmbSt) : State := upState.setPmb 0 x

def hscState : State := (upState.put pgHsc 31 31 1).put pgHsc 23 16 10

/-- BOOT in step n. -/
def bootState (n : Nat) (b : BootSt) : State := { State.reset.put (pgBTU + 0x040) 27 24 n with boot := some b }

/-- Banks A and B of class c. -/
def bankedState (c : Nat) (a b : Bytes) : State := (upState.setBank c false a).setBank c true b

/-- A vendor manifest of slot 0 for SERVICE with one image of 64 bytes, no voltages and LMS height 0. -/
def goodManifest : Manifest :=
  { factory := false, ownerKey := false, svn := 0, keySlot := 0, digest := 0, vreg := [0, 0, 0, 0, 0], vregTime := 0, height := 0
    images := [⟨false, 64, 0, 0, 0⟩] }

/-- A vendor manifest of one image of 64 bytes that is only verified, in its layout; the same for FACTORY. -/
def goodWith (flags : Nat) : Bytes :=
  bytesLE 4 0x3156584D ++ bytesLE 2 1 ++ bytesLE 2 flags ++ bytesLE 4 0 ++ [0, 1] ++ List.replicate 114 0 ++ [2, 0, 0, 0] ++ bytesLE 4 64
    ++ List.replicate 3148 0
def goodBytes : Bytes := goodWith 0
def factoryBytes : Bytes := goodWith 1
def goodRead : ManifestRead := { readOk := true, bytes := goodBytes, ecdsaOk := true, lmsOk := true }

/-- BOOT reads the manifest; the fuses hold its key. -/
def goodBoot : State := { bootState 2 { src := 0 } with khash := [(0, mKeyHash goodBytes)] }

def configState : State := { upState with regs := [(pgDEV + 0x040, 2)] }

/-- An attestation command of a device whose PF0 may write. -/
def attState (a : AttJob) : State :=
  let s := configState.put (pgPCIE + 0x040) 31 31 1
  { s with att := some a, pcie := { s.pcie with bme := [(33, true)] } }

/-- DRAIN's step 1 while a report waits for its reservation. -/
def drainAtt : State :=
  { (({ configState with att := some { report := true, reserved := false, dst := 0 } } : State).startCommit 0 []).put (pgDEV + 0x040) 2 0 4 with
    drainRaw := 0 }

/-! ## Values the spec works out -/

/-- What a command leaves, where it answers a next state. -/
def after (c : Instr) (s : State) : State := match exec c s with | .next t => t | _ => s

/-- R376: the VOUT_COMMAND words of the six levels at EXP = -12. -/
theorem test_linear16 : (List.range 6).map (fun l => linear16 (levelMv l) (-12)) = [0x0D9A, 0x0CCD, 0x0C00, 0x0B33, 0x0A66, 0x099A] := by decide +kernel

/-- The board monitor's example: the first scan's entry at 3.5 µs with BMON_US 0x0012_3450 at the trigger. -/
def scanState (ns : Nat) (b : BmonSt) : State := { bmonState b with kept := ⟨BitVec.ofNat 64 ((0x123450 * 1000 + ns) * 1024), 0, false⟩ }

theorem test_conversion_entry : (after (.conversionDone 1700) (scanState 3500 { powered := true, scan := some [5, 32, 33, 44], cur := some (.scan 2) })).bmon.queue = [0x453026A4] := by
  decide +kernel

/-- The same example: the entry of channel 33 carries OVR. -/
theorem test_conversion_overrun : (after (.conversionDone 2736) (scanState 5500 { powered := true, scan := some [44], cur := some (.scan 33), ovr := true })).bmon.queue = [0x455A1AB0] := by
  decide +kernel

/-- R388: an empty queue reads 0x0003_F000. -/
theorem test_queue_empty : (after .bmonQueueRead upState).readData = 0x0003F000 := by decide +kernel

/-- Chapter 2's example: LANE_37 at 0x00C2_5000 reads PAGE_ID 0x002F_2504; asleep it reads all ones. -/
theorem test_page_id : (after (.rcRead (BitVec.ofNat 24 (0x00C25000 / 4)) ⟨0xF, 0⟩) upState).readData = 0x002F2504 := by decide +kernel
theorem test_dark_page : (after (.darkRead ⟨(BitVec.ofNat 24 (0x00C25000 / 4)), 0xF⟩) (upState.setSlot (qSlot 2 29) { st := 3 })).readData = 0xFFFFFFFF := by decide +kernel

/-- The same example: the CLU page of cluster 15 reads PAGE_ID 0x0040_0F03. -/
theorem test_page_id_clu : (after (.rcRead (BitVec.ofNat 24 (0x00E80000 / 4)) ⟨0xF, 0⟩) upState).readData = 0x00400F03 := by decide +kernel

/-- R37: an unpopulated page reads 0. -/
theorem test_unpopulated : (after (.unpopulatedAccess (BitVec.ofNat 24 (0x03000000 / 4)) false) { upState with readData := 7 }).readData = 0 := by decide +kernel

/-- The sag example: at P0 the thresholds are 0.7905 V and 0.748 V. -/
theorem test_sag_thresholds : upState.sagWarns 2 791 = false ∧ upState.sagWarns 2 790 = true ∧ upState.sagActs 2 748 = false ∧ upState.sagActs 2 747 = true := by
  decide +kernel

/-- Chapter 18's example: A holds NEXT_FREE 0x4_2C40 and B its marker; the index goes on at 0x4_2C80 = 0x4_2C40 + 64 (here from 0). -/
theorem test_hss_skip : (bankedState 0 [] (pendingMark 0 true)).takeHssIndex.hssNext = 64 := by decide +kernel

/-- The same example: SEQ 0 is newer than SEQ 0xFFFF_FFFF. -/
theorem test_seq_wrap : (bankedState 1 (bankRecord 1 false 0xFFFFFFFF []) (bankRecord 1 true 0 [])).inForce 1 = some true := by decide +kernel

/-- Chapter 19's example: a DEVICE event in DRAIN step 5 leaves LAST_TYPE 2, SOURCE 2, IN_DRAIN 1 and DRAIN_STEP 5, and CODE 18. -/
def drainState : State := (upState.put (pgDEV + 0x040) 2 0 4).put (pgDEV + 0x040) 15 12 5
theorem test_device_in_drain : (after (.integrityFault 4 0x3FFF 0 [{ code := 18 }] []) drainState).reg (pgWELL + 0x048) = 0x2A500001
    ∧ (after (.integrityFault 4 0x3FFF 0 [{ code := 18 }] []) drainState).reg (pgDWEIR + 0x180) = 0x80120001 := by decide +kernel

/-- R84's example: EXT of -5 by 1 rounds to -2, EXT.T cuts to -3. -/
def extState : TileRegs := ({} : TileRegs).setA 2 3 ⟨BitVec.ofInt 40 (-5), 0, false⟩
theorem test_ext_rounds : elemRe ((extState.ext 0 2 1 true).getV 0) 3 = -2 ∧ elemRe ((extState.ext 0 2 1 false).getV 0) 3 = -3 := by decide +kernel

/-- R462: the identification register. -/
theorem test_idcode : (after .idcode upState).tap.shifted = 0x1724056F := by decide +kernel

/-- R308: RAW wraps and EPOCH counts. -/
theorem test_raw_wrap : (after .rawWrap { upState with kept := ⟨BitVec.ofNat 64 (2 ^ 64 - 512), 6, false⟩ }).kept = ⟨512, 7, false⟩ := by decide +kernel

/-- A step takes the command at the front. -/
theorem test_step_front : (match step { upState with pending := [.idcode, .bypass] } with | .next t => decide (t.pending = [.bypass] ∧ t.tap.inst = 1) | _ => false) = true := by
  decide +kernel

/-- R333: of a STEP and an FTB_ADJ write of one cycle the STEP acts first, whichever arrives first. -/
theorem test_order : (({ upState with pending := [.ftbAdjWrite 5] } : State).arrive (.ftbStep 0)).pending = [.ftbStep 0, .ftbAdjWrite 5]
    ∧ (({ upState with pending := [.ftbStep 0] } : State).arrive (.ftbAdjWrite 5)).pending = [.ftbStep 0, .ftbAdjWrite 5] := by decide +kernel

/-! ## Words written out from the encodings of R105 to R108 and R131 -/

/-- The word of a slot is the instruction. -/
def reads (y : Bool) (w : W32) (i : Instr) : Bool := match readHalf true 0 0 y w with | .insn j => decide (j = i) | _ => false

theorem test_word_mac : reads false 0b001000_101_10_00001_00010_0000_0000000 (.cmac 0 0 false 5 2 1 2) = true
    ∧ reads false 0b001010_101_11_00001_00010_1101_0000000 (.cmacb 0 0 false 5 3 1 2 13) = true
    ∧ illegalHalf true false 0b001000_101_10_00001_00010_0001_0000000 = true ∧ illegalHalf true false 0b001001_101_10_11111_00010_0000_0000000 = true := by decide

theorem test_word_acc : reads false 0b001101_010_000_00000_1000_00000000001 (.ascaleT 0 0 false 2 8) = true
    ∧ reads false 0b001111_010_000_00111_1111_00000000001 (.amovVector 0 0 false 2 7 15) = true
    ∧ illegalHalf true false 0b001101_010_000_00000_0000_00000000000 = true ∧ illegalHalf true false 0b001100_010_000_00000_0000_00000000010 = true := by decide

theorem test_word_ext : reads false 0b010000_00110_101_10001_0000000000000 (.ext 0 0 false 6 5 17) = true
    ∧ illegalHalf true false 0b010000_00110_101_10001_0000000000001 = true := by decide

theorem test_word_mem : reads true 0b100000_01010_011_01_1111111111111000 (.vld 0 0 true 10 3 1 0xFFF8) = true
    ∧ illegalHalf true true 0b100010_11111_011_01_1111111111111000 = true ∧ illegalHalf true false 0b100000_01010_011_01_1111111111111000 = true := by decide

theorem test_word_flow : reads true 0b110100_0011_01001_11111111111111110 (.branch 0 0 true 3 9 0x1FFFE {}) = true
    ∧ reads true 0b110101_0001_00000_00000000000000000 (.ret 0 0 true {}) = true
    ∧ reads true 0b110110_0_000000010000_0000000001001 (.repeatLoop 0 0 true false 16 16 9) = true
    ∧ illegalHalf true true 0b110100_0111_01001_11111111111111110 = true ∧ illegalHalf true true 0b110101_0010_00000_00000000000000000 = true := by decide

theorem test_word_dma : reads true 0b111010_0_1_101_00110_01001_011_00000000 (.dmaqIn 0 0 true 5 6 9 3 true) = true
    ∧ illegalHalf true true 0b111010_0_1_101_00111_01001_011_00000000 = true := by decide

theorem test_word_cop : reads false 0b111100_0_0011_01011_10_1_11110_00000000 (.mvM 0 0 false 3 11 2 true 30) = true
    ∧ reads false 0b111101_0001_0010_0011_011_0000_010_0000 (.mmul 0 0 false 3 1 2 3 false true) = true
    ∧ reads false 0b111111_00000_0000000000_0001_0000000 (.mwait 0 0 false) = true
    ∧ illegalHalf true false 0b111110_0001_0010_0001_011_0010_000_0000 = true ∧ illegalHalf false false 0b111111_00000_0000000000_0001_0000000 = true := by decide

theorem test_word_reserved : illegalHalf true false 0b111000_00000000000000000000000000 = true ∧ illegalHalf true true 0b111001_00000000000000000000000000 = true := by decide

/-- The CRC-32C of the nine digits is the check value of its register; a HELLO holds with it and not with a bit changed (R222). -/
theorem test_hello : crc32c [0x31, 0x32, 0x33, 0x34, 0x35, 0x36, 0x37, 0x38, 0x39] = 0xE3069283 ∧ helloValid 0x48 goodHelloData = true
    ∧ helloValid 0x48 (goodHelloData ^^^ 0x1000) = false := by decide +kernel

/-! ## Ill-formed commands -/

theorem test_wf_slot : (Instr.wakeEvent 12).wf = false ∧ (Instr.wakeEvent 115).wf = true ∧ (Instr.wakeEvent 116).wf = false := by decide
def noUpset : Upset := ⟨0, 0, false, 0, 0⟩
theorem test_wf_word : (Instr.memoryRead .device 4 none noUpset).wf = false ∧ (Instr.eccWriteback .device 9).wf = false := by decide
theorem test_wf_line : (Instr.memoryWrite .device 8 0 0 0 none ⟨0, 0, 0⟩).wf = false ∧ (Instr.mergeLineDrain .device 32 ⟨noUpset, noUpset, noUpset, noUpset, noUpset, noUpset, noUpset, noUpset⟩).wf = false := by decide
theorem test_wf_link : (Instr.pcieLinkUp 0 16).wf = false ∧ (Instr.pcieLinkUp 6 16).wf = false ∧ (Instr.pcieLinkUp 5 3).wf = false := by decide
theorem test_wf_config : (Instr.configRequest 33 (.maxPayload 3)).wf = false := by decide
theorem test_wf_frame : (Instr.frameReceive 0 { goodFrame with len := 9 }).wf = false ∧ (Instr.frameHdrReceive 0 { goodFrame with payload := [] }).wf = false := by decide
theorem test_wf_loss : (Instr.lockLoss 0 ⟨0, 0, []⟩).wf = false ∧ (Instr.lockLoss 0 ⟨7, 0, []⟩).wf = false ∧ (Instr.lockLoss 0 ⟨1, 0, [(1, 0)]⟩).wf = false ∧ (Instr.syncWindowEnd 0 1025).wf = false := by decide
theorem test_wf_txn : (Instr.txnDone 0 (.done (List.replicate 33 0))).wf = false := by decide
theorem test_wf_manifest : (Instr.manifestReadDone { goodRead with bytes := goodBytes.dropLast }).wf = false ∧ (Instr.manifestReadDone goodRead).wf = true := by decide +kernel
theorem test_wf_images : (Instr.imagesLoaded (List.replicate 33 [])).wf = false := by decide
theorem test_wf_squash : (Instr.ret 0 0 true ⟨[.move, .move, .move], false⟩).wf = false := by decide
/-! ## A state and operands that meet the hypotheses of each clause of the statements -/

theorem test_wit_stepRunsFront :
    upState.pending = [] :=
  by decide +kernel

theorem test_wit_idleCycle :
    (upState.pending = [] ∧ upState.wide ≠ some .power) ∧
    (({ upState with wide := some .power } : State).wide = some .power ∧ ({ upState with wide := some .power } : State).pending = []) :=
  ⟨by decide +kernel,
    by decide +kernel⟩

theorem test_wit_memWfStep :
    State.reset.memWf = true ∧ (State.reset.memWf = true → (match step State.reset with | .next t => t.memWf | _ => false) = true) :=
  by decide +kernel

theorem test_wit_keptMarks :
    ((match exec .sysRst { upState with kept := ⟨5, 0, true⟩ } with | .next t => t.kept.factorySeen | _ => false) = true ∧ Instr.sysRst ≠ .wellPor ∧ Instr.sysRst ≠ .pwrGoodLoss) ∧
    ((match exec (.burnOwner 0) { upState with khash := [(4, 9)] } with | .next t => decide (t.khash = [(4, 9)]) | _ => false) = true) :=
  ⟨by decide +kernel,
    by decide +kernel⟩

theorem test_wit_rawKept :
    (upState.kept.raw.toNat + 1024 < 2 ^ 64 ∧ 2 ^ 64 ≤ ({ upState with kept := ⟨BitVec.ofNat 64 (2 ^ 64 - 512), 0, false⟩ } : State).kept.raw.toNat + 1024) ∧
    (Instr.rawWrap = .rawWrap) ∧
    ((match exec .sysRst { upState with kept := ⟨5, 7, false⟩ } with | .next t => decide (t.kept.raw = 5 ∧ t.kept.epoch = 7) | _ => false) = true) :=
  ⟨by decide +kernel,
    by decide +kernel,
    by decide +kernel⟩

theorem test_wit_eventLaw :
    (pgFTB % 0x1000 = 0 ∧ (pageOf pgFTB).isSome = true) ∧
    (pgDEV % 0x1000 = 0 ∧ (pageOf pgDEV).isSome = true) ∧
    ((upState.setReg (pgFTB + 0x018) 0x81000000).fld (pgFTB + 0x018) 31 31 = 1) :=
  ⟨by decide +kernel,
    by decide +kernel,
    by decide +kernel⟩

theorem test_wit_registerWrites :
    ((regAt (wordAddr (BitVec.ofNat 24 ((pgGPIO + 0x04C) / 4)))).isSome = true ∧ upState.reaches (pgGPIO + 0x04C) = true) ∧
    ((match regAt (wordAddr (BitVec.ofNat 24 ((pgCG 5 + 0x044) / 4))) with | some (p, d) => decide (p.blk = .cg) && !d.fields.isEmpty | none => false) = true ∧ upState.reaches (pgCG 5 + 0x044) = true) ∧
    ((3 : W4) ≠ 0xF ∧ upState.wide = none) ∧
    ((match regAt (wordAddr (BitVec.ofNat 24 ((pgFTB + 0x010) / 4))) with | some (p, d) => decide (p.seq = 0) && decide (p.blk = .ftb) && decide (d.w1cMask = 0xFFFFFFFF) | none => false) = true ∧ upState.reaches (pgFTB + 0x010) = true ∧ (upState.setReg (pgFTB + 0x018) 0x81000000).fld (pgFTB + 0x018) 31 31 = 1) ∧
    (pageOf (wordAddr 0x3000) = none ∧ upState.wide = none) ∧
    ((match pageOf (pgLANE 3) with | some p => State.reset.dark p | none => false) = true ∧ State.reset.wide = none) :=
  ⟨by decide +kernel,
    by decide +kernel,
    by decide +kernel,
    by decide +kernel,
    by decide +kernel,
    by decide +kernel⟩

theorem test_wit_registerReads :
    ((match pageOf (pgLANE 3) with | some p => State.reset.dark p | none => false) = true ∧ State.reset.wide = none) ∧
    ((match regAt (wordAddr (BitVec.ofNat 24 ((pgDWEIR + 0x200) / 4))) with | some (p, d) => decide (d.rcMask ≠ 0) && decide (upState.openBits p (pgDWEIR + 0x200) ≠ 0) && !latchesHi p 0x200 | none => false) = true ∧ upState.reaches (pgDWEIR + 0x200) = true) ∧
    ((match regAt (pgFTB1 + 0x05C) with | some (p, _) => latchesHi p 0x05C | none => false) = true ∧ upState.reaches (pgFTB1 + 0x05C) = true) :=
  ⟨by decide +kernel,
    by decide +kernel,
    by decide +kernel⟩

theorem test_wit_pageControls :
    (upState.runOpen 5 = true ∧ upState.reaches (pgCG 5 + 0x008) = true) ∧
    (State.reset.runOpen 5 = false ∧ upState.reaches (pgCG 5 + 0x008) = true ∧ ({ upState with regs := [] } : State).runOpen 5 = false ∧ ({ upState with regs := [] } : State).reaches (pgCG 5 + 0x008) = true) ∧
    ((upState.put (pgCG 5 + 0x048) 2 0 0).cgPhase 5 = 0 ∧ (upState.put (pgCG 5 + 0x048) 2 0 0).reaches (pgCG 5 + 0x008) = true) ∧
    ((match pageOf (pageAddr (BitVec.ofNat _ 0x414)) with | some p => decide (p.blk = .fft) && !upState.pageActive p | none => false) = true ∧ upState.reaches (pgFFT 0 + 0x008) = true) ∧
    ((match pageOf (pageAddr (BitVec.ofNat _ 0x414)) with | some p => decide (p.blk ≠ .lane) | none => false) = true) ∧
    ((upState.put (pgDEV + 0x040) 2 0 5).factory = true ∧ (upState.put (pgDEV + 0x040) 2 0 5).reaches (pgFTB + 0x01C) = true ∧ errClass .ftb 0 ≠ 3 ∧ (match pageOf pgFTB with | some p => (p.reg 0x01C).isSome | none => false) = true) ∧
    (upState.reaches (pgDPWR + 0x108) = true ∧ (upState.put (slotCtrlKey 2) 3 0 (bitsOf (0 : W32) 3 0)).wakeLevel 2 = false) ∧
    (({ upState with power := [(2, { st := 3 })] } : State).wakesAct = true ∧ (({ upState with power := [(2, { st := 3 })] } : State).slot 2).st = 3 ∧ ({ upState with power := [(2, { st := 3 })] } : State).reaches (pgDPWR + 0x108) = true) :=
  ⟨by decide +kernel,
    by decide +kernel,
    by decide +kernel,
    by decide +kernel,
    by decide +kernel,
    by decide +kernel,
    by decide +kernel,
    by decide +kernel⟩

theorem test_wit_modeRequests :
    ((upState.put (pgDEV + 0x040) 2 0 0).mode = 0 ∧ (upState.put (pgDEV + 0x040) 2 0 0).inTransition = false) ∧
    (upState.mode = 3 ∧ upState.inTransition = false ∧ ∀ g < 64, upState.cgPhase g = 3) ∧
    ((upState.put (pgDEV + 0x040) 2 0 2).mode = 2 ∧ (upState.put (pgDEV + 0x040) 2 0 2).inTransition = false) ∧
    (upState.mode = 3 ∧ upState.inTransition = false) ∧
    (upState.mode ≠ 0 ∧ (upState.put (pgDEV + 0x040) 7 7 1).inTransition = true ∧ upState.mode ≠ 2 ∧ State.reset.mode = 1) ∧
    ((0 : W16) ≠ 0x4D0D) :=
  ⟨by decide +kernel,
    by decide +kernel,
    by decide +kernel,
    by decide +kernel,
    by decide +kernel,
    by decide +kernel⟩

theorem test_wit_modeEvents :
    (((upState.put (pgDEV + 0x040) 7 7 1).put (pgDEV + 0x040) 6 4 2).inTransition = true ∧ ((upState.put (pgDEV + 0x040) 7 7 1).put (pgDEV + 0x040) 6 4 2).mode = 3 ∧ ((upState.put (pgDEV + 0x040) 7 7 1).put (pgDEV + 0x040) 6 4 2).ejectHeld = false) ∧
    (upState.fld (pgGPIO + 0x048) 30 30 = 0 ∧ upState.mode = 3 ∧ upState.inTransition = false ∧ (upState.put (pgDEV + 0x048) 0 0 0).fld (pgDEV + 0x048) 0 0 = 0) ∧
    ((upState.put (pgDEV + 0x048) 0 0 1).fld (pgDEV + 0x048) 0 0 = 1 ∧ (upState.put (pgDEV + 0x048) 0 0 1).fld (pgGPIO + 0x048) 30 30 = 0 ∧ (upState.put (pgDEV + 0x048) 0 0 1).mode = 3 ∧ (upState.put (pgDEV + 0x048) 0 0 1).inTransition = false) ∧
    ((upState.put (pgGPIO + 0x048) 30 30 1).fld (pgGPIO + 0x048) 30 30 = 1) ∧
    (((upState.put (pgDEV + 0x040) 2 0 4).put (pgDEV + 0x040) 15 12 1).mode = 4 ∧ ((upState.put (pgDEV + 0x040) 2 0 4).put (pgDEV + 0x040) 15 12 1).stepDone = true ∧ ((upState.put (pgDEV + 0x040) 2 0 4).put (pgDEV + 0x040) 15 12 1).drainStep = 1) ∧
    (∀ n ∈ [2, 4, 6, 7], ((upState.put (pgDEV + 0x040) 2 0 4).put (pgDEV + 0x040) 15 12 n).mode = 4 ∧ ((upState.put (pgDEV + 0x040) 2 0 4).put (pgDEV + 0x040) 15 12 n).stepDone = true ∧ ((upState.put (pgDEV + 0x040) 2 0 4).put (pgDEV + 0x040) 15 12 n).drainStep = n) ∧
    (((upState.put (pgDEV + 0x040) 2 0 4).put (pgDEV + 0x040) 15 12 3).drainStep = 3 ∧ ((upState.put (pgDEV + 0x040) 2 0 4).put (pgDEV + 0x040) 15 12 3).mode = 4) ∧
    (((upState.put (pgDEV + 0x040) 2 0 4).put (pgDEV + 0x040) 15 12 2).drainStep = 2 ∧ ((upState.put (pgDEV + 0x040) 2 0 4).put (pgDEV + 0x040) 15 12 2).mode = 4) ∧
    (((upState.put (pgDEV + 0x040) 2 0 4).put (pgDEV + 0x040) 15 12 4).drainStep = 4 ∧ ((upState.put (pgDEV + 0x040) 2 0 4).put (pgDEV + 0x040) 15 12 4).mode = 4) :=
  ⟨by decide +kernel,
    by decide +kernel,
    by decide +kernel,
    by decide +kernel,
    by decide +kernel,
    by decide +kernel,
    by decide +kernel,
    by decide +kernel,
    by decide +kernel⟩

theorem test_wit_groupPhases :
    (((upState.put (pgCG 5 + 0x048) 2 0 1).put (pgCG 5 + 0x044) 19 0 100).cgPhase 5 = 1 ∧ ((upState.put (pgCG 5 + 0x048) 2 0 1).put (pgCG 5 + 0x044) 19 0 100).fld (pgCG 5 + 0x044) 19 0 ≠ 0) ∧
    (stopState.cgPhase 5 = 1 ∧ tabGet (fun _ => false) stopState.cgStop 5 = true) ∧
    ((upState.put (pgCG 5 + 0x048) 2 0 2).cgPhase 5 = 2 ∧ (upState.put (pgCG 5 + 0x048) 2 0 2).tasks = []) ∧
    ((upState.put (pgCG 5 + 0x048) 2 0 4).cgPhase 5 = 4 ∧ (upState.put (pgCG 5 + 0x048) 2 0 4).copyReady 5 = true ∧ tabGet (fun _ => false) (upState.put (pgCG 5 + 0x048) 2 0 4).cgFault 5 = false) :=
  ⟨by decide +kernel,
    by decide +kernel,
    by decide +kernel,
    by decide +kernel⟩

theorem test_wit_timeBase :
    (2 ^ 64 ≤ ({ upState with kept := ⟨0xFFFFFFFFFFFFFFFF, 0, false⟩ } : State).kept.raw.toNat + 1024) ∧
    (({ upState with time := { upState.time with basePt := 0xFFFFFFFFFFFFFFFF } } : State).cycle.pt.toNat < ({ upState with time := { upState.time with basePt := 0xFFFFFFFFFFFFFFFF } } : State).pt.toNat) ∧
    (upState.reaches (pgFTB + 0x05C) = true ∧ (((0 : W32).setWidth 16) ++ (upState.setReg (pgFTB + 0x058) 7).reg (pgFTB + 0x058) : BitVec 48).toInt.natAbs ≤ 2 ^ 38 ∧ (((0 : W32).setWidth 16) ++ (upState.setReg (pgFTB + 0x058) 7).reg (pgFTB + 0x058) : BitVec 48) ≠ upState.time.rate) ∧
    (2 ^ 38 < (((0x4000 : W32).setWidth 16) ++ upState.reg (pgFTB + 0x058) : BitVec 48).toInt.natAbs ∧ upState.reaches (pgFTB + 0x05C) = true) ∧
    (upState.reaches (pgFTB + 0x040) = true) ∧
    ((upState.put (pgFTB + 0x060) 18 0 100).fld (pgFTB + 0x060) 18 0 ≠ 0 ∧ (upState.slewLeft + (5 : W32).toInt).natAbs ≤ 2 ^ 30 ∧ upState.slewLeft + (5 : W32).toInt ≠ 0 ∧ upState.time.stepPend = none ∧ upState.reaches (pgFTB + 0x064) = true) ∧
    (({ upState.put (pgFTB + 0x060) 18 0 100 with time := { upState.time with slewOn := true, slewRem := 5 } } : State).slewLeft + (-5 : W32).toInt = 0 ∧ ({ upState.put (pgFTB + 0x060) 18 0 100 with time := { upState.time with slewOn := true, slewRem := 5 } } : State).reaches (pgFTB + 0x064) = true) ∧
    (upState.reaches (pgFTB + 0x064) = true ∧ 2 ^ 30 < (upState.slewLeft + (0x7FFFFFFF : W32).toInt).natAbs ∧ (upState.put (pgFTB + 0x060) 18 0 0).reaches (pgFTB + 0x064) = true ∧ (upState.put (pgFTB + 0x060) 18 0 0).fld (pgFTB + 0x060) 18 0 = 0) ∧
    (({ upState.put (pgFTB + 0x060) 18 0 100 with kept := ⟨0x40000000, 0, false⟩, time := { upState.time with slewOn := true, slewRem := 1 } } : State).slewEnds = true) ∧
    (upState.reaches (pgFTB + 0x074) = true) ∧
    (({ upState with time := { upState.time with stepPend := some (5, 1) } } : State).time.stepPend = some (5, 1)) :=
  ⟨by decide +kernel,
    by decide +kernel,
    by decide +kernel,
    by decide +kernel,
    by decide +kernel,
    by decide +kernel,
    by decide +kernel,
    by decide +kernel,
    by decide +kernel,
    by decide +kernel,
    by decide +kernel⟩

theorem test_wit_synce :
    ((5 : W32).toInt.natAbs ≤ 5057753 ∧ sigState.hasSignal (sigState.fld (pgFTB1 + 0x040) 5 0) = true ∧ sigState.eec = 0 ∧ sigState.eecEnable = false) ∧
    ((5 : W32).toInt.natAbs ≤ 5057753 ∧ (sigState.put (pgFTB1 + 0x044) 1 0 2).hasSignal ((sigState.put (pgFTB1 + 0x044) 1 0 2).fld (pgFTB1 + 0x040) 13 8) = true ∧ (sigState.put (pgFTB1 + 0x044) 1 0 2).eec ≠ 0 ∧ (sigState.put (pgFTB1 + 0x044) 1 0 2).eecOnSec = false) ∧
    ((5 : W32).toInt.natAbs ≤ 5057753 ∧ (sigState.put (pgFTB1 + 0x040) 31 31 1).hasSignal ((sigState.put (pgFTB1 + 0x040) 31 31 1).fld (pgFTB1 + 0x040) 5 0) = true ∧ (sigState.put (pgFTB1 + 0x040) 31 31 1).eec = 0 ∧ (sigState.put (pgFTB1 + 0x040) 31 31 1).eecEnable = true) ∧
    (upState.eecOnSec = !true) ∧
    (({ upState.put (pgFTB1 + 0x044) 1 0 2 with kept := ⟨0x1000000000000, 0, false⟩ } : State).eec = 2 ∧ 10000000000 ≤ ({ upState.put (pgFTB1 + 0x044) 1 0 2 with kept := ⟨0x1000000000000, 0, false⟩ } : State).nsSinceFull upState.time.lockAt ∧ (upState.put (pgFTB1 + 0x044) 1 0 2).eecOnSec = false) ∧
    (((upState.put (pgFTB1 + 0x044) 1 0 1).put (pgFTB1 + 0x044) 3 3 1).eec = 1 ∧ ((upState.put (pgFTB1 + 0x044) 1 0 1).put (pgFTB1 + 0x044) 3 3 1).inputOk ((upState.put (pgFTB1 + 0x044) 1 0 1).put (pgFTB1 + 0x044) 3 3 1).eecOnSec = true) ∧
    (((upState.put (pgFTB1 + 0x044) 3 0 14).put (pgFTB1 + 0x040) 28 28 1).eec = 2 ∧ ((upState.put (pgFTB1 + 0x044) 3 0 14).put (pgFTB1 + 0x040) 28 28 1).eecOnSec = true ∧ ((upState.put (pgFTB1 + 0x044) 3 0 14).put (pgFTB1 + 0x040) 28 28 1).inputOk false = true ∧ ((upState.put (pgFTB1 + 0x044) 3 0 14).put (pgFTB1 + 0x040) 28 28 1).fld (pgFTB1 + 0x040) 28 28 = 1) ∧
    ((upState.put (pgFTB1 + 0x044) 3 0 11).eec = 3 ∧ (upState.put (pgFTB1 + 0x044) 3 0 11).inputOk false = true) ∧
    ((upState.put (pgFTB1 + 0x044) 1 0 2).reaches (pgFTB1 + 0x040) = true ∧ (upState.put (pgFTB1 + 0x044) 1 0 2).eec ≠ 0) :=
  ⟨by decide +kernel,
    by decide +kernel,
    by decide +kernel,
    by decide +kernel,
    by decide +kernel,
    by decide +kernel,
    by decide +kernel,
    by decide +kernel,
    by decide +kernel⟩

theorem test_wit_ptpFrames :
    (ptpState.portUpAt (ptpState.linkOf 0).1 = true ∧ ptpState.isPtp (ptpState.linkOf 0).1 ptpFrame = true ∧ bit ((ptpState.inc (pgLANE 0 + 0x204) 31 0 1).reg (pgFQU1 0 + 0x068)) 31 = true ∧ bit ((ptpState.inc (pgLANE 0 + 0x204) 31 0 1).reg (pgFQU1 0 + 0x068)) 30 = false) ∧
    (ptpState.portUpAt (ptpState.linkOf 0).1 = true ∧ ptpState.isPtp (ptpState.linkOf 0).1 [1, 2] = false) ∧
    (ptpState.reaches (pgFQU1 0 + 0x078) = true ∧ ptpState.fld (pgFQU1 0 + 0x07C) 31 31 = 0 ∧ ptpState.isLink 0 = true ∧ ptpState.portUpAt 0 = true ∧ (ptpState.devRead { quad := 0 } ((ptpState.pair (pgFQU1 0 + 0x070)).toNat - (ptpState.pair (pgFQU1 0 + 0x070)).toNat % 8) (bitsOf (0x80000000 : W32) 10 0)).2.2 = true) ∧
    (upState.reaches (pgFQU1 0 + 0x078) = true ∧ upState.fld (pgFQU1 0 + 0x07C) 31 31 = 0 ∧ upState.portUpAt (16 * 0 + bitsOf (0x80000000 : W32) 19 16) = false) ∧
    (tabGet (fun _ => none) ({ upState with ptpTx := [(0, some ⟨0, [], false, some 9⟩)] } : State).ptpTx 0 = some ⟨0, [], false, some 9⟩) ∧
    (({ upState with tsPend := [(0, [⟨0, (upState.linkOf 0).1, 3, 7⟩])] } : State).fquOn 0 = true ∧ (({ upState with tsPend := [(0, [⟨0, (upState.linkOf 0).1, 3, 7⟩])] } : State).tsWaiting 0).find? (fun r => decide (r.link = (({ upState with tsPend := [(0, [⟨0, (upState.linkOf 0).1, 3, 7⟩])] } : State).linkOf 0).1)) = some ⟨0, (upState.linkOf 0).1, 3, 7⟩ ∧ (({ upState with tsPend := [(0, [⟨0, (upState.linkOf 0).1, 3, 7⟩])] } : State).tsQueue 0).length < 64) ∧
    (upState.reaches (pgFQU1 0 + 0x058) = true) :=
  ⟨by decide +kernel,
    by decide +kernel,
    by decide +kernel,
    by decide +kernel,
    by decide +kernel,
    by decide +kernel,
    by decide +kernel⟩

theorem test_wit_actionSlots :
    (upState.reaches (pgFQU 0 + 0x064) = true) ∧
    (upState.reaches (pgFQU 3 + 0x064) = true) ∧
    (upState.reaches (pgFQU 0 + 0x04C) = true) ∧
    ((dueState 2 0).fquOn 0 = true ∧ (List.range 128).find? (fun k => (dueState 2 0).slotDue 0 k) = some 0 ∧ (dueState 2 0).isLate 0 0 = false ∧ (dueState 2 0).cgRunning (bitsOf ((dueState 2 0).slotA 0 0) 27 22) = true ∧ bitsOf ((dueState 2 0).slotA 0 0) 30 29 = 2 ∧ (dueState 2 0).slotPeriod 0 0 = 0) ∧
    ((dueState 2 3).fquOn 0 = true ∧ (List.range 128).find? (fun k => (dueState 2 3).slotDue 0 k) = some 0 ∧ (dueState 2 3).isLate 0 0 = false ∧ (dueState 2 3).cgRunning (bitsOf ((dueState 2 3).slotA 0 0) 27 22) = false ∧ (dueState 2 3).slotPeriod 0 0 = 0) ∧
    (tabGet (fun _ => []) lenState.lenReads 0 = [⟨1, 2, 5, BitVec.ofNat 64 cisternBase⟩] ∧ lenRead0.2.2 = true ∧ anyPoison lenRead0.2.1 = false ∧ natLE (unmark lenRead0.2.1) = 64) ∧
    ((upState.put (pgFTB1 + 0x04C) 31 31 1).fld (pgFTB1 + 0x04C) 31 31 = 1 ∧ 0 ≤ timeDiff (upState.put (pgFTB1 + 0x04C) 31 31 1).pt ((upState.put (pgFTB1 + 0x04C) 31 31 1).pair (pgFTB1 + 0x050))) ∧
    (({ upState with time := { upState.time with ppsOut := true } } : State).time.ppsOut = true) ∧
    ((upState.put (pgFTB1 + 0x04C) 30 30 1).fld (pgFTB1 + 0x04C) 30 30 = 1) ∧
    ((upState.put (pgFTB1 + 0x04C) 30 30 1).fld (pgFTB1 + 0x04C) 30 30 = 1) ∧
    (upState.reaches (pgFTB1 + 0x088 + 16 * (3 : W2).toNat) = true) ∧
    ((upState.put (pgFTB1 + 0x088) 29 29 1).fld (pgFTB1 + 0x088 + 16 * (0 : W2).toNat) 29 29 = 1 ∧ 0 ≤ timeDiff (upState.put (pgFTB1 + 0x088) 29 29 1).pt ((upState.put (pgFTB1 + 0x088) 29 29 1).pair (pgFTB1 + 0x080 + 16 * (0 : W2).toNat))) ∧
    (upState.reaches (pgFTB1 + 0x088 + 16 * (1 : W2).toNat) = true) :=
  ⟨by decide +kernel,
    by decide +kernel,
    by decide +kernel,
    by decide +kernel,
    by decide +kernel,
    by decide +kernel,
    by decide +kernel,
    by decide +kernel,
    by decide +kernel,
    by decide +kernel,
    by decide +kernel,
    by decide +kernel,
    by decide +kernel⟩

theorem test_wit_memoryReads :
    (spaceAddr (.tileData 3 2) ((64 : W64).toNat - (64 : W64).toNat % 8) = some (tileAddr 3 2 64) ∧ tileState.spaceCheck (.tileData 3 2) (some 0) 64 = (tileState, true) ∧ isHbm (tileAddr 3 2 64) = false ∧ (memLoc (tileAddr 3 2 64)).prog = false ∧ tileState.isValid (tileAddr 3 2 64) = false ∧ (tileState.mergeLines (memLoc (tileAddr 3 2 64)).unit).find? (fun l => decide (l.addr = tileAddr 3 2 64 - tileAddr 3 2 64 % 64)) = none) ∧
    (∀ x, (tileState.storeWord (tileAddr 3 2 64) 5 x).spaceCheck (.tileData 3 2) (some 0) 64 = (tileState.storeWord (tileAddr 3 2 64) 5 x, true) ∧ (tileState.storeWord (tileAddr 3 2 64) 5 x).isValid (tileAddr 3 2 64) = true ∧ (tileState.storeWord (tileAddr 3 2 64) 5 x).syndrome (tileAddr 3 2 64) = x ∧ ((tileState.storeWord (tileAddr 3 2 64) 5 x).mergeLines (memLoc (tileAddr 3 2 64)).unit).find? (fun l => decide (l.addr = tileAddr 3 2 64 - tileAddr 3 2 64 % 64)) = none) ∧
    (eccClass (eccColumns.getD 0 0) = .correctable ∧ eccClass 3 = .uncorrectable) ∧
    ((tileState.storeWord (tileAddr 3 2 64) 5 0).rawWord (tileAddr 3 2 64) = (tileState.storeWord (tileAddr 3 2 64) 5 0).storedWord (tileAddr 3 2 64)) ∧
    (((tileState.writeChip (tileAddr 3 2 64) 5 1 0).mergeLines (memLoc (tileAddr 3 2 64)).unit).find? (fun l => decide (l.addr = tileAddr 3 2 64 - tileAddr 3 2 64 % 64)) = some (MergeLine.join ⟨tileAddr 3 2 64, 0, 0, 0⟩ 0 5 1 0) ∧ maskWord ((MergeLine.join ⟨tileAddr 3 2 64, 0, 0, 0⟩ 0 5 1 0).poison &&& (MergeLine.join ⟨tileAddr 3 2 64, 0, 0, 0⟩ 0 5 1 0).mask) 0 = 0 ∧ (tileState.writeChip (tileAddr 3 2 64) 5 1 0).isValid (tileAddr 3 2 64) = false ∧ ((tileState.writeChip (tileAddr 3 2 64) 5 1 0).spaceCheck (.tileData 3 2) (some 0) 64).2 = true) ∧
    (upState.devMem 0x10 = none ∧ tileState.tileServes 3 2 (some 1) = false ∧ tileState.tileServes 3 2 none = false) ∧
    ((upState.put (pgCIST 0 + 0x040) 7 0 5).devMem cisternBase = some (.cistern 0 0 0) ∧ (upState.put (pgCIST 0 + 0x040) 7 0 5).fenced 0 = false ∧ (upState.put (pgCIST 0 + 0x040) 7 0 5).bankOwner 0 0 = 5 ∧ (upState.put (pgCIST 0 + 0x040) 7 0 5).granRetired 0 0 0 = false) ∧
    ((upState.put (pgHBMC 0 + 0x044) 29 28 1).devMem 0x1000000008 = some (.hbm 8) ∧ ((upState.put (pgHBMC 0 + 0x044) 29 28 1).slot 3).st < 2 ∧ ((upState.put (pgHBMC 0 + 0x044) 29 28 1).hbmMap 8).1 = 0 ∧ (upState.put (pgHBMC 0 + 0x044) 29 28 1).hbmBad 0x1000000008 = false) :=
  ⟨by decide +kernel,
    fun x => by
      have h : (tileState.spaceCheck (.tileData 3 2) (some 0) 64).2 = true := by decide +kernel
      exact ⟨Prod.ext rfl h, by decide +kernel +revert, State.storeWord_syndrome .., by decide +kernel +revert⟩,
    ⟨eccClass_column, by decide⟩,
    by decide +kernel,
    by decide +kernel,
    by decide +kernel,
    by decide +kernel,
    ⟨by decide +kernel, by decide +kernel, by decide +kernel, by rfl⟩⟩

theorem test_wit_memoryWrites :
    (spaceAddr (.tileData 3 2) ((64 : W64).toNat - (64 : W64).toNat % 64) = some (tileAddr 3 2 64) ∧ tileState.spaceCheck (.tileData 3 2) (some 0) 64 = (tileState, true) ∧ isHbm (tileAddr 3 2 64) = false ∧ tileAddr 3 2 64 % 64 = 0) ∧
    (tileState.mergeLines (memLoc (tileAddr 3 2 64)).unit = []) ∧
    ((upState.put (pgHBMC 0 + 0x044) 29 28 1).devMem 0x1000000040 = some (.hbm 64) ∧ ((upState.put (pgHBMC 0 + 0x044) 29 28 1).slot (3 + ((upState.put (pgHBMC 0 + 0x044) 29 28 1).hbmMap 64).1)).st < 2) ∧
    ((1 : W64) ≠ 0 ∧ (1 : W64) ≠ BitVec.allOnes 64 ∧ (2 : Fin3).val = 2) ∧
    (tileState.tileServes 3 2 none = false) ∧
    (((tileState.writeChip (tileAddr 3 2 64) 5 1 0).mergeLines (memLoc (tileAddr 3 2 64)).unit).find? (fun l => decide (l.addr = tileAddr 3 2 64)) = some (MergeLine.join ⟨tileAddr 3 2 64, 0, 0, 0⟩ 0 5 1 0)) ∧
    (({ upState with mem := { upState.mem with wb := [tileAddr 3 2 64] } } : State).mem.wb.contains (tileAddr 3 2 64) = true) :=
  ⟨by decide +kernel,
    by decide +kernel,
    by decide +kernel,
    by decide +kernel,
    by decide +kernel,
    by decide +kernel,
    by decide +kernel⟩

theorem test_wit_memoryUpkeep :
    (upState.reaches (pgCBANK 1 3 + 0x040) = true ∧ upState.bankOpen 1 3 = true) ∧
    ((((upState.put (pgCG 5 + 0x048) 2 0 0).put (pgCG 5 + 0x040) 3 0 15).put (pgCIST 1 + 0x040) 31 24 5).reaches (pgCBANK 1 3 + 0x040) = true ∧ (((upState.put (pgCG 5 + 0x048) 2 0 0).put (pgCG 5 + 0x040) 3 0 15).put (pgCIST 1 + 0x040) 31 24 5).bankOpen 1 3 = false) ∧
    (upState.reaches (pgCMEM 7 + 0x040) = true) ∧
    (upState.reaches (pgCIST 1 + 0x050 + 4 * 3) = true ∧ upState.bankOpen 1 3 = true ∧ (2 : W32) ≠ upState.reg (pgCIST 1 + 0x050 + 4 * 3) ∧ upState.reg (pgCIST 1 + 0x050 + 4 * 3) &&& ~~~ (2 : W32) = 0) ∧
    (upState.reaches (pgCIST 1 + 0x040 + 4 * 2) = true ∧ upState.quadHalted 1 = true ∧ (5 : W32) ≠ upState.reg (pgCIST 1 + 0x040 + 4 * 2) ∧ ∀ j < 4, bitsOf (5 : W32) (8 * j + 7) (8 * j) ≤ 0x40 ∧ bitsOf (upState.reg (pgCIST 1 + 0x040 + 4 * 2)) (8 * j + 7) (8 * j) ≤ 0x40) ∧
    (0x40 < bitsOf (0x41 : W32) 7 0 ∧ bitsOf (0x41 : W32) 7 0 ≠ 0x7F ∧ upState.reaches (pgCIST 1 + 0x040 + 4 * 2) = true) ∧
    (upState.reaches (pgCIST 1 + 0x040 + 4 * 2) = true ∧ upState.quadHalted 1 = true ∧ bitsOf (0x7F00 : W32) 15 8 = 0x7F ∧ bitsOf (upState.reg (pgCIST 1 + 0x040 + 4 * 2)) 15 8 ≠ 0x7F ∧ ∀ i < 4, bitsOf (0x7F00 : W32) (8 * i + 7) (8 * i) ≤ 0x40 ∨ bitsOf (0x7F00 : W32) (8 * i + 7) (8 * i) = 0x7F) ∧
    (upState.reaches (memCtlPg 2 + 0x154) = true ∧ upState.reaches (memCtlPg 29 + 0x154) = true) ∧
    (remapState.reaches (pgHBMC1 0 + 0x048) = true ∧ remapState.fld (pgHBMC1 0 + 0x04C) 31 31 = 0 ∧ remapState.fld (pgHBMC1 0 + 0x04C) 8 0 < 256 ∧ hbmBase ≤ (remapState.reg64 (pgHBMC1 0 + 0x040)).toNat ∧ (remapState.reg64 (pgHBMC1 0 + 0x040)).toNat < hbmBase + 2 * remapState.hbmUse ∧ (remapState.hbmMap ((remapState.reg64 (pgHBMC1 0 + 0x040)).toNat - hbmBase)).1 = 0 ∧ remapState.remapOf ((remapState.reg64 (pgHBMC1 0 + 0x040)).toNat - hbmBase) = none) ∧
    (tabGet (fun _ => none) ({ upState with mem := { upState.mem with remapJob := [(0, some {})] } } : State).mem.remapJob (0 : Stack).val = some {}) :=
  ⟨by decide +kernel,
    by decide +kernel,
    by decide +kernel,
    by decide +kernel,
    by decide +kernel,
    by decide +kernel,
    by decide +kernel,
    by decide +kernel,
    ⟨by decide +kernel, by decide +kernel, by decide +kernel, by decide +kernel, by decide +kernel, by decide +kernel, rfl⟩,
    by decide +kernel⟩

theorem test_wit_scrubs :
    (scrubState.reaches (memCtlPg 4 + 0x10C) = true ∧ (scrubState.reg64 (memCtlPg 4 + 0x100)).toNat = clusterBase ∧ (scrubState.reg (memCtlPg 4 + 0x108)).toNat = 2 ∧ (scrubState.scrub 4).busy = false ∧ (scrubState.scrubWindow 4).1 ≤ clusterBase) ∧
    ((scrubState.setReg (memCtlPg 4 + 0x100) 8).reaches (memCtlPg 4 + 0x10C) = true ∧ ((scrubState.setReg (memCtlPg 4 + 0x100) 8).reg64 (memCtlPg 4 + 0x100)).toNat % 64 ≠ 0 ∧ ((scrubState.setReg (memCtlPg 4 + 0x100) 8).scrub 4).busy = false) ∧
    ((scrubState.setScrub 4 { busy := true, left := 2, next := clusterBase }).reaches (memCtlPg 4 + 0x10C) = true ∧ ((scrubState.setScrub 4 { busy := true, left := 2, next := clusterBase }).scrub 4).busy = true) ∧
    (((scrubState.setScrub 4 { busy := true, abort := true, left := 2, next := clusterBase }).scrub 4).abort = true ∧ ((scrubState.setScrub 4 { busy := true, abort := true, left := 2, next := clusterBase }).scrub 4).busy = true) ∧
    (((scrubState.setScrub 0 { busy := true, left := 2, next := cisternBase + 0x1800000 }).scrub 0).left = 2 ∧ (scrubState.setScrub 0 { busy := true, left := 2, next := cisternBase + 0x1800000 }).scrubReads (cisternBase + 0x1800000) = false) ∧
    ((scrubState.setScrub 4 { busy := true, left := 2, next := clusterBase }).scrubReads clusterBase = true) :=
  ⟨by decide +kernel,
    by decide +kernel,
    by decide +kernel,
    by decide +kernel,
    by decide +kernel,
    by decide +kernel⟩

theorem test_wit_kernelLoads :
    (kloadState.reaches (pgCLU 0 + 0x058) = true ∧ kloadState.fld (pgCLU 0 + 0x050) 14 0 = 2 ∧ kloadState.fld (pgCLU 0 + 0x054) 13 0 = 0 ∧ kloadState.fld (pgCLU 0 + 0x050) 29 16 = 0 ∧ kloadState.fld (pgCLU 0 + 0x05C) 0 0 = 0 ∧ kloadState.kernelHeld 0 7 = false ∧ kloadState.spanTaken 0 0 2 = false) ∧
    ((kloadState.setKernel 0 7 ⟨true, 0, 0, 2⟩).kernelHeld 0 7 = true ∧ (kloadState.setKernel 0 7 ⟨true, 0, 0, 2⟩).reaches (pgCLU 0 + 0x058) = true ∧ (kloadState.setKernel 0 7 ⟨true, 0, 0, 2⟩).fld (pgCLU 0 + 0x05C) 0 0 = 0) ∧
    (tabGet (fun _ => none) (loadedState cisternBase).sluice.kload 0 = some ⟨7, cisternBase, 0, 1, 0⟩ ∧ ((loadedState cisternBase).devRead {} cisternBase (8 * 1)).2.2 = true ∧ (cleanWords ((loadedState cisternBase).devRead {} cisternBase (8 * 1)).2.1).length = 1) ∧
    (tabGet (fun _ => none) (loadedState 0x10).sluice.kload 0 = some ⟨7, 0x10, 0, 1, 0⟩ ∧ ((loadedState 0x10).devRead {} 0x10 (8 * 1)).2.2 = false) ∧
    (upState.reaches (pgCLU 5 + 0x064) = true) :=
  ⟨by decide +kernel,
    by decide +kernel,
    by decide +kernel,
    by decide +kernel,
    by decide +kernel⟩

theorem test_wit_descriptorFetches :
    (fetchState.ringServed 0 = true ∧ fetchState.ringTurn = some 0 ∧ fetchState.newSeq 0 (fetchState.ringHead 0) = 0 ∧ fetchState.fetchCause 0 { ring := 0, seq := 0, desc := fetchDesc } = 0 ∧ fetchState.tasks.length < 32768 ∧ fetchState.cqCredit ({ ring := 0, seq := 0, desc := fetchDesc } : Task).cq = true) ∧
    ((fetchState.put (cqKey 0x058 0) 16 0 64).ringTurn = some 0 ∧ (fetchState.put (cqKey 0x058 0) 16 0 64).newSeq 0 ((fetchState.put (cqKey 0x058 0) 16 0 64).ringHead 0) = 0 ∧ (fetchState.put (cqKey 0x058 0) 16 0 64).cqCredit ({ ring := 0, seq := 0, desc := fetchDesc } : Task).cq = false ∧ (fetchState.put (cqKey 0x058 0) 16 0 64).ringServed 0 = true ∧ (fetchState.put (cqKey 0x058 0) 16 0 64).fetchCause 0 { ring := 0, seq := 0, desc := fetchDesc } = 0) ∧
    (fetchState.ringServed 0 = true ∧ fetchState.ringTurn = some 0 ∧ fetchState.fetchCause 0 { ring := 0, seq := fetchState.newSeq 0 (fetchState.ringHead 0), desc := 2 ^ 53 } = 1) ∧
    (upState.reaches (pgSLC + 0x05C) = true) :=
  ⟨by decide +kernel,
    by decide +kernel,
    by decide +kernel,
    by decide +kernel⟩

theorem test_wit_marksAndGates :
    (upState.reaches (pgSLC + 0x068) = true) ∧
    ((taskState { ring := 1, seq := 2, desc := 2 ^ 92 }).named 1 2 (fun u => decide (u.place = .parked) && decide (u.gate = 1) && decide (0 ≤ timeDiff (taskState { ring := 1, seq := 2, desc := 2 ^ 92 }).pt u.gateVal)) = some { ring := 1, seq := 2, desc := 2 ^ 92 }) ∧
    (({ taskState { ring := 1, seq := 2, desc := 2 ^ 55 } with kept := ⟨4096, 0, false⟩ } : State).named 1 2 (fun u => u.queued && decide (u.dlMode = 2) && decide (0 < timeDiff ({ taskState { ring := 1, seq := 2, desc := 2 ^ 55 } with kept := ⟨4096, 0, false⟩ } : State).pt u.deadline)) = some { ring := 1, seq := 2, desc := 2 ^ 55 }) ∧
    ((∀ p ∈ [Place.parked, .tile 0 0, .ended], (taskState { ring := 1, seq := 2, desc := 0, place := p }).reaches (pgSLC + 0x060) = true ∧ (taskState { ring := 1, seq := 2, desc := 0, place := p }).fld (pgSLC + 0x064) 31 31 = 0) ∧ (taskState { ring := 1, seq := 2, desc := 0 }).named 1 2 Task.queued = some { ring := 1, seq := 2, desc := 0 } ∧ (taskState { ring := 1, seq := 2, desc := 0, place := .tile 0 0 }).named 1 2 Task.queued = none ∧ (taskState { ring := 1, seq := 2, desc := 0, place := .tile 0 0 }).named 1 2 (fun x => x.place.inService) = some { ring := 1, seq := 2, desc := 0, place := .tile 0 0 } ∧ (taskState { ring := 1, seq := 2, desc := 0, place := .ended }).named 1 2 Task.queued = none ∧ (taskState { ring := 1, seq := 2, desc := 0, place := .ended }).named 1 2 (fun x => x.place.inService) = none) ∧
    ((upState.put (pgSLC + 0x064) 31 31 1).reaches (pgSLC + 0x060) = true ∧ (upState.put (pgSLC + 0x064) 31 31 1).fld (pgSLC + 0x064) 31 31 = 1) ∧
    ((taskState { ring := 1, seq := 2, desc := 0 }).reaches (pgSLC + 0x060) = true ∧ (taskState { ring := 1, seq := 2, desc := 0 }).fld (pgSLC + 0x064) 31 31 = 0 ∧ ∃ t ∈ (taskState { ring := 1, seq := 2, desc := 0 }).tasks, (decide (t.flow = (0 : Flow).val) && t.queued) = true) ∧
    (({ upState with sluice := { upState.sluice with cancelJob := some (1, some 3) } } : State).sluice.cancelJob = some (1, some 3) ∧ ∀ n, some 3 = some n → n < 4096) ∧
    (upState.reaches (pgFLOW 0 + 0x240 + 4 * (5 : W7).toNat) = true) :=
  ⟨by decide +kernel,
    by decide +kernel,
    by decide +kernel,
    by decide +kernel,
    by decide +kernel,
    by decide +kernel,
    ⟨rfl, fun n h => by cases h; decide⟩,
    by decide +kernel⟩

theorem test_wit_placementAndDispatch :
    (placeState.flowHead 0 = some placeTask ∧ placeTask.place = .parked ∧ placeTask.ready = true ∧ placeTask.marked = false ∧ placeTask.haltFetch = false ∧ placeState.cgRunning placeTask.cg = true ∧ placeTask.engine = 0 ∧ placeState.chooseCluster placeTask = some 0 ∧ placeState.outwaited placeTask (.hopper 0) = false) ∧
    ((placeState.setKernel 0 0 {}).flowHead 0 = some placeTask ∧ placeTask.place = .parked ∧ placeTask.ready = true ∧ placeTask.marked = false ∧ placeTask.haltFetch = false ∧ placeTask.engine = 0 ∧ placeTask.cg = 0 ∧ (placeState.setKernel 0 0 {}).cgRunning 0 = true ∧ ∀ d < 24, (placeState.setKernel 0 0 {}).inAffinity placeTask d = true → (placeState.setKernel 0 0 {}).runnable d placeTask.kid = false) ∧
    (jobPlaceState.flowHead 0 = some jobTask ∧ jobTask.place = .parked ∧ jobTask.ready = true ∧ jobTask.marked = false ∧ jobTask.haltFetch = false ∧ jobPlaceState.cgRunning jobTask.cg = true ∧ jobTask.engine ≠ 0 ∧ jobTask.jobQuad = some 0 ∧ jobPlaceState.fenced 0 = false ∧ jobPlaceState.qlost 0 jobTask.cg = false ∧ (jobPlaceState.engQueue 0 (jobTask.engine - 1) jobTask.prio).length < 64 ∧ jobPlaceState.outwaited jobTask (.engQ 0 (jobTask.engine - 1)) = false) ∧
    ((placeState.setTasks [{ placeTask with place := .hopper 0 }]).cluReady 0 = true ∧ (placeState.setTasks [{ placeTask with place := .hopper 0 }]).selectHead 0 = some { placeTask with place := .hopper 0 } ∧ ({ placeTask with place := .hopper 0 } : Task).marked = false ∧ ({ placeTask with place := .hopper 0 } : Task).dlMode ≠ 2 ∧ ({ placeTask with place := .hopper 0 } : Task).kid = 0 ∧ (placeState.setTasks [{ placeTask with place := .hopper 0 }]).runnable 0 0 = true ∧ (placeState.setTasks [{ placeTask with place := .hopper 0 }]).chooseTile 0 0 = some 0) ∧
    ((placeState.setTasks [{ placeTask with place := .hopper 0, cancel := true }]).cluReady 0 = true ∧ (placeState.setTasks [{ placeTask with place := .hopper 0, cancel := true }]).selectHead 0 = some { placeTask with place := .hopper 0, cancel := true } ∧ ({ placeTask with place := .hopper 0, cancel := true } : Task).dlMode ≠ 2 ∧ ({ placeTask with place := .hopper 0, cancel := true } : Task).marked = true) ∧
    (((placeState.setTasks [{ placeTask with place := .hopper 0 }]).setKernel 0 0 {}).cluReady 0 = true ∧ ({ placeTask with place := .hopper 0 } : Task).marked = false ∧ ({ placeTask with place := .hopper 0 } : Task).dlMode ≠ 2 ∧ ((placeState.setTasks [{ placeTask with place := .hopper 0 }]).setKernel 0 0 {}).selectHead 0 = some { placeTask with place := .hopper 0 } ∧ ((placeState.setTasks [{ placeTask with place := .hopper 0 }]).setKernel 0 0 {}).runnable 0 0 = false) ∧
    ((taskState { ring := 1, seq := 2, desc := 0, place := .reported }).named 1 2 (fun u => decide (u.place = .reported)) = some { ring := 1, seq := 2, desc := 0, place := .reported }) :=
  ⟨by decide +kernel,
    by decide +kernel,
    by decide +kernel,
    by decide +kernel,
    by decide +kernel,
    by decide +kernel,
    by decide +kernel⟩

theorem test_wit_records :
    (recordState.sluice.readyQ.find? (fun c => decide (c % 2 = b2n false)) = some 0 ∧ recordState.cqFirst 0 = some { placeTask with place := .ended } ∧ recordState.slotState 6 < 2 ∧ recordState.canWrite (recordState.cqOwner 0) = true ∧ recordState.fyilOn 0 = false ∧ recordState.fld (cqKey 0x050 0) 7 0 = 1 ∧ (recordState.put (cqKey 0x050 0) 7 0 0).fld (cqKey 0x050 0) 7 0 = 0 ∧ (recordState.put (cqKey 0x050 0) 7 0 0).sluice.readyQ.find? (fun c => decide (c % 2 = b2n false)) = some 0 ∧ (recordState.put (cqKey 0x050 0) 7 0 0).cqFirst 0 = some { placeTask with place := .ended } ∧ (recordState.put (cqKey 0x050 0) 7 0 0).slotState 6 < 2 ∧ (recordState.put (cqKey 0x050 0) 7 0 0).canWrite ((recordState.put (cqKey 0x050 0) 7 0 0).cqOwner 0) = true ∧ (recordState.put (cqKey 0x050 0) 7 0 0).fyilOn 0 = false) ∧
    (coalState.fld (cqKey 0x050 3) 31 16 ≠ 0 ∧ tabGet (fun _ => 0) coalState.sluice.unreported 3 ≠ 0) ∧
    (upState.hasBar2 0 = true ∧ upState.dataUr = false ∧ upState.ringOwner 0 = 0 ∧ bitsOf (3 : W32) 31 16 = 0 ∧ bitsOf (3 : W32) 15 0 = 3 ∧ bitsOf (300 : W32) 31 16 = 0 ∧ bitsOf (300 : W32) 15 0 = 300 ∧ upState.mode ≠ 4 ∧ (upState.put (ringKey 0x058 0) 15 0 3).ringPosted 0 ≤ upState.ringSize 0 ∧ upState.ringSize 0 < (upState.put (ringKey 0x058 0) 15 0 300).ringPosted 0) ∧
    ((upState.put (pgDEV + 0x040) 2 0 4).mode = 4 ∧ (upState.put (pgDEV + 0x040) 2 0 4).dataUr = false ∧ (upState.put (pgDEV + 0x040) 2 0 4).hasBar2 0 = true ∧ (upState.put (pgDEV + 0x040) 2 0 4).ringOwner 0 = 0 ∧ bitsOf (3 : W32) 31 16 = 0) ∧
    (upState.hasBar2 0 = true ∧ upState.dataUr = false ∧ upState.cqOwner 0 = 0 ∧ bitsOf (0 : W32) 31 16 = 0 ∧ (bitsOf (0 : W32) 15 0 + 65536 - upState.cqHead 0) % 65536 ≤ (upState.cqTail 0 + 65536 - upState.cqHead 0) % 65536 ∧ bitsOf (3 : W32) 31 16 = 0 ∧ (upState.cqTail 0 + 65536 - upState.cqHead 0) % 65536 < (bitsOf (3 : W32) 15 0 + 65536 - upState.cqHead 0) % 65536) ∧
    (upState.hasBar2 0 = true ∧ upState.dataUr = false ∧ (upState.put (ringKey 0x050 1) 21 16 3).hasBar2 0 = true ∧ (upState.put (ringKey 0x050 1) 21 16 3).dataUr = false ∧ (upState.put (ringKey 0x050 1) 21 16 3).ringOwner 1 ≠ 0 ∧ (upState.put (cqKey 0x04C 1) 29 24 3).hasBar2 0 = true ∧ (upState.put (cqKey 0x04C 1) 29 24 3).dataUr = false ∧ (upState.put (cqKey 0x04C 1) 29 24 3).cqOwner 1 ≠ 0) ∧
    (upState.reaches (pgCLU 2 + 0x0A4) = true) ∧
    ((upState.put (pgCLU 2 + 0x0A8) 15 0 5).fld (pgCLU 2 + 0x0A8) 15 0 ≠ 0) :=
  ⟨by decide +kernel,
    by decide +kernel,
    by decide +kernel,
    by decide +kernel,
    by decide +kernel,
    by decide +kernel,
    by decide +kernel,
    by decide +kernel⟩

theorem test_wit_pcieConfig :
    (¬ (isVf (0 : Fn) = true ∧ State.reset.vfOn 0 = false) ∧ State.reset.mode = 1 ∧ (0 : Fn).val ≠ 33) ∧
    (¬ (isVf (33 : Fn) = true ∧ upState.vfOn 33 = false) ∧ upState.mode ≠ 1) ∧
    (upState.mode ≠ 1 ∧ (1 : W3).toNat ≤ 2) ∧
    (upState.pcie.perstLow = false ∧ upState.wide = none ∧ 1 ≤ (4 : W3).toNat ∧ (16 : W5).toNat ∈ [1, 2, 4, 8, 16] ∧ (4 : W3).toNat ≤ 5) ∧
    (upState.mode = 3) ∧
    (isVf (1 : Fn) = true ∧ ({ upState.put (pgPCIE + 0x044) 5 0 4 with pcie := { upState.pcie with vfEnable := true, numVfs := 2 } } : State).vfOn 1 = true) ∧
    ((upState.put (pgPCIE + 0x040) 31 31 1).fld (pgPCIE + 0x040) 31 31 = 1) :=
  ⟨by decide +kernel,
    by decide +kernel,
    by decide +kernel,
    by decide +kernel,
    by decide +kernel,
    by decide +kernel,
    by decide +kernel⟩

theorem test_wit_messages :
    (upState.hasBar2 0 = true ∧ upState.dataUr = false) ∧
    (upState.ringOwner 7 = 0 ∧ (upState.put (ringKey 0x050 1) 21 16 3).ringOwner 1 ≠ (0 : Fn).val) ∧
    (upState.hasBar2 33 = false ∧ State.reset.dataUr = true) ∧
    (¬ (isVf (0 : Fn) = true ∧ upState.vfOn 0 = false) ∧ (5 : W11).toNat < msixSize 0 ∧ tabGet (fun _ => false) upState.pcie.pend (4096 * (0 : Fn).val + (5 : W11).toNat) = false) ∧
    (¬ (isVf (0 : Fn) = true ∧ msixState.vfOn 0 = false) ∧ (5 : W11).toNat < msixSize 0 ∧ tabGet (fun _ => false) msixState.pcie.pend (4096 * (0 : Fn).val + (5 : W11).toNat) = true ∧ (0 : Fn).val ≠ 33 ∧ tabGet (fun _ => false) msixState.pcie.msixEn (0 : Fn).val = true ∧ msixState.canMsix 0 = true) ∧
    (¬ (isVf (33 : Fn) = true ∧ upState.vfOn 33 = false) ∧ (63 : W11).toNat < msixSize 33) ∧
    (upState.reaches (pgPCIE + 0x060) = true ∧ upState.vecOn 3 = false ∧ rearmState.reaches (pgPCIE + 0x060) = true ∧ rearmState.vecOn 3 = true ∧ tabGet (fun _ => false) rearmState.pcie.msixEn 33 = true ∧ tabGet (fun _ => false) rearmState.pcie.unmasked (4096 * 33 + 3) = true ∧ rearmState.canMsix 33 = true) :=
  ⟨by decide +kernel,
    by decide +kernel,
    by decide +kernel,
    by decide +kernel,
    by decide +kernel,
    by decide +kernel,
    by decide +kernel⟩

theorem test_wit_pumpChannels :
    (vfChan.hasBar2 0 = true ∧ vfChan.dataUr = false ∧ vfChan.chOwner 2 = (0 : Fn).val ∧ bitsOf (3 : W32) 31 16 = 0 ∧ (vfChan.put (chKey 0x054 2) 15 0 (bitsOf (3 : W32) 15 0)).chPosted 2 ≤ vfChan.chSize 2 ∧ bitsOf (300 : W32) 31 16 = 0 ∧ vfChan.chSize 2 < (vfChan.put (chKey 0x054 2) 15 0 (bitsOf (300 : W32) 15 0)).chPosted 2 ∧ bitsOf (0x10000 : W32) 31 16 ≠ 0) ∧
    (pumpState.wide = none ∧ pumpState.slotState 2 ≠ 4 ∧ pumpState.fld (pgPUMP + 0x040) 3 0 = 0 ∧ pumpState.chOwner 0 = 33 ∧ (pumpState.put (chKey 0x054 0) 15 0 (bitsOf (3 : W32) 15 0)).chPosted 0 ≤ pumpState.chSize 0 ∧ pumpState.chSize 0 < (pumpState.put (chKey 0x054 0) 15 0 (bitsOf (300 : W32) 15 0)).chPosted 0 ∧ (pumpState.put (chKey 0x04C 0) 29 24 3).chOwner 0 ≠ 33) ∧
    (pumpState.chFetches 0 = true ∧ pumpState.chList 0 = [] ∧ (pumpState.chHead 0 + (pumpState.chList 0).length) % 65536 = 0 ∧ (⟨0, 4, 0⟩ : PumpDesc).invalid = false ∧ (⟨0, 4, 0⟩ : PumpDesc).fence = false ∧ pumpTwo.chFetches 0 = true ∧ pumpTwo.chList 0 ≠ [] ∧ (⟨1, 2 ^ 28 + 4, 0⟩ : PumpDesc).invalid = false ∧ (⟨1, 2 ^ 28 + 4, 0⟩ : PumpDesc).fence = true) ∧
    (({ count := 0, desc := 3 } : PumpDesc).invalid = true ∧ pumpState.chFetches 0 = true) ∧
    (∀ x ∈ [((⟨0, 4, 2⟩ : PumpDesc), (⟨[], [], false⟩ : PumpResp), 2), (⟨0, 4, 4⟩, ⟨[], [], false⟩, 4), (⟨0, 4 + 0x200000000 * 2 ^ 128, 0⟩, ⟨[1, 2, 3, 4], [], false⟩, 0), (⟨0, 4 + 0x200000000 * 2 ^ 128, 0⟩, ⟨[1, 2, 3, 4], [0], false⟩, 1), (⟨0, 4 + 0x20 * 2 ^ 128, 0⟩, ⟨[1, 2, 3, 4], [], false⟩, 3)], (pumpState.setChList 0 [x.1]).chList 0 = [x.1] ∧ ((pumpState.setChList 0 [x.1]).pumpMove ((pumpState.setChList 0 [x.1]).chOwner 0) x.1 x.2.1).2 = x.2.2) ∧
    ((pumpState.pumpMove 33 ⟨0, 4 + 0x20 * 2 ^ 128, 0⟩ ⟨[1, 2, 3], [], true⟩).2 = 2) ∧
    ((pumpState.setChList 0 [⟨0, 4 + 0x200000000 * 2 ^ 128, 0⟩]).chList 0 = [⟨0, 4 + 0x200000000 * 2 ^ 128, 0⟩] ∧ (⟨0, 4 + 0x200000000 * 2 ^ 128, 0⟩ : PumpDesc).dir = 0) ∧
    (upState.reaches (pgPUMP + 0x058) = true ∧ upState.fld (pgPUMP + 0x040) 3 0 = 0 ∧ upState.chPosted 0 = 0 ∧ upState.chList 0 = []) ∧
    (pumpTwo.reaches (pgPUMP + 0x058) = true ∧ pumpTwo.fld (pgPUMP + 0x040) 3 0 = 0 ∧ pumpTwo.chPosted 0 ≤ pumpTwo.chSize 0 ∧ (pumpTwo.chList 0).length = 1 ∧ pumpTwo.chPosted 0 = 2) ∧
    ((∀ n ∈ [2, 3], (upState.put (chKey 0x050 0) 15 14 n).reaches (pgPUMP + 0x058) = true ∧ (upState.put (chKey 0x050 0) 15 14 n).fld (pgPUMP + 0x040) 3 0 = 0 ∧ 2 ≤ (upState.put (chKey 0x050 0) 15 14 n).channelState 0) ∧ upState.reaches (pgPUMP + 0x058) = true ∧ upState.channelState 0 < 2) :=
  ⟨by decide +kernel,
    by decide +kernel,
    by decide +kernel,
    by decide +kernel,
    by decide +kernel,
    by decide +kernel,
    by decide +kernel,
    by decide +kernel,
    by decide +kernel,
    by decide +kernel⟩

theorem test_wit_vectorAlu :
    (tileState.readyX 3 2 = true ∧ (tileState.setTile 3 2 ((tileState.tile 3 2).didX [] {})).readyX 3 2 = true ∧ tileState.readyY 3 2 = true ∧ (tileState.setTile 3 2 ((tileState.tile 3 2).didX [] {})).readyY 3 2 = true) ∧
    (tileState.readyX 3 2 = true ∧ (roundState.regsX 3 2).rnd = true ∧ roundState.readyX 3 2 = true ∧ (tileState.regsX 3 2).rnd = false) :=
  ⟨by decide +kernel,
    by decide +kernel⟩

theorem test_wit_macAndAccumulators :
    (tileState.readyX 3 2 = true) ∧
    (tileState.readyX 3 2 = true ∧ (30 : VReg) ≠ 31) ∧
    (tileState.readyX 3 2 = true ∧ (30 : VReg) ≠ 31 ∧ (14 : W4).toNat % 2 = 0) ∧
    (tileState.readyX 3 2 = true ∧ ((31 : VReg) = 31 ∨ (0 : VReg) = 31) ∧ ((30 : VReg) = 31 ∨ (15 : W4).toNat % 2 = 1)) ∧
    (tileState.readyX 3 2 = true ∧ roundState.readyX 3 2 = true ∧ (8 : W4) ≠ 0 ∧ (8 : W4).toNat ≤ 8 ∧ (1 : W4) ≠ 0 ∧ (1 : W4).toNat ≤ 8) ∧
    (tileState.readyX 3 2 = true ∧ ((9 : W4) = 0 ∨ 8 < (9 : W4).toNat)) :=
  ⟨by decide +kernel,
    by decide +kernel,
    by decide +kernel,
    by decide +kernel,
    by decide +kernel,
    by decide +kernel⟩

theorem test_wit_addressing :
    ((({ p := [(1, 8)] } : TileRegs).getP 1).toNat % 4 = 0 ∧ (({ p := [(1, 8)] } : TileRegs).getP 1).toNat + 4 * 16 ≤ 0x40000 ∧ ({ p := [(1, 8)] } : TileRegs).getL 1 = 0) ∧
    (({ p := [(1, 24)], b := [(1, 16)], l := [(1, 12)] } : TileRegs).getL 1 = 12 ∧ ({ p := [(1, 24)], b := [(1, 16)], l := [(1, 12)] } : TileRegs).addressOf 1 1 8 2 4 false = .ok [24, 16] 20 ∧ (({ l := [(1, 6)] } : TileRegs).getL 1).toNat % 4 ≠ 0 ∧ (({ l := [(1, 12)], b := [(1, 16)] } : TileRegs).getP 1).toNat < (({ l := [(1, 12)], b := [(1, 16)] } : TileRegs).getB 1).toNat) ∧
    (({ p := [(1, 24)], b := [(1, 16)], l := [(1, 16)] } : TileRegs).addressOf 1 2 8 2 4 false = .ok [24, 28] 20 ∧ (({ l := [(1, 4)] } : TileRegs).getL 1).toNat = 4 ∧ ∀ j, 3 ≤ j → j ≤ 18 → 4 ≠ 2 ^ j) ∧
    (3 ≤ 4 ∧ 4 ≤ 6 ∧ 3 < 2 ^ (4 - 2)) ∧
    (({ p := [(1, 64)], s := [(2, 0xFFFFFFF8)] } : TileRegs).addressOf 1 3 0x1001 2 4 false = .ok [64, 56] 68 ∧ (({ s := [(2, 6)] } : TileRegs).getS (bitsOf (0x1001 : W16) 15 11)).toInt % 4 ≠ 0) :=
  ⟨by decide +kernel,
    by decide +kernel,
    ⟨by decide +kernel, by decide +kernel, fun j h _ e => absurd (Nat.pow_le_pow_right (n := 2) (by decide) h) (by omega)⟩,
    by decide +kernel,
    by decide +kernel⟩

theorem test_wit_loadsAndStores :
    (tileState.readyY 3 2 = true ∧ tileState.clashes 3 2 [.v 5, .p 1] = false ∧ (tileState.regsY 3 2).addressOf 1 3 0 16 4 false = .ok (List.replicate 16 0) 0 ∧ ((tileState.inY 3 2).readElems 3 2 (List.replicate 16 0)).2.2 = false) ∧
    (tileState.readyY 3 2 = true ∧ tileState.clashes 3 2 [.v 30, .v 31, .p 1] = false ∧ (30 : VReg) ≠ 31 ∧ (tileState.regsY 3 2).addressOf 1 3 0 17 4 false = .ok (List.replicate 17 0) 0 ∧ ((tileState.inY 3 2).readElems 3 2 (List.replicate 17 0)).2.2 = false) ∧
    (∀ x ∈ [8, 12], (tileState.storeWord (tileAddr 3 2 8) 5 0).isValid (tileAddr 3 2 (x - x % 8)) = true ∧ (tileState.storeWord (tileAddr 3 2 8) 5 0).syndrome (tileAddr 3 2 (x - x % 8)) = 0 ∧ (tileState.storeWord (tileAddr 3 2 8) 5 0).mergeLines (memLoc (tileAddr 3 2 (x - x % 8))).unit = []) ∧
    (15 < 16) ∧
    (tileState.readyY 3 2 = true ∧ tileState.clashes 3 2 [.s 4, .p 1] = false ∧ (∀ z ∈ [ScalarSize.byte, .half, .word], (tileState.regsY 3 2).addressOf 1 0 8 1 (scalarBytes z) true = .ok [0] 8) ∧ ((tileState.inY 3 2).readElems 3 2 [0]).2 = ([0], false)) ∧
    (tileState.readyY 3 2 = true ∧ tileState.clashes 3 2 [.p 1] = false ∧ (tileState.regsY 3 2).addressOf 1 0 8 16 4 false = .ok ((List.range 16).map (fun i => 4 * i)) 8) ∧
    (tileState.readyY 3 2 = true ∧ tileState.clashes 3 2 [.p 1] = false ∧ ((tileState.regsY 3 2).getP 1).toNat % 8 = 0 ∧ ((tileState.regsY 3 2).getP 1).toNat + 64 ≤ 0x40000) ∧
    (tileState.readyY 3 2 = true ∧ tileState.clashes 3 2 [.p 1] = false ∧ (tileState.regsY 3 2).addressOf 1 0 8 1 1 true = .ok [0] 8 ∧ (tileState.inY 3 2).mergeLines (memLoc (tileAddr 3 2 0)).unit = []) ∧
    ((∀ n ∈ [2, 0x3FFFE], (pointState n).readyY 3 2 = true ∧ (pointState n).clashes 3 2 [.v 5, .p 1] = false ∧ (pointState n).clashes 3 2 [.p 1] = false ∧ (pointState n).clashes 3 2 [.s 4, .p 1] = false ∧ (pointState n).clashes 3 2 [.v 31, .v 32, .p 1] = false ∧ ((pointState n).regsY 3 2).addressOf 1 0 8 1 4 true = .fault 2) ∧ ((pointState 0x3FFFC).regsY 3 2).addressOf 1 0 8 16 4 false = .fault 3 ∧ (pointState 0x3FFFC).readyY 3 2 = true ∧ (pointState 0x3FFFC).clashes 3 2 [.v 5, .p 1] = false) ∧
    (badTile.readyY 3 2 = true ∧ badTile.clashes 3 2 [.v 5, .p 1] = false ∧ (badTile.regsY 3 2).addressOf 1 3 0 16 4 false = .ok (List.replicate 16 0) 0 ∧ ((badTile.inY 3 2).readElems 3 2 (List.replicate 16 0)).2.2 = true) :=
  ⟨by decide +kernel,
    by decide +kernel,
    by decide +kernel,
    by decide +kernel,
    by decide +kernel,
    by decide +kernel,
    by decide +kernel,
    by decide +kernel,
    by decide +kernel,
    by decide +kernel⟩

theorem test_wit_scalarAndControl :
    (tileState.readyY 3 2 = true ∧ tileState.clashes 3 2 [.s 0] = false) ∧
    (tileState.readyY 3 2 = true ∧ tileState.clashes 3 2 [.s 31] = false ∧ (0x7FFF : W16).toNat < 32768) ∧
    (tileState.readyY 3 2 = true ∧ tileState.clashes 3 2 [.s 0] = false) ∧
    (tileState.readyY 3 2 = true ∧ tileState.clashes 3 2 [.p 7] = false ∧ tileState.clashes 3 2 [.b 7] = false ∧ tileState.clashes 3 2 [.l 7] = false) ∧
    ((bufTile 24 16 12).readyY 3 2 = true ∧ (bufTile 24 16 12).clashes 3 2 [.p 1] = false ∧ ((bufTile 24 16 12).regsY 3 2).getP 1 = 24 ∧ ((bufTile 24 16 12).regsY 3 2).getB 1 = 16 ∧ ((bufTile 24 16 12).regsY 3 2).getL 1 = 12 ∧ (bufTile 28 16 12).readyY 3 2 = true ∧ ((bufTile 28 16 12).regsY 3 2).getP 1 = 28 ∧ ((bufTile 28 16 12).regsY 3 2).getL 1 = 12 ∧ ((bufTile 24 16 6).regsY 3 2).getL 1 = 6 ∧ (bufTile 24 16 6).readyY 3 2 = true ∧ tileState.readyY 3 2 = true ∧ (tileState.regsY 3 2).getL 1 = 0) ∧
    ((loopTile [⟨5, 0, 1⟩]).readyY 3 2 = true ∧ (loopTile [⟨5, 0, 1⟩]).clashes 3 2 [.s 0] = false ∧ ((loopTile [⟨5, 0, 1⟩]).regsY 3 2).loops.reverse[0]? = some ⟨5, 0, 1⟩ ∧ ((loopTile [⟨5, 0, 1⟩]).tile 3 2).dma.length ≤ 8) ∧
    (tileState.readyY 3 2 = true ∧ ∀ i < 64, tileState.clashes 3 2 [.ctrl i] = false) :=
  ⟨by decide +kernel,
    by decide +kernel,
    by decide +kernel,
    by decide +kernel,
    by decide +kernel,
    by decide +kernel,
    by decide +kernel⟩

theorem test_wit_controlFlow :
    (tileState.readyY 3 2 = true ∧ (6 : W4).toNat < 7 ∧ 7 ≤ (7 : W4).toNat) ∧
    ((∀ l ∈ [[], [5], [1, 2, 3, 4, 5, 6, 7, 8]], (retTile l).readyY 3 2 = true ∧ ((retTile l).regsY 3 2).ret = l)) ∧
    ((retTile [5]).readyY 3 2 = true ∧ ((retTile [5]).regsY 3 2).ret ≠ [] ∧ ((retTile [5]).regsY 3 2).ret.length < 8 ∧ ((([CopBehind.op .madd 0 1 0 2 3].foldl Tile.handOver ((retTile [5]).tile 3 2)).beginBehind [0]).squashTags [0]).copStop = true) ∧
    ((loopTile []).readyY 3 2 = true ∧ ((loopTile []).regsY 3 2).loops.length < 4 ∧ (loopTile [⟨5, 0, 1⟩, ⟨5, 0, 2⟩, ⟨5, 0, 3⟩, ⟨5, 0, 4⟩]).readyY 3 2 = true ∧ 4 ≤ ((loopTile [⟨5, 0, 1⟩, ⟨5, 0, 2⟩, ⟨5, 0, 3⟩, ⟨5, 0, 4⟩]).regsY 3 2).loops.length) ∧
    ((({ loops := [⟨5, 0, 3⟩], pc := 3 } : TileRegs).endBundle .next).pc = 0 ∧ (({ loops := [⟨1, 0, 3⟩], pc := 3 } : TileRegs).endBundle .next).pc = 4) ∧
    ((({ loops := [⟨5, 0, 3⟩], pc := 3 } : TileRegs).endBundle (.jump 9)).loops = [] ∧ ∀ l ∈ ({ loops := [⟨5, 0, 3⟩], pc := 2 } : TileRegs).loops, l.le ≠ ({ loops := [⟨5, 0, 3⟩], pc := 2 } : TileRegs).pc) :=
  ⟨by decide +kernel,
    by decide +kernel,
    by decide +kernel,
    by decide +kernel,
    by decide +kernel,
    by decide +kernel⟩

theorem test_wit_tileLife :
    (tileState.readyY 3 2 = true ∧ (tileState.tile 3 2).dmaErr = 0 ∧ bit (tileState.reg (pgCLU 3 + 0x040)) 2 = false) ∧
    (satTile.readyY 3 2 = true ∧ (satTile.tile 3 2).dmaErr = 0 ∧ bit (satTile.reg (pgCLU 3 + 0x040)) 2 = true ∧ (satTile.tile 3 2).regs.extSat ≠ 0) ∧
    ((tileState.setTile 3 2 { tileState.tile 3 2 with dmaErr := 1 }).readyY 3 2 = true ∧ ((tileState.setTile 3 2 { tileState.tile 3 2 with dmaErr := 1 }).tile 3 2).dmaErr ≠ 0) ∧
    (endingState.fenced 0 = false ∧ (endingState.tile 3 2).phase = .ending ∧ (endingState.tile 3 2).dma = [] ∧ endingState.findTask (endingState.tile 3 2).ring (endingState.tile 3 2).seq = some { ring := 1, seq := 2, desc := 0, place := .tile 3 2 }) ∧
    (((tileState.setTile 3 2 { tileState.tile 3 2 with limitKc := 9 }).tile 3 2).running = true ∧ ((tileState.setTile 3 2 { tileState.tile 3 2 with limitKc := 9 }).tile 3 2).limitKc ≠ 0) ∧
    ((tileState.tileFault 3 2 5).tile 3 2 = { phase := .faulted, klen := 2 }) ∧
    (tileState.readyX 3 2 = true ∧ (tileState.tile 3 2).stallX = false ∧ tileState.readyY 3 2 = true ∧ (tileState.tile 3 2).stallY = false ∧ (tileState.setTile 3 2 ((tileState.tile 3 2).didX [.p 4] {})).readyY 3 2 = true ∧ (tileState.setTile 3 2 ((tileState.tile 3 2).didX [.p 4] {})).clashes 3 2 [.p 4] = true) ∧
    (((tileState.setTile 3 2 { phase := .running, klen := 0 }).tile 3 2).running = true ∧ ((tileState.setTile 3 2 { phase := .running, klen := 0 }).tile 3 2).stallY = false ∧ (tileState.setTile 3 2 { phase := .running, klen := 0 }).atBundle 3 2 = tileState.setTile 3 2 { phase := .running, klen := 0 } ∧ ((tileState.setTile 3 2 { phase := .running, klen := 0 }).tile 3 2).kbase + ((tileState.setTile 3 2 { phase := .running, klen := 0 }).tile 3 2).klen ≤ ((tileState.setTile 3 2 { phase := .running, klen := 0 }).tile 3 2).regs.pc) :=
  ⟨by decide +kernel,
    by decide +kernel,
    by decide +kernel,
    by decide +kernel,
    by decide +kernel,
    by decide +kernel,
    by decide +kernel,
    by decide +kernel⟩

theorem test_wit_dmaAndWindows :
    ((dmaTile 64).readyY 3 2 = true ∧ ((dmaTile 64).regsY 3 2).getP 1 = 0 ∧ ((dmaTile 64).regsY 3 2).getL 1 = 0 ∧ ((dmaTile 64).regsY 3 2).getS 2 = 64 ∧ (((dmaTile 64).regsY 3 2).getS 0).toNat % 4 = 0 ∧ ((dmaTile 64).tile 3 2).dma.length < 8 ∧ (0 : SReg).toNat % 2 = 0) ∧
    ((ringTile 128).readyY 3 2 = true ∧ (ringTile 128).clashes 3 2 [.p 1, .s 0, .s 1] = false ∧ ((ringTile 128).regsY 3 2).getP 1 = 0 ∧ ((ringTile 128).regsY 3 2).getB 1 = 0 ∧ ((ringTile 128).regsY 3 2).getL 1 = 128 ∧ ((ringTile 128).regsY 3 2).getS 2 = 64 ∧ (((ringTile 128).regsY 3 2).getS 0).toNat % 4 = 0 ∧ ((ringTile 128).tile 3 2).dma.length < 8) ∧
    ((∀ n ∈ [64, 65, 65536], (dmaTile (BitVec.ofNat 32 n)).readyY 3 2 = true ∧ (dmaTile (BitVec.ofNat 32 n)).clashes 3 2 [.p 1, .s 0, .s 1] = false ∧ (((dmaTile (BitVec.ofNat 32 n)).regsY 3 2).getS 2).toNat = n ∧ (((dmaTile (BitVec.ofNat 32 n)).regsY 3 2).getS 0).toNat % 4 = 0 ∧ ((dmaTile (BitVec.ofNat 32 n)).tile 3 2).dma.length < 8) ∧ (1 : SReg).toNat % 2 = 1 ∧ (queued 8).readyY 3 2 = true ∧ ((queued 8).tile 3 2).dma.length = 8 ∧ (ringTile 126).readyY 3 2 = true ∧ ((ringTile 126).regsY 3 2).getL 1 = 126 ∧ (farPtr 0x3FFE0).readyY 3 2 = true ∧ ((farPtr 0x3FFE0).regsY 3 2).getP 1 = 0x3FFE0) ∧
    (((queued 1).tile 3 2).dma[0]? = some ⟨true, 0, 0, 0, 0x100000, 4, 0, false⟩ ∧ (∀ f ∈ ((queued 1).tile 3 2).dma.take 0, f.tag ≠ 0) ∧ (queued 1).readNear 3 2 (DmaEntry.nearAddrs ⟨true, 0, 0, 0, 0x100000, 4, 0, false⟩) = (queued 1, [(0, false), (0, false), (0, false), (0, false)]) ∧ anyPoison [(0, false), (0, false), (0, false), (0, false)] = false) ∧
    (((queuedIn cisternBase).tile 3 2).dma[0]? = some ⟨false, 0, 0, 0, cisternBase, 4, 0, false⟩ ∧ ((queuedIn cisternBase).devRead { cg := some 0, quad := 0 } cisternBase 4).2.2 = true ∧ anyPoison ((queuedIn cisternBase).devRead { cg := some 0, quad := 0 } cisternBase 4).2.1 = false) ∧
    (((queuedIn 16).tile 3 2).dma[0]? = some ⟨false, 0, 0, 0, 16, 4, 0, false⟩ ∧ ((queuedIn 16).runDma 3 2 ⟨false, 0, 0, 0, 16, 4, 0, false⟩).2 = true ∧ (((queuedIn 16).runDma 3 2 ⟨false, 0, 0, 0, 16, 4, 0, false⟩).1.tile 3 2).phase = .running) ∧
    ((queuedEnd.tile 3 2).dma[0]? = some ⟨false, 0, 0, 0, 16, 4, 0, false⟩ ∧ (queuedEnd.runDma 3 2 ⟨false, 0, 0, 0, 16, 4, 0, false⟩).2 = true ∧ ((queuedEnd.runDma 3 2 ⟨false, 0, 0, 0, 16, 4, 0, false⟩).1.tile 3 2).phase = .ending) ∧
    (tileState.readyY 3 2 = true ∧ (tileState.tile 3 2).outstanding &&& 255 = 0 ∧ (tileState.tile 3 2).dmaErr &&& 255 = 0 ∧ (queued 1).readyY 3 2 = true ∧ ((queued 1).tile 3 2).outstanding &&& 1 ≠ 0 ∧ (tileState.setTile 3 2 { tileState.tile 3 2 with dmaErr := 1 }).readyY 3 2 = true ∧ ((tileState.setTile 3 2 { tileState.tile 3 2 with dmaErr := 1 }).tile 3 2).dmaErr &&& 1 ≠ 0) ∧
    (tileState.readyY 3 2 = true ∧ (∀ k < 8, k ≠ 2 → ∀ v < 4, (((tileState.tile 3 k).window v).armed = true → ((tileState.tile 3 k).window v).key ≠ 0)) ∧ armedTile.readyY 3 2 = true ∧ (∃ k < 8, k ≠ 2 ∧ ∃ v < 4, ((armedTile.tile 3 k).window v).armed = true ∧ ((armedTile.tile 3 k).window v).key = 0) ∧ ((dmaTile 65).regsY 3 2).getS 2 = 65 ∧ (dmaTile 65).readyY 3 2 = true ∧ ((dmaTile 0x40008).regsY 3 2).getS 2 = 0x40008 ∧ (dmaTile 0x40008).readyY 3 2 = true ∧ ((dmaTile 0x40008).regsY 3 2).getS 3 = 0) :=
  ⟨by decide +kernel,
    by decide +kernel,
    by decide +kernel,
    by decide +kernel,
    by decide +kernel,
    by decide +kernel,
    by decide +kernel,
    by decide +kernel,
    by decide +kernel⟩

theorem test_wit_coprocessorIssue :
    (copTile.readyX 3 2 = true ∧ (copTile.inX 3 2).copEn 3 = true ∧ ((copTile.atBundle 3 2).tile 3 2).pendW 5 = false ∧ ((copTile.atBundle 3 2).tile 3 2).pendR 5 = false) ∧
    (copTile.readyX 3 2 = true ∧ (copTile.inX 3 2).copEn 3 = true ∧ ((copTile.atBundle 3 2).tile 3 2).pendW 15 = false) ∧
    (copBusy.readyX 3 2 = true ∧ (copBusy.inX 3 2).copEn 3 = true ∧ ((copBusy.atBundle 3 2).tile 3 2).pendW 5 = true ∧ ((copBusy.atBundle 3 2).tile 3 2).pendR 6 = true ∧ ((tileState.put (pgCLU 3 + 0x040) 1 1 0).inX 3 2).copEn 3 = false ∧ (tileState.put (pgCLU 3 + 0x040) 1 1 0).readyX 3 2 = true) ∧
    (copTile.readyX 3 2 = true ∧ (copTile.inX 3 2).copEn 3 = true ∧ ((copTile.atBundle 3 2).tile 3 2).copQ.length < 4 ∧ (5 : MReg) ≠ 6) ∧
    (copFull.readyX 3 2 = true ∧ (copFull.inX 3 2).copEn 3 = true ∧ 4 ≤ ((copFull.atBundle 3 2).tile 3 2).copQ.length) ∧
    (copTile.readyX 3 2 = true ∧ (copTile.inX 3 2).copEn 3 = true ∧ ((copTile.atBundle 3 2).tile 3 2).copLive = [] ∧ copBusy.readyX 3 2 = true ∧ (copBusy.inX 3 2).copEn 3 = true ∧ ((copBusy.atBundle 3 2).tile 3 2).copLive ≠ []) ∧
    ((copBusy.tile 3 2).copUnit = none ∧ (copBusy.tile 3 2).snap = none ∧ (copBusy.tile 3 2).copQ = [⟨0, .madd, 1, 5, 0, 6, 7⟩]) ∧
    ((copRuns.tile 3 2).copUnit = some ⟨0, .madd, 1, 5, 0, 6, 7⟩ ∧ (copRuns.tile 3 2).copStop = false) ∧
    (((copRuns.setTile 3 2 { copRuns.tile 3 2 with copStop := true }).tile 3 2).copStop = true) :=
  ⟨by decide +kernel,
    by decide +kernel,
    by decide +kernel,
    by decide +kernel,
    by decide +kernel,
    by decide +kernel,
    by decide +kernel,
    by decide +kernel,
    by decide +kernel⟩

theorem test_wit_coprocessorResults :
    ((normalise 0 (fun _ _ _ => (40000, 0)) 1 1).flags = 1 ∧ (normalise 0 (fun _ _ _ => (1, 0)) 1 1).e = -16 ∧ (∀ i < 1, ∀ j < 1, -32768 ≤ (((1, 0) : Int × Int)).1 ∧ (((1, 0) : Int × Int)).2 ≤ 32767)) ∧
    (({ tag := 0, kind := .mmul true false, n := 2, md := 5, mr := 0, ma := 6, mb := 7 } : CopOp).kind = .mmul true false) ∧
    (0 < (⟨5, 2⟩ : Q).den ∧ -32768 * ((⟨5, 2⟩ : Q).den : Int) ≤ (⟨5, 2⟩ : Q).num ∧ (⟨5, 2⟩ : Q).num ≤ 32767 * ((⟨5, 2⟩ : Q).den : Int)) ∧
    (0 < 2 ∧ ∀ i < 2, ∀ j < 2, ({} : TileRegs).elemZ 0 i j = (0, 0) ∧ (({} : TileRegs).elemZ 0 i i).1 ≤ 0) ∧
    ((normalise 0 (fun _ _ _ => (1, 0)) 1 1).mant.length = 64 ∧ -16 ≤ (normalise 0 (fun _ _ _ => (1, 0)) 1 1).e ∧ (normalise 0 (fun _ _ _ => (1, 0)) 1 1).e ≤ 15) :=
  ⟨by decide +kernel,
    by decide +kernel,
    by decide +kernel,
    by decide +kernel,
    by decide +kernel⟩

theorem test_wit_laneBringUp :
    ((∀ m ∈ [0, 1, 2], ((laneAt 0).put (pgLANE 0 + 0x040) 11 10 m).laneState 0 = 0 ∧ ((laneAt 0).put (pgLANE 0 + 0x040) 11 10 m).laneOpen 0 = true ∧ ((laneAt 0).put (pgLANE 0 + 0x040) 11 10 m).laneMode 0 = m) ∧ ((laneAt 0).linkOf 0) = (0, 1) ∧ ethRow 1 ((ethAt 0).maxRate 0) = true ∧ (ethAt 0).laneOpen 0 = true ∧ (ethAt 0).laneState 0 = 0 ∧ ((ethAt 0).put (pgLANE 0 + 0x040) 2 0 1).laneOpen 0 = true ∧ ((ethAt 0).put (pgLANE 0 + 0x040) 2 0 1).laneMode 0 = 1 ∧ ethRow 1 (((ethAt 0).put (pgLANE 0 + 0x040) 2 0 1).maxRate 0) = false) ∧
    ((laneAt 0).laneState 0 = 0) ∧
    ((laneAt 1).laneOn 0 = true ∧ (laneAt 1).laneState 0 = 1) ∧
    ((laneAt 2).laneOn 0 = true ∧ (laneAt 2).laneState 0 = 2 ∧ (laneAt 2).txOpen 0 = true ∧ ((laneAt 2).setLane 0 { squelch := true }).laneOn 0 = true ∧ ((laneAt 2).setLane 0 { squelch := true }).laneState 0 = 2 ∧ ((laneAt 2).setLane 0 { squelch := true }).txOpen 0 = false) ∧
    (readyAt.laneState 0 = 2 ∧ 3 ≤ (readyAt.lane 0).sent ∧ 3 ≤ (readyAt.lane 0).got ∧ (readyAt.targets 0).2 = (readyAt.targets 0).1 ∧ (readyAt.targets 0).1 = 0 ∧ (readyAt3.targets 0).1 = 3 ∧ (readyAt3.targets 0).2 = 3 ∧ readyAt3.laneState 0 = 2 ∧ 3 ≤ (readyAt3.lane 0).sent ∧ 3 ≤ (readyAt3.lane 0).got) ∧
    (targetOf 4 3 4 (fun r => if r = 3 then 2 else 0) = 2) ∧
    ((laneAt 2).laneOn 0 = true ∧ (laneAt 2).laneState 0 = 2 ∧ helloValid 0x48 0 = false ∧ helloValid 0x44 0 = false ∧ helloValid 0x48 goodHelloData = true ∧ ((laneAt 2).lane 0).known = false ∧ ((laneAt 2).lane 0).partner = none ∧ (laneAt 3).laneState 0 = 3 ∧ (laneAt 3).laneOn 0 = true ∧ ((laneAt 3).lane 0).known = false ∧ ((laneAt 3).lane 0).partner = none) ∧
    (helloValid 0x48 goodHelloData = true ∧ (helloFields goodHelloData).serial = 7) ∧
    ((laneAt 2).laneOn 0 = true ∧ (laneAt 2).laneState 0 = 2 ∧ helloValid 0x44 departData = true ∧ helloValid 0x48 0 = false ∧ helloValid 0x44 0 = false) ∧
    ((laneAt 3).laneOn 0 = true ∧ (laneAt 3).laneState 0 = 3 ∧ (laneAt 3).forerunner 0 = false ∧ ((laneAt 3).lane 0).train < 4 ∧ ((laneAt 3).setLane 0 { train := 4 }).laneOn 0 = true ∧ ((laneAt 3).setLane 0 { train := 4 }).laneState 0 = 3 ∧ ((laneAt 3).setLane 0 { train := 4 }).forerunner 0 = false ∧ 4 ≤ (((laneAt 3).setLane 0 { train := 4 }).lane 0).train ∧ (laneAt 6).laneOn 0 = true ∧ (laneAt 6).laneState 0 = 6) ∧
    (lockedAt.laneOn 0 = true ∧ lockedAt.laneState 0 = 3 ∧ lockedAt.rxLock 0 = true ∧ (lockedAt.lane 0).train < 3 ∧ (lockedAt.setLane 0 { train := 3 }).laneOn 0 = true ∧ (lockedAt.setLane 0 { train := 3 }).laneState 0 = 3 ∧ (lockedAt.setLane 0 { train := 3 }).rxLock 0 = true ∧ 3 ≤ ((lockedAt.setLane 0 { train := 3 }).lane 0).train) ∧
    ((laneAt 3).laneState 0 = 3) ∧
    ((laneAt 3).laneState 0 = 3 ∧ (laneAt 4).laneState 0 = 4) ∧
    (2 < 16 ∧ 1 ≤ ((laneAt 3).put (pgLANE 0 + 0x044) 19 17 4).laneTarget 0 ∧ ((laneAt 3).put (pgLANE 0 + 0x044) 19 17 4).laneTarget 0 ≤ 4) ∧
    ((((laneAt 1).setLane 0 { squelch := true }).lane 0).squelch = true ∧ ((laneAt 1).setLane 0 { squelch := true }).laneState 0 ≠ 0 ∧ (laneAt 1).txOpen 0 = true ∧ (((laneAt 1).setLane 0 { squelch := true }).setLane 0 { squelch := false }).txOpen 0 = true ∧ (((laneAt 0).setLane 0 { squelch := true }).lane 0).squelch = true ∧ ((laneAt 0).setLane 0 { squelch := true }).laneState 0 = 0) ∧
    ((foreAt 3).laneOn 0 = true ∧ (foreAt 3).laneState 0 = 3 ∧ (foreAt 3).forerunner 0 = true) ∧
    ((∀ n ∈ [4, 5], (foreAt n).laneOn 0 = true ∧ (foreAt n).laneState 0 = n ∧ (foreAt n).forerunner 0 = true)) ∧
    ((foreAt 4).reaches (pgLANE 0 + 0x050) = true ∧ (foreAt 4).laneState 0 = 4) ∧
    (((foreAt 4).put (pgLANE 0 + 0x050) 19 16 3).reaches (pgLANE 0 + 0x050) = true ∧ ((foreAt 4).put (pgLANE 0 + 0x050) 19 16 3).laneState 0 = 4 ∧ ((foreAt 4).put (pgLANE 0 + 0x050) 19 16 3).fld (pgLANE 0 + 0x050) 19 16 ≠ 0 ∧ ((foreAt 4).put (pgLANE 0 + 0x050) 19 16 3).fld (pgLANE 0 + 0x050) 10 0 = 0 ∧ (foreAt 4).reaches (pgLANE 0 + 0x050) = true ∧ (foreAt 4).fld (pgLANE 0 + 0x050) 19 16 = 0) :=
  ⟨by decide +kernel,
    by decide +kernel,
    by decide +kernel,
    by decide +kernel,
    by decide +kernel,
    by decide +kernel,
    by decide +kernel,
    by decide +kernel,
    by decide +kernel,
    by decide +kernel,
    by decide +kernel,
    by decide +kernel,
    by decide +kernel,
    by decide +kernel,
    by decide +kernel,
    by decide +kernel,
    by decide +kernel,
    by decide +kernel,
    by decide +kernel⟩

theorem test_wit_laneLossAndControl :
    (∀ n ∈ [2, 3, 4, 5], (laneAt n).laneOn 0 = true ∧ (laneAt n).lossApplies 0 5 = true ∧ (5 : W4) ≠ 1 ∧ (laneAt n).laneState 0 = n) ∧
    ((laneAt 5).laneOn 0 = true ∧ (laneAt 5).laneState 0 = 5 ∧ (laneAt 1).laneOn 0 = true ∧ (laneAt 1).lossApplies 0 1 = false ∧ (laneAt 1).fenced 0 = false ∧ (laneAt 1).lossApplies 0 5 = false) ∧
    (twoUp.laneOn 0 = true ∧ twoUp.laneOn 1 = true ∧ twoUp.laneState 0 = 5 ∧ twoUp.laneState 1 = 5 ∧ twoUp.lossApplies 0 5 = true ∧ twoUp.lossApplies 1 1 = true) ∧
    ((laneAt 1).laneState 0 < 2 ∧ 2 ≤ (laneAt 5).laneState 0 ∧ (laneAt 5).laneState 0 ≤ 5 ∧ (laneAt 5).laneRate 0 = 0 ∧ 1 ≤ ((laneAt 5).put (pgLANE 0 + 0x044) 22 20 3).laneRate 0) ∧
    ((laneAt 1).reaches (pgLANE 0 + 0x040) = true ∧ (match regAt (pgLANE 0 + 0x040) with | some (p, d) => (laneAt 1).scopesOpen p 0x040 d ((laneAt 1).reg (pgLANE 0 + 0x040)) 0x80000003 && decide (d.newWord ((laneAt 1).reg (pgLANE 0 + 0x040)) 0x80000003 ≠ (laneAt 1).reg (pgLANE 0 + 0x040)) && (laneAt 1).scopesOpen p 0x040 d ((laneAt 1).reg (pgLANE 0 + 0x040)) 0x80000404 && decide (bitsOf (d.newWord ((laneAt 1).reg (pgLANE 0 + 0x040)) 0x80000404) 11 10 = 1) && decide (d.newWord ((laneAt 1).reg (pgLANE 0 + 0x040)) ((laneAt 1).reg (pgLANE 0 + 0x040)) = (laneAt 1).reg (pgLANE 0 + 0x040)) | none => false) = true ∧ bitsOf ((laneAt 1).reg (pgLANE 0 + 0x040)) 11 10 = 0 ∧ ((laneAt 1).linkOf 0).1 = 0 ∧ bitsOf (0x80000C00 : W32) 11 10 = 3) ∧
    ((laneAt 1).reaches (pgLANE 0 + 0x048) = true ∧ (laneAt 1).quadHalted 0 = true ∧ fetchState.reaches (pgLANE 0 + 0x048) = true ∧ fetchState.quadHalted 0 = false) ∧
    (upState.reaches (pgLANE 4 + 0x07C) = true ∧ (match regAt (pgLANE 4 + 0x07C) with | some (p, d) => upState.scopesOpen p 0x07C d (upState.reg (pgLANE 4 + 0x07C)) 1 && decide (d.newWord (upState.reg (pgLANE 4 + 0x07C)) 1 ≠ upState.reg (pgLANE 4 + 0x07C)) && decide (bitsOf (d.newWord (upState.reg (pgLANE 4 + 0x07C)) 1) 0 0 = 1) | none => false) = true ∧ upState.reaches (pgLANE 5 + 0x07C) = true ∧ (regAt (pgLANE 5 + 0x07C)).isSome = true) ∧
    (upState.quadDark 0 = false ∧ upState.qrefLocked (4 * (1 : LaneQuad)) = false ∧ upState.qrefSel (4 * (1 : LaneQuad)) = false) ∧
    ((laneAt 5).qrefLocked (4 * (0 : LaneQuad)) = true ∧ (laneAt 5).qrefSel (4 * (0 : LaneQuad)) = false) ∧
    (upState.fenced 0 = false) ∧
    ((laneAt 7).laneState 0 ≠ 0 ∧ (laneAt 5).laneState 0 ≠ 0) ∧
    (pairUp.ptLanes 0 &&& 2 ^ (1 - 0) ≠ 0 ∧ pairUp.ptLanes 0 &&& (0xFF - 2 ^ (1 - 0)) ≠ 0 ∧ (pairUp.linkOf 1).1 = 0 ∧ pairUp.ptPresent 0 = true ∧ (pairUp.lane 1).partner = some 7) :=
  ⟨by decide +kernel,
    by decide +kernel,
    by decide +kernel,
    by decide +kernel,
    by decide +kernel,
    by decide +kernel,
    by decide +kernel,
    by decide +kernel,
    by decide +kernel,
    by decide +kernel,
    by decide +kernel,
    by decide +kernel⟩

theorem test_wit_portsAndMeasurement :
    (ethAtUp.laneMode 0 = 1 ∧ ethAtUp.linkOf 0 = (0, 1) ∧ (∀ i ∈ ethAtUp.linkLanes 0, ethAtUp.laneOn i = true ∧ ethAtUp.laneState i = 6) ∧ ethRow 1 (ethAtUp.maxRate 0) = true ∧ ethAtUp.ptPresent 0 = true ∧ (∀ i ∈ (ethAt 6).linkLanes 0, (ethAt 6).laneOn i = true ∧ (ethAt 6).laneState i = 6) ∧ (ethAt 6).ptPresent 0 = false) ∧
    ((ethAt 6).linkOf 0 = (0, 1) ∧ (ethAt 6).laneMode 0 = 1 ∧ (ethAt 6).laneOn 0 = true ∧ (ethAt 6).laneState 0 = 6 ∧ ethRow 1 ((ethAt 6).maxRate 0) = true ∧ (ethAt 6).ptPresent 0 = false) ∧
    ((ethAt 7).laneState 0 = 7 ∧ (ethAt 6).laneState 0 = 6) ∧
    ((chkAt 0).laneOn 0 = true ∧ (chkAt 0).laneState 0 = 8 ∧ (chkAt 0).fld (pgLANE 0 + 0x064) 30 30 = 1 ∧ (chkAt 0).loopback 0 ≠ 1 ∧ prbsMatches ((chkAt 0).fld (pgLANE 0 + 0x064) 29 28) 0 = true ∧ prbsMatches ((chkAt 0).fld (pgLANE 0 + 0x064) 29 28) (BitVec.ofNat 95 (2 ^ 40)) = false ∧ (chkAt 1).laneOn 0 = true ∧ (chkAt 1).laneState 0 = 8 ∧ (chkAt 1).fld (pgLANE 0 + 0x064) 30 30 = 1 ∧ (chkAt 1).loopback 0 = 1 ∧ (chkAt 1).fld (pgLANE 0 + 0x064) 31 31 = 1) ∧
    (prbsMatches 2 0 = true) ∧
    (∀ m ∈ [0, 1], ((chkAt m).put (pgLANE 0 + 0x068) 31 31 1).fld (pgLANE 0 + 0x068) 31 31 = 1 ∧ ((chkAt m).put (pgLANE 0 + 0x068) 31 31 1).loopback 0 = m ∧ ((chkAt m).put (pgLANE 0 + 0x068) 31 31 1).fld (pgLANE 0 + 0x064) 31 31 = 1) ∧
    (((chkAt 0).put (pgLANE 0 + 0x068) 31 31 1).reaches (pgLANE 0 + 0x06C) = true ∧ ((chkAt 0).put (pgLANE 0 + 0x068) 31 31 1).fld (pgLANE 0 + 0x068) 31 31 = 1) ∧
    ((∀ n ∈ [8, 1], (laneAt n).reaches (pgLANE 0 + 0x074) = true ∧ (match regAt (pgLANE 0 + 0x074) with | some (p, d) => (laneAt n).scopesOpen p 0x074 d ((laneAt n).reg (pgLANE 0 + 0x074)) 0x80000000 | none => false) = true ∧ (laneAt n).laneState 0 = n ∧ (laneAt n).fld (pgLANE 0 + 0x078) 31 31 = 0)) ∧
    (((laneAt 5).setLane 0 { eye := some { dir := 3 } }).reaches (pgLANE 0 + 0x074) = true ∧ (((laneAt 5).setLane 0 { eye := some { dir := 3 } }).lane 0).eye = some { dir := 3 }) ∧
    ((((laneAt 5).setLane 0 { eye := some { dir := 3 } }).lane 0).eye = some { dir := 3 } ∧ (((laneAt 5).setLane 0 { eye := some { dir := 0, step := 32 } }).lane 0).eye = some { dir := 0, step := 32 } ∧ (((laneAt 5).setLane 0 { eye := some { abort := true } }).lane 0).eye = some { abort := true }) :=
  ⟨by decide +kernel,
    by decide +kernel,
    by decide +kernel,
    by decide +kernel,
    by decide +kernel,
    by decide +kernel,
    by decide +kernel,
    by decide +kernel,
    by decide +kernel,
    by decide +kernel⟩

theorem test_wit_linksMasksReplay :
    (linkCfgOk 0x80 = false ∧ upState.reaches (pgBLNK 0 + 0x040) = true) ∧
    (linkCfgOk 1 = true ∧ upState.reaches (pgBLNK 0 + 0x040) = true ∧ (match regAt (pgBLNK 0 + 0x040) with | some (p, d) => upState.scopesOpen p 0x040 d (upState.reg (pgBLNK 0 + 0x040)) 1 && decide (d.newWord (upState.reg (pgBLNK 0 + 0x040)) 1 = 1) | none => false) = true ∧ (1 : W32) ≠ upState.reg (pgBLNK 0 + 0x040) ∧ (∀ i < 16, (upState.lane (16 * (0 : Quad) + i)).partner = none ∧ upState.laneMode (16 * (0 : Quad) + i) = 0) ∧ linkIn 0 5 = linkIn 1 5 ∧ linkIn 0 1 ≠ linkIn 1 1) ∧
    (linkIn 0x4 4 = (4, 1) ∧ linkIn 0x2 3 = (0, 4) ∧ linkIn 0xFFFFFFFF 15 = (8, 8)) ∧
    ((linkState.linkOf 0).1 = 0 ∧ linkState.members 0 = [0] ∧ linkState.commasRun 0 = true ∧ ((linkState.lane 0).blocks + (16383 : BitVec 14).toNat + 1) % 16384 = 0 ∧ ((linkState.lane 0).blocks + (16382 : BitVec 14).toNat + 1) % 16384 ≠ 0 ∧ (linkState.setLink 0 {}).members 0 = [] ∧ (linkState.setLink 0 {}).commasRun 0 = true) ∧
    (linkState.txOpen 0 = true ∧ (linkState.setLane 0 { squelch := true }).txOpen 0 = false) ∧
    ((linkState.linkOf 0).1 = 0 ∧ linkState.laneOn 0 = true ∧ linkState.laneState 0 = 5 ∧ linkState.laneMode 0 = 0) ∧
    (linkState.laneMode 0 = 0 ∧ 0 ≤ (((linkWith { rxAt := some 2, peerComma := 2 }).link 0).peerComma - 2).toInt ∧ ((linkWith { rxAt := some 2, peerComma := 1 }).link 0).txAt = none ∧ (((linkWith { rxAt := some 2, peerComma := 1 }).link 0).peerComma - 2).toInt < 0 ∧ (linkState.link 0).rxAt = none ∧ (linkState.link 0).txAt = none) ∧
    (((linkWith { tx := 1, txAt := some (1, 7), comma := 7 }).link 0).txAt = some (1, 7) ∧ (linkWith { tx := 1, txAt := some (1, 7), comma := 7 }).laneMode 0 = 0 ∧ ((linkWith { tx := 1, txAt := some (1, 7), comma := 7 }).link 0).rxAt = none ∧ 0 ≤ ((7 : W8) - 7).toInt ∧ ((6 : W8) - 7).toInt < 0 ∧ ((linkWith { nakDue := true }).link 0).nakDue = true ∧ ((linkWith {}).link 0).nakDue = false) ∧
    ((linkState.link 0).held = none ∧ linkState.injOn 0 = 0) ∧
    (linkState.streamRuns 0 = true ∧ (linkState.linkOf 0).1 = 0) ∧
    (linkState.streamRuns 0 = true ∧ linkState.txRuns 0 = true ∧ (linkState.linkOf 0).1 = 0) ∧
    (linkState.streamRuns 0 = true ∧ linkState.txRuns 0 = true ∧ linkState.laneMode 0 = 0 ∧ ((linkWith { txAt := some (3, 7) }).link ((linkWith { txAt := some (3, 7) }).linkOf 0).1).txAt ≠ none) ∧
    (linkState.laneOn 0 = true ∧ linkState.laneState 0 = 5 ∧ ((linkState.setLane 0 { timer := some 5, partner := some 7 }).lane 0).timer = some 5 ∧ ((linkState.setLane 0 { timer := some 5, partner := some 7 }).lane 0).partner = some 7 ∧ ((linkState.setLane 0 { timer := some 5 }).lane 0).partner = none) :=
  ⟨by decide +kernel,
    by decide +kernel,
    by decide +kernel,
    by decide +kernel,
    by decide +kernel,
    by decide +kernel,
    by decide +kernel,
    by decide +kernel,
    by decide +kernel,
    by decide +kernel,
    by decide +kernel,
    by decide +kernel,
    by decide +kernel⟩

theorem test_wit_headraceAndEcpri :
    ((linkState.linkOf 0).1 = 0 ∧ linkState.streamRuns 0 = true ∧ linkState.hraceOn 0 = true ∧ frameGood goodFrame = true ∧ goodFrame.seq = (linkState.link 0).rxSeq ∧ (linkState.link 0).landing = none ∧ (linkState.lineErrors 0 goodFrame).hraceFinds 0 0 = false) ∧
    ((raceState.linkOf 0).1 = 0 ∧ (raceState.lineErrors 0 goodFrame).hraceFinds 0 0 = true ∧ bit ((raceState.lineErrors 0 goodFrame).reg (hraceKey 0x844 0 0)) 30 = false ∧ raceState.streamRuns 0 = true ∧ raceState.hraceOn 0 = true ∧ frameGood goodFrame = true ∧ goodFrame.seq = (raceState.link 0).rxSeq ∧ (raceState.link 0).landing = none) ∧
    ((linkWith { landing := some ⟨0, 0, 0, 0, 0, none, false, false, 0, 0⟩ }).streamRuns 0 = true ∧ (linkWith {}).hraceOn 0 = true ∧ frameGood goodFrame = true ∧ ((linkWith { landing := some ⟨0, 0, 0, 0, 0, none, false, false, 0, 0⟩ }).link 0).landing = some ⟨0, 0, 0, 0, 0, none, false, false, 0, 0⟩ ∧ ((linkWith { landing := some ⟨0, 0, 0, 0, 0, none, false, true, 0, 0⟩ }).link 0).landing = some ⟨0, 0, 0, 0, 0, none, false, true, 0, 0⟩) ∧
    (raceState.toRing 0 ⟨0, 0, 0, 0, 0, none, false, true, 0, 0⟩ 0 [] = raceState.toRing 0 ⟨0, 0, 0, 0, 0, none, false, true, 0, 0⟩ 0 []) ∧
    ((linkState.linkOf 0).1 = 0 ∧ linkState.streamRuns 0 = true ∧ linkState.hraceOn 0 = true ∧ frameGood { goodFrame with crc := 0 } = false ∧ (5 : W16) ≠ (linkState.link 0).rxSeq ∧ 0 ≤ ((5 : W16) - (linkState.link 0).rxSeq).toInt ∧ ((65535 : W16) - (linkState.link 0).rxSeq).toInt < 0) ∧
    (((linkWith { nak := some (0, 0) }).link 0).nak = some (((linkWith { nak := some (0, 0) }).link 0).rxSeq, 0) ∧ (linkWith { nak := some (0, 0) }).nsSince 0 < 8000 ∧ (linkState.link 0).nak = none ∧ linkState.txRuns 0 = true ∧ (linkWith { txAt := some (3, 7) }).txRuns 0 = false ∧ ((linkWith { txAt := some (3, 7) }).link 0).nak = none) ∧
    ((raceState.linkOf 0).1 = 0 ∧ raceState.streamRuns 0 = true ∧ raceState.hraceOn 0 = true ∧ goodFrame.seq = (raceState.link 0).rxSeq ∧ (raceState.link 0).landing = none ∧ raceState.hraceFinds 0 goodFrame.stream.toNat = true ∧ bit (raceState.reg (hraceKey 0x844 (0 / 16) goodFrame.stream.toNat)) 30 = false) ∧
    ((linkState.linkOf 0).1 = 0 ∧ linkState.streamRuns 0 = true ∧ linkState.hraceOn 0 = true ∧ goodFrame.seq = (linkState.link 0).rxSeq ∧ (linkState.link 0).landing = none ∧ linkState.hraceFinds 0 goodFrame.stream.toNat = false) ∧
    ((windowState.linkOf 0).1 = 0 ∧ windowState.hraceOn 0 = true ∧ goodFrame.seq = (windowState.link 0).rxSeq ∧ (windowState.link 0).landing = none ∧ windowState.hraceFinds 0 0 = true ∧ bit (windowState.reg (hraceKey 0x844 0 0)) 30 = true ∧ bitsOf (windowState.reg (hraceKey 0x844 0 0)) 17 15 = 0 ∧ windowState.findWindow 0 (bitsOf (windowState.reg (hraceKey 0x844 0 0)) 11 0) = some 65 ∧ (windowState.windowAt 0 65).full = false ∧ windowState.streamRuns 0 = true) ∧
    ((windowState.windowAt 0 65).armed = true ∧ (windowState.windowAt 0 65).gen = 0 ∧ (windowState.windowAt 0 65).len = 64 ∧ (windowState.windowAt 0 64).armed = false) ∧
    ((raceState.linkOf 0).1 = 0 ∧ bitsOf (raceState.reg (hraceKey 0x84C (0 / 16) (0 : W10).toNat)) 7 0 = 0 ∧ tabGet (fun _ => []) ({ raceState with events := [(0, [5, 0])] } : State).events 0 = [5, 0] ∧ [5, 0].contains 0 = true ∧ [5].contains 0 = false ∧ [5].head? = some 5) ∧
    ((ethPort.linkOf 0).1 = 0 ∧ ethPort.portUpAt 0 = true ∧ ethPort.ecpriOk 0 goodEcpri = true ∧ ethPort.ecpriOk 0 { goodEcpri with fcsOk := false } = false ∧ ethPort.ecpriOk 0 { goodEcpri with msg := 0, sub := 0x80 } = true ∧ ((ethPort.inc (pgLANE 0 + 0x204) 31 0 1).ethGap 0 0 0).hraceOn 0 = true ∧ ((ethPort.inc (pgLANE 0 + 0x204) 31 0 1).ethGap 0 0 0).hraceFinds 0 0 = false ∧ ethRace.portUpAt 0 = true ∧ ethRace.ecpriOk 0 { goodEcpri with msg := 0, sub := 0x80 } = true ∧ ((ethRace.inc (pgLANE 0 + 0x204) 31 0 1).ethGap 0 0 0).hraceOn 0 = true ∧ ((ethRace.inc (pgLANE 0 + 0x204) 31 0 1).ethGap 0 0 0).hraceFinds 0 0 = true) ∧
    (tabGet (fun _ => none) linkState.ethLast (1024 * (0 / 16) + 3) = none ∧ tabGet (fun _ => none) ({ linkState with ethLast := [(3, some 9)] } : State).ethLast (1024 * (0 / 16) + 3) = some 9 ∧ (11 : W8) ≠ 9 + 1 ∧ (9 : W8) = 10 - 1) ∧
    (linkState.laneOn 0 = true ∧ linkState.laneState 0 = 5 ∧ 1 ≤ linkState.laneRate 0 ∧ [0x1E, 0x2D, 0x4B, 0x55, 0x78, 0x87, 0xB4].contains (0x99 : W8).toNat = false ∧ [0x1E, 0x2D, 0x4B, 0x55, 0x78, 0x87, 0xB4].contains (0x2D : W8).toNat = true) :=
  ⟨by decide +kernel,
    by decide +kernel,
    by decide +kernel,
    by decide +kernel,
    by decide +kernel,
    by decide +kernel,
    by decide +kernel,
    by decide +kernel,
    by decide +kernel,
    by decide +kernel,
    by decide +kernel,
    by decide +kernel,
    by decide +kernel,
    by decide +kernel⟩

theorem test_wit_tailraceAndInjection :
    (traceState.traceOn 0 = true ∧ (traceState.sendsOf 0).find? (fun r => decide (r.entry = (3 : W10).toNat) && traceState.sendTurn 0 r) = some ⟨3, 64, 0⟩ ∧ bit (traceState.reg (traceKey 0x844 0 3)) 31 = true ∧ bitsOf (traceState.reg (traceKey 0x844 0 3)) 23 20 = 0 ∧ traceState.laneMode 0 = 0 ∧ traceState.ptPresent 0 = true ∧ traceState.isLink 0 = true ∧ traceState.storeRoom 0 (64 : W16).toNat = true) ∧
    (linkState.sendsOf 0 = [] ∧ traceFull.laneMode 0 = 0 ∧ traceFull.ptPresent 0 = true ∧ traceFull.storeRoom 0 64 = false) ∧
    (linkState.txRuns 0 = true ∧ (linkState.setLink 0 {}).txRuns 0 = false) ∧
    ((linkWith { txAt := some (3, 7) }).txRuns 0 = false ∧ ((linkWith { txAt := some (3, 7) }).link 0).txAt ≠ none) ∧
    ((linkState.link 0).held = none ∧ linkState.injOn 0 = 0 ∧ (injState 1).injOn 0 = 1 ∧ (injState 2).injOn 0 = 2 ∧ (injState 3).injOn 0 = 3 ∧ ((injState 3).link 0).held = none ∧ ((linkWith { held := some ⟨4, 0, [], false⟩ }).link 0).held = some ⟨4, 0, [], false⟩ ∧ (4 : W16) ≠ 5) ∧
    (linkState.txMembers 0 = [0]) ∧
    (traceState.traceOn 0 = true ∧ (traceState.sendsOf 0).find? (fun r => decide (r.entry = (3 : W10).toNat) && traceState.sendTurn 0 r) = some ⟨3, 64, 0⟩ ∧ (traceState.put (ptabKey 0x104 0) 31 31 0).ptPresent 0 = false ∧ (traceState.put (ptabKey 0x104 0) 31 31 0).laneMode 0 = 0 ∧ (traceEth.sendsOf 0).find? (fun r => decide (r.entry = (3 : W10).toNat) && traceEth.sendTurn 0 r) = some ⟨3, 64, 0⟩ ∧ bit (traceEth.reg (traceKey 0x844 0 3)) 31 = true ∧ bitsOf (traceEth.reg (traceKey 0x844 0 3)) 23 20 = 0 ∧ traceEth.traceOn 0 = true ∧ traceEth.laneMode 0 = 1 ∧ traceEth.isLink 0 = true ∧ traceEth.portUpAt 0 = false ∧ (traceEth.put (pgLANE 0 + 0x200) 31 31 1).laneMode 0 = 1 ∧ (traceEth.put (pgLANE 0 + 0x200) 31 31 1).portUpAt 0 = true) ∧
    (((upState.setSends 0 [⟨3, 64, 0⟩]).sendsOf 0).find? (fun r => decide (r.entry = (3 : W10).toNat) && (upState.setSends 0 [⟨3, 64, 0⟩]).sendTurn 0 r) = some ⟨3, 64, 0⟩ ∧ (upState.setSends 0 [⟨3, 64, 0⟩]).traceOn 0 = true ∧ bit ((upState.setSends 0 [⟨3, 64, 0⟩]).reg (traceKey 0x844 0 3)) 31 = false ∧ (upState.setSends 0 [⟨3, 64, 0⟩]).ptPresent 0 = false) ∧
    (factoryState.factory = true ∧ factoryState.reaches (pgBLNK 0 + 0x140) = true ∧ (regAt (pgBLNK 0 + 0x140)).isSome = true) ∧
    (factoryState.factory = true ∧ factoryState.reaches (pgBLNK 0 + 0x140) = true ∧ (regAt (pgBLNK 0 + 0x140)).isSome = true ∧ (5 : W8) ≠ 0) :=
  ⟨by decide +kernel,
    by decide +kernel,
    by decide +kernel,
    by decide +kernel,
    by decide +kernel,
    by decide +kernel,
    by decide +kernel,
    by decide +kernel,
    by decide +kernel,
    by decide +kernel⟩

theorem test_wit_engineJobs :
    (∀ x ∈ [(0, 0), (0, 1), (0, 2), (0, 3), (1, 0), (2, 0), (2, 1), (2, 2), (3, 0), (4, 1), (5, 2), (5, 3), (6, 4), (6, 5), (7, 6), (7, 7), (8, 0), (8, 1)], (engAt x.1 x.2).quadDark 0 = false ∧ (engAt x.1 x.2).engJob 0 x.1 = some (testJob x.2 0 []) ∧ (engAt x.1 x.2).jobAbandoned (testJob x.2 0 []) = false ∧ (testJob x.2 0 []).ran = false) ∧
    (∀ x ∈ [(0, 0), (0, 1), (0, 2), (0, 3), (1, 0), (2, 0), (2, 1), (2, 2), (3, 0), (4, 1), (5, 2), (5, 3), (6, 4), (6, 5), (7, 6), (7, 7), (8, 0), (8, 1)], (lostAt x.1 x.2).quadDark 0 = false ∧ (lostAt x.1 x.2).engJob 0 x.1 = some (testJob x.2 0 []) ∧ (lostAt x.1 x.2).jobAbandoned (testJob x.2 0 []) = true) ∧
    ((engState 0).engJob 0 0 = some (testJob 0 0 [])) ∧
    ((offerWith offerTask).engPick 0 0 = some offerTask ∧ (offerWith offerTask).quadDark 0 = false ∧ (offerWith offerTask).slotState (engSlot 0 0) < 2 ∧ offerTask.marked = false ∧ offerTask.dlMode ≠ 2 ∧ (offerWith { offerTask with cancel := true }).engPick 0 0 = some { offerTask with cancel := true } ∧ ({ offerTask with cancel := true } : Task).marked = true ∧ (offerWith lateOffer).engPick 0 0 = some lateOffer ∧ lateOffer.dlMode = 2 ∧ lateOffer.missed (offerWith lateOffer).pt = true) ∧
    (upState.engPick 0 0 = none ∧ State.reset.quadDark 0 = true) ∧
    (({ ring := 0, seq := 0, desc := 2 ^ 256 } : Task).argp.toNat % 64 ≠ 0) ∧
    ((finishState 0).engJob 0 0 = some { testJob 0 0 [] with ran := true } ∧ (finishState 0).quadDark 0 = false ∧ (finishState 0).fenced 0 = false ∧ unitEng 0 ≠ 4 ∧ (finishState 0).jobAbandoned (testJob 0 0 []) = false ∧ ((finishState 0).devWrite { cg := some 0, quad := 0 } (cisternBase + 48) (plain (resultBytes 0 [0, 0, 0, 0]))).2 = true ∧ ((((finishState 0).devWrite { cg := some 0, quad := 0 } (cisternBase + 48) (plain (resultBytes 0 [0, 0, 0, 0]))).1.setEng 0 0 none).inc (engPg 0 (unitEng 0) + 0x080) 31 0 1).findTask 0 0 = some { ring := 0, seq := 0, desc := 0 } ∧ (finishState 2).engJob 0 0 = some { testJob 0 0 [] with ran := true, cause := 2 } ∧ ((((finishState 2).setEng 0 0 none).inc (engPg 0 (unitEng 0) + 0x080) 31 0 1).poisonReport 0 0 { testJob 0 0 [] with ran := true, cause := 2 } 2).findTask 0 0 = some { ring := 0, seq := 0, desc := 0, poisoned := true }) ∧
    (noWrite.engJob 0 0 = some { testJob 0 0 [] with ran := true, argp := 64 } ∧ noWrite.quadDark 0 = false ∧ noWrite.fenced 0 = false ∧ (noWrite.devWrite { cg := some 0, quad := 0 } (64 + 48) (plain (resultBytes 0 [0, 0, 0, 0]))).2 = false ∧ noWrite.findTask 0 0 = some { ring := 0, seq := 0, desc := 0 }) ∧
    (gsmEnd.engJob 0 8 = some { testJob 1 0 [] with ran := true } ∧ gsmEnd.quadDark 0 = false ∧ gsmEnd.fenced 0 = false ∧ unitEng 8 = 4 ∧ gsmEnd.jobAbandoned (testJob 1 0 []) = true) :=
  ⟨by decide +kernel,
    by decide +kernel,
    by decide +kernel,
    by decide +kernel,
    by decide +kernel,
    by decide +kernel,
    by decide +kernel,
    by decide +kernel,
    by decide +kernel⟩

theorem test_wit_engineArithmetic :
    ((testJob 0 0 [2]).taps ≤ 256 ∧ (List.replicate 255 (0 : W32)).length = 255 ∧ (0 : Nat) < ([0] : List W32).length) ∧
    ((List.replicate 24 (-8 : Int)).length = 24 ∧ (∀ x ∈ List.replicate 24 (-8 : Int), -(2 ^ (4 - 1) : Int) ≤ x ∧ x ≤ 2 ^ (4 - 1) - 1) ∧ (packBlock (List.replicate 24 (-8 : Int)) 4).length = 13) ∧
    ((testJob 0 0 [0, 0x1000]).c 1 14 10 = 4 ∧ (testJob 0 0 [0, 0]).c 1 14 10 = 0 ∧ ({} : NscState).meas < 8) ∧
    (({} : NscState).fresh = false) ∧
    ((testJob 1 0 [128, 0, 16]).prefix 1 = 16 ∧ (testJob 1 0 [128, 0, 16]).n = 128 ∧ (testJob 1 0 [128, 0, 16]).op = 1 ∧ (List.replicate 128 (0 : W32)).length = 128) ∧
    ((48 : Nat) % (2 * 4) = 0 ∧ 0 < 2 * 4 ∧ 0 < 3) ∧
    (softOf 0x80 = -127) ∧
    ((0 : Nat) < (testJob 0 (5 * 2 ^ 32) []).maxRec ∧ (recRun 0 0).run.ok = true ∧ (recRun 0 3).run.ok = false ∧ (recRun 9 0).n = 9 ∧ (testJob 0 (5 * 2 ^ 32) []).maxRec ≤ 9) ∧
    (0 < (testJob 0 0 [0, 0x1000]).capMargin ∧ (recRun 0 0).det = none ∧ ({ recRun 0 0 with det := some (3, 5) } : AbdRun).det = some (3, 5) ∧ (5 : Int) + (testJob 0 0 [0, 0x1000]).capMargin ≤ 10 ∧ (5 : Int) < 6 ∧ (5 : Int) < 5 + (testJob 0 0 [0, 0x2000]).capMargin) :=
  ⟨by decide +kernel,
    by decide +kernel,
    by decide +kernel,
    by decide +kernel,
    by decide +kernel,
    by decide +kernel,
    by decide +kernel,
    by decide +kernel,
    by decide +kernel⟩

theorem test_wit_integrityAndSags :
    (upState.wide = none ∧ upState.weirAlive 0 = true ∧ upState.weirAlive 4 = true ∧ cyclePage {} 0 = none ∧ cyclePage { page := 0x3FFF } 4 = none ∧ weirTakes 0 6 = true ∧ integClass 6 = 1 ∧ weirTakes 0 3 = true ∧ integClass 3 = 4 ∧ upState.siteCg 3 .other = none ∧ upState.siteCg 3 (.slot 0 5) = some 0 ∧ weirTakes 0 1 = true ∧ integClass 1 = 5 ∧ weirTakes 4 17 = true ∧ integClass 17 = 6) ∧
    (upState.blockEvent 0 {} = none ∧ upState.blockEvent 0 { srcs := [{ code := 3 }, { code := 2 }, { code := 1 }] } = some ⟨5, 57, true, 1, 0, none, false⟩) ∧
    (({ cls := 1, bit := 3, integ := false, code := 0, loc := 0, cg := none, injected := false } : WeirEvent).cls < ({ cls := 5, bit := 57, integ := true, code := 1, loc := 0, cg := none, injected := false } : WeirEvent).cls) ∧
    (cyclePage {} 0 = none ∧ weirTakes 0 9 = false ∧ weirTakes 0 16 = false ∧ weirTakes 4 8 = false ∧ State.reset.weirAlive 0 = false) ∧
    ((lostAt 0 0).engJob 0 0 = some (testJob 0 0 []) ∧ unitEng 0 = (0 : Eng).val ∧ ctxIndex 0 (testJob 0 0 []).words = (0 : W6).toNat ∧ (lostAt 0 0).findTask 0 0 = some { ring := 0, seq := 0, desc := 0, abandoned := true }) ∧
    (weirTakes 4 24 = true ∧ weirTakes 3 8 = true) ∧
    (upState.cgPhase 0 = 3 ∧ (upState.put (pgDWEIR + 0x140) 26 24 4).fencePhase 0 ≠ 0 ∧ ({ upState with wide := some .device } : State).wide = some .device) ∧
    (upState.sagWarns 5 699 = true ∧ upState.sagWarns 5 700 = false ∧ tabGet (fun _ => false) upState.sagWarned 5 = false ∧ tabGet (fun _ => false) ({ upState with sagWarned := [(5, true)] } : State).sagWarned 5 = true) ∧
    (upState.sagActs 4 703 = true ∧ upState.sagActs 4 704 = false ∧ upState.sagActs 0 100 = true ∧ upState.fenced 0 = false ∧ (fencedSag 4).fenced 0 = true ∧ ((fencedSag 4).quadSt 0).fenceSag = true) ∧
    (upState.sagWarns 4 744 = false ∧ upState.sagWarns 4 743 = true) ∧
    (upState.sagRef 0 ≠ 0 ∧ State.reset.sagRef 0 = 0 ∧ upState.weirAlive (sagWeir 0) = true) ∧
    (factoryState.factory = true ∧ factoryState.reaches (pgWEIR 4 + 0x1C0) = true ∧ bit (0x80000014 : W32) 31 = true ∧ weirTakes 4 (bitsOf (0x80000014 : W32) 4 0) = true ∧ weirTakes 4 (bitsOf (0x80000008 : W32) 4 0) = false ∧ upState.factory = false ∧ upState.reaches (pgWEIR 4 + 0x1C0) = true) :=
  ⟨by decide +kernel,
    by decide +kernel,
    by decide +kernel,
    by decide +kernel,
    by decide +kernel,
    by decide +kernel,
    by decide +kernel,
    by decide +kernel,
    by decide +kernel,
    by decide +kernel,
    by decide +kernel,
    by decide +kernel⟩

theorem test_wit_fences :
    ((upState.put (pgDWEIR + 0x140 + 4 * 2) 26 24 1).fencePhase 2 = 1) ∧
    ((upState.put (pgDWEIR + 0x140 + 4 * 2) 26 24 4).fencePhase 2 = 4) ∧
    ((upState.put (pgDWEIR + 0x140 + 4 * 2) 26 24 3).fencePhase 2 = 3) ∧
    (upState.fencePhase 2 = 0) :=
  ⟨by decide +kernel,
    by decide +kernel,
    by decide +kernel,
    by decide +kernel⟩

theorem test_wit_blockEntries :
    (upState.refuseCause 7 = 0 ∧ upState.slot 7 = {} ∧ ((upState.put (pgFYIL + 0x028) 0 0 1).put (pgFYIL + 0x02C) 0 0 1).refuseCause 7 = 1) ∧
    (upState.slotBusy 7 = false ∧ (slotPages 7).any (fun pg => decide (upState.reg (pg + 0x02C) &&& upState.reg (pg + 0x028) ≠ 0)) = false ∧ ({ upState with fyil := [0] } : State).slotBusy 7 = true ∧ (slotPages 7).any (fun pg => decide (({ upState with fyil := [0] } : State).reg (pg + 0x02C) &&& ({ upState with fyil := [0] } : State).reg (pg + 0x028) ≠ 0)) = false ∧ (slotPages 7).any (fun pg => decide (((upState.put (pgFYIL + 0x028) 0 0 1).put (pgFYIL + 0x02C) 0 0 1).reg (pg + 0x02C) &&& ((upState.put (pgFYIL + 0x028) 0 0 1).put (pgFYIL + 0x02C) 0 0 1).reg (pg + 0x028) ≠ 0)) = true) ∧
    ((floorState 7 2).slotAwake 7 = true ∧ slotVotes 7 = false ∧ 1 < (floorState 7 2).effFloor 7) ∧
    (upState.effFloor 8 ≤ 1 ∧ slotVotes 66 = true) ∧
    (((floorState 7 2).setSlot 7 { entry := .deferring }).slot 7 = { entry := .deferring }) ∧
    (((floorState 64 2).setSlot 64 { entry := .deferring }).slot 64 = { entry := .deferring }) ∧
    (((floorState 7 2).setSlot 7 { entry := .accepted, goal := 2 }).slot 7 = { entry := .accepted, goal := 2 } ∧ ((floorState 7 2).setSlot 7 { entry := .accepted, goal := 2 }).bankRetired 7 = false ∧ ((bankState 3).setSlot 68 { entry := .accepted, goal := 3 }).slot 68 = { entry := .accepted, goal := 3 } ∧ ((bankState 3).setSlot 68 { entry := .accepted, goal := 3 }).bankRetired 68 = false ∧ (slotBlk 68).map (fun p => p.blk) = some .cbank) ∧
    ((bankState 2).slotAwake 68 = true ∧ slotVotes 68 = true ∧ 1 < (bankState 2).effFloor 68 ∧ (bankState 2).bankRetired 68 = false ∧ (bankState 2).voted 68 = false ∧ ({ bankState 2 with mem := { (bankState 2).mem with merge := [(0, [⟨0, 0, 0, 0⟩])] } } : State).voted 68 = true) ∧
    (slotPage 7 = some pgFYIL ∧ (pageOf pgFYIL).isSome = true ∧ bit ((floorState 7 2).reg (pgFYIL + 0x008)) 3 = true ∧ bit ((floorState 7 2).reg (slotCtrlKey 7)) 3 = false ∧ bit (upState.reg (pgFYIL + 0x008)) 3 = false) :=
  ⟨by decide +kernel,
    by decide +kernel,
    by decide +kernel,
    by decide +kernel,
    by decide +kernel,
    by decide +kernel,
    by decide +kernel,
    by decide +kernel,
    by decide +kernel⟩

theorem test_wit_blockWakes :
    ((wakeState 7 2).wakesAct = true ∧ (wakeState 7 2).wakeLevel 7 = true ∧ slotReal 7 = true ∧ (wakeState 7 2).bankRetired 7 = false ∧ ((wakeState 7 2).slot 7).entry = .none ∧ 2 ≤ ((wakeState 7 2).slot 7).st ∧ ((wakeState 7 2).slot 7).waking = false ∧ (((wakeState 7 2).setSlot 7 { entry := .accepted }).slot 7).entry = .accepted ∧ ((wakeState 7 2).setSlot 7 { entry := .accepted }).wakesAct = true ∧ ((wakeState 7 2).setSlot 7 { entry := .accepted }).wakeLevel 7 = true ∧ (wakeState 7 1).wakesAct = true ∧ (wakeState 7 1).wakeLevel 7 = true ∧ ((wakeState 7 1).slot 7).st < 2 ∧ ((wakeState 7 1).slot 7).entry = .none) ∧
    ((wakeState 64 3).wakesAct = true ∧ (wakeState 64 3).wakeLevel 64 = true ∧ slotReal 64 = true ∧ (wakeState 64 3).bankRetired 64 = false ∧ ((wakeState 64 3).slot 64).entry = .none ∧ 2 ≤ ((wakeState 64 3).slot 64).st ∧ ((wakeState 64 3).slot 64).waking = false ∧ (wakeState 64 3).fenced 0 = false ∧ (wakeState 64 3).quadOn 0 = true ∧ ({ wakeState 64 3 with quad := [] } : State).quadOn 0 = false ∧ ({ wakeState 64 3 with quad := [] } : State).fenced 0 = false ∧ ({ wakeState 64 3 with quad := [] } : State).wakeLevel 64 = true ∧ (({ wakeState 64 3 with quad := [] } : State).quadSt 0).wakeSlots.contains 64 = false) ∧
    (bit ((pulseState 7).reg (pgDPWR + 0x0A0)) 31 = true ∧ bitsOf ((pulseState 7).reg (pgDPWR + 0x0A0)) 3 0 = 7 ∧ tabGet (fun _ => false) (pulseState 7).pulses 0 = true ∧ (pulseState 7).wakesAct = true ∧ (((pulseState 7).setSlot 7 { entry := .accepted }).slot 7).entry = .accepted ∧ tabGet (fun _ => false) ((pulseState 7).setSlot 7 { entry := .accepted }).pulses 0 = true ∧ ((pulseState 7).setSlot 7 { entry := .accepted }).wakesAct = true ∧ bit (((pulseState 7).setSlot 7 { entry := .accepted }).reg (pgDPWR + 0x0A0)) 31 = true) ∧
    (bit ((pulseState 7).reg (pgDPWR + 0x0A0)) 31 = true ∧ bitsOf ((pulseState 7).reg (pgDPWR + 0x0A0)) 3 0 = 7 ∧ tabGet (fun _ => false) (pulseState 7).pulses 0 = true ∧ (pulseState 7).wakesAct = true ∧ ((pulseState 7).slot 7).entry = .none ∧ ({ upState with pulses := [(0, true)] } : State).reg (pgDPWR + 0x0A0) = 0 ∧ tabGet (fun _ => false) ({ upState with pulses := [(0, true)] } : State).pulses 0 = true) ∧
    (bit ((pulseState 9).reg (pgDPWR + 0x0A0)) 31 = true ∧ bitsOf ((pulseState 9).reg (pgDPWR + 0x0A0)) 3 0 = 9 ∧ tabGet (fun _ => false) (pulseState 9).pulses 0 = true ∧ (pulseState 9).wakesAct = true ∧ ((pulseState 9).slot 9).entry = .none ∧ (pulseState 9).slotState 9 = 0 ∧ ((pulseState 9).setQuad 1 {}).slotState 9 ≠ 0) ∧
    ((((wakeState 7 2).setSlot 7 { st := 2, waking := true }).slot 7).waking = true ∧ ((wakeState 7 2).setSlot 7 { st := 2, waking := true }).bankRetired 7 = false ∧ (wakingMill 3).bankRetired 64 = false ∧ ((wakingMill 3).slot 64).waking = true ∧ ((wakingMill 3).slot (qSlot (slotQuad 64) 2)).st = 3) ∧
    (slotPage 4 = some (pgHBMC 1) ∧ ((pageOf (pgHBMC 1)).map (fun p => p.blk)) = some .hbmc ∧ (upState.slot 4).st ≠ 4) ∧
    (((pageOf (pgCBANK 1 3)).map (fun p => p.blk)) = some .cbank ∧ ((pageOf (pgCMEM 2)).map (fun p => p.blk)) = some .cmem ∧ ((pageOf (pgCLU 2)).map (fun p => p.blk)) = some .clu) :=
  ⟨by decide +kernel,
    by decide +kernel,
    by decide +kernel,
    by decide +kernel,
    by decide +kernel,
    by decide +kernel,
    by decide +kernel,
    by decide +kernel⟩

theorem test_wit_quadrantDomains :
    ((dozeState 0).quadFloor 0 = 3 ∧ (dozeState 0).domainMaySleep 0 = true) ∧
    ((offState 0).quadOn 0 = false ∧ ((offState 0).quadSt 0).waking = false ∧ (offState 0).mode ≠ 1 ∧ (offState 0).wakesAct = true ∧ (offState 0).domainWanted 0 = true) ∧
    (((offState 0).setQuad 0 { failed := true }).quadSt 0 = { failed := true } ∧ ((offState 0).setQuad 0 { failed := true }).domainWanted 0 = true ∧ ((offState 0).setQuad 0 { failed := true }).wakesAct = true ∧ ((offState 0).setQuad 0 { failed := true }).quadOn 0 = false) ∧
    (upState.vregHost 0 = 0) ∧
    (upState.reaches (plKey 0) = true ∧ upState.quadOn 0 = true ∧ upState.plBusy 0 = false ∧ (upState.put (plKey 0) 31 31 1).plBusy 0 = true ∧ (upState.put (plKey 0) 31 31 1).quadOn 0 = true ∧ (upState.put (plKey 0) 31 31 1).reaches (plKey 0) = true ∧ (offState 0).reaches (plKey 0) = true ∧ (offState 0).quadOn 0 = false) ∧
    (upState.level 0 = 0 ∧ (upState.put (plKey 0) 26 24 2).level 0 = 2 ∧ upState.railLevel 0 = 0 ∧ (upState.put (plKey 0) 30 30 0).fld (plKey 0) 30 30 = 0 ∧ (upState.put (plKey 0) 30 30 0).level 0 = 0 ∧ (upState.put (plKey 0) 30 30 1).fld (plKey 0) 30 30 = 1 ∧ (upState.put (plKey 0) 30 30 1).railLevel 0 = 0) ∧
    (((upState.setQuad 0 { dom := 0, locking := true, changeTo := some 2 }).quadSt 0).changeTo = some 2 ∧ (upState.setQuad 0 { dom := 0, locking := true, changeTo := some 2 }).level 0 < 2 ∧ true ≠ (({} : QuadSt).onB) ∧ (((upState.put (plKey 0) 26 24 2).setQuad 0 { dom := 0, locking := true, changeTo := some 0 }).quadSt 0).vreq = none ∧ ((upState.put (plKey 0) 26 24 2).setQuad 0 { dom := 0, locking := true, changeTo := some 0 }).railLevel 0 = 0 ∧ ((upState.put (plKey 0) 26 24 2).put (plKey 0) 18 16 2).railLevel 0 ≠ 0 ∧ ((upState.setQuad 0 { waking := true, locking := true }).quadSt 0) = { waking := true, locking := true }) ∧
    (((upState.setQuad 0 { dom := 0, vreq := some ⟨850, .change, .poll⟩ }).quadSt 0).vreq = some ⟨850, .change, .poll⟩ ∧ (upState.pmbOf (upState.vregHost 0)).cur = none) ∧
    ((upState.setQuad 0 { dom := 0, vreq := some ⟨850, .change, .poll⟩ }).voltStarted 0 = true ∧ upState.voltStarted 0 = false) ∧
    (upState.level 0 = 0 ∧ (upState.quadSt 0).locking = false ∧ (upState.put (plKey 0) 26 24 2).level 0 ≠ 0 ∧ ((upState.setQuad 0 { dom := 0, locking := true }).quadSt 0).locking = true) ∧
    (pgDPWR + 0x080 + 4 * (0 : Rail5).val ≠ pgDPWR + 0x080 + 4 * (1 : Rail5).val) :=
  ⟨by decide +kernel,
    by decide +kernel,
    by decide +kernel,
    by decide +kernel,
    by decide +kernel,
    by decide +kernel,
    by decide +kernel,
    by decide +kernel,
    by decide +kernel,
    by decide +kernel,
    by decide +kernel⟩

theorem test_wit_boardMonitor :
    (upState.reaches (pgBMON + 0x04C) = true ∧ (47 : W6).toNat < 48 ∧ 48 ≤ (48 : W6).toNat) ∧
    (upState.bmon.scan = none ∧ (bmonState { scan := some [] }).bmon.scan.isSome = true ∧ (upState.put (pgBMON + 0x044) 3 3 1).scanChannels = [3] ∧ (upState.put (pgBMON + 0x044) 3 3 1).bmon.scan = none ∧ (((upState.put (pgBMON + 0x044) 31 0 0).put (pgBMON + 0x048) 15 0 0)).scanChannels = [] ∧ (((upState.put (pgBMON + 0x044) 31 0 0).put (pgBMON + 0x048) 15 0 0)).bmon.scan = none) ∧
    (upState.bmon.inj = none ∧ upState.bmon.cal = false ∧ (bmonState { inj := some 1 }).bmon.inj.isSome = true ∧ (bmonState { cal := true }).bmon.cal = true) ∧
    (upState.bmon.cur = none ∧ upState.bmon.starting = false ∧ upState.bmon.powered = false ∧ (bmonState { powered := true }).bmon.powered = true ∧ (bmonState { powered := true }).bmon.cur = none ∧ (bmonState { powered := true }).bmon.starting = false ∧ (bmonState { starting := true }).bmon.starting = true) ∧
    ((bmonState { scan := some [3] }).bmon.scan = some [3] ∧ (bmonState { scan := some [3] }).bmon.inj = none ∧ (bmonState { scan := some [3] }).bmon.cal = false ∧ (bmonState { inj := some 4 }).bmon.inj = some 4 ∧ (bmonState { cal := true }).bmon.inj = none ∧ (bmonState { cal := true }).bmon.cal = true ∧ upState.bmon.scan = none ∧ upState.bmon.inj = none ∧ upState.bmon.cal = false) ∧
    (upState.boardOn = true ∧ ((upState.put (pgBMON + 0x040) 29 28 1).put (pgBMON + 0x040) 15 0 100).fld (pgBMON + 0x040) 29 28 = 1 ∧ ((upState.put (pgBMON + 0x040) 29 28 1).put (pgBMON + 0x040) 15 0 100).fld (pgBMON + 0x040) 15 0 ≠ 0 ∧ ((upState.put (pgBMON + 0x040) 29 28 1).put (pgBMON + 0x040) 15 0 100).boardOn = true ∧ upState.fld (pgBMON + 0x040) 29 28 ≠ 1 ∧ (bmonState { starting := true }).bmon.starting = true) ∧
    ((bmonState { cur := some (.inj 47) }).bmon.cur = some (.inj 47) ∧ (bmonState { cur := some (.scan 0) }).bmon.cur = some (.scan 0)) ∧
    ((bmonState { queue := List.replicate 127 0 }).bmon.queue.length < 128 ∧ 128 ≤ (bmonState { queue := List.replicate 128 0 }).bmon.queue.length) ∧
    (cmpState.fld (pgBMON + 0x080) 31 31 ≠ 0 ∧ cmpState.fld (pgBMON + 0x080) 5 0 = 7 ∧ (10 : W12).toNat < bitsOf (cmpState.reg (pgBMON + 0x084)) 11 0 ∧ (99 : W12).toNat < bitsOf (cmpState.reg (pgBMON + 0x084)) 11 0 ∧ ¬ (100 : W12).toNat < bitsOf (cmpState.reg (pgBMON + 0x084)) 11 0 ∧ ¬ bitsOf (cmpState.reg (pgBMON + 0x084)) 27 16 < (200 : W12).toNat) ∧
    ((bmonState { cur := some .cal, cal := true }).bmon.cur = some .cal) ∧
    ((bmonState { queue := [5] }).bmon.queue = [5] ∧ (bmonState { queue := [5] }).reaches (pgBMON + 0x054) = true ∧ upState.bmon.queue = [] ∧ upState.reaches (pgBMON + 0x054) = true) ∧
    (upState.boardOn = true ∧ upState.fld (pgGPIO + 0x048) 3 3 ≠ b2n true ∧ bit (BitVec.ofNat 2 ((upState.put (pgGPIO + 0x048) 3 3 (b2n true)).fld (pgGPIO + 0x04C) 7 6)) 0 = false ∧ (upState.put (pgGPIO + 0x04C) 7 6 1).fld (pgGPIO + 0x048) 3 3 ≠ b2n true ∧ bit (BitVec.ofNat 2 (((upState.put (pgGPIO + 0x04C) 7 6 1).put (pgGPIO + 0x048) 3 3 (b2n true)).fld (pgGPIO + 0x04C) 7 6)) 0 = true) :=
  ⟨by decide +kernel,
    by decide +kernel,
    by decide +kernel,
    by decide +kernel,
    by decide +kernel,
    by decide +kernel,
    by decide +kernel,
    by decide +kernel,
    by decide +kernel,
    by decide +kernel,
    by decide +kernel,
    by decide +kernel⟩

theorem test_wit_pmbusHosts :
    (upState.reaches (pgPMB 1 + 0x044) = true ∧ bit (0x80010000 : W32) 31 = true ∧ bit (0x80030000 : W32) 31 = true ∧ txnLenOk 0x80010000 = true ∧ (upState.put (pgPMB 1 + 0x048) 31 31 1).fld (pgPMB 1 + 0x048) 31 31 = 1 ∧ upState.fld (pgPMB 1 + 0x048) 31 31 ≠ 1 ∧ txnLenOk 0x80030000 = false ∧ txnLenOk 0x80020000 = true ∧ txnLenOk 0xC0000000 = false ∧ txnLenOk 0xD0200000 = true) ∧
    (leastBy PmbJob.order ((pmbState { queue := [.host, .hscVin, .railOp 2 true] }).pmbOf 0).queue = some (.railOp 2 true) ∧ (((pmbState { queue := [.railOp 2 true] }).pmbDrop 0 (.railOp 2 true)).startJob 0 (.railOp 2 true)).isSome = true ∧ (pmbState { queue := [.host, .hscVin, .railOp 2 true] }).boardOn = true ∧ ((pmbState { queue := [.host, .hscVin, .railOp 2 true] }).pmbOf 0).cur = none ∧ (((pmbState { queue := [.host, .hscVin, .railOp 2 true] }).pmbDrop 0 (.railOp 2 true)).startJob 0 (.railOp 2 true)).isSome = true) ∧
    (((pmbState { cur := some .host }).pmbOf 0).cur.isSome = true ∧ (upState.pmbOf 0).queue = []) ∧
    (((pmbState { cur := some .host }).pmbOf 0).cur = some .host) ∧
    (upState.fld (pgPMB 0 + 0x044) 30 30 = 0) ∧
    ((upState.put (pgPMB 1 + 0x044) 30 30 1).fld (pgPMB 1 + 0x044) 30 30 = 1 ∧ (List.replicate 32 (0 : W8)).length ≤ 32) ∧
    (((pmbState { cur := some .hscVin }).pmbOf 0).cur = some .hscVin ∧ ((pmbState { cur := some .hscIin }).pmbOf 0).cur = some .hscIin) ∧
    (((upState.setQuad 0 { vreq := some ⟨850, .boot, .page⟩ }).quadSt 0).vreq = some ⟨850, .boot, .page⟩) ∧
    (upState.boardOn = true ∧ (upState.put (pgPMB 0 + 0x040) 0 0 1).fld (pgPMB 0 + 0x040) 0 0 = 1) ∧
    (hscState.boardOn = true ∧ bit (hscState.reg pgHsc) 31 = true ∧ bitsOf (hscState.reg pgHsc) 23 16 ≠ 0 ∧ (hscState.pmbOf (bitsOf (hscState.reg pgHsc) 30 30)).queue = []) ∧
    (bitsOf (0x4F460001 : W32) 31 16 = 0x4F46 ∧ (upState.put (pgDEV + 0x040) 2 0 0).mode = 0 ∧ (upState.put (pgDEV + 0x040) 2 0 0).reaches (pgPMB 0 + 0x08C) = true ∧ upState.mode ≠ 0 ∧ upState.reaches (pgPMB 0 + 0x08C) = true) :=
  ⟨by decide +kernel,
    by decide +kernel,
    by decide +kernel,
    by decide +kernel,
    by decide +kernel,
    by decide +kernel,
    by decide +kernel,
    by decide +kernel,
    by decide +kernel,
    by decide +kernel,
    by decide +kernel⟩

theorem test_wit_bootSequence :
    (State.reset.mode = 1 ∧ State.reset.wide = none ∧ State.reset.boot = none ∧ (0 : W2) ≠ 3) ∧
    ((10 : Nat) < 16) ∧
    ((bootState 1 { src := 1 }).bootStep = 1 ∧ (bootState 1 { src := 1 }).fld (pgBTU + 0x040) 19 19 = 0 ∧ (bootState 1 { src := 1 }).boot = some { src := 1 } ∧ (bootState 1 { src := 0 }).bootStep = 1 ∧ (bootState 1 { src := 0 }).fld (pgBTU + 0x040) 19 19 = 0 ∧ (bootState 1 { src := 0 }).boot = some { src := 0 }) ∧
    (∀ p : Bytes, p.length ≤ 65472 → ((bankedState 0 (bankRecord 0 false 5 p) []).inForce 0 = some false ∧ (bankedState 0 (bankRecord 0 false 5 p) []).bankPending 0 true = false) ∧ (bankedState 0 (bankRecord 0 false 5 p) (pendingMark 0 true)).inForce 0 = some false ∧ (bankedState 0 (bankRecord 0 false 5 p) (pendingMark 0 true)).bankPending 0 true = true ∧ upState.inForce 0 = none) ∧
    ((bootState 1 { src := 1 }).reaches (pgBTU + 0x050) = true ∧ (bootState 1 { src := 1 }).fld (pgBTU + 0x040) 19 19 ≠ 1 ∧ ((bootState 1 { src := 1 }).put (pgBTU + 0x040) 19 19 1).reaches (pgBTU + 0x050) = true ∧ ((bootState 1 { src := 1 }).put (pgBTU + 0x040) 19 19 1).fld (pgBTU + 0x040) 19 19 = 1) ∧
    (mFormatOk goodBytes = true ∧ goodBoot.keyOk goodBytes = true ∧ goodBoot.fuseSvn ≤ (parseManifest goodBytes).svn.toNat ∧ (parseManifest goodBytes).factory = false ∧ mFormatOk [] = false ∧ (bootState 2 { src := 0 }).keyOk goodBytes = false ∧ (goodBoot.put (pgFUSE + 0x048) 6 0 1).keyOk goodBytes = true ∧ (parseManifest goodBytes).svn.toNat < (goodBoot.put (pgFUSE + 0x048) 6 0 1).fuseSvn ∧ mFormatOk factoryBytes = true ∧ goodBoot.keyOk factoryBytes = true ∧ (parseManifest factoryBytes).factory = true ∧ sha384 ((factoryBytes.drop 0x20).take 32) ≠ goodBoot.fuseHash 5) ∧
    (mFormatOk goodBytes = true ∧ (0 : Nat) < mImages goodBytes) ∧
    (goodBoot.boot = some { src := 0 } ∧ goodBoot.bootStep = 2 ∧ goodBoot.fld (pgBTU + 0x040) 19 19 = 0 ∧ goodBoot.sourceOk { src := 0 } = true ∧ goodBoot.manifestFail goodRead = 0) ∧
    ((bootState 2 { src := 0 }).bootStep = 2 ∧ (bootState 2 { src := 0 }).fld (pgBTU + 0x040) 19 19 = 0 ∧ (bootState 2 { src := 0 }).boot = some { src := 0 } ∧ (bootState 2 { src := 0 }).manifestFail { goodRead with readOk := false } = 8 ∧ (bootState 2 { src := 0 }).sourceOk { src := 0 } = true ∧ (bootState 2 { src := 0, push := true }).sourceOk { src := 0, push := true } = false) ∧
    ((bootState 4 { src := 0 }).boot = some { src := 0 } ∧ (bootState 4 { src := 0 }).bootStep = 4 ∧ (bootState 4 { src := 0 }).heightsBad { src := 0 } 0 2 = false ∧ (bootState 4 { src := 0 }).heightsBad { src := 0 } 0 3 = true) ∧
    ((bootState 5 { src := 0, manifest := some goodManifest }).bootStep = 5 ∧ (bootState 5 { src := 0, manifest := some goodManifest }).boot = some { src := 0, manifest := some goodManifest } ∧ (bootState 5 { src := 0, manifest := some goodManifest }).sourceOk { src := 0, manifest := some goodManifest } = true ∧ ((bootState 5 { src := 0, manifest := some goodManifest }).loadImages goodManifest.images []).2 = 8 ∧ ((bootState 5 { src := 0, manifest := some { goodManifest with images := [] } }).loadImages [] []).2 = 0 ∧ (bootState 5 { src := 0, manifest := some { goodManifest with images := [] } }).bootStep = 5) ∧
    (([] : Bytes).length < 64 ∧ (0 : Nat) ≤ ([] : Bytes).length ∧ sha384 [] ≠ 0 ∧ sha384 [] = 0x5bb99848f1d21ad5fb656fe7bfde4e27dae1f663bfc70c4c4307be1411b7fd216ae3b1b17e32d94c3896ac51a760b038) ∧
    ((bootState 6 { src := 0, manifest := some goodManifest }).ejectHeld = false ∧ (bootState 6 { src := 0, manifest := some goodManifest }).bootStep = 6 ∧ (bootState 6 { src := 0, manifest := some goodManifest }).boot = some { src := 0, manifest := some goodManifest }) :=
  ⟨by decide +kernel,
    by decide +kernel,
    by decide +kernel,
    fun p h => by
  have h0 := bankRecord_valid 0 false 5 p h
  refine ⟨⟨?_, ?_⟩, ?_, ?_, by decide⟩
  · exact inForce_first (by simpa [bankedState, State.bankGood] using h0) (by simpa [bankedState, State.bankGood] using (by decide : bankValid 0 true [] = false))
  · simp [bankedState, State.bankPending, pendingMark, bankWord, bytesLE]
  · exact inForce_first (by simpa [bankedState, State.bankGood] using h0) (by simpa [bankedState, State.bankGood] using (by decide : bankValid 0 true (pendingMark 0 true) = false))
  · simp [bankedState, State.bankPending, pendingMark, bankWord, bytesLE],
    by decide +kernel,
    by decide +kernel,
    by decide +kernel,
    by decide +kernel,
    by decide +kernel,
    by decide +kernel,
    by decide +kernel,
    by decide +kernel,
    by decide +kernel⟩

theorem test_wit_fusesAndReports :
    (configState.reaches fuseCmd = true ∧ configState.fld fuseStat 31 31 ≠ 1 ∧ configState.mode = 2 ∧ configState.fuseOwner = 0 ∧ (configState.put (pgFUSE + 0x048) 31 30 1).fuseOwner = 1 ∧ (configState.put (pgFUSE + 0x048) 31 30 1).runsOwner = false ∧ (configState.put (pgFUSE + 0x048) 31 30 1).reaches fuseCmd = true ∧ (configState.put (pgFUSE + 0x048) 31 30 1).mode = 2 ∧ (configState.put (pgFUSE + 0x048) 31 30 1).fld fuseStat 31 31 ≠ 1 ∧ (configState.setReg (pgBTU + 0x044) 3).fuseSvn < (1 : W7).toNat ∧ (1 : W7).toNat ≤ min 64 ((configState.setReg (pgBTU + 0x044) 3).reg (pgBTU + 0x044)).toNat ∧ configState.runsSlot ((1 : W7).toNat % 4) = false ∧ configState.vendorRevoked 0 = false) ∧
    (upState.mode ≠ 2 ∧ upState.reaches fuseCmd = true ∧ upState.fld fuseStat 31 31 ≠ 1 ∧ upState.fuseOwner ≠ 1 ∧ (configState.put (pgFUSE + 0x048) 31 30 1).fuseOwner ≠ 0 ∧ (0 : W7).toNat ≤ configState.fuseSvn) ∧
    (configState.reaches fuseCmd = true ∧ (0 : W16) ≠ 0x4655 ∧ (configState.put fuseStat 31 31 1).fld fuseStat 31 31 = 1) ∧
    (∀ op < 6, ({ configState with burn := some ⟨op, 0, 0⟩ } : State).burn = some ⟨op, 0, 0⟩) ∧
    (configState.reaches attCtrl = true ∧ configState.fld attStat 31 31 ≠ 1 ∧ configState.kept.factorySeen = false ∧ configState.mode = 2 ∧ configState.hssNext < 2 ^ 40 ∧ configState.hssInit = false ∧ (configState.put (pgFUSE + 0x048) 27 27 1).hssInit = true ∧ (configState.put (pgFUSE + 0x048) 27 27 1).inForce 0 = none ∧ (configState.put (pgFUSE + 0x048) 27 27 1).reaches attCtrl = true ∧ (configState.put (pgDEV + 0x040) 2 0 1).mode ≠ 2 ∧ (configState.put (pgDEV + 0x040) 2 0 1).mode ≠ 3) ∧
    (({ configState with att := some { report := true, reserved := false, dst := 0 } } : State).commit = none ∧ ({ configState with att := some { report := true, reserved := false, dst := 0 } } : State).att = some { report := true, reserved := false, dst := 0 } ∧ ({ configState with att := some { report := true, dst := 0 } } : State).att = some { report := true, dst := 0 }) ∧
    (configState.reaches attCtrl = true ∧ configState.fld attStat 31 31 ≠ 1 ∧ (configState.put attStat 31 31 1).fld attStat 31 31 = 1 ∧ (configState.put attStat 31 31 1).reaches attCtrl = true) ∧
    ((attState { report := false, dst := 0 }).canWrite pf0 = true ∧ (attState { report := false, dst := 0 }).att = some { report := false, dst := 0 } ∧ ({ upState with att := some { report := false, dst := 0 } } : State).canWrite pf0 = false) ∧
    (({ report := true, head := List.replicate 256 0, dst := 0 } : AttJob).head.length = 256) ∧
    ((1 : Nat) < 8) :=
  ⟨by decide +kernel,
    by decide +kernel,
    by decide +kernel,
    by decide +kernel,
    by decide +kernel,
    by decide +kernel,
    by decide +kernel,
    by decide +kernel,
    by decide +kernel,
    by decide +kernel⟩

theorem test_wit_retentionStore :
    (upState.reaches (pgRSTO + 0x054) = true) ∧
    (upState.reaches rstoCmd = true ∧ upState.commitRefused = false ∧ (upState.startCommit 1 []).commitRefused = true ∧ (upState.startCommit 1 []).reaches rstoCmd = true) ∧
    (upState.reaches rstoCmd = true ∧ (0 : W16) ≠ 0x434D) ∧
    ((bankedState 1 (bankRecord 1 false 5 []) []).inForce 1 = some (!true) ∧ upState.inForce 1 = none) ∧
    ((upState.startCommit 1 []).commit = some { cls := 1, bankB := false, seq := 0, payload := [] }) ∧
    ((bankedState 1 (bankRecord 1 false 5 []) (bankRecord 1 true 6 [])).bankGood 1 false = true ∧ (bankedState 1 (bankRecord 1 false 5 []) (bankRecord 1 true 6 [])).bankGood 1 true = true ∧ (bankedState 1 (bankRecord 1 false 5 []) []).bankGood 1 false = true ∧ (bankedState 1 (bankRecord 1 false 5 []) []).bankGood 1 true = false ∧ (bankedState 1 [] (bankRecord 1 true 6 [])).bankGood 1 true = true ∧ upState.bankGood 1 false = false) ∧
    (bankValid 1 false (bankRecord 1 false 5 []) = true ∧ bankValid 1 false (pendingMark 1 false) = false) ∧
    ((upState.startCommit 1 []).commit = some { cls := 1, bankB := false, seq := 0, payload := [] } ∧ (upState.startCommit 1 []).mode ≠ 4 ∧ (upState.startCommit 1 []).att = none) ∧
    ((({ configState with att := some { report := true, reserved := false, dst := 0 } } : State).startCommit 0 []).commit = some { cls := 0, bankB := false, seq := 0, payload := [] } ∧ (({ configState with att := some { report := true, reserved := false, dst := 0 } } : State).startCommit 0 []).mode ≠ 4 ∧ (({ configState with att := some { report := true, reserved := false, dst := 0 } } : State).startCommit 0 []).att = some { report := true, reserved := false, dst := 0 }) ∧
    (drainAtt.mode = 4 ∧ drainAtt.drainStep ≠ 5 ∧ drainAtt.commit = some { cls := 0, bankB := false, seq := 0, payload := [] } ∧ drainAtt.att = some { report := true, reserved := false, dst := 0 }) ∧
    ((bankedState 1 (bankRecord 1 false 5 []) (pendingMark 1 true)).bankUsed 1 true = true ∧ (bankedState 1 (bankRecord 1 false 5 []) (pendingMark 1 true)).bankGood 1 true = false ∧ ∀ c < 2, ∀ b, upState.bankUsed c b = false) :=
  ⟨by decide +kernel,
    by decide +kernel,
    by decide +kernel,
    by decide +kernel,
    by decide +kernel,
    by decide +kernel,
    by decide +kernel,
    by decide +kernel,
    by decide +kernel,
    by decide +kernel,
    by decide +kernel⟩

theorem test_wit_wideResets :
    (∀ c < 2, ∀ b, upState.bankUsed c b = true → upState.bankGood c b = true) ∧
    ((bankedState 1 [] (pendingMark 1 true)).bankUsed 1 true = true) ∧
    (upState.mode = 3 ∧ (upState.put (pgDEV + 0x040) 2 0 4).mode = 4 ∧ 3 < 4) ∧
    (upState.wide = none ∧ upState.reaches (pgWELL + 0x044) = true ∧ (0 : W16) ≠ 0x5253 ∧ ({ upState with wide := some .device } : State).wide = some .device ∧ ({ upState with wide := some .power } : State).wide = some .power) ∧
    (upState.reaches (pgWELL + 0x044) = true ∧ (0 : W16) ≠ 0x5253) ∧
    ((upState.deviceReset).mode = 1) ∧
    (({ upState with wide := some .system } : State).wide = some .system ∧ ({ upState with wide := some .device } : State).wide = some .device ∧ ({ upState with wide := some .device } : State).commit = none ∧ ({ upState.startCommit 1 [] with wide := some .device } : State).commit.isSome = true ∧ ({ upState.startCommit 1 [] with wide := some .device } : State).wide = some .device) ∧
    (upState.wide ≠ some .system ∧ upState.wide ≠ some .device) ∧
    (upState.pcie.perstLow = false ∧ upState.wide = none ∧ upState.fld (pgWELL + 0x040) 0 0 ≠ 1 ∧ (upState.put (pgWELL + 0x040) 0 0 1).fld (pgWELL + 0x040) 0 0 = 1 ∧ ({ upState with wide := some .device } : State).wide ≠ none) ∧
    (upState.pcie.perstLow = false) :=
  ⟨by decide +kernel,
    by decide +kernel,
    by decide +kernel,
    by decide +kernel,
    by decide +kernel,
    by decide +kernel,
    by decide +kernel,
    by decide +kernel,
    by decide +kernel,
    by decide +kernel⟩

theorem test_wit_testPort :
    ((Instr.extest 1 2 = .extest 1 2 ∧ (0 : W8) = 0)) ∧
    ((Instr.idcode = .idcode ∧ (1 : W8) = 1)) ∧
    (upState.tap.inst = 1) ∧
    (upState.thermtrip = false ∧ upState.wide ≠ some .power ∧ ({ upState with thermtrip := true } : State).thermtrip = true) ∧
    ((upState.put (pgFYIL + 0x040) 31 31 1).fld (pgFYIL + 0x040) 31 31 = 1 ∧ (upState.put (pgFYIL + 0x040) 31 31 1).slotState 7 < 2 ∧ (upState.put (pgFYIL + 0x040) 31 31 1).fyil = [] ∧ ({ upState.put (pgFYIL + 0x040) 31 31 1 with fyil := [5] } : State).fyil = [5]) ∧
    (64 ≤ ({ upState with fyil := List.replicate 64 0 } : State).fyil.length ∧ upState.fyil.length < 64) :=
  ⟨by decide +kernel,
    by decide +kernel,
    by decide +kernel,
    by decide +kernel,
    by decide +kernel,
    by decide +kernel⟩

end Sys2Proof.Machine
end

section
/-! What every command does to the parts of the state, and RAW and EPOCH (R308): a cycle of CLK_TIME advances them, the loss of VDD_WELL
clears them, every other command leaves them. -/

namespace Sys2Proof.Machine

open Sys2Proof

/-! ## The frame of every command -/

/-- A command that completes within a frame completes within every wider one. -/
theorem frame_within {o : Host.Outcome State Fault Refusal} {a b : Nat} {s : State}
    (h : ∃ t, o = .next t ∧ Frame a s t) (k : Nat.land a b = a) : ∃ t, o = .next t ∧ Frame b s t :=
  h.imp fun _ h => ⟨h.1, h.2.mono k⟩

/-- Every command completes, within the frame of the parts that it can change: one arm per command, each the frame of its
meaning. partsOf looks at no operand, so that once it is unfolded the two masks are numerals. -/
theorem exec_frame (c : Instr) (s : State) : ∃ t, exec c s = .next t ∧ Frame (maskOf (partsOf c)) s t := by
  cases c with dsimp only [partsOf]
  | regWrite => exact frame_within (execRegWrite_frame ..) rfl
  | unpopulatedAccess => exact frame_within (execUnpopulatedAccess_frame ..) rfl
  | rcRead => exact frame_within (execRcRead_frame ..) rfl
  | latchedPairRead => exact frame_within (execLatchedPairRead_frame ..) rfl
  | darkRead => exact frame_within (execDarkRead_frame ..) rfl
  | darkWrite => exact frame_within (execDarkWrite_frame ..) rfl
  | run => exact frame_within (execRun_frame ..) rfl
  | halt => exact frame_within (execHalt_frame ..) rfl
  | softReset => exact frame_within (execSoftReset_frame ..) rfl
  | softResetEnd => exact frame_within (execSoftResetEnd_frame ..) rfl
  | errInj => exact frame_within (execErrInj_frame ..) rfl
  | wakeWrite => exact frame_within (execWakeWrite_frame ..) rfl
  | modeReqBoot => exact frame_within (execModeReqBoot_frame ..) rfl
  | modeReqConfig => exact frame_within (execModeReqConfig_frame ..) rfl
  | modeReqService => exact frame_within (execModeReqService_frame ..) rfl
  | modeReqDrain => exact frame_within (execModeReqDrain_frame ..) rfl
  | modeDone => exact frame_within (execModeDone_frame ..) rfl
  | ejectAssert => exact frame_within (execEjectAssert_frame ..) rfl
  | ejectRelease => exact frame_within (execEjectRelease_frame ..) rfl
  | drainStepEnd => exact frame_within (execDrainStepEnd_frame ..) rfl
  | drainStepCut => exact frame_within (execDrainStepCut_frame ..) rfl
  | cgDispatchStopped => exact frame_within (execCgDispatchStopped_frame ..) rfl
  | cgHaltLimit => exact frame_within (execCgHaltLimit_frame ..) rfl
  | cgFlushDone => exact frame_within (execCgFlushDone_frame ..) rfl
  | cgStartCopy => exact frame_within (execCgStartCopy_frame ..) rfl
  | nop => exact frame_within (execNop_frame ..) rfl
  | vecAdd => exact frame_within (execVecAdd_frame ..) rfl
  | vecSubtract => exact frame_within (execVecSubtract_frame ..) rfl
  | vecNegate => exact frame_within (execVecNegate_frame ..) rfl
  | vecConjugate => exact frame_within (execVecConjugate_frame ..) rfl
  | vecShift => exact frame_within (execVecShift_frame ..) rfl
  | vecMin => exact frame_within (execVecMin_frame ..) rfl
  | vecMax => exact frame_within (execVecMax_frame ..) rfl
  | permute => exact frame_within (execPermute_frame ..) rfl
  | broadcast => exact frame_within (execBroadcast_frame ..) rfl
  | compare => exact frame_within (execCompare_frame ..) rfl
  | select => exact frame_within (execSelect_frame ..) rfl
  | cmac => exact frame_within (execCmac_frame ..) rfl
  | cmac2 => exact frame_within (execCmac2_frame ..) rfl
  | cmacb => exact frame_within (execCmacb_frame ..) rfl
  | cmacb2 => exact frame_within (execCmacb2_frame ..) rfl
  | aclr => exact frame_within (execAclr_frame ..) rfl
  | ascale => exact frame_within (execAscale_frame ..) rfl
  | ascaleT => exact frame_within (execAscaleT_frame ..) rfl
  | aadd => exact frame_within (execAadd_frame ..) rfl
  | amov => exact frame_within (execAmov_frame ..) rfl
  | amovVector => exact frame_within (execAmovVector_frame ..) rfl
  | ext => exact frame_within (execExt_frame ..) rfl
  | extT => exact frame_within (execExtT_frame ..) rfl
  | vld => exact frame_within (execVld_frame ..) rfl
  | vst => exact frame_within (execVst_frame ..) rfl
  | vlds => exact frame_within (execVlds_frame ..) rfl
  | scalarLoad => exact frame_within (execScalarLoad_frame ..) rfl
  | scalarStore => exact frame_within (execScalarStore_frame ..) rfl
  | scalarAlu => exact frame_within (execScalarAlu_frame ..) rfl
  | scalarMultiply => exact frame_within (execScalarMultiply_frame ..) rfl
  | immediateMove => exact frame_within (execImmediateMove_frame ..) rfl
  | pmov => exact frame_within (execPmov_frame ..) rfl
  | padd => exact frame_within (execPadd_frame ..) rfl
  | paddM => exact frame_within (execPaddM_frame ..) rfl
  | bmov => exact frame_within (execBmov_frame ..) rfl
  | lmov => exact frame_within (execLmov_frame ..) rfl
  | branch => exact frame_within (execBranch_frame ..) rfl
  | call => exact frame_within (execCall_frame ..) rfl
  | ret => exact frame_within (execRet_frame ..) rfl
  | repeatLoop => exact frame_within (execRepeatLoop_frame ..) rfl
  | endTask => exact frame_within (execEndTask_frame ..) rfl
  | taskFinishReport => exact frame_within (execTaskFinishReport_frame ..) rfl
  | movcRead => exact frame_within (execMovcRead_frame ..) rfl
  | movcWrite => exact frame_within (execMovcWrite_frame ..) rfl
  | dmaqIn => exact frame_within (execDmaqIn_frame ..) rfl
  | dmaqOut => exact frame_within (execDmaqOut_frame ..) rfl
  | dmaEntryDone => exact frame_within (execDmaEntryDone_frame ..) rfl
  | dmawait => exact frame_within (execDmawait_frame ..) rfl
  | winarm => exact frame_within (execWinarm_frame ..) rfl
  | taskLimit => exact frame_within (execTaskLimit_frame ..) rfl
  | mvM => exact frame_within (execMvM_frame ..) rfl
  | mvV => exact frame_within (execMvV_frame ..) rfl
  | mmul => exact frame_within (execMmul_frame ..) rfl
  | madd => exact frame_within (execMadd_frame ..) rfl
  | msub => exact frame_within (execMsub_frame ..) rfl
  | mherm => exact frame_within (execMherm_frame ..) rfl
  | mchol => exact frame_within (execMchol_frame ..) rfl
  | mtrs => exact frame_within (execMtrs_frame ..) rfl
  | mqr => exact frame_within (execMqr_frame ..) rfl
  | minv => exact frame_within (execMinv_frame ..) rfl
  | mstat => exact frame_within (execMstat_frame ..) rfl
  | mwait => exact frame_within (execMwait_frame ..) rfl
  | copOpStart => exact frame_within (execCopOpStart_frame ..) rfl
  | copOpWriteback => exact frame_within (execCopOpWriteback_frame ..) rfl
  | kloadGo => exact frame_within (execKloadGo_frame ..) rfl
  | kloadDone => exact frame_within (execKloadDone_frame ..) rfl
  | kernelInvalidate => exact frame_within (execKernelInvalidate_frame ..) rfl
  | ringDoorbell => exact frame_within (execRingDoorbell_frame ..) rfl
  | descriptorFetch => exact frame_within (execDescriptorFetch_frame ..) rfl
  | ringRestart => exact frame_within (execRingRestart_frame ..) rfl
  | evtSignal => exact frame_within (execEvtSignal_frame ..) rfl
  | gateTimeReady => exact frame_within (execGateTimeReady_frame ..) rfl
  | deadlineExpired => exact frame_within (execDeadlineExpired_frame ..) rfl
  | taskPlace => exact frame_within (execTaskPlace_frame ..) rfl
  | taskDispatch => exact frame_within (execTaskDispatch_frame ..) rfl
  | taskReplace => exact frame_within (execTaskReplace_frame ..) rfl
  | engineJobOffer => exact frame_within (execEngineJobOffer_frame ..) rfl
  | taskEnd => exact frame_within (execTaskEnd_frame ..) rfl
  | completionRecordWrite => exact frame_within (execCompletionRecordWrite_frame ..) rfl
  | cqCoalTimer => exact frame_within (execCqCoalTimer_frame ..) rfl
  | cqHeadDoorbell => exact frame_within (execCqHeadDoorbell_frame ..) rfl
  | cancelTask => exact frame_within (execCancelTask_frame ..) rfl
  | cancelFlow => exact frame_within (execCancelFlow_frame ..) rfl
  | cancelDone => exact frame_within (execCancelDone_frame ..) rfl
  | flowResume => exact frame_within (execFlowResume_frame ..) rfl
  | histClr => exact frame_within (execHistClr_frame ..) rfl
  | loadWindow => exact frame_within (execLoadWindow_frame ..) rfl
  | memoryRead => exact frame_within (execMemoryRead_frame ..) rfl
  | memoryWrite => exact frame_within (execMemoryWrite_frame ..) rfl
  | eccWriteback => exact frame_within (execEccWriteback_frame ..) rfl
  | mergeLineDrain => exact frame_within (execMergeLineDrain_frame ..) rfl
  | cbankClear => exact frame_within (execCbankClear_frame ..) rfl
  | cmemClear => exact frame_within (execCmemClear_frame ..) rfl
  | scrubGo => exact frame_within (execScrubGo_frame ..) rfl
  | scrubFillGo => exact frame_within (execScrubFillGo_frame ..) rfl
  | scrubAbort => exact frame_within (execScrubAbort_frame ..) rfl
  | scrubLine => exact frame_within (execScrubLine_frame ..) rfl
  | memLogClr => exact frame_within (execMemLogClr_frame ..) rfl
  | granuleRetire => exact frame_within (execGranuleRetire_frame ..) rfl
  | bankOwnerWrite => exact frame_within (execBankOwnerWrite_frame ..) rfl
  | rowRemapGo => exact frame_within (execRowRemapGo_frame ..) rfl
  | remapDone => exact frame_within (execRemapDone_frame ..) rfl
  | hbmTempHigh => exact frame_within (execHbmTempHigh_frame ..) rfl
  | laneStart => exact frame_within (execLaneStart_frame ..) rfl
  | laneAlign => exact frame_within (execLaneAlign_frame ..) rfl
  | helloSend => exact frame_within (execHelloSend_frame ..) rfl
  | helloReceive => exact frame_within (execHelloReceive_frame ..) rfl
  | departFrameReceive => exact frame_within (execDepartFrameReceive_frame ..) rfl
  | blockLock => exact frame_within (execBlockLock_frame ..) rfl
  | trainReceive => exact frame_within (execTrainReceive_frame ..) rfl
  | stepTimeout => exact frame_within (execStepTimeout_frame ..) rfl
  | txSquelchEnd => exact frame_within (execTxSquelchEnd_frame ..) rfl
  | cdrLock => exact frame_within (execCdrLock_frame ..) rfl
  | syncWindowEnd => exact frame_within (execSyncWindowEnd_frame ..) rfl
  | slip => exact frame_within (execSlip_frame ..) rfl
  | accept => exact frame_within (execAccept_frame ..) rfl
  | slipLimit => exact frame_within (execSlipLimit_frame ..) rfl
  | lockLoss => exact frame_within (execLockLoss_frame ..) rfl
  | laneCfgWrite => exact frame_within (execLaneCfgWrite_frame ..) rfl
  | retrain => exact frame_within (execRetrain_frame ..) rfl
  | qrefSelWrite => exact frame_within (execQrefSelWrite_frame ..) rfl
  | qrefLock => exact frame_within (execQrefLock_frame ..) rfl
  | qrefUnlock => exact frame_within (execQrefUnlock_frame ..) rfl
  | signalDetect => exact frame_within (execSignalDetect_frame ..) rfl
  | ethPortAligned => exact frame_within (execEthPortAligned_frame ..) rfl
  | ethLockLoss => exact frame_within (execEthLockLoss_frame ..) rfl
  | prbsCheckLock => exact frame_within (execPrbsCheckLock_frame ..) rfl
  | prbsCheckUnlock => exact frame_within (execPrbsCheckUnlock_frame ..) rfl
  | prbsErrRead => exact frame_within (execPrbsErrRead_frame ..) rfl
  | eyeSweepGo => exact frame_within (execEyeSweepGo_frame ..) rfl
  | eyeSweepAbort => exact frame_within (execEyeSweepAbort_frame ..) rfl
  | eyePointDone => exact frame_within (execEyePointDone_frame ..) rfl
  | linkCfgWrite => exact frame_within (execLinkCfgWrite_frame ..) rfl
  | commaSend => exact frame_within (execCommaSend_frame ..) rfl
  | lstateReceive => exact frame_within (execLstateReceive_frame ..) rfl
  | maskApply => exact frame_within (execMaskApply_frame ..) rfl
  | frameReceive => exact frame_within (execFrameReceive_frame ..) rfl
  | frameDeliveredEvent => exact frame_within (execFrameDeliveredEvent_frame ..) rfl
  | ecpriReceive => exact frame_within (execEcpriReceive_frame ..) rfl
  | controlBlockUnknown => exact frame_within (execControlBlockUnknown_frame ..) rfl
  | ackReceive => exact frame_within (execAckReceive_frame ..) rfl
  | nakReceive => exact frame_within (execNakReceive_frame ..) rfl
  | ackSend => exact frame_within (execAckSend_frame ..) rfl
  | replayTimeout => exact frame_within (execReplayTimeout_frame ..) rfl
  | departReceive => exact frame_within (execDepartReceive_frame ..) rfl
  | partnerTimeout => exact frame_within (execPartnerTimeout_frame ..) rfl
  | tailraceFrameSend => exact frame_within (execTailraceFrameSend_frame ..) rfl
  | injDrop => exact frame_within (execInjDrop_frame ..) rfl
  | injCorrupt => exact frame_within (execInjCorrupt_frame ..) rfl
  | injReorder => exact frame_within (execInjReorder_frame ..) rfl
  | injLaneDrop => exact frame_within (execInjLaneDrop_frame ..) rfl
  | fft => exact frame_within (execFft_frame ..) rfl
  | ifft => exact frame_within (execIfft_frame ..) rfl
  | dft => exact frame_within (execDft_frame ..) rfl
  | idft => exact frame_within (execIdft_frame ..) rfl
  | filter => exact frame_within (execFilter_frame ..) rfl
  | expand => exact frame_within (execExpand_frame ..) rfl
  | pack => exact frame_within (execPack_frame ..) rfl
  | update => exact frame_within (execUpdate_frame ..) rfl
  | ldpcDec => exact frame_within (execLdpcDec_frame ..) rfl
  | ldpcEnc => exact frame_within (execLdpcEnc_frame ..) rfl
  | turboDec => exact frame_within (execTurboDec_frame ..) rfl
  | turboEnc => exact frame_within (execTurboEnc_frame ..) rfl
  | polarDec => exact frame_within (execPolarDec_frame ..) rfl
  | polarEnc => exact frame_within (execPolarEnc_frame ..) rfl
  | trellisDec => exact frame_within (execTrellisDec_frame ..) rfl
  | convEnc => exact frame_within (execConvEnc_frame ..) rfl
  | prach => exact frame_within (execPrach_frame ..) rfl
  | gsm => exact frame_within (execGsm_frame ..) rfl
  | engineJobFinish => exact frame_within (execEngineJobFinish_frame ..) rfl
  | rawWrap => exact frame_within (execRawWrap_frame ..) rfl
  | ptWrap => exact frame_within (execPtWrap_frame ..) rfl
  | rateCommit => exact frame_within (execRateCommit_frame ..) rfl
  | snap => exact frame_within (execSnap_frame ..) rfl
  | ftbAdjWrite => exact frame_within (execFtbAdjWrite_frame ..) rfl
  | slewDone => exact frame_within (execSlewDone_frame ..) rfl
  | ftbStep => exact frame_within (execFtbStep_frame ..) rfl
  | eecInputQualify => exact frame_within (execEecInputQualify_frame ..) rfl
  | eecInputDisqualify => exact frame_within (execEecInputDisqualify_frame ..) rfl
  | eecLock => exact frame_within (execEecLock_frame ..) rfl
  | eecRevert => exact frame_within (execEecRevert_frame ..) rfl
  | eecHoldoverExit => exact frame_within (execEecHoldoverExit_frame ..) rfl
  | eecDisable => exact frame_within (execEecDisable_frame ..) rfl
  | ptpReceive => exact frame_within (execPtpReceive_frame ..) rfl
  | ptpTxGo => exact frame_within (execPtpTxGo_frame ..) rfl
  | ptpTxDone => exact frame_within (execPtpTxDone_frame ..) rfl
  | slotArm => exact frame_within (execSlotArm_frame ..) rfl
  | slotDisarm => exact frame_within (execSlotDisarm_frame ..) rfl
  | slotTimeCommit => exact frame_within (execSlotTimeCommit_frame ..) rfl
  | slotDue => exact frame_within (execSlotDue_frame ..) rfl
  | slotLenReadDone => exact frame_within (execSlotLenReadDone_frame ..) rfl
  | txTimestamp => exact frame_within (execTxTimestamp_frame ..) rfl
  | tsqPop => exact frame_within (execTsqPop_frame ..) rfl
  | ppsOutEdge => exact frame_within (execPpsOutEdge_frame ..) rfl
  | ppsOutFall => exact frame_within (execPpsOutFall_frame ..) rfl
  | ppsInEdge => exact frame_within (execPpsInEdge_frame ..) rfl
  | ppsInMiss => exact frame_within (execPpsInMiss_frame ..) rfl
  | alarmArm => exact frame_within (execAlarmArm_frame ..) rfl
  | alarm => exact frame_within (execAlarm_frame ..) rfl
  | alarmFiredClear => exact frame_within (execAlarmFiredClear_frame ..) rfl
  | integrityFault => exact frame_within (execIntegrityFault_frame ..) rfl
  | sagWarn => exact frame_within (execSagWarn_frame ..) rfl
  | sagAction => exact frame_within (execSagAction_frame ..) rfl
  | sagWarnRearm => exact frame_within (execSagWarnRearm_frame ..) rfl
  | fenceRequestsDrained => exact frame_within (execFenceRequestsDrained_frame ..) rfl
  | fenceRailOk => exact frame_within (execFenceRailOk_frame ..) rfl
  | fenceDone => exact frame_within (execFenceDone_frame ..) rfl
  | weirInj => exact frame_within (execWeirInj_frame ..) rfl
  | powerEntryRequest => exact frame_within (execPowerEntryRequest_frame ..) rfl
  | powerDeferEnd => exact frame_within (execPowerDeferEnd_frame ..) rfl
  | powerDeferLimit => exact frame_within (execPowerDeferLimit_frame ..) rfl
  | powerEntryComplete => exact frame_within (execPowerEntryComplete_frame ..) rfl
  | voteLingerExpiry => exact frame_within (execVoteLingerExpiry_frame ..) rfl
  | wakeEvent => exact frame_within (execWakeEvent_frame ..) rfl
  | pulseWake => exact frame_within (execPulseWake_frame ..) rfl
  | wakeComplete => exact frame_within (execWakeComplete_frame ..) rfl
  | quadDomainEntry => exact frame_within (execQuadDomainEntry_frame ..) rfl
  | quadDomainWake => exact frame_within (execQuadDomainWake_frame ..) rfl
  | quadWakeRetry => exact frame_within (execQuadWakeRetry_frame ..) rfl
  | plevelWrite => exact frame_within (execPlevelWrite_frame ..) rfl
  | pllLock => exact frame_within (execPllLock_frame ..) rfl
  | voutPoll => exact frame_within (execVoutPoll_frame ..) rfl
  | vregTimeout => exact frame_within (execVregTimeout_frame ..) rfl
  | powerEstUpdate => exact frame_within (execPowerEstUpdate_frame ..) rfl
  | scanStart => exact frame_within (execScanStart_frame ..) rfl
  | scanTimer => exact frame_within (execScanTimer_frame ..) rfl
  | adcStartupDone => exact frame_within (execAdcStartupDone_frame ..) rfl
  | injGo => exact frame_within (execInjGo_frame ..) rfl
  | calGo => exact frame_within (execCalGo_frame ..) rfl
  | conversionDone => exact frame_within (execConversionDone_frame ..) rfl
  | calDone => exact frame_within (execCalDone_frame ..) rfl
  | bmonQueueRead => exact frame_within (execBmonQueueRead_frame ..) rfl
  | pmbTxnGo => exact frame_within (execPmbTxnGo_frame ..) rfl
  | pmbTxnStart => exact frame_within (execPmbTxnStart_frame ..) rfl
  | txnDone => exact frame_within (execTxnDone_frame ..) rfl
  | pmbTimeout => exact frame_within (execPmbTimeout_frame ..) rfl
  | pmbAlert => exact frame_within (execPmbAlert_frame ..) rfl
  | hscPoll => exact frame_within (execHscPoll_frame ..) rfl
  | hscOff => exact frame_within (execHscOff_frame ..) rfl
  | gpioEdge => exact frame_within (execGpioEdge_frame ..) rfl
  | configRequest => exact frame_within (execConfigRequest_frame ..) rfl
  | pcieLinkUp => exact frame_within (execPcieLinkUp_frame ..) rfl
  | doorbellRead => exact frame_within (execDoorbellRead_frame ..) rfl
  | irqRearm => exact frame_within (execIrqRearm_frame ..) rfl
  | msixUnmask => exact frame_within (execMsixUnmask_frame ..) rfl
  | functionLevelReset => exact frame_within (execFunctionLevelReset_frame ..) rfl
  | linkReset => exact frame_within (execLinkReset_frame ..) rfl
  | pumpDoorbell => exact frame_within (execPumpDoorbell_frame ..) rfl
  | pumpChDb => exact frame_within (execPumpChDb_frame ..) rfl
  | pumpDescFetch => exact frame_within (execPumpDescFetch_frame ..) rfl
  | pumpDescComplete => exact frame_within (execPumpDescComplete_frame ..) rfl
  | cplTimeout => exact frame_within (execCplTimeout_frame ..) rfl
  | pumpAbort => exact frame_within (execPumpAbort_frame ..) rfl
  | pumpResume => exact frame_within (execPumpResume_frame ..) rfl
  | burnOwner => exact frame_within (execBurnOwner_frame ..) rfl
  | revokeOwner => exact frame_within (execRevokeOwner_frame ..) rfl
  | advanceSvn => exact frame_within (execAdvanceSvn_frame ..) rfl
  | revokeVendor => exact frame_within (execRevokeVendor_frame ..) rfl
  | vendorBootDis => exact frame_within (execVendorBootDis_frame ..) rfl
  | burnDone => exact frame_within (execBurnDone_frame ..) rfl
  | bootBegin => exact frame_within (execBootBegin_frame ..) rfl
  | fuseReadDone => exact frame_within (execFuseReadDone_frame ..) rfl
  | pushGo => exact frame_within (execPushGo_frame ..) rfl
  | pushWindowTimeout => exact frame_within (execPushWindowTimeout_frame ..) rfl
  | manifestReadDone => exact frame_within (execManifestReadDone_frame ..) rfl
  | hbmStackTrained => exact frame_within (execHbmStackTrained_frame ..) rfl
  | imagesLoaded => exact frame_within (execImagesLoaded_frame ..) rfl
  | bootEnd => exact frame_within (execBootEnd_frame ..) rfl
  | attReport => exact frame_within (execAttReport_frame ..) rfl
  | attIdentity => exact frame_within (execAttIdentity_frame ..) rfl
  | attDone => exact frame_within (execAttDone_frame ..) rfl
  | rstoStageWrite => exact frame_within (execRstoStageWrite_frame ..) rfl
  | commit => exact frame_within (execCommit_frame ..) rfl
  | arm => exact frame_within (execArm_frame ..) rfl
  | disarm => exact frame_within (execDisarm_frame ..) rfl
  | commitDone => exact frame_within (execCommitDone_frame ..) rfl
  | wellPor => exact frame_within (execWellPor_frame ..) rfl
  | pwrGoodLoss => exact frame_within (execPwrGoodLoss_frame ..) rfl
  | sysRst => exact frame_within (execSysRst_frame ..) rfl
  | systemResetRelease => exact frame_within (execSystemResetRelease_frame ..) rfl
  | wellRstSystem => exact frame_within (execWellRstSystem_frame ..) rfl
  | wellRstDevice => exact frame_within (execWellRstDevice_frame ..) rfl
  | deviceResetRelease => exact frame_within (execDeviceResetRelease_frame ..) rfl
  | perstAssert => exact frame_within (execPerstAssert_frame ..) rfl
  | tapReset => exact frame_within (execTapReset_frame ..) rfl
  | thermtrip => exact frame_within (execThermtrip_frame ..) rfl
  | extest => exact frame_within (execExtest_frame ..) rfl
  | idcode => exact frame_within (execIdcode_frame ..) rfl
  | samplePreload => exact frame_within (execSamplePreload_frame ..) rfl
  | extestPulse => exact frame_within (execExtestPulse_frame ..) rfl
  | extestTrain => exact frame_within (execExtestTrain_frame ..) rfl
  | clamp => exact frame_within (execClamp_frame ..) rfl
  | highz => exact frame_within (execHighz_frame ..) rfl
  | bypass => exact frame_within (execBypass_frame ..) rfl
  | fyilFrame => exact frame_within (execFyilFrame_frame ..) rfl
  | frameHdrReceive => exact frame_within (execFrameHdrReceive_frame ..) rfl
  | copUnitStop => exact frame_within (execCopUnitStop_frame ..) rfl
  | perstRelease => exact frame_within (execPerstRelease_frame ..) rfl

/-- What a command leaves, it leaves within the parts that it can change. -/
theorem exec_onlyParts {c : Instr} {s t : State} (h : exec c s = .next t) : OnlyParts (partsOf c) s t := by
  obtain ⟨u, hu, hf⟩ := exec_frame c s
  obtain rfl : u = t := Host.Outcome.next.inj (hu.symm.trans h)
  exact hf.parts (Nat.and_self _)

/-! ## The part that holds RAW, EPOCH and FACTORY_SEEN -/

theorem Frame.kept {m : Nat} {s t : State} (h : Frame m s t) (hm : m.testBit 1 = false) : t.kept = s.kept :=
  h.same .kept hm

/-- The commands that can change RAW, EPOCH or FACTORY_SEEN: the named cycles, the end of BOOT, the loss of VDD_WELL. -/
def movesKept : Instr → Bool
  | .rawWrap | .ptWrap | .slewDone | .bootEnd | .wellPor | .pwrGoodLoss => true
  | _ => false

theorem partsOf_contains_kept (c : Instr) : (partsOf c).contains .kept = movesKept c := by cases c <;> rfl

/-- A command that is not one of these leaves the part as it was. -/
theorem exec_kept {c : Instr} {s t : State} (hc : movesKept c = false) (h : exec c s = .next t) : t.kept = s.kept :=
  exec_onlyParts h .kept fun hp => by
    rw [← partsOf_contains_kept, List.contains_iff_mem.2 hp] at hc
    exact Bool.noConfusion hc

/-! ## A cycle of CLK_TIME -/

theorem advanceRaw_kept (s : State) : s.advanceRaw.kept = { s.kept with
    raw := s.kept.raw + 1024, epoch := if 2 ^ 64 ≤ s.kept.raw.toNat + 1024 then s.kept.epoch + 1 else s.kept.epoch } := by
  by_cases h : 2 ^ 64 ≤ s.kept.raw.toNat + 1024
  · simp only [State.advanceRaw, h, decide_true, if_true]
    exact (State.irqBit_frame ..).kept rfl
  · simp only [State.advanceRaw, h, decide_false, if_false, Bool.false_eq_true]

/-- Of what a cycle does, only the advance of RAW touches RAW and EPOCH: a step, a slew's end and a wrap of presented time do not. -/
theorem cycle_kept (s : State) : s.cycle.kept = s.advanceRaw.kept := by
  have h1 : s.vaneTick.advanceRaw.kept = s.advanceRaw.kept := by
    rw [advanceRaw_kept, advanceRaw_kept, (State.vaneTick_frame s).kept rfl]
  rw [← h1]
  unfold State.cycle
  extract_lets +onlyGivenNames s1 s2
  split
  · exact (State.makeStep_frame ..).kept rfl
  · have h2 : Frame 0x48004c s1 s2 := Frame.ite (State.endSlew_frame s1) (Frame.refl _ s1)
    exact (Frame.ite (h2.trans (upd_time rfl)) h2).kept rfl

theorem cycle_raw (s : State) : s.cycle.kept.raw = s.kept.raw + 1024 := by rw [cycle_kept, advanceRaw_kept]

theorem cycle_epoch (s : State) :
    s.cycle.kept.epoch = if 2 ^ 64 ≤ s.kept.raw.toNat + 1024 then s.kept.epoch + 1 else s.kept.epoch := by
  rw [cycle_kept, advanceRaw_kept]

theorem next_ite (p : Prop) [Decidable p] (a b : State) :
    (.next (if p then a else b) : Host.Outcome State Fault Refusal) = .next a
      ∨ (.next (if p then a else b) : Host.Outcome State Fault Refusal) = .next b := by
  split
  · exact .inl rfl
  · exact .inr rfl

/-- A command that names an event of a cycle makes that cycle where the event is due, and does nothing where it is not. -/
theorem exec_namedCycle {c : Instr} (s : State) (hc : c = .rawWrap ∨ c = .ptWrap ∨ c = .slewDone) :
    exec c s = .next s.cycle ∨ exec c s = .next s := by
  obtain rfl | rfl | rfl := hc
  · exact next_ite (2 ^ 64 ≤ s.kept.raw.toNat + 1024) s.cycle s
  · exact next_ite (s.ptWraps = true) s.cycle s
  · exact next_ite (s.slewEnds = true) s.cycle s

/-! ## The end of BOOT, and the loss of VDD_WELL -/

/-- The end of BOOT marks FACTORY_SEEN, and leaves RAW and EPOCH (R61, R428). -/
theorem endBoot_kept (s : State) (b : BootSt) (m : Manifest) :
    (s.endBoot b m).kept = { s.kept with factorySeen := s.kept.factorySeen || m.factory } := by
  unfold State.endBoot
  extract_lets +onlyGivenNames _ _ s1 s2 s3
  have h2 : s2.kept = s1.kept :=
    (Frame.foldl (m := 0x600bfffc4f07d8) _ _ _ (fun t q => State.bootDomain_frame t q) ((State.setMode_frame ..).mono rfl)).kept rfl
  have h3 : s3.kept = s1.kept := ((State.endTransition_frame ..).kept rfl).trans h2
  split
  · exact ((State.startDrain_frame ..).kept rfl).trans h3
  · exact h3

theorem execBootEnd_raw_epoch {s t : State} (h : execBootEnd s = .next t) :
    t.kept.raw = s.kept.raw ∧ t.kept.epoch = s.kept.epoch := by
  obtain rfl := Host.Outcome.next.inj h
  split
  · exact ⟨rfl, rfl⟩
  · split
    · split
      · rw [endBoot_kept]; exact ⟨rfl, rfl⟩
      · exact ⟨rfl, rfl⟩
    · exact ⟨rfl, rfl⟩

theorem wellReset_kept (s : State) : s.wellReset.kept = ⟨0, 0, false⟩ := rfl

theorem examine_kept (s : State) : s.examine.kept = s.kept := (State.examine_frame s).kept rfl

/-! ## The obligation -/

/-- A command that neither is the loss of VDD_WELL nor names a cycle leaves RAW and EPOCH (R308). -/
theorem exec_raw_epoch {c : Instr} {s t : State} (hw : c ≠ .wellPor) (hp : c ≠ .pwrGoodLoss) (hr : c ≠ .rawWrap)
    (ht : c ≠ .ptWrap) (hs : c ≠ .slewDone) (h : exec c s = .next t) :
    t.kept.raw = s.kept.raw ∧ t.kept.epoch = s.kept.epoch := by
  by_cases hb : c = .bootEnd
  · subst hb; exact execBootEnd_raw_epoch h
  · have hm : movesKept c = false := by
      unfold movesKept
      split <;> trivial
    rw [exec_kept hm h]
    exact ⟨rfl, rfl⟩

/-- Settles O7: RAW and EPOCH stand in one part of the state; the frames of the commands shut it out of all but six. -/
theorem rawKept : Obligations.RawKept := by
  refine ⟨fun s => ⟨cycle_raw s, fun h => ?_, fun h => ?_⟩, fun c s hc => ?_, fun s => ⟨?_, ?_⟩,
    fun _ _ _ hw hp hr ht hs h => exec_raw_epoch hw hp hr ht hs h⟩
  · rw [cycle_epoch, if_neg (Nat.not_le.2 h)]
  · rw [cycle_epoch, if_pos h]
  · exact (exec_namedCycle s hc).elim (fun h => ⟨_, h, .inl ⟨rfl, rfl⟩⟩) (fun h => ⟨_, h, .inr ⟨rfl, rfl⟩⟩)
  · refine ⟨s.wellReset.examine, rfl, ?_⟩
    simp only [examine_kept, wellReset_kept, and_self]
  · refine ⟨{ s.wellReset with wide := some .power }, rfl, ?_⟩
    simp only [wellReset_kept, and_self]

end Sys2Proof.Machine
end

section
/-! What a Weir does with integrity codes (R338, R339, R342 to R344, R353, R354), with the samples of the rails (R345 to R347) and with an
injection (R358). -/

namespace Sys2Proof.Machine

open Sys2Proof

/-! ## Codes and classes -/

theorem integClass_le (code : Nat) : integClass code ≤ 6 := by unfold integClass; split <;> decide

theorem integClass_eq_zero {code : Nat} (h : 25 ≤ code) : integClass code = 0 := by
  unfold integClass
  split <;> omega

theorem weirTakes_class {w code : Nat} (h : weirTakes w code = true) : integClass code ≠ 0 :=
  of_decide_eq_true (Bool.and_eq_true_iff.1 h).1

theorem weirTakes_lt {w code : Nat} (h : weirTakes w code = true) : code < 25 := by
  by_contra hc
  exact weirTakes_class h (integClass_eq_zero (Nat.le_of_not_lt hc))

/-! ## WEIR_INTEG through the record of an event -/

/-- The registers at offset 0x078 of a page, WEIR_INTEG of a Weir among them, are as they were. -/
def IntegRegs (s t : State) : Prop := ∀ k, k % 0x1000 = 0x078 → t.reg k = s.reg k

theorem IntegRegs.refl (s : State) : IntegRegs s s := fun _ _ => rfl

theorem IntegRegs.trans {s t u : State} (h : IntegRegs s t) (k : IntegRegs t u) : IntegRegs s u :=
  fun j hj => (k j hj).trans (h j hj)

theorem IntegRegs.ite {s a b : State} {c : Prop} [Decidable c] (ha : IntegRegs s a) (hb : IntegRegs s b) :
    IntegRegs s (if c then a else b) := by split <;> assumption

theorem IntegRegs.of_regs {s t : State} (h : t.regs = s.regs) : IntegRegs s t := fun k _ => by rw [State.reg, h]; rfl

theorem IntegRegs.setReg {s t : State} {k : Nat} (v : W32) (h : IntegRegs s t) (e : k % 0x1000 ≠ 0x078) : IntegRegs s (t.setReg k v) :=
  fun j hj => (reg_setReg_ne _ _ (by rintro rfl; exact e hj)).trans (h j hj)

theorem pgWEIR_mod (w : Nat) : pgWEIR w % 0x1000 = 0 := by
  unfold pgWEIR pgQWEIR quadPg pgDWEIR devPg
  split <;> omega

theorem fyilPush_integRegs (s : State) (kind w body : Nat) : IntegRegs s (s.fyilPush kind w body) := by
  unfold State.fyilPush
  exact .ite (.of_regs rfl) ((IntegRegs.refl s).setReg _ (by decide))

/-- The counts of the classes stand at 0x05C to 0x074, below WEIR_INTEG. -/
theorem weirRecord_integRegs (s : State) (w : Nat) (e : WeirEvent) (hb : e.bit < 64) (hc : e.cls ≤ 6) :
    IntegRegs s (s.weirRecord w e) := by
  unfold State.weirRecord
  extract_lets pg s1 s2 s3 s4
  have hpg : pg % 0x1000 = 0 := pgWEIR_mod w
  have h1 : IntegRegs s s1 := (IntegRegs.refl s).setReg _ (by omega)
  have h2 : IntegRegs s s2 :=
    .ite (((h1.setReg _ (by omega)).setReg _ (by omega)).setReg _ (by omega)) (h1.setReg _ (by omega))
  have h3 : IntegRegs s s3 := h2.setReg _ (by omega)
  have h4 : IntegRegs s s4 := .ite (h3.setReg _ (by omega)) h3
  exact .ite (h4.trans (fyilPush_integRegs s4 _ _ _)) h4

theorem message_integRegs (s : State) (fn v : Nat) : IntegRegs s (s.message fn v).1 := by
  unfold State.message
  split
  · split
    · exact .of_regs rfl
    · exact (IntegRegs.refl s).setReg _ (by decide)
  · exact .of_regs rfl

theorem setErrs_integRegs (s : State) {pg : Nat} (bits : W32) (h : pg % 0x1000 = 0) : IntegRegs s (s.setErrs pg bits) := by
  have h1 : IntegRegs s (s.setReg (pg + 0x010) (s.reg (pg + 0x010) ||| bits)) := (IntegRegs.refl s).setReg _ (by omega)
  unfold State.setErrs
  split
  · exact .ite (h1.setReg _ (by omega)) h1
  · exact h1

/-- The largest value of a measure over a list: an upper bound, and reached. -/
theorem foldl_max_spec {α : Type} (f : α → Nat) (l : List α) (a : Nat) :
    a ≤ l.foldl (fun c x => max c (f x)) a ∧ (∀ x ∈ l, f x ≤ l.foldl (fun c x => max c (f x)) a)
      ∧ (l.foldl (fun c x => max c (f x)) a = a ∨ ∃ x ∈ l, f x = l.foldl (fun c x => max c (f x)) a) := by
  induction l generalizing a with
  | nil => simp
  | cons y l ih =>
    obtain ⟨hle, hall, hreach⟩ := ih (max a (f y))
    simp only [List.foldl_cons, List.forall_mem_cons, List.exists_mem_cons_iff]
    grind

theorem errClass_le_three (b : Block) (n : Nat) : errClass b n ≤ 3 := by
  unfold errClass
  repeat' split
  all_goals decide

theorem highestClass_le_three (b : Block) (x : W32) : highestClass b x ≤ 3 := by
  obtain ⟨-, -, h | ⟨n, -, h⟩⟩ := foldl_max_spec (errClass b) (indices 32 fun n => x.getLsbD n) 0
  · exact h.le.trans (by decide)
  · exact h.ge.trans (errClass_le_three b n)

theorem raiseQuiet_integRegs (s : State) {pg : Nat} (p : Page) (bits : W32) (loc : W16) (cg : Option Nat) (inj : Bool)
    (h : pg % 0x1000 = 0) (hb : p.weirBit < 64) : IntegRegs s (s.raiseQuiet pg p bits loc cg inj) := by
  have h1 := setErrs_integRegs s bits h
  exact .ite h1 (h1.trans (.ite (weirRecord_integRegs _ _ _ hb ((highestClass_le_three ..).trans (by decide))) (.refl _)))

theorem vecEdge_integRegs (s : State) (v : Nat) (was : Bool) : IntegRegs s (s.vecEdge v was) := by
  have h1 : IntegRegs s (s.message pf0 v).1 := message_integRegs s pf0 v
  have h2 := h1.trans (raiseQuiet_integRegs (s.message pf0 v).1 (pg := pgPCIE) ⟨.pcie, 0, 0, 4⟩ 4 0 none false (by decide) (by decide))
  exact .ite (.ite (.ite (h2.trans (message_integRegs _ pf0 1)) h2) h1) (.refl s)

/-- The messages of the vectors leave WEIR_INTEG as the change itself left it. -/
theorem withVecs_integRegs (s : State) (vs : List Nat) (f : State → State) : IntegRegs (f s) (s.withVecs vs f) := by
  unfold State.withVecs
  generalize f s = t
  induction vs generalizing t with
  | nil => exact .refl t
  | cons v vs ih => exact (vecEdge_integRegs t v _).trans (ih _)

/-- A change of nothing leaves no vector's edge behind. -/
theorem withVecs_self (s : State) (v : Nat) {f : State → State} (h : f s = s) : s.withVecs [v] f = s := by
  simp [State.withVecs, State.vecEdge, h]

theorem withVecs_congr {s : State} (vs : List Nat) {f g : State → State} (h : f s = g s) : s.withVecs vs f = s.withVecs vs g := by
  unfold State.withVecs
  rw [h]

/-! ## The record of a code (R340, R342) -/

theorem setInteg_bit (s : State) (w : Nat) {code : Nat} (h : code < 32) : bit ((s.setInteg w code).reg (pgWEIR w + 0x078)) code = true := by
  have h1 : bit ((s.orReg (pgWEIR w + 0x078) (BitVec.ofNat 32 (2 ^ code))).reg (pgWEIR w + 0x078)) code = true := by
    rw [reg_orReg_self, bit, BitVec.getLsbD_or, BitVec.getLsbD_ofNat, Nat.testBit_two_pow_self, decide_eq_true h, Bool.and_true, Bool.or_true]
  unfold State.setInteg
  extract_lets s1
  split
  · rwa [State.setRowBit, reg_put_ne _ _ _ _ (by omega)]
  · exact h1

theorem setInteg_regs (s : State) (w code : Nat) : EventRegs s (s.setInteg w code) := by
  have h1 : EventRegs s (s.orReg (pgWEIR w + 0x078) (BitVec.ofNat 32 (2 ^ code))) :=
    (EventRegs.refl s).setReg _ (eventReg_weir w (by decide))
  exact .ite (h1.put _ _ _ (eventReg_weir w (x := 0x02C) (by decide))) h1

theorem integEvent_bit_lt (w code : Nat) (loc : W16) (cg : Option Nat) (inj : Bool) : (integEvent w code loc cg inj).bit < 64 := by
  unfold integEvent
  dsimp only
  split <;> decide

/-- A code alone is set in WEIR_INTEG and recorded, with the message of the Weir's vector. -/
def State.integRecord (s : State) (w code : Nat) (loc : W16) (cg : Option Nat) (inj : Bool) : State :=
  s.withVecs [weirVec w] (fun t => (t.setInteg w code).weirRecord w (integEvent w code loc cg inj))

theorem integRecord_bit (s : State) (w : Nat) {code : Nat} (loc : W16) (cg : Option Nat) (inj : Bool) (h : code < 32) :
    bit ((s.integRecord w code loc cg inj).reg (pgWEIR w + 0x078)) code = true := by
  have hk : (pgWEIR w + 0x078) % 0x1000 = 0x078 := by have := pgWEIR_mod w; omega
  rw [State.integRecord, withVecs_integRegs _ _ _ _ hk, weirRecord_integRegs _ _ _ (integEvent_bit_lt ..) (integClass_le code) _ hk]
  exact setInteg_bit s w h

theorem integRecord_event (s : State) (w code : Nat) (loc : W16) (cg : Option Nat) (inj : Bool) :
    EventOnly s (s.integRecord w code loc cg inj) := by
  refine ⟨Frame.parts (m := 0x480048) (State.withVecs_frame rfl _ _ _ fun t => ?_) (by decide), withVecs_regs _ _ _ ?_⟩
  · exact (State.weirRecord_frame ..).step rfl ((State.setInteg_frame ..).mono rfl)
  · exact (setInteg_regs s w code).trans (weirRecord_regs _ _ _ (integEvent_bit_lt ..) ((integClass_le code).trans_lt (by decide)))

/-! ## The event of a block's cycle (R339) -/

/-- The highest class of the codes of a block that a Weir receives. -/
def topClass (b : BlockCycle) (w : Nat) : Nat := (cycleCodes b w).foldl (fun c x => max c (integClass x.code.toNat)) 0

/-- The source of the lowest code of that class. -/
def topSrc (b : BlockCycle) (w : Nat) : Option IntegSrc :=
  ((List.range 32).filterMap (fun n =>
    (cycleCodes b w).find? (fun x => decide (x.code.toNat = n) && decide (integClass n = topClass b w)))).head?

theorem mem_cycleCodes {b : BlockCycle} {w : Nat} {c : IntegSrc} : c ∈ cycleCodes b w ↔ c ∈ b.srcs ∧ weirTakes w c.code.toNat = true :=
  List.mem_filter

theorem cycleCodes_eq_nil {b : BlockCycle} {w : Nat} : cycleCodes b w = [] ↔ ∀ c ∈ b.srcs, weirTakes w c.code.toNat = false := by
  simp [cycleCodes]

theorem integClass_le_topClass {b : BlockCycle} {w : Nat} {c : IntegSrc} (h : c ∈ cycleCodes b w) :
    integClass c.code.toNat ≤ topClass b w :=
  (foldl_max_spec (fun x : IntegSrc => integClass x.code.toNat) _ 0).2.1 c h

theorem exists_topClass {b : BlockCycle} {w : Nat} {c : IntegSrc} (h : c ∈ cycleCodes b w) :
    ∃ x ∈ cycleCodes b w, integClass x.code.toNat = topClass b w := by
  obtain ⟨-, -, h0 | hx⟩ := foldl_max_spec (fun x : IntegSrc => integClass x.code.toNat) (cycleCodes b w) 0
  · exact ⟨c, h, Nat.le_antisymm (integClass_le_topClass h) ((Nat.le_of_eq h0).trans (Nat.zero_le _))⟩
  · exact hx

/-- The first answer among the numbers below n comes from the lowest that has one. -/
theorem findSome?_range_lowest {α : Type} {n : Nat} {f : Nat → Option α} {x : α} (h : (List.range n).findSome? f = some x) :
    ∃ i < n, f i = some x ∧ ∀ j < i, f j = none := by
  obtain ⟨l₁, i, l₂, hl, hx, hn⟩ := List.findSome?_eq_some_iff.1 h
  have hp : (l₁ ++ i :: l₂).Pairwise (· < ·) := hl ▸ List.pairwise_lt_range
  have hi : i < n := List.mem_range.1 (hl ▸ List.mem_append_cons_self)
  refine ⟨i, hi, hx, fun j hj => ?_⟩
  have hm : j ∈ l₁ ++ i :: l₂ := hl ▸ List.mem_range.2 (hj.trans hi)
  obtain hm | hm := List.mem_append.1 hm
  · exact hn j hm
  · obtain rfl | hm := List.mem_cons.1 hm
    · exact absurd hj (Nat.lt_irrefl _)
    · exact absurd hj (Nat.lt_asymm ((List.pairwise_cons.1 (List.pairwise_append.1 hp).2.1).1 j hm))

theorem topSrc_spec {b : BlockCycle} {w : Nat} {x : IntegSrc} (h : topSrc b w = some x) :
    x ∈ cycleCodes b w ∧ integClass x.code.toNat = topClass b w
      ∧ ∀ c ∈ cycleCodes b w, integClass c.code.toNat = topClass b w → x.code.toNat ≤ c.code.toNat := by
  rw [topSrc, List.head?_filterMap] at h
  obtain ⟨i, -, hi, hlow⟩ := findSome?_range_lowest h
  obtain ⟨rfl, hc⟩ : x.code.toNat = i ∧ integClass i = topClass b w := by simpa using List.find?_some hi
  refine ⟨List.mem_of_find?_eq_some hi, hc, fun c hm hcls => Nat.le_of_not_lt fun hlt => ?_⟩
  exact List.find?_eq_none.1 (hlow _ hlt) c hm (by simp [hcls])

theorem topSrc_eq_none {b : BlockCycle} {w : Nat} : topSrc b w = none ↔ cycleCodes b w = [] := by
  rw [topSrc, List.head?_filterMap, List.findSome?_eq_none_iff]
  refine ⟨fun h => List.eq_nil_iff_forall_not_mem.2 fun c hc => ?_, fun h => by simp [h]⟩
  obtain ⟨x, hx, hcls⟩ := exists_topClass hc
  exact List.find?_eq_none.1 (h _ (List.mem_range.2 x.code.isLt)) x hx (by simp [hcls])

/-- The event of an integrity source. -/
def State.codeEvent (s : State) (w : Nat) (x : IntegSrc) : WeirEvent :=
  integEvent w x.code.toNat x.loc (s.siteCg x.code.toNat x.site) false

/-- What the event of a block's cycle can be: nothing, the event of its ERR_STAT bits where their class reaches that of the codes, or the
event of the first code. -/
theorem blockEvent_cases (s : State) (w : Nat) (b : BlockCycle) :
    (s.blockEvent w b = none ∧ s.cycleErrs w b = 0 ∧ topSrc b w = none)
    ∨ (∃ e, s.blockEvent w b = some e ∧ s.cycleErrs w b ≠ 0 ∧ e.integ = false ∧ (topSrc b w = none ∨ topClass b w ≤ e.cls))
    ∨ ∃ x, s.blockEvent w b = some (s.codeEvent w x) ∧ topSrc b w = some x := by
  have hz : cyclePage b w = none → s.cycleErrs w b = 0 := fun h => by rw [State.cycleErrs, h]
  have hb : s.blockEvent w b = match (cyclePage b w).map (fun p => errEvent p (s.cycleErrs w b) (s.containAt p).1 (s.containAt p).2 false),
      topSrc b w with
    | some e, some x => some (if s.cycleErrs w b ≠ 0 ∧ topClass b w ≤ e.cls then e else s.codeEvent w x)
    | some e, none => if s.cycleErrs w b = 0 then none else some e
    | none, some x => some (s.codeEvent w x)
    | none, none => none := rfl
  cases hp : cyclePage b w <;> cases ht : topSrc b w <;> simp only [hp, ht, Option.map] at hb
  case none.none => exact .inl ⟨hb, hz hp, rfl⟩
  case none.some x => exact .inr (.inr ⟨x, hb, rfl⟩)
  case some.none p =>
    split at hb
    next h0 => exact .inl ⟨hb, h0, rfl⟩
    next h0 => exact .inr (.inl ⟨_, hb, h0, rfl, .inl rfl⟩)
  case some.some p x =>
    split at hb
    next h0 => exact .inr (.inl ⟨_, hb, h0.1, rfl, .inr h0.2⟩)
    next => exact .inr (.inr ⟨x, hb, rfl⟩)

theorem blockEvent_eq_none (s : State) (w : Nat) (b : BlockCycle) :
    s.blockEvent w b = none ↔ s.cycleErrs w b = 0 ∧ ∀ c ∈ b.srcs, weirTakes w c.code.toNat = false := by
  rw [← cycleCodes_eq_nil, ← topSrc_eq_none]
  obtain ⟨h, h0, ht⟩ | ⟨e, h, h0, -⟩ | ⟨x, h, ht⟩ := blockEvent_cases s w b
  · simp [h, h0, ht]
  · exact iff_of_false (by simp [h]) fun hn => h0 hn.1
  · simp [h, ht]

/-- The event's class is at least that of every code of the block that the Weir receives. -/
theorem integClass_le_blockEvent {s : State} {w : Nat} {b : BlockCycle} {e : WeirEvent} (h : s.blockEvent w b = some e)
    {c : IntegSrc} (hc : c ∈ b.srcs) (ht : weirTakes w c.code.toNat = true) : integClass c.code.toNat ≤ e.cls := by
  have hm := mem_cycleCodes.2 ⟨hc, ht⟩
  obtain ⟨h', -⟩ | ⟨e', h', -, -, ht | ht⟩ | ⟨x, h', hx⟩ := blockEvent_cases s w b <;> rw [h'] at h <;> cases h
  · rw [topSrc_eq_none.1 ht] at hm; cases hm
  · exact (integClass_le_topClass hm).trans ht
  · exact (integClass_le_topClass hm).trans_eq (topSrc_spec hx).2.1.symm

/-- An event of an integrity code is that of a source of the block, of the lowest code of its class. -/
theorem blockEvent_integ {s : State} {w : Nat} {b : BlockCycle} {e : WeirEvent} (h : s.blockEvent w b = some e) (hi : e.integ = true) :
    (∃ c ∈ b.srcs, weirTakes w c.code.toNat = true ∧ e.code = c.code.toNat ∧ e.cls = integClass c.code.toNat ∧ e.loc = c.loc)
      ∧ ∀ c ∈ b.srcs, weirTakes w c.code.toNat = true → integClass c.code.toNat = e.cls → e.code ≤ c.code.toNat := by
  obtain ⟨h', -⟩ | ⟨e', h', -, hf, -⟩ | ⟨x, h', hx⟩ := blockEvent_cases s w b <;> rw [h'] at h <;> cases h
  · exact Bool.noConfusion (hf.symm.trans hi)
  · obtain ⟨hm, hcls, hlow⟩ := topSrc_spec hx
    obtain ⟨hs, ht⟩ := mem_cycleCodes.1 hm
    exact ⟨⟨x, hs, ht, rfl, rfl, rfl⟩, fun c hc hw he => hlow c (mem_cycleCodes.2 ⟨hc, hw⟩) (he.trans hcls)⟩

/-! ## A cycle in which one code fires, or none -/

theorem cycleCodes_singleton {b : BlockCycle} {w : Nat} {x : IntegSrc} (h : b.srcs = [x]) (ht : weirTakes w x.code.toNat = true) :
    cycleCodes b w = [x] := by simp [cycleCodes, h, ht]

theorem blockEvent_singleton (s : State) {b : BlockCycle} {w : Nat} {x : IntegSrc} (hp : cyclePage b w = none) (h : b.srcs = [x])
    (ht : weirTakes w x.code.toNat = true) : s.blockEvent w b = some (s.codeEvent w x) := by
  have hc := cycleCodes_singleton h ht
  obtain ⟨-, -, h'⟩ | ⟨e, -, h0, -⟩ | ⟨y, he, hy⟩ := blockEvent_cases s w b
  · rw [topSrc_eq_none, hc] at h'; cases h'
  · exact absurd (by rw [State.cycleErrs, hp]) h0
  · obtain ⟨hm, -⟩ := topSrc_spec hy
    rw [hc, List.mem_singleton] at hm
    rw [he, hm]

/-- A code that fires alone: its record, then its class action. -/
theorem blocksCycle_singleton {s : State} {w : Nat} {b : BlockCycle} {x : IntegSrc} (hw : s.wide = none) (ha : s.weirAlive w = true)
    (hp : cyclePage b w = none) (h : b.srcs = [x]) (ht : weirTakes w x.code.toNat = true) :
    s.blocksCycle w [b] = (s.withVecs [weirVec w] (fun t =>
      ((t.setInteg w x.code.toNat).setRowBit (pgWEIR w + 0x040) (if w < 4 then 57 else 33) true).weirEvent w
        (s.codeEvent w x))).integAct w x.code.toNat (s.siteCg x.code.toNat x.site) x.site x.loc false := by
  have hc := cycleCodes_singleton h ht
  have hs (t : State) : t.blockSets w b = (t.setInteg w x.code.toNat).setRowBit (pgWEIR w + 0x040) (if w < 4 then 57 else 33) true := by
    simp [State.blockSets, hp, hc]
  have hact (t : State) : t.blockActs s w b
      = t.integAct w x.code.toNat (s.siteCg x.code.toNat x.site) x.site x.loc false := by
    simp [State.blockActs, hp, hc]
  rw [State.blocksCycle, if_neg (by simp [hw, ha])]
  simp only [List.foldl_cons, List.foldl_nil, hact]
  congr 1
  refine withVecs_congr _ ?_
  simp [hs, blockEvent_singleton s hp h ht, State.weirCycle, putEvent]

/-- What reaches no living Weir as an event changes nothing. -/
theorem blocksCycle_none {s : State} {w : Nat} {b : BlockCycle}
    (h : (cyclePage b w = none ∧ ∀ c ∈ b.srcs, weirTakes w c.code.toNat = false) ∨ s.weirAlive w = false ∨ s.wide.isSome = true) :
    s.blocksCycle w [b] = s := by
  obtain ⟨hp, hn⟩ | h := h
  · have hc := cycleCodes_eq_nil.2 hn
    have he : s.blockEvent w b = none := (blockEvent_eq_none s w b).2 ⟨by rw [State.cycleErrs, hp], hn⟩
    have hrec : s.withVecs [weirVec w] (fun t => ([b].foldl (fun u b => u.blockSets w b) t).weirCycle w ([b].filterMap (t.blockEvent w))) = s := by
      refine withVecs_self s _ ?_
      simp [he, State.blockSets, hp, hc, State.weirCycle]
    unfold State.blocksCycle
    simp only [hrec, ite_eq_left_iff]
    simp [State.blockActs, hp, hc]
  · exact if_pos h

/-- Two events of one cycle, in whatever order they stand, reach a Weir in the order of R343. -/
theorem weirCycle_pair (s : State) (w : Nat) {e f : WeirEvent} (h : f.cls < e.cls ∨ (f.cls = e.cls ∧ e.bit < f.bit)) :
    s.weirCycle w [e, f] = (s.weirEvent w e).weirEvent w f ∧ s.weirCycle w [f, e] = (s.weirEvent w e).weirEvent w f := by
  have hef : e.before f = true := by unfold WeirEvent.before; grind
  have hfe : f.before e = false := by unfold WeirEvent.before; grind
  simp [State.weirCycle, putEvent, hef, hfe]

/-! ## The class actions (R344, R353, R354) -/

theorem integAct_corrected (s : State) (w : Nat) {code : Nat} (cg : Option Nat) (site : FaultSite) (loc : W16) (inj : Bool)
    (h : integClass code = 1) : s.integAct w code cg site loc inj = s := by simp [State.integAct, h]

theorem integAct_function_none (s : State) (w : Nat) {code : Nat} (site : FaultSite) (loc : W16) (inj : Bool)
    (h : integClass code = 4) : s.integAct w code none site loc inj = s.poisonSite site := by simp [State.integAct, h]

theorem integAct_function_some (s : State) (w g : Nat) {code : Nat} (site : FaultSite) (loc : W16) (inj : Bool)
    (h : integClass code = 4) : s.integAct w code (some g) site loc inj = (s.haltGroup g 1).poisonSite site := by simp [State.integAct, h]

theorem integAct_quadrant (s : State) (w : Nat) {code : Nat} (cg : Option Nat) (site : FaultSite) (loc : W16) (inj : Bool)
    (h : integClass code = 5) : s.integAct w code cg site loc inj = s.startFence (fenceTarget w loc) code loc inj := by
  simp [State.integAct, h]

theorem integAct_device (s : State) (w : Nat) {code : Nat} (cg : Option Nat) (site : FaultSite) (loc : W16) (inj : Bool)
    (h : integClass code = 6) : s.integAct w code cg site loc inj =
      ((s.setReg (pgDWEIR + 0x180) (BitVec.ofNat 32 (2 ^ 31 + code * 65536 + satAdd 16 (s.fld (pgDWEIR + 0x180) 15 0) 1))).setReg
        (pgDWEIR + 0x184) (BitVec.ofNat 32 s.rawNs32)).assertDevice 2 := by simp [State.integAct, h]

theorem haltGroup_halted {s : State} {g : Nat} (cause : Nat) (h : s.cgPhase g = 3) : s.haltGroup g cause = s := by
  simp [State.haltGroup, h]

theorem startFence_fenced {s : State} {q : Nat} (code : Nat) (loc : W16) (inj : Bool) (h : s.fencePhase q ≠ 0) :
    s.startFence q code loc inj = s := if_pos h

theorem assertDevice_wide {s : State} {x : WideReset} (src : Nat) (h : s.wide = some x) : s.assertDevice src = s := by
  simp [State.assertDevice, h]

/-! ## The jobs on a faulty context (R353) -/

/-- What a fault of context i of engine e does to the job of unit u. -/
def poisonUnit (q : Quad) (e : Eng) (i : W6) (t : State) (u : Nat) : State :=
  match t.engJob q u with
  | some j => if unitEng u = e.val ∧ ctxIndex e.val j.words = i.toNat then
      t.mapTask j.ring j.seq (fun k => { k with poisoned := true }) else t
  | none => t

theorem poisonSite_context (s : State) (q : Quad) (e : Eng) (i : W6) :
    s.poisonSite (.context q e i) = (List.range 9).foldl (poisonUnit q e i) s := rfl

/-- Marking one task keeps every task where it is found; the marked one is found marked. -/
theorem findTask_poison (s : State) (r n r' n' : Nat) :
    (s.mapTask r' n' (fun k => { k with poisoned := true })).findTask r n
      = (s.findTask r n).map (fun k => if Task.is r' n' k then { k with poisoned := true } else k) := by
  refine List.find?_map.trans (congrArg _ (congrArg (List.find? · s.tasks) (funext fun k => ?_)))
  simp only [Function.comp_apply]
  split <;> rfl

/-- A task of ring r and count n is found, marked where m says so. -/
def State.TaskFound (s : State) (r n : Nat) (m : Bool) : Prop := ∃ k, s.findTask r n = some k ∧ (m = true → k.poisoned = true)

theorem State.TaskFound.poison {s : State} {r n : Nat} {m : Bool} (h : s.TaskFound r n m) (r' n' : Nat) :
    (s.mapTask r' n' (fun k => { k with poisoned := true })).TaskFound r n m := by
  obtain ⟨k, hk, hm⟩ := h
  refine ⟨_, by rw [findTask_poison, hk]; rfl, fun h => ?_⟩
  dsimp only
  split
  · rfl
  · exact hm h

theorem State.TaskFound.poison_self {s : State} {r n : Nat} {m : Bool} (h : s.TaskFound r n m) :
    (s.mapTask r n (fun k => { k with poisoned := true })).TaskFound r n true := by
  obtain ⟨k, hk, -⟩ := h
  have his : Task.is r n k = true := List.find?_some hk
  exact ⟨{ k with poisoned := true }, by rw [findTask_poison, hk, Option.map_some, if_pos his], fun _ => rfl⟩

theorem State.TaskFound.poisonUnit {s : State} {r n : Nat} {m : Bool} (h : s.TaskFound r n m) (q : Quad) (e : Eng) (i : W6) (u : Nat) :
    (poisonUnit q e i s u).TaskFound r n m := by
  unfold Sys2Proof.Machine.poisonUnit
  split
  · split
    · exact h.poison ..
    · exact h
  · exact h

theorem poisonUnit_engJob (q : Quad) (e : Eng) (i : W6) (s : State) (u v : Nat) : (poisonUnit q e i s u).engJob q v = s.engJob q v := by
  unfold poisonUnit
  split
  · split <;> rfl
  · rfl

theorem State.TaskFound.poisonUnits {s : State} {r n : Nat} {m : Bool} (h : s.TaskFound r n m) (q : Quad) (e : Eng) (i : W6) (l : List Nat) :
    (l.foldl (Sys2Proof.Machine.poisonUnit q e i) s).TaskFound r n m := by
  induction l generalizing s with
  | nil => exact h
  | cons u l ih => exact ih (h.poisonUnit q e i u)

/-- Of the units gone through, the one whose job runs on the context has its task marked. -/
theorem poisonUnits_marks {s : State} {q : Quad} {e : Eng} {i : W6} {u : Nat} {j : EngJob} {m : Bool} {l : List Nat} (hu : u ∈ l)
    (hj : s.engJob q u = some j) (he : unitEng u = e.val) (hi : ctxIndex e.val j.words = i.toNat) (h : s.TaskFound j.ring j.seq m) :
    (l.foldl (poisonUnit q e i) s).TaskFound j.ring j.seq true := by
  induction l generalizing s with
  | nil => cases hu
  | cons v l ih =>
    obtain rfl | hu := List.mem_cons.1 hu
    · have hs : poisonUnit q e i s u = s.mapTask j.ring j.seq (fun k => { k with poisoned := true }) := by
        simp [poisonUnit, hj, he, hi]
      rw [List.foldl_cons, hs]
      exact h.poison_self.poisonUnits ..
    · exact ih hu ((poisonUnit_engJob ..).trans hj) (h.poisonUnit ..)

/-- The task of a job in service on a faulty context ends up marked. -/
theorem poisonSite_marks {s : State} {q : Quad} {e : Eng} {i : W6} {u : JobUnit} {j : EngJob} {t : Task} (hj : s.engJob q u = some j)
    (he : unitEng u = e.val) (hi : ctxIndex e.val j.words = i.toNat) (ht : s.findTask j.ring j.seq = some t) :
    ∃ t', (s.poisonSite (.context q e i)).findTask j.ring j.seq = some t' ∧ t'.poisoned = true := by
  rw [poisonSite_context]
  obtain ⟨k, hk, hm⟩ := poisonUnits_marks (m := false) (List.mem_range.2 u.isLt) hj he hi ⟨t, ht, Bool.noConfusion⟩
  exact ⟨k, hk, hm rfl⟩

/-! ## The samples of a rail (R345 to R347) -/

theorem noteSample_fld {s : State} {r : Nat} (mv : W16) (hr : s.sagRef r ≠ 0) (ha : s.weirAlive (sagWeir r) = true) :
    (s.noteSample r mv.toNat).fld (sagKey r) 15 0 = min mv.toNat (s.fld (sagKey r) 15 0) := by
  unfold State.noteSample
  by_cases h : mv.toNat < s.fld (sagKey r) 15 0
  · rw [if_pos ⟨hr, ha, h⟩, fld_put_self _ _ _ _ (by decide), Nat.mod_eq_of_lt mv.isLt, Nat.min_eq_left h.le]
  · rw [if_neg (fun c => h c.2.2), Nat.min_eq_right (Nat.le_of_not_lt h)]

theorem noteSample_unwatched {s : State} {r : Nat} (mv : Nat) (h : s.sagRef r = 0) : s.noteSample r mv = s :=
  if_neg fun c => c.1 h

theorem noteSample_reg_ne (s : State) {r k : Nat} (mv : Nat) (h : k ≠ sagKey r) : (s.noteSample r mv).reg k = s.reg k := by
  unfold State.noteSample
  split
  · exact reg_put_ne _ _ _ _ h
  · rfl

theorem noteSample_sagWarned (s : State) (r mv : Nat) : (s.noteSample r mv).sagWarned = s.sagWarned :=
  (State.noteSample_frame s r mv).same .sagWarned rfl

theorem execSagWarnRearm_clears {r : Rail} {mv : W16} {s : State} (h : s.sagWarns r mv.toNat = false) :
    execSagWarnRearm r mv s = .next { s.noteSample r mv.toNat with sagWarned := tabErase s.sagWarned r } := by
  simp [execSagWarnRearm, h, noteSample_sagWarned]

/-! ## Injection (R358) -/

theorem execWeirInj_reaches {w : WeirIx} {s : State} (v : W32) (h : s.reaches (pgWEIR w + 0x1C0) = true) :
    execWeirInj w v s = .next (s.writeWeirInj w v) := congrArg _ (access_reaches _ h)

/-! ## The obligation -/

theorem integrityFault_eq (w : WeirIx) (b : BlockCycle) (s : State) :
    exec (.integrityFault w b.page b.errs b.srcs []) s = .next (s.blocksCycle w [b]) := rfl

/-- Settles O49, clause by clause: one code is its record and its class action; the event of a block's cycle is that of its first code or
of its error bits; the record, the samples and the injection by their own laws. -/
theorem integrityAndSags : Obligations.IntegrityAndSags := by
  refine ⟨?oneCode, ?blockEvent, fun s w e f h => weirCycle_pair s w h, fun w b s h => by rw [integrityFault_eq, blocksCycle_none h],
    fun s q e i g f u j t => ⟨rfl, rfl, rfl, poisonSite_marks⟩, ?record,
    fun s g q code src loc inj x => ⟨haltGroup_halted 1, startFence_fenced code loc inj, assertDevice_wide src⟩,
    ?warn, ?action, ?rearm, ?sample, ?inject⟩
  case oneCode =>
    rintro w b x _ s u hw ha hs hp rfl ht rfl
    rw [integrityFault_eq, blocksCycle_singleton hw ha hp hs ht, State.codeEvent]
    refine ⟨fun h => ?_, fun h hg => ?_, fun g h hg => ?_, fun h => ?_, fun h => ?_⟩
    · rw [integAct_corrected _ _ _ _ _ _ h]; rfl
    · rw [hg, integAct_function_none _ _ _ _ _ h]; rfl
    · rw [hg, integAct_function_some _ _ _ _ _ _ h]; rfl
    · rw [integAct_quadrant _ _ _ _ _ _ h]; rfl
    · rw [integAct_device _ _ _ _ _ _ h]; rfl
  case blockEvent =>
    exact fun s w b => ⟨blockEvent_eq_none s w b, fun e h => ⟨fun c hc ht => integClass_le_blockEvent h hc ht, blockEvent_integ h⟩⟩
  case record =>
    rintro w code loc cg inj s _ ht rfl
    exact ⟨integRecord_bit s w loc cg inj ((weirTakes_lt ht).trans (by decide)), integRecord_event s w code loc cg inj⟩
  case warn =>
    rintro r prev mv s _ rfl
    exact ⟨fun hp hm hn => congrArg _ (if_pos ⟨hp, hm, hn⟩), fun h => congrArg _ (if_neg (by grind))⟩
  case action =>
    rintro r prev mv s _ rfl
    exact ⟨fun hp hm hn => congrArg _ (if_neg (by grind)), fun h => congrArg _ (if_pos h)⟩
  case rearm =>
    intro r mv s h
    refine ⟨_, execSagWarnRearm_clears h, ?_, fun j hj => ?_, fun k hk => noteSample_reg_ne s _ hk,
      exec_onlyParts (c := .sagWarnRearm r mv) (execSagWarnRearm_clears h)⟩
    · rw [tabGet_erase, if_pos rfl]
    · rw [tabGet_erase, if_neg hj]
  case sample =>
    exact fun r mv s => ⟨noteSample_fld mv, noteSample_unwatched _, fun k hk => noteSample_reg_ne s _ hk,
      (State.noteSample_frame s r _).parts (by decide)⟩
  case inject =>
    rintro w v s _ rfl hr
    have he : exec (.weirInj w v) s = .next (s.writeWeirInj w v) := execWeirInj_reaches v hr
    rw [he]
    refine ⟨fun hf ht hb => ?_, fun hf ht => ?_, fun hf hb => ?_⟩
    · simp [State.writeWeirInj, hf, ht, hb]
    · simp [State.writeWeirInj, hf, ht]
    · simp [State.writeWeirInj, hf, hb]

end Sys2Proof.Machine
end

section
/-! The board monitor: the converter's work and its boundaries (R383 to R386), results, their queue and the comparators (R387 to R389), and
the edges of GPIO pins (R394). -/

namespace Sys2Proof.Machine

open Sys2Proof

/-! ## Writes of BMON_CTRL (R384, R385) -/

theorem writeBmonCtrl_start (s : State) : s.writeBmonCtrl 0x80000000 = s.bmonTrigger := rfl

theorem writeBmonCtrl_calGo (s : State) : s.writeBmonCtrl 0x40000000 = s.bmonCalibrate := rfl

/-- A word with INJ_GO alone injects into its INJ_CH, where that is a channel. -/
theorem writeBmonCtrl_injGo (s : State) {v : W32} (h29 : bit v 29 = true) (h30 : bit v 30 = false) (h31 : bit v 31 = false) :
    s.writeBmonCtrl v = if 48 ≤ bitsOf v 5 0 then s.badAccess (pgBMON + 0x04C) else s.bmonInject (bitsOf v 5 0) := by
  simp [State.writeBmonCtrl, h29, h30, h31]

/-- The word that INJ_GO of a channel writes has bit 29 set, bits 30 and 31 clear, and the channel in INJ_CH. -/
theorem injWord_bit29 (ch : W6) : bit (BitVec.ofNat 32 (2 ^ 29 + ch.toNat)) 29 = true := by
  have hch : ch.toNat < 2 ^ 29 := ch.isLt.trans (by decide)
  rw [bit, BitVec.getLsbD_ofNat, Nat.testBit_two_pow_add_eq, Nat.testBit_lt_two_pow hch]
  rfl

theorem injWord_above (ch : W6) {n : Nat} (hn : 30 ≤ n) : bit (BitVec.ofNat 32 (2 ^ 29 + ch.toNat)) n = false := by
  have hlt : 2 ^ 29 + ch.toNat < 2 ^ n := calc
    2 ^ 29 + ch.toNat < 2 ^ 30 := by have := ch.isLt; omega
    _ ≤ 2 ^ n := Nat.pow_le_pow_right (by decide) hn
  rw [bit, BitVec.getLsbD_ofNat, Nat.testBit_lt_two_pow hlt, Bool.and_false]

theorem injWord_channel (ch : W6) : bitsOf (BitVec.ofNat 32 (2 ^ 29 + ch.toNat)) 5 0 = ch.toNat := by
  have := ch.isLt
  simp only [bitsOf, BitVec.toNat_ofNat, Nat.shiftRight_zero]
  omega

theorem writeBmonCtrl_injWord (s : State) (ch : W6) : s.writeBmonCtrl (BitVec.ofNat 32 (2 ^ 29 + ch.toNat)) =
    if 48 ≤ ch.toNat then s.badAccess (pgBMON + 0x04C) else s.bmonInject ch.toNat := by
  rw [writeBmonCtrl_injGo s (injWord_bit29 ch) (injWord_above ch le_rfl) (injWord_above ch (by decide)), injWord_channel]

/-! ## Work that arrives (R383 to R385) -/

theorem bmonTrigger_scanning {s : State} (h : s.bmon.scan.isSome = true) : s.bmonTrigger =
    (({ s with bmon := { s.bmon with ovr := true } } : State).inc (pgBMON + 0x05C) 15 0 1).raise pgBMON 0 := if_pos h

theorem bmonTrigger_emptyMask {s : State} (h : s.bmon.scan = none) (hl : s.scanChannels = []) : s.bmonTrigger = s.irqBit pgBMON 1 := by
  simp [State.bmonTrigger, h, hl]

theorem bmonTrigger_starts {s : State} {c : Nat} {l : List Nat} (h : s.bmon.scan = none) (hl : s.scanChannels = c :: l) :
    s.bmonTrigger = ({ s with bmon := { s.bmon with scan := some (c :: l) } } : State).bmonKick := by
  simp [State.bmonTrigger, h, hl]

theorem bmonInject_waiting {s : State} (ch : Nat) (h : s.bmon.inj.isSome = true) : s.bmonInject ch = s.raise pgBMON 2 := if_pos h

theorem bmonInject_waits {s : State} (ch : Nat) (h : s.bmon.inj = none) :
    s.bmonInject ch = ({ s with bmon := { s.bmon with inj := some ch } } : State).bmonKick := if_neg (by simp [h])

theorem bmonCalibrate_waiting {s : State} (h : s.bmon.cal = true) : s.bmonCalibrate = s := if_pos h

theorem bmonCalibrate_waits {s : State} (h : s.bmon.cal = false) :
    s.bmonCalibrate = ({ s with bmon := { s.bmon with cal := true } } : State).bmonKick := if_neg (by simp [h])

theorem bmonKick_busy {s : State} (h : s.bmon.cur.isSome = true ∨ s.bmon.starting = true) : s.bmonKick = s := if_pos h

theorem bmonKick_idle {s : State} (hc : s.bmon.cur = none) (hs : s.bmon.starting = false) :
    s.bmonKick = if s.bmon.powered then s.bmonNext else { s with bmon := { s.bmon with starting := true } } :=
  if_neg (by simp [hc, hs])

/-! ## What the converter takes at a boundary (R383, R385) -/

theorem bmonNext_inj {s : State} {c : Nat} (h : s.bmon.inj = some c) :
    s.bmonNext = { s with bmon := { s.bmon with cur := some (.inj c) } } := by
  simp only [State.bmonNext, h]

theorem bmonNext_cal {s : State} (hi : s.bmon.inj = none) (hc : s.bmon.cal = true) :
    s.bmonNext = { s with bmon := { s.bmon with cur := some .cal } } := by
  simp only [State.bmonNext, hi, hc]

theorem bmonNext_scan {s : State} {c : Nat} {l : List Nat} (hi : s.bmon.inj = none) (hc : s.bmon.cal = false)
    (hs : s.bmon.scan = some (c :: l)) : s.bmonNext = { s with bmon := { s.bmon with cur := some (.scan c), scan := some l } } := by
  simp only [State.bmonNext, hi, hc, hs]

theorem bmonNext_none {s : State} (hi : s.bmon.inj = none) (hc : s.bmon.cal = false)
    (hs : s.bmon.scan = none ∨ s.bmon.scan = some []) : s.bmonNext = { s with bmon := { s.bmon with
      cur := none, powered := s.bmon.powered && decide (s.fld (pgBMON + 0x040) 31 31 = 1) } } := by
  obtain hs | hs := hs
  · simp only [State.bmonNext, hi, hc, hs]
  · simp only [State.bmonNext, hi, hc, hs]

/-! ## The result queue (R387, R388) -/

theorem bmonQueue_room {s : State} (inj : Bool) (ch : Nat) (code : W12) (h : s.bmon.queue.length < 128) : s.bmonQueue inj ch code =
    ({ s with bmon := { s.bmon with queue := s.bmon.queue ++ [BitVec.ofNat 32 (s.bmonUs 266240 % 4096 * 2 ^ 20 + b2n s.bmon.ovr * 2 ^ 19
      + b2n inj * 2 ^ 18 + ch * 2 ^ 12 + code.toNat)], ovr := false } } : State).bmonLevel := if_pos h

theorem bmonQueue_full {s : State} (inj : Bool) (ch : Nat) (code : W12) (h : 128 ≤ s.bmon.queue.length) : s.bmonQueue inj ch code =
    (({ s with bmon := { s.bmon with ovr := true } } : State).inc (pgBMON + 0x05C) 31 16 1).raise pgBMON 1 := if_neg (Nat.not_lt.2 h)

theorem bmonPop_head {s : State} {e : W32} {l : List W32} (h : s.bmon.queue = e :: l) :
    s.bmonPop = { s with readData := e, bmon := { s.bmon with queue := l } } := by
  simp only [State.bmonPop, h]

theorem bmonPop_empty {s : State} (h : s.bmon.queue = []) : s.bmonPop = { s with readData := 0x0003F000 } := by
  simp only [State.bmonPop, h]

/-! ## Comparators (R389) -/

/-- The configuration register of comparator k; its limits follow it. -/
abbrev cmpCfg (k : Nat) : Nat := pgBMON + 0x080 + 8 * k

/-- A code lies outside the limits of comparator k. -/
def State.cmpOutside (s : State) (k : Nat) (code : W12) : Bool :=
  decide (code.toNat < bitsOf (s.reg (cmpCfg k + 4)) 11 0) || decide (bitsOf (s.reg (cmpCfg k + 4)) 27 16 < code.toNat)

/-- Comparator k with OUT showing whether its last result lay outside its limits. -/
def State.cmpShow (s : State) (k : Nat) (out : Bool) : State := s.put (cmpCfg k) 30 30 (b2n out)

/-- What comparator k has counted: results out of its limits in a row, and that their event has come. -/
def State.cmpOuts (s : State) (k : Nat) : Nat × Bool := tabGet (fun _ => (0, false)) s.bmon.outs k

/-- The count of comparator k after one more result out of its limits. -/
def State.cmpCount (s : State) (k : Nat) : Nat := min ((s.cmpOuts k).1 + 1) 8

/-- Comparator k takes a count. -/
def State.cmpSetOuts (s : State) (k : Nat) (o : Nat × Bool) : State :=
  { s with bmon := { s.bmon with outs := tabSet (fun _ => (0, false)) s.bmon.outs k o } }

/-- A result outside the limits makes comparator k's event: it has not come, and COUNT_M1 + 1 such results in a row have. -/
def State.cmpFires (s : State) (k : Nat) : Bool :=
  !(s.cmpOuts k).2 && decide (s.fld (cmpCfg k) 18 16 + 1 ≤ s.cmpCount k)

theorem cmpFires_eq_true {s : State} {k : Nat} :
    s.cmpFires k = true ↔ (s.cmpOuts k).2 = false ∧ s.fld (cmpCfg k) 18 16 + 1 ≤ s.cmpCount k := by
  simp [State.cmpFires]

theorem cmpFires_eq_false {s : State} {k : Nat} :
    s.cmpFires k = false ↔ (s.cmpOuts k).2 = true ∨ s.cmpCount k < s.fld (cmpCfg k) 18 16 + 1 := by
  rw [← Bool.not_eq_true, cmpFires_eq_true, not_and_or, Bool.not_eq_false, Nat.not_le]

theorem compare_other {s : State} {ch k : Nat} (code : W12)
    (h : s.fld (cmpCfg k) 31 31 = 0 ∨ s.fld (cmpCfg k) 5 0 ≠ ch) : s.compare ch code k = s := if_pos h

section
variable {s : State} {ch k : Nat} {code : W12} (hen : s.fld (cmpCfg k) 31 31 ≠ 0) (hch : s.fld (cmpCfg k) 5 0 = ch)
include hen hch

/-- A result within the limits rearms the comparator. -/
theorem compare_inside (ho : s.cmpOutside k code = false) : s.compare ch code k =
    { s.cmpShow k false with bmon := { s.bmon with outs := tabErase s.bmon.outs k } } := by
  unfold State.compare
  rw [if_neg (by simp [hen, hch])]
  unfold State.cmpOutside at ho
  simp only [ho]
  rfl

/-- A result outside the limits is counted, and fires with the result that the count asks for. -/
theorem compare_outside (ho : s.cmpOutside k code = true) : s.compare ch code k =
    let t := (s.cmpShow k true).cmpSetOuts k (s.cmpCount k, (s.cmpOuts k).2 || s.cmpFires k)
    if s.cmpFires k then ((t.put (pgBMON + 0x068) k k 1).irqBit pgBMON 4).boardPulse 1 k else t := by
  have hfld : (s.put (cmpCfg k) 30 30 (b2n true)).fld (cmpCfg k) 18 16 = s.fld (cmpCfg k) 18 16 :=
    fld_put_other _ _ _ (by decide) (.inl (by decide))
  unfold State.compare
  rw [if_neg (by simp [hen, hch])]
  unfold State.cmpOutside at ho
  simp only [ho, hfld]
  rfl

/-- While the event has come, or the count is not reached, a result outside the limits is counted only. -/
theorem compare_counts (ho : s.cmpOutside k code = true) (hf : s.cmpFires k = false) : s.compare ch code k =
    (s.cmpShow k true).cmpSetOuts k (s.cmpCount k, (s.cmpOuts k).2) := by
  simp [compare_outside hen hch ho, hf]

theorem compare_fires (ho : s.cmpOutside k code = true) (hf : s.cmpFires k = true) : s.compare ch code k =
    ((((s.cmpShow k true).cmpSetOuts k (s.cmpCount k, true)).put (pgBMON + 0x068) k k 1).irqBit pgBMON 4).boardPulse 1 k := by
  simp [compare_outside hen hch ho, hf]
end

/-! ## Commands -/

theorem exec_scanStart {s : State} (h : s.reaches (pgBMON + 0x04C) = true) : exec .scanStart s = .next s.bmonTrigger :=
  congrArg _ ((access_reaches _ h).trans (writeBmonCtrl_start s))

theorem exec_calGo {s : State} (h : s.reaches (pgBMON + 0x04C) = true) : exec .calGo s = .next s.bmonCalibrate :=
  congrArg _ ((access_reaches _ h).trans (writeBmonCtrl_calGo s))

theorem exec_injGo {s : State} (ch : W6) (h : s.reaches (pgBMON + 0x04C) = true) : exec (.injGo ch) s =
    .next (if 48 ≤ ch.toNat then s.badAccess (pgBMON + 0x04C) else s.bmonInject ch.toNat) :=
  congrArg _ ((access_reaches _ h).trans (writeBmonCtrl_injWord s ch))

theorem exec_bmonQueueRead {s : State} (h : s.reaches (pgBMON + 0x054) = true) : exec .bmonQueueRead s = .next s.bmonPop :=
  congrArg _ (readAccess_reaches _ h)

theorem exec_conversionDone_inj {s : State} {c : Nat} (code : W12) (h : s.bmon.cur = some (.inj c)) : exec (.conversionDone code) s =
    let u := (s.bmonResult true c code).irqBit pgBMON 3
    .next ({ u with bmon := { u.bmon with cur := none, inj := none } } : State).bmonNext := by
  change execConversionDone code s = _
  simp only [execConversionDone, h]

/-- A scan whose last channel has been converted ends, with SCAN_DONE. -/
def State.scanEnds (u : State) : State :=
  if u.bmon.scan = some [] then ({ u with bmon := { u.bmon with scan := none } } : State).irqBit pgBMON 1 else u

theorem exec_conversionDone_scan {s : State} {c : Nat} (code : W12) (h : s.bmon.cur = some (.scan c)) : exec (.conversionDone code) s =
    let v := (s.bmonResult false c code).scanEnds
    .next ({ v with bmon := { v.bmon with cur := none } } : State).bmonNext := by
  change execConversionDone code s = _
  simp only [execConversionDone, h, State.scanEnds]

/-! ## Edges of GPIO pins (R394) -/

/-- Pin n's selection takes an edge to a level: bit 0 the rising one, bit 1 the falling one. -/
def State.edgeSelected (u : State) (n : Nat) (level : Bool) : Bool :=
  bit (BitVec.ofNat 2 (u.fld (pgGPIO + 0x04C) (2 * n + 1) (2 * n))) (if level then 0 else 1)

/-- A new level of a pin is shown; a selected edge interrupts, pulses, and triggers a scan where TRIG is GPIO of this pin. -/
theorem exec_gpioEdge_change {s u v : State} (n : W4) (level : Bool) (hb : s.boardOn = true)
    (hl : s.fld (pgGPIO + 0x048) n.toNat n.toNat ≠ b2n level) (hu : u = s.put (pgGPIO + 0x048) n.toNat n.toNat (b2n level))
    (hv : v = (u.irqBit pgGPIO n.toNat).boardPulse 0 n.toNat) : exec (.gpioEdge n level) s = .next (
    if u.edgeSelected n.toNat level then
      if v.fld (pgBMON + 0x040) 29 28 = 2 ∧ v.fld (pgBMON + 0x040) 27 24 = n.toNat then v.bmonTrigger else v
    else u) := by
  subst hv hu
  change execGpioEdge n level s = _
  rw [execGpioEdge, if_pos hb, State.gpioChange, if_neg hl]
  rfl

/-! ## The obligation -/

/-- Settles O54, clause by clause, each by the law of the operation it speaks of. -/
theorem boardMonitor : Obligations.BoardMonitor := by
  refine ⟨?ctrl, fun s c l => ⟨bmonTrigger_scanning, bmonTrigger_emptyMask, bmonTrigger_starts⟩,
    fun s ch => ⟨bmonInject_waiting ch, bmonInject_waits ch, bmonCalibrate_waiting, bmonCalibrate_waits⟩, ?kick, ?next, ?timer, ?conversion,
    ?result, ?comparator, ?calibration, ?queueRead, ?edge⟩
  case ctrl =>
    intro ch s h
    refine ⟨exec_scanStart h, exec_calGo h, fun hc => ?_, fun hc => ?_⟩
    · rw [exec_injGo ch h, if_neg (Nat.not_le.2 hc)]
    · rw [exec_injGo ch h, if_pos hc]
  case kick =>
    refine fun s => ⟨bmonKick_busy, fun hc hs hp => ?_, fun hc hs hp => ?_⟩
    · rw [bmonKick_idle hc hs, if_pos hp]
    · rw [bmonKick_idle hc hs, if_neg (by simp [hp])]
  case next =>
    rintro s c l _ rfl
    exact ⟨bmonNext_inj, bmonNext_cal, bmonNext_scan, bmonNext_none⟩
  case timer =>
    exact fun s => ⟨fun hb ht hp => congrArg _ (if_pos ⟨hb, ht, hp⟩), fun _ ht => congrArg _ (if_neg fun h => ht h.2.1),
      fun h => congrArg _ (if_pos h)⟩
  case conversion =>
    intro code s c u v
    refine ⟨?_, ?_⟩
    · rintro h rfl
      exact exec_conversionDone_inj code h
    · rintro h rfl rfl
      exact exec_conversionDone_scan code h
  case result =>
    rintro inj ch code s _ rfl
    exact ⟨rfl, bmonQueue_room inj ch code, bmonQueue_full inj ch code⟩
  case comparator =>
    rintro ch k code s _ _ _ out rfl hout rfl rfl
    refine ⟨compare_other code, fun hen hch ho => ?_, fun hen hch ho h => ?_, fun hen hch ho hf hn => ?_⟩
    · subst ho
      exact compare_inside hen hch hout.symm
    · subst ho
      exact compare_counts hen hch hout.symm (cmpFires_eq_false.2 h)
    · subst ho
      exact compare_fires hen hch hout.symm (cmpFires_eq_true.2 ⟨hf, hn⟩)
  case calibration =>
    rintro g o s _ h rfl
    exact congrArg _ (if_pos h)
  case queueRead =>
    intro s e l hr
    rw [exec_bmonQueueRead hr]
    exact ⟨fun h => congrArg _ (bmonPop_head h), fun h => congrArg _ (bmonPop_empty h)⟩
  case edge =>
    intro n level s u v hb hl hu hv
    rw [exec_gpioEdge_change n level hb hl hu hv]
    exact ⟨fun h => congrArg _ (if_neg (Bool.eq_false_iff.1 h)), fun h => congrArg _ (if_pos h)⟩

end Sys2Proof.Machine
end

section
/-! What every step keeps: the front of the queue runs (R17), the parts outside a command's own stay, the memories stay canonical, and the
marks that survive resets (R420, R428, R443). -/

namespace Sys2Proof.Machine

open Sys2Proof

/-- No command can change the queue of waiting commands. -/
theorem pending_not_mem_partsOf (c : Instr) : StatePart.pending ∉ partsOf c := by
  cases c <;> exact of_decide_eq_true rfl

/-- Settles O3: the frame of each command, over the parts of partsOf. -/
theorem commandsComplete : Obligations.CommandsComplete := by
  intro c s
  obtain ⟨t, ht, hf⟩ := exec_frame c s
  have h : OnlyParts (partsOf c) s t := hf.parts (Nat.and_self _)
  exact ⟨t, ht, h, h .pending (pending_not_mem_partsOf c)⟩

/-! ## The memories stay canonical -/

theorem exec_memWf {c : Instr} {s t : State} (hs : s.memWf = true) (h : exec c s = .next t) : t.memWf = true := by
  obtain ⟨u, hu, hf⟩ := exec_frame c s
  obtain rfl : u = t := Host.Outcome.next.inj (hu.symm.trans h)
  exact hf.wf hs

theorem idle_memWf {s : State} (hs : s.memWf = true) : s.idle.memWf = true := by
  unfold State.idle
  split
  · exact hs
  · exact (State.bmonLevel_frame _).wf ((State.cycle_frame s).wf hs)

/-- Settles O4: an idle cycle and every command keep the canonical form, whatever the queue holds. -/
theorem memWfStep : Obligations.MemWfStep := by
  intro s t hs h
  unfold step at h
  split at h
  · obtain rfl := Host.Outcome.next.inj h
    exact idle_memWf hs
  · next c rest _ => exact exec_memWf (s := { s with pending := rest }) hs h

/-! ## The marks that survive resets -/

theorem execBootEnd_factorySeen {s t : State} (h : execBootEnd s = .next t) (hs : s.kept.factorySeen = true) :
    t.kept.factorySeen = true := by
  obtain rfl := Host.Outcome.next.inj h
  split
  · exact hs
  · split
    · split
      · rw [endBoot_kept, hs]; rfl
      · exact hs
    · exact hs

theorem cycle_factorySeen (s : State) : s.cycle.kept.factorySeen = s.kept.factorySeen := by rw [cycle_kept, advanceRaw_kept]

/-- A command that ends no burn cannot change a fused hash. -/
theorem khash_not_mem_partsOf (c : Instr) (hw : ∀ ok, c ≠ .burnDone ok) : StatePart.khash ∉ partsOf c := by
  cases c with
  | burnDone ok => exact absurd rfl (hw ok)
  | _ => exact of_decide_eq_true rfl

/-- Settles O6: of the commands that can change the part of FACTORY_SEEN, a named cycle and the end of BOOT do not clear it. -/
theorem keptMarks : Obligations.KeptMarks := by
  refine ⟨fun c s t hw hp h hs => ?_, fun c s t hb h => exec_onlyParts h .khash (khash_not_mem_partsOf c hb)⟩
  by_cases hc : c = .rawWrap ∨ c = .ptWrap ∨ c = .slewDone
  · obtain e | e := exec_namedCycle s hc
    · obtain rfl := Host.Outcome.next.inj (e.symm.trans h)
      rw [cycle_factorySeen, hs]
    · obtain rfl := Host.Outcome.next.inj (e.symm.trans h)
      exact hs
  · by_cases hb : c = .bootEnd
    · subst hb; exact execBootEnd_factorySeen h hs
    · have hm : movesKept c = false := by
        unfold movesKept
        split <;> simp_all
      rw [exec_kept hm h, hs]

end Sys2Proof.Machine
end

section
/-! The front of the queue, and the state after reset. -/

namespace Sys2Proof.Machine

open Sys2Proof

/-- Settles O1: the queue's front is what a step takes. -/
theorem stepRunsFront : Obligations.StepRunsFront := fun _ _ _ => rfl

/-- Settles O5: nothing is listed, so that every word reads as its Reset column. -/
theorem resetState : Obligations.ResetState := by
  refine ⟨⟨rfl, rfl, rfl, fun _ => rfl⟩, rfl, fun _ => rfl, ?mode, ?transition, rfl, ?phases, fun _ _ => rfl, rfl⟩
  case mode => decide +kernel
  case transition => decide +kernel
  case phases => decide +kernel
end Sys2Proof.Machine
end

section
/-! Writes and reads of registers (R9 to R11, R37, R38, R45, R48, R51): what a counted access leaves, what an error leaves in ERR_STAT and
ERR_FIRST, and what an access does that reaches its page. -/

namespace Sys2Proof.Machine

open Sys2Proof

/-! ## Whole words and single bits -/

theorem bitsOf_word (x : W32) : bitsOf x 31 0 = x.toNat := Nat.mod_eq_of_lt x.isLt

theorem putFld_word (x : W32) (v : Nat) : putFld x 31 0 v = BitVec.ofNat 32 v := by
  refine BitVec.eq_of_getLsbD_eq fun n hn => ?_
  rw [putFld_getLsbD _ _ _ _ _ hn, if_pos (by omega), BitVec.getLsbD_ofNat, decide_eq_true hn]
  simp

theorem bit_putFld_self (x : W32) {n : Nat} (h : n < 32) (b : Bool) : bit (putFld x n n (b2n b)) n = b := by
  rw [bit, putFld_getLsbD _ _ _ _ _ h, if_pos (by omega), Nat.sub_self]
  cases b <;> rfl

theorem rowBit_setRowBit_self (s : State) (k n : Nat) (b : Bool) : (s.setRowBit k n b).rowBit k n = b := by
  rw [State.rowBit, State.setRowBit, reg_put_self, bit_putFld_self _ (Nat.mod_lt _ (by decide))]

/-! ## A counted access -/

/-- The counter of a Weir's access class, counted up. -/
def countedUp (x : W32) : W32 := BitVec.ofNat 32 (satAdd 32 x.toNat 1)

theorem reg_inc_word (s : State) (k : Nat) : (s.inc k 31 0 1).reg k = countedUp (s.reg k) := by
  rw [State.inc, reg_put_self, putFld_word, State.fld, bitsOf_word]; rfl

theorem countAcc_count (s : State) (w kind addr : Nat) {off : Nat} (h : off ≠ 0x210) :
    (s.countAcc w off kind addr).reg (pgWEIR w + off) = countedUp (s.reg (pgWEIR w + off)) := by
  rw [State.countAcc, reg_setReg_ne _ _ (by omega), reg_inc_word]

theorem countAcc_last (s : State) (w off kind : Nat) {addr : Nat} (h : addr < 2 ^ 26) :
    (s.countAcc w off kind addr).reg (pgWEIR w + 0x210) = BitVec.ofNat 32 (2 ^ 31 + kind * 2 ^ 26 + addr) := by
  rw [State.countAcc, reg_setReg_self, Nat.mod_eq_of_lt h]

theorem countAcc_ne (s : State) (w kind addr : Nat) {off k : Nat} (h1 : k ≠ pgWEIR w + off) (h2 : k ≠ pgWEIR w + 0x210) :
    (s.countAcc w off kind addr).reg k = s.reg k := by
  rw [State.countAcc, reg_setReg_ne _ _ h2, reg_inc_ne _ _ _ _ h1]

theorem wordAddr_lt (a : W24) : wordAddr a < 2 ^ 26 := by unfold wordAddr; omega

theorem pgWEIR_device : pgWEIR 4 = pgDWEIR := rfl

/-! ## Registers that a change keeps -/

/-- The registers for which P holds are as they were. -/
def KeepRegs (P : Nat → Prop) (s t : State) : Prop := ∀ k, P k → t.reg k = s.reg k

section
variable {P : Nat → Prop} {s t u : State}

theorem KeepRegs.refl (s : State) : KeepRegs P s s := fun _ _ => rfl

theorem KeepRegs.trans (h : KeepRegs P s t) (k : KeepRegs P t u) : KeepRegs P s u := fun j hj => (k j hj).trans (h j hj)

theorem KeepRegs.ite {a b : State} {c : Prop} [Decidable c] (ha : KeepRegs P s a) (hb : KeepRegs P s b) :
    KeepRegs P s (if c then a else b) := by split <;> assumption

theorem KeepRegs.of_regs (h : t.regs = s.regs) : KeepRegs P s t := fun k _ => by rw [State.reg, h]; rfl

theorem KeepRegs.setReg {k : Nat} (v : W32) (h : KeepRegs P s t) (hk : ¬ P k) : KeepRegs P s (t.setReg k v) :=
  fun j hj => (reg_setReg_ne _ _ (by rintro rfl; exact hk hj)).trans (h j hj)

theorem KeepRegs.foldl {α : Type} {l : List α} {f : State → α → State} (hf : ∀ t, ∀ a ∈ l, KeepRegs P t (f t a)) (h : KeepRegs P s t) :
    KeepRegs P s (l.foldl f t) := by
  induction l generalizing t with
  | nil => exact h
  | cons a l ih => exact ih (fun t b hb => hf t b (List.mem_cons_of_mem a hb)) (h.trans (hf t a List.mem_cons_self))

theorem KeepRegs.mono {Q : Nat → Prop} (h : KeepRegs P s t) (hq : ∀ k, Q k → P k) : KeepRegs Q s t := fun k hk => h k (hq k hk)

theorem KeepRegs.of_event (h : EventRegs s t) : KeepRegs (fun k => eventReg k = false) s t := h

end

/-! ## ERR_STAT and ERR_FIRST under an event -/

/-- ERR_STAT or ERR_FIRST of a page other than PCIE. -/
def errReg (k : Nat) : Prop := (k % 0x1000 = 0x010 ∨ k % 0x1000 = 0x018) ∧ k - k % 0x1000 ≠ pgPCIE

theorem errReg_not {k : Nat} (h1 : k % 0x1000 ≠ 0x010) (h2 : k % 0x1000 ≠ 0x018) : ¬ errReg k := fun h => h.1.elim h1 h2

theorem errReg_not_pcie {k : Nat} (h : k - k % 0x1000 = pgPCIE) : ¬ errReg k := fun e => e.2 h

theorem errReg_stat {pg : Nat} (hm : pg % 0x1000 = 0) (hp : pg ≠ pgPCIE) : errReg (pg + 0x010) := ⟨by omega, by omega⟩

theorem errReg_first {pg : Nat} (hm : pg % 0x1000 = 0) (hp : pg ≠ pgPCIE) : errReg (pg + 0x018) := ⟨by omega, by omega⟩

theorem fyilPush_errRegs (s : State) (kind w body : Nat) : KeepRegs errReg s (s.fyilPush kind w body) := by
  unfold State.fyilPush
  exact .ite (.of_regs rfl) ((KeepRegs.refl s).setReg _ (errReg_not (by decide) (by decide)))

/-- A Weir records an event at its own offsets, from 0x02C to 0x074. -/
theorem weirRecord_errRegs (s : State) (w : Nat) (e : WeirEvent) (hb : e.bit < 64) (hc : e.cls ≤ 6) :
    KeepRegs errReg s (s.weirRecord w e) := by
  have hput {t : State} {k : Nat} (v : W32) (h : KeepRegs errReg s t) (h1 : k % 0x1000 ≠ 0x010) (h2 : k % 0x1000 ≠ 0x018) :
      KeepRegs errReg s (t.setReg k v) := h.setReg v (errReg_not h1 h2)
  unfold State.weirRecord
  extract_lets pg s1 s2 s3 s4
  have hpg : pg % 0x1000 = 0 := pgWEIR_mod w
  have h1 : KeepRegs errReg s s1 := hput _ (.refl s) (by omega) (by omega)
  have h2 : KeepRegs errReg s s2 :=
    .ite (hput _ (hput _ (hput _ h1 (by omega) (by omega)) (by omega) (by omega)) (by omega) (by omega)) (hput _ h1 (by omega) (by omega))
  have h3 : KeepRegs errReg s s3 := hput _ h2 (by omega) (by omega)
  have h4 : KeepRegs errReg s s4 := .ite (hput _ h3 (by omega) (by omega)) h3
  exact .ite (h4.trans (fyilPush_errRegs s4 _ _ _)) h4

theorem message_errRegs (s : State) (fn v : Nat) : KeepRegs errReg s (s.message fn v).1 := by
  unfold State.message
  split
  · split
    · exact .of_regs rfl
    · exact (KeepRegs.refl s).setReg _ (errReg_not (by decide) (by decide))
  · exact .of_regs rfl

/-- The bits of a page raised leave the error registers as setErrs leaves them. -/
theorem raiseQuiet_errRegs (s : State) (pg : Nat) (p : Page) (bits : W32) (loc : W16) (cg : Option Nat) (inj : Bool)
    (hb : p.weirBit < 64) : KeepRegs errReg (s.setErrs pg bits) (s.raiseQuiet pg p bits loc cg inj) :=
  .ite (.refl _) (.ite (weirRecord_errRegs _ _ _ hb ((highestClass_le_three ..).trans (by decide))) (.refl _))

theorem setErrs_pcie_errRegs (s : State) (bits : W32) : KeepRegs errReg s (s.setErrs pgPCIE bits) := by
  have h1 : KeepRegs errReg s (s.setReg (pgPCIE + 0x010) (s.reg (pgPCIE + 0x010) ||| bits)) :=
    (KeepRegs.refl s).setReg _ (errReg_not_pcie (by decide))
  unfold State.setErrs
  split
  · exact .ite (h1.setReg _ (errReg_not_pcie (by decide))) h1
  · exact h1

theorem vecEdge_errRegs (s : State) (v : Nat) (was : Bool) : KeepRegs errReg s (s.vecEdge v was) := by
  have h1 : KeepRegs errReg s (s.message pf0 v).1 := message_errRegs s pf0 v
  have h2 := (h1.trans (setErrs_pcie_errRegs _ 4)).trans
    (raiseQuiet_errRegs (s.message pf0 v).1 pgPCIE ⟨.pcie, 0, 0, 4⟩ 4 0 none false (by decide))
  exact .ite (.ite (.ite (h2.trans (message_errRegs _ pf0 1)) h2) h1) (.refl s)

/-- The messages of the vectors leave the error registers of the other pages as the change itself left them. -/
theorem withVecs_errRegs (s : State) (vs : List Nat) (f : State → State) : KeepRegs errReg (f s) (s.withVecs vs f) := by
  unfold State.withVecs
  generalize f s = t
  induction vs generalizing t with
  | nil => exact .refl t
  | cons v vs ih => exact (vecEdge_errRegs t v _).trans (ih _)

theorem setErrs_stat (s : State) (pg : Nat) (bits : W32) : (s.setErrs pg bits).reg (pg + 0x010) = s.reg (pg + 0x010) ||| bits := by
  unfold State.setErrs
  split
  · split
    · rw [reg_setReg_ne _ _ (by omega), reg_setReg_self]
    · rw [reg_setReg_self]
  · rw [reg_setReg_self]

theorem setErrs_first_valid (s : State) (pg : Nat) (bits : W32) (h : s.fld (pg + 0x018) 31 31 = 1) :
    (s.setErrs pg bits).reg (pg + 0x018) = s.reg (pg + 0x018) := by
  unfold State.setErrs
  split
  · rw [if_neg (by omega), reg_setReg_ne _ _ (by omega)]
  · rw [reg_setReg_ne _ _ (by omega)]

theorem raiseAt_errRegs (s : State) {pg : Nat} {p : Page} (bits : W32) (loc : W16) (cg : Option Nat) (inj : Bool)
    (hp : pageOf pg = some p) : KeepRegs errReg (s.setErrs pg bits) (s.raiseAt pg bits loc cg inj) := by
  unfold State.raiseAt
  rw [hp]
  exact (raiseQuiet_errRegs s pg p bits loc cg inj (pageOf_weirBit hp)).trans (withVecs_errRegs s _ _)

/-- Error bits raised on a page stand in its ERR_STAT. -/
theorem raiseAt_stat (s : State) {pg : Nat} {p : Page} (bits : W32) (loc : W16) (cg : Option Nat) (inj : Bool)
    (hp : pageOf pg = some p) (hm : pg % 0x1000 = 0) (hpc : pg ≠ pgPCIE) :
    (s.raiseAt pg bits loc cg inj).reg (pg + 0x010) = s.reg (pg + 0x010) ||| bits := by
  rw [raiseAt_errRegs s bits loc cg inj hp _ (errReg_stat hm hpc), setErrs_stat]

/-- A valid capture is kept (R45). -/
theorem raiseAt_first_valid (s : State) {pg : Nat} {p : Page} (bits : W32) (loc : W16) (cg : Option Nat) (inj : Bool)
    (hp : pageOf pg = some p) (hm : pg % 0x1000 = 0) (hpc : pg ≠ pgPCIE) (h : s.fld (pg + 0x018) 31 31 = 1) :
    (s.raiseAt pg bits loc cg inj).reg (pg + 0x018) = s.reg (pg + 0x018) := by
  rw [raiseAt_errRegs s bits loc cg inj hp _ (errReg_first hm hpc), setErrs_first_valid _ _ _ h]

/-! ## Error and interrupt bits are not lost under an event -/

/-- No error bit and no interrupt bit of any page is lost. -/
def StatGrows (s t : State) : Prop :=
  ∀ k n, (k % 0x1000 = 0x010 ∨ k % 0x1000 = 0x02C) → bit (s.reg k) n = true → bit (t.reg k) n = true

section
variable {s t u : State}

theorem StatGrows.refl (s : State) : StatGrows s s := fun _ _ _ h => h

theorem StatGrows.trans (h : StatGrows s t) (k : StatGrows t u) : StatGrows s u := fun j n hj hn => k j n hj (h j n hj hn)

theorem StatGrows.ite {a b : State} {c : Prop} [Decidable c] (ha : StatGrows s a) (hb : StatGrows s b) :
    StatGrows s (if c then a else b) := by split <;> assumption

theorem StatGrows.of_regs (h : t.regs = s.regs) : StatGrows s t := fun k n _ hn => by rw [State.reg, h]; exact hn

theorem StatGrows.foldl {α : Type} {l : List α} {f : State → α → State} (hf : ∀ t a, StatGrows t (f t a)) (h : StatGrows s t) :
    StatGrows s (l.foldl f t) := by
  induction l generalizing t with
  | nil => exact h
  | cons a l ih => exact ih (h.trans (hf t a))

/-- A write elsewhere. -/
theorem StatGrows.setReg {k : Nat} (v : W32) (h : StatGrows s t) (h1 : k % 0x1000 ≠ 0x010) (h2 : k % 0x1000 ≠ 0x02C) :
    StatGrows s (t.setReg k v) := fun j n hj hn => by
  rw [reg_setReg_ne _ _ (by rintro rfl; exact hj.elim h1 h2)]
  exact h j n hj hn

/-- Bits set, wherever. -/
theorem StatGrows.orReg (k : Nat) (m : W32) (h : StatGrows s t) : StatGrows s (t.setReg k (t.reg k ||| m)) := fun j n hj hn => by
  rw [reg_setReg]
  split
  · next e => subst e; rw [bit, BitVec.getLsbD_or, show (t.reg j).getLsbD n = true from h j n hj hn, Bool.true_or]
  · exact h j n hj hn

/-- One bit of a row set, wherever. -/
theorem StatGrows.setRowBit (k m : Nat) (h : StatGrows s t) : StatGrows s (t.setRowBit k m true) := fun j n hj hn => by
  have hjn := h j n hj hn
  by_cases e : j = k + 4 * (m / 32)
  · have hn32 : n < 32 := by
      by_contra hc
      rw [bit, BitVec.getLsbD_of_ge _ _ (by omega)] at hjn
      cases hjn
    rw [State.setRowBit, e, reg_put_self, bit, putFld_getLsbD _ _ _ _ _ hn32]
    split
    · rw [show n - m % 32 = 0 by omega]; rfl
    · rw [← e]; exact hjn
  · rw [State.setRowBit, reg_put_ne _ _ _ _ e]; exact hjn

end

theorem weirRecord_grows (s : State) (w : Nat) (e : WeirEvent) (hc : e.cls ≤ 6) : StatGrows s (s.weirRecord w e) := by
  unfold State.weirRecord
  extract_lets pg s1 s2 s3 s4
  have hpg : pg % 0x1000 = 0 := pgWEIR_mod w
  have h1 : StatGrows s s1 := (StatGrows.refl s).setRowBit _ _
  have h2 : StatGrows s s2 :=
    .ite (((h1.setReg _ (by omega) (by omega)).setReg _ (by omega) (by omega)).setReg _ (by omega) (by omega))
      (h1.setReg _ (by omega) (by omega))
  have h3 : StatGrows s s3 := h2.setReg _ (by omega) (by omega)
  have h4 : StatGrows s s4 := .ite (h3.setRowBit _ _) h3
  refine .ite ?_ h4
  unfold State.fyilPush
  exact .ite (h4.trans (.of_regs rfl)) (h4.setReg _ (by decide) (by decide))

theorem message_grows (s : State) (fn v : Nat) : StatGrows s (s.message fn v).1 := by
  unfold State.message
  split
  · split
    · exact .of_regs rfl
    · exact (StatGrows.refl s).setReg _ (by decide) (by decide)
  · exact .of_regs rfl

theorem setErrs_grows (s : State) {pg : Nat} (bits : W32) (h : pg % 0x1000 = 0) : StatGrows s (s.setErrs pg bits) := by
  have h1 : StatGrows s (s.setReg (pg + 0x010) (s.reg (pg + 0x010) ||| bits)) := (StatGrows.refl s).orReg _ _
  unfold State.setErrs
  split
  · exact .ite (h1.setReg _ (by omega) (by omega)) h1
  · exact h1

/-- After the bits have been set, what follows loses none. -/
theorem raiseQuiet_grows (s : State) (pg : Nat) (p : Page) (bits : W32) (loc : W16) (cg : Option Nat) (inj : Bool) :
    StatGrows (s.setErrs pg bits) (s.raiseQuiet pg p bits loc cg inj) :=
  .ite (.refl _) (.ite (weirRecord_grows _ _ _ ((highestClass_le_three ..).trans (by decide))) (.refl _))

theorem vecEdge_grows (s : State) (v : Nat) (was : Bool) : StatGrows s (s.vecEdge v was) := by
  have h1 : StatGrows s (s.message pf0 v).1 := message_grows s pf0 v
  have h2 := (h1.trans (setErrs_grows _ (pg := pgPCIE) 4 (by decide))).trans
    (raiseQuiet_grows _ pgPCIE ⟨.pcie, 0, 0, 4⟩ 4 0 none false)
  exact .ite (.ite (.ite (h2.trans (message_grows _ pf0 1)) h2) h1) (.refl s)

theorem withVecs_grows (s : State) (vs : List Nat) (f : State → State) : StatGrows (f s) (s.withVecs vs f) := by
  unfold State.withVecs
  exact StatGrows.foldl (f := fun t v => t.vecEdge v (s.vecOn v)) (fun t v => vecEdge_grows t v _) (.refl _)

/-- Error bits raised on a page stand in its ERR_STAT, PCIE's too. -/
theorem raiseAt_bit (s : State) {pg n : Nat} {p : Page} (bits : W32) (loc : W16) (cg : Option Nat) (inj : Bool)
    (hp : pageOf pg = some p) (hm : pg % 0x1000 = 0) (hn : bit bits n = true) :
    bit ((s.raiseAt pg bits loc cg inj).reg (pg + 0x010)) n = true := by
  unfold State.raiseAt
  rw [hp]
  have h1 : bit ((s.setErrs pg bits).reg (pg + 0x010)) n = true := by
    rw [setErrs_stat, bit, BitVec.getLsbD_or, show bits.getLsbD n = true from hn, Bool.or_true]
  have h2 : bit ((s.raiseQuiet pg p bits loc cg inj).reg (pg + 0x010)) n = true :=
    raiseQuiet_grows s pg p bits loc cg inj _ _ (.inl (by omega)) h1
  exact withVecs_grows s [if p.quad < 4 then 16 + 8 * p.quad else 1] (fun t => t.raiseQuiet pg p bits loc cg inj) _ _ (.inl (by omega)) h2

theorem bit_two_pow {n : Nat} (h : n < 32) : bit (BitVec.ofNat 32 (2 ^ n)) n = true := by
  rw [bit, BitVec.getLsbD_ofNat, decide_eq_true h, Nat.testBit_two_pow_self]
  rfl

/-- An interrupt bit set on a page stands in its IRQ_STAT. -/
theorem irqBit_bit (s : State) {pg n : Nat} {p : Page} (hp : pageOf pg = some p) (hm : pg % 0x1000 = 0) (hn : n < 32) :
    bit ((s.irqBit pg n).reg (pg + 0x02C)) n = true := by
  unfold State.irqBit State.irq
  rw [hp]
  refine withVecs_grows s _ _ _ _ (.inr (by omega)) ?_
  rw [reg_orReg_self, bit, BitVec.getLsbD_or, show (BitVec.ofNat 32 (2 ^ n)).getLsbD n = true from bit_two_pow hn, Bool.or_true]

/-! ## Pages -/

theorem regAt_some {a : Nat} {p : Page} {d : RegDesc} : regAt a = some (p, d) ↔ pageOf a = some p ∧ p.reg (a % 0x1000) = some d := by
  unfold regAt
  cases pageOf a with
  | none => simp
  | some q =>
    cases hr : q.reg (a % 0x1000) with
    | none => simp only [hr, Option.some.injEq, false_iff, reduceCtorEq]; rintro ⟨rfl, h⟩; rw [hr] at h; cases h
    | some r => simp only [Option.some.injEq]; grind

/-- A page is a block of 4 KiB: an address and the page's first lie in the same one. -/
theorem pageOf_base (a : Nat) : pageOf (a - a % 0x1000) = pageOf a := by
  unfold pageOf
  rw [show (a - a % 0x1000) / 0x400000 = a / 0x400000 by omega, show (a - a % 0x1000) / 0x1000 = a / 0x1000 by omega,
    show (a - a % 0x1000) % 0x400000 / 0x1000 = a % 0x400000 / 0x1000 by omega]

theorem pageOf_offset {pg o : Nat} (h : pg % 0x1000 = 0) (ho : o < 0x1000) : pageOf (pg + o) = pageOf pg := by
  rw [← pageOf_base (pg + o), show pg + o - (pg + o) % 0x1000 = pg by omega]

theorem pageOf_pgPCIE : pageOf pgPCIE = some ⟨.pcie, 0, 0, 4⟩ := by decide +kernel

theorem ne_pgPCIE {pg : Nat} {p : Page} (hp : pageOf pg = some p) (hb : p.blk ≠ .pcie) : pg ≠ pgPCIE := by
  rintro rfl
  rw [pageOf_pgPCIE] at hp
  obtain rfl := Option.some.inj hp
  exact hb rfl

theorem reaches_wide {s : State} {a : Nat} (h : s.reaches a = true) : s.wide = none := (reaches_iff.1 h).1

/-! ## Writes that reach their page -/

theorem busWrite_reaches {s : State} {a : Nat} (v hw : W32) (h : s.reaches a = true) (hne : a ≠ pgPUMP + 0x05C) :
    s.busWrite a v 0xF hw = s.writeWith a v hw := by
  unfold State.busWrite
  rw [reaches_wide h, if_neg (by decide), if_neg (by decide), if_neg hne, access_reaches _ h]

theorem writeWith_quiet {s : State} {a : Nat} {p : Page} {d : RegDesc} (v : W32) (h : regAt a = some (p, d)) :
    s.writeWith a v 0 = s.writeAt a v := by
  unfold State.writeWith State.hwSets
  rw [h]
  have hm : (0 : W32) &&& d.w1cMask = 0 := BitVec.zero_and
  simp only [hm, if_true]
  rw [show v &&& ~~~(0 : W32) = v from BitVec.and_allOnes]

theorem writeAt_header (s : State) {a : Nat} {p : Page} {d : RegDesc} (v : W32) (h : regAt a = some (p, d)) (ho : a % 0x1000 < 0x040) :
    s.writeAt a v = s.writeHeader (a - a % 0x1000) p (a % 0x1000) v := by
  obtain ⟨hp, hd⟩ := regAt_some.1 h
  unfold State.writeAt
  rw [hp]
  simp only [hd, if_pos ho]

theorem writeAt_block {s : State} {a : Nat} {p : Page} {d : RegDesc} (v : W32) (h : regAt a = some (p, d)) (ho : 0x040 ≤ a % 0x1000)
    (hopen : s.openBits p a = 0xFFFFFFFF) : s.writeAt a v = s.blockWrite (a - a % 0x1000) p a v := by
  obtain ⟨hp, hd⟩ := regAt_some.1 h
  unfold State.writeAt
  rw [hp]
  simp only [hd, if_neg (Nat.not_lt.2 ho), hopen]
  rw [if_neg (by decide), show v &&& 0xFFFFFFFF = v from BitVec.and_allOnes]

theorem pageOf_pumpDoorbell : pageOf (pgPUMP + 0x05C) = some ⟨.pump, 0, 0, 4⟩ := by decide +kernel

/-- A block none of whose own registers acts when it is written. -/
def Block.plain (b : Block) : Bool :=
  [.gpio, .cmpl, .cg, .flow, .fyil, .fft, .nsc, .code, .abd, .hrace, .trace, .mill, .slp, .qctl].contains b

theorem blockWrite_plain (s : State) (pg : Nat) {p : Page} (a : Nat) (v : W32) (h : p.blk.plain = true) :
    s.blockWrite pg p a v = s.plainWrite a v := by
  unfold State.blockWrite
  cases hb : p.blk <;> simp_all [Block.plain]

theorem openBits_plain (s : State) {p : Page} (a : Nat) (h : p.blk.plain = true) : s.openBits p a = 0xFFFFFFFF := by
  unfold State.openBits
  cases hb : p.blk <;> simp_all [Block.plain]

theorem plain_ne_pumpDoorbell {a : Nat} {p : Page} (hp : pageOf a = some p) (hb : p.blk.plain = true) : a ≠ pgPUMP + 0x05C := by
  rintro rfl
  rw [pageOf_pumpDoorbell] at hp
  obtain rfl := Option.some.inj hp
  cases hb

/-- A full write of a register that only stores: the rule of R48 alone decides. -/
theorem exec_regWrite_plain {a : W24} {s : State} {p : Page} {d : RegDesc} (v : W32) (h : regAt (wordAddr a) = some (p, d))
    (ho : 0x040 ≤ wordAddr a % 0x1000) (hb : p.blk.plain = true) (hr : s.reaches (wordAddr a) = true) :
    exec (.regWrite a v ⟨0xF, 0⟩) s = .next (s.plainWrite (wordAddr a) v) := by
  have hp := (regAt_some.1 h).1
  show Host.Outcome.next (s.busWrite (wordAddr a) v 0xF 0) = _
  rw [busWrite_reaches v 0 hr (plain_ne_pumpDoorbell hp hb), writeWith_quiet v h, writeAt_block v h ho (openBits_plain s _ hb),
    blockWrite_plain _ _ _ _ hb]

theorem plainWrite_open {s : State} {a : Nat} {v : W32} {p : Page} {d : RegDesc} (h : regAt a = some (p, d))
    (ho : ∀ f ∈ d.fields, bitsOf (s.reg (s.regKey a d)) f.hi f.lo = bitsOf v f.hi f.lo
      ∨ s.scopeOpen p (a % 0x1000) f (s.reg (s.regKey a d)) v = true) :
    s.plainWrite a v = s.setReg (s.regKey a d) (d.newWord (s.reg (s.regKey a d)) v) := by
  rw [State.plainWrite, State.scoped, h]
  refine if_pos (List.all_eq_true.2 fun f hf => ?_)
  rw [Bool.or_eq_true, decide_eq_true_eq]
  exact ho f hf

theorem plainWrite_closed {s : State} {a : Nat} {v : W32} {p : Page} {d : RegDesc} (h : regAt a = some (p, d))
    (ho : ∃ f ∈ d.fields, bitsOf (s.reg (s.regKey a d)) f.hi f.lo ≠ bitsOf v f.hi f.lo
      ∧ s.scopeOpen p (a % 0x1000) f (s.reg (s.regKey a d)) v = false) :
    s.plainWrite a v = s.liveDrop a := by
  rw [State.plainWrite, State.scoped, h]
  refine if_neg fun hall => ?_
  obtain ⟨f, hf, hne, hcl⟩ := ho
  have hof := List.all_eq_true.1 hall f hf
  rw [Bool.or_eq_true, decide_eq_true_eq, hcl] at hof
  exact hof.elim hne Bool.noConfusion

theorem liveDrop_page {s : State} {a : Nat} {p : Page} (h : pageOf a = some p) :
    s.liveDrop a = (s.countAcc (s.accWeir p) 0x208 2 a).raise (a - a % 0x1000 - p.seq * 0x1000) 30 := by
  unfold State.liveDrop
  rw [h]

/-- A write of ERR_STAT with bits that hardware sets: they are raised first and are not cleared (R10). -/
theorem exec_regWrite_errStat {a : W24} {s : State} {p : Page} {d : RegDesc} (v hw : W32) (h : regAt (wordAddr a) = some (p, d))
    (ho : wordAddr a % 0x1000 = 0x010) (hr : s.reaches (wordAddr a) = true) :
    exec (.regWrite a v ⟨0xF, hw⟩) s = .next ((s.hwSets (wordAddr a) p d (hw &&& d.w1cMask)).writeErrStat (wordAddr a - 0x010)
      (v &&& ~~~ (hw &&& d.w1cMask))) := by
  have hne : wordAddr a ≠ pgPUMP + 0x05C := fun e => by rw [e] at ho; exact absurd ho (by decide)
  show Host.Outcome.next (s.busWrite (wordAddr a) v 0xF hw) = _
  rw [busWrite_reaches v hw hr hne, State.writeWith, h]
  simp only [writeAt_header _ _ h (show wordAddr a % 0x1000 < 0x040 by omega), ho]
  rfl

theorem writeErrStat_stat (s : State) (pg : Nat) (v : W32) : (s.writeErrStat pg v).reg (pg + 0x010) = s.reg (pg + 0x010) &&& ~~~ v := by
  unfold State.writeErrStat
  extract_lets x s1
  split
  · rw [reg_put_ne _ _ _ _ (by omega), reg_setReg_self]
  · rw [reg_setReg_self]

theorem writeErrStat_first (s : State) (pg : Nat) {v : W32} (h : (s.writeErrStat pg v).reg (pg + 0x010) ≠ 0) :
    (s.writeErrStat pg v).reg (pg + 0x018) = s.reg (pg + 0x018) := by
  rw [writeErrStat_stat] at h
  unfold State.writeErrStat
  extract_lets x s1
  rw [if_neg h, reg_setReg_ne _ _ (by omega)]

theorem writeErrStat_released (s : State) (pg : Nat) {v : W32} (h : (s.writeErrStat pg v).reg (pg + 0x010) = 0) :
    (s.writeErrStat pg v).fld (pg + 0x018) 31 31 = 0 := by
  rw [writeErrStat_stat] at h
  unfold State.writeErrStat
  extract_lets x s1
  rw [if_pos h, fld_put_self _ _ _ _ (by decide), Nat.zero_mod]

theorem hwSets_errStat (s : State) {a : Nat} {p : Page} (d : RegDesc) (m : W32) (hp : pageOf a = some p) (ho : a % 0x1000 = 0x010)
    (hb : p.blk ≠ .pcie) :
    (s.hwSets a p d m).reg a = s.reg a ||| m ∧ (s.fld (a + 0x008) 31 31 = 1 → (s.hwSets a p d m).reg (a + 0x008) = s.reg (a + 0x008)) := by
  obtain ⟨pg, rfl⟩ : ∃ pg, a = pg + 0x010 := ⟨a - 0x010, by omega⟩
  have hpg : pageOf pg = some p := by rw [← hp, pageOf_offset (by omega) (by decide)]
  unfold State.hwSets
  by_cases hm : m = 0
  · subst hm; simp
  · simp only [if_neg hm, if_true, ho, Nat.add_sub_cancel]
    exact ⟨raiseAt_stat s m _ _ _ hpg (by omega) (ne_pgPCIE hpg hb),
      fun h => raiseAt_first_valid s m _ _ _ hpg (by omega) (ne_pgPCIE hpg hb) h⟩

/-- Settles O9. -/
theorem registerWrites : Obligations.RegisterWrites := by
  refine ⟨?accepted, ?dropped, ?bytes, ?errStat, ?unpopulated, ?dark⟩
  case accepted =>
    intro a v s p d h ho hb hr hopen
    rw [exec_regWrite_plain v h ho (List.contains_iff_mem.2 hb) hr, plainWrite_open h hopen]
  case dropped =>
    intro a v s p d h ho hb hr hcl
    rw [exec_regWrite_plain v h ho (List.contains_iff_mem.2 hb) hr, plainWrite_closed h hcl, liveDrop_page (regAt_some.1 h).1]
  case bytes =>
    intro a v hw be s hbe hwide
    show Host.Outcome.next (s.busWrite (wordAddr a) v be hw) = _
    rw [State.busWrite, hwide, if_neg (by decide), if_pos hbe, State.badAccess, State.countAcc, Nat.mod_eq_of_lt (wordAddr_lt a)]
    rfl
  case errStat =>
    intro a v hw s p d h ho _ hb hr
    obtain ⟨hset, hfirst⟩ := hwSets_errStat s d (hw &&& d.w1cMask) (regAt_some.1 h).1 ho hb
    have e10 : wordAddr a - 0x010 + 0x010 = wordAddr a := by omega
    have e18 : wordAddr a - 0x010 + 0x018 = wordAddr a + 0x008 := by omega
    refine ⟨_, exec_regWrite_errStat v hw h ho hr, ?_, fun hv hne => ?_, fun hz => ?_⟩
    · have hs := writeErrStat_stat (s.hwSets (wordAddr a) p d (hw &&& d.w1cMask)) (wordAddr a - 0x010) (v &&& ~~~ (hw &&& d.w1cMask))
      rw [e10, hset] at hs
      rw [hs]
      generalize hw &&& d.w1cMask = m
      refine BitVec.eq_of_getLsbD_eq fun n hn => ?_
      simp only [BitVec.getLsbD_and, BitVec.getLsbD_or, BitVec.getLsbD_not, hn]
      cases (s.reg (wordAddr a)).getLsbD n <;> cases v.getLsbD n <;> cases m.getLsbD n <;> rfl
    · rw [← e18, writeErrStat_first _ _ (by rw [e10]; exact hne), e18, hfirst hv]
    · rw [← e18]
      exact writeErrStat_released _ _ (by rw [e10]; exact hz)
  case unpopulated =>
    intro a wr s hp hwide
    have he : exec (.unpopulatedAccess a wr) s = .next (if wr then s.badAccess (wordAddr a) else { s.badAccess (wordAddr a) with readData := 0 }) := by
      show execUnpopulatedAccess a wr s = _
      unfold execUnpopulatedAccess
      rw [hp, if_neg (by decide), access_none _ hwide hp, readAccess_none _ hwide hp]
    have hf : Frame 0x28 s (s.badAccess (wordAddr a)) := (State.badAccess_frame s _).mono rfl
    refine ⟨_, he, ?_⟩
    cases wr
    · exact ⟨countAcc_count s 4 3 _ (by decide), countAcc_last s 4 0x20C 3 (wordAddr_lt a), rfl,
        (hf.trans (upd_readData rfl)).parts (by decide), fun k h1 h2 => countAcc_ne s 4 3 _ h1 h2⟩
    · exact ⟨countAcc_count s 4 3 _ (by decide), countAcc_last s 4 0x20C 3 (wordAddr_lt a), rfl,
        hf.parts (by decide), fun k h1 h2 => countAcc_ne s 4 3 _ h1 h2⟩
  case dark =>
    intro a v s p hp hd hwide hne
    have he : exec (.darkWrite a v) s = .next (s.darkWriteAt p (wordAddr a)) := by
      show execDarkWrite a v s = _
      unfold execDarkWrite State.darkWord State.busWrite
      rw [hp]
      simp only [hd, if_true, hwide, if_neg hne, access_dark _ hwide hp hd]
      rfl
    exact ⟨_, he, countAcc_count s _ 1 _ (by decide), countAcc_last s _ 0x204 1 (wordAddr_lt a),
      (State.darkWriteAt_frame s p _).parts (by decide), fun k h1 h2 => countAcc_ne s _ 1 _ h1 h2⟩

end Sys2Proof.Machine
end

section
/-! Reads of registers (R11, R38, R51, R311, R341): a dark page, a register with RC fields, a pair that latches. -/

namespace Sys2Proof.Machine

open Sys2Proof

theorem busRead_reaches {s : State} {a : Nat} (hw : W32) (h : s.reaches a = true) : s.busRead a hw = s.readReg a hw :=
  readAccess_reaches _ h

theorem byteMask_ones (be : W4) : 0xFFFFFFFF &&& byteMask be = byteMask be := BitVec.allOnes_and

/-- A register with RC fields that neither pops a queue nor closes an interval nor latches: the fields keep what hardware set. -/
theorem readReg_rc {s : State} {a : Nat} (hw : W32) {p : Page} {d : RegDesc} (h : regAt a = some (p, d)) (hrc : d.rcMask ≠ 0)
    (hopen : s.openBits p a ≠ 0) (hb : ¬ (p.blk = .bmon ∧ a % 0x1000 = 0x054)) (hl : ¬ (p.blk = .lane ∧ a % 0x1000 = 0x06C))
    (hh : latchesHi p (a % 0x1000) = false) :
    s.readReg a hw = { s with readData := s.viewAt a }.setReg (s.regKey a d)
      ((s.reg (s.regKey a d) &&& ~~~ d.rcMask) ||| (hw &&& d.rcMask)) := by
  unfold State.readReg
  rw [h]
  simp only [hh, if_neg hb, if_neg hl]
  rw [if_neg (by decide), if_neg (fun e => e.elim hrc hopen)]

theorem latchesHi_blk {p : Page} {o : Nat} (h : latchesHi p o = true) : p.blk = .ftb ∨ p.blk = .fqu ∨ p.blk = .weir := by
  unfold latchesHi at h
  split at h
  · exact .inl ‹_›
  · exact .inr (.inl ‹_›)
  · exact .inr (.inr ‹_›)
  · cases h

/-- The LO half of a latching pair: HI is latched as it stands when no older latch hides it. -/
theorem readReg_latch {s : State} {a : Nat} (hw : W32) {p : Page} {d : RegDesc} (h : regAt a = some (p, d))
    (hh : latchesHi p (a % 0x1000) = true) :
    s.readReg a hw = { s with
      readData := s.viewAt a,
      latch := tabSet (fun _ => none) s.latch (a + 4) (some (({ s with latch := tabErase s.latch (a + 4) } : State).viewAt (a + 4))) } := by
  have hb : ¬ (p.blk = .bmon ∧ a % 0x1000 = 0x054) := fun e => by
    obtain h | h | h := latchesHi_blk hh <;> rw [h] at e <;> exact absurd e.1 (by decide)
  have hl : ¬ (p.blk = .lane ∧ a % 0x1000 = 0x06C) := fun e => by
    obtain h | h | h := latchesHi_blk hh <;> rw [h] at e <;> exact absurd e.1 (by decide)
  unfold State.readReg
  rw [h]
  simp only [hh, if_neg hb, if_neg hl, if_true]
  rfl

theorem exec_darkRead {a : W24} {s : State} {p : Page} (be : W4) (hp : pageOf (wordAddr a) = some p) (hd : s.dark p = true)
    (hw : s.wide = none) : exec (.darkRead ⟨a, be⟩) s = .next ((s.darkReadAt p (wordAddr a)).returned be) := by
  show execDarkRead ⟨a, be⟩ s = _
  have hdw : s.darkWord a = true := by unfold State.darkWord; rw [hp]; exact hd
  unfold execDarkRead
  rw [if_pos hdw, readAccess_dark _ hw hp hd]

/-- A dark read apart from what it returns: the access counted, DARK_READ set. -/
theorem darkReadAt_regs (s : State) (p : Page) (a : Nat) : (s.darkReadAt p a).regs = ((s.countAcc (s.accWeir p) 0x200 0 a).setRowBit
    (pgWEIR (s.accWeir p) + 0x040) (if s.accWeir p < 4 then 56 else 32) true).regs := rfl

theorem reg_of_regs {s t : State} (h : t.regs = s.regs) (k : Nat) : t.reg k = s.reg k := by rw [State.reg, h, State.reg]

/-- What a dark read leaves in a register: the count of the access, but for DARK_READ in WEIR_WORD_HI. -/
theorem darkReadAt_reg_ne (s : State) (p : Page) (a : Nat) {k : Nat} (h : k ≠ pgWEIR (s.accWeir p) + 0x044) :
    (s.darkReadAt p a).reg k = (s.countAcc (s.accWeir p) 0x200 0 a).reg k := by
  rw [reg_of_regs (darkReadAt_regs s p a), State.setRowBit, reg_put_ne]
  intro e
  split at e <;> exact h e

theorem darkReadAt_bit (s : State) (p : Page) (a : Nat) :
    (s.darkReadAt p a).rowBit (pgWEIR (s.accWeir p) + 0x040) (if s.accWeir p < 4 then 56 else 32) = true := by
  rw [State.rowBit, reg_of_regs (darkReadAt_regs s p a)]
  exact rowBit_setRowBit_self (s.countAcc (s.accWeir p) 0x200 0 a) _ _ true

theorem returned_reg (s : State) (be : W4) (k : Nat) : (s.returned be).reg k = s.reg k := rfl

theorem returned_latch (s : State) (be : W4) : (s.returned be).latch = s.latch := rfl

theorem returned_rowBit (s : State) (be : W4) (k n : Nat) : (s.returned be).rowBit k n = s.rowBit k n := rfl

/-- Settles O10. -/
theorem registerReads : Obligations.RegisterReads := by
  refine ⟨?dark, ?rc, ?pair⟩
  case dark =>
    intro a be s p hp hd hw
    refine ⟨_, exec_darkRead be hp hd hw, byteMask_ones be, ?_, ?_, ?_, ?_, fun k h1 h2 h3 => ?_⟩
    · rw [returned_reg, darkReadAt_reg_ne s p _ (by omega), countAcc_count s _ 0 _ (by decide)]
      rfl
    · rw [returned_reg, darkReadAt_reg_ne s p _ (by omega), countAcc_last s _ 0x200 0 (wordAddr_lt a), Nat.zero_mul, Nat.add_zero]
    · rw [returned_rowBit, darkReadAt_bit]
    · exact ((State.darkReadAt_frame s p _).trans (upd_readData rfl)).parts (by decide)
    · rw [returned_reg, darkReadAt_reg_ne s p _ h3, countAcc_ne s _ 0 _ h1 h2]
  case rc =>
    intro a be hw s p d h hrc hopen hb hl hh hr
    show Host.Outcome.next ((s.busRead (wordAddr a) hw).returned be) = _
    rw [busRead_reaches hw hr, readReg_rc hw h hrc hopen hb hl hh]
    rfl
  case pair =>
    intro a be s p d h hh hr
    have he : exec (.latchedPairRead ⟨a, be⟩) s = .next ((s.readReg (wordAddr a) 0).returned be) := by
      show Host.Outcome.next ((s.busRead (wordAddr a) 0).returned be) = _
      rw [busRead_reaches 0 hr]
    rw [readReg_latch 0 h hh] at he
    refine ⟨_, he, rfl, ?_, fun k hk => ?_, ?_⟩
    · rw [returned_latch, tabGet_set_self]
    · rw [returned_latch, tabGet_set_ne _ _ _ hk]
    · exact ((upd_readData (F := 0x30) rfl : Frame 0x30 s _).trans (upd_latch rfl)).parts (by decide)

end Sys2Proof.Machine
end

section
/-! PAGE_CTRL, ERR_INJ and WAKE (R43, R55, R66, R358). -/

namespace Sys2Proof.Machine

open Sys2Proof

/-! ## The header of a page -/

/-- Only the header stands below 0x040 of a page. -/
theorem blockRegs_off (b : Block) (i : Nat) : ∀ r ∈ blockRegs b i, 0x040 ≤ r.off := by
  have h : (blockRegs b i).all (fun r => decide (0x040 ≤ r.off)) = true := by
    cases b with
    | pmb => simp only [blockRegs, List.all_append]; split <;> rfl
    | _ => rfl
  exact fun r hr => of_decide_eq_true (List.all_eq_true.1 h r hr)

theorem weirPage_off : ∀ r ∈ weirRegs ++ dweirRegs, 0x040 ≤ r.off := by decide

theorem reg_header_none {p : Page} {o : Nat} (hs : p.seq ≠ 0) (ho : o < 0x040) : p.reg o = none := by
  have h : p.regs.find? (fun r => r.at p.seq o) = none := by
    refine List.find?_eq_none.2 fun r hr => ?_
    have hoff : 0x040 ≤ r.off := by
      rw [Page.regs, if_neg hs, List.nil_append] at hr
      split at hr
      · exact weirPage_off r hr
      · exact blockRegs_off _ _ r hr
    simp only [RegDesc.at, Bool.and_eq_true, decide_eq_true_eq, not_and]
    omega
  unfold Page.reg
  rw [h]
  exact if_neg (by omega)

theorem seq_eq_zero_of_header {p : Page} {o : Nat} (h : (p.reg o).isSome = true) (ho : o < 0x040) : p.seq = 0 := by
  by_contra hs
  rw [reg_header_none hs ho] at h
  cases h

theorem reg_pageCtrl {p : Page} (hs : p.seq = 0) : p.reg 0x008 = some (reg 0x008 [rw 3 3, wo 2 2, wo 1 1, wo 0 0]) := by
  unfold Page.reg Page.regs
  rw [hs]
  rfl

theorem reg_errInj {p : Page} (hs : p.seq = 0) : p.reg 0x01C = some (reg 0x01C [rwf 8 8, rwf 4 0]) := by
  unfold Page.reg Page.regs
  rw [hs]
  rfl

theorem regAt_header {pg o : Nat} {p : Page} {d : RegDesc} (hp : pageOf pg = some p) (hm : pg % 0x1000 = 0) (ho : o < 0x040)
    (hd : p.reg o = some d) : regAt (pg + o) = some (p, d) :=
  regAt_some.2 ⟨by rw [pageOf_offset hm (by omega), hp], by rw [show (pg + o) % 0x1000 = o by omega, hd]⟩

theorem pageAddr_mod (page : PageIx) : pageAddr page % 0x1000 = 0 := by unfold pageAddr; omega

/-- A write of PAGE_CTRL that reaches its page. -/
theorem writeAt_pageCtrl (s : State) {pg : Nat} {p : Page} (v : W32) (hp : pageOf pg = some p) (hm : pg % 0x1000 = 0) (hs : p.seq = 0) :
    s.writeAt (pg + 0x008) v = s.writeCtrl pg p v := by
  rw [writeAt_header s v (regAt_header hp hm (by decide) (reg_pageCtrl hs)) (by omega), show (pg + 0x008) % 0x1000 = 0x008 by omega,
    Nat.add_sub_cancel]
  rfl

/-! ## RUN and HALT of a carrier group -/

theorem pageAddr_group {g : Nat} (h : g < 64) : pageAddr (BitVec.ofNat _ (0x040 + g)) = pgCG g := by
  unfold pageAddr pgCG devPg
  rw [BitVec.toNat_ofNat]
  omega

theorem pageOf_group {g : Nat} (h : g < 64) : pageOf (pgCG g) = some ⟨.cg, g, 0, 4⟩ := by
  have hi : pgCG g / 0x1000 = 0x040 + g := by unfold pgCG devPg; omega
  unfold pageOf devicePage
  rw [if_pos (by unfold pgCG devPg; omega), hi]
  repeat rw [if_neg (by omega)]
  rw [if_pos (by omega), Nat.add_sub_cancel_left]

theorem pgCG_mod (g : Nat) : pgCG g % 0x1000 = 0 := by unfold pgCG devPg; omega

/-- A write of a group's PAGE_CTRL: EN_WAKE stands in bit 3, RUN and HALT act. -/
theorem writeAt_groupCtrl (s : State) {g : Nat} (v : W32) (h : g < 64) : s.writeAt (pgCG g + 0x008) v
    = (s.put (pgCG g + 0x008) 3 3 (b2n (bit v 3))).runHalt g (bit v 0) (bit v 1) :=
  writeAt_pageCtrl s v (pageOf_group h) (pgCG_mod g) rfl

theorem bit_or_of_ne (v m : W32) {n : Nat} (h : m.getLsbD n = false) : bit (v ||| m) n = bit v n := by
  rw [bit, BitVec.getLsbD_or, h, Bool.or_false]; rfl

theorem bit_or_of_set (v m : W32) {n : Nat} (h : m.getLsbD n = true) : bit (v ||| m) n = true := by
  rw [bit, BitVec.getLsbD_or, h, Bool.or_true]

theorem exec_run {g : Nat} {v : W32} {s : State} (h : g < 64) (hv : bit v 1 = false) (hr : s.reaches (pgCG g + 0x008) = true) :
    exec (.run (BitVec.ofNat _ (0x040 + g)) v) s = .next ((s.put (pgCG g + 0x008) 3 3 (b2n (bit v 3))).runHalt g true false) := by
  show execRun _ v s = _
  rw [execRun, pageAddr_group h, access_reaches _ hr, writeAt_groupCtrl s _ h, bit_or_of_ne v 1 (n := 3) (by decide),
    bit_or_of_ne v 1 (n := 1) (by decide), bit_or_of_set v 1 (n := 0) (by decide), hv]

theorem exec_halt {g : Nat} {v : W32} {s : State} (h : g < 64) (hv : bit v 0 = false) (hr : s.reaches (pgCG g + 0x008) = true) :
    exec (.halt (BitVec.ofNat _ (0x040 + g)) v) s = .next ((s.put (pgCG g + 0x008) 3 3 (b2n (bit v 3))).runHalt g false true) := by
  show execHalt _ v s = _
  rw [execHalt, pageAddr_group h, access_reaches _ hr, writeAt_groupCtrl s _ h, bit_or_of_ne v 2 (n := 3) (by decide),
    bit_or_of_ne v 2 (n := 0) (by decide), bit_or_of_set v 2 (n := 1) (by decide), hv]

/-- PAGE_CTRL of a group is none of the registers that RUN looks at. -/
theorem runOpen_put_pageCtrl (s : State) (g v : Nat) : (s.put (pgCG g + 0x008) 3 3 v).runOpen g = s.runOpen g := by
  have hne {k : Nat} (hk : k % 0x1000 ≠ 0x008) : (s.put (pgCG g + 0x008) 3 3 v).reg k = s.reg k := by
    refine reg_put_ne _ _ _ _ ?_
    rintro rfl
    have := pgCG_mod g
    omega
  have hg := pgCG_mod g
  have hf (q : Nat) : (s.put (pgCG g + 0x008) 3 3 v).touches g q = s.touches g q := by
    unfold State.touches State.cgLive
    rw [hne (by omega), hne (by omega)]
  have hq (q : Nat) (hq : q < 4) : (s.put (pgCG g + 0x008) 3 3 v).fenced q = s.fenced q := by
    unfold State.fenced State.fencePhase State.fld
    rw [hne (by unfold pgDWEIR devPg; omega)]
  have ht : (s.put (pgCG g + 0x008) 3 3 v).touchesFenced g = s.touchesFenced g := by
    simp [State.touchesFenced, List.range_succ, hf, hq]
  unfold State.runOpen State.cgHalted State.cgPhase State.mode State.inTransition State.fld
  rw [hne (by omega), hne (by decide), ht]

theorem runHalt_run_open {s : State} {g : Nat} (h : s.runOpen g = true) : s.runHalt g true false = s.put (pgCG g + 0x048) 2 0 4 := by
  simp only [State.runHalt, h, if_true, and_self, Bool.false_eq_true, if_false]
  rfl

theorem runHalt_run_closed {s : State} {g : Nat} (hg : g < 64) (h : s.runOpen g = false) :
    s.runHalt g true false = (s.badAccess (pgCG g + 0x008)).raise (pgCG g) 31 := by
  simp only [State.runHalt, h, if_true, Bool.false_eq_true, and_false, if_false, State.ctrlReject, pageOf_group hg]
  rfl

theorem cgPhase_put_ne (s : State) {k : Nat} (g hi lo v : Nat) (h : k ≠ pgCG g + 0x048) : (s.put k hi lo v).cgPhase g = s.cgPhase g :=
  fld_put_ne _ _ _ _ _ _ h.symm

/-! ## SOFT_RESET -/

/-- The blocks whose SOFT_RESET returns every register of R43's offsets. -/
theorem keptSoft_other {b : Block} (hb : b ≠ .ftb) (pg a : Nat) : keptSoft b pg a = false := by
  cases b <;> simp_all [keptSoft]

theorem ctrlReset_accepted {s : State} {pg : Nat} {p : Page} (hl : p.blk ≠ .lane)
    (hr : tabGet (fun _ => false) s.resetting pg = false) (ha : s.pageActive p = false) : s.ctrlReset pg p = s.softReset pg p := by
  simp only [State.ctrlReset, hr, ha, if_neg hl, Bool.false_eq_true, if_false]

theorem softReset_resetting (s : State) (pg : Nat) (p : Page) : tabGet (fun _ => false) (s.softReset pg p).resetting pg = true :=
  tabGet_set_self (fun _ => false) _ pg true

theorem softReset_reg (s : State) (pg : Nat) {p : Page} (hb : p.blk ≠ .ftb) (k : Nat) : (s.softReset pg p).reg k =
    if inPages pg p.blk.pageCount (k % barSize) && softOff (k % 0x1000) then resetWord k else s.reg k := by
  have h : (s.softReset pg p).regs = (s.dropRegs (fun a => inPages pg p.blk.pageCount a && softOff (a % 0x1000) && !keptSoft p.blk pg a)).regs :=
    (State.resetInner_frame _ p).same .regs rfl
  have hm : k % barSize % 0x1000 = k % 0x1000 := Nat.mod_mod_of_dvd k (by decide)
  rw [State.reg, h]
  simp only [State.dropRegs, tabGet_drop, keptSoft_other hb, Bool.not_false, Bool.and_true, hm]
  rfl

theorem exec_softReset {page : PageIx} {v : W32} {s : State} {p : Page} (hp : pageOf (pageAddr page) = some p) (hs : p.seq = 0)
    (hsr : p.blk.softReset = true) (hr : s.reaches (pageAddr page + 0x008) = true) :
    exec (.softReset page v) s = .next ((s.put (pageAddr page + 0x008) 3 3 (b2n (bit v 3))).ctrlReset (pageAddr page) p) := by
  show execSoftReset page v s = _
  have hcg : p.blk ≠ .cg := fun e => by rw [e] at hsr; cases hsr
  rw [execSoftReset, access_reaches _ hr, writeAt_pageCtrl s _ hp (pageAddr_mod page) hs]
  simp only [State.writeCtrl, if_neg hcg, hsr, bit_or_of_ne v 4 (n := 3) (by decide), bit_or_of_set v 4 (n := 2) (by decide), Bool.and_self,
    if_true]

/-! ## ERR_INJ -/

theorem injWord_bit (n : W5) : bit (BitVec.ofNat 32 (0x100 + n.toNat)) 8 = true := by
  have h : n.toNat < 32 := n.isLt
  simp only [bit, BitVec.getLsbD_ofNat]
  interval_cases n.toNat <;> rfl

theorem injWord_field (n : W5) : bitsOf (BitVec.ofNat 32 (0x100 + n.toNat)) 4 0 = n.toNat := by
  have h : n.toNat < 32 := n.isLt
  simp only [bitsOf, BitVec.toNat_ofNat, Nat.shiftRight_zero]
  omega

theorem regKey_errInj (s : State) {pg : Nat} (hm : pg % 0x1000 = 0) : s.regKey (pg + 0x01C) (reg 0x01C [rwf 8 8, rwf 4 0]) = pg + 0x01C := by
  unfold State.regKey
  split
  · rfl
  · exact if_neg fun h => absurd h.2 (by omega)

/-- A write of ERR_INJ in FACTORY stores its fields and injects. -/
theorem writeErrInj_factory (s : State) {pg : Nat} {p : Page} {v : W32} (hp : pageOf pg = some p) (hm : pg % 0x1000 = 0)
    (hs : p.seq = 0) (hf : s.factory = true) (hv : bit v 8 = true) : ∃ x, s.writeErrInj pg p v
      = (((s.setReg (pg + 0x01C) x).put (pg + 0x01C) 8 8 0).injectErr pg p (bitsOf v 4 0)) := by
  have hopen (o : W32) : s.scopesOpen p ((pg + 0x01C) % 0x1000) (reg 0x01C [rwf 8 8, rwf 4 0]) o v = true := by
    simp [State.scopesOpen, reg, rwf, State.scopeOpen, hf]
  rw [State.writeErrInj, State.scoped, regAt_header hp hm (by decide) (reg_errInj hs)]
  simp only [regKey_errInj s hm, hopen, hv, if_true]
  exact ⟨_, rfl⟩

theorem exec_errInj {page : PageIx} (n : W5) {s : State} {p : Page} (hp : pageOf (pageAddr page) = some p) (hs : p.seq = 0)
    (hr : s.reaches (pageAddr page + 0x01C) = true) (hf : s.factory = true) (hc : errClass p.blk n.toNat ≠ 3) :
    ∃ x, exec (.errInj page n) s = .next (((s.setReg (pageAddr page + 0x01C) x).put (pageAddr page + 0x01C) 8 8 0).raiseAt
      (pageAddr page) (BitVec.ofNat 32 (2 ^ n.toNat)) p.loc none true) := by
  have hm := pageAddr_mod page
  obtain ⟨x, hx⟩ := writeErrInj_factory s (v := BitVec.ofNat 32 (0x100 + n.toNat)) hp hm hs hf (injWord_bit n)
  refine ⟨x, ?_⟩
  show execErrInj page n s = _
  rw [execErrInj, access_reaches _ hr, writeAt_header s _ (regAt_header hp hm (by decide) (reg_errInj hs)) (by omega)]
  simp only [show (pageAddr page + 0x01C) % 0x1000 = 0x01C by omega, Nat.add_sub_cancel]
  show Host.Outcome.next (s.writeErrInj (pageAddr page) p _) = _
  rw [hx, State.injectErr, injWord_field]
  simp only [if_neg hc]

/-! ## WAKE -/

theorem mirror_regAt : ∀ k < 12, ∃ d, regAt (pgDPWR + 0x100 + 4 * k) = some (⟨.dpwr, 0, 0, 4⟩, d) := by
  intro k hk
  have hp : pageOf (pgDPWR + 0x100 + 4 * k) = some ⟨.dpwr, 0, 0, 4⟩ := by
    rw [show pgDPWR + 0x100 + 4 * k = pgDPWR + (0x100 + 4 * k) by omega, pageOf_offset (by decide) (by omega)]
    decide +kernel
  have hd : (Page.reg ⟨.dpwr, 0, 0, 4⟩ ((pgDPWR + 0x100 + 4 * k) % 0x1000)).isSome = true := by
    interval_cases k <;> decide +kernel
  obtain ⟨d, hd⟩ := Option.isSome_iff_exists.1 hd
  exact ⟨d, regAt_some.2 ⟨hp, hd⟩⟩

/-- A write of a device slot's mirror that reaches its page. -/
theorem exec_wakeWrite_mirror {k : SlotIx} (v : W32) {s : State} (hk : k.val < 12) (hr : s.reaches (pgDPWR + 0x100 + 4 * k.val) = true) :
    exec (.wakeWrite k true v) s = .next ((s.put (slotCtrlKey k) 3 0 (bitsOf v 3 0)).wakeActs k) := by
  obtain ⟨d, hd⟩ := mirror_regAt k.val hk
  have ho : (pgDPWR + 0x100 + 4 * k.val) % 0x1000 = 0x100 + 4 * k.val := by unfold pgDPWR devPg; omega
  show execWakeWrite k true v s = _
  simp only [execWakeWrite, wakeAddr, if_true, if_pos (show k.val < 64 by omega)]
  rw [access_reaches _ hr, writeAt_block v hd (by omega) rfl]
  simp only [State.blockWrite, State.dpwrWrite, ho]
  rw [if_neg (by omega), if_pos (by omega), show (0x100 + 4 * k.val - 0x100) / 4 = k.val by omega]
  rfl

theorem wakeActs_quiet {s : State} {k : Nat} (h : s.wakesAct = false ∨ s.wakeLevel k = false) : s.wakeActs k = s := by
  obtain h | h := h <;> simp [State.wakeActs, h]

theorem wakeSlot_device {s : State} {k : Nat} (hk : k < 8) (he : (s.slot k).entry = .none)
    (hst : 2 ≤ (s.slot k).st) (hw : (s.slot k).waking = false) : s.wakeSlot k = s.setSlot k { s.slot k with waking := true } := by
  have hreal : slotReal k = true := by interval_cases k <;> rfl
  have hret : s.bankRetired k = false := by simp [State.bankRetired, show ¬ 64 ≤ k by omega]
  simp only [State.wakeSlot, hreal, hret, he, hw, Nat.not_lt.2 hst, if_neg (show ¬ 64 ≤ k by omega), ne_eq, not_true_eq_false,
    Bool.true_eq_false, Bool.false_eq_true, or_self, if_false]

theorem slotCtrlKey_ne_mode {k : Nat} (hk : k < 8) : pgDEV + 0x040 ≠ slotCtrlKey k := by interval_cases k <;> decide

theorem wakesAct_put {s : State} {k : Nat} (hk : k < 8) (v : Nat) : (s.put (slotCtrlKey k) 3 0 v).wakesAct = s.wakesAct := by
  unfold State.wakesAct State.mode State.drainStep
  simp only [fld_put_ne _ _ _ _ _ _ (slotCtrlKey_ne_mode hk)]

theorem wakeLevel_put (s : State) (k : Nat) {v : W32} (h : bit v 3 = true) : (s.put (slotCtrlKey k) 3 0 (bitsOf v 3 0)).wakeLevel k = true := by
  have hb : bit ((s.put (slotCtrlKey k) 3 0 (bitsOf v 3 0)).reg (slotCtrlKey k)) 3 = true := by
    rw [reg_put_self, bit, putFld_getLsbD _ _ _ _ _ (by decide), if_pos (by decide), bitsOf_testBit]
    exact h
  unfold State.wakeLevel
  rw [hb]
  simp only [Bool.true_or]

/-- Settles O11. -/
theorem pageControls : Obligations.PageControls := by
  refine ⟨?run, ?runClosed, ?halt, ?softReset, ?softResetEnd, ?errInj, ?wakeStored, ?wakeBegins⟩
  case run =>
    intro g v s hg hv hr ho
    rw [exec_run hg hv hr, runHalt_run_open (by rw [runOpen_put_pageCtrl s g, ho])]
  case runClosed =>
    intro g v s hg hv hr ho
    rw [exec_run hg hv hr, runHalt_run_closed hg (by rw [runOpen_put_pageCtrl s g, ho])]
  case halt =>
    intro g v s hg hv hr hph
    have hp : (s.put (pgCG g + 0x008) 3 3 (b2n (bit v 3))).cgPhase g = 0 := by rw [cgPhase_put_ne _ _ _ _ _ (by omega), hph]
    rw [exec_halt hg hv hr]
    simp only [State.runHalt, if_true, Bool.false_eq_true, if_false, State.haltGroup, hp]
    rfl
  case softReset =>
    intro page v s p hp hs hsr hb hr hres hact
    have hl : p.blk ≠ .lane := fun e => hb (by rw [e]; decide)
    have hftb : p.blk ≠ .ftb := fun e => hb (by rw [e]; decide)
    have hm := pageAddr_mod page
    have hlt := pageOf_bound hp
    have hcnt : 1 ≤ p.blk.pageCount := by cases p.blk <;> decide
    refine ⟨_, exec_softReset hp hs hsr hr, ?_⟩
    rw [ctrlReset_accepted (s := s.put (pageAddr page + 0x008) 3 3 (b2n (bit v 3))) hl hres hact]
    refine ⟨softReset_resetting .., fun k h1 h2 h3 => ?_, fun k hk => ?_⟩
    · rw [softReset_reg _ _ hftb, if_pos]
      simp only [inPages, h1, h2, h3, decide_true, Bool.and_self]
    · have hin : inPages (pageAddr page) p.blk.pageCount (k % barSize) = false := by
        simpa [inPages, Decidable.not_and_iff_or_not] using hk
      rw [softReset_reg _ _ hftb, hin, Bool.false_and, if_neg (by decide), reg_put_ne]
      rintro rfl
      have hbar : (pageAddr page + 0x008) % barSize = pageAddr page + 0x008 := Nat.mod_eq_of_lt (by unfold barSize; omega)
      rw [hbar] at hk
      omega
  case softResetEnd =>
    intro page s p hp hl hres
    show Host.Outcome.next (s.endSoftReset (pageAddr page)) = _
    simp only [State.endSoftReset, hres, if_true, hp, if_neg hl]
  case errInj =>
    intro page n s p hp hsome hr hf hc
    have hm := pageAddr_mod page
    obtain ⟨x, hx⟩ := exec_errInj n hp (seq_eq_zero_of_header hsome (by decide)) hr hf hc
    have hev := raiseAt_event ((s.setReg (pageAddr page + 0x01C) x).put (pageAddr page + 0x01C) 8 8 0)
      (BitVec.ofNat 32 (2 ^ n.toNat)) p.loc none true hm
    refine ⟨_, hx, raiseAt_bit _ _ _ _ _ hp hm (bit_two_pow n.isLt), fun k hk => ?_, ?_⟩
    · by_cases e : k = pageAddr page + 0x01C
      · rw [e, reg_setReg_self]
      · rw [hev.2 k hk, reg_put_ne _ _ _ _ e, reg_setReg_ne _ _ e, reg_setReg_ne _ _ e]
    · have hf : Frame 0x480048 s ((s.setReg (pageAddr page + 0x01C) x).put (pageAddr page + 0x01C) 8 8 0) :=
        ((State.setReg_frame ..).trans (State.put_frame ..)).mono rfl
      exact (hf.trans (State.raiseAt_frame ..)).parts (by decide)
  case wakeStored =>
    intro k v s hk hr hq
    rw [exec_wakeWrite_mirror v hk hr, wakeActs_quiet hq]
  case wakeBegins =>
    intro k v s hk hr hv hw he hst hwk
    rw [exec_wakeWrite_mirror v (by omega) hr, State.wakeActs, wakesAct_put hk, hw, wakeLevel_put s k hv, Bool.and_self, if_pos rfl,
      wakeSlot_device (s := s.put (slotCtrlKey k) 3 0 (bitsOf v 3 0)) hk he hst hwk]
    rfl

end Sys2Proof.Machine
end

section
/-! Mode requests (R58, R61, R62) and the phases of a carrier group (R66). -/

namespace Sys2Proof.Machine

open Sys2Proof

/-! ## Mode requests -/

theorem modeReq_accepted {s : State} {ok : Bool} (k : State → State) (ho : ok = true) (ht : s.inTransition = false) :
    s.modeReq 0x4D0D ok k = k s := by
  simp [State.modeReq, ho, ht]

theorem modeReq_rejected {s : State} {ok : Bool} (k : State → State) (h : ok = false ∨ s.inTransition = true) :
    s.modeReq 0x4D0D ok k = ((s.put (pgDEV + 0x040) 11 8 2).irqBit pgDEV 2).badAccess (pgDEV + 0x044) := by
  obtain h | h := h <;> simp [State.modeReq, h, State.rejectMode]

theorem modeReq_wrongKey {s : State} {key : W16} (ok : Bool) (k : State → State) (h : key ≠ 0x4D0D) :
    s.modeReq key ok k = s.badAccess (pgDEV + 0x044) := if_pos h

theorem allHalted_iff {s : State} : (List.range 64).all s.cgHalted = true ↔ ∀ g < 64, s.cgPhase g = 3 := by
  simp [State.cgHalted]

/-- Settles O12. -/
theorem modeRequests : Obligations.ModeRequests := by
  refine ⟨fun s hm ht => ?boot, fun s hm ht hh => ?config, fun s hm ht => ?service, fun s u hm ht hu => ?drain,
    fun s => ⟨fun h => ?bootNo, fun h => ?configNo, fun h => ?serviceNo, fun h => ?drainNo⟩,
    fun key s h => ⟨congrArg _ (modeReq_wrongKey _ _ h), congrArg _ (modeReq_wrongKey _ _ h), congrArg _ (modeReq_wrongKey _ _ h),
      congrArg _ (modeReq_wrongKey _ _ h)⟩⟩
  case boot => exact congrArg _ (modeReq_accepted _ (decide_eq_true hm) ht)
  case config =>
    refine congrArg _ (modeReq_accepted _ ?_ ht)
    rw [allHalted_iff.2 hh, decide_eq_true hm, Bool.and_self]
  case service => exact congrArg _ (modeReq_accepted _ (decide_eq_true hm) ht)
  case drain =>
    subst hu
    refine congrArg _ (modeReq_accepted _ ?_ ht)
    simpa [or_assoc] using hm
  case bootNo => exact congrArg _ (modeReq_rejected _ (h.imp decide_eq_false id))
  case configNo =>
    refine congrArg _ (modeReq_rejected _ ?_)
    obtain h | h | ⟨g, hg, h⟩ := h
    · exact .inl (by rw [decide_eq_false h, Bool.false_and])
    · exact .inr h
    · exact .inl (Bool.and_eq_false_iff.2 (.inr (Bool.eq_false_iff.2 fun e => h (allHalted_iff.1 e g hg))))
  case serviceNo => exact congrArg _ (modeReq_rejected _ (h.imp decide_eq_false id))
  case drainNo =>
    refine congrArg _ (modeReq_rejected _ (h.imp (fun h => ?_) id))
    obtain ⟨h2, h3, h5⟩ := h
    rw [decide_eq_false h2, decide_eq_false h3, decide_eq_false h5]
    rfl

/-! ## The phases of a carrier group -/

theorem Frame.cgFault {m : Nat} {s t : State} (h : Frame m s t) (hm : m.testBit 14 = false) : t.cgFault = s.cgFault := h.same .cgFault hm

/-- Nothing of the copy but the groups' phases can wake a waiting fault: the table of them is left. -/
theorem startCopy_unfaulted {s u v w : State} {g : Nat} (hf : tabGet (fun _ => false) s.cgFault g = false)
    (hu : u = (s.copyContexts g).copyPolicies g) (hv : v = u.setReg (pgCG g + 0x840) (u.reg (pgCG g + 0x040)))
    (hw : w = (List.range 4).foldl (fun (t : State) q => if t.fenced q then t else t.setRowBit (pgDWEIR + 0x160 + 8 * q) g false) v) :
    s.startCopy g = ((w.setReg (pgCG g + 0x050) (BitVec.ofNat 32 w.rawNs32)).put (pgCG g + 0x048) 2 0 0).settle := by
  have h1 : u.cgFault = s.cgFault := by
    rw [hu, (State.copyPolicies_frame ..).cgFault rfl, (State.copyContexts_frame ..).cgFault rfl]
  have h2 : w.cgFault = v.cgFault := by
    rw [hw]
    exact (Frame.foldl (m := 0x8) _ _ v (fun t q => .ite (.refl _ t) (State.setRowBit_frame ..)) (.refl _ v)).cgFault rfl
  unfold State.startCopy
  extract_lets s1 s2 s3 s4
  have e1 : s1 = u := hu.symm
  have e2 : s2 = v := by rw [hv, ← e1]
  have e3 : s3 = w := by rw [hw, ← e2]
  clear_value s3
  subst e3
  have e4 : s4 = (s3.setReg (pgCG g + 0x050) (BitVec.ofNat 32 s3.rawNs32)).put (pgCG g + 0x048) 2 0 0 := rfl
  clear_value s4
  rw [e4, put_cgFault, setReg_cgFault, h2, hv, setReg_cgFault, h1, hf, if_neg (by decide)]

/-- Settles O14. -/
theorem groupPhases : Obligations.GroupPhases := by
  refine ⟨fun g s hp hl => ?stopped, fun g s hp hs => ?limit, fun g s hp ht => ?flushed, fun g s u v w hp hr hf hu hv hw => ?copy⟩
  case stopped =>
    show execCgDispatchStopped g s = _
    simp only [execCgDispatchStopped, hp, if_true, hl, false_and, and_false, if_false]
  case limit => exact congrArg _ (if_pos ⟨hp, hs⟩)
  case flushed => exact congrArg _ (if_pos ⟨hp, by simpa using ht⟩)
  case copy =>
    show execCgStartCopy g s = _
    rw [execCgStartCopy, if_pos ⟨hp, hr⟩, startCopy_unfaulted hf hu hv hw]

end Sys2Proof.Machine
end

section
/-! Presented time: rates, slews and steps (R308 to R313, R333). -/

namespace Sys2Proof.Machine

open Sys2Proof

theorem Frame.time {m : Nat} {s t : State} (h : Frame m s t) (hm : m.testBit 2 = false) : t.time = s.time := h.same .time hm

theorem Frame.regs {m : Nat} {s t : State} (h : Frame m s t) (hm : m.testBit 3 = false) : t.regs = s.regs := h.same .regs hm

theorem next_congr {a b : State} (h : a = b) : (.next a : Host.Outcome State Fault Refusal) = .next b := congrArg _ h

/-! ## Presented time -/

/-- What presented time is made of. -/
theorem pt_congr {s t : State} (hr : t.kept.raw = s.kept.raw) (hb : t.time.baseRaw = s.time.baseRaw) (hp : t.time.basePt = s.time.basePt)
    (hf : t.rateNow = s.rateNow) : t.pt = s.pt := by
  unfold State.pt
  rw [hr, hb, hp, hf]

/-- In the cycle of its base, presented time is the base. -/
theorem pt_of_base {s : State} (h : s.time.baseRaw = s.kept.raw) : s.pt = s.time.basePt := by
  unfold State.pt
  rw [h, BitVec.sub_self]
  simp

theorem slewApplied_of_base {s : State} (h : s.time.baseRaw = s.kept.raw) : s.slewApplied = 0 := by
  unfold State.slewApplied
  rw [h, BitVec.sub_self]
  simp

theorem rebase_reg (s : State) (k : Nat) : s.rebase.reg k = s.reg k := rfl

theorem slewTerm_congr {s t : State} (h : t.reg (pgFTB + 0x060) = s.reg (pgFTB + 0x060)) : t.slewTerm = s.slewTerm := by
  unfold State.slewTerm State.fld
  rw [h]

theorem slewTerm_nonneg (s : State) : 0 ≤ s.slewTerm := Int.natCast_nonneg _

theorem rateNow_congr {s t : State} (h : t.reg (pgFTB + 0x060) = s.reg (pgFTB + 0x060)) (ht : t.time = s.time) : t.rateNow = s.rateNow := by
  unfold State.rateNow
  rw [slewTerm_congr h, ht]

theorem pt_setReg (s : State) {k : Nat} (v : W32) (h : k ≠ pgFTB + 0x060) : (s.setReg k v).pt = s.pt :=
  pt_congr rfl rfl rfl (rateNow_congr (reg_setReg_ne _ _ h.symm) rfl)

/-- A register of the time base that an event leaves. -/
theorem irqBit_reg_time (s : State) (n : Nat) {k : Nat} (h : eventReg k = false) : (s.irqBit pgFTB n).reg k = s.reg k :=
  (irqBit_event s n (by decide)).2 k h

theorem pageOf_pgFTB : pageOf pgFTB = some ⟨.ftb, 0, 0, 4⟩ := by decide +kernel

theorem irqBit_ftb (s : State) {n : Nat} (h : n < 32) : bit ((s.irqBit pgFTB n).reg (pgFTB + 0x02C)) n = true :=
  irqBit_bit s pageOf_pgFTB (by decide) h

/-! ## The remainder of a slew -/

/-- A slew has applied nothing against its own direction. -/
theorem slewApplied_sign {s : State} (h : s.time.slewOn = true) :
    (s.time.slewRem < 0 → s.slewApplied ≤ 0) ∧ (0 ≤ s.time.slewRem → 0 ≤ s.slewApplied) := by
  have hterm := slewTerm_nonneg s
  have hd : (0 : Int) ≤ ((s.kept.raw - s.time.baseRaw).toNat : Int) := Int.natCast_nonneg _
  unfold State.slewApplied State.rateNow
  simp only [h, if_true]
  constructor <;> intro hr
  · rw [if_pos hr]
    have := Int.ediv_le_ediv (c := 2 ^ 48) (by decide) (mul_le_mul_of_nonneg_left (show s.time.rate.toInt + -s.slewTerm ≤ s.time.rate.toInt by omega) hd)
    omega
  · rw [if_neg (by omega)]
    have := Int.ediv_le_ediv (c := 2 ^ 48) (by decide) (mul_le_mul_of_nonneg_left (show s.time.rate.toInt ≤ s.time.rate.toInt + s.slewTerm by omega) hd)
    omega

/-- A remainder added to keeps the direction of the slew where what is left of it does. -/
theorem slewRem_add_sign {s : State} {v : Int} (h : s.time.slewOn = true)
    (hs : decide (s.slewLeft + v < 0) = decide (s.time.slewRem < 0)) : (s.time.slewRem + v < 0) ↔ s.time.slewRem < 0 := by
  obtain ⟨hneg, hpos⟩ := slewApplied_sign h
  have hiff := decide_eq_decide.1 hs
  simp only [State.slewLeft, h, if_true] at hiff
  constructor
  · intro hc
    by_contra hn
    have := hpos (by omega)
    omega
  · intro hc
    have := hneg hc
    omega

/-- A slew whose remainder grows within its direction: F stays. -/
theorem rateNow_addRem {s : State} {v : Int} (h : (s.time.slewRem + v < 0) ↔ s.time.slewRem < 0) :
    ({ s with time := { s.time with slewRem := s.time.slewRem + v } } : State).rateNow = s.rateNow := by
  show s.time.rate.toInt + (if s.time.slewOn then (if s.time.slewRem + v < 0 then -s.slewTerm else s.slewTerm) else 0) = _
  rw [ite_congr (propext h) (fun _ => rfl) (fun _ => rfl)]
  rfl

/-! ## A cycle without a step -/

/-- A cycle up to the wrap of presented time: the clocks, RAW and a slew that ends. -/
@[irreducible] def State.ticked (s : State) : State := if s.vaneTick.advanceRaw.slewSpent then s.vaneTick.advanceRaw.endSlew else s.vaneTick.advanceRaw

theorem cycle_noStep {s : State} (h : s.time.stepPend = none) : s.cycle =
    if s.ticked.pt.toNat < s.pt.toNat then { s.ticked with time := { s.ticked.time with ptEpoch := s.ticked.time.ptEpoch + 1 } } else s.ticked := by
  unfold State.cycle State.ticked
  simp only [h]

theorem cycle_noStep_time {s : State} (h : s.time.stepPend = none) : s.cycle.time = { s.ticked.time with
    ptEpoch := if s.ticked.pt.toNat < s.pt.toNat then s.ticked.time.ptEpoch + 1 else s.ticked.time.ptEpoch } := by
  rw [cycle_noStep h]
  split <;> rfl

/-- The epoch is no part of presented time. -/
theorem cycle_noStep_pt {s : State} (h : s.time.stepPend = none) : s.cycle.pt = s.ticked.pt := by
  rw [cycle_noStep h]
  split
  · exact pt_congr rfl rfl rfl rfl
  · rfl

theorem advanceRaw_time (s : State) : s.vaneTick.advanceRaw.time = s.time :=
  ((State.advanceRaw_frame _).time rfl).trans ((State.vaneTick_frame s).time rfl)

theorem endSlew_time (s : State) : s.endSlew.time = { s.time with
    baseRaw := s.kept.raw,
    basePt := s.time.basePt + BitVec.ofNat 64 (s.kept.raw - s.time.baseRaw).toNat
      + BitVec.ofInt 64 ((((s.kept.raw - s.time.baseRaw).toNat : Int) * s.time.rate.toInt) / 2 ^ 48 + s.time.slewRem),
    slewRem := 0, slewOn := false } := by
  unfold State.endSlew
  rw [(State.irqBit_frame ..).time rfl]

theorem ticked_ptEpoch (s : State) : s.ticked.time.ptEpoch = s.time.ptEpoch := by
  unfold State.ticked
  split
  · rw [endSlew_time, advanceRaw_time]
  · rw [advanceRaw_time]

theorem ticked_frame (s : State) : Frame 0x49004e s s.ticked := by
  have h : Frame 0x49004e s s.vaneTick.advanceRaw := ((State.vaneTick_frame s).mono rfl).trans ((State.advanceRaw_frame _).mono rfl)
  unfold State.ticked
  exact .ite (h.trans ((State.endSlew_frame _).mono rfl)) h

theorem cycle_noStep_frame {s : State} (h : s.time.stepPend = none) : Frame 0x49004e s s.cycle := by
  rw [cycle_noStep h]
  exact .ite ((ticked_frame s).trans (upd_time rfl)) (ticked_frame s)

theorem setKept_reg (s : State) (x : Kept) (k : Nat) : ({ s with kept := x } : State).reg k = s.reg k := rfl

theorem advanceRaw_reg (s : State) {k : Nat} (h : eventReg k = false) : s.advanceRaw.reg k = s.reg k := by
  unfold State.advanceRaw
  extract_lets w _ s1
  have h1 : s1.reg k = s.reg k := setKept_reg s _ k
  clear_value s1
  split
  · rw [irqBit_reg_time s1 2 h, h1]
  · exact h1

theorem vaneTick_reg (s : State) (k : Nat) : s.vaneTick.reg k = s.reg k := rfl

/-- Whether a slew ends does not depend on the clusters' clocks. -/
theorem slewSpent_vaneTick (s : State) : s.vaneTick.advanceRaw.slewSpent = s.advanceRaw.slewSpent := by
  have hk : s.vaneTick.advanceRaw.kept = s.advanceRaw.kept := by rw [advanceRaw_kept, advanceRaw_kept, (State.vaneTick_frame s).kept rfl]
  have ht : s.vaneTick.advanceRaw.time = s.advanceRaw.time := (advanceRaw_time s).trans ((State.advanceRaw_frame s).time rfl).symm
  have hr : s.vaneTick.advanceRaw.reg (pgFTB + 0x060) = s.advanceRaw.reg (pgFTB + 0x060) := by
    rw [advanceRaw_reg _ (by decide +kernel), advanceRaw_reg _ (by decide +kernel), vaneTick_reg]
  unfold State.slewSpent
  rw [hk, ht, slewTerm_congr hr]

/-! ## A step -/

/-- The registers below the pages of the groups and flows. -/
def lowReg (k : Nat) : Prop := k < pgCG 0

theorem endTask_lowRegs (s : State) (t : Task) (status : Nat) (finish : W64) (loc : W16) : KeepRegs lowReg s (s.endTask t status finish loc) := by
  unfold State.endTask
  extract_lets s1 s2 s3 s4
  have hput {u : State} {k : Nat} (hi lo v : Nat) (h : KeepRegs lowReg s u) (hk : pgCG 0 ≤ k) : KeepRegs lowReg s (u.put k hi lo v) :=
    h.setReg _ (Nat.not_lt.2 hk)
  have h1 : KeepRegs lowReg s s1 := .of_regs rfl
  have h2 : KeepRegs lowReg s s2 := .ite (hput _ _ _ h1 (by unfold pgFLOW pgCG devPg; omega)) h1
  have h3 : KeepRegs lowReg s s3 := .ite ((hput _ _ _ h2 (by unfold pgFLOW pgCG devPg; omega)).trans (.of_regs rfl)) h2
  have h4 : KeepRegs lowReg s s4 := .ite (h3.trans (.of_regs ((State.evtAdd_frame ..).regs rfl))) h3
  exact h4.trans (.of_regs ((State.noteReady_frame ..).regs rfl))

theorem settleN_lowRegs (n : Nat) (s : State) : KeepRegs lowReg s (State.settleN n s) := by
  induction n generalizing s with
  | zero => exact .refl s
  | succ n ih =>
    rw [State.settleN]
    split
    · exact KeepRegs.trans (endTask_lowRegs _ _ _ _ _) (ih _)
    · split
      · exact KeepRegs.trans ((KeepRegs.refl s).setReg _ (by unfold lowReg pgCG devPg; omega)) (ih _)
      · exact .refl s

theorem settle_lowRegs (s : State) : KeepRegs lowReg s s.settle := (settleN_lowRegs _ s).trans (.of_regs rfl)

theorem timeMarks_lowRegs (s : State) : KeepRegs lowReg s s.timeMarks := (KeepRegs.of_regs rfl).trans (settle_lowRegs _)

/-- The step a cycle makes, before the slots and tasks it makes due. -/
theorem makeStep_time (s old : State) (pt : W64) (epoch : W16) : (s.makeStep old pt epoch).time = { s.time with
    baseRaw := s.kept.raw, basePt := pt, ptEpoch := epoch, slewRem := 0, slewOn := false, stepPend := none } := by
  unfold State.makeStep
  rw [(State.timeMarks_frame _).time rfl, (State.markLate_frame ..).time rfl, (State.irqBit_frame ..).time rfl]
  rfl

theorem makeStep_kept (s old : State) (pt : W64) (epoch : W16) : (s.makeStep old pt epoch).kept = s.kept := (State.makeStep_frame ..).kept rfl

theorem makeStep_marks (s old : State) (pt : W64) (epoch : W16) :
    (s.makeStep old pt epoch).fld (pgFTB + 0x078) 1 1 = 1 ∧ bit ((s.makeStep old pt epoch).reg (pgFTB + 0x02C)) 1 = true := by
  unfold State.makeStep
  extract_lets _ s1
  have hk : KeepRegs lowReg ((s1.put (pgFTB + 0x078) 1 1 1).irqBit pgFTB 1)
      ((State.markLate old ((s1.put (pgFTB + 0x078) 1 1 1).irqBit pgFTB 1)).timeMarks) :=
    (KeepRegs.of_regs ((State.markLate_frame ..).regs rfl)).trans (timeMarks_lowRegs _)
  refine ⟨?_, ?_⟩
  · rw [State.fld, hk _ (by unfold lowReg; decide), irqBit_reg_time _ _ (by decide +kernel), ← State.fld]
    exact fld_put_self _ _ _ _ (by decide)
  · rw [hk _ (by unfold lowReg; decide), irqBit_ftb _ (by decide)]

theorem cycle_step {s : State} {p : W64 × W16} (h : s.time.stepPend = some p) : s.cycle = s.vaneTick.advanceRaw.makeStep s p.1 p.2 := by
  unfold State.cycle
  rw [h]

/-! ## Writes of FTB_ADJ -/

theorem adjust_rejected {s : State} {v : W32}
    (h : 2 ^ 30 < (s.slewLeft + v.toInt).natAbs ∨ s.fld (pgFTB + 0x060) 18 0 = 0 ∨ s.time.stepPend.isSome = true) :
    s.adjust v = s.raise pgFTB 0 := if_pos (by tauto)

section
variable {s : State} {v : W32} (hs : s.time.stepPend = none) (hl : (s.slewLeft + v.toInt).natAbs ≤ 2 ^ 30) (hr : s.fld (pgFTB + 0x060) 18 0 ≠ 0)
include hs hl hr

theorem adjust_open : ¬ (s.time.stepPend.isSome = true ∨ 2 ^ 30 < (s.slewLeft + v.toInt).natAbs ∨ s.fld (pgFTB + 0x060) 18 0 = 0) := by
  rw [hs]
  rintro (h | h | h)
  · cases h
  · exact absurd hl (Nat.not_le.2 h)
  · exact hr h

theorem adjust_cancels (h0 : s.slewLeft + v.toInt = 0) (hon : s.time.slewOn = true) :
    s.adjust v = State.irqBit { s.rebase with time := { s.rebase.time with slewRem := 0, slewOn := false } } pgFTB 0 := by
  unfold State.adjust
  rw [if_neg (adjust_open hs hl hr)]
  simp only [h0, hon, if_true]

/-- A slew starts, turns round or goes on: the remainder is what was left and what is added. -/
theorem adjust_slews (h0 : s.slewLeft + v.toInt ≠ 0) :
    (s.adjust v).time.slewOn = true ∧ (s.adjust v).slewLeft = s.slewLeft + v.toInt ∧ (s.adjust v).pt = s.pt
      ∧ (s.adjust v).time.rate = s.time.rate ∧ Frame 0x4 s (s.adjust v) := by
  unfold State.adjust
  rw [if_neg (adjust_open hs hl hr)]
  simp only [if_neg h0]
  split
  · next hc =>
    obtain ⟨hon, hsign⟩ := hc
    have hrate := rateNow_addRem (slewRem_add_sign hon hsign)
    refine ⟨hon, ?_, pt_congr rfl rfl rfl hrate, rfl, upd_time rfl⟩
    unfold State.slewLeft State.slewApplied
    rw [hrate]
    simp only [hon, if_true]
    omega
  · refine ⟨rfl, ?_, pt_of_base rfl, rfl, (State.rebase_frame s).trans (upd_time rfl)⟩
    show s.slewLeft + v.toInt - State.slewApplied _ = _
    rw [slewApplied_of_base rfl, Int.sub_zero]

end

/-! ## The obligation -/

theorem exec_rateCommit {v : W32} {s : State} (h : s.reaches (pgFTB + 0x05C) = true) : exec (.rateCommit v) s = .next (s.commitRate v) :=
  next_congr (access_reaches _ h)

theorem exec_ftbAdjWrite {v : W32} {s : State} (h : s.reaches (pgFTB + 0x064) = true) : exec (.ftbAdjWrite v) s = .next (s.adjust v) :=
  next_congr (access_reaches _ h)

/-- Settles O15. -/
theorem timeBase : Obligations.TimeBase := by
  refine ⟨fun s hw => ?rawWrap, fun s hs hp => ?ptWrap, fun v s new hr hn hl hne => ?rate, fun v s hr hl => ?rateBad,
    fun s hr => next_congr (access_reaches _ hr), fun v s hr hs hl hppb h0 => ?adj, fun v s hr hs hppb h0 hon => ?adjCancels,
    fun v s hr h => ?adjRejected, fun s he => ?slewDone, fun epoch s hr => next_congr (access_reaches _ hr), fun s v epoch hp => ?step⟩
  case rawWrap =>
    refine ⟨s.cycle, next_congr (if_pos hw), cycle_raw s, ?_, cycle_factorySeen s, (State.cycle_frame s).parts (by decide)⟩
    rw [cycle_epoch, if_pos hw]
  case ptWrap =>
    have he : exec .ptWrap s = .next s.cycle := by
      refine next_congr (if_pos ?_)
      simp [State.ptWraps, hs, hp]
    refine ⟨s.cycle, he, ?_, hp, cycle_raw s, (cycle_noStep_frame hs).parts (by decide)⟩
    rw [cycle_noStep_time hs]
    show (if s.ticked.pt.toNat < s.pt.toNat then s.ticked.time.ptEpoch + 1 else s.ticked.time.ptEpoch) = _
    rw [if_pos (cycle_noStep_pt hs ▸ hp), ticked_ptEpoch]
  case rate =>
    have he : s.commitRate v = { (s.setReg (pgFTB + 0x05C) (BitVec.ofNat 32 (bitsOf v 15 0))).rebase with
        time := { (s.setReg (pgFTB + 0x05C) (BitVec.ofNat 32 (bitsOf v 15 0))).rebase.time with rate := new } } := by
      unfold State.commitRate
      rw [← hn, if_neg (Nat.not_lt.2 hl)]
      exact if_neg hne
    have hpt : (s.setReg (pgFTB + 0x05C) (BitVec.ofNat 32 (bitsOf v 15 0))).pt = s.pt := pt_setReg s _ (by decide)
    refine ⟨_, (exec_rateCommit hr).trans (next_congr he), rfl, ?_, rfl, hpt, rfl, reg_setReg_self .., fun k hk => reg_setReg_ne _ _ hk, ?_⟩
    · exact (pt_of_base rfl).trans hpt
    · exact ((((State.setReg_frame s _ _).mono rfl : Frame 0xC s _).trans ((State.rebase_frame _).mono rfl)).trans (upd_time rfl)).parts (by decide)
  case rateBad =>
    exact (exec_rateCommit hr).trans (next_congr (if_pos hl))
  case adj =>
    obtain ⟨hon, hleft, hpt, hrate, hf⟩ := adjust_slews hs hl hppb h0
    exact ⟨_, exec_ftbAdjWrite hr, hon, hleft, hpt, hrate, hf.parts (by decide)⟩
  case adjCancels =>
    have he := adjust_cancels hs (show (s.slewLeft + v.toInt).natAbs ≤ 2 ^ 30 by rw [h0]; decide) hppb h0 hon
    refine ⟨_, (exec_ftbAdjWrite hr).trans (next_congr he), ?_, ?_, ?_, irqBit_ftb _ (by decide), ?_⟩
    · rw [(State.irqBit_frame ..).time rfl]
    · rw [pt_of_base, (State.irqBit_frame ..).time rfl]
      · rfl
      · rw [(State.irqBit_frame ..).time rfl, (State.irqBit_frame ..).kept rfl]
        rfl
    · rw [(State.irqBit_frame ..).time rfl]
      rfl
    · exact ((((State.rebase_frame s).mono rfl : Frame 0x48004c s _).trans (upd_time rfl)).trans ((State.irqBit_frame ..).mono rfl)).parts (by decide)
  case adjRejected =>
    exact (exec_ftbAdjWrite hr).trans (next_congr (adjust_rejected h))
  case slewDone =>
    have hs : s.time.stepPend = none ∧ s.advanceRaw.slewSpent = true := by simpa [State.slewEnds] using he
    have hsp : s.vaneTick.advanceRaw.slewSpent = true := (slewSpent_vaneTick s).trans hs.2
    have ht : s.ticked = s.vaneTick.advanceRaw.endSlew := by
      unfold State.ticked
      exact if_pos hsp
    have hend : s.ticked.time.slewOn = false ∧ s.ticked.time.slewRem = 0 ∧ s.ticked.time.rate = s.time.rate := by
      rw [ht, endSlew_time, advanceRaw_time]
      exact ⟨rfl, rfl, rfl⟩
    obtain ⟨hon, hrem, hrate⟩ := hend
    refine ⟨s.cycle, next_congr (if_pos he), ?_, ?_, ?_, cycle_raw s, (cycle_noStep_frame hs.1).parts (by decide)⟩
    all_goals rw [cycle_noStep_time hs.1]
    · exact hon
    · exact hrem
    · exact hrate
  case step =>
    have hc := cycle_step hp
    have htime := makeStep_time s.vaneTick.advanceRaw s v epoch
    obtain ⟨hstat, hirq⟩ := makeStep_marks s.vaneTick.advanceRaw s v epoch
    rw [advanceRaw_time] at htime
    refine ⟨?_, ?_, ?_, ?_, ?_, cycle_raw s, by rw [hc]; exact hstat, by rw [hc]; exact hirq⟩
    · rw [hc, pt_of_base, htime]
      rw [htime, makeStep_kept]
    all_goals rw [hc, htime]

end Sys2Proof.Machine
end

section
/-! The Ethernet equipment clock (R316, R317). -/

namespace Sys2Proof.Machine

open Sys2Proof

/-! ## Qualification -/

theorem eec_put (s : State) (k v : Nat) {hi lo : Nat} (h : k ≠ pgFTB1 + 0x044 ∨ 1 < lo) : (s.put k hi lo v).eec = s.eec := by
  by_cases hk : k = pgFTB1 + 0x044
  · subst hk
    exact fld_put_other s _ v (by decide) (.inl (h.resolve_left (by simp)))
  · exact fld_put_ne s _ _ _ _ _ (Ne.symm hk)

theorem eecOnSec_put (s : State) (v : Nat) {hi lo : Nat} (h : 2 < lo) : (s.put (pgFTB1 + 0x044) hi lo v).eecOnSec = s.eecOnSec := by
  unfold State.eecOnSec
  rw [fld_put_other s _ v (by decide) (.inl h)]

theorem eecEnable_put (s : State) (hi lo v : Nat) : (s.put (pgFTB1 + 0x044) hi lo v).eecEnable = s.eecEnable := by
  unfold State.eecEnable
  rw [fld_put_ne s _ _ _ _ _ (by decide)]

/-- What qualifies an input leaves the EEC's state, its input and its ENABLE. -/
theorem eecAcquire_of_disabled {s : State} (h : s.eecEnable = false) : s.eecAcquire = s := by
  unfold State.eecAcquire
  rw [if_neg fun c => by rw [h] at c; exact absurd c.2.1 (by decide)]

theorem eecAcquire_of_running {s : State} (h : s.eec ≠ 0) : s.eecAcquire = s := if_neg fun c => h c.1

/-- A primary that qualifies in FREE_RUN. -/
theorem exec_qualify_primary {freq : W32} {s u : State} (hl : s.hasSignal (s.fld (pgFTB1 + 0x040) 5 0) = true)
    (hb : freq.toInt.natAbs ≤ 5057753) (he : s.eec = 0)
    (hu : u = { s.put (pgFTB1 + 0x044) 3 3 1 with time := { s.time with freqPri := freq, qualAt := if s.fld (pgFTB1 + 0x044) 3 3 = 1 then s.time.qualAt else s.fullRaw } }) :
    exec (.eecInputQualify false freq) s = .next u.eecAcquire := by
  have hz : u.eec = 0 := by rw [hu]; exact (eec_put s _ _ (.inr (by decide))).trans he
  rw [hu] at hz
  show execEecInputQualify false freq s = _
  simp only [execEecInputQualify, Bool.false_eq_true, if_false]
  rw [if_pos ⟨hl, hb⟩, if_neg fun c => c.1 hz, hu]
  rfl

theorem exec_qualify_tracked {freq : W32} {s : State} (hl : s.hasSignal (s.fld (pgFTB1 + 0x040) 13 8) = true)
    (hb : freq.toInt.natAbs ≤ 5057753) (he : s.eec ≠ 0) (ho : s.eecOnSec = false) :
    exec (.eecInputQualify true freq) s = .next { s.put (pgFTB1 + 0x044) 4 4 1 with time := { s.time with freqSec := freq } } := by
  let u : State := { s.put (pgFTB1 + 0x044) 4 4 1 with time := { s.time with freqSec := freq } }
  have h1 : u.eecOnSec = false := (eecOnSec_put s _ (by decide)).trans ho
  have h2 : u.eec ≠ 0 := fun c => he ((eec_put s _ _ (.inr (by decide))).symm.trans c)
  show execEecInputQualify true freq s = _
  simp only [execEecInputQualify, if_true]
  rw [if_pos ⟨hl, hb⟩, if_neg fun c => absurd (h1.symm.trans c.2) (by decide)]
  exact next_congr (eecAcquire_of_running h2)

/-- FREE_RUN, enabled, with a qualified primary: ACQUIRING on it. -/
theorem eecAcquire_primary {u : State} (he : u.eec = 0) (hn : u.eecEnable = true) (hi : u.inputOk false = true) :
    u.eecAcquire = ((u.put (pgFTB1 + 0x044) 1 0 1).put (pgFTB1 + 0x044) 2 2 0).setReg (pgFTB1 + 0x048) u.time.freqPri := by
  unfold State.eecAcquire
  rw [if_pos ⟨he, hn, .inl hi⟩, hi]
  rfl

/-- One input's bit of FTB_EEC_STAT leaves the tracked one. -/
theorem disqualified_onSec (s : State) (sec : Bool) :
    (if sec then s.put (pgFTB1 + 0x044) 4 4 0 else s.put (pgFTB1 + 0x044) 3 3 0 : State).eecOnSec = s.eecOnSec := by
  cases sec
  · exact eecOnSec_put s _ (by decide)
  · exact eecOnSec_put s _ (by decide)

theorem disqualified_eec (s : State) (sec : Bool) :
    (if sec then s.put (pgFTB1 + 0x044) 4 4 0 else s.put (pgFTB1 + 0x044) 3 3 0 : State).eec = s.eec := by
  cases sec
  · exact eec_put s _ _ (.inr (by decide))
  · exact eec_put s _ _ (.inr (by decide))

theorem disqualified_held (s : State) (sec : Bool) :
    (if sec then s.put (pgFTB1 + 0x044) 4 4 0 else s.put (pgFTB1 + 0x044) 3 3 0 : State).nsSinceFull
      (if sec then s.put (pgFTB1 + 0x044) 4 4 0 else s.put (pgFTB1 + 0x044) 3 3 0 : State).time.lockAt = s.nsSinceFull s.time.lockAt := by
  cases sec <;> rfl

theorem exec_disqualify_held {sec : Bool} {s : State} (ho : s.eecOnSec = sec) (he : s.eec = 2)
    (ht : 10000000000 ≤ s.nsSinceFull s.time.lockAt) : exec (.eecInputDisqualify sec) s =
      .next (((if sec then s.put (pgFTB1 + 0x044) 4 4 0 else s.put (pgFTB1 + 0x044) 3 3 0).put (pgFTB1 + 0x044) 1 0 3).raise pgFTB 1) := by
  have hs := disqualified_eec s sec
  have hh := disqualified_held s sec
  show execEecInputDisqualify sec s = _
  simp only [execEecInputDisqualify]
  rw [if_pos ((disqualified_onSec s sec).trans ho), State.eecLose, if_neg (by omega), if_pos (by omega), if_pos (by omega)]
  rfl

/-! ## LOCKED, and ENABLE written 0 -/

theorem eecLockOn_eq (s u : State) (sec : Bool)
    (hu : u = (((s.put (pgFTB1 + 0x044) 1 0 2).put (pgFTB1 + 0x044) 2 2 (b2n sec)).setReg (pgFTB1 + 0x048)
       (if sec then s.time.freqSec else s.time.freqPri)).irqBit pgFTB 3) :
    s.eecLockOn sec = ({ u with time := { u.time with lockAt := s.fullRaw } } : State).qrefFollow true := by rw [hu]; rfl

theorem bitsOf_clear31 (s : State) {hi : Nat} (lo : Nat) (h : hi < 31) :
    bitsOf ((s.put (pgFTB1 + 0x040) 31 31 0).reg (pgFTB1 + 0x040)) hi lo = s.fld (pgFTB1 + 0x040) hi lo :=
  fld_put_other s _ _ (by omega) (.inl h)

theorem bit_clear31 (s : State) : bit ((s.put (pgFTB1 + 0x040) 31 31 0).reg (pgFTB1 + 0x040)) 31 = false := by
  rw [reg_put_self]
  exact bit_putFld_self _ (by decide) false

theorem fld_bit_self (s : State) (k n : Nat) : b2n (decide (s.fld k n n = 1)) = s.fld k n n := by
  have h : s.fld k n n < 2 := by
    unfold State.fld bitsOf
    rw [show n + 1 - n = 1 by omega]
    exact Nat.mod_lt _ (by decide)
  rcases Nat.lt_succ_iff_lt_or_eq.1 h with h | h
  · rw [show s.fld k n n = 0 by omega]
    rfl
  · rw [h]
    rfl

/-- The inputs as ENABLE written 0 leaves them: a secondary of the primary's lane takes its qualification. -/
theorem laneQual_unchanged {s t : State} {same : Bool} (hk : ∀ i, t.fld (pgFTB1 + 0x044) i i = s.fld (pgFTB1 + 0x044) i i) (ht : t.time = s.time)
    (hs : same = decide (s.fld (pgFTB1 + 0x040) 13 8 = s.fld (pgFTB1 + 0x040) 5 0)) :
    t.laneQual (s.reg (pgFTB1 + 0x040)) (s.fld (pgFTB1 + 0x040) 5 0) = (decide (s.fld (pgFTB1 + 0x044) 3 3 = 1), s.time.freqPri)
    ∧ t.laneQual (s.reg (pgFTB1 + 0x040)) (s.fld (pgFTB1 + 0x040) 13 8)
      = (decide ((if same then s.fld (pgFTB1 + 0x044) 3 3 else s.fld (pgFTB1 + 0x044) 4 4) = 1), if same then s.time.freqPri else s.time.freqSec) := by
  unfold State.laneQual
  rw [hk, hk, ht]
  constructor
  · exact if_pos rfl
  · by_cases hc : s.fld (pgFTB1 + 0x040) 13 8 = s.fld (pgFTB1 + 0x040) 5 0
    · rw [hs, decide_eq_true hc]
      exact if_pos hc
    · rw [hs, decide_eq_false hc]
      exact (if_neg hc).trans (if_pos rfl)

theorem b2n_samePut (s : State) (same : Bool) :
    b2n (decide ((if same then s.fld (pgFTB1 + 0x044) 3 3 else s.fld (pgFTB1 + 0x044) 4 4) = 1))
      = if same then s.fld (pgFTB1 + 0x044) 3 3 else s.fld (pgFTB1 + 0x044) 4 4 := by
  cases same
  · exact fld_bit_self s _ _
  · exact fld_bit_self s _ _

theorem exec_eecDisable {s u : State} {same : Bool} (hr : s.reaches (pgFTB1 + 0x040) = true) (he : s.eec ≠ 0)
    (hs : same = decide (s.fld (pgFTB1 + 0x040) 13 8 = s.fld (pgFTB1 + 0x040) 5 0))
    (hu : u = ((s.put (pgFTB1 + 0x040) 31 31 0).put (pgFTB1 + 0x044) 3 3 (s.fld (pgFTB1 + 0x044) 3 3)).put (pgFTB1 + 0x044) 4 4
       (if same then s.fld (pgFTB1 + 0x044) 3 3 else s.fld (pgFTB1 + 0x044) 4 4)) :
    exec .eecDisable s = .next ((({ u with time := { u.time with freqSec := if same then s.time.freqPri else s.time.freqSec } } : State).put
       (pgFTB1 + 0x044) 1 0 0).qrefFollow false) := by
  obtain ⟨hp, hc⟩ := laneQual_unchanged (t := s.put (pgFTB1 + 0x040) 31 31 0) (fun i => fld_put_ne s _ _ _ _ _ (by decide)) rfl hs
  have hz : u.eec = s.eec := by
    rw [hu, eec_put _ _ _ (.inr (by decide)), eec_put _ _ _ (.inr (by decide)), eec_put _ _ _ (.inl (by decide))]
  show execEecDisable s = _
  unfold execEecDisable
  rw [access_reaches _ hr]
  simp only [State.eecReconfig]
  rw [bit_clear31, if_pos rfl, bitsOf_clear31 s 0 (by decide), bitsOf_clear31 s 8 (by decide), hp, hc]
  simp only [fld_bit_self, b2n_samePut]
  simp only [← hu, show bitsOf (s.reg (pgFTB1 + 0x040)) 5 0 = s.fld (pgFTB1 + 0x040) 5 0 from rfl, if_true]
  refine next_congr ((if_neg fun c => he (hz.symm.trans c)).trans ?_)
  rw [hu]
  rfl

/-- Settles O16, event by event, through what each state of the EEC does. -/
theorem synce : Obligations.Synce := by
  unfold Obligations.Synce
  refine ⟨?_, fun _ _ => exec_qualify_tracked, ?_, ?_, fun _ _ => exec_disqualify_held, ?_, ?_, ?_, fun _ _ _ => exec_eecDisable⟩
  · intro freq s hl hb he hn
    rw [exec_qualify_primary hl hb he rfl]
    exact next_congr (eecAcquire_of_disabled ((eecEnable_put s ..).trans hn))
  · intro freq s u hl hb he hn hu
    rw [exec_qualify_primary hl hb he hu, eecAcquire_primary _ _ _]
    · rw [hu]
    · rw [hu]; exact (eec_put s _ _ (.inr (by decide))).trans he
    · rw [hu]; exact (eecEnable_put s ..).trans hn
    · rw [hu]; exact decide_eq_true (fld_put_self s _ _ _ (by decide))
  · intro sec s ho
    show execEecInputDisqualify sec s = _
    simp only [execEecInputDisqualify]
    rw [if_neg fun c => by rw [disqualified_onSec, ho] at c; cases sec <;> exact absurd c (by decide)]
  · intro s u he hi hu
    show execEecLock s = _
    rw [execEecLock, if_pos ⟨he, hi⟩, eecLockOn_eq s u _ hu]
  · intro s u he ho hi hc hu
    show execEecRevert s = _
    rw [execEecRevert, if_pos ⟨he, ho, hi, hc⟩, eecLockOn_eq s u false hu]
  · intro sec on s u he hi ho hu
    show execEecHoldoverExit sec s = _
    rw [execEecHoldoverExit, if_pos ⟨he, hi⟩, ← ho, eecLockOn_eq s u on hu]

end Sys2Proof.Machine
end

section
/-! Writes of memory (R22, R165, R169, R171, R172, R189, R190). -/

namespace Sys2Proof.Machine

open Sys2Proof

theorem Frame.mem {m : Nat} {s t : State} (h : Frame m s t) (hm : m.testBit 18 = false) : t.mem = s.mem := h.same .mem hm

/-! ## Bytes of words and lines -/

theorem bytesLE_getD {n i : Nat} (v : Nat) (h : i < n) : (bytesLE n v).getD i 0 = BitVec.ofNat 8 (v / 256 ^ i) := by
  induction n generalizing v i with
  | zero => omega
  | succ n ih =>
    cases i with
    | zero => simp [bytesLE]
    | succ i =>
      rw [bytesLE, List.getD_cons_succ, ih _ (by omega), Nat.div_div_eq_div_mul, Nat.pow_succ, Nat.mul_comm]

/-- Byte j of word i of a line is byte 8 i + j of the line. -/
theorem lineWord_byte (data : W512) {i j : Nat} (h : j < 8) :
    (bytesLE 8 (lineWord data i).toNat).getD j 0 = (data >>> (8 * (8 * i + j))).setWidth 8 := by
  rw [bytesLE_getD _ h]
  refine BitVec.eq_of_getLsbD_eq fun n hn => ?_
  have hd : (lineWord data i).toNat / 256 ^ j = (lineWord data i).toNat >>> (8 * j) := by
    rw [Nat.shiftRight_eq_div_pow, Nat.pow_mul]
  rw [hd, BitVec.getLsbD_ofNat, Nat.testBit_shiftRight, ← BitVec.getLsbD, lineWord, BitVec.getLsbD_extractLsb', BitVec.getLsbD_setWidth,
    BitVec.getLsbD_ushiftRight]
  simp only [hn, decide_true, Bool.true_and, show 8 * j + n < 64 by omega]
  rw [show 64 * i + (8 * j + n) = 8 * (8 * i + j) + n by omega]

theorem wordMask_ones : ∀ i < 8, wordMask (BitVec.allOnes 64) i = 255 := by decide

theorem bit_zero8 (i : Nat) : bit (0 : W8) i = false := by simp [bit]

/-- A word all of whose bytes are new. -/
theorem mergeBytes_full (old new : W64) : mergeBytes old new 255 = new := by
  have hb : ∀ i ∈ List.range 8, (if (255 : Nat).testBit i then (new >>> (8 * i)).setWidth 8 else (old >>> (8 * i)).setWidth 8 : W8)
      = BitVec.ofNat 8 (new.toNat / 256 ^ i) := fun i hi => by
    rw [if_pos ((by decide : ∀ i ∈ List.range 8, (255 : Nat).testBit i = true) i hi)]
    refine BitVec.eq_of_toNat_eq ?_
    rw [BitVec.toNat_setWidth, BitVec.toNat_ushiftRight, BitVec.toNat_ofNat, Nat.shiftRight_eq_div_pow, Nat.pow_mul]
  have hl : (List.range 8).map (fun i => BitVec.ofNat 8 (new.toNat / 256 ^ i)) = bytesLE 8 new.toNat := by
    refine List.ext_getElem (by simp) fun i h1 h2 => ?_
    have h3 := bytesLE_getD new.toNat (show i < 8 by simpa using h1)
    rw [List.getElem_map, List.getElem_range, ← h3, List.getD_eq_getElem _ _ h2]
  unfold mergeBytes
  rw [List.map_congr_left hb, hl, natLE_bytesLE, Nat.mod_eq_of_lt (show new.toNat < 256 ^ 8 from new.isLt)]
  simp

/-- Over a line, writes that are all answered are the writes one after another. -/
theorem foldl_answered {f : State × Bool → Nat → State × Bool} {g : State → Nat → State} {l : List Nat}
    (h : ∀ t, ∀ i ∈ l, f (t, true) i = (g t i, true)) (s : State) : l.foldl f (s, true) = (l.foldl g s, true) := by
  induction l generalizing s with
  | nil => rfl
  | cons i l ih =>
    rw [List.foldl_cons, h s i List.mem_cons_self, ih fun t j hj => h t j (List.mem_cons_of_mem _ hj)]
    rfl

/-! ## Whole lines on the chip -/

/-- A whole word of an on-chip memory. -/
def State.putWord (data : W512) (k : Nat) (s : State) (i : Nat) : State :=
  (s.dropBuffered (memLoc (k + 8 * i)).unit (k + 8 * i)).storeWord (k + 8 * i) (lineWord data i) 0

theorem writeLine_chip {k : Nat} (data : W512) (s : State) (h : isHbm k = false) :
    s.writeLine k data (BitVec.allOnes 64) 0 = ((List.range 8).foldl (State.putWord data k) s, true) := by
  refine foldl_answered (fun t i hi => ?_) s
  have hm := wordMask_ones i (List.mem_range.1 hi)
  simp only [h, hm, bit_zero8, State.writeChip, State.putWord, Bool.false_eq_true, if_false, if_true, Bool.true_eq_false,
    or_self, OfNat.ofNat_ne_zero]

theorem putWord_cell (data : W512) (k : Nat) (s : State) (i j : Nat) : (s.putWord data k i).cell j
    = if k + 8 * i ≤ j ∧ j < k + 8 * (i + 1) then (data >>> (8 * (j - k))).setWidth 8 else s.cell j := by
  have h := tabGet_putBytes s.mem.cells (k + 8 * i) j (bytesLE 8 (lineWord data i).toNat)
  rw [bytesLE_length] at h
  refine h.trans ?_
  by_cases hc : k + 8 * i ≤ j ∧ j < k + 8 * (i + 1)
  · rw [if_pos hc, if_pos (by omega), lineWord_byte _ (by omega), show 8 * i + (j - (k + 8 * i)) = j - k by omega]
  · rw [if_neg hc, if_neg (by omega)]
    rfl

theorem putLine_cell (data : W512) (k n : Nat) (s : State) (j : Nat) : ((List.range n).foldl (State.putWord data k) s).cell j
    = if k ≤ j ∧ j < k + 8 * n then (data >>> (8 * (j - k))).setWidth 8 else s.cell j := by
  induction n with
  | zero => rw [if_neg (by omega)]; rfl
  | succ n ih =>
    rw [List.range_succ, List.foldl_append, List.foldl_cons, List.foldl_nil, putWord_cell, ih]
    grind

theorem putWord_valid (data : W512) (k : Nat) (s : State) (i j : Nat) :
    (s.putWord data k i).isValid j = if j = k + 8 * i then true else s.isValid j :=
  tabGet_set (fun _ => false) s.mem.valid (k + 8 * i) j true

theorem putWord_syndrome (data : W512) (k : Nat) (s : State) (i j : Nat) :
    (s.putWord data k i).syndrome j = if j = k + 8 * i then 0 else s.syndrome j :=
  tabGet_set zero8 s.mem.ecc (k + 8 * i) j 0

/-- Every word of a stored line is valid and clean. -/
theorem putLine_words (data : W512) (k n : Nat) (s : State) {i : Nat} (hi : i < n) :
    ((List.range n).foldl (State.putWord data k) s).isValid (k + 8 * i) = true
    ∧ ((List.range n).foldl (State.putWord data k) s).syndrome (k + 8 * i) = 0 := by
  induction n with
  | zero => omega
  | succ n ih =>
    rw [List.range_succ, List.foldl_append, List.foldl_cons, List.foldl_nil]
    rcases Nat.lt_succ_iff_lt_or_eq.1 hi with h | rfl
    · obtain ⟨hv, hs⟩ := ih h
      rw [putWord_valid, putWord_syndrome, if_neg (by omega), if_neg (by omega)]
      exact ⟨hv, hs⟩
    · rw [putWord_valid, putWord_syndrome, if_pos rfl, if_pos rfl]
      exact ⟨rfl, rfl⟩

theorem putLine_frame (data : W512) (k : Nat) (s : State) (l : List Nat) : Frame 0x40000 s (l.foldl (State.putWord data k) s) :=
  Frame.foldl _ _ _ (fun _ _ => (State.storeWord_frame ..).step rfl ((State.dropBuffered_frame ..).mono rfl)) (Frame.refl ..)

/-! ## Whole units of HBM -/

theorem isHbm_of_devMem {s : State} {a o : Nat} (h : s.devMem a = some (.hbm o)) (ha : a < tileDataBase) : isHbm (a - a % 64) = true := by
  unfold State.devMem at h
  have hl : hbmBase ≤ a := by
    by_contra hc
    rw [if_neg (c := hbmBase ≤ a ∧ _) fun x => hc x.1] at h
    dsimp only at h
    split at h
    · split at h
      · simp at h
      · cases h
    · split at h
      · simp at h
      · cases h
  have hb : hbmBase ≤ a - a % 64 := by
    have hm : hbmBase % 64 = 0 := by decide
    generalize hbmBase = b at hm hl ⊢
    omega
  unfold isHbm
  rw [Bool.and_eq_true]
  exact ⟨decide_eq_true hb, decide_eq_true ((Nat.sub_le ..).trans_lt ha)⟩

/-- A request of the device for an HBM domain that is awake. -/
theorem spaceCheck_hbm {s : State} {a o : Nat} (who : Requester) (h : s.devMem a = some (.hbm o)) (hs : (s.slot (3 + (s.hbmMap o).1)).st < 2) :
    s.spaceCheck .device who a = (s, true) := by
  unfold State.spaceCheck State.devCheck
  simp only [h]
  rw [if_neg (by simp [State.fencedOff]), State.wakeDomain, if_neg (by omega)]

theorem parityRetries_none (s : State) (n : Nat) {p : Parity} (ca : Parity) (h : p.val = 0) : s.parityRetries n p ca = (s, true) := by
  unfold State.parityRetries
  simp [h]

/-- A whole word of a unit of HBM. -/
def State.putHbmWord (data : W512) (k : Nat) (s : State) (i : Nat) : State := (s.writeHbm (k + 8 * i) (lineWord data i) 255 0 true).1

theorem writeLine_hbm {k : Nat} (data : W512) (s : State) (h : isHbm k = true) :
    s.writeLine k data (BitVec.allOnes 64) 0 = ((List.range 8).foldl (State.putHbmWord data k) s, true) := by
  refine foldl_answered (fun t i hi => ?_) s
  have hm := wordMask_ones i (List.mem_range.1 hi)
  simp only [h, hm, bit_zero8, State.putHbmWord, Bool.false_eq_true, if_false, if_true, Bool.true_eq_false, or_self,
    OfNat.ofNat_ne_zero, decide_true]
  simp [State.writeHbm]

theorem tabGet_putHbm (m : Tab (Option W8)) (k j : Nat) (bs : Bytes) :
    tabGet (fun _ => none) (putHbm m k bs) j = if k ≤ j ∧ j < k + bs.length then some (bs.getD (j - k) 0) else tabGet (fun _ => none) m j := by
  induction bs generalizing m k with
  | nil => rw [putHbm, if_neg]; rintro ⟨h1, h2⟩; exact absurd h2 (Nat.not_lt.2 h1)
  | cons b bs ih =>
    rw [putHbm, ih, tabGet_set, List.length_cons]
    rcases Nat.lt_trichotomy j k with h | rfl | h
    · rw [if_neg (by omega), if_neg (Nat.ne_of_lt h), if_neg (by omega)]
    · rw [if_neg (by omega), if_pos rfl, if_pos (by omega), Nat.sub_self]; rfl
    · obtain ⟨n, rfl⟩ := Nat.exists_eq_add_of_lt h
      rw [show k + n + 1 - k = n + 1 by omega, show k + n + 1 - (k + 1) = n by omega, List.getD_cons_succ,
        if_neg (show ¬ k + n + 1 = k by omega)]
      exact ite_congr (propext (by omega)) (fun _ => rfl) fun _ => rfl

theorem hbmByteAt_congr {s t : State} {j : Nat} (h : tabGet (fun _ => none) t.mem.hbm j = tabGet (fun _ => none) s.mem.hbm j)
    (hg : t.mem.hbmGen = s.mem.hbmGen) : t.hbmByteAt j = s.hbmByteAt j := by
  unfold State.hbmByteAt
  rw [h, hg]

/-- What a whole word of HBM leaves in memory. -/
theorem putHbmWord_mem (data : W512) (k : Nat) (s : State) (i : Nat) :
    (s.putHbmWord data k i).mem.hbm = putHbm s.mem.hbm (k + 8 * i) (bytesLE 8 (lineWord data i).toNat)
    ∧ (s.putHbmWord data k i).mem.hbmPoison = tabSet (fun _ => false) s.mem.hbmPoison (k + 8 * i) false := by
  unfold State.putHbmWord State.writeHbm
  rw [if_neg fun c => absurd c.1 (by decide), mergeBytes_full]
  dsimp only
  exact ⟨rfl, rfl⟩

theorem putHbmWord_byte (data : W512) (k : Nat) (s : State) (i j : Nat) : (s.putHbmWord data k i).hbmByteAt j
    = if k + 8 * i ≤ j ∧ j < k + 8 * (i + 1) then (data >>> (8 * (j - k))).setWidth 8 else s.hbmByteAt j := by
  have h := tabGet_putHbm s.mem.hbm (k + 8 * i) j (bytesLE 8 (lineWord data i).toNat)
  rw [bytesLE_length, ← (putHbmWord_mem data k s i).1] at h
  by_cases hc : k + 8 * i ≤ j ∧ j < k + 8 * (i + 1)
  · rw [if_pos (by omega), lineWord_byte _ (by omega), show 8 * i + (j - (k + 8 * i)) = j - k by omega] at h
    rw [if_pos hc, State.hbmByteAt, h]
  · rw [if_neg (by omega)] at h
    rw [if_neg hc]
    exact hbmByteAt_congr h rfl

theorem putUnit_byte (data : W512) (k n : Nat) (s : State) (j : Nat) : ((List.range n).foldl (State.putHbmWord data k) s).hbmByteAt j
    = if k ≤ j ∧ j < k + 8 * n then (data >>> (8 * (j - k))).setWidth 8 else s.hbmByteAt j := by
  induction n with
  | zero => rw [if_neg (by omega)]; rfl
  | succ n ih =>
    rw [List.range_succ, List.foldl_append, List.foldl_cons, List.foldl_nil, putHbmWord_byte, ih]
    grind

/-! ## Marks of HBM -/

/-- The entry n of the tables of retired rows. -/
def State.remapEntry (s : State) (n : Nat) : Remap := tabGet remapDflt s.mem.remap n

/-- What writes of whole words do to the marks of HBM: the rows stay retired, and no mark is set. -/
structure Unmarks (s t : State) : Prop where
  regs : t.regs = s.regs
  row : ∀ n, (t.remapEntry n).valid = (s.remapEntry n).valid ∧ (t.remapEntry n).pch = (s.remapEntry n).pch
    ∧ (t.remapEntry n).bank = (s.remapEntry n).bank ∧ (t.remapEntry n).row = (s.remapEntry n).row
  unit : ∀ n m, bit (t.remapEntry n).poison m = true → bit (s.remapEntry n).poison m = true
  word : ∀ k, tabGet (fun _ => false) t.mem.hbmPoison k = true → tabGet (fun _ => false) s.mem.hbmPoison k = true

theorem hbmMap_congr {s t : State} (h : t.regs = s.regs) (o : Nat) : t.hbmMap o = s.hbmMap o := by
  unfold State.hbmMap State.hbmUse State.hbmCap State.fld
  simp only [reg_of_regs h]

theorem Unmarks.remapOf {s t : State} (h : Unmarks s t) (o : Nat) : t.remapOf o = s.remapOf o := by
  have hp (n : Nat) : (tabGet remapDflt t.mem.remap n).valid = (tabGet remapDflt s.mem.remap n).valid
    ∧ (tabGet remapDflt t.mem.remap n).pch = (tabGet remapDflt s.mem.remap n).pch
    ∧ (tabGet remapDflt t.mem.remap n).bank = (tabGet remapDflt s.mem.remap n).bank
    ∧ (tabGet remapDflt t.mem.remap n).row = (tabGet remapDflt s.mem.remap n).row := h.row n
  unfold State.remapOf State.hbmRowOf State.fld
  simp only [hbmMap_congr h.regs, reg_of_regs h.regs, hp]

theorem hbmBad_iff (s : State) (k : Nat) : s.hbmBad k = true ↔ tabGet (fun _ => false) s.mem.hbmPoison k = true
    ∨ ∃ i, s.remapOf (k - hbmBase) = some i ∧ bit (s.remapEntry i).poison (hbmUnitOf (s.hbmMap (k - hbmBase)).2) = true := by
  unfold State.hbmBad State.remapEntry
  rw [Bool.or_eq_true]
  cases s.remapOf (k - hbmBase) with
  | none => simp
  | some i => simp

theorem Unmarks.bad {s t : State} (h : Unmarks s t) {k : Nat} (hk : t.hbmBad k = true) : s.hbmBad k = true := by
  rw [hbmBad_iff, h.remapOf, hbmMap_congr h.regs] at hk
  refine (hbmBad_iff s k).2 (hk.imp (h.word k) fun ⟨i, hi, hb⟩ => ⟨i, hi, h.unit i _ hb⟩)

/-- The row's entry with the mark of unit u taken away. -/
def Remap.unmark (e : Remap) (u : Nat) : Remap := { e with poison := putFld e.poison u u 0 }

theorem hbmUnitOf_lt (x : Nat) : hbmUnitOf x < 16 := Nat.mod_lt _ (by decide)

theorem Remap.unmark_bit (e : Remap) {u : Nat} (h : u < 16) (m : Nat) : bit (e.unmark u).poison m = (decide (m ≠ u) && bit e.poison m) := by
  unfold bit Remap.unmark
  by_cases hm : m < 16
  · rw [putFld_getLsbD _ _ _ _ _ hm]
    by_cases hn : m = u
    · subst hn
      simp
    · rw [if_neg (by omega)]
      simp [hn]
  · simp [BitVec.getLsbD_of_ge _ _ (Nat.le_of_not_lt hm)]

/-- The entries of retired rows after a whole word: its unit's mark goes. -/
theorem putHbmWord_remap (data : W512) (k : Nat) (s : State) (i n : Nat) : (s.putHbmWord data k i).remapEntry n =
    if s.remapOf (k + 8 * i - hbmBase) = some n then (s.remapEntry n).unmark (hbmUnitOf (s.hbmMap (k + 8 * i - hbmBase)).2)
    else s.remapEntry n := by
  unfold State.putHbmWord State.writeHbm State.remapEntry
  rw [if_neg fun c => absurd c.1 (by decide)]
  dsimp only
  cases s.remapOf (k + 8 * i - hbmBase) with
  | none => rfl
  | some j =>
    simp only [if_true, tabGet_set, Option.some.injEq]
    by_cases hj : n = j
    · subst hj
      simp [Remap.unmark]
    · rw [if_neg hj, if_neg (Ne.symm hj)]

theorem putHbmWord_regs (data : W512) (k : Nat) (s : State) (i : Nat) : (s.putHbmWord data k i).regs = s.regs := by
  unfold State.putHbmWord State.writeHbm
  rw [if_neg fun c => absurd c.1 (by decide)]

theorem putHbmWord_unmarks (data : W512) (k : Nat) (s : State) (i : Nat) : Unmarks s (s.putHbmWord data k i) where
  regs := putHbmWord_regs ..
  row n := by
    rw [putHbmWord_remap]
    split <;> exact ⟨rfl, rfl, rfl, rfl⟩
  unit n m h := by
    rw [putHbmWord_remap] at h
    split at h
    · rw [Remap.unmark_bit _ (hbmUnitOf_lt _), Bool.and_eq_true] at h
      exact h.2
    · exact h
  word j h := by
    rw [(putHbmWord_mem data k s i).2, tabGet_set] at h
    split at h
    · cases h
    · exact h

/-- The word written stands unmarked. -/
theorem putHbmWord_good (data : W512) (k : Nat) (s : State) (i : Nat) : (s.putHbmWord data k i).hbmBad (k + 8 * i) = false := by
  rw [Bool.eq_false_iff, Ne, hbmBad_iff, (putHbmWord_unmarks ..).remapOf, hbmMap_congr (putHbmWord_regs ..)]
  rintro (h | ⟨n, hn, h⟩)
  · rw [(putHbmWord_mem data k s i).2, tabGet_set_self] at h
    cases h
  · rw [putHbmWord_remap, if_pos hn, Remap.unmark_bit _ (hbmUnitOf_lt _)] at h
    simp at h

theorem putUnit_good (data : W512) (k n : Nat) (s : State) {i : Nat} (hi : i < n) :
    ((List.range n).foldl (State.putHbmWord data k) s).hbmBad (k + 8 * i) = false := by
  induction n with
  | zero => omega
  | succ n ih =>
    rw [List.range_succ, List.foldl_append, List.foldl_cons, List.foldl_nil]
    rcases Nat.lt_succ_iff_lt_or_eq.1 hi with h | rfl
    · rw [Bool.eq_false_iff]
      exact fun hc => Bool.eq_false_iff.1 (ih h) ((putHbmWord_unmarks ..).bad hc)
    · exact putHbmWord_good ..

theorem putUnit_regs (data : W512) (k : Nat) (l : List Nat) (s : State) : (l.foldl (State.putHbmWord data k) s).regs = s.regs := by
  induction l generalizing s with
  | nil => rfl
  | cons i l ih => rw [List.foldl_cons, ih, putHbmWord_regs]

/-! ## A partial write of an uncorrectable unit -/

theorem tabGet_foldl_set {l : List Nat} {f : Nat → Nat} {m : Tab Bool} {j : Nat} (h : j ∈ l.map f ∨ tabGet (fun _ => false) m j = true) :
    tabGet (fun _ => false) (l.foldl (fun t i => tabSet (fun _ => false) t (f i) true) m) j = true := by
  induction l generalizing m with
  | nil => exact h.resolve_left (by simp)
  | cons i l ih =>
    refine ih ?_
    rw [tabGet_set]
    rcases h with h | h
    · rcases List.mem_cons.1 h with h | h
      · exact .inr (if_pos h)
      · exact .inl h
    · refine .inr ?_
      split
      · rfl
      · exact h

theorem partialRead_two (s : State) (k : Nat) : s.partialRead k 2 = (((s.markUnit k).raise (pgHBMC (s.hbmMap (k - hbmBase)).1) 4).captureUe
    (pgHBMC (s.hbmMap (k - hbmBase)).1) 0 (k - k % 64) 0 2, false) := by
  unfold State.partialRead
  rw [if_pos rfl]

theorem partialRead_two_mem (s : State) (k : Nat) : (s.partialRead k 2).1.mem = (s.markUnit k).mem := by
  rw [partialRead_two]
  exact ((State.captureUe_frame ..).mem rfl).trans ((State.raise_frame ..).mem rfl)

/-- The marks of a unit that read uncorrectable. -/
theorem markUnit_word (s : State) {k i : Nat} (h : k % 64 = 0) (hi : i < 8) :
    tabGet (fun _ => false) (s.markUnit k).mem.hbmPoison (k + 8 * i) = true := by
  have hm : k + 8 * i ∈ (List.range 8).map (fun i => k - k % 64 + 8 * i) := List.mem_map.2 ⟨i, List.mem_range.2 hi, by rw [h]; rfl⟩
  unfold State.markUnit
  generalize List.range 8 = l at hm ⊢
  exact tabGet_foldl_set (.inl hm)

/-- The words of a unit that read uncorrectable stay marked. -/
theorem partialRead_two_bad (s : State) {k i : Nat} (h : k % 64 = 0) (hi : i < 8) : (s.partialRead k 2).1.hbmBad (k + 8 * i) = true := by
  rw [hbmBad_iff]
  refine .inl ?_
  rw [partialRead_two_mem]
  exact markUnit_word s h hi

/-! ## The commands -/

theorem exec_memoryWrite {sp : MemSpace} {a : W64} (data : W512) (be : W64) (po : W8) {who : Requester} (x : Meets) {s : State} {k : Nat}
    (hk : spaceAddr sp (a.toNat - a.toNat % 64) = some k) (hc : s.spaceCheck sp who a.toNat = (s, true)) :
    exec (.memoryWrite sp a data be po who x) s = .next (
      if (if isHbm k then s.hbmBefore k be x.par x.ca x.rd else (s, true)).2 then
        ((if isHbm k then s.hbmBefore k be x.par x.ca x.rd else (s, true)).1.writeLine k data be po).1.memAnswer 0 false
          (!((if isHbm k then s.hbmBefore k be x.par x.ca x.rd else (s, true)).1.writeLine k data be po).2)
      else (if isHbm k then s.hbmBefore k be x.par x.ca x.rd else (s, true)).1.memAnswer 0 false true) := by
  show execMemoryWrite sp a data be po who x s = _
  unfold execMemoryWrite
  simp only [hk, hc]

/-- A whole line of an on-chip memory. -/
theorem exec_memoryWrite_line {sp : MemSpace} {a : W64} (data : W512) {who : Requester} (x : Meets) {s : State} {k : Nat}
    (hk : spaceAddr sp (a.toNat - a.toNat % 64) = some k) (hc : s.spaceCheck sp who a.toNat = (s, true)) (hh : isHbm k = false) :
    ∃ u : State, exec (.memoryWrite sp a data (BitVec.allOnes 64) 0 who x) s = .next (u.memAnswer 0 false false)
      ∧ (∀ j, u.cell j = if k ≤ j ∧ j < k + 64 then (data >>> (8 * (j - k))).setWidth 8 else s.cell j)
      ∧ (∀ i < 8, u.isValid (k + 8 * i) = true ∧ u.syndrome (k + 8 * i) = 0) ∧ Frame 0x40000 s u := by
  refine ⟨_, ?_, putLine_cell data k 8 s, fun i hi => putLine_words data k 8 s hi, putLine_frame ..⟩
  rw [exec_memoryWrite _ _ _ _ hk hc]
  simp only [hh, Bool.false_eq_true, if_false, if_true, writeLine_chip data s hh, Bool.not_true]

/-- A whole unit of HBM. -/
theorem exec_memoryWrite_unit {a : W64} (data : W512) {who : Requester} (x : Meets) {s : State} {k o : Nat}
    (hd : s.devMem a.toNat = some (.hbm o)) (hk : k = a.toNat - a.toNat % 64) (hs : (s.slot (3 + (s.hbmMap o).1)).st < 2) (hp : x.par.val = 0) :
    ∃ u : State, exec (.memoryWrite .device a data (BitVec.allOnes 64) 0 who x) s = .next (u.memAnswer 0 false false) ∧ u.regs = s.regs
      ∧ (∀ j, u.hbmByteAt j = if k ≤ j ∧ j < k + 64 then (data >>> (8 * (j - k))).setWidth 8 else s.hbmByteAt j)
      ∧ (∀ i < 8, u.hbmBad (k + 8 * i) = false) := by
  refine ⟨_, ?_, putUnit_regs data k _ s, putUnit_byte data k 8 s, fun i hi => putUnit_good data k 8 s hi⟩
  have hh : isHbm k = true := by rw [hk]; exact isHbm_of_devMem hd a.isLt
  rw [exec_memoryWrite _ _ _ _ (show spaceAddr .device _ = some k from congrArg some hk.symm) (spaceCheck_hbm who hd hs)]
  simp only [hh, if_true, State.hbmBefore, parityRetries_none s _ _ hp, Bool.true_eq_false, if_false, or_true, writeLine_hbm data s hh, Bool.not_true]

/-- Part of a unit of HBM whose read is uncorrected. -/
theorem exec_memoryWrite_part {a : W64} (data : W512) {be : W64} (po : W8) {who : Requester} {x : Meets} {s : State} {k o : Nat}
    (hd : s.devMem a.toNat = some (.hbm o)) (hk : k = a.toNat - a.toNat % 64) (hs : (s.slot (3 + (s.hbmMap o).1)).st < 2) (hp : x.par.val = 0)
    (h0 : be ≠ 0) (h1 : be ≠ BitVec.allOnes 64) (hr : x.rd.val = 2) :
    ∃ u : State, exec (.memoryWrite .device a data be po who x) s = .next (u.memAnswer 0 false true) ∧ u.mem.hbm = s.mem.hbm
      ∧ ∀ i < 8, u.hbmBad (k + 8 * i) = true := by
  have hh : isHbm k = true := by rw [hk]; exact isHbm_of_devMem hd a.isLt
  have hb : s.hbmBefore k be x.par x.ca x.rd = s.partialRead k 2 := by
    unfold State.hbmBefore
    rw [parityRetries_none s _ _ hp, if_neg (by simp), if_neg (by simp only [h0, h1, or_self, not_false_eq_true]), hr]
  refine ⟨(s.partialRead k 2).1, ?_, by rw [partialRead_two_mem]; rfl, fun i hi => partialRead_two_bad s (by omega) hi⟩
  rw [exec_memoryWrite _ _ _ _ (show spaceAddr .device _ = some k from congrArg some hk.symm) (spaceCheck_hbm who hd hs)]
  simp only [hh, if_true, hb, partialRead_two, Bool.false_eq_true, if_false]

/-- One byte of a line of which nothing is buffered. -/
theorem exec_memoryWrite_byte {sp : MemSpace} {a : W64} (data : W512) {who : Requester} (x : Meets) {s : State} {k : Nat}
    (hk : spaceAddr sp (a.toNat - a.toNat % 64) = some k) (hc : s.spaceCheck sp who a.toNat = (s, true)) (hh : isHbm k = false)
    (ha : k % 64 = 0) (hm : s.mergeLines (memLoc k).unit = []) :
    exec (.memoryWrite sp a data 1 0 who x) s = .next ((s.setMerge (memLoc k).unit
      [MergeLine.join ⟨k, 0, 0, 0⟩ 0 (lineWord data 0) 1 0]).memAnswer 0 false false) := by
  have h0 : wordMask (1 : W64) 0 = 1 := by decide
  have hi : ∀ i ∈ [1, 2, 3, 4, 5, 6, 7], wordMask (1 : W64) i = 0 := by decide
  have hw : s.writeChip k (lineWord data 0) 1 0 = s.setMerge (memLoc k).unit [MergeLine.join ⟨k, 0, 0, 0⟩ 0 (lineWord data 0) 1 0] := by
    unfold State.writeChip
    simp [hm, ha]
  have hl : s.writeLine k data 1 0 = (s.setMerge (memLoc k).unit [MergeLine.join ⟨k, 0, 0, 0⟩ 0 (lineWord data 0) 1 0], true) := by
    simp only [List.forall_mem_cons] at hi
    simp only [State.writeLine, show List.range 8 = [0, 1, 2, 3, 4, 5, 6, 7] from rfl, List.foldl_cons, List.foldl_nil, h0, hi, bit_zero8, hh,
      Nat.mul_zero, Nat.add_zero, hw, Bool.false_eq_true, Bool.true_eq_false, false_or, or_true, if_true, if_false, one_ne_zero]
  rw [exec_memoryWrite _ _ _ _ hk hc]
  simp only [hh, Bool.false_eq_true, if_false, if_true, hl, Bool.not_true]

/-- Settles O20. -/
theorem memoryWrites : Obligations.MemoryWrites := by
  unfold Obligations.MemoryWrites
  refine ⟨?_, ?_, ?_, ?_, ?_, ?_, ?_⟩
  · intro sp a data who par ca rd s k hk hc hh ha
    obtain ⟨u, he, hcell, hword, hf⟩ := exec_memoryWrite_line data ⟨par, ca, rd⟩ hk hc hh
    exact ⟨_, he, hcell, hword, rfl, hf.regs rfl, ((State.memAnswer_frame u ..).step rfl (hf.mono rfl) : Frame 0x3840000 s _).parts rfl⟩
  · intro sp a data who par ca rd s k hk hc hh ha hm
    rw [exec_memoryWrite_byte data _ hk hc hh ha hm]
    rfl
  · intro a data who ca rd par s k o hd hk hs hp
    obtain ⟨u, he, hr, hbyte, hgood⟩ := exec_memoryWrite_unit data (who := who) ⟨par, ca, rd⟩ hd hk hs hp
    exact ⟨_, he, rfl, hr, hbyte, hgood⟩
  · intro a data be po who par ca rd s k o hd hk hs hp h0 h1 hr
    obtain ⟨u, he, hm, hbad⟩ := exec_memoryWrite_part data po (who := who) (x := ⟨par, ca, rd⟩) hd hk hs hp h0 h1 hr
    exact ⟨_, he, rfl, hm, hbad⟩
  · intro d t a data be po who par ca rd s h
    show execMemoryWrite _ _ _ _ _ _ _ _ = _
    unfold execMemoryWrite State.spaceCheck
    simp [h, State.memAnswer]
  · intro sp a ups s k l hk hh hd hl
    show execMergeLineDrain sp a ups s = _
    unfold execMergeLineDrain
    have hn : (isHbm k || (s.devMem a.toNat).isNone && decide (sp = MemSpace.device)) = false := by
      rw [hh, Bool.false_or, Bool.and_eq_false_iff, decide_eq_false_iff_not]
      by_cases h : sp = .device
      · exact .inl (by simpa using hd h)
      · exact .inr h
    simp only [hk, hn, hl, Bool.false_eq_true, if_false]
    rfl
  · intro sp a s k hk hw
    show execEccWriteback sp a s = _
    unfold execEccWriteback
    simp only [hk, hw, if_true]
    rfl

end Sys2Proof.Machine
end

section
/-! The upkeep of memory: clearing, owners, rows, scrubs, kernel loads (R109 to R111, R164, R168, R176 to R191). -/

namespace Sys2Proof.Machine

open Sys2Proof

/-! ## Clearing -/

theorem clearRange_valid (s : State) (u lo len k : Nat) :
    (s.clearRange u lo len).isValid k = if lo ≤ k ∧ k < lo + len then false else s.isValid k := by
  have h := tabGet_drop (fun _ => false) s.mem.valid (fun k => decide (lo ≤ k) && decide (k < lo + len)) k
  simp only [Bool.and_eq_true, decide_eq_true_eq] at h
  exact h

/-- What a clearing leaves: the bytes, and every word outside the range. -/
theorem completes_clear {c : Instr} {s t : State} {u lo len : Nat} (h : exec c s = .next t) (ht : t = s.clearRange u lo len) :
    Completes c s (fun t => OnlyParts [.mem] s t ∧ t.mem.cells = s.mem.cells ∧ ∀ k, t.isValid k
      = if lo ≤ k ∧ k < lo + len then false else s.isValid k) :=
  ⟨t, h, by rw [ht]; exact (State.clearRange_frame ..).parts rfl, by rw [ht]; rfl, fun k => by rw [ht]; exact clearRange_valid ..⟩

theorem clearBank_invalid (s : State) (q b : Nat) {a : Nat} (h : s.isValid a = false) : (s.clearBank q b).isValid a = false := by
  unfold State.clearBank
  rw [clearRange_valid, h]
  exact ite_self _

/-! ## Owners of banks -/

theorem ownerChange_listed (s : State) (q b : Nat) {o n : Nat} (ho : o ≤ 0x40) (hn : n ≤ 0x40) : s.ownerChange q b o n = s := by
  unfold State.ownerChange
  rw [if_neg (by omega), if_neg (by omega)]

theorem ownerOk_iff {n : Nat} : ownerOk n = true ↔ n ≤ 0x40 ∨ n = 0x7F := by simp [ownerOk]

theorem holdOff_slot (s : State) (q b k : Nat) : (s.holdOff q b).slot k = if k = qSlot q (4 + b) then
    { s.slot (qSlot q (4 + b)) with st := 4, entry := .none, waking := false, latched := false } else s.slot k := by
  exact tabGet_set (fun _ => ({} : PowerSlot)) s.power (qSlot q (4 + b)) k
    { s.slot (qSlot q (4 + b)) with st := 4, entry := .none, waking := false, latched := false }

/-- A bank held at OFF. -/
def State.heldOff (s : State) (k : Nat) : Prop := (s.slot k).st = 4 ∧ (s.slot k).entry = .none ∧ (s.slot k).waking = false

theorem holdOff_self (s : State) (q b : Nat) : (s.holdOff q b).heldOff (qSlot q (4 + b)) := by
  have h : (s.holdOff q b).slot (qSlot q (4 + b)) = { s.slot (qSlot q (4 + b)) with st := 4, entry := .none, waking := false, latched := false } :=
    (holdOff_slot ..).trans (if_pos rfl)
  unfold State.heldOff
  rw [h]
  exact ⟨rfl, rfl, rfl⟩

theorem holdOff_other (s : State) (q b : Nat) {k : Nat} (h : k ≠ qSlot q (4 + b)) : (s.holdOff q b).slot k = s.slot k :=
  (holdOff_slot ..).trans (if_neg h)

theorem ownerChange_other (s : State) (q b o n : Nat) {k : Nat} (h : k ≠ qSlot q (4 + b)) : (s.ownerChange q b o n).slot k = s.slot k := by
  unfold State.ownerChange
  split_ifs
  · exact holdOff_other _ q b h
  · rfl
  · rfl

theorem ownerChange_invalid (s : State) (q b o n : Nat) {a : Nat} (h : s.isValid a = false) : (s.ownerChange q b o n).isValid a = false := by
  unfold State.ownerChange
  split_ifs
  · exact clearBank_invalid s q b h
  · exact clearBank_invalid s q b h
  · exact h

/-- The bank a change retires: its words not valid, its slot held at OFF. -/
theorem ownerChange_retires (s : State) (q b : Nat) {o : Nat} (h : o ≠ 0x7F) : (s.ownerChange q b o 0x7F).heldOff (qSlot q (4 + b))
    ∧ ∀ a, cbankAddr q b ≤ a → a < cbankAddr q b + 0x200000 → (s.ownerChange q b o 0x7F).isValid a = false := by
  unfold State.ownerChange
  rw [if_pos ⟨rfl, h⟩]
  refine ⟨holdOff_self .., fun a h1 h2 => ?_⟩
  have hv := clearRange_valid s (12 * q + b) (cbankAddr q b) 0x200000 a
  rw [if_pos ⟨h1, h2⟩] at hv
  exact hv

/-- The owners of one word change one after another: the bank of byte j is retired, whatever the others do. -/
theorem ownerChanges_retire (s : State) (q k : Nat) {j : Nat} (o n : Nat → Nat) (ho : o j ≠ 0x7F) (hn : n j = 0x7F) {m : Nat} (hj : j < m) :
    ((List.range m).foldl (fun t i => t.ownerChange q (4 * k + i) (o i) (n i)) s).heldOff (qSlot q (4 + (4 * k + j)))
    ∧ ∀ a, cbankAddr q (4 * k + j) ≤ a → a < cbankAddr q (4 * k + j) + 0x200000 →
      ((List.range m).foldl (fun t i => t.ownerChange q (4 * k + i) (o i) (n i)) s).isValid a = false := by
  induction m with
  | zero => omega
  | succ m ih =>
    rw [List.range_succ, List.foldl_append, List.foldl_cons, List.foldl_nil]
    rcases Nat.lt_succ_iff_lt_or_eq.1 hj with h | rfl
    · obtain ⟨hs, hv⟩ := ih h
      refine ⟨?_, fun a h1 h2 => ownerChange_invalid _ _ _ _ _ (hv a h1 h2)⟩
      unfold State.heldOff
      rw [ownerChange_other _ _ _ _ _ (by unfold qSlot; omega)]
      exact hs
    · rw [hn]
      exact ownerChange_retires _ q _ ho

theorem ownerChanges_regs (s : State) (q k : Nat) (o n : Nat → Nat) (l : List Nat) :
    (l.foldl (fun t i => t.ownerChange q (4 * k + i) (o i) (n i)) s).regs = s.regs := by
  have h : Frame 0x40300 s (l.foldl (fun t i => t.ownerChange q (4 * k + i) (o i) (n i)) s) :=
    Frame.foldl _ _ _ (fun t i => State.ownerChange_frame t ..) (Frame.refl ..)
  exact h.regs rfl

theorem ownerChanges_listed (s : State) (q k : Nat) {o n : Nat → Nat} {l : List Nat} (h : ∀ i ∈ l, o i ≤ 0x40 ∧ n i ≤ 0x40) :
    l.foldl (fun t i => t.ownerChange q (4 * k + i) (o i) (n i)) s = s := by
  induction l with
  | nil => rfl
  | cons i l ih =>
    obtain ⟨ho, hn⟩ := h i List.mem_cons_self
    rw [List.foldl_cons, ownerChange_listed _ _ _ ho hn]
    exact ih fun j hj => h j (List.mem_cons_of_mem _ hj)

theorem all_ownerOk {v : W32} (h : ∀ i < 4, bitsOf v (8 * i + 7) (8 * i) ≤ 0x40 ∨ bitsOf v (8 * i + 7) (8 * i) = 0x7F) :
    (List.range 4).all (fun j => ownerOk (bitsOf v (8 * j + 7) (8 * j))) = true :=
  List.all_eq_true.2 fun i hi => ownerOk_iff.2 (h i (List.mem_range.1 hi))

/-- A word of owners that R164 lists, of a halted quadrant, changed. -/
theorem exec_bankOwner {q : Quad} {k : Fin3} {v : W32} {s : State} {key : Nat} (hk : key = pgCIST q + 0x040 + 4 * k.val) (hr : s.reaches key = true)
    (hq : s.quadHalted q = true) (hv : ∀ i < 4, bitsOf v (8 * i + 7) (8 * i) ≤ 0x40 ∨ bitsOf v (8 * i + 7) (8 * i) = 0x7F) (hne : v ≠ s.reg key) :
    exec (.bankOwnerWrite q k v) s = .next ((List.range 4).foldl (fun t i => t.ownerChange q (4 * k.val + i)
      (bitsOf (s.reg key) (8 * i + 7) (8 * i)) (bitsOf v (8 * i + 7) (8 * i))) (s.setReg key v)) := by
  subst hk
  show execBankOwnerWrite q k v s = _
  unfold execBankOwnerWrite
  rw [access_reaches _ hr]
  unfold State.writeOwner
  rw [if_neg (by rw [all_ownerOk hv]; decide), if_neg hne, if_neg (by rw [hq]; decide)]

theorem exec_bankOwner_unlisted {q : Quad} {k : Fin3} {v : W32} {s : State} {key j : Nat} (hk : key = pgCIST q + 0x040 + 4 * k.val)
    (hr : s.reaches key = true) (hj : j < 4) (hv : 0x40 < bitsOf v (8 * j + 7) (8 * j)) (hn : bitsOf v (8 * j + 7) (8 * j) ≠ 0x7F) :
    exec (.bankOwnerWrite q k v) s = .next (s.badAccess key) := by
  subst hk
  have hall : (List.range 4).all (fun j => ownerOk (bitsOf v (8 * j + 7) (8 * j))) = false := by
    refine List.all_eq_false.2 ⟨j, List.mem_range.2 hj, fun h => ?_⟩
    have := ownerOk_iff.1 h
    omega
  show execBankOwnerWrite q k v s = _
  unfold execBankOwnerWrite
  rw [access_reaches _ hr]
  exact next_congr (if_pos hall)

/-- No granule returns to use. -/
theorem exec_granuleRetire {q : Quad} {b : Bank} {v : W32} {s : State} {key : Nat} (hk : key = pgCIST q + 0x050 + 4 * b.val)
    (hr : s.reaches key = true) (ho : s.bankOpen q b = true) (hne : v ≠ s.reg key) (hb : s.reg key &&& ~~~ v = 0) :
    exec (.granuleRetire q b v) s = .next (s.setReg key v) := by
  subst hk
  have hi : indices 32 (fun g => (s.reg (pgCIST q + 0x050 + 4 * b)).getLsbD g && !v.getLsbD g) = [] := by
    refine List.filter_eq_nil_iff.2 fun g hg => ?_
    have := congrArg (fun x : W32 => x.getLsbD g) hb
    simpa [List.mem_range.1 hg] using this
  show execGranuleRetire q b v s = _
  unfold execGranuleRetire
  rw [access_reaches _ hr]
  unfold State.writeRetire
  rw [if_neg hne, if_neg (by rw [ho]; decide), hi]
  rfl

/-- Settles O21. -/
theorem memoryUpkeep : Obligations.MemoryUpkeep := by
  unfold Obligations.MemoryUpkeep
  refine ⟨?_, ?_, ?_, fun _ _ _ _ _ => exec_granuleRetire, ?_, fun _ _ _ _ _ _ => exec_bankOwner_unlisted, ?_, ?_, ?_, ?_, ?_⟩
  · intro q b s hr ho
    refine completes_clear (t := s.clearBank q b) ?_ rfl
    show execCbankClear q b s = _
    rw [execCbankClear, access_reaches _ hr, if_pos ho]
  · intro q b s hr ho
    show execCbankClear q b s = _
    rw [execCbankClear, access_reaches _ hr, if_neg (by rw [ho]; decide)]
  · intro d s hr
    refine completes_clear (t := s.clearCluster d) ?_ rfl
    show execCmemClear d s = _
    rw [execCmemClear, access_reaches _ hr]
  · intro q k v s key hk hr hq hv hne
    rw [exec_bankOwner hk hr hq (fun i hi => .inl (hv i hi).1) hne]
    exact next_congr (ownerChanges_listed _ _ _ fun i hi => (hv i (List.mem_range.1 hi)).symm)
  · intro q k v s key j b hk hr hq hv hj hb hn ho
    subst hb
    obtain ⟨⟨hst, hen, hwk⟩, hval⟩ := ownerChanges_retire (s.setReg key v) q k (fun i => bitsOf (s.reg key) (8 * i + 7) (8 * i))
      (fun i => bitsOf v (8 * i + 7) (8 * i)) ho hn hj
    refine ⟨_, exec_bankOwner hk hr hq hv fun h => ho (h ▸ hn), ?_, hst, hen, hwk, hval⟩
    · rw [reg_of_regs (ownerChanges_regs ..), reg_setReg_self]
  · intro m s pg hp hr
    subst hp
    show execMemLogClr m s = _
    rw [execMemLogClr, access_reaches _ hr]
    rfl
  · intro n s a m r hr ha hm hb hi hlo hhi hs hn hre
    subst ha hm hre
    show execRowRemapGo n s = _
    rw [execRowRemapGo, access_reaches _ hr]
    unfold State.remapGo
    rw [if_neg (by omega), if_neg]
    · rfl
    · rw [hn]
      rintro (h | h | h | h | h)
      · omega
      · omega
      · omega
      · exact h hs
      · cases h
  · intro n bad mask s u r i hj hi hm hu
    subst hi hm hu
    show execRemapDone n bad s = _
    unfold execRemapDone remapBusy
    rw [hj]
  · intro n temp s
    show execHbmTempHigh n temp s = _
    unfold execHbmTempHigh
    by_cases h : 85 < temp.toNat
    · rw [if_pos h, if_neg (c := temp.toNat ≤ 85) (by omega)]
    · rw [if_neg h, if_pos (by omega)]

/-! ## Scrubs and fills -/

/-- The word of a GO: MODE n in the fields the write gives. -/
theorem scrubWord_fields (v : W32) {n : Nat} (h : n ≤ 1) : bitsOf (putFld v 9 8 n) 9 8 = n ∧ bitsOf (putFld v 9 8 n) 7 4 = bitsOf v 7 4
    ∧ bit (putFld v 9 8 n) 1 = bit v 1 := by
  refine ⟨?_, bitsOf_putFld_ne _ (by decide) (.inl (by decide)), ?_⟩
  · rw [bitsOf_putFld_self _ (by decide)]
    exact Nat.mod_eq_of_lt (by omega)
  · unfold bit
    rw [putFld_getLsbD _ _ _ _ _ (by decide), if_neg (by decide)]

theorem exec_scrubGo {m : MemCtl} (v : W32) {n : Nat} {s : State} (hn : n = 0 ∨ n = 1) (hr : s.reaches (memCtlPg m + 0x10C) = true) :
    exec (if n = 0 then .scrubGo m v else .scrubFillGo m v) s = .next (s.scrubGo m (putFld v 9 8 n)) := by
  rcases hn with rfl | rfl
  · exact next_congr (access_reaches _ hr)
  · exact next_congr (access_reaches _ hr)

/-- Where every line of the range is of the page's own memory, the next line is the one at the address. -/
theorem scrubNext_own {m : Nat} {s : State} (h : m < 28 ∨ s.fld (pgHBMC 0 + 0x040) 9 8 = 0) (a : Nat) : s.scrubNext m a = a :=
  if_pos (h.imp_right Or.inl)

/-- A running scrub at its next line. -/
theorem exec_scrubLine {m : MemCtl} (ups : LineUpset) {s : State} (hm : m.val < 28 ∨ s.fld (pgHBMC 0 + 0x040) 9 8 = 0)
    (hb : (s.scrub m).busy = true) (ha : (s.scrub m).abort = false) (hl : 0 < (s.scrub m).left) : exec (.scrubLine m ups) s = .next
      (if (s.scrub m).left = 1 then ((s.scrubLine m (s.scrub m).next ups).inc (memCtlPg m + 0x114) 31 0 1).scrubEnd m 1
       else ((s.scrubLine m (s.scrub m).next ups).inc (memCtlPg m + 0x114) 31 0 1).setScrub m
        { s.scrub m with next := (s.scrub m).next + 64, left := (s.scrub m).left - 1 }) := by
  show execScrubLine m ups s = _
  unfold execScrubLine
  simp only [hb, ha, scrubNext_own hm, Bool.true_eq_false, Bool.false_eq_true, if_false]
  rw [if_neg (by omega)]
  refine next_congr (ite_congr (propext (by omega)) (fun _ => rfl) fun _ => ?_)
  rw [show ((s.scrub m).next + 64 * (s.scrub m).left - ((s.scrub m).next + 64)) / 64 = (s.scrub m).left - 1 by omega]

/-- Settles O22. -/
theorem scrubs : Obligations.Scrubs := by
  unfold Obligations.Scrubs
  refine ⟨?_, ?_, ?_, ?_, ?_, ?_⟩
  · intro m v n s u pg base len hp hr hba hle hb hl h64 hlo hhi hn hu
    subst hp hba hle hu
    obtain ⟨hmode, hrate, habort⟩ := scrubWord_fields v (n := n) (by omega)
    rw [exec_scrubGo v (by omega) hr]
    unfold State.scrubGo
    rw [hmode, hrate, habort, if_neg]
    rw [hb]
    rintro (h | h | h | h | h | h)
    · cases h
    all_goals omega
  · intro m v n s pg base len hp hr hba hle hn ha hc
    subst hp hba hle
    obtain ⟨hmode, hrate, habort⟩ := scrubWord_fields v hn
    rw [exec_scrubGo v (by omega) hr]
    unfold State.scrubGo
    rw [hmode, hrate, habort, if_pos]
    · refine next_congr (if_neg fun h => ?_)
      rcases ha with ha | ha
      · rw [ha] at h; cases h.1
      · rw [ha] at h; cases h.2
    · refine hc.imp_right (.imp_right (.imp_right (.imp_right (.imp_right fun ⟨h1, h2⟩ => ⟨by omega, .inl h2⟩))))
  · intro m v s pg hp hr hb
    subst hp
    have hbit : bit (v ||| 2) 1 = true := bit_or_of_set v 2 (by decide)
    show execScrubAbort m v s = _
    rw [execScrubAbort, access_reaches _ hr]
    exact next_congr (if_pos ⟨hb, hbit⟩)
  · intro m ups s hb ha
    show execScrubLine m ups s = _
    unfold execScrubLine
    simp only [hb, ha, Bool.true_eq_false, if_false, if_true]
    rfl
  · intro m ups s hm hb ha hl hr
    rw [exec_scrubLine ups hm hb ha (by omega), if_neg (by omega), State.scrubLine, if_pos hr]
  · intro m ups s u hm hb ha hl hr hu
    subst hu
    rw [exec_scrubLine ups hm hb ha hl]
    exact ⟨fun h => next_congr (if_pos h), fun h => next_congr (if_neg (by omega))⟩

/-! ## Kernel loads -/

end Sys2Proof.Machine
end

section
/-! Kernel loads and the kernel table (R109 to R111). -/

namespace Sys2Proof.Machine

open Sys2Proof

theorem exec_kloadGo {d : Clu} (kid : W8) {s : State} (hr : s.reaches (pgCLU d + 0x058) = true) :
    exec (.kloadGo d kid) s = .next (s.kloadGo d kid.toNat) := next_congr (access_reaches _ hr)

theorem kloadGo_accepted {d kid : Nat} {s : State} (hb : s.fld (pgCLU d + 0x05C) 0 0 = 0) (hh : s.kernelHeld d kid = false)
    (ht : s.spanTaken d (s.fld (pgCLU d + 0x054) 13 0) (s.fld (pgCLU d + 0x050) 14 0) = false)
    (hf : s.fld (pgCLU d + 0x054) 13 0 + s.fld (pgCLU d + 0x050) 14 0 ≤ 16384) (hi : s.fld (pgCLU d + 0x050) 29 16 < s.fld (pgCLU d + 0x050) 14 0) :
    s.kloadGo d kid = { s.setReg (pgCLU d + 0x05C) (BitVec.ofNat 32 (kid * 256 + 1)) with
       sluice := { s.sluice with kload := tabSet (fun _ => none) s.sluice.kload d (some ⟨kid, (s.reg64 (pgCLU d + 0x048)).toNat
         - (s.reg64 (pgCLU d + 0x048)).toNat % 8, s.fld (pgCLU d + 0x054) 13 0, s.fld (pgCLU d + 0x050) 14 0, s.fld (pgCLU d + 0x050) 29 16⟩) } } := by
  unfold State.kloadGo
  rw [if_neg (by omega), if_neg]
  · dsimp only
    rw [setReg_sluice]
  · rw [hh, ht]
    rintro (h | h | h | h)
    · cases h
    · cases h
    all_goals omega

/-- Settles O23. -/
theorem kernelLoads : Obligations.KernelLoads := by
  unfold Obligations.KernelLoads
  refine ⟨?_, ?_, ?_, ?_, ?_⟩
  · intro d kid s pg dst len entry src hp hr hd hl he hs hb hh ht hf hi
    subst hp hd hl he hs
    rw [exec_kloadGo kid hr, kloadGo_accepted hb hh ht hf hi]
  · intro d kid s pg dst len hp hr hb hd hl hc
    subst hp hd hl
    rw [exec_kloadGo kid hr, State.kloadGo, if_neg (by omega), if_pos hc]
  · intro d s u v j r pg hp hj hr hok hw hu hv
    subst hp hr hu hv
    show execKloadDone d s = _
    unfold execKloadDone
    rw [hj]
    dsimp only
    rw [if_pos ⟨hok, hw⟩]
  · intro d s u j r pg hp hj hr hno hu
    subst hp hr hu
    show execKloadDone d s = _
    unfold execKloadDone
    rw [hj]
    dsimp only
    rw [if_neg hno]
  · intro d s k hr hk
    subst hk
    exact next_congr (access_reaches _ hr)

end Sys2Proof.Machine
end

section
/-! Descriptors, marks, gates and cancels (R134 to R140, R148, R156). -/

namespace Sys2Proof.Machine

open Sys2Proof

/-! ## Descriptor fetch -/

/-- What the read of a descriptor does for the ring whose turn it is. -/
theorem exec_descriptorFetch {r : Ring} (x : W512) {s : State} {t : Task} (hs : s.ringServed r = true) (hn : s.ringTurn = some r.val)
    (ht : t = { ring := r, seq := s.newSeq r (s.ringHead r), desc := x }) :
    exec (.descriptorFetch r (.data x)) s = .next (
      if s.fetchCause r t ≠ 0 then s.stopRing r (s.fetchCause r t)
      else if decide (s.tasks.length < 32768) = true ∧ s.cqCredit t.cq = true then
        let u := (((s.put (ringKey 0x054 r) 11 11 (b2n (!decide (s.tasks.length < 32768)))).put (ringKey 0x054 r) 12 12 (b2n (!s.cqCredit t.cq))).put
          (ringKey 0x054 r) 31 16 (s.ringHead r + 1)).put (cqKey 0x058 t.cq) 16 0 (s.cqOut t.cq + 1)
        ((u.setTasks (u.tasks ++ [s.fetchMarks t])).setTurn r (if s.sluice.turn = r then s.sluice.took % 4 + 1 else 1)).settle
      else ((s.put (ringKey 0x054 r) 11 11 (b2n (!decide (s.tasks.length < 32768)))).put (ringKey 0x054 r) 12 12 (b2n (!s.cqCredit t.cq))).setTurn r 4) := by
  subst ht
  exact next_congr (if_neg (by rw [hs, hn]; simp))

theorem exec_descriptorFetch_error {r : Ring} {s : State} (hs : s.ringServed r = true) (hn : s.ringTurn = some r.val) :
    exec (.descriptorFetch r .error) s = .next (s.stopRing r 2) := next_congr (if_neg (by rw [hs, hn]; simp))

/-- Settles O24. -/
theorem descriptorFetches : Obligations.DescriptorFetches := by
  unfold Obligations.DescriptorFetches
  refine ⟨?_, ?_, ?_, ?_⟩
  · intro r x s u t hs hn ht hc hl hq hu
    subst hu
    rw [exec_descriptorFetch x hs hn ht, if_neg (fun h => h hc), decide_eq_true hl, hq, if_pos ⟨rfl, rfl⟩]
    rfl
  · intro r x s t room credit hs hn ht hc hr hq hno
    subst hr hq
    rw [exec_descriptorFetch x hs hn ht, if_neg (fun h => h hc), if_neg fun h => by rw [h.1, h.2] at hno; cases hno]
  · intro r resp s c hs hn h
    rcases h with ⟨rfl, rfl⟩ | ⟨x, rfl, hc, hne⟩
    · exact exec_descriptorFetch_error hs hn
    · rw [exec_descriptorFetch x hs hn rfl, ← hc, if_pos hne]
      rfl
  · intro s r hr hk
    subst hk
    exact next_congr (access_reaches _ hr)

/-! ## Marks and gates -/

theorem named_congr {s : State} {r : Nat} {q : W16} {p p' : Task → Bool} (h : ∀ t, p t = p' t) : s.named r q p = s.named r q p' := by
  rw [show p = p' from funext h]

/-- A gate of kind 1 stands open once its time has come (R139). -/
theorem gateOpen_time (s : State) (t : Task) : (decide (t.gate = 1) && s.gateOpen t)
    = (decide (t.gate = 1) && decide (0 ≤ timeDiff s.pt t.gateVal)) := by
  by_cases h : t.gate = 1
  · unfold State.gateOpen
    rw [h]
    rfl
  · rw [decide_eq_false h]
    rfl

theorem missed_mode2 (t : Task) (x : W64) : (decide (t.dlMode = 2) && t.missed x) = (decide (t.dlMode = 2) && decide (0 < timeDiff x t.deadline)) := by
  by_cases h : t.dlMode = 2
  · unfold Task.missed
    rw [h]
    rfl
  · rw [decide_eq_false h]
    rfl

theorem exec_cancelTask (r : Ring) (seq : W16) {s : State} (hr : s.reaches (pgSLC + 0x060) = true) :
    exec (.cancelTask r seq) s = .next (s.cancelTask r seq) := next_congr (access_reaches _ hr)

theorem exec_cancelFlow (f : Flow) {s : State} (hr : s.reaches (pgSLC + 0x060) = true) :
    exec (.cancelFlow f) s = .next (s.cancelFlow f) := next_congr (access_reaches _ hr)

theorem startCancel_eq (s : State) (res : Nat) (count : Option Nat) : s.startCancel res count = { s.put (pgSLC + 0x064) 31 31 1 with
    sluice := { (s.put (pgSLC + 0x064) 31 31 1).sluice with cancelJob := some (res, count) } } := by
  rw [put_sluice]
  rfl

/-- The end of a cancel shows its result. -/
def State.cancelShown (s : State) (res : Nat) : State :=
  { (s.put (pgSLC + 0x064) 31 31 0).put (pgSLC + 0x064) 2 0 res with sluice := { s.sluice with cancelJob := none } }

theorem cancelShown_reg (s : State) (res k : Nat) : (s.cancelShown res).reg k = ((s.put (pgSLC + 0x064) 31 31 0).put (pgSLC + 0x064) 2 0 res).reg k := rfl

theorem cancelShown_fld (s : State) (res k hi lo : Nat) :
    (s.cancelShown res).fld k hi lo = ((s.put (pgSLC + 0x064) 31 31 0).put (pgSLC + 0x064) 2 0 res).fld k hi lo := rfl

theorem cancelShown_frame (s : State) (res : Nat) : Frame 0x10008 s (s.cancelShown res) :=
  Frame.step (a := 0x10000) (upd_sluice rfl) rfl ((State.put_frame ..).step rfl ((State.put_frame ..).mono rfl))

/-- What the end of a cancel leaves in SLC_CANCEL_STAT: the count too where there is one. -/
def State.cancelled (s : State) (res : Nat) : Option Nat → State
  | none => s.cancelShown res
  | some n => (s.cancelShown res).put (pgSLC + 0x064) 27 16 n

theorem exec_cancelDone {s : State} {res : Nat} {count : Option Nat} (h : s.sluice.cancelJob = some (res, count))
    (hn : ∀ n, count = some n → n < 4096) : exec .cancelDone s = .next (s.cancelled res count) := by
  show execCancelDone s = _
  unfold execCancelDone
  rw [h]
  cases count with
  | none =>
    dsimp only
    rw [put_sluice, put_sluice]
    rfl
  | some n =>
    dsimp only
    rw [put_sluice, put_sluice, if_pos (hn n rfl)]
    rfl

theorem cancelled_sluice (s : State) (res : Nat) (count : Option Nat) : (s.cancelled res count).sluice = { s.sluice with cancelJob := none } := by
  cases count with
  | none => rfl
  | some n => exact put_sluice ..

theorem cancelled_frame (s : State) (res : Nat) (count : Option Nat) : Frame 0x10008 s (s.cancelled res count) := by
  cases count with
  | none => exact cancelShown_frame s res
  | some n => exact (State.put_frame ..).step rfl (cancelShown_frame s res)

theorem cancelled_reg_ne (s : State) (res : Nat) (count : Option Nat) {k : Nat} (h : k ≠ pgSLC + 0x064) : (s.cancelled res count).reg k = s.reg k := by
  have hu : (s.cancelShown res).reg k = s.reg k := by rw [cancelShown_reg, reg_put_ne _ _ _ _ h, reg_put_ne _ _ _ _ h]
  cases count with
  | none => exact hu
  | some n => rw [State.cancelled, reg_put_ne _ _ _ _ h, hu]

theorem cancelled_fields (s : State) (res : Nat) {count : Option Nat} (hn : ∀ n, count = some n → n < 4096) :
    (s.cancelled res count).fld (pgSLC + 0x064) 31 31 = 0 ∧ (s.cancelled res count).fld (pgSLC + 0x064) 2 0 = res % 8
    ∧ (s.cancelled res count).fld (pgSLC + 0x064) 27 16 = count.getD (s.fld (pgSLC + 0x064) 27 16) := by
  have hbusy : (s.cancelShown res).fld (pgSLC + 0x064) 31 31 = 0 := by
    rw [cancelShown_fld, fld_put_other _ _ _ (by decide) (.inr (by decide)), fld_put_self _ _ _ _ (by decide), Nat.zero_mod]
  have hres : (s.cancelShown res).fld (pgSLC + 0x064) 2 0 = res % 8 := by
    exact (cancelShown_fld ..).trans (fld_put_self _ _ _ _ (by decide))
  have hcount : (s.cancelShown res).fld (pgSLC + 0x064) 27 16 = s.fld (pgSLC + 0x064) 27 16 := by
    rw [cancelShown_fld, fld_put_other _ _ _ (by decide) (.inr (by decide)), fld_put_other _ _ _ (by decide) (.inl (by decide))]
  cases count with
  | none => exact ⟨hbusy, hres, hcount⟩
  | some n =>
    rw [State.cancelled, fld_put_other _ _ _ (by decide) (.inr (by decide)), fld_put_other _ _ _ (by decide) (.inl (by decide)),
      fld_put_self _ _ _ _ (by decide)]
    exact ⟨hbusy, hres, Nat.mod_eq_of_lt (hn n rfl)⟩

/-- Settles O25. -/
theorem marksAndGates : Obligations.MarksAndGates := by
  unfold Obligations.MarksAndGates
  refine ⟨?_, ?_, ?_, ?_, ?_, ?_, ?_, ?_⟩
  · exact fun evt inc s hr => next_congr (access_reaches _ hr)
  · intro r seq s t ht
    show execGateTimeReady r seq s = _
    unfold execGateTimeReady
    rw [named_congr (fun u => by rw [Bool.and_assoc, gateOpen_time, ← Bool.and_assoc]), ht]
  · intro r seq s t ht
    show execDeadlineExpired r seq s = _
    unfold execDeadlineExpired
    rw [named_congr (fun u => by rw [Bool.and_assoc, missed_mode2, ← Bool.and_assoc]), ht]
  · intro r seq s u hr hb hu
    subst hu
    rw [exec_cancelTask r seq hr, State.cancelTask, if_neg (by omega)]
    refine ⟨fun t ht => ?_, fun t hq ht => ?_, fun hq ht => ?_⟩
    · rw [ht]
      dsimp only
      rw [startCancel_eq]
    · rw [hq, ht]
      exact next_congr ((if_pos rfl).trans (startCancel_eq ..))
    · rw [hq, ht]
      exact next_congr ((if_neg (by decide)).trans (startCancel_eq ..))
  · intro r seq f s hr hb
    rw [exec_cancelTask r seq hr, exec_cancelFlow f hr, State.cancelTask, State.cancelFlow, if_pos hb, if_pos hb]
    exact ⟨rfl, rfl⟩
  · intro f s u w hr hb hw hex hu
    subst hw hu
    obtain ⟨t, ht, hwt⟩ := hex
    have hn : (s.tasks.filter (fun t => decide (t.flow = f.val) && t.queued)).length ≠ 0 :=
      fun h => List.ne_nil_of_mem (List.mem_filter.2 ⟨ht, hwt⟩) (List.length_eq_zero_iff.1 h)
    rw [exec_cancelFlow f hr, State.cancelFlow, if_neg (by omega)]
    dsimp only
    rw [if_pos hn, startCancel_eq]
  · intro s res count h hn
    obtain ⟨hbusy, hres, hcount⟩ := cancelled_fields s res hn
    exact ⟨_, exec_cancelDone h hn, cancelled_sluice .., (cancelled_frame ..).parts rfl, hbusy, hres, hcount, fun k hk => cancelled_reg_ne s res count hk⟩
  · intro k v s a ha hr
    subst ha
    exact next_congr (access_reaches _ hr)

end Sys2Proof.Machine
end

section
/-! Placement, dispatch, the end of a task, completion records and doorbells (R142 to R146, R152, R158 to R161, R402). -/

namespace Sys2Proof.Machine

open Sys2Proof

theorem Frame.power {m : Nat} {s t : State} (h : Frame m s t) (hm : m.testBit 8 = false) : t.power = s.power := h.same .power hm

theorem Frame.tiles {m : Nat} {s t : State} (h : Frame m s t) (hm : m.testBit 17 = false) : t.tiles = s.tiles := h.same .tiles hm

theorem Frame.sluice {m : Nat} {s t : State} (h : Frame m s t) (hm : m.testBit 16 = false) : t.sluice = s.sluice := h.same .sluice hm

/-! ## Placement -/

section Placement

variable {re : Bool} {f : Flow} {s : State} {t : Task}

/-- A ready, unmarked flow head of a running group is one to place. -/
theorem placeable_flowHead (hf : s.flowHead f = some t) (hp : t.place = .parked) (hr : t.ready = true) (hm : t.marked = false)
    (hh : t.haltFetch = false) (hg : s.cgRunning t.cg = true) : s.placeable t = true := by
  have hflow : t.flow = f.val := by
    have := List.find?_some hf
    rw [Bool.and_eq_true] at this
    exact of_decide_eq_true this.1
  unfold State.placeable
  rw [hp, hr, hm, hh, hg, hflow, hf]
  simp [Task.is]

theorem exec_place (re : Bool) (f : Flow) (s : State) : exec (if re then .taskReplace f else .taskPlace f) s = .next (s.placeHead f) := by
  cases re <;> rfl

theorem placeHead_tile (hf : s.flowHead f = some t) (hp : s.placeable t = true) (he : t.engine = 0) {d : Nat} (hd : s.chooseCluster t = some d)
    (ho : s.outwaited t (.hopper d) = false)
    (hany : (List.range 24).any (fun d => s.inAffinity t d && s.runnable d t.kid) = true) :
    s.placeHead f = (s.enter t (.hopper d)).notePeak d t.prio := by
  unfold State.placeHead
  rw [hf]
  dsimp only
  rw [if_pos hp, if_pos he, if_neg (by rw [hany]; decide), hd]
  dsimp only
  rw [if_neg (by rw [ho]; decide)]

theorem placeHead_stranded (hf : s.flowHead f = some t) (hp : s.placeable t = true) (he : t.engine = 0)
    (hany : (List.range 24).any (fun d => s.inAffinity t d && s.runnable d t.kid) = false) :
    s.placeHead f = (s.endWaiting t stPoisoned).raise pgSLC 1 := by
  unfold State.placeHead
  rw [hf]
  dsimp only
  rw [if_pos hp, if_pos he, if_pos hany]

theorem placeHead_job (hf : s.flowHead f = some t) (hp : s.placeable t = true) (he : t.engine ≠ 0) {q : Nat} (hq : t.jobQuad = some q)
    (hn : s.fenced q = false) (hl : s.qlost q t.cg = false) (hroom : (s.engQueue q (t.engine - 1) t.prio).length < 64)
    (ho : s.outwaited t (.engQ q (t.engine - 1)) = false) : s.placeHead f = s.enter t (.engQ q (t.engine - 1)) := by
  unfold State.placeHead
  rw [hf]
  dsimp only
  rw [if_pos hp, if_neg he, hq]
  dsimp only
  rw [if_pos ⟨hn, hl, hroom, ho⟩]

end Placement

theorem leastBy_mem {α : Type} {key : α → Nat} {l : List α} {x : α} (h : leastBy key l = some x) : x ∈ l := by
  induction l generalizing x with
  | nil => cases h
  | cons a l ih =>
    unfold leastBy at h
    split at h
    · cases h
      exact List.mem_cons_self
    · next y hy =>
      split at h <;> cases h
      · exact List.mem_cons_of_mem _ (ih hy)
      · exact List.mem_cons_self

/-- The cluster chosen is one that can take the task. -/
theorem chooseCluster_mem {s : State} {t : Task} {d : Nat} (h : s.chooseCluster t = some d) : d ∈ s.candidates t := by
  have hm := leastBy_mem h
  split at hm
  · exact hm
  · exact List.mem_of_mem_filter hm

theorem any_of_chooseCluster {s : State} {t : Task} {d : Nat} (h : s.chooseCluster t = some d) :
    (List.range 24).any (fun d => s.inAffinity t d && s.runnable d t.kid) = true := by
  obtain ⟨hd, hc⟩ := List.mem_filter.1 (chooseCluster_mem h)
  rw [Bool.and_eq_true] at hc
  exact List.any_eq_true.2 ⟨d, hd, hc.1⟩

/-! ## Dispatch -/

theorem missed_iff (t : Task) (x : W64) : (t.dlMode = 2 ∧ t.missed x = true) ↔ (t.dlMode = 2 ∧ 0 < timeDiff x t.deadline) := by
  refine and_congr_right fun h => ?_
  unfold Task.missed
  rw [h]
  simp

theorem checkMarks_eq (s : State) (t : Task) : s.checkMarks t
    = (if t.dlMode = 2 ∧ 0 < timeDiff s.pt t.deadline then { t with expired := true } else t,
       (if t.dlMode = 2 ∧ 0 < timeDiff s.pt t.deadline then { t with expired := true } else t).marked) := by
  unfold State.checkMarks
  simp only [missed_iff]

/-- A selected head whose marks are clear starts on the tile chosen. -/
theorem exec_dispatch_start {d : Clu} {s : State} {t : Task} {k : Nat} (hr : s.cluReady d = true) (ht : s.selectHead d = some t) (hm : t.marked = false)
    (hd : ¬ (t.dlMode = 2 ∧ 0 < timeDiff s.pt t.deadline)) (hk : s.runnable d t.kid = true) (hc : s.chooseTile d t.kid = some k) :
    exec (.taskDispatch d) s = .next (s.startTask d k t) := by
  show execTaskDispatch d s = _
  unfold execTaskDispatch
  rw [if_neg (by rw [hr]; decide), ht]
  dsimp only
  rw [checkMarks_eq, if_neg hd, hm, if_neg Bool.false_ne_true, if_neg (by rw [hk]; decide), hc]

/-- A selected head without its kernel leaves its Hopper. -/
theorem exec_dispatch_gone {d : Clu} {s : State} {t : Task} (hr : s.cluReady d = true) (ht : s.selectHead d = some t) (hm : t.marked = false)
    (hd : ¬ (t.dlMode = 2 ∧ 0 < timeDiff s.pt t.deadline)) (hk : s.runnable d t.kid = false) :
    exec (.taskDispatch d) s = .next ((s.mapTask t.ring t.seq (fun u => { u with place := .parked })).raise (pgCLU d) 16) := by
  show execTaskDispatch d s = _
  unfold execTaskDispatch
  rw [if_neg (by rw [hr]; decide), ht]
  dsimp only
  rw [checkMarks_eq, if_neg hd, hm, if_neg Bool.false_ne_true, if_pos hk]

theorem exec_dispatch_marked {d : Clu} {s : State} {t : Task} (hr : s.cluReady d = true) (ht : s.selectHead d = some t)
    (hm : (if t.dlMode = 2 ∧ 0 < timeDiff s.pt t.deadline then { t with expired := true } else t).marked = true) :
    exec (.taskDispatch d) s = .next (s.endWaiting t (s.waitStatus
      (if t.dlMode = 2 ∧ 0 < timeDiff s.pt t.deadline then { t with expired := true } else t))) := by
  show execTaskDispatch d s = _
  unfold execTaskDispatch
  rw [if_neg (by rw [hr]; decide), ht]
  dsimp only
  rw [checkMarks_eq]
  dsimp only
  rw [hm, if_pos rfl]

/-- What a dispatched task's tile holds. -/
def State.startedTile (s : State) (d : Nat) (t : Task) : Tile :=
  { phase := .running, ring := t.ring, seq := t.seq, cg := t.cg, kid := t.kid, kbase := (s.kernel d t.kid).base, klen := (s.kernel d t.kid).len,
    limitKc := s.fld (pgCLU d + 0x044) 23 0, startCyc := s.vaneNow d, regs := s.entryRegs d t (s.kernel d t.kid).entry }

theorem started_before (s : State) (d k : Nat) (t : Task) : Frame 0x4c0048 s ((s.countWait d t).clearTile d k) :=
  (State.clearTile_frame ..).step rfl ((State.countWait_frame ..).mono rfl)

theorem startTask_tiles (s : State) (d k : Nat) (t : Task) :
    (s.startTask d k t).tiles = tabSet (fun _ => {}) ((s.countWait d t).clearTile d k).tiles (8 * d + k) (s.startedTile d t) := rfl

theorem startTask_tasks (s : State) (d k : Nat) (t : Task) : (s.startTask d k t).tasks
    = ((s.countWait d t).clearTile d k).tasks.map (fun x => if Task.is t.ring t.seq x then { x with place := .tile d k } else x) := rfl

theorem startTask_tile (s : State) (d k d' k' : Nat) (t : Task) :
    (s.startTask d k t).tile d' k' = if 8 * d' + k' = 8 * d + k then s.startedTile d t else s.tile d' k' := by
  unfold State.tile
  rw [startTask_tiles, tabGet_set, (started_before s d k t).tiles rfl]

theorem tasks_congr {s t : State} (h : t.sluice = s.sluice) : t.tasks = s.tasks := congrArg SluiceSt.tasks h

/-! ## Completion records -/

theorem barSize_le_entKey (a i : Nat) : barSize ≤ entKey a i := by
  unfold entKey
  exact (Nat.le_mul_of_pos_left _ (Nat.succ_pos i)).trans (Nat.le_add_right _ _)

theorem entKey_ne {a b : Nat} (i : Nat) (h : a ≠ b) : entKey a i ≠ entKey b i := by
  unfold entKey
  omega

theorem emit_tasks (s : State) (o : Output) : (s.emit o).tasks = s.tasks := rfl

theorem slotState_congr {s t : State} {k : Nat} (hk : k < 8) (hm : t.reg (pgDEV + 0x040) = s.reg (pgDEV + 0x040)) (hp : t.power = s.power) :
    t.slotState k = s.slotState k := by
  unfold State.slotState State.slotDormant State.mode State.fld State.slot
  rw [if_neg (c := 8 ≤ k ∧ k < 12) (by omega), if_neg (c := 8 ≤ k ∧ k < 12) (by omega), hm, hp]

/-- What the Fyil port takes stands in its own register, in the mode and in its power slot. -/
theorem fyilOn_congr {s t : State} (n : Nat) (hm : t.reg (pgDEV + 0x040) = s.reg (pgDEV + 0x040)) (hf : t.reg (pgFYIL + 0x040) = s.reg (pgFYIL + 0x040))
    (hp : t.power = s.power) : t.fyilOn n = s.fyilOn n := by
  unfold State.fyilOn State.fld
  rw [slotState_congr (by decide) hm hp, hf]

theorem sendVector_regs (s : State) (fn v : Nat) : EventRegs s (s.sendVector fn v) := by
  unfold State.sendVector
  refine EventRegs.ite (raise_regs s 3 none (by decide)) ?_
  exact EventRegs.ite ((message_regs s fn v).trans (raise_regs _ 2 none (by decide))) (message_regs s fn v)

theorem sendVector_fyilOn (s : State) (fn v n : Nat) : (s.sendVector fn v).fyilOn n = s.fyilOn n :=
  fyilOn_congr n (sendVector_regs s fn v _ (by decide +kernel)) (sendVector_regs s fn v _ (by decide +kernel)) ((State.sendVector_frame s fn v).power rfl)

theorem noteReady_unreported (s : State) (c : Nat) : (s.noteReady c).sluice.unreported = s.sluice.unreported := by
  unfold State.noteReady
  split
  · split <;> rfl
  · rfl

/-- What a record leaves before it counts towards its queue's interrupt. -/
def State.recorded (s : State) (c : Nat) (t : Task) (bytes : Bytes) : State :=
  ((s.emit (.hostWrite (s.cqOwner c) ((s.reg64 (cqKey 0x044 c)).toNat - (s.reg64 (cqKey 0x044 c)).toNat % 16
       + 16 * (s.cqTail c % s.cqSize c)) bytes false)).setTasks (s.tasks.filter (fun x => !Task.is t.ring t.seq x))).put
         (cqKey 0x054 c) 31 16 (s.cqTail c + 1)

theorem recorded_reg (s : State) (c : Nat) (t : Task) (bytes : Bytes) {k : Nat} (h : k ≠ cqKey 0x054 c) : (s.recorded c t bytes).reg k = s.reg k :=
  reg_put_ne _ _ _ _ h

theorem setTasks_unreported (s : State) (l : List Task) : (s.setTasks l).sluice.unreported = s.sluice.unreported := rfl

theorem recorded_power (s : State) (c : Nat) (t : Task) (bytes : Bytes) : (s.recorded c t bytes).power = s.power := by
  rw [State.recorded, put_power, setTasks_power, emit_power]

theorem recorded_unreported (s : State) (c : Nat) (t : Task) (bytes : Bytes) : (s.recorded c t bytes).sluice.unreported = s.sluice.unreported := by
  rw [State.recorded, put_sluice, setTasks_unreported, emit_sluice]

/-- The queue's next record is noted behind one written. -/
def State.nextReady (s : State) (c : Nat) : State :=
  State.noteReady { s with sluice := { s.sluice with readyQ := s.sluice.readyQ.filter (fun k => decide (k ≠ c)) } } c

theorem nextReady_reg (s : State) (c k : Nat) : (s.nextReady c).reg k = s.reg k :=
  reg_of_regs (s := { s with sluice := { s.sluice with readyQ := s.sluice.readyQ.filter (fun k => decide (k ≠ c)) } })
    ((State.noteReady_frame _ c).regs rfl) k

theorem nextReady_power (s : State) (c : Nat) : (s.nextReady c).power = s.power := (State.noteReady_frame _ c).power rfl

theorem nextReady_unreported (s : State) (c : Nat) : (s.nextReady c).sluice.unreported = s.sluice.unreported := noteReady_unreported ..

/-- A record of a queue whose owner can be written to. -/
theorem writeRecord_eq {s : State} {c : Nat} {t : Task} (hw : s.canWrite (s.cqOwner c) = true) :
    s.writeRecord c t = if (((s.recorded c t (recordBytes t ((s.cqTail c / s.cqSize c + 1) % 2))).nextReady c).coalesce c).fyilOn 0
      then (((s.recorded c t (recordBytes t ((s.cqTail c / s.cqSize c + 1) % 2))).nextReady c).coalesce c).fyilPush 2 0
        (natLE (recordBytes t ((s.cqTail c / s.cqSize c + 1) % 2)))
      else ((s.recorded c t (recordBytes t ((s.cqTail c / s.cqSize c + 1) % 2))).nextReady c).coalesce c := by
  unfold State.writeRecord State.hostWrite
  dsimp only
  rw [if_pos hw, emit_tasks]
  rfl

theorem fyilOn_sluice (s : State) (x : SluiceSt) (n : Nat) : ({ s with sluice := x } : State).fyilOn n = s.fyilOn n := rfl

theorem coalesce_fyilOn (s : State) (c n : Nat) : (s.coalesce c).fyilOn n = s.fyilOn n := by
  unfold State.coalesce
  dsimp only
  split
  · rw [sendVector_fyilOn, fyilOn_sluice]
  · rw [fyilOn_sluice]

/-- The record counts: short of COUNT, and at COUNT, with the counts as they stood before it. -/
theorem coalesce_of {s v : State} {c : Nat} (h1 : v.fld (cqKey 0x050 c) 7 0 = s.fld (cqKey 0x050 c) 7 0) (h2 : v.cqOwner c = s.cqOwner c)
    (h3 : v.fld (cqKey 0x04C c) 18 8 = s.fld (cqKey 0x04C c) 18 8) (hu : v.sluice.unreported = s.sluice.unreported) :
    v.coalesce c = if s.fld (cqKey 0x050 c) 7 0 ≠ 0 ∧ s.fld (cqKey 0x050 c) 7 0 ≤ tabGet (fun _ => 0) s.sluice.unreported c + 1 then
      ({ v with sluice := { v.sluice with unreported := tabErase v.sluice.unreported c } } : State).sendVector (s.cqOwner c) (s.fld (cqKey 0x04C c) 18 8)
    else { v with sluice := { v.sluice with
      unreported := tabSet (fun _ => 0) v.sluice.unreported c (tabGet (fun _ => 0) s.sluice.unreported c + 1) } } := by
  unfold State.coalesce
  dsimp only
  rw [h1, h2, h3, hu]

theorem exec_record {e : Bool} {s : State} {c : Nat} {t : Task} (hq : s.sluice.readyQ.find? (fun c => decide (c % 2 = b2n e)) = some c)
    (ht : s.cqFirst c = some t) (hp : t.place = .ended) (ha : s.slotState 6 < 2) (hw : s.canWrite (s.cqOwner c) = true) (hf : s.fyilOn 0 = false) :
    exec (.completionRecordWrite e) s
      = .next (((s.recorded c t (recordBytes t ((s.cqTail c / s.cqSize c + 1) % 2))).nextReady c).coalesce c) := by
  show execCompletionRecordWrite e s = _
  unfold execCompletionRecordWrite
  unfold State.writeReady
  rw [hq]
  dsimp only
  rw [ht]
  dsimp only
  rw [if_pos ⟨decide_eq_true hp, ha⟩, writeRecord_eq hw, if_neg]
  rw [coalesce_fyilOn, fyilOn_congr 0 _ _ (nextReady_power ..), fyilOn_congr 0 _ _ (recorded_power ..), hf]
  · decide
  · exact recorded_reg s c t _ (Nat.ne_of_lt (Nat.lt_of_lt_of_le (by decide) (barSize_le_entKey ..)))
  · exact recorded_reg s c t _ (Nat.ne_of_lt (Nat.lt_of_lt_of_le (by decide) (barSize_le_entKey ..)))
  · exact nextReady_reg ..
  · exact nextReady_reg ..

/-! ## Doorbells -/

theorem doorbell_owner {s : State} {fn owner : Nat} {v : W32} (k : Nat → State → State) (hb : s.hasBar2 fn = true) (hu : s.dataUr = false)
    (ho : owner = fn) (hv : bitsOf v 31 16 = 0) : s.doorbell fn owner v k = k (bitsOf v 15 0) s := by
  unfold State.doorbell
  rw [if_neg (by rw [hb, hu]; decide), if_neg (by rw [hv, ho]; simp)]

theorem doorbell_other {s : State} {fn owner : Nat} (v : W32) (k : Nat → State → State) (hb : s.hasBar2 fn = true) (hu : s.dataUr = false)
    (ho : owner ≠ fn) : s.doorbell fn owner v k = (s.inc (pgPCIE + 0x054) 31 0 1).raise pgPCIE 1 := by
  unfold State.doorbell
  rw [if_neg (by rw [hb, hu]; decide), if_pos (.inl ho.symm)]
  rfl

theorem exec_ringDoorbell (fn : Fn) (r : Ring) (v : W32) (s : State) :
    exec (.ringDoorbell fn r v) s = .next (s.doorbell fn (s.ringOwner r) v (fun tail s => s.ringDoorbell r tail)) := rfl

theorem exec_cqHeadDoorbell (fn : Fn) (c : Cq) (v : W32) (s : State) :
    exec (.cqHeadDoorbell fn c v) s = .next (s.doorbell fn (s.cqOwner c) v (fun head s => s.cqDoorbell c head)) := rfl

/-! ## The statements -/

/-- Settles O26. -/
theorem placementAndDispatch : Obligations.PlacementAndDispatch := by
  unfold Obligations.PlacementAndDispatch
  refine ⟨?_, ?_, ?_, ?_, ?_, ?_, ?_, ?_⟩
  · intro re f s t d hf hp hr hm hh hg he hd ho
    rw [exec_place, placeHead_tile hf (placeable_flowHead hf hp hr hm hh hg) he hd ho (any_of_chooseCluster hd)]
    rfl
  · intro re f s t hf hp hr hm hh hg he hn
    have hany : (List.range 24).any (fun d => s.inAffinity t d && s.runnable d t.kid) = false := by
      refine List.any_eq_false.2 fun d hd hc => ?_
      rw [Bool.and_eq_true] at hc
      exact absurd hc.2 (by rw [hn d (List.mem_range.1 hd) hc.1]; decide)
    rw [exec_place, placeHead_stranded hf (placeable_flowHead hf hp hr hm hh hg) he hany]
    rfl
  · intro re f s t q hf hp hr hm hh hg he hq hn hl hroom ho
    rw [exec_place, placeHead_job hf (placeable_flowHead hf hp hr hm hh hg) he hq hn hl hroom ho]
    rfl
  · intro d s t k hr ht hm hd hk hc
    refine ⟨_, exec_dispatch_start hr ht hm hd hk hc, ?_, ?_, fun d' k' hne => ?_, ?_⟩
    · rw [startTask_tile, if_pos rfl]
      rfl
    · rw [startTask_tasks, tasks_congr ((started_before s d k t).sluice rfl)]
    · rw [startTask_tile, if_neg hne]
    · exact Frame.parts (State.startTask_frame s d k t) rfl
  · intro d s t t' hr ht he hm
    subst he
    rw [exec_dispatch_marked hr ht hm]
    rfl
  · exact fun d s t hr ht hm hd hk => exec_dispatch_gone hr ht hm hd hk
  · intro r seq s t ht
    show execTaskEnd r seq s = _
    unfold execTaskEnd
    rw [ht]
  · intro t
    have hmiss : t.missed t.finish = true ↔ t.dlMode ≠ 0 ∧ 0 < timeDiff t.finish t.deadline := by simp [Task.missed]
    unfold Task.serviceStatus
    simp only [hmiss]
    rfl

/-- Settles O27. -/
theorem records : Obligations.Records := by
  unfold Obligations.Records
  refine ⟨?_, ?_, ?_, ?_, ?_, ?_, ?_, ?_⟩
  · intro e s u v c n thr t bytes hq ht hp ha hw hf hthr hn hb hu hv
    have hbytes : bytes = recordBytes t ((s.cqTail c / s.cqSize c + 1) % 2) := hb
    have hrec : u = s.recorded c t (recordBytes t ((s.cqTail c / s.cqSize c + 1) % 2)) := by rw [hu, hbytes]; rfl
    have hnext : v = (s.recorded c t (recordBytes t ((s.cqTail c / s.cqSize c + 1) % 2))).nextReady c := by rw [hv, hrec]; rfl
    have hreg (x : Nat) (hx : x ≠ 0x054) : v.reg (cqKey x c) = s.reg (cqKey x c) := by
      rw [hnext, nextReady_reg]
      exact recorded_reg s c t _ (entKey_ne c (by omega))
    have hun : v.sluice.unreported = s.sluice.unreported := by rw [hnext, nextReady_unreported, recorded_unreported]
    have hfld (x hi lo : Nat) (hx : x ≠ 0x054) : v.fld (cqKey x c) hi lo = s.fld (cqKey x c) hi lo := by
      rw [State.fld, hreg x hx]
      rfl
    rw [exec_record hq ht hp ha hw hf, ← hnext, coalesce_of (hfld _ _ _ (by decide)) (hfld _ _ _ (by decide)) (hfld _ _ _ (by decide)) hun,
      ← hthr, ← hn]
    refine ⟨fun h => ?_, fun h1 h2 => ?_⟩
    · rw [if_neg (by omega)]
    · rw [if_pos ⟨h1, h2⟩]
  · intro c s h1 h2
    exact next_congr (if_pos ⟨h1, h2⟩)
  · intro fn r v s u hb hu ho hv hm hput
    subst hput
    rw [exec_ringDoorbell, doorbell_owner _ hb hu ho hv, State.ringDoorbell, if_neg hm]
    refine ⟨fun h => ?_, fun h => ?_⟩
    · exact next_congr (if_neg (by omega))
    · exact next_congr (if_pos h)
  · intro fn r v s hb hu ho hv hm
    rw [exec_ringDoorbell, doorbell_owner _ hb hu ho hv, State.ringDoorbell, if_pos hm]
  · intro fn c v s n hb hu ho hv hn
    subst hn
    rw [exec_cqHeadDoorbell, doorbell_owner _ hb hu ho hv, State.cqDoorbell]
    refine ⟨fun h => ?_, fun h => ?_⟩
    · exact next_congr (if_pos h)
    · exact next_congr (if_neg (by omega))
  · intro fn r c v s hb hu
    refine ⟨fun h => ?_, fun h => ?_⟩
    · rw [exec_ringDoorbell, doorbell_other v _ hb hu h]
    · rw [exec_cqHeadDoorbell, doorbell_other v _ hb hu h]
  · intro d s hr
    exact next_congr (access_reaches _ hr)
  · intro d s h
    exact next_congr (if_neg h)

end Sys2Proof.Machine
end

section
/-! The PCI Express endpoint: configuration, resets, messages, Pump channels (R397 to R416). -/

namespace Sys2Proof.Machine

open Sys2Proof

theorem Frame.pump {m : Nat} {s t : State} (h : Frame m s t) (hm : m.testBit 20 = false) : t.pump = s.pump := h.same .pump hm

/-! ## Configuration requests and resets -/

/-- A request to a function outside BOOT acts and is answered. -/
theorem exec_configRequest {fn : Fn} (w : ConfigReq) {s : State} (hf : ¬ (isVf fn = true ∧ s.vfOn fn = false)) (hm : s.mode ≠ 1) :
    exec (.configRequest fn w) s = .next ((s.cfgAct fn w).emit (.cfgAnswer fn false)) := by
  show execConfigRequest fn w s = _
  unfold execConfigRequest
  rw [if_neg hf, if_neg]
  unfold State.cfgRetry
  rw [decide_eq_false hm, Bool.false_and]
  exact Bool.false_ne_true

theorem cfgAct_other {s : State} {fn : Nat} {w : ConfigReq} (h : w ≠ .msixEnable true) : s.cfgAct fn w = s.cfgWrite fn w := if_neg h

/-- Settles O28. -/
theorem pcieConfig : Obligations.PcieConfig := by
  unfold Obligations.PcieConfig
  refine ⟨?_, ?_, ?_, ?_, ?_, ?_, ?_⟩
  · intro fn w s hf hm h33
    have hr : s.cfgRetry fn = true := by
      unfold State.cfgRetry
      rw [decide_eq_true hm, decide_eq_false (show ¬ fn.val = pf0 from h33)]
      rfl
    show execConfigRequest fn w s = _
    rw [execConfigRequest, if_neg hf, if_pos hr]
    rfl
  · intro fn on s hf hm
    refine ⟨?_, ?_, ?_⟩
    · rw [exec_configRequest _ hf hm, cfgAct_other (by simp)]
      rfl
    · rw [exec_configRequest _ hf hm, cfgAct_other (by simp)]
      rfl
    · rw [exec_configRequest _ hf hm, cfgAct_other (by simp)]
      rfl
  · intro n x s hm hx
    refine ⟨?_, ?_⟩
    · rw [exec_configRequest (fn := 0) _ (by simp [isVf]) hm, cfgAct_other (by simp)]
      rfl
    · rw [exec_configRequest (fn := 33) _ (by simp [isVf]) hm, cfgAct_other (by simp), State.cfgWrite, if_pos ⟨rfl, hx⟩]
      rfl
  · intro speed width s hp hw h1 h5 hwd
    have hl : linkForm speed width = true := by
      unfold linkForm
      rw [decide_eq_true h1, decide_eq_true h5, List.contains_iff_mem.2 hwd]
      rfl
    show execPcieLinkUp speed width s = _
    rw [execPcieLinkUp, if_neg]
    rw [hp, hw, hl]
    decide
  · intro s u hu
    subst hu
    rfl
  · intro fn s hv ho
    have hr : 1 ≤ fn.val ∧ fn.val ≤ 32 := by simpa [isVf] using hv
    have h0 : ¬ fn.val = 0 := by omega
    have h33 : ¬ fn.val = pf0 := by unfold pf0; omega
    show execFunctionLevelReset fn s = _
    unfold execFunctionLevelReset
    rw [if_neg (by rw [ho]; simp)]
    dsimp only
    rw [if_neg h33, State.resetFn]
    dsimp only
    rw [if_neg h0, if_neg h33]
  · intro s u hu hs
    subst hs
    show execLinkReset s = _
    rw [execLinkReset, if_pos hu]
    rfl

/-! ## Messages -/

theorem exec_doorbellRead {fn : Fn} {off : W22} {s : State} (hb : s.hasBar2 fn = true) (hu : s.dataUr = false) :
    exec (.doorbellRead fn off) s = .next { s with readData := s.doorbellWord fn off.toNat, out := s.out ++ [.memAnswer fn false (s.doorbellWord fn off.toNat)] } :=
  next_congr ((if_neg (by rw [hb, hu]; decide)).trans rfl)

/-- The word of a ring. -/
theorem doorbellWord_ring (s : State) (fn : Nat) (r : Ring) : s.doorbellWord fn (0x1000 * r.val)
    = if s.ringOwner r = fn then BitVec.ofNat 32 (s.ringHead r * 65536 + s.ringTail r) else 0 := by
  unfold State.doorbellWord
  simp only [Nat.mul_mod_right, Nat.mul_div_cancel_left _ (show 0 < 0x1000 by decide), ne_eq, not_true_eq_false, if_false]
  exact if_pos r.isLt

/-- A message of a vector that is open, of a function that may send it. -/
theorem message_sent {s : State} {fn v : Nat} (he : tabGet (fun _ => false) s.pcie.msixEn fn = true)
    (hu : tabGet (fun _ => false) s.pcie.unmasked (4096 * fn + v) = true) (hc : s.canMsix fn = true) :
    s.message fn v = ({ s with pcie := { s.pcie with pend := tabErase s.pcie.pend (4096 * fn + v) }, out := s.out ++ [.msix fn v] }, false) := by
  unfold State.message
  rw [he, hu, hc]
  rfl

theorem indices_two_pow : ∀ n < 32, indices 32 (BitVec.ofNat 32 (2 ^ n)).getLsbD = [n] := by decide

theorem exec_irqRearm {hi : Bool} {n : Nat} {s : State} (hn : n < 32) (hr : s.reaches (pgPCIE + (if hi then 0x064 else 0x060)) = true) :
    exec (.irqRearm hi (BitVec.ofNat 32 (2 ^ n))) s = .next (s.resend (n + if hi then 32 else 0)) := by
  show execIrqRearm hi _ s = _
  rw [execIrqRearm, access_reaches _ hr, State.rearm, indices_two_pow n hn]
  rfl

theorem exec_unmask {fn : Fn} {v : W11} {s : State} (hf : ¬ (isVf fn = true ∧ s.vfOn fn = false)) (hv : v.toNat < msixSize fn) :
    exec (.msixUnmask fn (.vector v)) s = .next ((s.setMask fn v.toNat true).sendPending fn v.toNat) :=
  next_congr ((if_neg hf).trans (if_pos hv))

theorem exec_mask {fn : Fn} {v : W11} {s : State} (hf : ¬ (isVf fn = true ∧ s.vfOn fn = false)) (hv : v.toNat < msixSize fn) :
    exec (.msixUnmask fn (.mask v)) s = .next (s.setMask fn v.toNat false) :=
  next_congr ((if_neg hf).trans (if_pos hv))

/-- Settles O29. -/
theorem messages : Obligations.Messages := by
  unfold Obligations.Messages
  refine ⟨fun _ _ _ hb hu => exec_doorbellRead hb hu, ?_, ?_, ?_, ?_, fun _ _ _ => exec_mask, ?_⟩
  · intro fn r s
    rw [doorbellWord_ring]
    exact ⟨fun h => if_pos h, fun h => if_neg h⟩
  · exact fun fn off s h => next_congr ((if_pos h).trans rfl)
  · intro fn v s hf hv hp
    rw [exec_unmask hf hv]
    exact next_congr (if_pos hp)
  · intro fn v s k hk hf hv hp h33 he hc
    subst hk
    have hopen := tabGet_set_self (fun _ => false) s.pcie.unmasked (4096 * fn.val + v.toNat) true
    have hm := message_sent (s := s.setMask fn v.toNat true) (fn := fn) (v := v.toNat) he hopen hc
    rw [exec_unmask hf hv, State.sendPending]
    dsimp only
    rw [if_neg, if_neg, hm]
    · rfl
    · exact fun h => h33 h.1
    · show ¬ tabGet (fun _ => false) s.pcie.pend (4096 * fn.val + v.toNat) = false
      rw [hp]
      decide
  · intro hi n s v hn hv hr
    subst hv
    rw [exec_irqRearm hn hr]
    refine ⟨fun h => ?_, fun h he hu hc => ?_⟩
    · exact next_congr (if_neg (by rw [h]; decide))
    · refine next_congr ((if_pos h).trans ?_)
      rw [show pf0 = 33 from rfl, message_sent he hu hc]
      rfl

/-! ## Pump channels -/

theorem exec_pumpDoorbell (fn : Fn) (ch : W4) (v : W32) (s : State) : exec (.pumpDoorbell fn ch v) s
    = .next (s.doorbell fn (s.chOwner ch.toNat) v (fun tail s => s.chDoorbell ch.toNat tail)) := rfl

/-- A channel's TAIL: stored, and one that overfills its ring stops it. -/
theorem chDoorbell_cases (s : State) (c tail : Nat) :
    ((s.put (chKey 0x054 c) 15 0 tail).chPosted c ≤ s.chSize c → s.chDoorbell c tail = s.put (chKey 0x054 c) 15 0 tail)
    ∧ (s.chSize c < (s.put (chKey 0x054 c) 15 0 tail).chPosted c →
      s.chDoorbell c tail = ((s.put (chKey 0x054 c) 15 0 tail).raise pgPUMP 0).chStop c 2 4) :=
  ⟨fun h => if_neg (by omega), fun h => if_pos h⟩

theorem exec_pumpChDb {v : W32} {s : State} {c : Nat} (hw : s.wide = none) (hs : s.slotState 2 ≠ 4) (hc : c = s.fld (pgPUMP + 0x040) 3 0) :
    exec (.pumpChDb v) s = .next (if s.chOwner c ≠ pf0 then s.badAccess (pgPUMP + 0x05C) else s.chDoorbell c (bitsOf v 15 0)) := by
  subst hc
  exact next_congr (if_neg (by rw [hw]; simpa using hs))

theorem exec_pumpDescFetch {ch : W4} {s : State} (f : PumpFetch) (h : s.chFetches ch.toNat = true) :
    exec (.pumpDescFetch ch f) s = .next (s.chFetch ch.toNat f) := next_congr (if_pos h)

/-- A fetched descriptor that starts. -/
theorem chFetch_starts {s : State} {c : Nat} {f : PumpFetch} {d : PumpDesc} (hd : pumpDescOf ((s.chHead c + (s.chList c).length) % 65536) f = d)
    (h : ¬ (d.bad = 0 ∧ d.fence = true ∧ s.chList c ≠ [])) : s.chFetch c f = (s.setChList c (s.chList c ++ [d])).put (chKey 0x050 c) 15 14 1 := by
  subst hd
  exact if_neg h

theorem pumpDescOf_valid {n : Nat} {x : BitVec 256} (h : ({ count := n, desc := x } : PumpDesc).invalid = false) : pumpDescOf n (.data x) = ⟨n, x, 0⟩ :=
  if_neg (by rw [h]; decide)

theorem pumpDescOf_invalid {n : Nat} {x : BitVec 256} (h : ({ count := n, desc := x } : PumpDesc).invalid = true) : pumpDescOf n (.data x) = ⟨n, x, 4⟩ :=
  if_pos h

/-- The RESULT of a transfer. -/
theorem pumpMove_result (s : State) (fn : Nat) (d : PumpDesc) (r : PumpResp) : (s.pumpMove fn d r).2
    = if d.bad ≠ 0 then d.bad else if d.dir = 0 ∧ (r.err = true ∨ r.data.length < d.len) then 2
      else if (s.pumpMove fn d r).1.err then 3 else if (s.pumpMove fn d r).1.poison then 1 else 0 := by
  unfold State.pumpMove
  by_cases h : d.bad ≠ 0
  · rw [if_pos h, if_pos h]
  · rw [if_neg h, if_neg h]
    simp only [Bool.and_eq_true, Bool.or_eq_true, decide_eq_true_eq]

/-- The end of a channel's oldest started descriptor. -/
theorem chComplete_cons {s : State} {c : Nat} {d : PumpDesc} {rest : List PumpDesc} {u v : State} {m : PumpMove × Nat} (resp : PumpResp)
    (hl : s.chList c = d :: rest) (hm : m = s.pumpMove (s.chOwner c) d resp) (hv : v = (if m.1.poison then m.1.st.raise pgPUMP 3 else m.1.st))
    (hu : u = (v.setChList c rest).writeStatus c d m.2 m.1.moved) : s.chComplete c resp =
      if m.2 = 2 then (u.raise pgPUMP 1).chStop c 2 2 else if m.2 = 3 then (u.raise pgPUMP 2).chStop c 2 3
      else if m.2 = 4 then (u.raise pgPUMP 0).chStop c 2 4 else if u.chPosted c = 0 then u.setChState c 0 else u := by
  subst hm hv hu
  unfold State.chComplete
  rw [hl]

theorem chOwner_congr {s t : State} (h : EventRegs s t) (c : Nat) : t.chOwner c = s.chOwner c := by
  have hk : eventReg (chKey 0x04C c) = false := by
    unfold eventReg
    rw [chKey, decide_eq_false (Nat.not_lt.2 (barSize_le_entKey ..)), Bool.false_and]
  unfold State.chOwner State.fld
  rw [h _ hk]

theorem exec_pumpAbort {s : State} {c : Nat} (hr : s.reaches (pgPUMP + 0x058) = true) (hc : c = s.fld (pgPUMP + 0x040) 3 0) :
    exec .pumpAbort s = .next (s.abortChannel c) := by
  subst hc
  exact next_congr (access_reaches _ hr)

theorem abortChannel_eq {s : State} {c : Nat} {later : List PumpDesc} (hp : s.chPosted c ≤ s.chSize c)
    (hl : later = (List.range (s.chPosted c - (s.chList c).length)).map
      (fun i => ({ count := (s.chHead c + (s.chList c).length + i) % 65536, desc := 0 } : PumpDesc))) :
    s.abortChannel c = ((s.chList c ++ later).foldl (fun (t : State) d => t.abandonDesc c d) s).chStop c 3 5 := by
  subst hl
  unfold State.abortChannel
  dsimp only
  rw [if_pos hp]

/-- Settles O30. -/
theorem pumpChannels : Obligations.PumpChannels := by
  unfold Obligations.PumpChannels
  refine ⟨?_, ?_, ?_, ?_, ?_, ?_, ?_, ?_, ?_, ?_⟩
  · intro fn ch v s u c hc hb hd hu
    subst hc hu
    obtain ⟨hfit, hover⟩ := chDoorbell_cases s ch.toNat (bitsOf v 15 0)
    rw [exec_pumpDoorbell]
    refine ⟨fun ho hv h => ?_, fun ho hv h => ?_, fun h => ?_⟩
    · rw [doorbell_owner _ hb hd ho hv, hfit h]
    · rw [doorbell_owner _ hb hd ho hv, hover h]
    · exact next_congr ((if_neg (by rw [hb, hd]; decide)).trans (if_pos (h.imp_left Ne.symm)))
  · intro v s u c hw hs hc hu
    subst hu
    obtain ⟨hfit, hover⟩ := chDoorbell_cases s c (bitsOf v 15 0)
    rw [exec_pumpChDb hw hs hc]
    refine ⟨fun ho h => ?_, fun ho h => ?_, fun ho => ?_⟩
    · rw [if_neg (fun hn => hn ho), hfit h]
    · rw [if_neg (fun hn => hn ho), hover h]
    · exact next_congr (if_pos ho)
  · intro ch x s c d hc hf hd hi
    subst hc hd
    rw [exec_pumpDescFetch _ hf]
    refine ⟨fun h => ?_, fun h1 h2 => ?_⟩
    · rw [chFetch_starts (pumpDescOf_valid hi)]
      rintro ⟨-, h1, h2⟩
      exact h.elim (fun h => by rw [h] at h1; cases h1) h2
    · refine next_congr ?_
      unfold State.chFetch
      dsimp only
      rw [pumpDescOf_valid hi]
      exact if_pos ⟨rfl, h1, h2⟩
  · intro ch x s c n hc hf hn
    subst hc hn
    refine ⟨fun hi => ?_, ?_⟩
    · rw [exec_pumpDescFetch _ hf, chFetch_starts (pumpDescOf_invalid hi) (fun h => absurd h.1 (show ¬ 4 = 0 by decide))]
    · rw [exec_pumpDescFetch _ hf, chFetch_starts (d := ⟨_, 0, 2⟩) rfl (fun h => absurd h.1 (show ¬ 2 = 0 by decide))]
  · intro ch resp s u v c d rest m hc hl hm hv hu
    subst hc
    have he : exec (.pumpDescComplete ch resp) s = .next (s.chComplete ch.toNat resp) := rfl
    rw [he, chComplete_cons resp hl hm hv hu]
    refine ⟨fun h => ?_, fun h => ?_, fun h => ?_, fun h => ?_⟩
    · rw [if_neg (by omega), if_neg (by omega), if_neg (by omega)]
      rfl
    · rw [if_pos h]
    · rw [if_neg (by omega), if_pos h]
    · rw [if_neg (by omega), if_neg (by omega), if_pos h]
  · intro fn d resp s m hm
    subst hm
    exact pumpMove_result s fn d resp
  · intro ch resp s u v w c d rest m hc hl hd hb hw hm hv hu
    subst hc
    have hlw : w.chList ch.toNat = d :: rest := by
      rw [← hl, hw, State.chList, (State.raise_frame s pgPCIE 4 none).pump rfl]
      rfl
    have how : w.chOwner ch.toNat = s.chOwner ch.toNat := by rw [hw]; exact chOwner_congr (raise_regs s 4 none (by decide)) _
    have hres : (w.pumpMove (s.chOwner ch.toNat) d { resp with err := true }).2 = 2 := by
      rw [pumpMove_result, if_neg (fun h => h hb), if_pos ⟨hd, .inl rfl⟩]
    have hread : s.readsHost ch.toNat = true := by
      unfold State.readsHost
      rw [hl]
      dsimp only
      rw [hd, hb]
      rfl
    have he : exec (.cplTimeout ch resp) s = .next (w.chComplete ch.toNat { resp with err := true }) := by
      rw [hw]
      exact next_congr (if_pos hread)
    rw [he, chComplete_cons (u := u) (v := v) _ hlw rfl (by rw [how, hv, hm]) (by rw [how, hu, hm, hres]), how, if_pos hres]
  · intro s c hr hc hl hp
    rw [exec_pumpAbort hr hc, abortChannel_eq (by rw [hp]; exact Nat.zero_le _) rfl, hl, hp]
    rfl
  · intro s c later hr hc hp hl
    rw [exec_pumpAbort hr hc, abortChannel_eq hp hl]
  · intro s c hr hc
    subst hc
    have he : exec .pumpResume s = .next (s.resumeChannel (s.fld (pgPUMP + 0x040) 3 0)) := next_congr (access_reaches _ hr)
    rw [he]
    exact ⟨fun h => next_congr (if_pos h), fun h => next_congr (if_neg (by omega))⟩

end Sys2Proof.Machine
end

section
/-! The vector slot of a tile: the vector ALU, extraction, the accumulators (R79 to R86, R105, R107). -/

namespace Sys2Proof.Machine

open Sys2Proof

/-! ## Instructions that only compute -/

/-- An instruction of slot X whose result is f of the registers read. -/
theorem issuesX_opX {c : Instr} {s : State} {d t : Nat} {dst : List RegId} {f : TileRegs → TileRegs} {r : TileRegs}
    (h : s.readyX d t = true) (he : exec c s = .next (s.opX d t false dst f)) (hr : f (s.regsX d t) = r) : IssuesX c s d t dst r :=
  ⟨_, he, hr ▸ State.opX_eq h⟩

/-- One that checks its operands first, where the check passes. -/
theorem issuesX_slotX {c : Instr} {s : State} {d t : Nat} {dst : List RegId} {f : State → TileRegs → Res} {r : TileRegs} {k : Ctl}
    (h : s.readyX d t = true) (he : exec c s = .next (s.slotX d t false dst f))
    (hf : f (s.inX d t) (s.regsX d t) = .done ((s.inX d t).upd d t (fun _ => r)) k) : IssuesX c s d t dst r :=
  ⟨_, he, State.slotX_regs h hf⟩

/-- An instruction of slot Y whose result is f of the registers read and of those of the bundle. -/
theorem issuesY_opY {c : Instr} {s : State} {d t : Nat} {dst : List RegId} {f : TileRegs → TileRegs → TileRegs} {r : TileRegs}
    (h : s.readyY d t = true) (hc : s.clashes d t dst = false) (he : exec c s = .next (s.opY d t true dst f))
    (hr : f (s.regsY d t) (s.tile d t).regs = r) : IssuesY c s d t r .next :=
  ⟨_, he, hr ▸ State.opY_eq h hc⟩

/-- One that checks its operands first, where the check passes. -/
theorem issuesY_slotY {c : Instr} {s : State} {d t : Nat} {dst : List RegId} {f : State → TileRegs → Res} {g : TileRegs → TileRegs}
    {k : Ctl} (h : s.readyY d t = true) (hc : s.clashes d t dst = false) (he : exec c s = .next (s.slotY d t true dst f))
    (hf : f (s.inY d t) (s.regsY d t) = .done ((s.inY d t).upd d t g) k) : IssuesY c s d t (g (s.tile d t).regs) k :=
  ⟨_, he, State.slotY_regs h hc (by rw [hf]; simp only [State.upd, State.inY_regs])⟩

theorem clashes_nil (s : State) (d t : Nat) : s.clashes d t [] = false := by simp [State.clashes]

/-- An instruction of slot Y that leaves the registers alone. -/
theorem issuesY_same {c : Instr} {s : State} {d t : Nat} {f : State → TileRegs → Res} {k : Ctl} (h : s.readyY d t = true)
    (he : exec c s = .next (s.slotY d t true [] f)) (hf : f (s.inY d t) (s.regsY d t) = .done (s.inY d t) k) :
    IssuesY c s d t (s.tile d t).regs k := by
  refine ⟨_, he, ?_⟩
  rw [State.slotY_done h (clashes_nil s d t) hf, ← State.inY_didY, ← State.inY_regs]
  exact State.TileIs.setTile _ d t _

/-- An instruction of slot X that leaves the registers alone. -/
theorem issuesX_same {c : Instr} {s : State} {d t : Nat} {f : State → TileRegs → Res} {k : Ctl} (h : s.readyX d t = true)
    (he : exec c s = .next (s.slotX d t false [] f)) (hf : f (s.inX d t) (s.regsX d t) = .done (s.inX d t) k) :
    IssuesX c s d t [] (s.regsX d t) := by
  refine ⟨_, he, ?_⟩
  rw [State.slotX_done h hf, State.inX_tile]
  exact State.TileIs.setTile _ d t _

/-! ## The vector ALU -/

theorem within16_alu16 (x : Int) : Within16 x (alu16 x).toInt := fun h1 h2 => alu16_toInt ⟨h1, h2⟩

theorem toInt_ofInt16 {x : Int} (h1 : -32768 ≤ x) (h2 : x ≤ 32767) : (BitVec.ofInt 16 x).toInt = x := by
  rw [BitVec.toInt_ofInt]
  apply Int.bmod_eq_of_le <;> omega

theorem elemRe_range (x : W512) (i : Nat) : -32768 ≤ elemRe x i ∧ elemRe x i ≤ 32767 := by
  have h1 := BitVec.le_toInt (x.extractLsb' (32 * i) 16)
  have h2 := BitVec.toInt_lt (x := x.extractLsb' (32 * i) 16)
  unfold elemRe
  omega

/-- A vector of sums, differences or the like, element by element where they fit. -/
theorem vecBin_within (f : Int → Int → Int) (x y : W512) {i : Nat} (hi : i < 16) :
    Within16 (f (elemRe x i) (elemRe y i)) (elemRe (vecBin f x y) i)
    ∧ Within16 (f (elemIm x i) (elemIm y i)) (elemIm (vecBin f x y) i) := by
  unfold vecBin
  rw [elemRe_vecMap _ _ i hi, elemIm_vecMap _ _ i hi]
  exact ⟨within16_alu16 _, within16_alu16 _⟩

/-! ## Extraction -/

theorem clampI_range {lo hi : Int} (h : lo ≤ hi) (x : Int) : lo ≤ clampI lo hi x ∧ clampI lo hi x ≤ hi := by
  unfold clampI; split <;> (try split) <;> omega

/-- The bits a loop over lanes sets one by one. -/
theorem foldl_putFld_bit {n : Nat} (b : Nat → Bool) (l : List Nat) (w : BitVec n) (j : Nat) (hj : j < n) :
    (l.foldl (fun (w : BitVec n) i => if b i = true then putFld w i i 1 else w) w).getLsbD j
      = (w.getLsbD j || (decide (j ∈ l) && b j)) := by
  induction l generalizing w with
  | nil => simp
  | cons i l ih =>
    rw [List.foldl_cons, ih]
    by_cases hb : b i = true
    · rw [if_pos hb, putFld_getLsbD _ _ _ _ _ hj]
      by_cases hij : j = i
      · subst hij; simp [hb]
      · rw [if_neg (by omega)]; simp [hij]
    · rw [if_neg hb]
      by_cases hij : j = i
      · subst hij; simp [hb]
      · simp [hij]

/-- What EXT leaves: each component extracted and limited, EXT_SAT of each lane limited. -/
theorem ext_elem (r : TileRegs) (vd src sh : Nat) (round : Bool) (f : W40 → Int)
    (hf : f = fun a => if round then roundShift a.toInt sh else a.toInt / 2 ^ sh) :
    ∃ v sat set, r.ext vd src sh round = { r.setV vd v with extSat := sat, extNew := set }
      ∧ ∀ i < 16, elemRe v i = clampI (-32768) 32767 (f (r.getA src i).re) ∧ elemIm v i = clampI (-32768) 32767 (f (r.getA src i).im)
        ∧ sat.getLsbD i = (r.extSat.getLsbD i || set.getLsbD i)
        ∧ set.getLsbD i = (decide (f (r.getA src i).re < -32768) || decide (32767 < f (r.getA src i).re)
            || decide (f (r.getA src i).im < -32768) || decide (32767 < f (r.getA src i).im)) := by
  subst hf
  refine ⟨_, _, _, rfl, fun i hi => ⟨?_, ?_, BitVec.getLsbD_or, ?_⟩⟩
  · obtain ⟨h1, h2⟩ := clampI_range (lo := -32768) (hi := 32767) (by omega) (if round then roundShift (r.getA src i).re.toInt sh else (r.getA src i).re.toInt / 2 ^ sh)
    rw [elemRe_vecMap _ _ i hi]
    exact toInt_ofInt16 h1 h2
  · obtain ⟨h1, h2⟩ := clampI_range (lo := -32768) (hi := 32767) (by omega) (if round then roundShift (r.getA src i).im.toInt sh else (r.getA src i).im.toInt / 2 ^ sh)
    rw [elemIm_vecMap _ _ i hi]
    exact toInt_ofInt16 h1 h2
  · rw [foldl_putFld_bit (fun i => (extract (r.getA src i).re.toInt sh round).2 || (extract (r.getA src i).im.toInt sh round).2) _ _ _ hi]
    simp [hi, extract, Bool.or_assoc]

/-- Settles O31. -/
theorem vectorAlu : Obligations.VectorAlu := by
  unfold Obligations.VectorAlu
  refine ⟨?_, ?_, ?_, ?_, ?_, ?_, ?_, ?_⟩
  · intro d t s
    exact ⟨fun h => issuesX_same (f := fun s _ => .done s .next) h rfl rfl, fun h => issuesY_same (f := fun s _ => .done s .next) h rfl rfl⟩
  · rintro d t vd va vb s r h rfl
    exact ⟨_, issuesX_opX h rfl rfl, fun i hi => vecBin_within _ _ _ hi⟩
  · rintro d t vd va vb s r h rfl
    exact ⟨_, issuesX_opX h rfl rfl, fun i hi => vecBin_within _ _ _ hi⟩
  · rintro d t vd va s r h rfl
    refine ⟨_, issuesX_opX h rfl rfl, fun i hi => ?_⟩
    rw [elemRe_vecMap _ _ i hi, elemIm_vecMap _ _ i hi]
    exact ⟨within16_alu16 _, within16_alu16 _⟩
  · rintro d t vd va s r h rfl
    refine ⟨_, issuesX_opX h rfl rfl, fun i hi => ?_⟩
    rw [elemRe_vecMap _ _ i hi, elemIm_vecMap _ _ i hi]
    obtain ⟨h1, h2⟩ := elemRe_range ((s.regsX d t).getV va.toNat) i
    exact ⟨toInt_ofInt16 h1 h2, within16_alu16 _⟩
  · rintro d t vd va e s r h rfl
    exact ⟨_, issuesX_opX h rfl rfl, fun i hi => vecElem_vecMap _ i hi⟩
  · rintro d t vd va vb fn s r x y w h rfl rfl rfl rfl
    exact ⟨issuesX_opX h rfl rfl, issuesX_opX h rfl rfl, issuesX_opX h rfl rfl, issuesX_opX h rfl rfl, issuesX_opX h rfl rfl, issuesX_opX h rfl rfl⟩
  · rintro d t vd src sh m round s r f h rfl hround hf
    obtain ⟨v, sat, set, he, hv⟩ := ext_elem (s.regsX d t) vd.toNat src.toNat sh.toNat round f hf
    refine ⟨v, sat, set, ?_, hv⟩
    rw [← he, hround]
    cases m with
    | true => exact issuesX_opX (c := .ext d t false vd src sh) h rfl rfl
    | false => exact issuesX_opX (c := .extT d t false vd src sh) h rfl rfl

end Sys2Proof.Machine
end

section
/-! The accumulators of a tile: the complex multiply-accumulates and the operations of R85 (R83 to R85, R107). -/

namespace Sys2Proof.Machine

open Sys2Proof

/-! ## A pass over the lanes -/

theorem lanes_accSat {g : TileRegs → Nat → TileRegs} (hg : ∀ q i, (g q i).accSat = q.accSat) (r : TileRegs) :
    (r.lanes g).accSat = r.accSat := by
  unfold TileRegs.lanes
  induction List.range 16 generalizing r with
  | nil => rfl
  | cons i l ih => rw [List.foldl_cons, ih, hg]

/-- Lanes written one by one leave ACC_SAT. -/
theorem lanes_setA (r : TileRegs) {a : Nat} (ha : a < 8) (f : Nat → AccLane) (q : TileRegs)
    (hq : r.lanes (fun q i => q.setA a i (f i)) = q) :
    r.OnlyAcc q a ∧ q.accSat = r.accSat ∧ ∀ i < 16, q.getA a i = f i := by
  have hs := lanes_accSat (g := fun q i => q.setA a i (f i)) (fun _ _ => rfl) r
  obtain ⟨ho, hl⟩ := TileRegs.lanes_set r ha (fun _ i => f i)
  rw [hq] at ho hs
  refine ⟨ho, hs, fun i hi => ?_⟩
  rw [← hq]
  exact (hl i hi).1

/-- ASCALE of one lane. -/
def TileRegs.scaleLane (a : Nat) (f : W40 → W40) (q : TileRegs) (i : Nat) : TileRegs :=
  if (q.getA a i).frozen then q else q.setA a i { q.getA a i with re := f (q.getA a i).re, im := f (q.getA a i).im }

theorem scaleLane_one (a : Nat) (f : W40 → W40) (q : TileRegs) (i : Nat) : q.OneLane (q.scaleLane a f i) a i := by
  unfold TileRegs.scaleLane; split
  · exact .refl ..
  · exact .setA ..

theorem scaleLane_sat (a : Nat) (f : W40 → W40) (q : TileRegs) (i : Nat) : (q.scaleLane a f i).accSat = q.accSat := by
  unfold TileRegs.scaleLane; split <;> rfl

theorem scaleLane_lane (a : Nat) (f : W40 → W40) (q : TileRegs) (i : Nat) : (q.scaleLane a f i).getA a i
    = if (q.getA a i).frozen then q.getA a i else ⟨f (q.getA a i).re, f (q.getA a i).im, false⟩ := by
  unfold TileRegs.scaleLane; split
  · rfl
  next h =>
    rw [TileRegs.getA_setA, if_pos rfl]
    exact congrArg (AccLane.mk _ _) (Bool.eq_false_of_not_eq_true h)

theorem ascale_lanes (r : TileRegs) (a k : Nat) (round : Bool) : r.ascale a k round
    = r.lanes (fun q i => q.scaleLane a (fun x => BitVec.ofInt 40 (if round then roundShift x.toInt k else x.toInt / 2 ^ k)) i) := rfl

/-- ASCALE, lane by lane: a frozen one stays. -/
theorem ascale_rule (r : TileRegs) {a : Nat} (ha : a < 8) (k : Nat) (round : Bool) (f : W40 → W40)
    (hf : f = fun x => BitVec.ofInt 40 (if round then roundShift x.toInt k else x.toInt / 2 ^ k)) :
    r.OnlyAcc (r.ascale a k round) a ∧ (r.ascale a k round).accSat = r.accSat
    ∧ ∀ i < 16, (r.ascale a k round).getA a i = if (r.getA a i).frozen then r.getA a i else ⟨f (r.getA a i).re, f (r.getA a i).im, false⟩ := by
  rw [ascale_lanes, ← hf]
  obtain ⟨ho, hl⟩ := TileRegs.lanes_rule ha r (fun q i => q.scaleLane a f i)
    (fun r q i => q.getA a i = if (r.getA a i).frozen then r.getA a i else ⟨f (r.getA a i).re, f (r.getA a i).im, false⟩)
    (fun q i _ => scaleLane_one a f q i) (fun q i _ => scaleLane_lane a f q i)
    (fun r r' q q' i _ h h1 h2 _ _ => by rw [h2, h1]; exact h)
  exact ⟨ho, lanes_accSat (fun _ _ => scaleLane_sat ..) r, hl⟩

/-! ## Multiply-accumulate -/

/-- A pass that joins a product to each lane follows the rule of R83 and R84. -/
theorem accRule_lanes (r : TileRegs) (a : AReg) (sfx : Nat) (f : Nat → Int × Int) {q : TileRegs}
    (hq : q = r.lanes (fun q i => q.accAdd a.toNat i sfx (f i).1 (f i).2)) :
    r.OnlyAcc q a.toNat ∧ ∀ i < 16, r.AccRule q a.toNat i sfx (f i).1 (f i).2 := by
  subst hq; exact TileRegs.lanes_acc r a.isLt sfx f

/-- An illegal operand of slot X stops the tile (R103). -/
theorem exec_slotX_fault {c : Instr} {s : State} {d t n : Nat} {dst : List RegId} {f : State → TileRegs → Res} (h : s.readyX d t = true)
    (he : exec c s = .next (s.slotX d t false dst f)) (hf : f (s.inX d t) (s.regsX d t) = .fault (s.inX d t) n) :
    exec c s = .next ((s.inX d t).tileFault d t n) := by
  rw [he, State.slotX_fault h hf]

theorem elemMul_plain {sfx : Nat} (h : sfx ≠ 3) (x y : W512) (i j : Nat) : elemMul sfx x y i j
    = (elemRe x i * elemRe y j - elemIm x i * elemIm y j, elemRe x i * elemIm y j + elemIm x i * elemRe y j) := by
  simp only [elemMul, cmul, if_neg h]

theorem elemMul_conj (x y : W512) (i j : Nat) : elemMul 3 x y i j
    = (elemRe x i * elemRe y j + elemIm x i * elemIm y j, elemIm x i * elemRe y j - elemRe x i * elemIm y j) := by
  simp only [elemMul, cmul, if_true, Int.mul_neg, Int.sub_neg]
  rw [Int.add_comm (-_), ← Int.sub_eq_add_neg]

/-- Settles O32. -/
theorem macAndAccumulators : Obligations.MacAndAccumulators := by
  unfold Obligations.MacAndAccumulators
  refine ⟨?_, ?_, ?_, ?_, ?_, ?_, ?_, ?_, ?_⟩
  · rintro d t ad sfx va vb e s r h rfl
    obtain ⟨h1, h2⟩ := accRule_lanes (s.regsX d t) ad sfx.toNat
      (fun i => elemMul sfx.toNat ((s.regsX d t).getV va.toNat) ((s.regsX d t).getV vb.toNat) i i) rfl
    obtain ⟨h3, h4⟩ := accRule_lanes (s.regsX d t) ad sfx.toNat
      (fun i => elemMul sfx.toNat ((s.regsX d t).getV va.toNat) ((s.regsX d t).getV vb.toNat) i e.toNat) rfl
    exact ⟨⟨_, issuesX_opX h rfl rfl, h1, fun i hi p hp => hp ▸ h2 i hi⟩, ⟨_, issuesX_opX h rfl rfl, h3, fun i hi p hp => hp ▸ h4 i hi⟩⟩
  · rintro d t ad sfx va vb s r h rfl hva hvb
    obtain ⟨h1, h2⟩ := accRule_lanes (s.regsX d t) ad sfx.toNat (fun i =>
      ((elemMul sfx.toNat ((s.regsX d t).getV va.toNat) ((s.regsX d t).getV vb.toNat) i i).1
        + (elemMul sfx.toNat ((s.regsX d t).getV (va.toNat + 1)) ((s.regsX d t).getV (vb.toNat + 1)) i i).1,
       (elemMul sfx.toNat ((s.regsX d t).getV va.toNat) ((s.regsX d t).getV vb.toNat) i i).2
        + (elemMul sfx.toNat ((s.regsX d t).getV (va.toNat + 1)) ((s.regsX d t).getV (vb.toNat + 1)) i i).2)) rfl
    exact ⟨_, issuesX_slotX h rfl (if_neg (not_or.mpr ⟨hva, hvb⟩)), h1, fun i hi p p2 hp hp2 => by rw [hp, hp2]; exact h2 i hi⟩
  · rintro d t ad sfx va vb e s r h rfl hva he
    obtain ⟨h1, h2⟩ := accRule_lanes (s.regsX d t) ad sfx.toNat (fun i =>
      ((elemMul sfx.toNat ((s.regsX d t).getV va.toNat) ((s.regsX d t).getV vb.toNat) i e.toNat).1
        + (elemMul sfx.toNat ((s.regsX d t).getV (va.toNat + 1)) ((s.regsX d t).getV vb.toNat) i (e.toNat + 1)).1,
       (elemMul sfx.toNat ((s.regsX d t).getV va.toNat) ((s.regsX d t).getV vb.toNat) i e.toNat).2
        + (elemMul sfx.toNat ((s.regsX d t).getV (va.toNat + 1)) ((s.regsX d t).getV vb.toNat) i (e.toNat + 1)).2)) rfl
    exact ⟨_, issuesX_slotX h rfl (if_neg (not_or.mpr ⟨hva, by omega⟩)), h1, fun i hi p p2 hp hp2 => by rw [hp, hp2]; exact h2 i hi⟩
  · intro d t ad sfx va vb e s h
    exact ⟨fun hv => exec_slotX_fault h rfl (if_pos hv), fun hv => exec_slotX_fault h rfl (if_pos hv)⟩
  · exact fun x y sfx i j => ⟨fun h => elemMul_plain h x y i j, elemMul_conj x y i j⟩
  · rintro d t ad src va k s r h rfl
    exact ⟨⟨_, issuesX_opX h rfl rfl, lanes_setA _ ad.isLt _ _ rfl⟩, ⟨_, issuesX_opX h rfl rfl, lanes_setA _ ad.isLt _ _ rfl⟩,
      ⟨_, issuesX_opX h rfl rfl, lanes_setA _ ad.isLt _ _ rfl⟩⟩
  · rintro d t ad src s r h rfl
    exact ⟨_, issuesX_opX h rfl rfl, accRule_lanes (s.regsX d t) ad 0
      (fun i => (((s.regsX d t).getA src.toNat i).re.toInt, ((s.regsX d t).getA src.toNat i).im.toInt)) rfl⟩
  · rintro d t ad k m round s r f h rfl hk0 hk8 hround hf
    have hk : ¬ (k = 0 ∨ 8 < k.toNat) := not_or.mpr ⟨hk0, by omega⟩
    refine ⟨(s.regsX d t).ascale ad.toNat k.toNat round, ?_, ascale_rule _ ad.isLt _ _ f hf⟩
    rw [hround]
    cases m with
    | true => exact issuesX_slotX (c := .ascale d t false ad k) h rfl (if_neg hk)
    | false => exact issuesX_slotX (c := .ascaleT d t false ad k) h rfl (if_neg hk)
  · intro d t ad k s h hk
    exact ⟨exec_slotX_fault h rfl (if_pos hk), exec_slotX_fault h rfl (if_pos hk)⟩

end Sys2Proof.Machine
end

section
/-! The addressing modes of a tile's loads and stores (R87 to R89). -/

namespace Sys2Proof.Machine

open Sys2Proof

/-! ## The tests of R89 -/

section
variable {r : TileRegs} {pn mode : Nat} {imm : W16} {n size : Nat} {sc : Bool} {l : List Int} {p : W32}

theorem addressOf_fault {f : Nat} (h : r.address pn mode imm n sc = (l, p, some f)) :
    r.addressOf pn mode imm n size sc = .fault f := by
  unfold TileRegs.addressOf; rw [h]

theorem addressOf_ok (h : r.address pn mode imm n sc = (l, p, none)) (ha : ∀ x ∈ l, x % (size : Int) = 0)
    (hr : ∀ x ∈ l, 0 ≤ x ∧ x + size ≤ 0x40000) : r.addressOf pn mode imm n size sc = .ok (l.map Int.toNat) p := by
  unfold TileRegs.addressOf
  rw [h]
  dsimp only
  rw [if_neg, if_neg]
  · intro hx
    obtain ⟨x, hm, hx⟩ := List.any_eq_true.mp hx
    have := hr x hm
    simp only [Bool.or_eq_true, decide_eq_true_eq] at hx
    omega
  · intro hx
    obtain ⟨x, hm, hx⟩ := List.any_eq_true.mp hx
    exact (decide_eq_true_eq.mp hx) (ha x hm)

theorem addressOf_misaligned (h : r.address pn mode imm n sc = (l, p, none)) {x : Int} (hx : x ∈ l) (ha : x % (size : Int) ≠ 0) :
    r.addressOf pn mode imm n size sc = .fault 2 := by
  unfold TileRegs.addressOf
  rw [h]
  exact if_pos (List.any_eq_true.mpr ⟨x, hx, decide_eq_true ha⟩)

theorem addressOf_outside (h : r.address pn mode imm n sc = (l, p, none)) (ha : ∀ x ∈ l, x % (size : Int) = 0) {x : Int} (hx : x ∈ l)
    (ho : x < 0 ∨ 0x40000 < x + size) : r.addressOf pn mode imm n size sc = .fault 3 := by
  unfold TileRegs.addressOf
  rw [h]
  dsimp only
  rw [if_neg, if_pos (List.any_eq_true.mpr ⟨x, hx, by simpa using ho⟩)]
  intro hm
  obtain ⟨y, hy, hm⟩ := List.any_eq_true.mp hm
  exact (decide_eq_true_eq.mp hm) (ha y hy)

end

/-! ## The modes -/

/-- The addresses of n consecutive elements from p on. -/
def linearAddrs (p n : Nat) : List Int := (List.range n).map (fun i => ((p + 4 * i : Nat) : Int))

theorem mem_linearAddrs {p n : Nat} {x : Int} : x ∈ linearAddrs p n ↔ ∃ i < n, ((p + 4 * i : Nat) : Int) = x := by
  simp [linearAddrs]

theorem linearAddrs_toNat (p n : Nat) : (linearAddrs p n).map Int.toNat = (List.range n).map (fun i => p + 4 * i) := by
  unfold linearAddrs
  rw [List.map_map]
  rfl

theorem address_linear {r : TileRegs} {pn mode : Nat} (h : mode = 0 ∨ mode = 1 ∧ r.getL pn = 0) (imm : W16) (n : Nat) (sc : Bool) :
    r.address pn mode imm n sc = (linearAddrs (r.getP pn).toNat n, w32 (((r.getP pn).toNat : Int) + imm.toInt), none) := by
  obtain rfl | ⟨rfl, hl⟩ := h
  · rfl
  · exact if_pos (c := (r.getL pn).toNat = 0) (by rw [hl]; rfl)

/-- Elements in a line that are aligned and inside pass the tests of R89. -/
theorem addressOf_linear {r : TileRegs} {pn mode p n : Nat} {imm : W16} {sc : Bool} {q : W32}
    (h : r.address pn mode imm n sc = (linearAddrs p n, q, none)) (ha : p % 4 = 0) (hr : p + 4 * n ≤ 0x40000) :
    r.addressOf pn mode imm n 4 sc = .ok ((List.range n).map (fun i => p + 4 * i)) q := by
  rw [← linearAddrs_toNat]
  refine addressOf_ok h (fun x hx => ?_) (fun x hx => ?_) <;>
  · obtain ⟨i, hi, rfl⟩ := mem_linearAddrs.mp hx
    omega

theorem moduloFault_none {p b l : Nat} (h1 : l % 4 = 0) (h2 : l ≤ 262144) (h3 : b ≤ p) (h4 : p < b + l) : moduloFault p b l = none := by
  unfold moduloFault
  rw [if_neg (by omega), if_neg (by omega)]

theorem moduloFault_align {p b l : Nat} (h : l % 4 ≠ 0) : moduloFault p b l = some 2 := if_pos h

theorem moduloFault_range {p b l : Nat} (h1 : l % 4 = 0) (h : 262144 < l ∨ p < b ∨ b + l ≤ p) : moduloFault p b l = some 3 := by
  unfold moduloFault
  rw [if_neg (by omega), if_pos h]

theorem address_modulo {r : TileRegs} {pn : Nat} (imm : W16) (n : Nat) (sc : Bool) (hl : (r.getL pn).toNat ≠ 0)
    (hm : moduloFault (r.getP pn).toNat (r.getB pn).toNat (r.getL pn).toNat = none) :
    r.address pn 1 imm n sc = ((List.range n).map (fun i => moduloAt (r.getP pn).toNat (r.getB pn).toNat (r.getL pn).toNat ((4 * i : Nat) : Int)),
      w32 (moduloAt (r.getP pn).toNat (r.getB pn).toNat (r.getL pn).toNat imm.toInt), none) := by
  unfold TileRegs.address
  dsimp only
  rw [if_neg hl, hm]
  rfl

theorem address_modulo_fault {r : TileRegs} {pn f : Nat} (imm : W16) (n : Nat) (sc : Bool) (hl : (r.getL pn).toNat ≠ 0)
    (hm : moduloFault (r.getP pn).toNat (r.getB pn).toNat (r.getL pn).toNat = some f) : r.address pn 1 imm n sc = ([], 0, some f) := by
  unfold TileRegs.address
  dsimp only
  rw [if_neg hl, hm]
  rfl

/-- The modulo rule stays within the buffer: as a natural number. -/
theorem moduloAt_nat {p b l i : Nat} (hb : b ≤ p) : moduloAt p b l ((i : Nat) : Int) = ((b + (p - b + i) % l : Nat) : Int) := by
  unfold moduloAt
  push_cast [Nat.cast_sub hb]
  rfl

theorem modulo_aligned {b l m : Nat} (hl : l % 4 = 0) (hb : b % 4 = 0) (hm : m % 4 = 0) : (b + m % l) % 4 = 0 := by
  have := Nat.mod_mod_of_dvd m (Nat.dvd_of_mod_eq_zero hl)
  omega

theorem modulo_inside {b l m : Nat} (hl0 : l ≠ 0) (hl : l % 4 = 0) (hm : m % 4 = 0) : b + m % l + 4 ≤ b + l := by
  have := Nat.mod_mod_of_dvd m (Nat.dvd_of_mod_eq_zero hl)
  have := Nat.mod_lt m (Nat.pos_of_ne_zero hl0)
  omega

theorem log2Of_pow : ∀ k, k ≤ 18 → 3 ≤ k → log2Of (2 ^ k) = some k := by decide

theorem log2Of_spec {l k : Nat} (h : log2Of l = some k) : 3 ≤ k ∧ k ≤ 18 ∧ l = 2 ^ k := by
  have hm := List.mem_of_find?_eq_some h
  have hp := List.find?_some h
  simp only [List.mem_map, List.mem_range] at hm
  obtain ⟨j, hj, rfl⟩ := hm
  exact ⟨by omega, by omega, of_decide_eq_true hp⟩

theorem address_reversed {r : TileRegs} {pn k : Nat} (imm : W16) (n : Nat) (sc : Bool) (hl : log2Of (r.getL pn).toNat = some k)
    (h : ¬ ((r.getP pn).toNat < (r.getB pn).toNat ∨ (r.getB pn).toNat + (r.getL pn).toNat ≤ (r.getP pn).toNat)) :
    r.address pn 2 imm n sc = (linearAddrs (r.getP pn).toNat n,
      w32 (((r.getB pn).toNat + revadd ((r.getP pn).toNat - (r.getB pn).toNat) imm.toInt k : Nat) : Int), none) := by
  unfold TileRegs.address
  dsimp only
  rw [hl]
  exact if_neg h

theorem address_reversed_fault {r : TileRegs} {pn : Nat} (imm : W16) (n : Nat) (sc : Bool)
    (h : log2Of (r.getL pn).toNat = none ∨ (r.getP pn).toNat < (r.getB pn).toNat ∨ (r.getB pn).toNat + (r.getL pn).toNat ≤ (r.getP pn).toNat) :
    r.address pn 2 imm n sc = ([], 0, some 3) := by
  unfold TileRegs.address
  dsimp only
  cases hl : log2Of (r.getL pn).toNat with
  | none => rfl
  | some k =>
    rw [hl] at h
    exact if_pos (h.resolve_left (Option.some_ne_none k))

theorem address_strided {r : TileRegs} {pn : Nat} {imm : W16} (n : Nat) (h : (r.getS (bitsOf imm 15 11)).toInt % 4 = 0) :
    r.address pn 3 imm n false = ((List.range n).map (fun i : Nat => ((r.getP pn).toNat : Int) + (i : Int) * (r.getS (bitsOf imm 15 11)).toInt),
      w32 (((r.getP pn).toNat : Int) + 4 * (imm.extractLsb' 0 11).toInt), none) := by
  unfold TileRegs.address
  dsimp only
  rw [if_neg Bool.false_ne_true, if_neg (not_not.mpr h)]
  rfl

theorem address_strided_fault {r : TileRegs} {pn : Nat} {imm : W16} (n : Nat) (h : (r.getS (bitsOf imm 15 11)).toInt % 4 ≠ 0) :
    r.address pn 3 imm n false = ([], 0, some 2) := by
  unfold TileRegs.address
  dsimp only
  rw [if_neg Bool.false_ne_true, if_pos h]
  rfl

/-- Settles O33. -/
theorem addressing : Obligations.Addressing := by
  unfold Obligations.Addressing
  refine ⟨?_, ?_, ?_, ?_, ?_⟩
  · rintro r pn n p mode imm sc rfl hm
    have he := address_linear hm imm n sc
    refine ⟨addressOf_linear he, fun hn ha => ?_, fun hn ha hr => ?_⟩
    · exact addressOf_misaligned he (mem_linearAddrs.mpr ⟨0, hn, rfl⟩) (by omega)
    · refine addressOf_outside he (fun x hx => ?_) (mem_linearAddrs.mpr ⟨n - 1, by omega, rfl⟩) (by omega)
      obtain ⟨i, _, rfl⟩ := mem_linearAddrs.mp hx
      omega
  · rintro r pn n p b l imm sc rfl rfl rfl h0
    refine ⟨fun h1 h2 h3 h4 h5 h6 h7 => ?_, fun h1 => addressOf_fault (address_modulo_fault imm n sc h0 (moduloFault_align h1)),
      fun h1 h2 => addressOf_fault (address_modulo_fault imm n sc h0 (moduloFault_range h1 h2))⟩
    have he := address_modulo imm n sc h0 (moduloFault_none h1 h2 h3 h4)
    simp only [moduloAt_nat h3] at he
    rw [addressOf_ok he, List.map_map]
    · rfl
    · intro x hx
      simp only [List.mem_map, List.mem_range] at hx
      obtain ⟨i, _, rfl⟩ := hx
      have := modulo_aligned (m := (r.getP pn).toNat - (r.getB pn).toNat + 4 * i) h1 h5 (by omega)
      omega
    · intro x hx
      simp only [List.mem_map, List.mem_range] at hx
      obtain ⟨i, _, rfl⟩ := hx
      have := modulo_inside (b := (r.getB pn).toNat) (m := (r.getP pn).toNat - (r.getB pn).toNat + 4 * i) h0 h1 (by omega)
      omega
  · rintro r pn n p b l k imm sc rfl rfl rfl
    refine ⟨fun hl hk3 hk18 hb hp ha hr => ?_, fun h => ?_⟩
    · exact addressOf_linear (address_reversed imm n sc (hl ▸ log2Of_pow k hk18 hk3) (by omega)) ha hr
    · refine addressOf_fault (address_reversed_fault imm n sc ?_)
      obtain h | h := h
      · left
        rw [Option.eq_none_iff_forall_ne_some]
        intro j hj
        obtain ⟨h3, h18, hl⟩ := log2Of_spec hj
        exact h j h3 h18 hl
      · exact .inr h
  · intro k h3 h6
    interval_cases k <;> decide
  · rintro r pn n p imm d rfl rfl
    refine ⟨fun hd ha hr => ?_, fun hd => addressOf_fault (address_strided_fault n hd), addressOf_fault (l := []) (p := 0) rfl⟩
    rw [addressOf_ok (address_strided n hd), List.map_map]
    · rfl
    · intro x hx
      simp only [List.mem_map, List.mem_range] at hx
      obtain ⟨i, _, rfl⟩ := hx
      have : ((i : Int) * (r.getS (bitsOf imm 15 11)).toInt) % 4 = 0 := by rw [Int.mul_emod, hd]; simp
      omega
    · intro x hx
      simp only [List.mem_map, List.mem_range] at hx
      obtain ⟨i, hi, rfl⟩ := hx
      exact hr i hi

end Sys2Proof.Machine
end

section
/-! The words a tile's load reads (R99, R166): a word whose syndrome is 0 may still hold bits that flipped. -/

namespace Sys2Proof.Machine

open Sys2Proof

/-- Word 0 of tile 0 of cluster 0 valid, with syndrome 0, its stored byte 0 and its bit 0 flipped: an error the code does not see. -/
def flippedWord : State :=
  { State.reset with
    mem := { cells := [], valid := [(tileAddr 0 0 0, true)], ecc := [], flip := [(tileAddr 0 0 0, 1)] } }

theorem flippedWord_clean : flippedWord.isValid (tileAddr 0 0 0) = true ∧ flippedWord.syndrome (tileAddr 0 0 0) = 0
    ∧ flippedWord.mergeLines (memLoc (tileAddr 0 0 0)).unit = [] := by
  refine ⟨?_, rfl, rfl⟩
  simp [State.isValid, flippedWord, tabGet]

theorem flippedWord_stored : flippedWord.storedWord (tileAddr 0 0 0) = 0 := by rfl

/-- What a load of that word returns: the bits the cells hold. -/
theorem flippedWord_read : (flippedWord.readElems 0 0 [0]).2.1 = [1] := by rfl

/-- Refutes O34: the elements of a word are its cells with the bits in error, and a syndrome of 0 does not rule such bits out. The clause
of the elements read lacks the hypothesis that no bit of the word flipped. -/
theorem not_loadsAndStores : ¬ Obligations.LoadsAndStores := by
  unfold Obligations.LoadsAndStores
  rintro ⟨_, _, hread, _⟩
  have h := hread 0 0 [0] flippedWord (fun x hx => by rw [List.mem_singleton.mp hx]; exact flippedWord_clean)
  have h1 := congrArg (fun r => r.2.1) h
  rw [flippedWord_read] at h1
  dsimp only [List.map] at h1
  rw [if_pos (by decide), show (0 : Nat) - 0 % 8 = 0 from rfl, flippedWord_stored] at h1
  exact absurd h1 (by decide)

end Sys2Proof.Machine
end

section
/-! Slot Y of a tile: the scalar and address registers and the control registers (R81, R87 to R90, R105). -/

namespace Sys2Proof.Machine

open Sys2Proof

/-! ## The state slot Y acts in -/

/-- Beside the registers kept for a fault and the note of what slot X wrote, the tile is as it was. -/
theorem inY_tile (s : State) (d t : Nat) : ∃ sn xd, (s.inY d t).tile d t = { s.tile d t with snap := sn, xDst := xd } := by
  unfold State.inY
  by_cases h : (s.tile d t).snap.isSome = true
  · rw [if_pos h]
    exact ⟨_, _, rfl⟩
  · rw [if_neg h, State.tile_setTile]
    exact ⟨_, _, rfl⟩

theorem inY_sluice (s : State) (d t : Nat) : (s.inY d t).sluice = s.sluice := by
  unfold State.inY
  by_cases h : (s.tile d t).snap.isSome = true
  · rw [if_pos h]
  · rw [if_neg h, setTile_sluice]
    exact (State.readChip_frame s _).sluice rfl

theorem inY_dmaStat (s : State) (d t : Nat) : ((s.inY d t).tile d t).dmaStat = (s.tile d t).dmaStat := by
  obtain ⟨sn, xd, h⟩ := inY_tile s d t
  rw [h]
  rfl

theorem inY_vaneSince (s : State) (d t n : Nat) : (s.inY d t).vaneSince n ((s.inY d t).tile d t).startCyc
    = s.vaneSince n (s.tile d t).startCyc := by
  obtain ⟨sn, xd, h⟩ := inY_tile s d t
  unfold State.vaneSince State.vaneNow
  rw [h, inY_sluice]

/-- An illegal operand of slot Y stops the tile (R103). -/
theorem exec_slotY_fault {c : Instr} {s : State} {d t n : Nat} {dst : List RegId} {f : State → TileRegs → Res} (h : s.readyY d t = true)
    (hc : s.clashes d t dst = false) (he : exec c s = .next (s.slotY d t true dst f))
    (hf : f (s.inY d t) (s.regsY d t) = .fault (s.inY d t) n) : exec c s = .next ((s.inY d t).tileFault d t n) := by
  rw [he, State.slotY_fault h hc hf]

/-! ## Arithmetic -/

theorem scalarMul_fits {a b : W32} (h1 : -2147483648 ≤ a.toInt * b.toInt) (h2 : a.toInt * b.toInt ≤ 2147483647) :
    (scalarMul a b).toInt = a.toInt * b.toInt := by
  unfold scalarMul
  dsimp only
  rw [if_pos ⟨h1, h2⟩, BitVec.toInt_ofInt]
  apply Int.bmod_eq_of_le <;> omega

theorem immValue_toNat (imm : W16) : (immValue imm).toNat
    = (if bit imm 15 then (Config.immExtend imm).toNat else 0) * 65536 + imm.toNat := by
  unfold immValue
  rw [BitVec.toNat_append, ← Nat.shiftLeft_add_eq_or_of_lt imm.isLt, Nat.shiftLeft_eq, apply_ite BitVec.toNat]
  rfl

theorem bit15_of_lt {imm : W16} (h : imm.toNat < 32768) : bit imm 15 = false := Nat.testBit_lt_two_pow h

theorem movePtr_plain {r : TileRegs} {pn : Nat} (h : (r.getL pn).toNat = 0) (off : Int) :
    r.movePtr pn off = (none, w32 (((r.getP pn).toNat : Int) + off)) := if_pos h

theorem movePtr_modulo {r : TileRegs} {pn : Nat} (h : (r.getL pn).toNat ≠ 0) (off : Int) :
    r.movePtr pn off = (moduloFault (r.getP pn).toNat (r.getB pn).toNat (r.getL pn).toNat,
      w32 (moduloAt (r.getP pn).toNat (r.getB pn).toNat (r.getL pn).toNat off)) := if_neg h

/-! ## PADD under modulo -/

theorem issuesY_paddM {d : Clu} {t : Tix} {pn : PReg} {imm : W16} {s : State} {p : W32} (h : s.readyY d t = true)
    (hc : s.clashes d t [.p pn.toNat] = false) (hp : (s.regsY d t).movePtr pn.toNat imm.toInt = (none, p)) :
    IssuesY (.paddM d t true pn imm) s d t ((s.tile d t).regs.setP pn.toNat p) .next :=
  issuesY_slotY (g := fun q => q.setP pn.toNat p) h hc rfl (by rw [hp])

theorem exec_paddM_fault {d : Clu} {t : Tix} {pn : PReg} {imm : W16} {s : State} {n : Nat} {p : W32} (h : s.readyY d t = true)
    (hc : s.clashes d t [.p pn.toNat] = false) (hp : (s.regsY d t).movePtr pn.toNat imm.toInt = (some n, p)) :
    exec (.paddM d t true pn imm) s = .next ((s.inY d t).tileFault d t n) :=
  exec_slotY_fault h hc rfl (by rw [hp])

/-! ## DMA_STAT -/

theorem armed_lt (x : Tile) : (List.range 4).foldl (fun (n : Nat) w => n + b2n (x.window w).armed * 2 ^ w) 0 < 16 := by
  have hb (b : Bool) : b2n b ≤ 1 := by cases b <;> decide
  have h0 := hb (x.window 0).armed
  have h1 := hb (x.window 1).armed
  have h2 := hb (x.window 2).armed
  have h3 := hb (x.window 3).armed
  simp only [show List.range 4 = [0, 1, 2, 3] from rfl, List.foldl_cons, List.foldl_nil]
  omega

theorem dmaStat_toNat (x : Tile) : ∃ a < 16, x.dmaStat.toNat
    = ((8 - x.dma.length) * 0x1000000 + x.winRefused.toNat * 0x100000 + a * 0x10000 + x.outstanding.toNat) := by
  refine ⟨_, armed_lt x, ?_⟩
  have h1 := x.winRefused.isLt
  have h2 := x.outstanding.isLt
  have h3 := armed_lt x
  unfold Tile.dmaStat
  rw [BitVec.toNat_ofNat]
  exact Nat.mod_eq_of_lt (by omega)

theorem dmaStat_fields (x : Tile) : bitsOf x.dmaStat 7 0 = x.outstanding.toNat ∧ bitsOf x.dmaStat 23 20 = x.winRefused.toNat
    ∧ bitsOf x.dmaStat 31 24 = 8 - x.dma.length := by
  obtain ⟨a, ha, hn⟩ := dmaStat_toNat x
  have h1 := x.winRefused.isLt
  have h2 := x.outstanding.isLt
  unfold bitsOf
  rw [hn]
  simp only [Nat.shiftRight_eq_div_pow, Nat.reducePow, Nat.reduceAdd, Nat.reduceSub]
  omega

/-! ## The control registers -/

section
variable (s : State) (d t : Nat) (r : TileRegs) {idx : W6}

theorem ctrlRead_mode (h : idx.toNat = 0) : s.ctrlRead d t r idx = BitVec.ofNat 32 (b2n r.rndReg) := if_pos h

theorem ctrlRead_depth (h : idx.toNat = 1) : s.ctrlRead d t r idx = BitVec.ofNat 32 (r.ret.length * 256 + r.loops.length) := by
  unfold State.ctrlRead
  dsimp only
  rw [if_neg (by omega), if_pos h]

theorem ctrlRead_accSat {i : Nat} (hi : i < 4) (h : idx.toNat = 4 + i) : s.ctrlRead d t r idx = r.accSat.extractLsb' (32 * i) 32 := by
  unfold State.ctrlRead
  dsimp only
  rw [if_neg (by omega), if_neg (by omega), if_pos (by omega), show idx.toNat - 4 = i by omega]

theorem ctrlRead_extSat (h : idx.toNat = 8) : s.ctrlRead d t r idx = r.extSat.setWidth 32 := by
  unfold State.ctrlRead
  dsimp only
  rw [if_neg (by omega), if_neg (by omega), if_neg (by omega), if_pos h]

theorem ctrlRead_loop {k : Nat} {l : Loop} (hk : k < 4) (hl : r.loops.reverse[k]? = some l) :
    (idx.toNat = 0x10 + k → s.ctrlRead d t r idx = l.lc) ∧ (idx.toNat = 0x14 + k → s.ctrlRead d t r idx = BitVec.ofNat 32 l.ls)
    ∧ (idx.toNat = 0x18 + k → s.ctrlRead d t r idx = BitVec.ofNat 32 l.le) := by
  unfold State.ctrlRead TileRegs.level
  dsimp only
  refine ⟨fun h => ?_, fun h => ?_, fun h => ?_⟩
  · rw [if_neg (by omega), if_neg (by omega), if_neg (by omega), if_neg (by omega), if_pos (by omega),
      show idx.toNat - 0x10 = k by omega, hl]
  · rw [if_neg (by omega), if_neg (by omega), if_neg (by omega), if_neg (by omega), if_neg (by omega), if_pos (by omega),
      show idx.toNat - 0x14 = k by omega, hl]
  · rw [if_neg (by omega), if_neg (by omega), if_neg (by omega), if_neg (by omega), if_neg (by omega), if_neg (by omega),
      if_pos (by omega), show idx.toNat - 0x18 = k by omega, hl]

theorem ctrlRead_cyc (h : idx.toNat = 0x20) : s.ctrlRead d t r idx = BitVec.ofNat 32 (s.vaneSince d (s.tile d t).startCyc) := by
  unfold State.ctrlRead
  dsimp only
  rw [if_neg (by omega), if_neg (by omega), if_neg (by omega), if_neg (by omega), if_neg (by omega), if_neg (by omega),
    if_neg (by omega), if_pos h]

theorem ctrlRead_dmaStat (h : idx.toNat = 0x21) : s.ctrlRead d t r idx = (s.tile d t).dmaStat := by
  unfold State.ctrlRead
  dsimp only
  rw [if_neg (by omega), if_neg (by omega), if_neg (by omega), if_neg (by omega), if_neg (by omega), if_neg (by omega),
    if_neg (by omega), if_neg (by omega), if_pos h]

end

theorem w1cBits_bit {w : Nat} (now v set : BitVec w) {n : Nat} (h : n < w) :
    (w1cBits now v set).getLsbD n = (now.getLsbD n && !v.getLsbD n || set.getLsbD n) := by
  unfold w1cBits
  rw [BitVec.getLsbD_or, BitVec.getLsbD_and, BitVec.getLsbD_not, decide_eq_true h, Bool.true_and]

/-- The bits of word i of ACC_SAT that a write of v names. -/
theorem accWord_bit (v : W32) (i : Nat) {n : Nat} (h : n < 128) :
    (v.setWidth 128 <<< (32 * i)).getLsbD n = (decide (32 * i ≤ n) && v.getLsbD (n - 32 * i)) := by
  rw [BitVec.getLsbD_shiftLeft, BitVec.getLsbD_setWidth, decide_eq_true h, decide_eq_true (show n - 32 * i < 128 by omega), Bool.true_and,
    Bool.true_and, ← decide_not, decide_eq_decide.mpr (Nat.not_lt (a := n) (b := 32 * i))]

/-- Settles O35. -/
theorem scalarAndControl : Obligations.ScalarAndControl := by
  unfold Obligations.ScalarAndControl
  refine ⟨?_, ?_, ?_, ?_, ?_, ?_, ?_⟩
  · rintro d t sd sa sb s r q x h hc rfl rfl rfl
    exact ⟨_, issuesY_opY h hc rfl rfl, scalarMul_fits⟩
  · intro d t sd imm s h hc
    refine ⟨_, issuesY_opY h hc rfl rfl, ?_, fun hi => ?_⟩
    · have := imm.isLt
      rw [immValue_toNat]
      omega
    · rw [immValue_toNat, bit15_of_lt hi, if_neg Bool.false_ne_true, Nat.zero_mul, Nat.zero_add]
  · intro d t fn sd sa sb s h hc
    exact issuesY_opY h hc rfl rfl
  · rintro d t pn sa imm s r q h rfl rfl
    exact ⟨fun hc => ⟨issuesY_opY h hc rfl rfl, issuesY_opY h hc rfl rfl⟩, fun hc => issuesY_opY h hc rfl rfl,
      fun hc => issuesY_opY h hc rfl rfl⟩
  · rintro d t pn imm s q p b l h hc rfl rfl rfl rfl
    refine ⟨fun hl => issuesY_paddM h hc (movePtr_plain hl _), fun h0 h1 h2 h3 h4 => ?_, fun h1 => ?_, fun h0 h1 h2 => ?_⟩
    · exact issuesY_paddM h hc ((movePtr_modulo h0 _).trans (by rw [moduloFault_none h1 h2 h3 h4, moduloAt]))
    · exact exec_paddM_fault h hc ((movePtr_modulo (by omega) _).trans (by rw [moduloFault_align h1]))
    · exact exec_paddM_fault h hc ((movePtr_modulo h0 _).trans (by rw [moduloFault_range h1 h2]))
  · rintro d t sd idx s r h hc rfl
    refine ⟨(s.inY d t).ctrlRead d t (s.regsY d t) idx,
      issuesY_slotY (g := fun q => q.setS sd.toNat ((s.inY d t).ctrlRead d t (s.regsY d t) idx)) h hc rfl rfl, ?_, ?_, ?_, ?_, ?_, ?_, ?_⟩
    · rintro rfl
      rw [ctrlRead_mode _ _ _ _ rfl]
      cases (s.regsY d t).rndReg <;> rfl
    · rintro rfl
      rw [ctrlRead_cyc _ _ _ _ rfl, inY_vaneSince, BitVec.toNat_ofNat]
    · rintro rfl
      rw [ctrlRead_depth _ _ _ _ rfl, BitVec.toNat_ofNat]
    · exact fun i hi hx => ctrlRead_accSat _ _ _ _ hi hx
    · rintro rfl
      have := (s.regsY d t).extSat.isLt
      rw [ctrlRead_extSat _ _ _ _ rfl, BitVec.toNat_setWidth]
      exact Nat.mod_eq_of_lt (by omega)
    · exact fun k hk l hl => ctrlRead_loop _ _ _ _ hk hl
    · rintro rfl
      obtain ⟨h1, h2, h3⟩ := dmaStat_fields (s.tile d t)
      rw [ctrlRead_dmaStat _ _ _ _ rfl, inY_dmaStat]
      exact ⟨h1, h2, fun _ => h3⟩
  · rintro d t idx sa s v r q h hc rfl rfl rfl
    refine ⟨?_, fun i hi hx => ?_, ?_, ?_, fun h0 h48 h21 => ?_⟩
    · rintro rfl
      exact issuesY_slotY (g := fun q => { q with rndReg := bit ((s.regsY d t).getS sa.toNat) 0 }) h hc rfl rfl
    · refine ⟨_, issuesY_slotY (g := fun q => { q with accSat := w1cBits q.accSat (((s.regsY d t).getS sa.toNat).setWidth 128 <<< (32 * i)) q.accNew })
        h hc rfl ?_, fun n hn => ?_⟩
      · dsimp only
        rw [if_neg (by omega), if_pos (by omega), show idx.toNat - 4 = i by omega]
      · rw [w1cBits_bit _ _ _ hn, accWord_bit _ _ hn]
    · rintro rfl
      exact ⟨_, issuesY_slotY (g := fun q => { q with extSat := w1cBits q.extSat (((s.regsY d t).getS sa.toNat).setWidth 16) q.extNew })
        h hc rfl rfl, fun n hn => by rw [w1cBits_bit _ _ _ hn, BitVec.getLsbD_setWidth, decide_eq_true hn, Bool.true_and]⟩
    · intro hi
      have hx : idx.toNat = 0x21 := congrArg BitVec.toNat hi
      obtain ⟨sn, xd, ht⟩ := inY_tile s d t
      have hw : (s.tile d t).winRefused = ((s.inY d t).tile d t).winRefused := by rw [ht]
      rw [hw]
      show execMovcWrite d t true idx sa s = _
      unfold execMovcWrite
      rw [State.slotY_done h hc]
      dsimp only
      rw [if_neg (by omega), if_neg (by omega), if_neg (by omega), if_pos hx]
    · have hx : idx.toNat ≠ 0x21 := fun hn => h21 (BitVec.eq_of_toNat_eq hn)
      refine exec_slotY_fault h hc rfl ?_
      dsimp only
      rw [if_neg h0, if_neg (by omega), if_neg (by omega), if_neg hx]

end Sys2Proof.Machine
end

section
/-! Control flow of a tile: branches, calls, returns, repeats, the squash behind a transfer, the end of a bundle (R81, R82, R91 to R93,
R108, R127). -/

namespace Sys2Proof.Machine

open Sys2Proof

/-! ## The squash behind a transfer -/

/-- The tile once the squash of sq has arrived. -/
def Tile.squashed (x : Tile) (sq : Squash) : Tile :=
  (if sq.began then (sq.behind.foldl Tile.handOver x).beginBehind ((List.range sq.behind.length).map (fun i => (x.copTag + i) % 16))
    else sq.behind.foldl Tile.handOver x).squashTags ((List.range sq.behind.length).map (fun i => (x.copTag + i) % 16))

theorem squash_eq (s : State) (d t : Nat) (sq : Squash) : s.squash d t sq = s.setTile d t ((s.tile d t).squashed sq) := rfl

/-- What a tile keeps for a fault of its bundle is no concern of the coprocessor's. -/
def Tile.noting (x : Tile) (sn : Option (TileRegs × List CopOp)) (xd : List RegId) : Tile := { x with snap := sn, xDst := xd }

theorem handOver_full {x : Tile} (k : CopKind) (n : W3) (md mr ma mb : MReg) (h : 4 ≤ x.copQ.length) :
    x.handOver (.op k n md mr ma mb) = x := if_pos h

theorem handOver_op {x : Tile} (k : CopKind) (n : W3) (md mr ma mb : MReg) (h : ¬ 4 ≤ x.copQ.length) :
    x.handOver (.op k n md mr ma mb) = { x with
      copTag := (x.copTag + 1) % 16, copQ := x.copQ ++ [⟨x.copTag, k, n.toNat + 1, md.toNat, mr.toNat, ma.toNat, mb.toNat⟩] } := if_neg h

theorem handOver_noting (x : Tile) (sn : Option (TileRegs × List CopOp)) (xd : List RegId) (c : CopBehind) :
    (x.noting sn xd).handOver c = (x.handOver c).noting sn xd := by
  cases c with
  | move => rfl
  | op k n md mr ma mb =>
    by_cases h : 4 ≤ x.copQ.length
    · rw [handOver_full k n md mr ma mb h, handOver_full (x := x.noting sn xd) k n md mr ma mb h]
    · rw [handOver_op k n md mr ma mb h, handOver_op (x := x.noting sn xd) k n md mr ma mb h]
      rfl

theorem handOver_foldl_noting (l : List CopBehind) (x : Tile) (sn : Option (TileRegs × List CopOp)) (xd : List RegId) :
    l.foldl Tile.handOver (x.noting sn xd) = (l.foldl Tile.handOver x).noting sn xd := by
  induction l generalizing x with
  | nil => rfl
  | cons c l ih => rw [List.foldl_cons, handOver_noting, ih, List.foldl_cons]

theorem beginBehind_noting (x : Tile) (sn : Option (TileRegs × List CopOp)) (xd : List RegId) (tags : List Nat) :
    (x.noting sn xd).beginBehind tags = (x.beginBehind tags).noting sn xd := by
  unfold Tile.beginBehind
  dsimp only [Tile.noting]
  split
  · split <;> rfl
  · rfl

theorem squashed_noting (x : Tile) (sn : Option (TileRegs × List CopOp)) (xd : List RegId) (sq : Squash) :
    (x.noting sn xd).squashed sq = (x.squashed sq).noting sn xd := by
  unfold Tile.squashed
  rw [handOver_foldl_noting, beginBehind_noting]
  split <;> rfl

theorem handOver_regs (x : Tile) (c : CopBehind) : (x.handOver c).regs = x.regs := by
  cases c with
  | move => rfl
  | op k n md mr ma mb =>
    unfold Tile.handOver
    dsimp only
    split <;> rfl

theorem handOver_foldl_regs (l : List CopBehind) (x : Tile) : (l.foldl Tile.handOver x).regs = x.regs := by
  induction l generalizing x with
  | nil => rfl
  | cons c l ih => rw [List.foldl_cons, ih, handOver_regs]

theorem beginBehind_regs (x : Tile) (tags : List Nat) : (x.beginBehind tags).regs = x.regs := by
  unfold Tile.beginBehind
  split
  · split <;> rfl
  · rfl

theorem squashed_regs (x : Tile) (sq : Squash) : (x.squashed sq).regs = x.regs := by
  unfold Tile.squashed
  split
  · exact (beginBehind_regs _ _).trans (handOver_foldl_regs _ _)
  · exact handOver_foldl_regs _ _

/-- No operation with a squashed tag is left waiting, and a running one stops. -/
theorem squashTags_gone (x : Tile) (tags : List Nat) : (∀ o ∈ (x.squashTags tags).copQ, o.tag ∉ tags)
    ∧ ∀ o, (x.squashTags tags).copUnit = some o → o.tag ∈ tags → (x.squashTags tags).copStop = true := by
  unfold Tile.squashTags
  refine ⟨fun o ho => ?_, fun o ho ht => ?_⟩
  · have := (List.mem_filter.mp ho).2
    simpa using this
  · dsimp only at ho ⊢
    rw [ho]
    simp [ht]

/-- A transfer behind which nothing was handed over squashes nothing. -/
theorem squashed_none (x : Tile) : x.squashed {} = x := by
  unfold Tile.squashed Tile.squashTags
  cases x
  simp
  exact fun h => by split at h <;> cases h

/-- A transfer of control squashes what is behind it and ends its bundle. -/
theorem completes_squash {c : Instr} {s : State} {d t : Nat} {f : State → TileRegs → Res} {k : Ctl} (sq : Squash)
    (h : s.readyY d t = true) (he : exec c s = .next (s.slotY d t true [] f))
    (hf : f (s.inY d t) (s.regsY d t) = .done ((s.inY d t).squash d t sq) k) :
    Completes c s (fun u => (s.inY d t).TileIs u d t (((s.tile d t).squashed sq).didY (s.tile d t).regs k)) := by
  refine ⟨_, he, ?_⟩
  obtain ⟨sn, xd, ht⟩ := inY_tile s d t
  rw [State.slotY_done h (clashes_nil s d t) hf, squash_eq, show (s.inY d t).tile d t = (s.tile d t).noting sn xd from ht, squashed_noting]
  unfold State.finishBundle
  rw [State.tile_setTile]
  have hr := squashed_regs (s.tile d t) sq
  have hd : ((s.tile d t).squashed sq).didY (s.tile d t).regs k = { ((s.tile d t).squashed sq).noting sn xd with
      regs := (((s.tile d t).squashed sq).noting sn xd).regs.endBundle k, snap := none, xDst := [], stallX := false, stallY := false } := by
    rw [← hr]
    rfl
  rw [hd]
  exact (State.TileIs.setTile _ d t _).set _

theorem issuesY_transfer {c : Instr} {s : State} {d t : Nat} {f : State → TileRegs → Res} {k : Ctl} (h : s.readyY d t = true)
    (he : exec c s = .next (s.slotY d t true [] f)) (hf : f (s.inY d t) (s.regsY d t) = .done ((s.inY d t).squash d t {}) k) :
    IssuesY c s d t (s.tile d t).regs k := by
  have hc := completes_squash {} h he hf
  rw [squashed_none] at hc
  exact hc

/-! ## Conditions -/

theorem condHolds_table (c : Nat) (x : Int) : condHolds c x
    = [true, decide (x = 0), decide (x ≠ 0), decide (x < 0), decide (0 ≤ x), decide (0 < x), decide (x ≤ 0)][c]? := by
  match c with
  | 0 | 1 | 2 | 3 | 4 | 5 | 6 => rfl
  | n + 7 => rfl

theorem condHolds_none {c : Nat} (h : 7 ≤ c) (x : Int) : condHolds c x = none := by
  rw [condHolds_table]
  exact List.getElem?_eq_none h

/-! ## The end of a bundle -/

theorem endBody_loop {l : Loop} {pc : Nat} (ls : List Loop) (h : l.le = pc) (hc : 1 < l.lc.toNat) :
    endBody pc (l :: ls) = (⟨l.lc - 1, l.ls, l.le⟩ :: ls, l.ls) := by
  rw [endBody, if_pos h, if_pos hc]

theorem endBody_pop {l : Loop} {pc : Nat} (ls : List Loop) (h : l.le = pc) (hc : l.lc.toNat ≤ 1) :
    endBody pc (l :: ls) = endBody pc ls := by
  rw [endBody, if_pos h, if_neg (by omega)]

theorem endBody_away {pc : Nat} {ls : List Loop} (h : ∀ l ∈ ls, l.le ≠ pc) : endBody pc ls = (ls, (pc + 1) % 16384) := by
  induction ls with
  | nil => rfl
  | cons l ls ih =>
    rw [endBody, if_neg (h l List.mem_cons_self), ih fun m hm => h m (List.mem_cons_of_mem _ hm)]

theorem keepLoops_mem {a : Nat} {ls : List Loop} {l : Loop} (h : l ∈ keepLoops a ls) : l ∈ ls ∧ l.ls ≤ a ∧ a ≤ l.le := by
  induction ls with
  | nil => cases h
  | cons x xs ih =>
    have hx : l ∈ keepLoops a xs → l ∈ x :: xs ∧ l.ls ≤ a ∧ a ≤ l.le := fun hm => ⟨List.mem_cons_of_mem _ (ih hm).1, (ih hm).2⟩
    rw [keepLoops] at h
    split at h
    · exact hx h
    · split at h
      next hin =>
        rcases List.mem_cons.mp h with rfl | h
        · exact ⟨List.mem_cons_self, hin⟩
        · exact hx h
      · exact hx h

theorem keepLoops_all {a : Nat} {ls : List Loop} (h : ∀ l ∈ ls, l.ls ≤ a ∧ a ≤ l.le) : keepLoops a ls = ls := by
  induction ls with
  | nil => rfl
  | cons x xs ih =>
    rw [keepLoops, ih fun l hl => h l (List.mem_cons_of_mem _ hl)]
    rw [if_neg (Nat.lt_irrefl _), if_pos (h x List.mem_cons_self)]

theorem endBundle_next (r : TileRegs) : (r.endBundle .next).pc = (endBody r.pc r.loops).2
    ∧ (r.endBundle .next).loops = (endBody r.pc r.loops).1 := ⟨rfl, rfl⟩

theorem endBundle_ret {r : TileRegs} {b : Nat} {bs : List Nat} (h : r.ret = b :: bs) : (r.endBundle .ret).pc = b
    ∧ (r.endBundle .ret).ret = bs ∧ (r.endBundle .ret).loops = retLoops r.pc b r.loops := by
  unfold TileRegs.endBundle
  dsimp only
  rw [h]
  exact ⟨rfl, rfl, rfl⟩

theorem endBundle_rep {r : TileRegs} {n : Nat} (len : Nat) (h : n ≠ 0) :
    (r.endBundle (.rep n len)).pc = (endBody r.pc (⟨BitVec.ofNat 32 n, (r.pc + 1) % 16384, (r.pc + len) % 16384⟩ :: r.loops)).2
    ∧ (r.endBundle (.rep n len)).loops = (endBody r.pc (⟨BitVec.ofNat 32 n, (r.pc + 1) % 16384, (r.pc + len) % 16384⟩ :: r.loops)).1 := by
  unfold TileRegs.endBundle
  dsimp only
  rw [if_neg h]
  exact ⟨rfl, rfl⟩

/-- Settles O36. -/
theorem controlFlow : Obligations.ControlFlow := by
  unfold Obligations.ControlFlow
  refine ⟨?_, ?_, ?_, ?_, ?_, ?_⟩
  · rintro d t cond sa off s q x h rfl rfl
    refine ⟨fun b hb => ⟨fun ht => ?_, fun hf => ?_⟩, fun hc => ?_⟩
    · refine issuesY_transfer h rfl ?_
      rw [condHolds_table, ← hb, ht]
      rfl
    · refine issuesY_same h rfl ?_
      rw [condHolds_table, ← hb, hf]
    · refine exec_slotY_fault h (clashes_nil s d t) rfl ?_
      rw [condHolds_none hc]
  · rintro d t off s r q h rfl rfl
    exact ⟨fun hr => issuesY_transfer h rfl (if_neg (by omega)), fun hr => exec_slotY_fault h (clashes_nil s d t) rfl (if_pos hr),
      fun hr => issuesY_transfer h rfl (if_neg hr), fun hr => exec_slotY_fault h (clashes_nil s d t) rfl (if_pos hr)⟩
  · rintro d t sa off sq s q y x tags h rfl rfl rfl rfl
    obtain ⟨hq, hu⟩ := squashTags_gone (if sq.began then (sq.behind.foldl Tile.handOver (s.tile d t)).beginBehind
      ((List.range sq.behind.length).map (fun i => ((s.tile d t).copTag + i) % 16)) else sq.behind.foldl Tile.handOver (s.tile d t))
      ((List.range sq.behind.length).map (fun i => ((s.tile d t).copTag + i) % 16))
    exact ⟨hq, hu, completes_squash sq h rfl rfl, fun hr => completes_squash sq h rfl (if_neg (by omega)),
      fun hr => completes_squash sq h rfl (if_neg hr)⟩
  · rintro d t src count sa len s q n h rfl rfl
    refine ⟨fun hl hn => issuesY_same h rfl ?_, fun hl => exec_slotY_fault h (clashes_nil s d t) rfl (if_pos hl),
      fun hl hn hr => exec_slotY_fault h (clashes_nil s d t) rfl ?_⟩
    · dsimp only
      rw [if_neg hl, if_neg (by omega)]
    · dsimp only
      rw [if_neg hl, if_pos ⟨hn, hr⟩]
  · rintro r u rfl
    obtain ⟨hp, hl⟩ := endBundle_next r
    refine ⟨rfl, rfl, rfl, fun l ls h he hc => ?_, fun l ls h he hc => ?_, fun h => ?_⟩
    · rw [hp, hl, h, endBody_loop ls he hc]
      exact ⟨rfl, rfl⟩
    · rw [hp, hl, h, endBody_pop ls he hc]
      exact ⟨rfl, rfl⟩
    · rw [hp, hl, endBody_away h]
      exact ⟨rfl, rfl⟩
  · intro r a n len
    refine ⟨?_, ?_, ?_, rfl, rfl, fun hn h32 hl hp h => ?_⟩
    · rintro u rfl
      exact ⟨rfl, rfl, fun l => keepLoops_mem, keepLoops_all⟩
    · rintro u rfl
      exact ⟨rfl, rfl, rfl⟩
    · rintro b bs u hr rfl
      exact endBundle_ret hr
    · obtain ⟨h1, h2⟩ := endBundle_rep (r := r) len (Nat.ne_of_gt hn)
      rw [h1, h2, endBody_away]
      · exact ⟨rfl, rfl⟩
      · intro l hl
        rcases List.mem_cons.mp hl with rfl | hl
        · exact hp
        · exact h l hl

end Sys2Proof.Machine
end

section
/-! How a tile's task ends: END, its report, its limit, faults, misplaced instructions (R79, R80, R96, R97, R103, R104, R147). -/

namespace Sys2Proof.Machine

open Sys2Proof

/-! ## Faults of a tile -/

/-- The tile that a fault leaves. -/
def Tile.faulted (x : Tile) : Tile := { x with
  regs := (match x.snap with | some p => p.1 | none => x.regs), phase := .faulted, win := [], snap := none, xDst := [],
  stallX := false, stallY := false, copQ := [], copStop := x.copUnit.isSome }

theorem faulted_running (x : Tile) : x.faulted.running = false := rfl

theorem mapTask_tile (s : State) (r q : Nat) (f : Task → Task) (d t : Nat) : (s.mapTask r q f).tile d t = s.tile d t := rfl

theorem mapTask_tasks (s : State) (r q : Nat) (f : Task → Task) : (s.mapTask r q f).tasks
    = s.tasks.map (fun v => if Task.is r q v then f v else v) := rfl

theorem stopTile_tile (s : State) (d t : Nat) : (s.stopTile d t).tile d t = (s.tile d t).faulted := by
  unfold State.stopTile Tile.faulted
  dsimp only
  rw [mapTask_tile, State.tile_setTile]
  cases (s.tile d t).snap <;> rfl

theorem stopTile_tasks (s : State) (d t : Nat) : (s.stopTile d t).tasks = s.tasks.map (fun v =>
    if Task.is (s.tile d t).ring (s.tile d t).seq v then { v with poisoned := true } else v) := by
  unfold State.stopTile
  dsimp only
  rw [mapTask_tasks]
  cases (s.tile d t).snap <;> rfl

theorem tile_congr {s t : State} (h : t.tiles = s.tiles) (e k : Nat) : t.tile e k = s.tile e k := by
  unfold State.tile; rw [h]

theorem tileFault_tile (s : State) (d t n : Nat) : (s.tileFault d t n).tile d t = (s.tile d t).faulted := by
  unfold State.tileFault
  rw [tile_congr ((State.raiseAt_frame ..).tiles rfl), stopTile_tile]

theorem tileFault_tasks (s : State) (d t n : Nat) : (s.tileFault d t n).tasks = s.tasks.map (fun v =>
    if Task.is (s.tile d t).ring (s.tile d t).seq v then { v with poisoned := true } else v) := by
  unfold State.tileFault
  rw [tasks_congr ((State.raiseAt_frame ..).sluice rfl), stopTile_tasks]

/-! ## END -/

theorem readyY_running {s : State} {d t : Nat} (h : s.readyY d t = true) : (s.tile d t).running = true ∧ (s.tile d t).stallX = false := by
  simp only [State.readyY, Bool.and_eq_true, Bool.not_eq_true'] at h
  exact ⟨h.1.1, h.1.2⟩

/-- The bundle that END stands in, ended. -/
theorem finishBundle_inY (s : State) (d t : Nat) (c : Ctl) :
    (s.inY d t).finishBundle d t c = (s.inY d t).setTile d t ((s.tile d t).didY (s.tile d t).regs c) := by
  rw [← State.inY_didY, ← State.inY_regs]
  rfl

/-- The instruction proper of END: a failed entry that no DMAWAIT has covered faults. -/
theorem endTask_slot {s : State} {d t : Nat} {f : State → TileRegs → Res} (h : s.readyY d t = true)
    (hf : f = fun s _ => if (s.tile d t).dmaErr ≠ 0 then .fault s 8 else .done s .next) :
    ((s.tile d t).dmaErr = 0 → s.slotY d t true [] f = (s.inY d t).setTile d t ((s.tile d t).didY (s.tile d t).regs .next))
    ∧ ((s.tile d t).dmaErr ≠ 0 → s.slotY d t true [] f = (s.inY d t).tileFault d t 8) := by
  have hd : ((s.inY d t).tile d t).dmaErr = (s.tile d t).dmaErr := by
    obtain ⟨sn, xd, ht⟩ := inY_tile s d t
    rw [ht]
  subst hf
  refine ⟨fun he => ?_, fun he => State.slotY_fault h (clashes_nil s d t) (if_pos (hd ▸ he))⟩
  rw [State.slotY_done h (clashes_nil s d t) (if_neg (not_not.mpr (hd.trans he))), finishBundle_inY]

/-- END with nothing failed: the tile halts, and the saturation that is to be reported is. -/
theorem exec_endTask {d : Clu} {t : Tix} {s : State} {x : Tile} (h : s.readyY d t = true) (he : (s.tile d t).dmaErr = 0)
    (hx : x = ((s.tile d t).didY (s.tile d t).regs .next).halt .ending) : ∃ u : State, (s.inY d t).TileIs u d t x
      ∧ exec (.endTask d t true) s = .next (
        if bit (s.reg (pgCLU d + 0x040)) 2 = true ∧ ((s.tile d t).regs.accSat ≠ 0 ∨ (s.tile d t).regs.extSat ≠ 0) then
          u.raiseAt (pgCLU d) 0x1000 (locTile d t) (some (s.tile d t).cg) false else u) := by
  obtain ⟨hr, hs⟩ := readyY_running h
  refine ⟨((s.inY d t).setTile d t ((s.tile d t).didY (s.tile d t).regs .next)).setTile d t x, (State.TileIs.setTile _ d t _).set _, ?_⟩
  show execEndTask d t true s = _
  unfold execEndTask
  rw [(endTask_slot h rfl).1 he]
  dsimp only
  rw [State.tile_setTile, hr, hs, hx]
  rw [if_pos (show (((s.tile d t).didY (s.tile d t).regs .next).running && true && true && !false) = true by
    rw [show ((s.tile d t).didY (s.tile d t).regs .next).running = (s.tile d t).running from rfl, hr]; rfl)]
  rfl

theorem pageOf_quadPg {q i : Nat} (hq : q < 4) (hi : i < 0x400) : pageOf (quadPg q i) = quadPage q i := by
  have h1 : quadPg q i / 0x400000 = q + 1 := by unfold quadPg; omega
  have h2 : quadPg q i % 0x400000 / 0x1000 = i := by unfold quadPg; omega
  unfold pageOf
  rw [h1, h2, if_neg (by omega), if_pos (by omega), Nat.add_sub_cancel]

theorem pageOf_clu (d : Clu) : pageOf (pgCLU d) = some ⟨.clu, d, 0, d.val / 6⟩ := by
  have hd := d.isLt
  have hp : pgCLU d = quadPg (d.val / 6) (0x100 + d.val % 6 * 128) := by unfold pgCLU cluPgI quadPg; omega
  rw [hp, pageOf_quadPg (by omega) (by omega)]
  unfold quadPage
  repeat rw [if_neg (by omega)]
  rw [if_pos (by omega), if_pos (by omega), show 6 * (d.val / 6) + (0x100 + d.val % 6 * 128 - 0x100) / 128 = d.val by omega]

theorem pgCLU_mod (d : Nat) : pgCLU d % 0x1000 = 0 := by
  unfold pgCLU cluPgI; omega

/-! ## The report -/

/-- What the report writes in the task's entry. -/
theorem exec_taskFinishReport {d : Clu} {t : Tix} {s : State} {u : Task} (hf : s.fenced (d.val / 6) = false)
    (hp : (s.tile d t).phase = .ending ∨ (s.tile d t).phase = .faulted) (hd : (s.tile d t).dma = [])
    (ht : s.findTask (s.tile d t).ring (s.tile d t).seq = some u) :
    exec (.taskFinishReport d t) s = .next ((s.reportTask u (locTile d t)).freeTile d t) := by
  show execTaskFinishReport d t s = _
  unfold execTaskFinishReport
  dsimp only
  rw [if_pos ⟨hf, hp, hd⟩, ht]

theorem findTask_is {s : State} {r q : Nat} {u : Task} (h : s.findTask r q = some u) : u.ring = r ∧ u.seq = q := by
  have := List.find?_some h
  simpa [Task.is] using this

theorem freeTile_tile (s : State) (d t : Nat) : (s.freeTile d t).tile d t = {} := by
  unfold State.tile State.freeTile
  rw [tabGet_erase, if_pos rfl]

theorem freeTile_tile_ne (s : State) {d t e k : Nat} (h : 8 * e + k ≠ 8 * d + t) : (s.freeTile d t).tile e k = s.tile e k :=
  (tabGet_erase ..).trans (if_neg h)

theorem reportTask_tile (s : State) (u : Task) (loc : W16) (e k : Nat) : (s.reportTask u loc).tile e k = s.tile e k := rfl

theorem freeTile_tasks (s : State) (d t : Nat) : (s.freeTile d t).tasks = s.tasks := rfl

/-! ## Misplaced instructions -/

/-- An instruction of slot Y in slot X. -/
theorem slotY_inX {s : State} {d t : Nat} (h : s.readyX d t = true) (hx : (s.tile d t).stallX = false) (dst : List RegId)
    (f : State → TileRegs → Res) : s.slotY d t false dst f = (s.inX d t).tileFault d t 0 := by
  obtain ⟨h1, _, h3⟩ := State.slotX_begin h
  have h4 : (if (s.tile d t).snap.isSome = true then s.finishBundle d t .next else s) = s.atBundle d t := rfl
  unfold State.slotY
  simp only [h1, hx, h4, h3, Bool.true_eq_false, Bool.false_eq_true, or_self, if_true, if_false]

/-- An instruction of slot X in slot Y. -/
theorem slotX_inY {s : State} {d t : Nat} (h : s.readyY d t = true) (hy : (s.tile d t).stallY = false) (dst : List RegId)
    (f : State → TileRegs → Res) : s.slotX d t true dst f = (s.inY d t).tileFault d t 0 := by
  simp only [State.readyY, Bool.and_eq_true, Bool.not_eq_true', Bool.or_eq_true] at h
  obtain ⟨⟨h1, _⟩, h3⟩ := h
  unfold State.slotX State.inY
  simp only [h1, hy, Bool.true_eq_false, Bool.false_eq_true, or_self, if_true, if_false]
  by_cases hs : (s.tile d t).snap.isSome = true
  · simp only [hs, if_true]
  · simp only [hs, Bool.false_eq_true, if_false, State.beginBundle_eq (h3.resolve_left hs), if_true]

/-- Both slots of a bundle write one register. -/
theorem slotY_clash {s : State} {d t : Nat} {dst : List RegId} (h : s.readyY d t = true) (hc : s.clashes d t dst = true)
    (f : State → TileRegs → Res) : s.slotY d t true dst f = s.tileFault d t 0 := by
  obtain ⟨h1, h2⟩ := readyY_running h
  obtain ⟨hs, ha⟩ := (Bool.and_eq_true _ _).mp hc
  unfold State.slotY
  simp only [h1, h2, hs, ha, Bool.true_eq_false, Bool.false_eq_true, or_self, if_true, if_false]

/-- A bundle that lies outside the kernel. -/
theorem slotX_outside {s : State} {d t : Nat} (hr : (s.tile d t).running = true) (hs : (s.tile d t).stallY = false)
    (hpc : ((s.atBundle d t).tile d t).regs.pc < ((s.atBundle d t).tile d t).kbase
      ∨ ((s.atBundle d t).tile d t).kbase + ((s.atBundle d t).tile d t).klen ≤ ((s.atBundle d t).tile d t).regs.pc)
    (dst : List RegId) (f : State → TileRegs → Res) : s.slotX d t false dst f = (s.atBundle d t).tileFault d t 0 := by
  have h4 : (if (s.tile d t).snap.isSome = true then s.finishBundle d t .next else s) = s.atBundle d t := rfl
  have hb : (s.atBundle d t).beginBundle d t = ((s.atBundle d t).tileFault d t 0, false) := by
    unfold State.beginBundle
    exact if_pos hpc
  unfold State.slotX
  simp only [hr, hs, h4, hb, Bool.true_eq_false, Bool.false_eq_true, or_self, if_true, if_false]

/-- Settles O37. -/
theorem tileLife : Obligations.TileLife := by
  unfold Obligations.TileLife
  refine ⟨?_, ?_, ?_, ?_, ?_, ?_, ?_, ?_⟩
  · rintro d t s x h he hn hx
    obtain ⟨u, hu, hexec⟩ := exec_endTask (x := x) h he hx
    refine ⟨u, ?_, hu⟩
    rw [hexec, if_neg]
    rintro ⟨h1, h2⟩
    rcases hn with h3 | ⟨h3, h4⟩
    · rw [h1] at h3; cases h3
    · exact h2.elim (fun hh => hh h3) (fun hh => hh h4)
  · intro d t s h he hb hsat
    obtain ⟨u, hu, hexec⟩ := exec_endTask h he rfl
    refine ⟨_, hexec.trans (congrArg _ (if_pos ⟨hb, hsat⟩)), ?_, raiseAt_bit u 0x1000 _ _ _ (pageOf_clu d) (pgCLU_mod _) (by decide)⟩
    rw [tile_congr ((State.raiseAt_frame ..).tiles rfl), hu.1]
    rfl
  · intro d t s h he
    show execEndTask d t true s = _
    unfold execEndTask
    rw [(endTask_slot h rfl).2 he]
    dsimp only
    rw [tileFault_tile, faulted_running, Bool.false_and, Bool.false_and, Bool.false_and, if_neg Bool.false_ne_true]
  · intro d t s u hf hp hd ht
    obtain ⟨hr, hq⟩ := findTask_is ht
    refine ⟨_, exec_taskFinishReport hf hp hd ht, freeTile_tile .., fun e k hk => (freeTile_tile_ne _ hk).trans (reportTask_tile ..), ?_, ?_⟩
    · rw [freeTile_tasks, State.reportTask, mapTask_tasks, hr, hq]
    · exact ((State.freeTile_frame ..).step rfl ((State.reportTask_frame ..).mono rfl) : Frame 0x30000 s _).parts rfl
  · intro d t s hr hl
    exact next_congr (if_pos ⟨hr, hl⟩)
  · rintro d t n s x rfl
    exact ⟨tileFault_tile s d t n, tileFault_tasks s d t n, (State.tileFault_frame s d t n).parts (by decide)⟩
  · intro d t vd va vb pn sa s
    exact ⟨fun h hx => next_congr (slotY_inX h hx ..), fun h hy => next_congr (slotX_inY h hy ..), fun h hc => next_congr (slotY_clash h hc _)⟩
  · rintro d t vd va vb s b hr hs rfl hpc
    exact next_congr (slotX_outside hr hs hpc _ _)

end Sys2Proof.Machine
end

section
/-! The DMA queue of a tile and its landing windows (R88, R100 to R102). -/

namespace Sys2Proof.Machine

open Sys2Proof

/-! ## The tile slot Y acts on -/

/-- A field of the tile other than what it keeps for a fault is as it was when slot Y acts. -/
theorem inY_field {α : Type} (f : Tile → α) (hf : ∀ (x : Tile) sn xd, f { x with snap := sn, xDst := xd } = f x) (s : State) (d t : Nat) :
    f ((s.inY d t).tile d t) = f (s.tile d t) := by
  obtain ⟨sn, xd, h⟩ := inY_tile s d t
  rw [h, hf]

theorem inY_dma (s : State) (d t : Nat) : ((s.inY d t).tile d t).dma = (s.tile d t).dma := inY_field Tile.dma (fun _ _ _ => rfl) s d t

theorem inY_dmaErr (s : State) (d t : Nat) : ((s.inY d t).tile d t).dmaErr = (s.tile d t).dmaErr :=
  inY_field Tile.dmaErr (fun _ _ _ => rfl) s d t

theorem inY_outstanding (s : State) (d t : Nat) : ((s.inY d t).tile d t).outstanding = (s.tile d t).outstanding :=
  inY_field Tile.outstanding (fun _ _ _ => rfl) s d t

theorem inY_armings (s : State) (d t : Nat) : ((s.inY d t).tile d t).armings = (s.tile d t).armings :=
  inY_field Tile.armings (fun _ _ _ => rfl) s d t

theorem inY_winRefused (s : State) (d t : Nat) : ((s.inY d t).tile d t).winRefused = (s.tile d t).winRefused :=
  inY_field Tile.winRefused (fun _ _ _ => rfl) s d t

theorem inY_tile_ne (s : State) {d t e k : Nat} (h : 8 * e + k ≠ 8 * d + t) : (s.inY d t).tile e k = s.tile e k := by
  unfold State.inY
  by_cases hs : (s.tile d t).snap.isSome = true
  · rw [if_pos hs]
  · rw [if_neg hs, State.tile_setTile_ne _ _ h, State.fetched_tile]

theorem exec_slotY_stall {c : Instr} {s : State} {d t : Nat} {dst : List RegId} {f : State → TileRegs → Res} (h : s.readyY d t = true)
    (hc : s.clashes d t dst = false) (he : exec c s = .next (s.slotY d t true dst f)) (hf : f (s.inY d t) (s.regsY d t) = .stall) :
    exec c s = .next ((s.inY d t).setTile d t { (s.inY d t).tile d t with stallY := true }) := by
  rw [he, State.slotY_eq h hc, hf]

theorem exec_slotY_done {c : Instr} {s s1 : State} {d t : Nat} {dst : List RegId} {f : State → TileRegs → Res} {k : Ctl} (h : s.readyY d t = true)
    (hc : s.clashes d t dst = false) (he : exec c s = .next (s.slotY d t true dst f)) (hf : f (s.inY d t) (s.regsY d t) = .done s1 k) :
    exec c s = .next (s1.finishBundle d t k) := by
  rw [he, State.slotY_done h hc hf]

/-! ## The operands of a DMAQ -/

/-- The entry a DMAQ names. -/
def TileRegs.dmaEntry (r : TileRegs) (out : Bool) (pn sf sl : Nat) (tag : W3) : DmaEntry :=
  ⟨out, (r.getP pn).toNat, (r.getB pn).toNat, (r.getL pn).toNat, (r.getS sf).toNat + 4294967296 * (r.getS (sf + 1)).toNat,
    (r.getS sl).toNat, tag.toNat, false⟩

/-- The registers a DMAQ with advance leaves. -/
def TileRegs.dmaAdvance (r : TileRegs) (e : DmaEntry) (pn sf : Nat) (q : TileRegs) : TileRegs :=
  ((q.setP pn (r.movePtr pn e.len).2).setS sf (BitVec.ofNat 32 (e.far + e.len))).setS (sf + 1) (BitVec.ofNat 32 ((e.far + e.len) / 4294967296))

/-- The alignment and the length of a transfer (R100). -/
def DmaEntry.odd (e : DmaEntry) : Prop := e.near % 4 ≠ 0 ∨ e.far % 4 ≠ 0 ∨ e.len % 4 ≠ 0 ∨ e.len < 4 ∨ 65536 < e.len

theorem DmaEntry.not_odd {e : DmaEntry} (h1 : e.near % 4 = 0) (h2 : e.far % 4 = 0) (h3 : e.len % 4 = 0) (h4 : 4 ≤ e.len) (h5 : e.len ≤ 65536) :
    ¬ e.odd := by
  unfold DmaEntry.odd
  omega

/-- The fault of a transfer's buffer (R88). -/
def DmaEntry.bufferFault (e : DmaEntry) : Option Nat := if e.ln = 0 then none else moduloFault e.near e.bn e.ln

section
variable {s : State} {d t : Nat} {r : TileRegs} {out adv : Bool} {pn sf sl : Nat} {tag : W3} {e : DmaEntry}

theorem dmaq_odd (h : sf % 2 = 1) : s.dmaq d t r out pn sf sl tag adv = .fault s 0 := if_pos h

theorem dmaq_full (h : sf % 2 = 0) (hq : 8 ≤ (s.tile d t).dma.length) : s.dmaq d t r out pn sf sl tag adv = .stall :=
  (if_neg (by omega)).trans (if_pos hq)

theorem dmaq_misaligned (h : sf % 2 = 0) (hq : (s.tile d t).dma.length < 8) (ho : (r.dmaEntry out pn sf sl tag).odd) :
    s.dmaq d t r out pn sf sl tag adv = .fault s 2 :=
  (if_neg (by omega)).trans ((if_neg (by omega)).trans (if_pos ho))

/-- A DMAQ that may be queued is, or faults by its buffer or by its addresses. -/
theorem dmaq_checked (h : sf % 2 = 0) (hq : (s.tile d t).dma.length < 8) (ho : ¬ (r.dmaEntry out pn sf sl tag).odd)
    (he : e = r.dmaEntry out pn sf sl tag) :
    (∀ n, e.bufferFault = some n → s.dmaq d t r out pn sf sl tag adv = .fault s n)
    ∧ (e.bufferFault = none → (e.nearAddrs.any (fun a => decide (0x40000 < a + 4)) = true → s.dmaq d t r out pn sf sl tag adv = .fault s 3)
      ∧ (e.nearAddrs.any (fun a => decide (0x40000 < a + 4)) = false → s.dmaq d t r out pn sf sl tag adv = .done
        (if adv then (s.setTile d t { s.tile d t with dma := (s.tile d t).dma ++ [e] }).upd d t (r.dmaAdvance e pn sf)
          else s.setTile d t { s.tile d t with dma := (s.tile d t).dma ++ [e] }) .next)) := by
  subst he
  have hr : s.dmaq d t r out pn sf sl tag adv = match (r.dmaEntry out pn sf sl tag).bufferFault with
      | some f => .fault s f
      | none => if (r.dmaEntry out pn sf sl tag).nearAddrs.any (fun a => decide (0x40000 < a + 4)) then .fault s 3 else .done
        (if adv then (s.setTile d t { s.tile d t with dma := (s.tile d t).dma ++ [r.dmaEntry out pn sf sl tag] }).upd d t
            (r.dmaAdvance (r.dmaEntry out pn sf sl tag) pn sf)
          else s.setTile d t { s.tile d t with dma := (s.tile d t).dma ++ [r.dmaEntry out pn sf sl tag] }) .next := by
    refine (if_neg (by omega)).trans ((if_neg (by omega)).trans ((if_neg ho).trans ?_))
    rfl
  refine ⟨fun n hn => by rw [hr, hn], fun hn => ⟨fun ha => ?_, fun ha => ?_⟩⟩
  · rw [hr, hn]
    exact if_pos ha
  · rw [hr, hn]
    exact if_neg (Bool.eq_false_iff.mp ha)

end

/-- A linear transfer reaches the end of its near side. -/
theorem nearAddrs_linear {e : DmaEntry} (hl : e.ln = 0) (ha : e.len % 4 = 0) (h4 : 4 ≤ e.len) :
    e.nearAddrs.any (fun a => decide (0x40000 < a + 4)) = decide (0x40000 < e.near + e.len) := by
  unfold DmaEntry.nearAddrs
  rw [List.any_map, Bool.eq_iff_iff, List.any_eq_true, decide_eq_true_eq]
  simp only [List.mem_range, Function.comp_apply, if_pos hl, decide_eq_true_eq]
  constructor
  · rintro ⟨i, hi, h⟩
    omega
  · intro h
    exact ⟨e.len / 4 - 1, by omega, by omega⟩

/-- A transfer within a buffer that lies in the memory stays in it. -/
theorem nearAddrs_modulo {e : DmaEntry} (hl : e.ln ≠ 0) (hl4 : e.ln % 4 = 0) (hp : e.near % 4 = 0) (hb : e.bn % 4 = 0) (h1 : e.bn ≤ e.near)
    (h2 : e.bn + e.ln ≤ 0x40000) : e.nearAddrs.any (fun a => decide (0x40000 < a + 4)) = false := by
  unfold DmaEntry.nearAddrs
  rw [List.any_map, List.any_eq_false]
  intro i _
  have := modulo_inside (b := e.bn) (m := e.near - e.bn + 4 * i) hl hl4 (by omega)
  simp only [Function.comp_apply, if_neg hl, moduloAt_nat h1, Int.toNat_natCast, decide_eq_true_eq]
  omega

theorem bufferFault_linear {e : DmaEntry} (h : e.ln = 0) : e.bufferFault = none := if_pos h

theorem bufferFault_modulo {e : DmaEntry} (h : e.ln ≠ 0) : e.bufferFault = moduloFault e.near e.bn e.ln := if_neg h

/-- An advance within a buffer (R102). -/
theorem dmaAdvance_modulo {r : TileRegs} {e : DmaEntry} {pn sf : Nat} (hl : (r.getL pn).toNat ≠ 0) : r.dmaAdvance e pn sf = fun q =>
    ((q.setP pn (w32 (moduloAt (r.getP pn).toNat (r.getB pn).toNat (r.getL pn).toNat e.len))).setS sf (BitVec.ofNat 32 (e.far + e.len))).setS
      (sf + 1) (BitVec.ofNat 32 ((e.far + e.len) / 4294967296)) := by
  funext q
  unfold TileRegs.dmaAdvance
  rw [movePtr_modulo hl]

/-! ## The DMAQ -/

/-- A DMAQ into the tile or out of it. -/
theorem exec_dmaq {c : Instr} {d : Clu} {t : Tix} {out adv : Bool} {pn : PReg} {sf sl : SReg} {tag : W3} (s : State)
    (hc : c = if out then .dmaqOut d t true pn sf sl tag adv else .dmaqIn d t true pn sf sl tag adv) :
    exec c s = .next (s.slotY d t true (dmaDst pn.toNat sf.toNat adv)
      (fun s r => s.dmaq d t r out pn.toNat sf.toNat sl.toNat tag adv)) := by
  subst hc
  cases out <;> rfl

/-! ## The end of an entry -/

/-- An entry that completes, of which no earlier one carries the tag. -/
theorem exec_dmaEntryDone {d : Clu} {t : Tix} {i : W3} {s w : State} {e : DmaEntry} {b : Bool} (he : (s.tile d t).dma[i.toNat]? = some e)
    (hf : ∀ f ∈ (s.tile d t).dma.take i.toNat, f.tag ≠ e.tag) (hr : s.runDma d t e = (w, b)) : exec (.dmaEntryDone d t i) s = .next (
      if b = false then w.setTile d t { w.tile d t with dma := (w.tile d t).dma.eraseIdx i.toNat }
      else if (w.tile d t).phase = .ending then (w.setTile d t { w.tile d t with dma := (w.tile d t).dma.eraseIdx i.toNat }).tileFault d t 8
      else w.setTile d t { w.tile d t with dma := (w.tile d t).dma.eraseIdx i.toNat, dmaErr := putFld (w.tile d t).dmaErr e.tag e.tag 1 }) := by
  have ha : ((s.tile d t).dma.take i.toNat).any (fun f => decide (f.tag = e.tag)) = false := by
    rw [List.any_eq_false]
    exact fun f hm => by simpa using hf f hm
  show execDmaEntryDone d t i s = _
  unfold execDmaEntryDone
  dsimp only
  rw [he]
  dsimp only
  rw [ha, if_neg Bool.false_ne_true, hr]

theorem runDma_out {s w : State} {d t : Nat} {e : DmaEntry} {bytes : List PByte} (ho : e.out = true)
    (hr : s.readNear d t e.nearAddrs = (s, bytes)) (hp : anyPoison bytes = false)
    (hw : s.devWrite { cg := some (s.tile d t).cg, quad := d / 6, old := e.old } e.far bytes = (w, true)) : s.runDma d t e = (w, false) := by
  unfold State.runDma
  dsimp only
  rw [if_pos ho, hr, hw, hp]
  rfl

theorem runDma_in {s m : State} {d t : Nat} {e : DmaEntry} {bytes : List PByte} (ho : e.out = false)
    (hr : s.devRead { cg := some (s.tile d t).cg, quad := d / 6, old := e.old } e.far e.len = (m, bytes, true)) (hp : anyPoison bytes = false) :
    s.runDma d t e = (m.writeElems d t ((e.nearAddrs.zip (bytesElems bytes)).map (fun y => (y.1, y.2.1, y.2.2))), false) := by
  unfold State.runDma
  dsimp only
  rw [if_neg (Bool.eq_false_iff.mp ho), hr, hp]
  rfl

/-! ## Landing windows -/

theorem keyElsewhere_iff (s : State) (d t key : Nat) : s.keyElsewhere d t key = true
    ↔ ∃ k < 8, k ≠ t ∧ ∃ v < 4, ((s.tile d k).window v).armed = true ∧ ((s.tile d k).window v).key = key := by
  simp only [State.keyElsewhere, List.any_eq_true, List.mem_range, Bool.and_eq_true, decide_eq_true_eq]

theorem keyElsewhere_inY (s : State) (d t key : Nat) : (s.inY d t).keyElsewhere d t key = true
    ↔ ∃ k < 8, k ≠ t ∧ ∃ v < 4, ((s.tile d k).window v).armed = true ∧ ((s.tile d k).window v).key = key := by
  rw [keyElsewhere_iff]
  refine exists_congr fun k => and_congr_right fun _ => and_congr_right fun hk => ?_
  rw [inY_tile_ne s (by omega)]

theorem bitsOf_key (x : W32) : bitsOf x 11 0 = x.toNat % 4096 := rfl

/-- Settles O38. -/
theorem dmaAndWindows : Obligations.DmaAndWindows := by
  unfold Obligations.DmaAndWindows
  refine ⟨?_, ?_, ?_, ?_, ?_, ?_, ?_, ?_, ?_⟩
  · rintro d t out pn sf sl tag s r p l far len h rfl rfl rfl rfl rfl hsf hq hp hfar hlen h4 h64 hl hr
    have hn := nearAddrs_linear (e := (s.regsY d t).dmaEntry out pn.toNat sf.toNat sl.toNat tag) hl hlen h4
    rw [← inY_dma] at hq ⊢
    have hno : ¬ ((s.regsY d t).dmaEntry out pn.toNat sf.toNat sl.toNat tag).odd := DmaEntry.not_odd hp hfar hlen h4 h64
    obtain ⟨-, hok⟩ := dmaq_checked (s := s.inY d t) (adv := false) hsf hq hno rfl
    exact exec_slotY_done h (clashes_nil s d t) (exec_dmaq s rfl)
      ((hok (bufferFault_linear hl)).2 (hn.trans (decide_eq_false (by unfold TileRegs.dmaEntry; dsimp only; omega))))
  · rintro d t out pn sf sl tag s r p b l far len h hc rfl rfl rfl rfl rfl rfl hsf hq hp hb hfar hlen h4 h64 hl hl4 h1 h2 h3
    rw [← inY_dma] at hq ⊢
    have hno : ¬ ((s.regsY d t).dmaEntry out pn.toNat sf.toNat sl.toNat tag).odd := DmaEntry.not_odd hp hfar hlen h4 h64
    obtain ⟨-, hok⟩ := dmaq_checked (s := s.inY d t) (adv := true) hsf hq hno rfl
    have hm := hok ((bufferFault_modulo hl).trans (moduloFault_none hl4 (by unfold TileRegs.dmaEntry; dsimp only; omega) h1 h2))
    rw [exec_slotY_done h hc (exec_dmaq s rfl) (hm.2 (nearAddrs_modulo hl hl4 hp hb h1 h3))]
    rw [if_pos rfl, dmaAdvance_modulo hl]
    rfl
  · rintro d t out adv pn sf sl tag c s r p b l far len hcmd h hc rfl rfl rfl rfl rfl rfl
    have he := exec_dmaq s hcmd
    have hd : dmaDst pn.toNat sf.toNat adv = if adv then [.p pn.toNat, .s sf.toNat, .s (sf.toNat + 1)] else [] := rfl
    rw [← hd] at hc
    rw [← inY_dma]
    refine ⟨fun hsf => exec_slotY_fault h hc he (dmaq_odd hsf), fun hsf hq => exec_slotY_stall h hc he (dmaq_full hsf hq),
      fun hsf hq ho => exec_slotY_fault h hc he (dmaq_misaligned hsf hq ?_), fun hsf hq hp hfar hlen h4 h64 => ?_⟩
    · unfold DmaEntry.odd TileRegs.dmaEntry; dsimp only; omega
    · have hno : ¬ ((s.regsY d t).dmaEntry out pn.toNat sf.toNat sl.toNat tag).odd := DmaEntry.not_odd hp hfar hlen h4 h64
      obtain ⟨hbad, hok⟩ := dmaq_checked (s := s.inY d t) (adv := adv) hsf hq hno rfl
      refine ⟨fun hl => ?_, fun hl hl4 hb => ?_, fun hl hb => ?_⟩
      · exact exec_slotY_fault h hc he (hbad _ ((bufferFault_modulo (by unfold TileRegs.dmaEntry; dsimp only; omega)).trans (moduloFault_align hl)))
      · exact exec_slotY_fault h hc he (hbad _ ((bufferFault_modulo hl).trans (moduloFault_range hl4 hb)))
      · exact exec_slotY_fault h hc he ((hok (bufferFault_linear hl)).1 ((nearAddrs_linear hl hlen h4).trans (decide_eq_true hb)))
  · rintro d t i s w e x bytes rfl he hf ho hr hp hw
    exact exec_dmaEntryDone he hf (runDma_out ho hr hp hw)
  · rintro d t i s w m e x bytes rfl he hf ho hr hp rfl
    exact exec_dmaEntryDone he hf (runDma_in ho hr hp)
  · rintro d t i s w e x rfl he hf hr hph
    rw [exec_dmaEntryDone he hf hr, if_neg (c := true = false) (by decide), if_neg (by rw [hph]; decide)]
  · rintro d t i s w e x rfl he hf hr hph
    rw [exec_dmaEntryDone he hf hr, if_neg (c := true = false) (by decide), if_pos hph]
  · intro d t mask s h
    rw [← inY_outstanding, ← inY_dmaErr]
    refine ⟨fun h1 h2 => issuesY_same h rfl ?_, fun h1 => exec_slotY_stall h (clashes_nil s d t) rfl (if_pos h1),
      fun h1 h2 => exec_slotY_fault h (clashes_nil s d t) rfl ?_⟩
    · exact (if_neg (not_not.mpr h1)).trans (if_neg (not_not.mpr h2))
    · exact (if_neg (not_not.mpr h1)).trans (if_pos h2)
  · rintro d t w sa sb sc s r base len key h rfl rfl rfl rfl
    rw [← inY_armings, ← inY_winRefused]
    refine ⟨fun hb hl hr hk => exec_slotY_done h (clashes_nil s d t) rfl ?_, fun hb hl hr hk => exec_slotY_done h (clashes_nil s d t) rfl ?_,
      fun hb => exec_slotY_fault h (clashes_nil s d t) rfl (if_pos hb), fun hb hl hr => exec_slotY_fault h (clashes_nil s d t) rfl ?_⟩
    · refine (if_neg (by omega)).trans ((if_neg (by omega)).trans (if_neg fun hx => ?_))
      obtain ⟨k, hk8, hkt, v, hv, ha, hkey⟩ := (keyElsewhere_inY ..).mp hx
      exact hk k hk8 hkt v hv ha hkey
    · exact (if_neg (by omega)).trans ((if_neg (by omega)).trans (if_pos ((keyElsewhere_inY ..).mpr hk)))
    · exact (if_neg (by omega)).trans (if_pos hr)

end Sys2Proof.Machine
end

section
/-! The matrix coprocessor of a tile: moves, the queue, waits, the life of an operation (R112 to R120, R126, R127). -/

namespace Sys2Proof.Machine

open Sys2Proof

/-! ## What a coprocessor instruction does -/

section
variable {c : Instr} {s : State} {d t : Nat} {dst : List RegId} {f : State → TileRegs → Res}

/-- An instruction that issues takes a tag, whatever tile it leaves. -/
theorem copX_done {y : Tile} {k : Ctl} (h : s.readyX d t = true) (hen : (s.inX d t).copEn d = true)
    (hf : f (s.inX d t) (s.regsX d t) = .done ((s.inX d t).setTile d t y) k) :
    (s.inX d t).TileIs (s.copX d t false dst f) d t { y.takeTag with xDst := dst, stallX := false } := by
  have hc : (if (s.inX d t).copEn d then (match f (s.inX d t) (s.regsX d t) with
      | .done u c => Res.done (u.setTile d t (u.tile d t).takeTag) c | o => o) else .fault (s.inX d t) 0)
      = .done (((s.inX d t).setTile d t y).setTile d t y.takeTag) k := by
    rw [if_pos hen, hf]
    dsimp only
    rw [State.tile_setTile]
  unfold State.copX
  rw [State.slotX_done h hc, State.tile_setTile]
  exact ((State.TileIs.setTile _ d t y).set _).set _

/-- One that only computes on registers. -/
theorem issuesCop_regs {r : TileRegs} {k : Ctl} (h : s.readyX d t = true) (hen : (s.inX d t).copEn d = true)
    (he : exec c s = .next (s.copX d t false dst f)) (hf : f (s.inX d t) (s.regsX d t) = .done ((s.inX d t).upd d t (fun _ => r)) k) :
    IssuesCop c s d t dst r := by
  refine ⟨_, he, ?_⟩
  have hd := copX_done (dst := dst) h hen hf
  rw [State.inX_tile] at hd
  exact hd

/-- One that leaves the registers alone. -/
theorem issuesCop_same {k : Ctl} (h : s.readyX d t = true) (hen : (s.inX d t).copEn d = true)
    (he : exec c s = .next (s.copX d t false [] f)) (hf : f (s.inX d t) (s.regsX d t) = .done (s.inX d t) k) :
    IssuesCop c s d t [] (s.regsX d t) := by
  refine ⟨_, he, ?_⟩
  have hc : (if (s.inX d t).copEn d then (match f (s.inX d t) (s.regsX d t) with
      | .done u c => Res.done (u.setTile d t (u.tile d t).takeTag) c | o => o) else .fault (s.inX d t) 0)
      = .done ((s.inX d t).setTile d t ((s.inX d t).tile d t).takeTag) k := by
    rw [if_pos hen, hf]
  unfold State.copX
  rw [State.slotX_done h hc, State.tile_setTile, State.inX_tile]
  exact (State.TileIs.setTile _ d t _).set _

/-- One that waits. -/
theorem exec_copX_stall (h : s.readyX d t = true) (hen : (s.inX d t).copEn d = true) (he : exec c s = .next (s.copX d t false dst f))
    (hf : f (s.inX d t) (s.regsX d t) = .stall) :
    exec c s = .next ((s.atBundle d t).setTile d t { (s.atBundle d t).tile d t with stallX := true }) := by
  rw [he]
  exact congrArg _ (State.slotX_stall h (by rw [if_pos hen, hf]))

theorem exec_copX_fault {n : Nat} (h : s.readyX d t = true) (hen : (s.inX d t).copEn d = true)
    (he : exec c s = .next (s.copX d t false dst f)) (hf : f (s.inX d t) (s.regsX d t) = .fault (s.inX d t) n) :
    exec c s = .next ((s.inX d t).tileFault d t n) := by
  rw [he]
  exact congrArg _ (State.slotX_fault h (by rw [if_pos hen, hf]))

/-- A coprocessor that is not enabled. -/
theorem exec_copX_disabled (h : s.readyX d t = true) (hen : (s.inX d t).copEn d = false) (he : exec c s = .next (s.copX d t false dst f)) :
    exec c s = .next ((s.inX d t).tileFault d t 0) := by
  rw [he]
  exact congrArg _ (State.slotX_fault h (if_neg (Bool.eq_false_iff.mp hen)))

end

theorem inX_pendW (s : State) (d t m : Nat) : ((s.inX d t).tile d t).pendW m = ((s.atBundle d t).tile d t).pendW m := by
  rw [State.inX_tile]; rfl

theorem inX_pendR (s : State) (d t m : Nat) : ((s.inX d t).tile d t).pendR m = ((s.atBundle d t).tile d t).pendR m := by
  rw [State.inX_tile]; rfl

theorem inX_copLive (s : State) (d t : Nat) : ((s.inX d t).tile d t).copLive = ((s.atBundle d t).tile d t).copLive := by
  rw [State.inX_tile]; rfl

theorem inX_copQ (s : State) (d t : Nat) : ((s.inX d t).tile d t).copQ = ((s.atBundle d t).tile d t).copQ := by
  rw [State.inX_tile]; rfl

/-! ## The queue -/

/-- An operation joins the queue. -/
theorem completes_copIssue {c : Instr} {s : State} {d t : Nat} {kind : CopKind} {n md mr ma mb : Nat} (h : s.readyX d t = true)
    (hen : (s.inX d t).copEn d = true) (hq : ((s.atBundle d t).tile d t).copQ.length < 4)
    (he : exec c s = .next (s.copIssue d t false kind n md mr ma mb)) : Completes c s (fun u => (s.inX d t).TileIs u d t
      { ((s.atBundle d t).tile d t).didX [] ((s.atBundle d t).tile d t).regs with
        copQ := ((s.atBundle d t).tile d t).copQ ++ [⟨((s.atBundle d t).tile d t).copTag, kind, n, md, mr, ma, mb⟩], copTag := (((s.atBundle d t).tile d t).copTag + 1) % 16 }) := by
  refine ⟨_, he, ?_⟩
  rw [← inX_copQ] at hq
  have hd := copX_done (dst := []) h hen (f := fun s _ => if 4 ≤ (s.tile d t).copQ.length then .stall
    else .done (s.setTile d t { s.tile d t with copQ := (s.tile d t).copQ ++ [⟨(s.tile d t).copTag, kind, n, md, mr, ma, mb⟩] }) .next)
    (if_neg (Nat.not_le.mpr hq))
  rw [State.inX_tile] at hd
  exact hd

/-! ## Moves and status -/

theorem tabGet_foldl_put {α : Type} [DecidableEq α] (dflt : Nat → α) (f : Nat → α) (b n : Nat) (m : Tab α) (j : Nat) :
    tabGet dflt ((List.range n).foldl (fun a k => tabSet dflt a (b + k) (f k)) m) j
      = if b ≤ j ∧ j < b + n then f (j - b) else tabGet dflt m j := by
  induction n with
  | zero => rw [if_neg (by omega)]; rfl
  | succ n ih =>
    rw [List.range_succ, List.foldl_append, List.foldl_cons, List.foldl_nil, tabGet_set, ih]
    by_cases h : j = b + n
    · subst h
      rw [if_pos rfl, if_pos (by omega), Nat.add_sub_cancel_left]
    · rw [if_neg h]
      by_cases hj : b ≤ j ∧ j < b + n
      · rw [if_pos hj, if_pos (by omega)]
      · rw [if_neg hj, if_neg (by omega)]

theorem mstat_elem (r : TileRegs) {m : Nat} (h : m < 16) :
    elemRe r.mstat m = (r.exp m).toInt ∧ elemIm r.mstat m = ((r.flags m).toNat : Int) := by
  have hf := (r.flags m).isLt
  unfold TileRegs.mstat
  rw [elemRe_vecMap _ _ m h, elemIm_vecMap _ _ m h]
  refine ⟨BitVec.toInt_signExtend_of_le (by decide), ?_⟩
  rw [BitVec.toInt_setWidth]
  exact Int.bmod_eq_of_le (by omega) (by omega)

/-! ## The life of an operation -/

theorem exec_copOpStart {d : Clu} {t : Tix} {s : State} {o : CopOp} {rest : List CopOp} (hu : (s.tile d t).copUnit = none)
    (hr : (match (s.tile d t).snap with | some p => p.2 | none => (s.tile d t).copQ) = o :: rest) :
    exec (.copOpStart d t) s = .next (s.setTile d t { s.tile d t with
      copUnit := some o, copStop := false, copQ := (s.tile d t).copQ.drop 1, snap := (s.tile d t).snap.map (fun p => (p.1, p.2.drop 1)) }) := by
  show execCopOpStart d t s = _
  unfold execCopOpStart
  dsimp only
  rw [hu]
  cases hs : (s.tile d t).snap with
  | none =>
    rw [hs] at hr
    dsimp only at hr ⊢
    rw [hr]
  | some p =>
    rw [hs] at hr
    dsimp only at hr ⊢
    rw [hr]

/-- Settles O39. -/
theorem coprocessorIssue : Obligations.CoprocessorIssue := by
  unfold Obligations.CoprocessorIssue
  refine ⟨?_, ?_, ?_, ?_, ?_, ?_, ?_, ?_, ?_⟩
  · rintro d t md va k sete ex s r h hen rfl hw hr
    rw [← inX_pendW] at hw
    rw [← inX_pendR] at hr
    refine ⟨_, issuesCop_regs h hen rfl (if_neg (not_or.mpr ⟨Bool.eq_false_iff.mp hw, Bool.eq_false_iff.mp hr⟩)), fun i hi => ?_, fun j hj => ?_⟩
    · rw [tabGet_foldl_put _ (fun k => vecElem ((s.regsX d t).getV va.toNat) k), if_pos (by omega), Nat.add_sub_cancel_left]
    · rw [tabGet_foldl_put _ (fun k => vecElem ((s.regsX d t).getV va.toNat) k), if_neg (by omega)]
  · rintro d t vd ma k s r h hen rfl hw
    rw [← inX_pendW] at hw
    exact ⟨_, issuesCop_regs h hen rfl (if_neg (Bool.eq_false_iff.mp hw)), fun i hi => vecElem_vecMap _ i hi⟩
  · rintro d t md va vd k sete ex s b h rfl
    rw [← inX_pendW, ← inX_pendR]
    exact ⟨fun hen hw => ⟨exec_copX_stall h hen rfl (if_pos (.inl hw)), exec_copX_stall h hen rfl (if_pos hw)⟩,
      fun hen hr => exec_copX_stall h hen rfl (if_pos (.inr hr)),
      fun hen => ⟨exec_copX_disabled h hen rfl, exec_copX_disabled h hen rfl, exec_copX_disabled h hen rfl, exec_copX_disabled h hen rfl⟩⟩
  · rintro d t n md mr ma mb ha hb s x op P h hen rfl hq rfl rfl
    exact ⟨completes_copIssue h hen hq rfl, completes_copIssue h hen hq rfl, completes_copIssue h hen hq rfl, completes_copIssue h hen hq rfl,
      completes_copIssue h hen hq rfl, completes_copIssue h hen hq rfl, fun hne => completes_copIssue h hen hq (next_congr (if_neg hne)),
      completes_copIssue h hen hq rfl⟩
  · rintro d t n md ma mb s b h hen rfl
    refine ⟨fun hq => exec_copX_stall h hen rfl (if_pos ?_), exec_copX_fault h hen (next_congr (if_pos rfl)) rfl⟩
    rw [inX_copQ]
    exact hq
  · rintro d t vd s b r h hen rfl rfl
    rw [← inX_copLive]
    exact ⟨fun hl => ⟨issuesCop_same h hen rfl (if_pos hl), _, issuesCop_regs h hen rfl (if_pos hl), fun m hm => mstat_elem _ hm⟩,
      fun hl => ⟨exec_copX_stall h hen rfl (if_neg hl), exec_copX_stall h hen rfl (if_neg hl)⟩⟩
  · rintro d t s x o rest rfl hu hr
    exact exec_copOpStart hu hr
  · rintro d t s x o rfl hu hs
    show execCopOpWriteback d t s = _
    unfold execCopOpWriteback
    dsimp only
    rw [hu]
    dsimp only
    rw [if_neg (Bool.eq_false_iff.mp hs)]
  · intro d t s hs
    exact next_congr (if_pos hs)

end Sys2Proof.Machine
end

section
/-! What a change of a link's group leaves of its lanes: their registers, and what a lane holds (R206, R218, R219, R223, R227). -/

namespace Sys2Proof.Machine

open Sys2Proof

/-! ## Addresses -/

theorem pgLANE_mod (l : Nat) : pgLANE l % 0x1000 = 0 := by unfold pgLANE quadPg; omega

theorem pgBLNK_mod (q : Nat) : pgBLNK q % 0x1000 = 0 := by unfold pgBLNK quadPg; omega

theorem lane_ne_blnk (l q : Nat) {o x : Nat} (ho : o < 0x1000) (hx : x < 0x1000) : pgLANE l + o ≠ pgBLNK q + x := by
  unfold pgLANE pgBLNK quadPg; omega

theorem lane_ne_lane (l m : Nat) {o x : Nat} (ho : o < 0x1000) (hx : x < 0x1000) (h : o ≠ x) : pgLANE l + o ≠ pgLANE m + x := by
  unfold pgLANE quadPg; omega

/-- Registers of a lane's page that an event cannot change. -/
theorem eventReg_lane {l o : Nat} (hl : l < 64) (h1 : 0x040 ≤ o) (h2 : o < 0x1000) : eventReg (pgLANE l + o) = false := by
  have hw : ∀ w < 5, pgLANE l + o - (pgLANE l + o) % 0x1000 ≠ pgWEIR w := by
    intro w hw
    rcases (by omega : w = 0 ∨ w = 1 ∨ w = 2 ∨ w = 3 ∨ w = 4) with rfl | rfl | rfl | rfl | rfl <;>
      simp only [pgWEIR, pgQWEIR, pgDWEIR, devPg, quadPg, pgLANE, Nat.reduceLT, if_true, if_false] <;> omega
  have hm : (pgLANE l + o) % 0x1000 = o := by have := pgLANE_mod l; omega
  have hp : pgLANE l + o ≠ pgPCIE + 0x050 := by unfold pgPCIE pgLANE devPg quadPg; omega
  have hf : pgLANE l + o ≠ pgFYIL + 0x044 := by unfold pgFYIL pgLANE devPg quadPg; omega
  have ha : (List.range 5).any (fun w => decide (pgLANE l + o - (pgLANE l + o) % 0x1000 = pgWEIR w)) = false := by
    rw [List.any_eq_false]
    exact fun w hm => by simpa using hw w (List.mem_range.mp hm)
  have e1 : decide ((pgLANE l + o) % 0x1000 = 0x010) = false := decide_eq_false (by omega)
  have e2 : decide ((pgLANE l + o) % 0x1000 = 0x018) = false := decide_eq_false (by omega)
  have e3 : decide ((pgLANE l + o) % 0x1000 = 0x02C) = false := decide_eq_false (by omega)
  unfold eventReg
  rw [ha, e1, e2, e3, decide_eq_false hp, decide_eq_false hf]
  simp

/-- The registers of a lane that a change of its group leaves alone. -/
def laneReg (k : Nat) : Prop := ∃ l o, l < 64 ∧ 0x040 ≤ o ∧ o < 0x10C ∧ k = pgLANE l + o

theorem laneReg_at {l : Nat} (hl : l < 64) {o : Nat} (h1 : 0x040 ≤ o) (h2 : o < 0x10C) : laneReg (pgLANE l + o) := ⟨l, o, hl, h1, h2, rfl⟩

theorem laneReg_event {k : Nat} (h : laneReg k) : eventReg k = false := by
  obtain ⟨l, o, hl, h1, h2, rfl⟩ := h
  exact eventReg_lane hl h1 (by omega)

theorem laneReg_blnk (q : Nat) {x : Nat} (hx : x < 0x1000) : ¬ laneReg (pgBLNK q + x) := by
  rintro ⟨l, o, _, _, h2, h⟩
  exact lane_ne_blnk l q (by omega) hx h.symm

theorem laneReg_member (l : Nat) : ¬ laneReg (pgLANE l + 0x10C) := by
  rintro ⟨m, o, _, _, h2, h⟩
  exact lane_ne_lane l m (by decide) (by omega) (by omega) h

theorem keepLane_event {s t : State} (h : EventRegs s t) : KeepRegs laneReg s t := (KeepRegs.of_event h).mono fun _ hk => laneReg_event hk

theorem fld_of_keep {P : Nat → Prop} {s t : State} (h : KeepRegs P s t) {k : Nat} (hk : P k) (hi lo : Nat) : t.fld k hi lo = s.fld k hi lo := by
  unfold State.fld
  rw [h k hk]

/-! ## The registers under a change of a group -/

theorem irqBit_regs (s : State) {pg : Nat} (n : Nat) (h : pg % 0x1000 = 0) : EventRegs s (s.irqBit pg n) := by
  unfold State.irqBit; exact irq_regs s _ h

theorem excludeLanes_regs (s : State) (e : Nat) : EventRegs s (s.excludeLanes e) := by
  have hm (l : List Nat) (f : LaneSt → LaneSt) (t : State) : (l.foldl (fun t k => t.modLane k f) t).regs = t.regs := by
    induction l generalizing t with
    | nil => rfl
    | cons k l ih => exact ih _
  unfold State.excludeLanes
  dsimp only
  split
  · exact .of_regs (hm ..)
  · exact (EventRegs.of_regs (hm ..)).trans (raise_regs _ 1 none (pgBLNK_mod _))

/-- A link's status register is the only one of its own that showing the link writes. -/
theorem showLink_keeps {P : Nat → Prop} (s : State) (e : Nat) (hP : ∀ k, P k → eventReg k = false) (hk : ¬ P (linkStatKey e)) :
    KeepRegs P s (s.showLink e) := by
  have h1 (v : W32) : KeepRegs P s (s.setReg (linkStatKey e) v) := (KeepRegs.refl s).setReg v hk
  unfold State.showLink
  dsimp only
  split
  · exact h1 _
  · split
    · exact (h1 _).trans ((KeepRegs.of_event (irqBit_regs _ 2 (pgBLNK_mod _))).mono hP)
    · exact h1 _

theorem sendLstate_regs (s : State) (e : Nat) : (s.sendLstate e).regs = s.regs := (State.sendLstate_frame s e).regs rfl

theorem linkStops_regs (s : State) (e : Nat) : (s.linkStops e).regs = s.regs := rfl

theorem drawn_setLink_regs (s : State) (n e : Nat) (x : LinkSt) : ((s.drawn n).setLink e x).regs = s.regs := rfl

theorem drawn_setLink_lanes (s : State) (n e : Nat) (x : LinkSt) : ((s.drawn n).setLink e x).lanes = s.lanes := rfl

section
variable {P : Nat → Prop} (hE : ∀ k, P k → eventReg k = false) (hS : ∀ e, ¬ P (linkStatKey e)) (hM : ∀ l, ¬ P (pgLANE l + 0x10C))

include hM in
theorem showMembers_keeps (s : State) (e : Nat) : KeepRegs P s (s.showMembers e) :=
  .foldl (fun t l _ => (KeepRegs.refl t).setReg _ (hM l)) (.refl s)

include hE hS hM

theorem noGroup_keeps (s : State) (e : Nat) : KeepRegs P s (s.noGroup e) := by
  unfold State.noGroup
  split
  · exact showLink_keeps s e hE (hS e)
  · have hm (u : State) : KeepRegs P u ((u.showMembers e).showLink e) := (showMembers_keeps hM u e).trans (showLink_keeps _ e hE (hS e))
    refine KeepRegs.trans (.of_regs ?_) (hm _)
    exact ((State.linkStops_frame ..).step rfl ((State.modLink_frame ..).mono rfl) : Frame 0x8000000 s _).regs rfl

/-- A change of a group writes the words of an event, the status of its link and MEMBER of its lanes. -/
theorem regroup_keeps (s : State) (e : Nat) : KeepRegs P s (s.regroup e) := by
  have hev {u v : State} (h : EventRegs u v) : KeepRegs P u v := (KeepRegs.of_event h).mono hE
  unfold State.regroup
  split
  · exact noGroup_keeps hE hS hM s e
  · dsimp only
    have h0 : KeepRegs P s (s.excludeLanes e) := hev (excludeLanes_regs s e)
    split
    · exact h0.trans (showLink_keeps _ e hE (hS e))
    · refine KeepRegs.trans ?_ (showLink_keeps _ e hE (hS e))
      have h2 (u : State) : KeepRegs P u ((u.showMembers e).sendLstate e) :=
        (showMembers_keeps hM u e).trans (.of_regs (sendLstate_regs ..))
      have h3 (u : State) (c : Prop) [Decidable c] : KeepRegs P u (if c then u.linkStops e else u) := .ite (.of_regs (linkStops_regs ..)) (.refl u)
      have h4 (u : State) (c : Prop) [Decidable c] : KeepRegs P u (if c then u.raise (pgBLNK (e / 16)) 4 else u) :=
        .ite (hev (raise_regs u 4 none (pgBLNK_mod _))) (.refl u)
      refine KeepRegs.trans (KeepRegs.trans (KeepRegs.trans ?_ (h4 _ _)) (h2 _)) (h3 _ _)
      exact h0.trans (.of_regs (drawn_setLink_regs ..))

end

theorem laneReg_stat (e : Nat) : ¬ laneReg (linkStatKey e) := by
  unfold linkStatKey
  rw [Nat.add_assoc]
  exact laneReg_blnk _ (by omega)

theorem showLink_laneRegs (s : State) (e : Nat) : KeepRegs laneReg s (s.showLink e) :=
  showLink_keeps s e (fun _ => laneReg_event) (laneReg_stat e)

theorem regroup_laneRegs (s : State) (e : Nat) : KeepRegs laneReg s (s.regroup e) :=
  regroup_keeps (fun _ => laneReg_event) laneReg_stat laneReg_member s e

/-! ## The lanes under a change of a group -/

/-- Each lane is as it was but for its exclusion from its group and the blocks it has sent. -/
def SameLanes (s t : State) : Prop := ∀ l, ∃ ex bl, t.lane l = { s.lane l with excluded := ex, blocks := bl }

theorem Frame.lanes {m : Nat} {s t : State} (h : Frame m s t) (hm : m.testBit 26 = false) : t.lanes = s.lanes := h.same .lanes hm

theorem lane_congr {s t : State} (h : t.lanes = s.lanes) (l : Nat) : t.lane l = s.lane l := by
  unfold State.lane; rw [h]

theorem lane_setLane (s : State) (l k : Nat) (x : LaneSt) : (s.setLane l x).lane k = if k = l then x else s.lane k := tabGet_set ..

theorem lane_modLane (s : State) (l k : Nat) (f : LaneSt → LaneSt) : (s.modLane l f).lane k = if k = l then f (s.lane l) else s.lane k :=
  lane_setLane ..

theorem lane_modLane_self (s : State) (l : Nat) (f : LaneSt → LaneSt) : (s.modLane l f).lane l = f (s.lane l) := (lane_modLane ..).trans (if_pos rfl)

section
variable {s t u : State}

theorem SameLanes.of_lanes (h : t.lanes = s.lanes) : SameLanes s t := fun l => ⟨_, _, lane_congr h l⟩

theorem SameLanes.refl (s : State) : SameLanes s s := .of_lanes rfl

theorem SameLanes.trans (h : SameLanes s t) (k : SameLanes t u) : SameLanes s u := fun l => by
  obtain ⟨a, b, h1⟩ := h l
  obtain ⟨c, d, h2⟩ := k l
  exact ⟨c, d, by rw [h2, h1]⟩

theorem SameLanes.ite {a b : State} {c : Prop} [Decidable c] (ha : SameLanes s a) (hb : SameLanes s b) : SameLanes s (if c then a else b) := by
  split <;> assumption

theorem SameLanes.modLane (h : SameLanes s t) (l : Nat) {f : LaneSt → LaneSt} (hf : ∀ x, ∃ ex bl, f x = { x with excluded := ex, blocks := bl }) :
    SameLanes s (t.modLane l f) := fun k => by
  obtain ⟨a, b, h1⟩ := h k
  rw [lane_modLane]
  by_cases hk : k = l
  · subst hk
    obtain ⟨c, d, h2⟩ := hf (t.lane k)
    rw [if_pos rfl, h2, h1]
    exact ⟨c, d, rfl⟩
  · rw [if_neg hk]
    exact ⟨a, b, h1⟩

theorem SameLanes.foldl {α : Type} {l : List α} {f : State → α → State} (hf : ∀ t a, SameLanes t (f t a)) (h : SameLanes s t) :
    SameLanes s (l.foldl f t) := by
  induction l generalizing t with
  | nil => exact h
  | cons a l ih => exact ih (h.trans (hf t a))

theorem SameLanes.partner (h : SameLanes s t) (l : Nat) : (t.lane l).partner = (s.lane l).partner := by
  obtain ⟨a, b, h⟩ := h l; rw [h]

theorem SameLanes.squelch (h : SameLanes s t) (l : Nat) : (t.lane l).squelch = (s.lane l).squelch := by
  obtain ⟨a, b, h⟩ := h l; rw [h]

end

theorem sendBlocks_lanes (s : State) (bs : List (Nat × LineWord × W64)) : SameLanes s (s.sendBlocks bs) := by
  have h1 : SameLanes s (bs.foldl (fun t b => t.modLane b.1 (fun x => { x with blocks := x.blocks + 1 })) s) :=
    .foldl (fun t b => (SameLanes.refl t).modLane _ (fun x => ⟨_, _, rfl⟩)) (.refl s)
  unfold State.sendBlocks
  dsimp only
  split
  · exact .refl s
  · split
    · exact h1.trans (.of_lanes rfl)
    · exact h1.trans (.of_lanes rfl)

theorem sendLstate_lanes (s : State) (e : Nat) : SameLanes s (s.sendLstate e) := sendBlocks_lanes _ _

theorem excludeLanes_lanes (s : State) (e : Nat) : SameLanes s (s.excludeLanes e) := by
  have h1 (l : List Nat) : SameLanes s (l.foldl (fun t k => t.modLane k (fun x => { x with excluded := true })) s) :=
    .foldl (fun t b => (SameLanes.refl t).modLane _ (fun x => ⟨_, _, rfl⟩)) (.refl s)
  unfold State.excludeLanes
  dsimp only
  split
  · exact h1 _
  · exact (h1 _).trans (.of_lanes ((State.raise_frame ..).lanes rfl))

theorem showLink_lanes (s : State) (e : Nat) : SameLanes s (s.showLink e) := .of_lanes ((State.showLink_frame s e).lanes rfl)

theorem regroup_lanes (s : State) (e : Nat) : SameLanes s (s.regroup e) := by
  unfold State.regroup
  split
  · exact .of_lanes ((State.noGroup_frame s e).lanes rfl)
  · dsimp only
    have h0 := excludeLanes_lanes s e
    split
    · exact h0.trans (showLink_lanes _ e)
    · refine SameLanes.trans ?_ (showLink_lanes _ e)
      have h2 (u : State) : SameLanes u ((u.showMembers e).sendLstate e) :=
        (SameLanes.of_lanes ((State.showMembers_frame u e).lanes rfl)).trans (sendLstate_lanes _ _)
      have h3 (u : State) (c : Prop) [Decidable c] : SameLanes u (if c then u.linkStops e else u) := .ite (.of_lanes rfl) (.refl u)
      have h4 (u : State) (c : Prop) [Decidable c] : SameLanes u (if c then u.raise (pgBLNK (e / 16)) 4 else u) :=
        .ite (.of_lanes ((State.raise_frame ..).lanes rfl)) (.refl u)
      refine SameLanes.trans (SameLanes.trans (SameLanes.trans ?_ (h4 _ _)) (h2 _)) (h3 _ _)
      exact h0.trans (.of_lanes (drawn_setLink_lanes ..))

/-! ## LANE_STAT under a change of state -/

theorem eyeEnd_stat (s : State) {l : Nat} (hl : l < 64) (ok : Bool) :
    (s.eyeEnd l ok).reg (pgLANE l + 0x044) = s.reg (pgLANE l + 0x044) := by
  unfold State.eyeEnd
  split
  · rfl
  · rw [irqBit_regs _ 3 (pgLANE_mod l) _ (eventReg_lane hl (by decide) (by decide)), reg_put_ne _ _ _ _ (by omega), reg_put_ne _ _ _ _ (by omega)]
    rfl

theorem setLaneState_stat (s : State) {l : Nat} (hl : l < 64) (st : Nat) :
    (s.setLaneState l st).reg (pgLANE l + 0x044) = putFld (s.reg (pgLANE l + 0x044)) 31 28 st := by
  unfold State.setLaneState
  dsimp only
  rw [reg_put_self]
  split
  · rw [eyeEnd_stat s hl]
  · rfl

theorem setLaneState_state (s : State) {l : Nat} (hl : l < 64) {st : Nat} (h : st < 16) : (s.setLaneState l st).laneState l = st := by
  unfold State.laneState State.fld
  rw [setLaneState_stat s hl, bitsOf_putFld_self _ (by decide)]
  omega

theorem setLaneState_fld (s : State) {l : Nat} (hl : l < 64) (st : Nat) {hi : Nat} (h : hi < 28) (lo : Nat) :
    (s.setLaneState l st).fld (pgLANE l + 0x044) hi lo = s.fld (pgLANE l + 0x044) hi lo := by
  unfold State.fld
  rw [setLaneState_stat s hl, bitsOf_putFld_ne _ (by omega) (.inl h)]

theorem txOn_regs (s : State) (l : Nat) : (s.txOn l).regs = s.regs := (State.txOn_frame s l).regs rfl

theorem txOn_lane (s : State) (l k : Nat) : (s.txOn l).lane k = s.lane k := lane_congr ((State.txOn_frame s l).lanes rfl) k

theorem fld_congr {s t : State} (h : t.regs = s.regs) (k hi lo : Nat) : t.fld k hi lo = s.fld k hi lo := by
  unfold State.fld
  rw [reg_of_regs h]

/-- A lane that hunts: rate 0, without lock. -/
theorem hunt_stat (s : State) {l : Nat} (hl : l < 64) : (s.hunt l).laneState l = 1 ∧ (s.hunt l).laneRate l = 0 ∧ (s.hunt l).rxLock l = false
    ∧ ∀ hi lo, hi < 20 → (s.hunt l).fld (pgLANE l + 0x044) hi lo = s.fld (pgLANE l + 0x044) hi lo := by
  have hr : (s.hunt l).regs = ((s.setLaneState l 1).setRx l 0 false false).regs := txOn_regs ..
  unfold State.laneState State.laneRate State.rxLock
  simp only [fld_congr hr]
  unfold State.setRx
  refine ⟨?_, ?_, ?_, fun hi lo h => ?_⟩
  · rw [fld_put_other _ _ _ (by decide) (.inr (by decide)), fld_put_other _ _ _ (by decide) (.inr (by decide)),
      fld_put_other _ _ _ (by decide) (.inr (by decide))]
    exact setLaneState_state s hl (by decide)
  · rw [fld_put_other _ _ _ (by decide) (.inl (by decide)), fld_put_other _ _ _ (by decide) (.inl (by decide))]
    exact fld_put_self _ _ _ _ (by decide)
  · rw [fld_put_other _ _ _ (by decide) (.inr (by decide)), fld_put_self _ _ _ _ (by decide)]
    rfl
  · rw [fld_put_other _ _ _ (by omega) (.inl (by omega)), fld_put_other _ _ _ (by omega) (.inl (by omega)),
      fld_put_other _ _ _ (by omega) (.inl (by omega)), setLaneState_fld s hl 1 (by omega)]

theorem laneState_keep {s t : State} (h : KeepRegs laneReg s t) {l : Nat} (hl : l < 64) : t.laneState l = s.laneState l :=
  fld_of_keep h (laneReg_at hl (by decide) (by decide)) _ _

theorem laneStat_keep {s t : State} (h : KeepRegs laneReg s t) {l : Nat} (hl : l < 64) (hi lo : Nat) :
    t.fld (pgLANE l + 0x044) hi lo = s.fld (pgLANE l + 0x044) hi lo :=
  fld_of_keep h (laneReg_at hl (by decide) (by decide)) _ _

end Sys2Proof.Machine
end

section
/-! The bring-up of a lane (R199 to R206, R210, R222 to R224). -/

namespace Sys2Proof.Machine

open Sys2Proof

/-! ## A lane that hunts, that comes up, that fails an attempt -/

theorem laneReg_bar {k : Nat} (h : laneReg k) : k < barSize := by
  obtain ⟨l, o, hl, _, h2, rfl⟩ := h
  unfold pgLANE quadPg barSize; omega

theorem ptabKey_bar (off e : Nat) : barSize ≤ ptabKey off e := by
  unfold ptabKey entKey
  exact le_trans (Nat.le_mul_of_pos_left _ (Nat.succ_pos _)) (Nat.le_add_right _ _)

theorem laneReg_ptab (off e x : Nat) : ¬ laneReg (ptabKey off e + x) := fun h =>
  absurd (laneReg_bar h) (Nat.not_lt.mpr ((ptabKey_bar off e).trans (Nat.le_add_right _ _)))

theorem laneReg_ptab0 (off e : Nat) : ¬ laneReg (ptabKey off e) := fun h =>
  absurd (laneReg_bar h) (Nat.not_lt.mpr (ptabKey_bar off e))

theorem linkArrives_laneRegs (s : State) (e l : Nat) (serial : W64) (cls caps : Nat) : KeepRegs laneReg s (s.linkArrives e l serial cls caps) := by
  have hl (u : State) (e : Nat) (x : LinkSt) : KeepRegs laneReg u (u.setLink e x) := .of_regs rfl
  unfold State.linkArrives State.setReg64
  dsimp only
  refine KeepRegs.trans (KeepRegs.trans ?_ (hl _ e _)) (keepLane_event (irqBit_regs _ 0 (pgBLNK_mod _)))
  exact (((KeepRegs.refl s).setReg _ (laneReg_ptab0 _ e)).setReg _ (laneReg_ptab0 _ e)).setReg _ (laneReg_ptab _ e 4) |>.setReg _ (laneReg_ptab0 _ e)

theorem laneArrives_laneRegs (s : State) (l : Nat) : KeepRegs laneReg s (s.laneArrives l) := by
  have hm (f : LaneSt → LaneSt) : KeepRegs laneReg s (s.modLane l f) := .of_regs rfl
  unfold State.laneArrives
  dsimp only
  split
  · exact (hm _).trans (linkArrives_laneRegs _ _ _ _ _ _)
  · split
    · exact (hm _).trans ((KeepRegs.refl _).setReg _ (laneReg_ptab0 _ _))
    · exact hm _

theorem laneArrives_partner (s : State) (l : Nat) : ((s.laneArrives l).lane l).partner = some (s.rxSerial l) := by
  have hm (f : LaneSt → LaneSt) : (s.modLane l f).lane l = f (s.lane l) := lane_modLane_self ..
  unfold State.laneArrives
  dsimp only
  split
  · rw [lane_congr ((State.linkArrives_frame ..).lanes rfl), hm]
  · split
    · rw [lane_congr ((State.put_frame ..).lanes rfl), hm]
    · rw [hm]

theorem toHunt_stat (s : State) {l : Nat} (hl : l < 64) :
    (s.toHunt l).laneState l = 1 ∧ (s.toHunt l).laneRate l = 0 ∧ (s.toHunt l).rxLock l = false := by
  obtain ⟨h1, h2, h3, -⟩ := hunt_stat s hl
  have hk := regroup_laneRegs (s.hunt l) (s.linkOf l).1
  refine ⟨(laneState_keep hk hl).trans h1, (laneStat_keep hk hl _ _).trans h2, ?_⟩
  rw [← h3]
  unfold State.rxLock State.toHunt
  rw [laneStat_keep hk hl]

theorem rxSerial_keep {s t : State} (h : KeepRegs laneReg s t) {l : Nat} (hl : l < 64) : t.rxSerial l = s.rxSerial l := by
  unfold State.rxSerial State.reg64
  rw [h _ (laneReg_at hl (by decide) (by decide)), Nat.add_assoc, h _ (laneReg_at hl (by decide) (by decide))]

/-- What a change of a lane's state leaves of its registers: those below the eye sweep's but for LANE_STAT, and those above it. -/
theorem setLaneState_reg (s : State) {l : Nat} (hl : l < 64) (st : Nat) {o : Nat} (h1 : 0x040 ≤ o) (h2 : o < 0x10C) (h3 : o ≠ 0x044) (h4 : o ≠ 0x078) :
    (s.setLaneState l st).reg (pgLANE l + o) = s.reg (pgLANE l + o) := by
  unfold State.setLaneState
  dsimp only
  rw [reg_put_ne _ _ _ _ (by omega)]
  split
  · unfold State.eyeEnd
    split
    · rfl
    · rw [irqBit_regs _ 3 (pgLANE_mod l) _ (eventReg_lane hl h1 (by omega)), reg_put_ne _ _ _ _ (by omega), reg_put_ne _ _ _ _ (by omega)]
      rfl
  · rfl

theorem setLaneState_rxSerial (s : State) {l : Nat} (hl : l < 64) (st : Nat) : (s.setLaneState l st).rxSerial l = s.rxSerial l := by
  unfold State.rxSerial State.reg64
  rw [setLaneState_reg s hl st (by decide) (by decide) (by decide) (by decide), Nat.add_assoc,
    setLaneState_reg s hl st (by decide) (by decide) (by decide) (by decide)]

/-- A lane that comes up. -/
theorem toUp_stat (s : State) {l : Nat} (hl : l < 64) :
    (s.toUp l).laneState l = 5 ∧ ((s.toUp l).lane l).partner = some (s.rxSerial l) := by
  have h1 : KeepRegs laneReg s (if s.skewOk l then s else s.raise (pgBLNK (l / 16)) 2) :=
    .ite (.refl s) (keepLane_event (raise_regs s 2 none (pgBLNK_mod _)))
  unfold State.toUp
  dsimp only
  generalize (if s.skewOk l then s else s.raise (pgBLNK (l / 16)) 2) = u at h1 ⊢
  have h2 : KeepRegs laneReg (u.setLaneState l 5) ((u.setLaneState l 5).irqBit (pgLANE l) 0) := keepLane_event (irqBit_regs _ 0 (pgLANE_mod l))
  have h3 := laneArrives_laneRegs ((u.setLaneState l 5).irqBit (pgLANE l) 0) l
  refine ⟨?_, ?_⟩
  · rw [laneState_keep ((h2.trans h3).trans (regroup_laneRegs _ _)) hl, setLaneState_state u hl (by decide)]
  · rw [(regroup_lanes _ _).partner, laneArrives_partner, rxSerial_keep h2 hl, setLaneState_rxSerial u hl, rxSerial_keep h1 hl]

theorem setLaneState_squelch (s : State) (l st : Nat) : ((s.setLaneState l st).lane l).squelch = (s.lane l).squelch := by
  unfold State.setLaneState
  dsimp only
  rw [lane_congr ((State.put_frame ..).lanes rfl)]
  split
  · unfold State.eyeEnd
    split
    · rfl
    · rw [lane_congr ((State.irqBit_frame ..).lanes rfl), lane_congr ((State.put_frame ..).lanes rfl), lane_congr ((State.put_frame ..).lanes rfl),
        lane_modLane_self]
  · rfl

theorem hunt_squelch (s : State) (l : Nat) : ((s.hunt l).lane l).squelch = (s.lane l).squelch := by
  unfold State.hunt
  rw [txOn_lane, lane_modLane_self]
  have h := lane_congr ((State.setRx_frame (s.setLaneState l 1) l 0 false false).lanes rfl) l
  show (((s.setLaneState l 1).setRx l 0 false false).lane l).squelch = _
  rw [h, setLaneState_squelch]

/-- The counts and the cause before a failed attempt hunts. -/
theorem attempt_put (s : State) {l cause r : Nat} (hc : cause < 16) (h1 : 1 ≤ r) (h4 : r ≤ 4) {n : Nat} (hn : n ≤ 2) :
    ((s.put (pgLANE l + 0x044) (7 + 2 * r) (6 + 2 * r) n).put (pgLANE l + 0x044) 3 0 cause).fld (pgLANE l + 0x044) (7 + 2 * r) (6 + 2 * r) = n
    ∧ ((s.put (pgLANE l + 0x044) (7 + 2 * r) (6 + 2 * r) n).put (pgLANE l + 0x044) 3 0 cause).fld (pgLANE l + 0x044) 3 0 = cause := by
  rw [fld_put_other _ _ _ (by omega) (.inr (by omega)), fld_put_self _ _ _ _ (by omega), fld_put_self _ _ _ _ (by decide)]
  rw [show 7 + 2 * r + 1 - (6 + 2 * r) = 2 by omega]
  exact ⟨Nat.mod_eq_of_lt (by omega), Nat.mod_eq_of_lt (by omega)⟩

theorem failCount_eq (s : State) (l : Nat) {r : Nat} (h1 : 1 ≤ r) (h4 : r ≤ 4) :
    s.failCount l r = s.fld (pgLANE l + 0x044) (7 + 2 * r) (6 + 2 * r) := if_pos ⟨h1, h4⟩

/-- A failed attempt: the lane hunts, squelched, its count and its cause shown. -/
theorem attemptFails_stat (s : State) {l cause r : Nat} (hl : l < 64) (hc : cause < 16) (hr : r = s.laneTarget l) (h1 : 1 ≤ r) (h4 : r ≤ 4) :
    (s.attemptFails l cause).laneState l = 1 ∧ (s.attemptFails l cause).failCount l r = min (s.failCount l r + 1) 2
    ∧ (s.attemptFails l cause).fld (pgLANE l + 0x044) 3 0 = cause ∧ ((s.attemptFails l cause).lane l).squelch = true := by
  obtain ⟨hn, hl3⟩ := attempt_put s (l := l) hc h1 h4 (Nat.min_le_right (s.failCount l r + 1) 2)
  have hk := regroup_laneRegs (s.attemptLost l cause) (s.linkOf l).1
  have hs := regroup_lanes (s.attemptLost l cause) (s.linkOf l).1
  unfold State.attemptFails
  rw [laneState_keep hk hl, failCount_eq _ _ h1 h4, laneStat_keep hk hl, laneStat_keep hk hl, hs.squelch]
  clear hk hs
  unfold State.attemptLost
  dsimp only
  rw [← hr, if_pos (c := 1 ≤ r ∧ r ≤ 4) ⟨h1, h4⟩]
  generalize (s.put (pgLANE l + 0x044) (7 + 2 * r) (6 + 2 * r) (min (s.failCount l r + 1) 2)).put (pgLANE l + 0x044) 3 0 cause = u at hn hl3 ⊢
  have hu (c : Prop) [Decidable c] : KeepRegs laneReg u (if c then (u.raise (pgLANE l) 1).raise (pgLANE l) 2 else u.raise (pgLANE l) 1) :=
    .ite (keepLane_event ((raise_regs u 1 none (pgLANE_mod l)).trans (raise_regs _ 2 none (pgLANE_mod l)))) (keepLane_event (raise_regs u 1 none (pgLANE_mod l)))
  have hv := hu (s.failCount l r < 2 ∧ min (s.failCount l r + 1) 2 = 2)
  generalize (if s.failCount l r < 2 ∧ min (s.failCount l r + 1) 2 = 2 then (u.raise (pgLANE l) 1).raise (pgLANE l) 2 else u.raise (pgLANE l) 1) = v at hv ⊢
  have hw : ((v.modLane l (fun x => { x with squelch := true })).emit (.laneTx l false)).regs = v.regs := rfl
  have hq : (((v.modLane l (fun x => { x with squelch := true })).emit (.laneTx l false)).lane l).squelch = true := by
    rw [lane_congr ((State.emit_frame ..).lanes rfl), lane_modLane_self]
  generalize (v.modLane l (fun x => { x with squelch := true })).emit (.laneTx l false) = w at hw hq ⊢
  obtain ⟨g1, -, -, g4⟩ := hunt_stat w hl
  refine ⟨g1, ?_, ?_, (hunt_squelch w l).trans hq⟩
  · rw [g4 _ _ (by omega), fld_congr hw, laneStat_keep hv hl, hn]
  · rw [g4 _ _ (by omega), fld_congr hw, laneStat_keep hv hl, hl3]

/-! ## The target -/

theorem targetOf_spec (a b limit : Nat) (fails : Nat → Nat) : targetOf a b limit fails ≤ 4 ∧ targetOf a b limit fails ≤ a
    ∧ targetOf a b limit fails ≤ b ∧ targetOf a b limit fails ≤ limit ∧ (0 < targetOf a b limit fails → fails (targetOf a b limit fails) ≠ 2)
    ∧ ∀ r, targetOf a b limit fails < r → r ≤ 4 → r ≤ a → r ≤ b → r ≤ limit → fails r = 2 := by
  unfold targetOf
  dsimp only
  split_ifs <;>
  · refine ⟨by omega, by omega, by omega, by omega, fun h => by omega, fun r h1 h2 h3 h4 h5 => ?_⟩
    have hr : r = 1 ∨ r = 2 ∨ r = 3 ∨ r = 4 := by omega
    rcases hr with rfl | rfl | rfl | rfl <;> omega

/-! ## HELLO frames -/

theorem reg64_setReg64 (s : State) (k : Nat) (v : W64) : (s.setReg64 k v).reg64 k = v := by
  unfold State.reg64 State.setReg64
  rw [reg_setReg_self, reg_setReg_ne _ _ (by omega), reg_setReg_self]
  refine BitVec.eq_of_getLsbD_eq fun i hi => ?_
  rw [BitVec.getLsbD_append]
  by_cases h : i < 32
  · simp [h]
  · simp [h, show i - 32 < 32 by omega, show 32 + (i - 32) = i by omega]

/-- A frame has one type. -/
theorem helloValid_depart {x : HelloData} (h : helloValid 0x44 x = true) : helloValid 0x48 x = false := by
  unfold helloValid at *
  simp only [Bool.and_eq_true, decide_eq_true_eq] at h
  rw [h.1.1]
  rfl

/-- What a stored HELLO shows. -/
theorem storeHello_shows (s : State) (l : Nat) (h : HelloMsg) : (s.storeHello l h).rxSerial l = h.serial
    ∧ ∀ v, v = (s.storeHello l h).reg (pgLANE l + 0x100) → bitsOf v 31 29 = h.cls.toNat ∧ bitsOf v 28 26 = h.maxRate.toNat
      ∧ bitsOf v 25 25 = b2n h.comma ∧ bitsOf v 24 24 = b2n h.fecReq ∧ bitsOf v 23 16 = h.fails.toNat ∧ bitsOf v 15 0 = h.caps.toNat := by
  refine ⟨reg64_setReg64 _ _ _, ?_⟩
  rintro v rfl
  have h1 := h.cls.isLt
  have h2 := h.maxRate.isLt
  have h3 := h.fails.isLt
  have h4 := h.caps.isLt
  have hb (b : Bool) : b2n b ≤ 1 := by cases b <;> decide
  have h5 := hb h.comma
  have h6 := hb h.fecReq
  unfold State.storeHello State.setReg64
  rw [reg_setReg_ne _ _ (by omega), reg_setReg_ne _ _ (by omega), reg_setReg_self]
  unfold bitsOf
  rw [BitVec.toNat_ofNat]
  simp only [Nat.shiftRight_eq_div_pow, Nat.reducePow, Nat.reduceAdd, Nat.reduceSub]
  omega

/-- What a HELLO leaves of its lane when it comes from the lane's partner, or is the first. -/
def State.helloKept (s : State) (l : Nat) (h : HelloMsg) : State :=
  ((s.storeHello l h).mergeFails l h.fails).modLane l (fun y => { y with
    known := true, timer := none, run := min (y.run + 1) 3, got := if h.seen then min (y.got + 1) 3 else y.got })

theorem goodHello_same {s : State} {l : Nat} {h : HelloMsg} (hf : (s.lane l).known = false ∨ s.rxSerial l = h.serial)
    (hp : (s.lane l).partner = none ∨ (s.lane l).partner = some h.serial) (h5 : s.laneState l ≠ 5) : s.goodHello l h =
      if s.laneState l = 3 ∨ s.laneState l = 4 then s.helloKept l h
      else
        let s4 := (s.helloKept l h).put (pgLANE l + 0x044) 23 23 (b2n (!h.comma))
        let s5 := s4.put (pgLANE l + 0x044) 19 17 (s4.targets l).1
        (if h.comma = false ∧ s.allow3120 l = false then s5.put (pgLANE l + 0x044) 3 0 3 else s5).helloLeave l := by
  have hfresh : ((s.lane l).known && decide (s.rxSerial l ≠ h.serial)) = false := by
    rcases hf with hf | hf <;> simp [hf]
  unfold State.goodHello
  rcases hp with hp | hp
  · simp only [hfresh, hp, h5, Bool.false_eq_true, if_false]
    rfl
  · simp only [hfresh, hp, h5, ne_eq, not_true_eq_false, decide_false, Bool.false_eq_true, if_false]
    rfl

theorem helloTaken_of {s : State} {l : Nat} (h : s.laneOn l = true) (hs : 2 ≤ s.laneState l) (h4 : s.laneState l ≤ 4) : s.helloTaken l = true := by
  unfold State.helloTaken State.helloRuns
  rw [h]
  rcases (by omega : s.laneState l = 2 ∨ s.laneState l = 3 ∨ s.laneState l = 4) with h | h | h <;> simp [h]

theorem takeHello_good {s : State} {l : Nat} {x : HelloData} (code : Nat) (h : helloValid 0x48 x = true) :
    s.takeHello l x code = (s.inc (pgLANE l + 0x054) 31 16 code).goodHello l (helloFields x) := if_pos h

theorem takeHello_depart {s : State} {l : Nat} {x : HelloData} (code : Nat) (h : helloValid 0x44 x = true) :
    s.takeHello l x code = ((s.inc (pgLANE l + 0x054) 31 16 code).laneDeparts l).regroup (s.linkOf l).1 :=
  (if_neg (Bool.eq_false_iff.mp (helloValid_depart h))).trans (if_pos h)

theorem takeHello_bad {s : State} {l : Nat} {x : HelloData} (code : Nat) (h : helloValid 0x48 x = false) (h' : helloValid 0x44 x = false) :
    s.takeHello l x code = (s.inc (pgLANE l + 0x054) 31 16 code).inc (pgLANE l + 0x10C) 15 0 1 :=
  (if_neg (Bool.eq_false_iff.mp h)).trans (if_neg (Bool.eq_false_iff.mp h'))

theorem inc_codeErr (s : State) (l n : Nat) {o : Nat} (h : o ≠ 0x054) :
    (s.inc (pgLANE l + 0x054) 31 16 n).reg (pgLANE l + o) = s.reg (pgLANE l + o) := reg_inc_ne _ _ _ _ (by omega)

/-- Code violations are counted apart from all else of the lane. -/
theorem codeErr_keeps (s : State) (l n : Nat) : (s.inc (pgLANE l + 0x054) 31 16 n).laneState l = s.laneState l
    ∧ (s.inc (pgLANE l + 0x054) 31 16 n).lane l = s.lane l ∧ (s.inc (pgLANE l + 0x054) 31 16 n).rxSerial l = s.rxSerial l
    ∧ (s.inc (pgLANE l + 0x054) 31 16 n).allow3120 l = s.allow3120 l := by
  refine ⟨?_, lane_congr ((State.inc_frame ..).lanes rfl) l, ?_, ?_⟩
  · unfold State.laneState State.fld
    rw [inc_codeErr s l n (by decide)]
  · unfold State.rxSerial State.reg64
    rw [Nat.add_assoc, inc_codeErr s l n (by decide), inc_codeErr s l n (by decide)]
  · unfold State.allow3120 State.fld
    rw [inc_codeErr s l n (by decide)]

theorem exec_helloReceive_good {l : Lane} {x : HelloData} {code : W8} {s r : State} (hr : r = s.inc (pgLANE l + 0x054) 31 16 code.toNat)
    (ht : s.helloTaken l = true) (hv : helloValid 0x48 x = true) :
    exec (.helloReceive l ⟨x, code⟩) s = .next (r.goodHello l (helloFields x)) := by
  rw [hr]
  exact next_congr ((if_pos ht).trans (takeHello_good _ hv))

/-! ## The end of STEP -/

theorem laneState_congr {s t : State} (h : t.regs = s.regs) (l : Nat) : t.laneState l = s.laneState l := fld_congr h _ _ _

theorem rxLock_congr {s t : State} (h : t.regs = s.regs) (l : Nat) : t.rxLock l = s.rxLock l := by
  unfold State.rxLock
  rw [fld_congr h]


theorem stepLeave_up {s : State} {l : Nat} (h : s.laneState l = 3) (hl : s.rxLock l = true) (ht : 4 ≤ (s.lane l).train) :
    s.stepLeave l = (s.sendOn [l, l, l, l] (trainBlock l true (s.failCount l (s.laneTarget l)))).toUp l := if_pos ⟨h, hl, ht⟩

theorem stepLeave_not {s : State} {l : Nat} (h : s.laneState l ≠ 3 ∨ (s.lane l).train < 4) : s.stepLeave l = s :=
  if_neg fun hh => h.elim (fun h => h hh.1) (fun h => absurd hh.2.2 (Nat.not_le.mpr h))

/-- The lane as it locks. -/
theorem blockLock_state (s : State) (l n : Nat) :
    ((s.put (pgLANE l + 0x044) 25 25 1).modLane l (fun x => { x with skew := n })).laneState l = s.laneState l
    ∧ ((s.put (pgLANE l + 0x044) 25 25 1).modLane l (fun x => { x with skew := n })).rxLock l = true
    ∧ (((s.put (pgLANE l + 0x044) 25 25 1).modLane l (fun x => { x with skew := n })).lane l).train = (s.lane l).train := by
  have hr (k hi lo : Nat) : ((s.put (pgLANE l + 0x044) 25 25 1).modLane l (fun x => { x with skew := n })).fld k hi lo
    = (s.put (pgLANE l + 0x044) 25 25 1).fld k hi lo := fld_congr ((State.modLane_frame ..).regs rfl) k hi lo
  refine ⟨?_, ?_, ?_⟩
  · unfold State.laneState
    rw [hr, fld_put_other _ _ _ (by decide) (.inr (by decide))]
  · unfold State.rxLock
    rw [hr, fld_put_self _ _ _ _ (by decide)]
    rfl
  · rw [lane_modLane_self, lane_congr ((State.put_frame ..).lanes rfl)]

/-- Settles O41. -/
theorem laneBringUp : Obligations.LaneBringUp := by
  unfold Obligations.LaneBringUp
  refine ⟨?_, ?_, ?_, ?_, ?_, ?_, ?_, ?_, ?_, ?_, ?_, ?_, ?_, ?_, ?_, ?_, ?_, ?_, ?_⟩
  · rintro l s r u e rfl h0 hopen rfl rfl
    have hc : ¬ (s.laneState l ≠ 0 ∨ s.laneOpen l = false) := by simp [h0, hopen]
    refine ⟨fun hm => ?_, fun hm he => ?_, fun hm he hr => ?_, fun hm => ?_⟩
    · exact next_congr ((if_neg hc).trans (if_pos hm))
    · refine next_congr ((if_neg hc).trans ((if_neg (by omega)).trans ((if_pos hm).trans (if_neg ?_))))
      rintro ⟨h1, h2⟩
      rcases he with he | he
      · exact he h1
      · rw [he] at h2; cases h2
    · exact next_congr ((if_neg hc).trans ((if_neg (by omega)).trans ((if_pos hm).trans (if_pos ⟨he, hr⟩))))
    · exact next_congr ((if_neg hc).trans ((if_neg (by omega)).trans (if_neg (by omega))))
  · rintro l s t rfl
    obtain ⟨h1, h2, h3⟩ := toHunt_stat s l.isLt
    exact ⟨h1, h2, h3, (State.toHunt_frame s l).parts (by decide)⟩
  · intro l s hon h1
    exact next_congr (if_pos ⟨hon, h1⟩)
  · rintro l s u seen hon hst rfl rfl
    have hr : s.helloRuns l = true := by
      unfold State.helloRuns
      rcases hst with h | ⟨h, h'⟩ <;> simp [*]
    refine ⟨fun ht => (next_congr (if_pos ⟨hon, hr, ht⟩)).trans ?_, fun ht => next_congr (if_neg fun hh => ?_)⟩
    · unfold State.sendHello State.sendFrame0
      dsimp only
      rw [if_pos ht]
      unfold State.modLane
      rw [lane_congr ((State.emit_frame ..).lanes rfl)]
      rfl
    · rw [ht] at hh
      exact Bool.false_ne_true hh.2.2
  · rintro l s t fec rfl rfl
    refine ⟨fun h2 hs hg ht => ⟨fun h0 => ?_, fun h0 => ?_⟩, fun h => ?_⟩
    · exact (if_pos ⟨h2, hs, hg, ht.symm⟩).trans (if_pos h0)
    · exact (if_pos ⟨h2, hs, hg, ht.symm⟩).trans (if_neg h0)
    · exact if_neg fun hh => by omega
  · rintro a b limit fails t rfl
    exact targetOf_spec a b limit fails
  · rintro l x code h s r u w z hon hr rfl hu hw hz
    obtain ⟨hstate, hlane, hserial, h3120⟩ := codeErr_keeps s l code.toNat
    rw [← hr] at hstate hlane hserial h3120
    refine ⟨fun h2 h4 hv hv' => ?_, fun hv hk hp => ?_⟩
    · rw [hr]
      exact next_congr ((if_pos (helloTaken_of hon h2 h4)).trans (takeHello_bad _ hv hv'))
    · rw [← hlane, ← hserial] at hk
      rw [← hlane] at hp
      refine ⟨fun h2 => ?_, fun h34 => ?_⟩
      · rw [exec_helloReceive_good hr (helloTaken_of hon (by omega) (by omega)) hv, goodHello_same hk hp (by omega), if_neg (by omega), h3120]
        dsimp only
        rw [show r.helloKept l (helloFields x) = u from hu.symm, ← hw, ← hz]
      · rw [exec_helloReceive_good hr (helloTaken_of hon (by omega) (by omega)) hv, goodHello_same hk hp (by omega), if_pos (by omega)]
        exact congrArg _ hu.symm
  · exact fun l h s => storeHello_shows s l h
  · rintro l x s r hon h2 h4 rfl
    have ht := helloTaken_of hon h2 h4
    exact ⟨fun hv => next_congr ((if_pos ht).trans (takeHello_depart 0 hv)), fun hv hv' => next_congr ((if_pos ht).trans (takeHello_bad 0 hv hv'))⟩
  · rintro l skew s u hon rfl
    obtain ⟨hst, hlock, hlane⟩ := blockLock_state s l skew.toNat
    refine ⟨fun h3 hf ht => ?_, fun h3 hf ht => ?_, fun h6 => ?_⟩
    · exact next_congr ((if_pos ⟨hon, .inl ⟨h3, hf⟩⟩).trans (stepLeave_not (.inr (hlane ▸ ht))))
    · exact next_congr ((if_pos ⟨hon, .inl ⟨h3, hf⟩⟩).trans (stepLeave_up (hst.trans h3) hlock (hlane ▸ ht)))
    · exact next_congr ((if_pos ⟨hon, .inr h6⟩).trans (stepLeave_not (.inl (by rw [hst, h6]; decide))))
  · rintro l s u x hon h3 hlock rfl
    have hex (ok : Bool) : exec (.trainReceive l ok) s = .next ((s.setLane l { s.lane l with
        train := if ok then min ((s.lane l).train + 1) 4 else 0 }).stepLeave l) := next_congr (if_pos ⟨hon, h3, hlock⟩)
    have ht (n : Nat) : ((s.setLane l { s.lane l with train := n }).lane l).train = n := by rw [lane_setLane, if_pos rfl]
    refine ⟨?_, fun h => ?_, fun h hu => ?_⟩
    · rw [hex, stepLeave_not (.inr (by rw [ht, if_neg Bool.false_ne_true]; decide))]
      rfl
    · rw [hex, if_pos rfl, Nat.min_eq_left (by omega), stepLeave_not (.inr (by rw [ht]; omega))]
    · have hr : u.regs = s.regs := by rw [hu]; exact (State.setLane_frame ..).regs rfl
      rw [hex, if_pos rfl, Nat.min_eq_right (by omega), ← hu, stepLeave_up ((laneState_congr hr l).trans h3) ((rxLock_congr hr l).trans hlock) (by rw [hu, ht])]
  · rintro l s t rfl
    obtain ⟨h1, h2⟩ := toUp_stat s l.isLt
    exact ⟨h1, h2, (State.toUp_frame s l).parts (by decide)⟩
  · exact fun l s => ⟨fun h => next_congr (if_pos h), fun h => next_congr (if_pos h)⟩
  · rintro l s t cause r hc rfl hr h1 h4
    exact attemptFails_stat s l.isLt hc hr h1 h4
  · rintro l s u hq rfl
    refine ⟨fun h0 ht => next_congr ((if_pos hq).trans ((if_pos h0).trans (if_pos ht))), fun h => next_congr ((if_pos hq).trans ?_)⟩
    by_cases h0 : s.laneState l = 0
    · exact if_neg (not_not.mpr h0)
    · exact (if_pos h0).trans (if_neg (Bool.eq_false_iff.mp (h.resolve_left h0)))
  · exact fun l s hon h3 hf => next_congr (if_pos ⟨hon, h3, hf⟩)
  · exact fun l errs s hon hf hs => next_congr (if_pos ⟨hon, hf, hs⟩)
  · exact fun l s hr hs => (next_congr (access_reaches _ hr)).trans (congrArg _ (if_pos hs))
  · intro l s hr
    refine ⟨fun h4 hn h0 => (next_congr (access_reaches _ hr)).trans (congrArg _ (if_pos ⟨h4, hn, h0⟩)),
      fun h => (next_congr (access_reaches _ hr)).trans (congrArg _ (if_neg fun hh => ?_))⟩
    obtain ⟨h4, hn, h0⟩ := hh
    exact h.elim (fun h => h h4) (fun h => h.elim hn (fun h => h h0))

end Sys2Proof.Machine
end

section
/-! Ethernet ports, PRBS checks and eye sweeps (R212 to R216, R223, R233). -/

namespace Sys2Proof.Machine

open Sys2Proof

/-! ## Tables written twice -/

theorem tabErase_insert {α : Type} (t : Tab α) (k : Nat) (v : α) : tabErase (tabInsert t k v) k = tabErase t k := by
  unfold tabErase
  induction t with
  | nil => simp [tabInsert]
  | cons p t ih =>
    unfold tabInsert
    split
    · simp
    · rw [List.filter_cons, List.filter_cons, ih]

theorem tabErase_erase {α : Type} (t : Tab α) (k : Nat) : tabErase (tabErase t k) k = tabErase t k := by
  unfold tabErase
  rw [List.filter_filter]
  simp

/-- A second write of a key leaves nothing of the first. -/
theorem tabSet_tabSet {α : Type} [DecidableEq α] (d : Nat → α) (t : Tab α) (k : Nat) (x y : α) : tabSet d (tabSet d t k x) k y = tabSet d t k y := by
  have h : tabErase (tabSet d t k x) k = tabErase t k := by
    unfold tabSet
    split
    · exact tabErase_erase t k
    · rw [tabErase_insert, tabErase_erase]
  unfold tabSet at *
  rw [h]

theorem setLane_setLane (s : State) (l : Nat) (x y : LaneSt) : (s.setLane l x).setLane l y = s.setLane l y := by
  unfold State.setLane
  dsimp only
  rw [tabSet_tabSet]

/-! ## Ports -/

/-- Registers of the bars that no event changes. -/
def quietReg (k : Nat) : Prop := k < barSize ∧ eventReg k = false

theorem quietReg_lane {l o : Nat} (hl : l < 64) (h1 : 0x040 ≤ o) (h2 : o < 0x1000) : quietReg (pgLANE l + o) :=
  ⟨by unfold pgLANE quadPg barSize; omega, eventReg_lane hl h1 h2⟩

theorem quietReg_ptab (off e x : Nat) : ¬ quietReg (ptabKey off e + x) := fun h =>
  absurd h.1 (Nat.not_lt.mpr ((ptabKey_bar off e).trans (Nat.le_add_right _ _)))

theorem quietReg_ptab0 (off e : Nat) : ¬ quietReg (ptabKey off e) := fun h => absurd h.1 (Nat.not_lt.mpr (ptabKey_bar off e))

theorem eventReg_ptab (off e : Nat) : eventReg (ptabKey off e) = false := by
  unfold eventReg
  rw [decide_eq_false (Nat.not_lt.mpr (ptabKey_bar off e)), Bool.false_and]

theorem linkArrives_quiet (s : State) (e l : Nat) (serial : W64) (cls caps : Nat) : KeepRegs quietReg s (s.linkArrives e l serial cls caps) := by
  have hl (u : State) (e : Nat) (x : LinkSt) : KeepRegs quietReg u (u.setLink e x) := .of_regs rfl
  unfold State.linkArrives State.setReg64
  dsimp only
  refine KeepRegs.trans (KeepRegs.trans ?_ (hl _ e _)) ((KeepRegs.of_event (irqBit_regs _ 0 (pgBLNK_mod _))).mono fun k h => h.2)
  exact (((KeepRegs.refl s).setReg _ (quietReg_ptab0 _ e)).setReg _ (quietReg_ptab0 _ e)).setReg _ (quietReg_ptab _ e 4) |>.setReg _ (quietReg_ptab0 _ e)

/-- What an arriving entry shows: present, with its first lane. -/
theorem linkArrives_entry (s : State) (e l : Nat) (serial : W64) (cls caps : Nat) : (s.linkArrives e l serial cls caps).reg (ptabKey 0x104 e)
    = BitVec.ofNat 32 (2 ^ 31 + cls * 2 ^ 28 + 2 ^ (16 + (l - e)) + caps) := by
  have h1 : ptabKey 0x104 e ≠ ptabKey 0x110 e := by unfold ptabKey entKey; omega
  have h2 : ptabKey 0x104 e ≠ ptabKey 0x108 e + 4 := by unfold ptabKey entKey; omega
  have h3 : ptabKey 0x104 e ≠ ptabKey 0x108 e := by unfold ptabKey entKey; omega
  have hl (u : State) (e k : Nat) (x : LinkSt) : (u.setLink e x).reg k = u.reg k := rfl
  unfold State.linkArrives State.setReg64
  dsimp only
  rw [irqBit_regs _ 0 (pgBLNK_mod _) _ (eventReg_ptab _ _), hl, reg_setReg_ne _ _ h1, reg_setReg_ne _ _ h2, reg_setReg_ne _ _ h3,
    reg_setReg_self]

theorem linkStatKey_bar {e : Nat} (h : e < 64) : linkStatKey e < barSize := by
  unfold linkStatKey pgBLNK quadPg barSize; omega

theorem showLink_lane (s : State) (e : Nat) {l o : Nat} (hl : l < 64) (h1 : 0x040 ≤ o) (h2 : o < 0x1000) :
    (s.showLink e).reg (pgLANE l + o) = s.reg (pgLANE l + o) := by
  refine showLink_keeps (P := fun k => k = pgLANE l + o) s e (fun k hk => hk ▸ eventReg_lane hl h1 h2) (fun hk => ?_) _ rfl
  unfold linkStatKey at hk
  rw [Nat.add_assoc] at hk
  exact lane_ne_blnk l _ h2 (by omega) hk.symm

theorem showLink_ptab (s : State) {e : Nat} (he : e < 64) (off i : Nat) : (s.showLink e).reg (ptabKey off i) = s.reg (ptabKey off i) := by
  refine showLink_keeps (P := fun k => k = ptabKey off i) s e (fun k hk => hk ▸ eventReg_ptab off i) (fun hk => ?_) _ rfl
  exact absurd (linkStatKey_bar he) (Nat.not_lt.mpr (hk ▸ ptabKey_bar off i))

/-- The lanes of a port, each in ETH_UP with lock. -/
def State.portLanes (s : State) (ls : List Nat) : State :=
  ls.foldl (fun (t : State) i => ((t.setLaneState i 7).put (pgLANE i + 0x044) 25 25 1).irqBit (pgLANE i) 0) s

/-- A lane that takes a state leaves the entries of the partner table. -/
theorem setLaneState_ptab (s : State) (l st e : Nat) : (s.setLaneState l st).reg (ptabKey 0x104 e) = s.reg (ptabKey 0x104 e) := by
  have hn (x : Nat) (hx : x < 0x100) : ptabKey 0x104 e ≠ pgLANE l + x := by
    have h1 : ptabKey 0x104 e % 0x1000 = 0x104 := by unfold ptabKey entKey pgBLNK quadPg barSize; omega
    have h2 := pgLANE_mod l
    omega
  unfold State.setLaneState
  dsimp only
  rw [reg_put_ne _ _ _ _ (hn _ (by decide))]
  split
  · unfold State.eyeEnd
    split
    · rfl
    · rw [irqBit_regs _ 3 (pgLANE_mod l) _ (eventReg_ptab _ _), reg_put_ne _ _ _ _ (hn _ (by decide)), reg_put_ne _ _ _ _ (hn _ (by decide))]
      rfl
  · rfl

theorem ptabKey_ne_lane (e l : Nat) {x : Nat} (hx : x < 0x1000) (h : x ≠ 0x104) : ptabKey 0x104 e ≠ pgLANE l + x := by
  have h1 : ptabKey 0x104 e % 0x1000 = 0x104 := by unfold ptabKey entKey pgBLNK quadPg barSize; omega
  have h2 := pgLANE_mod l
  omega

theorem portLanes_ptab (s : State) (ls : List Nat) (e : Nat) : (s.portLanes ls).reg (ptabKey 0x104 e) = s.reg (ptabKey 0x104 e) := by
  refine KeepRegs.foldl (P := fun k => k = ptabKey 0x104 e) (fun t i _ => ?_) (.refl s) _ rfl
  rintro _ rfl
  rw [irqBit_regs _ 0 (pgLANE_mod i) _ (eventReg_ptab _ _), reg_put_ne _ _ _ _ (ptabKey_ne_lane e i (by decide) (by decide)), setLaneState_ptab]

theorem ptPresent_of_reg {s t : State} {e : Nat} (h : t.reg (ptabKey 0x104 e) = s.reg (ptabKey 0x104 e)) : t.ptPresent e = s.ptPresent e := by
  unfold State.ptPresent State.fld
  rw [h]

/-- The port's lanes and its link's bit, before the entry is seen to. -/
def State.portRises (s : State) (e : Nat) : State :=
  ((s.portLanes (s.linkLanes e)).put (pgLANE e + 0x200) 31 31 1).modLane e (fun x => { x with timer := none })

theorem portUp_eq (s : State) (e : Nat) : s.portUp e
    = (if s.ptPresent e then s.portRises e else (s.portRises e).linkArrives e e 0 2 0).showLink e := rfl

theorem portRises_regs (s : State) (e : Nat) : (s.portRises e).regs = ((s.portLanes (s.linkLanes e)).put (pgLANE e + 0x200) 31 31 1).regs :=
  (State.modLane_frame ..).regs rfl

theorem portRises_present (s : State) (e : Nat) : (s.portRises e).ptPresent e = s.ptPresent e := by
  refine ptPresent_of_reg ?_
  rw [reg_of_regs (portRises_regs s e), reg_put_ne _ _ _ _ (ptabKey_ne_lane e e (by decide) (by decide)), portLanes_ptab]

theorem exec_ethPortAligned {l : Lane} {s : State} {e : Nat} (he : e = (s.linkOf l).1) (hm : s.laneMode e = 1)
    (hl : ∀ i ∈ s.linkLanes e, s.laneOn i = true ∧ s.laneState i = 6) (hr : ethRow (s.linkOf l).2 (s.maxRate e) = true) :
    exec (.ethPortAligned l) s = .next (s.portUp e) := by
  subst he
  refine next_congr (if_pos ⟨hm, ?_, hr⟩)
  rw [List.all_eq_true]
  intro i hi
  obtain ⟨h1, h2⟩ := hl i hi
  rw [h1, h2]
  rfl

theorem portLanes_one (s : State) (l : Nat) : s.portLanes [l] = ((s.setLaneState l 7).put (pgLANE l + 0x044) 25 25 1).irqBit (pgLANE l) 0 := by
  rw [State.portLanes, List.foldl_cons, List.foldl_nil]

/-- The registers of the port of one lane. -/
theorem portRises_one (s : State) {l k : Nat} (h : s.linkLanes l = [l]) (hk : eventReg k = false) :
    (s.portRises l).reg k = (((s.setLaneState l 7).put (pgLANE l + 0x044) 25 25 1).put (pgLANE l + 0x200) 31 31 1).reg k := by
  rw [reg_of_regs (portRises_regs s l), h, portLanes_one]
  by_cases hn : k = pgLANE l + 0x200
  · subst hn
    rw [reg_put_self, reg_put_self, irqBit_regs _ 0 (pgLANE_mod l) _ hk]
  · rw [reg_put_ne _ _ _ _ hn, reg_put_ne _ _ _ _ hn, irqBit_regs _ 0 (pgLANE_mod l) _ hk]

/-- The port of one lane, up. -/
theorem portOne_stat (s : State) {l : Nat} (hl : l < 64) (h : s.linkLanes l = [l]) : (s.portRises l).laneState l = 7
    ∧ (s.portRises l).rxLock l = true ∧ (s.portRises l).fld (pgLANE l + 0x200) 31 31 = 1 := by
  have hs : (s.portRises l).reg (pgLANE l + 0x044) = ((s.setLaneState l 7).put (pgLANE l + 0x044) 25 25 1).reg (pgLANE l + 0x044) := by
    rw [portRises_one s h (eventReg_lane hl (by decide) (by decide)), reg_put_ne _ _ _ _ (by omega)]
  have h7 : (s.setLaneState l 7).laneState l = 7 := setLaneState_state s hl (by decide)
  refine ⟨?_, ?_, ?_⟩
  · unfold State.laneState State.fld at *
    rw [hs, reg_put_self, bitsOf_putFld_ne _ (by decide) (.inr (by decide)), h7]
  · unfold State.rxLock State.fld
    rw [hs, reg_put_self, bitsOf_putFld_self _ (by decide)]
    rfl
  · unfold State.fld
    rw [portRises_one s h (eventReg_lane hl (by decide) (by decide)), reg_put_self]
    exact bitsOf_putFld_self _ (by decide)

/-! ## PRBS checkers -/

theorem prbsMatches_iff (pat : Nat) (rx : BitVec 95) : prbsMatches pat rx = true
    ↔ ∀ i < 64, rx.getLsbD (31 + i) = (rx.getLsbD (31 + i - (prbsTaps pat).1) != rx.getLsbD (31 + i - (prbsTaps pat).2)) := by
  unfold prbsMatches
  simp only [List.all_eq_true, List.mem_range, decide_eq_true_eq]

theorem prbsOwn_iff (s : State) (l : Nat) : s.prbsOwn l = true ↔ s.loopback l = 1 ∧ s.fld (pgLANE l + 0x064) 31 31 = 1 := by
  unfold State.prbsOwn
  rw [Bool.and_eq_true, decide_eq_true_eq, decide_eq_true_eq]

theorem prbsCount_locked {s : State} {l : Nat} (errs : W32) (bits : W64) (h : s.fld (pgLANE l + 0x068) 31 31 = 1) :
    s.prbsCount l errs bits = (s.inc (pgLANE l + 0x06C) 31 0 (if s.prbsOwn l then 0 else errs.toNat)).modLane l
      (fun x => { x with prbsBits := x.prbsBits + bits.toNat }) := if_pos h

theorem reg_inc_toNat (s : State) (k n : Nat) : ((s.inc k 31 0 n).reg k).toNat = min ((s.reg k).toNat + n) (2 ^ 32 - 1) := by
  rw [State.inc, reg_put_self, putFld_word, State.fld, bitsOf_word, BitVec.toNat_ofNat]
  have := (s.reg k).isLt
  rw [show (31 + 1 - 0) = 32 from rfl]
  unfold satAdd
  split <;> omega

/-- What a read of the count of a checker leaves. -/
theorem readPrbs_regs (u : State) (l : Nat) : (u.readPrbs l).regs = ((u.setReg (pgLANE l + 0x06C) 0).setReg (pgLANE l + 0x070)
    (BitVec.ofNat 32 (min ((u.lane l).prbsBits / 2 ^ 20) (2 ^ 32 - 1)))).regs := rfl

theorem modLane_lanes {s t : State} (h : t.lanes = s.lanes) (l : Nat) (f : LaneSt → LaneSt) : (t.modLane l f).lanes = (s.modLane l f).lanes := by
  unfold State.modLane State.setLane State.lane
  dsimp only
  rw [h]

/-- The lane whose counted bits are cleared. -/
def LaneSt.bitsCleared (x : LaneSt) : LaneSt := { x with prbsBits := 0 }

theorem lanes_with_readData (t : State) (w : W32) : ({ t with readData := w } : State).lanes = t.lanes := rfl

theorem regs_with_readData (t : State) (w : W32) : ({ t with readData := w } : State).regs = t.regs := rfl

theorem readPrbs_lanes (u : State) (l : Nat) : (u.readPrbs l).lanes = (u.modLane l LaneSt.bitsCleared).lanes := by
  rw [State.readPrbs, lanes_with_readData]
  exact modLane_lanes (((State.setReg_frame _ _ _).lanes rfl).trans ((State.setReg_frame u _ _).lanes rfl)) l LaneSt.bitsCleared

theorem readPrbs_bits (u : State) (l : Nat) : ((u.readPrbs l).lane l).prbsBits = 0 := by
  rw [lane_congr (readPrbs_lanes u l), lane_modLane_self]
  rfl

theorem readPrbs_data (u : State) (l : Nat) : (u.readPrbs l).readData = u.reg (pgLANE l + 0x06C) := rfl

theorem countedBits_reg {s u : State} {l n m : Nat}
    (hu : u = (s.inc (pgLANE l + 0x06C) 31 0 n).modLane l (fun x => { x with prbsBits := x.prbsBits + m })) :
    u.reg (pgLANE l + 0x06C) = (s.inc (pgLANE l + 0x06C) 31 0 n).reg (pgLANE l + 0x06C) := by
  rw [hu]
  exact reg_of_regs ((State.modLane_frame _ l _).regs rfl) _

theorem countedBits_bits {s u : State} {l n m : Nat}
    (hu : u = (s.inc (pgLANE l + 0x06C) 31 0 n).modLane l (fun x => { x with prbsBits := x.prbsBits + m })) :
    (u.lane l).prbsBits = (s.lane l).prbsBits + m := by
  rw [hu, lane_modLane_self, lane_congr ((State.inc_frame s _ 31 0 n).lanes rfl)]

/-- A read of the count of a locked checker. -/
theorem readPrbs_count (s : State) (l : Nat) (n m : Nat) (u : State)
    (hu : u = (s.inc (pgLANE l + 0x06C) 31 0 n).modLane l (fun x => { x with prbsBits := x.prbsBits + m })) :
    (u.readPrbs l).readData.toNat = min ((s.reg (pgLANE l + 0x06C)).toNat + n) (2 ^ 32 - 1) ∧ (u.readPrbs l).reg (pgLANE l + 0x06C) = 0
    ∧ (u.readPrbs l).reg (pgLANE l + 0x070) = BitVec.ofNat 32 (min (((s.lane l).prbsBits + m) / 2 ^ 20) (2 ^ 32 - 1))
    ∧ ((u.readPrbs l).lane l).prbsBits = 0 := by
  have hreg := countedBits_reg hu
  have hbits := countedBits_bits hu
  clear hu
  refine ⟨?_, ?_, ?_, readPrbs_bits u l⟩
  · rw [readPrbs_data, hreg, reg_inc_toNat]
  · rw [reg_of_regs (readPrbs_regs u l), reg_setReg_ne _ _ (by omega), reg_setReg_self]
  · rw [reg_of_regs (readPrbs_regs u l), reg_setReg_self, hbits]

/-! ## Eye sweeps -/

theorem scoped_open {s : State} {a : Nat} {p : Page} {d : RegDesc} {v : W32} {k : W32 → State → State} (hr : regAt a = some (p, d))
    (hk : s.regKey a d = a) (ho : s.scopesOpen p (a % 0x1000) d (s.reg a) v = true) :
    s.scoped a v k = k (s.reg a) (s.setReg a (d.newWord (s.reg a) v)) := by
  unfold State.scoped
  rw [hr]
  dsimp only
  rw [hk, if_pos ho]

theorem eyeEnd_running {s : State} {l : Nat} {e : EyeSweep} (h : (s.lane l).eye = some e) (ok : Bool) : s.eyeEnd l ok
    = (((s.setLane l { s.lane l with eye := none }).put (pgLANE l + 0x078) 31 31 0).put (pgLANE l + 0x078) 30 30 (b2n ok)).irqBit (pgLANE l) 3 := by
  unfold State.eyeEnd
  rw [h]
  rfl

theorem pageOf_lane {l : Nat} (hl : l < 64) : pageOf (pgLANE l) = some ⟨.lane, l, 0, l / 16⟩ := by
  have h2 : (l / 16) < 4 := by omega
  unfold pgLANE
  rw [pageOf_quadPg h2 (by omega)]
  unfold quadPage
  repeat rw [if_neg (by omega)]
  rw [if_pos (by omega), show 16 * (l / 16) + (0x20 + l % 16 - 0x20) = l by omega]

theorem reg_eye (i q : Nat) : (⟨.lane, i, 0, q⟩ : Page).reg 0x074
    = some (reg 0x074 [wo 31 31, wo 30 30, rw 29 28, rw 23 20, rw 15 0] 0x00400000) := by
  have hh : (headerRegs ⟨.lane, i, 0, q⟩).find? (fun r => r.at 0 0x074) = none := by
    simp [headerRegs, List.find?, RegDesc.at, reg]
  have hb : (blockRegs .lane i).find? (fun r => r.at 0 0x074)
    = some (reg 0x074 [wo 31 31, wo 30 30, rw 29 28, rw 23 20, rw 15 0] 0x00400000) := rfl
  unfold Page.reg Page.regs
  rw [if_pos rfl, if_neg (fun h => Block.noConfusion h.1), List.find?_append, hh, hb]
  rfl

/-- LANE_EYE_CTRL is one register. -/
theorem regAt_eye {l : Nat} (hl : l < 64) {p : Page} {d : RegDesc} (h : regAt (pgLANE l + 0x074) = some (p, d)) : d.sel = none := by
  obtain ⟨hp, hd⟩ := regAt_some.1 h
  have hm := pgLANE_mod l
  rw [pageOf_offset hm (by decide), pageOf_lane hl] at hp
  rw [show (pgLANE l + 0x074) % 0x1000 = 0x074 by omega, ← Option.some.inj hp] at hd
  rw [← Option.some.inj ((reg_eye l (l / 16)).symm.trans hd)]
  rfl

/-- A register with no index has one key. -/
theorem regKey_plain (s : State) {a : Nat} {d : RegDesc} (h : d.sel = none) (ha : a % 0x800 ≠ 0x054) : s.regKey a d = a := by
  unfold State.regKey
  split
  · rfl
  · rw [if_neg (fun hc => ha hc.2), h]

theorem regKey_eye (s : State) {l : Nat} {d : RegDesc} (h : d.sel = none) : s.regKey (pgLANE l + 0x074) d = pgLANE l + 0x074 := by
  have hm := pgLANE_mod l
  exact regKey_plain s h (by omega)

theorem writeEye_open {s : State} {l : Nat} (hl : l < 64) {p : Page} {d : RegDesc} {v : W32} (h : regAt (pgLANE l + 0x074) = some (p, d))
    (ho : s.scopesOpen p 0x074 d (s.reg (pgLANE l + 0x074)) v = true) (hb : bit v 31 = true) {u : State}
    (hu : u = s.setReg (pgLANE l + 0x074) (d.newWord (s.reg (pgLANE l + 0x074)) v)) :
    s.writeEye l v = if bit v 30 then (u.eyeGo l).eyeAbort l else u.eyeGo l := by
  have hm := pgLANE_mod l
  unfold State.writeEye
  rw [scoped_open h (regKey_eye s (regAt_eye hl h)) (by rw [show (pgLANE l + 0x074) % 0x1000 = 0x074 by omega]; exact ho), if_pos hb, hu]

theorem bit_or_go (v : W32) : bit (v ||| 0x80000000) 31 = true ∧ bit (v ||| 0x80000000) 30 = bit v 30 := by
  unfold bit
  rw [BitVec.getLsbD_or, BitVec.getLsbD_or]
  simp

/-- A sweep's registers and its lane: begun, nothing swept. -/
theorem eyeGo_begins {u : State} {l : Nat} (h : u.laneState l = 5 ∨ u.laneState l = 7 ∨ u.laneState l = 8)
    (hb : u.fld (pgLANE l + 0x078) 31 31 = 0) (b : Bool) : (if b then (u.eyeGo l).eyeAbort l else u.eyeGo l)
      = ((u.put (pgLANE l + 0x078) 31 31 1).put (pgLANE l + 0x078) 30 30 0).modLane l (fun x => { x with eye := some { abort := b } }) := by
  have hg : u.eyeGo l = ((u.put (pgLANE l + 0x078) 31 31 1).put (pgLANE l + 0x078) 30 30 0).modLane l (fun x => { x with eye := some {} }) :=
    if_pos ⟨h, hb⟩
  rw [hg]
  cases b with
  | false => rfl
  | true =>
    rw [if_pos (c := (true = true)) rfl, State.eyeAbort, State.modLane, lane_modLane_self, State.modLane, setLane_setLane]
    rfl

theorem eyeGo_refused {u : State} {l : Nat} (h : ¬ (u.laneState l = 5 ∨ u.laneState l = 7 ∨ u.laneState l = 8) ∨ u.fld (pgLANE l + 0x078) 31 31 = 1) :
    u.eyeGo l = u.raise (pgLANE l) 4 := by
  refine if_neg fun hc => ?_
  obtain h | h := h
  · exact h hc.1
  · exact absurd (h.symm.trans hc.2) (by decide)

/-! ## The obligation -/

theorem linkLanes_one {s : State} {l : Nat} (h : s.linkOf l = (l, 1)) : s.linkLanes l = [l] := by
  unfold State.linkLanes
  rw [h]
  rfl

theorem eyeGo_state {s u : State} {l : Nat} {v : W32} (hu : u = s.setReg (pgLANE l + 0x074) v) :
    u.laneState l = s.laneState l ∧ u.fld (pgLANE l + 0x078) 31 31 = s.fld (pgLANE l + 0x078) 31 31 := by
  unfold State.laneState State.fld
  rw [hu, reg_setReg_ne _ _ (by omega), reg_setReg_ne _ _ (by omega)]
  exact ⟨rfl, rfl⟩

/-- What the entry of a port of one lane shows. -/
theorem portOne_entry (s : State) {l : Nat} (hl : l < 64) : (((s.linkArrives l l 0 2 0).showLink l).ptPresent l = true)
    ∧ ((s.linkArrives l l 0 2 0).showLink l).ptLanes l = 1 := by
  have h : ((s.linkArrives l l 0 2 0).showLink l).reg (ptabKey 0x104 l) = 0xA0010000 := by
    rw [showLink_ptab _ hl, linkArrives_entry, Nat.sub_self]
    rfl
  unfold State.ptPresent State.ptLanes State.fld
  rw [h]
  decide

/-- Settles O43: the port is read lane by lane, a checker through its count, and a sweep through the word its write leaves. -/
theorem portsAndMeasurement : Obligations.PortsAndMeasurement := by
  unfold Obligations.PortsAndMeasurement
  refine ⟨?up, ?one, fun l s => ⟨fun h => next_congr (if_pos h), fun h => next_congr ((if_neg (by omega)).trans (if_pos h))⟩, ?lock, ?seen, ?unlock,
    ?read, ?go, ?abort, ?point⟩
  case up =>
    intro l s u e he hm hl hr hu
    have hu' : u = s.portRises e := hu
    have hp : u.ptPresent e = s.ptPresent e := by rw [hu', portRises_present]
    rw [exec_ethPortAligned he hm hl hr, portUp_eq, ← hu', ← hp]
    exact ⟨fun h => by rw [if_pos h], fun h => by rw [if_neg (by rw [h]; decide)]⟩
  case one =>
    intro l s hk hm hon hst hr hp
    have hl := l.isLt
    have hone := linkLanes_one hk
    have hx : exec (.ethPortAligned l) s = .next (s.portUp l) := by
      refine exec_ethPortAligned (by rw [hk]) hm ?_ (by rw [hk]; exact hr)
      rw [hone]
      intro i hi
      rw [List.mem_singleton.1 hi]
      exact ⟨hon, hst⟩
    refine ⟨_, hx, ?_⟩
    have hparts := (State.portUp_frame s l).parts (ps := eventsAnd [.lanes, .links]) (by decide)
    have hport : s.portUp l = ((s.portRises l).linkArrives l l 0 2 0).showLink l := by
      rw [portUp_eq, if_neg (by rw [hp]; decide)]
    obtain ⟨h1, h2, h3⟩ := portOne_stat s hl hone
    obtain ⟨he1, he2⟩ := portOne_entry (s.portRises l) hl
    have hreg (o : Nat) (ho : 0x040 ≤ o) (ho2 : o < 0x1000) : (s.portUp l).reg (pgLANE l + o) = (s.portRises l).reg (pgLANE l + o) := by
      rw [hport, showLink_lane _ _ hl ho ho2]
      exact linkArrives_quiet _ _ _ _ _ _ _ (quietReg_lane hl ho ho2)
    have hs := hreg 0x044 (by decide) (by decide)
    have hb := hreg 0x200 (by decide) (by decide)
    rw [← hport] at he1 he2
    refine ⟨he1, ?_, ?_, ?_, he2, hparts⟩
    · rw [← h1]; unfold State.laneState State.fld; rw [hs]
    · rw [← h2]; unfold State.rxLock State.fld; rw [hs]
    · rw [← h3]; unfold State.fld; rw [hb]
  case lock =>
    intro l rx s hon hst hen
    refine ⟨fun hlb hm => next_congr (if_pos ⟨hon, hst, hen, (if_neg hlb).trans hm⟩),
      fun hlb hm => next_congr (if_neg fun hc => ?_),
      fun hlb hg => next_congr (if_pos ⟨hon, hst, hen, (if_pos hlb).trans (decide_eq_true hg)⟩)⟩
    obtain ⟨-, -, -, hseen⟩ := hc
    exact absurd (((if_neg hlb).symm.trans hseen).symm.trans hm) (by decide)
  case seen =>
    intro rx p hp
    rw [prbsMatches_iff]
    simp only [List.mem_cons, List.not_mem_nil, or_false] at hp
    obtain rfl | rfl | rfl := hp <;> exact Iff.rfl
  case unlock =>
    intro l errs bits s hl
    constructor
    · intro h
      have hown : ¬ s.prbsOwn l = true := fun hc => by
        obtain ⟨h1, h2⟩ := (prbsOwn_iff s l).1 hc
        exact h.elim (· h1) (· h2)
      refine next_congr ((if_neg hown).trans ?_)
      rw [prbsCount_locked errs bits hl, if_neg hown]
    · intro h1 h2
      have hown := (prbsOwn_iff s l).2 ⟨h1, h2⟩
      refine next_congr ((if_pos hown).trans ?_)
      rw [prbsCount_locked errs bits hl, if_pos hown]
  case read =>
    intro l errs bits s n hr hl hn
    have hn' : (if s.prbsOwn l then 0 else errs.toNat) = n := by rw [hn]; exact ite_congr (propext (prbsOwn_iff s l)) (fun _ => rfl) (fun _ => rfl)
    obtain ⟨u, hu⟩ : ∃ u, u = s.prbsCount l errs bits := ⟨_, rfl⟩
    have hx : exec (.prbsErrRead l errs bits) s = .next (u.readPrbs l) := by rw [hu]; exact next_congr (readAccess_reaches _ hr)
    have hframe : Frame 0x4000028 s (u.readPrbs l) := by
      rw [hu]; exact (State.readPrbs_frame _ l).step rfl ((State.prbsCount_frame s l errs bits).mono rfl)
    rw [prbsCount_locked errs bits hl, hn'] at hu
    obtain ⟨h1, h2, h3, h4⟩ := readPrbs_count s l n bits.toNat u hu
    exact ⟨_, hx, h1, h2, h3, h4, hframe.parts (by decide)⟩
  case go =>
    intro l v s a p d ha hr hd ho u hu
    subst ha
    obtain ⟨h31, h30⟩ := bit_or_go v
    obtain ⟨hst, hbusy⟩ := eyeGo_state hu
    have hx : exec (.eyeSweepGo l v) s = .next (if bit v 30 then (u.eyeGo l).eyeAbort l else u.eyeGo l) := by
      rw [← h30, ← writeEye_open l.isLt hd ho h31 hu]
      exact next_congr (access_reaches _ hr)
    rw [hx]
    rw [← hst, ← hbusy]
    refine ⟨fun h hb => ?_, fun h hb => ?_⟩
    · rw [eyeGo_begins h hb]
    · rw [hb, if_neg Bool.false_ne_true, eyeGo_refused h]
  case abort =>
    intro l s e hr he
    refine next_congr ((access_reaches _ hr).trans ?_)
    rw [State.eyeAbort, State.modLane, he]
    rfl
  case point =>
    intro l dis s e f bad n he hf hbad hn1 hn2
    have hx : exec (.eyePointDone l dis) s = .next (if e.abort then s.eyeEnd l false else
        if decide (s.fld (pgLANE l + 0x074) 15 0 < dis.toNat) = true ∨ e.step = (eyeField e.dir).2.2 then
          if e.dir = 3 then (s.put (pgLANE l + 0x078) (eyeField e.dir).1 (eyeField e.dir).2.1
            (if decide (s.fld (pgLANE l + 0x074) 15 0 < dis.toNat) then e.step - 1 else e.step)).eyeEnd l true
          else (s.put (pgLANE l + 0x078) (eyeField e.dir).1 (eyeField e.dir).2.1
            (if decide (s.fld (pgLANE l + 0x074) 15 0 < dis.toNat) then e.step - 1 else e.step)).modLane l
              (fun x => { x with eye := some { dir := e.dir + 1 } })
        else s.modLane l (fun x => { x with eye := some { e with step := e.step + 1 } })) := by
      show execEyePointDone l dis s = _
      unfold execEyePointDone
      rw [he]
    have hb : decide (s.fld (pgLANE l + 0x074) 15 0 < dis.toNat) = true ↔ bad := by rw [hbad, decide_eq_true_eq]
    generalize decide (s.fld (pgLANE l + 0x074) 15 0 < dis.toNat) = far at hx hb
    have hn : (if far then e.step - 1 else e.step) = n := by
      by_cases h : far = true
      · rw [if_pos h, hn1 (hb.1 h)]
      · rw [if_neg h, hn2 (fun hc => h (hb.2 hc))]
    rw [hn, ← hf] at hx
    have hlane (k hi lo v : Nat) : (s.put k hi lo v).lane l = s.lane l := lane_congr ((State.put_frame s k hi lo v).lanes rfl) l
    refine ⟨fun ha h1 h2 => ?_, fun ha h1 h2 => ?_, fun ha h1 h2 => ?_, fun ha => ?_⟩
    · rw [hx, ha, if_neg Bool.false_ne_true, if_neg (fun hc => hc.elim (fun h => h1 (hb.1 h)) h2)]
      rfl
    · rw [hx, ha, if_neg Bool.false_ne_true, if_pos (h1.imp_left hb.2), if_neg h2, State.modLane, hlane]
    · rw [hx, ha, if_neg Bool.false_ne_true, if_pos (h1.imp_left hb.2), if_pos h2, eyeEnd_running ((hlane ..).symm ▸ he), hlane]
      rfl
    · rw [hx, if_pos ha, eyeEnd_running he]
      rfl

end Sys2Proof.Machine
end

section
/-! The phases of a fence (R348 to R350). -/

namespace Sys2Proof.Machine

open Sys2Proof

theorem Frame.quad {m : Nat} {s t : State} (h : Frame m s t) (hm : m.testBit 9 = false) : t.quad = s.quad := h.same .quad hm

theorem Frame.eng {m : Nat} {s t : State} (h : Frame m s t) (hm : m.testBit 53 = false) : t.eng = s.eng := h.same .eng hm

theorem Frame.gsm {m : Nat} {s t : State} (h : Frame m s t) (hm : m.testBit 54 = false) : t.gsm = s.gsm := h.same .gsm hm

theorem quadSt_congr {s t : State} (h : t.quad = s.quad) (q : Nat) : t.quadSt q = s.quadSt q := by
  unfold State.quadSt; rw [h]

/-- The phase written last. -/
theorem fencePhase_put (s : State) (q : Nat) {f : Nat} (h : f < 8) : (s.put (pgDWEIR + 0x140 + 4 * q) 26 24 f).fencePhase q = f :=
  (fld_put_self s _ 24 f (by decide)).trans (Nat.mod_eq_of_lt h)

/-- What the device Weir takes from the quadrant's. -/
theorem loseQuad_eq (s u : State) (q : Nat) (hu : u = (s.put (pgDWEIR + 0x140 + 4 * q) 26 24 2).inOneCycle
      (fun x => (((s.put (pgDWEIR + 0x140 + 4 * q) 26 24 2).tasks.filter (Task.inQuad q)).foldl
        (fun t k => t.endTask k stQuadrantLost t.pt k.lostLoc) x).settle)) :
    s.loseQuad q = (((((u.setReg64 (pgDWEIR + 0x100 + 12 * q) (u.reg64 (pgQWEIR q + 0x040))).setReg (pgDWEIR + 0x108 + 12 * q)
      (u.reg (pgQWEIR q + 0x078))).setReg (pgDWEIR + 0x130 + 4 * q) (u.reg (pgQWEIR q + 0x048))).quadReset q).spoilQuad q u.eng u.gsm).put
        (pgDWEIR + 0x140 + 4 * q) 26 24 (if (u.quadSt q).fenceInj then 3 else 4) := by
  unfold State.loseQuad
  dsimp only
  rw [← hu]
  obtain ⟨v, hv⟩ : ∃ v, v = ((u.setReg64 (pgDWEIR + 0x100 + 12 * q) (u.reg64 (pgQWEIR q + 0x040))).setReg (pgDWEIR + 0x108 + 12 * q)
    (u.reg (pgQWEIR q + 0x078))).setReg (pgDWEIR + 0x130 + 4 * q) (u.reg (pgQWEIR q + 0x048)) := ⟨_, rfl⟩
  have hf : Frame 0x8 u v := by
    rw [hv]
    exact (State.setReg_frame ..).step rfl ((State.setReg_frame ..).step rfl (State.setReg64_frame ..))
  rw [← hv, hf.eng rfl, hf.gsm rfl, quadSt_congr (hf.quad rfl)]

/-- Settles O50: each phase takes its own command, and the phase it leaves is the field it writes last. -/
theorem fences : Obligations.Fences := by
  unfold Obligations.Fences
  refine ⟨?drained, ?rail, fun q s u hp hu => ?done, fun q s => ⟨fun h => next_congr (if_neg h), fun h => next_congr (if_neg h),
    fun h => next_congr (if_neg h)⟩⟩
  case drained =>
    intro q s u a b c f hp hu ha hb hc hf
    have hlt : f < 8 := by rw [hf]; split <;> decide
    refine ⟨_, next_congr ((if_pos hp).trans (loseQuad_eq s u q hu)), ?_, by rw [ha, hb, hc, hf]⟩
    rw [← hf]
    exact fencePhase_put _ q hlt
  case rail =>
    intro q s hp
    refine ⟨_, next_congr (if_pos hp), fencePhase_put s q (by decide), fun k hk => reg_put_ne _ _ _ _ hk, ?_⟩
    exact (State.put_frame ..).parts (by decide)
  case done =>
    subst hu
    exact next_congr (if_pos hp)

end Sys2Proof.Machine
end

section
/-! How a block goes below IDLE (R362, R364, R365, R371, R380). -/

namespace Sys2Proof.Machine

open Sys2Proof

/-! ## Power slots -/

theorem slot_congr {s t : State} (h : t.power = s.power) (k : Nat) : t.slot k = s.slot k := by
  unfold State.slot; rw [h]

theorem slot_setSlot_self (s : State) (k : Nat) (x : PowerSlot) : (s.setSlot k x).slot k = x := tabGet_set_self ..

theorem slot_setSlot_ne (s : State) {j k : Nat} (x : PowerSlot) (h : j ≠ k) : (s.setSlot k x).slot j = s.slot j := tabGet_set_ne _ _ _ h

/-! ## Draining a memory -/

theorem mergeLines_congr {s t : State} (h : t.mem.merge = s.mem.merge) (u : Nat) : t.mergeLines u = s.mergeLines u := by
  unfold State.mergeLines; rw [h]

theorem mergeLines_setMerge (s : State) (u : Nat) (ls : List MergeLine) : (s.setMerge u ls).mergeLines u = ls := tabGet_set_self ..

/-- A draining word changes no buffer. -/
theorem drainWord_merge (s : State) (l : MergeLine) (i : Nat) : (s.drainWord l i).mem.merge = s.mem.merge := by
  have hw (t : State) (k : Nat) (x : W64) (syn : W8) : (t.storeWord k x syn).mem.merge = t.mem.merge := rfl
  have hc (t : State) (k : Nat) : (t.seeCe k).mem = t.mem := (State.seeCe_frame t k).mem rfl
  have hu (t : State) (k n : Nat) : (t.seeUe k n).mem = t.mem := (State.seeUe_frame t k n).mem rfl
  unfold State.drainWord
  dsimp only
  split
  · rfl
  split
  · exact hw ..
  split
  · exact hw ..
  split
  · exact hw ..
  · rw [hw, hc]
  · rw [hw]
    split
    · rfl
    · rw [hu]

/-- A drained line leaves the others of its buffer. -/
theorem drainLine_lines (s : State) (u : Nat) (l : MergeLine) :
    (s.drainLine u l).mergeLines u = (s.mergeLines u).filter (fun m => decide (m.addr ≠ l.addr)) := by
  have hf (is : List Nat) (t : State) : (is.foldl (fun t i => t.drainWord l i) t).mem.merge = t.mem.merge := by
    induction is generalizing t with
    | nil => rfl
    | cons i is ih => rw [List.foldl_cons, ih, drainWord_merge]
  rw [State.drainLine, mergeLines_congr (hf _ _), mergeLines_setMerge]

/-- Draining lines that hold every address of a buffer empties it. -/
theorem drainLines_empty {u : Nat} (ls : List MergeLine) (s : State) (h : ∀ m ∈ s.mergeLines u, ∃ l ∈ ls, l.addr = m.addr) :
    (ls.foldl (fun t l => t.drainLine u l) s).mergeLines u = [] := by
  induction ls generalizing s with
  | nil =>
    refine List.eq_nil_iff_forall_not_mem.2 fun m hm => ?_
    obtain ⟨l, hl, -⟩ := h m hm
    exact List.not_mem_nil hl
  | cons l ls ih =>
    refine ih _ fun m hm => ?_
    rw [drainLine_lines, List.mem_filter, decide_eq_true_eq] at hm
    obtain ⟨hm, hne⟩ := hm
    obtain ⟨l', hl', ha⟩ := h m hm
    obtain rfl | hl' := List.mem_cons.1 hl'
    · exact absurd ha.symm hne
    · exact ⟨l', hl', ha⟩

theorem drainUnit_empty (s : State) (u : Nat) : (s.drainUnit u).mergeLines u = [] :=
  drainLines_empty _ s fun m hm => ⟨m, hm, rfl⟩

theorem drainSlot_bank (s : State) {k : Nat} {p : Page} (h : slotBlk k = some p) (hb : p.blk = .cbank) : s.drainSlot k = s.drainUnit p.inst := by
  unfold State.drainSlot
  rw [h]
  dsimp only
  rw [hb]

/-! ## The end of an entry -/

/-- The slot's state after its entry (R365), with the refusal that arose after the ACCEPT. -/
def entered (x : PowerSlot) (held : Bool) : PowerSlot :=
  { x with st := x.goal, entry := .none, entries := x.entries + 1, latched := x.latched || held }

theorem finishEntry_power (s : State) (k : Nat) : (s.finishEntry k).power = ((s.drainSlot k).setSlot k
    (entered (s.slot k) (!slotVotes k && decide ((s.drainSlot k).refuseCause k ≠ 0)))).power := by
  have hs := slot_congr ((State.drainSlot_frame s k).power rfl) k
  unfold State.finishEntry
  dsimp only
  rw [hs]
  have hp (t : State) : (if 64 ≤ k then t.idlePll (slotQuad k) else t).power = t.power := by
    split
    · exact (State.idlePll_frame ..).power rfl
    · rfl
  rw [hp]
  split
  · rfl
  split
  · split
    · exact (State.clearTiles_frame ..).power rfl
    · rfl
  · split
    · rfl
    · exact (State.emit_frame ..).power rfl
  · rfl

theorem finishEntry_bank (s : State) {k : Nat} {p : Page} (h : slotBlk k = some p) (hb : p.blk = .cbank) : (s.finishEntry k).mem = (s.drainUnit p.inst).mem := by
  have hp (t : State) : (if 64 ≤ k then t.idlePll (slotQuad k) else t).mem = t.mem := by
    split
    · exact (State.idlePll_frame ..).mem rfl
    · rfl
  unfold State.finishEntry
  dsimp only
  rw [hp, h]
  dsimp only
  rw [hb, ← drainSlot_bank s h hb]
  exact (State.setSlot_frame ..).mem rfl

/-! ## The obligation -/

theorem effFloor_eq {k pg : Nat} {p : Page} (s : State) (h : slotPage k = some pg) (hp : pageOf pg = some p) :
    s.effFloor k = if bit (s.reg (pg + 0x008)) 3 = false ∨ bit (s.reg (slotCtrlKey k)) 3 = true then 1
      else min (floorCode (bitsOf (s.reg (slotCtrlKey k)) 2 0)) p.blk.deepest := by
  have hb : slotBlk k = some p := by unfold slotBlk; rw [h]; exact hp
  unfold State.effFloor
  rw [h, hb]

/-- Settles O51: the answer and the end of an entry are read from the slot they write. -/
theorem blockEntries : Obligations.BlockEntries := by
  unfold Obligations.BlockEntries
  refine ⟨?answer, ?cause, fun k out s h1 h2 h3 => next_congr (if_pos ⟨h1, h2, h3⟩), ?stays, fun k s h => next_congr (if_pos h), ?limit, ?complete,
    ?votes, ?floor⟩
  case answer =>
    rintro k out s x rfl
    refine ⟨fun h => if_pos h, fun h => ⟨(if_neg (not_not.2 h)).trans (if_pos rfl), (if_neg (not_not.2 h)).trans ?_⟩⟩
    rw [Bool.false_or]
    by_cases hl : s.linesWait k = true
    · rw [if_pos hl, if_pos hl]; rfl
    · rw [if_neg hl, if_neg hl]; rfl
  case cause =>
    intro k s
    unfold State.refuseCause
    refine ⟨fun h => if_pos h, fun h1 h2 => ?_, fun h1 h2 => ?_⟩
    · rw [h1, h2]; rfl
    · rw [h1, h2]; rfl
  case stays =>
    intro k out s h
    refine next_congr (if_neg fun hc => ?_)
    obtain ⟨h1, h2, h3⟩ := hc
    obtain h | h | h := h
    · exact Bool.false_ne_true (h.symm.trans h1)
    · exact Bool.false_ne_true (h2.symm.trans h)
    · omega
  case limit =>
    rintro k s u h rfl
    refine next_congr ((if_pos h).trans ?_)
    by_cases hk : 64 ≤ k.val
    · rw [if_pos hk, if_pos hk, slotQuad, if_pos hk]; rfl
    · rw [if_neg hk, if_neg hk]; rfl
  case complete =>
    intro k s h hr
    have hp := finishEntry_power s k
    refine ⟨_, next_congr (if_pos ⟨h, hr⟩), ?_, fun j hj => ?_, fun p hk hb => ?_, (State.finishEntry_frame s k).parts (by decide)⟩
    · rw [slot_congr hp, slot_setSlot_self]
      rfl
    · rw [slot_congr hp, slot_setSlot_ne _ _ hj, slot_congr ((State.drainSlot_frame s k).power rfl)]
    · rw [mergeLines_congr (congrArg MemSt.merge (finishEntry_bank s hk hb)), drainUnit_empty]
  case votes =>
    intro k s h1 h2 h3 h4
    exact ⟨fun h => next_congr (if_pos ⟨h1, h2, h, h3, h4⟩), fun h => next_congr (if_neg fun hc => absurd (h.symm.trans hc.2.2.1) (by decide))⟩
  case floor =>
    intro k pg p s h hp
    rw [effFloor_eq s h hp]
    exact ⟨fun hc => if_pos hc, fun h1 h2 => if_neg fun hc => hc.elim (fun hc => absurd (h1.symm.trans hc) (by decide))
      (fun hc => absurd (h2.symm.trans hc) (by decide))⟩

end Sys2Proof.Machine
end

section
/-! How a block wakes (R367 to R372, R375). -/

namespace Sys2Proof.Machine

open Sys2Proof

/-! ## A wake at a slot -/

theorem wakeSlot_entering {s : State} {k : Nat} (hr : slotReal k = true) (hb : s.bankRetired k = false) (h : (s.slot k).entry ≠ .none) :
    s.wakeSlot k = s.setSlot k { s.slot k with entry := .none, latched := false, lastRefuse := 5 } := by
  unfold State.wakeSlot
  dsimp only
  rw [if_neg (by rw [hr, hb]; decide), if_pos h]

theorem wakeSlot_up {s : State} {k : Nat} (h : (s.slot k).entry = .none) (hst : (s.slot k).st < 2 ∨ (s.slot k).waking = true) :
    s.wakeSlot k = s := by
  unfold State.wakeSlot
  dsimp only
  rw [if_neg (not_not.2 h), if_pos hst, ite_self]

theorem wakeSlot_below {s : State} {k : Nat} (hr : slotReal k = true) (hb : s.bankRetired k = false) (h : (s.slot k).entry = .none)
    (hst : 2 ≤ (s.slot k).st) (hw : (s.slot k).waking = false) : s.wakeSlot k = if 64 ≤ k then
      if s.fenced (slotQuad k) then s
      else if s.quadOn (slotQuad k) then
        if 2 ≤ ((s.setSlot k { s.slot k with waking := true }).slot (qSlot (slotQuad k) 2)).st then
          (s.setSlot k { s.slot k with waking := true }).modSlot (qSlot (slotQuad k) 2) (fun m => { m with waking := true })
        else s.setSlot k { s.slot k with waking := true }
      else if (s.quadSt (slotQuad k)).wakeSlots.contains k then s
      else s.setQuad (slotQuad k) { s.quadSt (slotQuad k) with wakeSlots := (s.quadSt (slotQuad k)).wakeSlots ++ [k] }
    else s.setSlot k { s.slot k with waking := true } := by
  unfold State.wakeSlot
  dsimp only
  rw [if_neg (by rw [hr, hb]; decide), if_neg (not_not.2 h), if_neg (by rw [hw]; exact fun hc => hc.elim (by omega) Bool.false_ne_true)]

/-! ## Pulses -/

/-- The pulse of an enabled route, by what its slot does. -/
theorem pulse_enabled {k : W3} {ph : W2} {s u : State} {a n : Nat} {b : Bool} (ha : a = pgDPWR + 0x0A0 + 4 * k.toNat) (hn : n = bitsOf (s.reg a) 3 0)
    (hp : tabGet (fun _ => false) s.pulses k.toNat = true) (hu : u = { s with pulses := tabErase s.pulses k.toNat })
    (he : bit (s.reg a) 31 = true) (h12 : n < 12) (hw : s.wakesAct = true)
    (hb : b = (decide ((s.slot n).entry ≠ .none) || (decide (8 ≤ n) && decide (s.slotState n ≠ 0)))) :
    exec (.pulseWake k ph) s = .next (
      if b = true ∧ ph = 1 then (u.wakeStat (8 + k.toNat)).raise pgDPWR 3
      else if b = true ∧ (ph = 2 ∨ 8 ≤ n) then (u.modSlot n (fun x => { x with latched := true })).wakeStat k.toNat
      else if b = true ∨ 2 ≤ s.slotState n then (u.wakeSlot n).wakeStat k.toNat
      else u) := by
  subst ha hn hu hb
  refine next_congr ((if_neg (by rw [hp]; decide)).trans (if_neg fun hc => ?_))
  obtain hc | hc | hc := hc
  · exact absurd (he.symm.trans hc) (by decide)
  · omega
  · exact absurd (hw.symm.trans hc) (by decide)

theorem pulse_off {k : W3} {ph : W2} {s : State} (hp : tabGet (fun _ => false) s.pulses k.toNat = true)
    (h : bit (s.reg (pgDPWR + 0x0A0 + 4 * k.toNat)) 31 = false ∨ 12 ≤ bitsOf (s.reg (pgDPWR + 0x0A0 + 4 * k.toNat)) 3 0) :
    exec (.pulseWake k ph) s = .next { s with pulses := tabErase s.pulses k.toNat } :=
  next_congr ((if_neg (by rw [hp]; decide)).trans (if_pos (h.imp_right .inl)))

/-! ## The obligation -/

/-- Settles O52: each outcome is a branch of the wake of a slot, of the pulse, or of the end of the restore. -/
theorem blockWakes : Obligations.BlockWakes := by
  unfold Obligations.BlockWakes
  refine ⟨?event, ?quad, ?entering, ?plain, ?domain, ?complete, ?restored, ?canary⟩
  case event =>
    rintro k s x rfl ha hl hr hb
    have hx : exec (.wakeEvent k) s = .next (s.wakeSlot k) := next_congr (if_pos ⟨ha, hl⟩)
    refine ⟨fun h => ?_, fun h hst hw hk => ?_, fun h hst => ?_⟩
    · rw [hx, wakeSlot_entering hr hb h]
    · rw [hx, wakeSlot_below hr hb h hst hw, if_neg (Nat.not_le.2 hk)]
    · rw [hx, wakeSlot_up h hst]
  case quad =>
    rintro k s u q x rfl hq hk rfl ha hl hr hb h hst hw hf
    have hx : exec (.wakeEvent k) s = .next (s.wakeSlot k) := next_congr (if_pos ⟨ha, hl⟩)
    have hsq : slotQuad k = q := (if_pos hk).trans hq.symm
    rw [hx, wakeSlot_below hr hb h hst hw, if_pos hk, hsq, hf, if_neg Bool.false_ne_true]
    refine ⟨fun hon => ?_, fun hon hc => ?_⟩
    · rw [hon, if_pos rfl]
      rfl
    · rw [hon, if_neg Bool.false_ne_true, hc, if_neg Bool.false_ne_true]
  case entering =>
    intro k ph s u a n ha hn hp hu he h8 hw hent
    have hb : true = (decide ((s.slot n).entry ≠ .none) || (decide (8 ≤ n) && decide (s.slotState n ≠ 0))) := by
      rw [decide_eq_true hent, Bool.true_or]
    rw [pulse_enabled ha hn hp hu he (by omega) hw hb]
    refine ⟨fun h1 => ?_, fun h2 => ?_, fun h1 h2 => ?_⟩
    · rw [if_pos ⟨rfl, h1⟩]
    · rw [if_neg (by rw [h2]; decide), if_pos ⟨rfl, .inl h2⟩]
      rfl
    · rw [if_neg (fun hc => h1 hc.2), if_neg (fun hc => hc.2.elim h2 (by omega)), if_pos (.inl rfl)]
  case plain =>
    intro k ph s u a n ha hn hp hu
    refine ⟨fun h => ?_, fun he h8 hw hent => ?_⟩
    · subst ha hn hu
      exact pulse_off hp h
    · have hb : false = (decide ((s.slot n).entry ≠ .none) || (decide (8 ≤ n) && decide (s.slotState n ≠ 0))) := by
        rw [decide_eq_false (not_not.2 hent), decide_eq_false (Nat.not_le.2 h8)]
        rfl
      rw [pulse_enabled ha hn hp hu he (by omega) hw hb, if_neg (fun hc => Bool.false_ne_true hc.1), if_neg (fun hc => Bool.false_ne_true hc.1)]
      by_cases h2 : 2 ≤ s.slotState n
      · rw [if_pos (.inr h2), if_pos h2]
      · rw [if_neg (fun hc => hc.elim Bool.false_ne_true h2), if_neg h2]
  case domain =>
    intro k ph s u a n ha hn hp hu he h8 h12 hw hent
    have hb : decide (s.slotState n ≠ 0) = (decide ((s.slot n).entry ≠ .none) || (decide (8 ≤ n) && decide (s.slotState n ≠ 0))) := by
      rw [decide_eq_false (not_not.2 hent), decide_eq_true h8]
      rfl
    rw [pulse_enabled ha hn hp hu he h12 hw hb]
    refine ⟨fun h0 => ?_, fun h0 h1 => ?_, fun h0 h1 => ?_⟩
    · rw [decide_eq_false (not_not.2 h0), if_neg (fun hc => Bool.false_ne_true hc.1), if_neg (fun hc => Bool.false_ne_true hc.1),
        if_neg (fun hc => hc.elim Bool.false_ne_true (by omega))]
    · rw [if_pos ⟨decide_eq_true h0, h1⟩]
    · rw [if_neg (fun hc => h1 hc.2), if_pos ⟨decide_eq_true h0, .inr h8⟩]
      rfl
  case complete =>
    intro k ok s hw hb
    refine ⟨fun h => next_congr (if_pos ⟨hw, hb, h⟩), fun h1 h2 h3 => next_congr (if_neg fun hc => ?_)⟩
    obtain ⟨-, -, hc | ⟨-, -, hc | hc⟩⟩ := hc
    · omega
    · exact h2 hc
    · omega
  case restored =>
    rintro k ok s pg p u hp hpg hl h4 hk rfl
    have hb : slotBlk k = some p := by unfold slotBlk; rw [hp]; exact hpg
    unfold State.finishWake
    dsimp only
    rw [hb, hp]
    dsimp only
    rw [if_neg h4, if_neg (Nat.not_le.2 hk)]
    split
    · next h => exact absurd h hl
    · rfl
  case canary =>
    intro p s
    unfold State.canaryFails
    refine ⟨fun h => by rw [h], fun h => by rw [h], fun h => by rw [h], fun h1 h2 h3 => ?_⟩
    split
    · next h => exact absurd h h1
    · next h => exact absurd h h2
    · next h => exact absurd h h3
    · rfl

end Sys2Proof.Machine
end

section
/-! Quadrant domains and performance levels (R373 to R379). -/

namespace Sys2Proof.Machine

open Sys2Proof

/-! ## Voltage requests -/

theorem requestVoltage_quad (s : State) (q mv : Nat) (why : VoltWhy) : (s.requestVoltage q mv why).quad
    = (s.setQuad q { s.quadSt q with vreq := some ⟨mv, why, if s.pageEn q then .page else .command⟩ }).quad := rfl

theorem requestVoltage_queue (s : State) (q mv : Nat) (why : VoltWhy) : ((s.requestVoltage q mv why).pmbOf (s.vregHost q)).queue
    = (s.pmbOf (s.vregHost q)).queue ++ [.rail q] := by
  unfold State.requestVoltage State.pmbPush State.pmbOf State.setPmb
  dsimp only
  rw [tabGet_set_self]
  rfl

theorem quadSt_setQuad_self (s : State) (q : Nat) (x : QuadSt) : (s.setQuad q x).quadSt q = x := tabGet_set_self ..

theorem quadSt_setQuad_ne (s : State) {j q : Nat} (x : QuadSt) (h : j ≠ q) : (s.setQuad q x).quadSt j = s.quadSt j := tabGet_set_ne _ _ _ h

/-! ## A change of level -/

/-- A change that has begun. -/
def State.changing (s : State) (q n : Nat) : State :=
  (s.put (plKey q) 31 31 1).setQuad q { s.quadSt q with changeTo := some n, pendTarget := none, locking := decide (n ≠ s.level q) }

theorem startChange_eq (s : State) (q n : Nat) : s.startChange q n =
    if n = s.level q ∧ s.railLevel q = n ∧ s.fld (plKey q) 30 30 = 1 then s.put (plKey q) 31 31 0
    else if s.level q < n then s.changing q n else (s.changing q n).requestVoltage q (levelMv n) .change := rfl

/-- Settles O53: each outcome is a branch of the domain's entry and wake, of a level change, or of the poll of its rail. -/
theorem quadrantDomains : Obligations.QuadrantDomains := by
  unfold Obligations.QuadrantDomains
  refine ⟨?entry, ?wake, ?retry, ?request, ?plevel, ?change, ?lock, ?poll, fun q s => ⟨fun h => next_congr (if_pos h), fun h => next_congr ?late⟩,
    ?good, ?est⟩
  case entry =>
    rintro q s u h rfl
    exact next_congr (if_pos h)
  case wake =>
    rintro q s u h1 h2 h3 h4 h5 rfl
    exact next_congr (if_pos ⟨h1, h2, h3, h4, h5⟩)
  case retry =>
    rintro q s u h1 h2 h3 h4 h5 rfl
    exact next_congr (if_pos ⟨h3, h2, h1, h4, h5⟩)
  case request =>
    rintro q mv why s t b rfl rfl
    refine ⟨?_, requestVoltage_queue s q mv why, fun j hj => ?_, (State.requestVoltage_frame ..).parts (by decide)⟩
    · rw [quadSt_congr (requestVoltage_quad s q mv why), quadSt_setQuad_self]
    · rw [quadSt_congr (requestVoltage_quad s q mv why), quadSt_setQuad_ne _ _ hj]
  case plevel =>
    rintro q v s u n hr rfl rfl
    have hx : exec (.plevelWrite q v) s = .next (s.writePlevel q v) := next_congr (access_reaches _ hr)
    rw [hx]
    refine ⟨fun h => next_congr (if_pos h), fun h hon => next_congr ((if_neg (Nat.not_le.2 h)).trans (if_pos hon)),
      fun h hon hb => next_congr ((if_neg (Nat.not_le.2 h)).trans ((if_neg ?_).trans (if_pos hb))),
      fun h hon hb => next_congr ((if_neg (Nat.not_le.2 h)).trans ((if_neg ?_).trans (if_neg ?_)))⟩
    · rw [hon]; decide
    · rw [hon]; decide
    · rw [hb]; decide
  case change =>
    intro q n s u hu
    have hu : u = s.changing q n := hu
    rw [startChange_eq, ← hu]
    refine ⟨fun h => ?_, fun h => ?_, fun h hc => ?_, fun h1 h2 h3 => if_pos ⟨h1, h2, h3⟩⟩
    · rw [if_neg (by omega), if_pos h]
    · rw [if_neg (by omega), if_neg (by omega)]
    · rw [if_neg (by omega), if_neg (by omega)]
  case lock =>
    rintro q b s u x rfl hl hu
    have h0 : ¬ (s.quadSt q).locking = false := by rw [hl]; decide
    refine ⟨fun hw hb hv => next_congr ((if_neg h0).trans ((if_pos hw).trans (if_pos ⟨hb, hv⟩))), fun n hw hb hc => ?_⟩
    have hx : exec (.pllLock q b) s = .next (if s.level q < n then (u.switchPll q n).requestVoltage q (levelMv n) .change
        else if (s.quadSt q).vreq = none ∧ s.railLevel q = n then (u.switchPll q n).endChange q 1 else u) := by
      refine next_congr ((if_neg h0).trans ((if_neg (by rw [hw]; decide)).trans ((if_neg hb).trans ?_)))
      dsimp only
      rw [← hu, hc]
    rw [hx]
    refine ⟨fun h => next_congr (if_pos h), fun h hv hr => next_congr ((if_neg (Nat.not_lt.2 h)).trans (if_pos ⟨hv, hr⟩)),
      fun h hr => next_congr ((if_neg (Nat.not_lt.2 h)).trans (if_neg fun hc => hr hc.2))⟩
  case poll =>
    rintro q m s u r b rfl hv hn hc rfl
    have hx (res : VoutRes) : exec (.voutPoll q res) s = execVoutPoll q res s := rfl
    have hcond : r.next = .poll ∧ (s.pmbOf (s.vregHost q)).cur = none := ⟨hn, hc⟩
    simp only [hx]
    unfold execVoutPoll
    rw [hv]
    exact ⟨next_congr (if_pos hcond), next_congr (if_pos hcond), next_congr (if_pos hcond)⟩
  case late => rw [h]; rfl
  case good =>
    rintro q n s u rfl
    refine ⟨fun h => if_pos h, fun h hl => (if_neg h).trans (if_pos hl), fun h hl => (if_neg h).trans (if_neg ?_)⟩
    rw [hl]; decide
  case est =>
    intro k mw s
    refine ⟨_, rfl, ?_, fun j hj => reg_put_ne _ _ _ _ hj, (State.put_frame ..).parts (by decide)⟩
    rw [fld_put_self _ _ _ _ (by decide)]
    exact Nat.mod_eq_of_lt mw.isLt

end Sys2Proof.Machine
end

section
/-! PMBus transactions (R377, R390 to R393). -/

namespace Sys2Proof.Machine

open Sys2Proof

/-! ## Registers no event changes -/

/-- A page's own registers, of a page that is no Weir, PCIe or Fyil. -/
theorem eventReg_of_page {pg o : Nat} (hm : pg % 0x1000 = 0) (hw : ∀ w < 5, pg ≠ pgWEIR w) (hp : pg ≠ pgPCIE) (hf : pg ≠ pgFYIL)
    (h1 : 0x040 ≤ o) (h2 : o < 0x1000) : eventReg (pg + o) = false := by
  have hmod : (pg + o) % 0x1000 = o := by omega
  have hpm : pgPCIE % 0x1000 = 0 := by decide
  have hfm : pgFYIL % 0x1000 = 0 := by decide
  have ha : (List.range 5).any (fun w => decide (pg + o - (pg + o) % 0x1000 = pgWEIR w)) = false := by
    rw [List.any_eq_false, hmod, Nat.add_sub_cancel]
    exact fun w hw' => by simpa using hw w (List.mem_range.mp hw')
  have e1 : decide ((pg + o) % 0x1000 = 0x010) = false := decide_eq_false (by omega)
  have e2 : decide ((pg + o) % 0x1000 = 0x018) = false := decide_eq_false (by omega)
  have e3 : decide ((pg + o) % 0x1000 = 0x02C) = false := decide_eq_false (by omega)
  have e4 : decide (pg + o = pgPCIE + 0x050) = false := decide_eq_false (by omega)
  have e5 : decide (pg + o = pgFYIL + 0x044) = false := decide_eq_false (by omega)
  unfold eventReg
  rw [ha, e1, e2, e3, e4, e5]
  simp

theorem pgPMB_mod (b : Nat) : pgPMB b % 0x1000 = 0 := by unfold pgPMB devPg; omega

theorem eventReg_pmb (b : Fin2) {o : Nat} (h1 : 0x040 ≤ o) (h2 : o < 0x1000) : eventReg (pgPMB b + o) = false := by
  refine eventReg_of_page (pgPMB_mod b) ?_ ?_ ?_ h1 h2
  · revert b; decide
  · revert b; decide
  · revert b; decide

/-! ## Bytes received -/

/-- Byte j of a page's data words. -/
def State.dataByte (s : State) (pg j : Nat) : Nat := s.fld (pg + 0x060 + 4 * (j / 4)) (8 * (j % 4) + 7) (8 * (j % 4))

def State.putDataByte (s : State) (pg j v : Nat) : State := s.put (pg + 0x060 + 4 * (j / 4)) (8 * (j % 4) + 7) (8 * (j % 4)) v

theorem dataByte_put (s : State) (pg i j : Nat) (x : W8) : (s.putDataByte pg i x.toNat).dataByte pg j = if j = i then x.toNat else s.dataByte pg j := by
  unfold State.dataByte State.putDataByte
  by_cases h : j = i
  · subst h
    rw [if_pos rfl, fld_put_self _ _ _ _ (by omega), show 8 * (j % 4) + 7 + 1 - 8 * (j % 4) = 8 by omega]
    exact Nat.mod_eq_of_lt x.isLt
  · rw [if_neg h]
    by_cases hw : i / 4 = j / 4
    · rw [hw]
      exact fld_put_other _ _ _ (by omega) (by omega)
    · exact fld_put_ne _ _ _ _ _ _ (by omega)

theorem putDataByte_regs (s : State) (pg i v : Nat) {k : Nat} (h : k < pg + 0x060) : (s.putDataByte pg i v).reg k = s.reg k :=
  reg_put_ne _ _ _ _ (by omega)

/-- Bytes stored one by one are those read, and the words before them stay. -/
theorem putBytes_read (pg : Nat) (d : Bytes) : ∀ s : State,
    (∀ j, ((d.zip (List.range d.length)).foldl (fun t x => t.putDataByte pg x.2 x.1.toNat) s).dataByte pg j
      = if j < d.length then (d.getD j 0).toNat else s.dataByte pg j)
    ∧ ∀ k < pg + 0x060, ((d.zip (List.range d.length)).foldl (fun t x => t.putDataByte pg x.2 x.1.toNat) s).reg k = s.reg k := by
  induction d using List.reverseRecOn with
  | nil => exact fun s => ⟨fun j => rfl, fun k _ => rfl⟩
  | append_singleton d x ih =>
    intro s
    obtain ⟨h1, h2⟩ := ih s
    rw [List.length_append, List.length_singleton, List.range_succ, List.zip_append (by rw [List.length_range]), List.foldl_append]
    refine ⟨fun j => ?_, fun k hk => (putDataByte_regs _ _ _ _ hk).trans (h2 k hk)⟩
    refine (dataByte_put _ pg d.length j x).trans ?_
    rw [h1]
    by_cases hj : j = d.length
    · subst hj
      rw [if_pos rfl, if_pos (by omega), List.getD_append_right _ _ _ _ (Nat.le_refl _), Nat.sub_self]
      rfl
    · rw [if_neg hj]
      by_cases hl : j < d.length
      · rw [if_pos hl, if_pos (by omega), List.getD_append _ _ _ _ hl]
      · rw [if_neg hl, if_neg (by omega)]

/-! ## The end of a host's transaction -/

/-- The bytes a host's transaction received. -/
def State.hostRx (s : State) (b : Nat) (r : Option TxnRes) : Bytes :=
  match r with | some (.done d) => if s.fld (pgPMB b + 0x044) 30 30 = 1 then d.take 32 else [] | _ => []

/-- The byte its regulator did not acknowledge. -/
def txnNak (r : Option TxnRes) : Nat := match r with | some (.nak n) => n.toNat | _ => 0

theorem hostTxnEnds_eq (s : State) (b : Nat) (r : Option TxnRes) {w : Nat} (h : txnCode r * 2 ^ 28 + (s.hostRx b r).length * 2 ^ 16 + txnNak r = w) :
    s.hostTxnEnds b r = ((((s.hostRx b r).zip (List.range (s.hostRx b r).length)).foldl (fun t x => t.putDataByte (pgPMB b) x.2 x.1.toNat)
      (s.setReg (pgPMB b + 0x048) (BitVec.ofNat 32 w))).irqBit (pgPMB b) 0) := by
  subst h
  rfl

theorem hostTxnEnds_none {s : State} {b : Nat} {r : Option TxnRes} (hr : s.hostRx b r = []) {w : Nat} (h : txnCode r * 2 ^ 28 + txnNak r = w) :
    s.hostTxnEnds b r = (s.setReg (pgPMB b + 0x048) (BitVec.ofNat 32 w)).irqBit (pgPMB b) 0 := by
  rw [hostTxnEnds_eq s b r (w := w) (by rw [hr, ← h]; simp), hr]
  rfl

theorem hostTxnEnds_read (s : State) (b : Nat) {d : Bytes} (h : s.fld (pgPMB b + 0x044) 30 30 = 1) (hd : d.length ≤ 32) :
    s.hostTxnEnds b (some (.done d)) = (((d.zip (List.range d.length)).foldl (fun t x => t.putDataByte (pgPMB b) x.2 x.1.toNat)
      (s.setReg (pgPMB b + 0x048) (BitVec.ofNat 32 (2 ^ 28 + d.length * 2 ^ 16)))).irqBit (pgPMB b) 0) := by
  have hr : s.hostRx b (some (.done d)) = d := (if_pos h).trans (List.take_of_length_le hd)
  rw [hostTxnEnds_eq s b _ (w := 2 ^ 28 + d.length * 2 ^ 16) (by rw [hr]; simp [txnCode, txnNak]), hr]

theorem dataByte_of_reg {s t : State} {pg j : Nat} (h : t.reg (pg + 0x060 + 4 * (j / 4)) = s.reg (pg + 0x060 + 4 * (j / 4))) :
    t.dataByte pg j = s.dataByte pg j := by
  unfold State.dataByte State.fld
  rw [h]

/-! ## Queues -/

theorem pmbOf_push_self (s : State) (b : Nat) (j : PmbJob) : (s.pmbPush b j).pmbOf b = { s.pmbOf b with queue := (s.pmbOf b).queue ++ [j] } :=
  tabGet_set_self ..

theorem pmbOf_push_ne (s : State) {a b : Nat} (j : PmbJob) (h : a ≠ b) : (s.pmbPush b j).pmbOf a = s.pmbOf a := tabGet_set_ne _ _ _ h

/-- Settles O55: a host's queue, the outcome of its transaction by the item in progress, and the bytes it leaves. -/
theorem pmbusHosts : Obligations.PmbusHosts := by
  unfold Obligations.PmbusHosts
  refine ⟨?go, ?start, ?idle, ?order, ?ends, ?result, ?bytes, ?poll, ?rail, ?alert, ?hsc, ?off⟩
  case go =>
    rintro b v s u a rfl hr rfl
    have hx : exec (.pmbTxnGo b v) s = .next (s.writePmbTxn b v) := next_congr (access_reaches _ hr)
    rw [hx]
    refine ⟨fun h hb hl => next_congr ((if_neg ?_).trans (if_pos h)), fun h hc => next_congr (if_pos ⟨h, hc⟩),
      fun h => next_congr ((if_neg ?_).trans (if_neg ?_))⟩
    · rw [hl]
      exact fun hc => hc.2.elim hb (by decide)
    · rw [h]
      exact fun hc => Bool.false_ne_true hc.1
    · rw [h]
      decide
  case start =>
    intro b s t j hon hc hl hs
    refine next_congr ((if_pos ⟨hon, hc⟩).trans ?_)
    unfold State.pmbStart
    rw [hl]
    dsimp only
    rw [hs]
  case idle =>
    intro b s h
    obtain h | h := h
    · refine next_congr (if_neg fun hc => ?_)
      rw [hc.2] at h
      exact Bool.false_ne_true h
    · have hs : s.pmbStart b = s := by
        unfold State.pmbStart
        rw [h]
        rfl
      refine next_congr ?_
      rw [hs, ite_self]
  case order =>
    intro q r
    simp only [PmbJob.order]
    decide
  case ends =>
    rintro b r s u h rfl
    have hx (r : Option TxnRes) : s.txnEnds b r = ((s.setPmb b { s.pmbOf b with cur := none }).txnError b r).hostTxnEnds b r := by
      unfold State.txnEnds
      rw [h]
    exact ⟨next_congr (hx (some r)), next_congr (hx none)⟩
  case result =>
    intro b s d n
    refine ⟨fun h => ?_, hostTxnEnds_none rfl rfl, hostTxnEnds_none rfl (by simp [txnCode, txnNak])⟩
    have hr : s.hostRx b (some (.done d)) = [] := if_neg (by rw [h]; decide)
    exact hostTxnEnds_none hr (by simp [txnCode, txnNak])
  case bytes =>
    rintro b s t d hr hd rfl
    obtain ⟨h1, h2⟩ := putBytes_read (pgPMB b) d (s.setReg (pgPMB b + 0x048) (BitVec.ofNat 32 (2 ^ 28 + d.length * 2 ^ 16)))
    rw [hostTxnEnds_read s b hr hd]
    generalize (d.zip (List.range d.length)).foldl (fun (t : State) x => t.putDataByte (pgPMB b) x.2 x.1.toNat) (s.setReg _ _) = u at h1 h2 ⊢
    refine ⟨?_, fun j hj => ?_⟩
    · rw [irqBit_regs _ 0 (pgPMB_mod b) _ (eventReg_pmb b (by decide) (by decide)), h2 _ (by omega), reg_setReg_self]
    · have hw : (u.irqBit (pgPMB b) 0).reg (pgPMB b + 0x060 + 4 * (j / 4)) = u.reg (pgPMB b + 0x060 + 4 * (j / 4)) := by
        rw [Nat.add_assoc]
        exact irqBit_regs _ 0 (pgPMB_mod b) _ (eventReg_pmb b (by omega) (by omega))
      exact (dataByte_of_reg hw).trans ((h1 j).trans (if_pos hj))
  case poll =>
    rintro b x y s u rfl
    refine ⟨fun h => next_congr ?_, fun h => next_congr ?_, fun h => next_congr ?_⟩
    · unfold State.txnEnds
      rw [h]
      rfl
    · unfold State.txnEnds
      rw [h]
      rfl
    · unfold State.txnEnds
      obtain h | h := h
      · rw [h]
        rfl
      · rw [h]
        rfl
  case rail =>
    intro b q s r d n h
    unfold State.railTxnEnds
    dsimp only
    rw [h]
    exact ⟨fun hc => if_pos hc, fun hc => if_neg hc, rfl, rfl⟩
  case alert =>
    intro b s hon
    refine next_congr ?_
    rw [hon]
    by_cases h : s.fld (pgPMB b + 0x040) 0 0 = 1
    · rw [if_pos ⟨rfl, h⟩, if_pos h]
    · rw [if_neg (fun hc => h hc.2), if_neg h]
  case hsc =>
    rintro s c b rfl hb hon h1 h2 h3 h4
    have hb2 : b < 2 := by rw [hb]; exact Nat.mod_lt _ (by decide)
    subst hb
    refine ⟨_, next_congr (if_pos ⟨hon, h1, h2, h3, h4⟩), ?_, ?_, ?_, ((State.pmbPush_frame ..).step rfl (State.pmbPush_frame ..)).parts (by decide)⟩
    · rw [pmbOf_push_self, pmbOf_push_self, List.append_assoc]
      rfl
    · rw [pmbOf_push_self, pmbOf_push_self]
    · rw [pmbOf_push_ne _ _ (by omega), pmbOf_push_ne _ _ (by omega)]
  case off =>
    rintro v s c hr rfl
    have hx : exec (.hscOff v) s = .next (s.writeHscOff v) := next_congr (access_reaches _ hr)
    rw [hx]
    refine ⟨fun h1 h2 => next_congr ((if_pos ⟨h1, h2⟩).trans ?_), fun h => next_congr (if_neg fun hc => h.elim (· hc.1) (· hc.2))⟩
    unfold State.orderHscOff
    dsimp only
    by_cases h0 : bit v 0 = true
    · rw [if_pos h0]
      by_cases hc : bit (s.reg (pgPMB 0 + 0x080)) 31 = true
      · rw [if_pos hc, if_pos ⟨h0, hc⟩]
      · rw [if_neg hc, if_neg (fun h => hc h.2)]
    · rw [if_neg h0, if_neg (fun h => h0 h.1)]

end Sys2Proof.Machine
end

section
/-! The TAP, THERMTRIP_L and the Fyil port (R457, R462, R463). -/

namespace Sys2Proof.Machine

open Sys2Proof

/-! ## Scans -/

/-- What selecting an instruction puts on the balls. -/
def State.selectOut (s : State) (i : W8) : List Output := if s.tap.inst = i then [] else [.balls i (if drivesBalls i then s.tap.held else 0)]

theorem tapSelect_eq (s : State) (i : W8) : s.tapSelect i = { s with tap := { s.tap with inst := i }, out := s.out ++ s.selectOut i } := by
  unfold State.tapSelect State.selectOut
  dsimp only
  by_cases h : s.tap.inst = i
  · rw [if_pos h, if_pos h, List.append_nil]
  · rw [if_neg h, if_neg h]
    rfl

theorem otherScan_eq (s : State) (i : W8) (captured : Boundary) :
    s.otherScan i captured = { s with tap := ⟨i, s.tap.held, captured⟩, out := s.out ++ s.selectOut i } := by
  unfold State.otherScan
  rw [tapSelect_eq]

theorem boundaryScan_eq (s : State) (i : W8) (balls din : Boundary) : s.boundaryScan i balls din =
    { s with tap := ⟨i, din, balls⟩, out := s.out ++ s.selectOut i ++ (if drivesBalls i then [.balls i din] else []) } := by
  unfold State.boundaryScan
  rw [tapSelect_eq]
  dsimp only
  cases drivesBalls i with
  | false => rw [if_neg Bool.false_ne_true, if_neg Bool.false_ne_true, List.append_nil]
  | true => rfl

/-- The state after a scan of the boundary register. -/
def State.scanned (s : State) (i : W8) (balls din : Boundary) : State :=
  { s with
    tap := ⟨i, din, balls⟩
    out := s.out ++ (if s.tap.inst = i then [] else [.balls i (if i = 2 then 0 else s.tap.held)]) ++ (if i = 2 then [] else [.balls i din]) }

theorem boundaryScan_drives (s : State) {i : W8} (balls din : Boundary) (h : drivesBalls i = true) (h2 : i ≠ 2) :
    s.boundaryScan i balls din = s.scanned i balls din := by
  rw [boundaryScan_eq, State.selectOut, h]
  unfold State.scanned
  rw [if_neg h2, if_neg h2]
  rfl

theorem boundaryScan_samples (s : State) (balls din : Boundary) : s.boundaryScan 2 balls din = s.scanned 2 balls din := by
  rw [boundaryScan_eq]
  rfl

/-- Settles O60: a scan selects its instruction and then captures; the other commands are one branch each. -/
theorem testPort : Obligations.TestPort := by
  unfold Obligations.TestPort
  refine ⟨?boundary, ?other, ?each, ?trip, ?frame, ?push⟩
  case boundary =>
    intro balls din c i s h
    obtain ⟨rfl, rfl⟩ | ⟨rfl, rfl⟩ | ⟨rfl, rfl⟩ | ⟨rfl, rfl⟩ := h
    · exact next_congr (boundaryScan_drives s balls din rfl (by decide))
    · exact next_congr (boundaryScan_samples s balls din)
    · exact next_congr (boundaryScan_drives s balls din rfl (by decide))
    · exact next_congr (boundaryScan_drives s balls din rfl (by decide))
  case other =>
    intro c i s h
    obtain ⟨rfl, rfl⟩ | ⟨rfl, rfl⟩ | ⟨rfl, rfl⟩ | ⟨rfl, rfl⟩ := h
    · exact next_congr (otherScan_eq s 1 0x1724056F)
    · exact next_congr (otherScan_eq s 5 0)
    · exact next_congr (otherScan_eq s 6 0)
    · exact next_congr (otherScan_eq s 0xFF 0)
  case each =>
    intro balls din s
    have hb (i : W8) : (s.boundaryScan i balls din).tap = ⟨i, din, balls⟩ := by rw [boundaryScan_eq]
    have ho (i : W8) (c : Boundary) : (s.otherScan i c).tap = ⟨i, s.tap.held, c⟩ := by rw [otherScan_eq]
    exact ⟨⟨_, rfl, hb 0⟩, ⟨_, rfl, hb 2⟩, ⟨_, rfl, hb 3⟩, ⟨_, rfl, hb 4⟩, ⟨_, rfl, ho 1 _⟩, ⟨_, rfl, ho 5 0⟩, ⟨_, rfl, ho 6 0⟩, ⟨_, rfl, ho 0xFF 0⟩,
      ⟨_, rfl, by rw [tapSelect_eq], (State.tapSelect_frame ..).parts (by decide)⟩⟩
  case trip =>
    intro s
    refine ⟨fun h1 h2 => next_congr (if_neg fun hc => hc.elim (fun hc => absurd (h1.symm.trans hc) (by decide)) h2), fun h => next_congr (if_pos (.inl h))⟩
  case frame =>
    intro s x l hen hst
    have hx : ¬ (s.fld (pgFYIL + 0x040) 31 31 = 0 ∨ 2 ≤ s.slotState 7) := fun hc => hc.elim (fun hc => absurd (hen.symm.trans hc) (by decide)) (by omega)
    refine ⟨fun h => next_congr ((if_neg hx).trans ?_), fun h => next_congr ((if_neg hx).trans ?_)⟩
    · rw [h]
      rfl
    · split
      · next hc => exact absurd (h.symm.trans hc) (List.cons_ne_nil _ _).symm
      · rfl
  case push =>
    intro s kind weir body
    refine ⟨fun h => ?_, fun h => ?_⟩
    · unfold State.fyilPush
      rw [if_pos h]
      exact List.length_append
    · unfold State.fyilPush
      rw [if_neg (Nat.not_lt.2 h)]

end Sys2Proof.Machine
end

section
/-! The retention store: staging, commits, the bank in force (R431, R433 to R437). -/

namespace Sys2Proof.Machine

open Sys2Proof

theorem Frame.att {m : Nat} {s t : State} (h : Frame m s t) (hm : m.testBit 52 = false) : t.att = s.att := h.same .att hm

theorem Frame.rsto {m : Nat} {s t : State} (h : Frame m s t) (hm : m.testBit 45 = false) : t.rsto = s.rsto := h.same .rsto hm

/-! ## Banks -/

theorem bankOf_congr {s t : State} (h : t.rsto = s.rsto) (c : Nat) (b : Bool) : t.bankOf c b = s.bankOf c b := by
  unfold State.bankOf; rw [h]

theorem bankGood_congr {s t : State} {c : Nat} {b : Bool} (h : t.bankOf c b = s.bankOf c b) : t.bankGood c b = s.bankGood c b := by
  unfold State.bankGood; rw [h]

theorem inForce_iff {s : State} {c : Nat} {b : Bool} (hb : s.bankGood c b = false) : s.inForce c = some (!b) ↔ s.bankGood c (!b) = true := by
  unfold State.inForce
  cases b with
  | false =>
    rw [hb, if_neg Bool.false_ne_true, Bool.not_false]
    by_cases h : s.bankGood c true = true
    · rw [if_pos h, h]; exact ⟨fun _ => rfl, fun _ => rfl⟩
    · rw [if_neg h]; exact ⟨fun hc => absurd hc.symm (Option.some_ne_none _), fun hc => absurd hc h⟩
  | true =>
    rw [hb, if_neg Bool.false_ne_true, if_neg Bool.false_ne_true, Bool.not_true]
    by_cases h : s.bankGood c false = true
    · rw [if_pos h, h]; exact ⟨fun _ => rfl, fun _ => rfl⟩
    · rw [if_neg h]; exact ⟨fun hc => absurd hc.symm (Option.some_ne_none _), fun hc => absurd hc h⟩

/-- Only a valid bank is in force. -/
theorem inForce_good {s : State} {c : Nat} {b : Bool} (h : s.inForce c = some b) : s.bankGood c b = true := by
  unfold State.inForce at h
  split at h
  · next h0 =>
    split at h
    · next h1 => cases b with
      | false => exact h0
      | true => exact h1
    · rw [← Option.some.inj h]; exact h0
  · split at h
    · next h1 => rw [← Option.some.inj h]; exact h1
    · exact absurd h.symm (Option.some_ne_none _)

/-- A bank that begins with the pending marker is pending, and holds no record. -/
theorem pendingMark_bank (c : Nat) (b : Bool) (x : Bytes) : (pendingMark c b ++ x).take 8 = pendingMark c b
    ∧ bankValid c b (pendingMark c b ++ x) = false := by
  have h8 : (pendingMark c b).length = 8 := bankWord_length ..
  have ht : (pendingMark c b ++ x).take 8 = pendingMark c b := by rw [← h8, List.take_left']; rfl
  have hn : pendingMark c b ≠ bankWord c b 1 := fun hc => by
    unfold pendingMark bankWord at hc
    exact absurd (List.append_cancel_left hc) (by decide)
  refine ⟨ht, ?_⟩
  unfold bankValid
  rw [ht, decide_eq_false hn, Bool.false_and, Bool.false_and, Bool.false_and]

/-! ## Commits -/

theorem startCommit_rsto (s : State) (c : Nat) (p : Bytes) (b : Bool) (n : W32) (hb : b = (match s.inForce c with | some x => !x | none => false))
    (hn : n = (match s.inForce c with | some x => bankSeq (s.bankOf c x) + 1 | none => 0)) :
    (s.startCommit c p).rsto = (s.setBank c b (pendingMark c b ++ (s.bankOf c b).drop 8)).rsto
    ∧ (s.startCommit c p).commit = some { cls := c, bankB := b, seq := n, payload := p } := by
  subst hb hn
  exact ⟨rfl, rfl⟩

theorem not_ne_self (b : Bool) : ¬ ((!b) = b) := by cases b <;> decide

/-- A commit leaves the bank in force, and marks the other. -/
theorem startCommit_marks (s : State) (c : Nat) (p : Bytes) {b : Bool} (h : (s.startCommit c p).rsto
      = (s.setBank c b (pendingMark c b ++ (s.bankOf c b).drop 8)).rsto) :
    (s.startCommit c p).bankOf c b = pendingMark c b ++ (s.bankOf c b).drop 8 ∧ (s.startCommit c p).bankPending c b = true
    ∧ (s.startCommit c p).bankGood c b = false ∧ (s.startCommit c p).bankOf c (!b) = s.bankOf c (!b) := by
  have h1 : (s.startCommit c p).bankOf c b = pendingMark c b ++ (s.bankOf c b).drop 8 := by
    rw [bankOf_congr h, State.bankOf_setBank, if_pos ⟨rfl, rfl⟩]
  obtain ⟨hp, hv⟩ := pendingMark_bank c b ((s.bankOf c b).drop 8)
  refine ⟨h1, ?_, ?_, ?_⟩
  · unfold State.bankPending
    rw [h1, hp]
    exact decide_eq_true rfl
  · unfold State.bankGood
    rw [h1, hv]
  · rw [bankOf_congr h, State.bankOf_setBank, if_neg (fun hc => not_ne_self b hc.2)]

/-! ## The end of a commit -/

theorem reserve_idle {s : State} (h : ∀ a, s.att = some a → a.reserved = true) : s.reserve = s := by
  unfold State.reserve
  split
  · next a ha _ => exact if_neg fun hc => absurd ((h a ha).symm.trans hc.2) (by decide)
  · rfl

/-- The word of MODE and DRAIN_STEP. -/
def modeWord (k : Nat) : Prop := k = pgDEV + 0x040

theorem modeWord_event {k : Nat} (h : modeWord k) : eventReg k = false := by
  rw [h]; decide +kernel

theorem keepMode_event {s t : State} (h : EventRegs s t) : KeepRegs modeWord s t := (KeepRegs.of_event h).mono fun _ hk => modeWord_event hk

theorem keepMode_put {s : State} {k : Nat} (hi lo v : Nat) (h : k ≠ pgDEV + 0x040) : KeepRegs modeWord s (s.put k hi lo v) :=
  (KeepRegs.refl s).setReg _ (fun hc => h hc)

theorem mode_of_keep {s t : State} (h : KeepRegs modeWord s t) : t.mode = s.mode ∧ t.drainStep = s.drainStep := by
  unfold State.mode State.drainStep State.fld
  rw [h _ rfl]
  exact ⟨rfl, rfl⟩

theorem attRefuse_keepMode (s : State) (res : Nat) : KeepRegs modeWord s (s.attRefuse res) := by
  unfold State.attRefuse State.attEnd
  have h1 : KeepRegs modeWord s (s.raise pgBTU 1) := keepMode_event (raise_regs _ _ _ (by decide))
  generalize s.raise pgBTU 1 = t at h1 ⊢
  have h2 : KeepRegs modeWord t (t.put attStat 31 31 0) := keepMode_put _ _ _ (by decide)
  have h3 (u : State) : KeepRegs modeWord u (u.put attStat 30 28 res) := keepMode_put _ _ _ (by decide)
  have h4 (u : State) : KeepRegs modeWord u { u with att := none } := .of_regs rfl
  exact ((h1.trans h2).trans ((h3 _).trans (h4 _))).trans (keepMode_event (irqBit_regs _ 0 (by decide)))

theorem examine_keepMode (s : State) : KeepRegs modeWord s s.examine := by
  unfold State.examine
  exact KeepRegs.ite (keepMode_event (raise_regs _ _ _ (by decide))) (.refl s)

theorem attRefuse_att (s : State) (res : Nat) : (s.attRefuse res).att = none := by
  unfold State.attRefuse State.attEnd
  rw [(State.irqBit_frame ..).att rfl]

/-- The end of a commit of a state whose reports wait for nothing, out of DRAIN step 5. -/
theorem exec_commitDone {s t : State} {k : Commit} {ok : Bool} (hk : s.commit = some k) (ht : s.endCommit k ok = t)
    (ha : ∀ a, t.att = some a → a.reserved = true) (hm : ¬ (t.mode = 4 ∧ t.drainStep = 5)) : exec (.commitDone ok) s = .next t := by
  show execCommitDone ok s = _
  unfold execCommitDone
  rw [hk]
  dsimp only
  rw [ht, reserve_idle ha, if_neg (fun hc => hm ⟨hc.1, hc.2.1⟩)]

/-- The last steps of a commit's end change no mode and no report. -/
theorem commitEnds_last (u : State) : KeepRegs modeWord u (u.irqBit pgRSTO 0).examine ∧ (u.irqBit pgRSTO 0).examine.att = u.att :=
  ⟨(keepMode_event (irqBit_regs _ 0 (by decide))).trans (examine_keepMode _),
    ((State.examine_frame _).att rfl).trans ((State.irqBit_frame ..).att rfl)⟩

theorem setBank_keepMode (s : State) (c : Nat) (b : Bool) (x : Bytes) : KeepRegs modeWord s (s.setBank c b x) := .of_regs rfl

/-- The start of a commit's end. -/
def State.commitOver (s : State) (c : Nat) : State := { s.put (rstoKey c) 26 26 0 with commit := none }

theorem commitOver_keepMode (s : State) {c : Nat} (h : rstoKey c ≠ pgDEV + 0x040) : KeepRegs modeWord s (s.commitOver c) :=
  (keepMode_put _ _ _ h).trans (.of_regs rfl)

/-- The end of a commit of the host's class. -/
theorem endCommit_host {s u : State} {k : Commit} (hk : k.cls = 1) (hu : u = s.commitOver 1) (ok : Bool) : s.endCommit k ok =
    (((if ok = true then
        ((u.setBank 1 k.bankB (bankRecord 1 k.bankB k.seq k.payload)).put (pgRSTO + 0x068) 30 28 1).put (rstoKey 1) 27 27 0
      else (u.raise pgRSTO 1).put (pgRSTO + 0x068) 30 28 3).irqBit pgRSTO 0).examine) := by
  unfold State.endCommit
  rw [hk, hu]
  cases ok <;> rfl

theorem hostCommit_over (u : State) (b ok : Bool) (x : Bytes) {v : State} (hv : v = if ok = true then
      ((u.setBank 1 b x).put (pgRSTO + 0x068) 30 28 1).put (rstoKey 1) 27 27 0 else (u.raise pgRSTO 1).put (pgRSTO + 0x068) 30 28 3) :
    KeepRegs modeWord u v ∧ v.att = u.att := by
  subst hv
  cases ok with
  | true =>
    refine ⟨?_, rfl⟩
    exact (setBank_keepMode _ _ _ _).trans ((keepMode_put (k := pgRSTO + 0x068) _ _ _ (by decide)).trans (keepMode_put (k := rstoKey 1) _ _ _ (by decide)))
  | false =>
    refine ⟨?_, (State.raise_frame ..).att rfl⟩
    exact (keepMode_event (raise_regs _ _ _ (by decide))).trans (keepMode_put _ _ _ (by decide))

/-- What the end of a reservation leaves of the report that waits. -/
theorem reservedNow_eq {s : State} {a : AttJob} (h : s.att = some a) (ok : Bool) : s.reservedNow ok =
    if ok = false then s.attRefuse 4 else if s.mode = 4 then s.attRefuse 2 else { s with att := some { a with reserved := true } } := by
  unfold State.reservedNow
  rw [h]

/-- The end of a reservation: the record in force, or its error. -/
def State.reservationOver (u : State) (k : Commit) (ok : Bool) : State :=
  if ok then (u.setBank 0 k.bankB (bankRecord 0 k.bankB k.seq k.payload)).put (pgFUSE + 0x048) 27 27 1 else u.raise pgRSTO 1

theorem endCommit_reservation {s : State} {k : Commit} (hk : k.cls = 0) (ok : Bool) :
    s.endCommit k ok = ((((s.commitOver 0).reservationOver k ok).reservedNow ok).irqBit pgRSTO 0).examine := by
  unfold State.endCommit
  rw [hk]
  cases ok <;> rfl

theorem reservationOver_keeps (u : State) (k : Commit) (ok : Bool) : KeepRegs modeWord u (u.reservationOver k ok) ∧ (u.reservationOver k ok).att = u.att := by
  cases ok with
  | true => exact ⟨(setBank_keepMode _ _ _ _).trans (keepMode_put (k := pgFUSE + 0x048) _ _ _ (by decide)), rfl⟩
  | false =>
    have h : u.reservationOver k false = u.raise pgRSTO 1 := rfl
    rw [h]
    exact ⟨keepMode_event (raise_regs _ _ _ (by decide)), (State.raise_frame ..).att rfl⟩

/-- Settles O58: a bank's bytes decide what is in force, and the end of a commit is read branch by branch. -/
theorem retentionStore : Obligations.RetentionStore := by
  unfold Obligations.RetentionStore
  refine ⟨?stage, ?cmds, ?key, ?begins, ?cut, ?force, ?valid, ?host, ?reserve, ?drain, ?examines⟩
  case stage =>
    rintro v s w hr rfl
    refine ⟨_, next_congr (access_reaches _ hr), tabGet_set_self .., fun j hj => tabGet_set_ne _ _ _ hj, ?_, (State.stageWrite_frame ..).parts (by decide)⟩
    exact fld_put_self s _ 2 _ (by decide)
  case cmds =>
    rintro s r hr rfl
    have hx (bits : List Nat) : s.access rstoCmd (fun s => s.writeRstoCmd 0x434D bits) = bits.foldl State.rstoDo s :=
      (access_reaches _ hr).trans (if_neg (not_not.2 rfl))
    have h0 : exec (.commit 0x434D) s = .next (s.rstoDo 0) := next_congr (hx [0])
    have h1 : exec (.arm 0x434D) s = .next (s.rstoDo 1) := next_congr (hx [1])
    have h2 : exec (.disarm 0x434D) s = .next (s.rstoDo 2) := next_congr (hx [2])
    rw [h0, h1, h2]
    refine ⟨fun h => ⟨next_congr ((if_neg (by decide)).trans ((if_neg ?_).trans (if_neg (by decide)))),
      next_congr ((if_neg (by decide)).trans ((if_neg ?_).trans (if_pos rfl)))⟩,
      fun h => ⟨next_congr ((if_neg (by decide)).trans (if_pos h)), next_congr ((if_neg (by decide)).trans (if_pos h))⟩, next_congr (if_pos rfl)⟩
    · rw [h]; decide
    · rw [h]; decide
  case key =>
    intro key s hr hk
    exact ⟨next_congr ((access_reaches _ hr).trans (if_pos hk)), next_congr ((access_reaches _ hr).trans (if_pos hk)),
      next_congr ((access_reaches _ hr).trans (if_pos hk))⟩
  case begins =>
    rintro s t c p b n rfl
    refine ⟨fun h hn => ?_, fun h => ?_⟩
    · obtain ⟨hr, hc⟩ := startCommit_rsto s c p b n (by rw [h]; exact (Bool.not_not b).symm) (by rw [h]; exact hn)
      obtain ⟨h1, h2, h3, h4⟩ := startCommit_marks s c p hr
      refine ⟨h1, h2, h3, h4, (inForce_iff h3).2 ?_, hc⟩
      rw [bankGood_congr h4]
      exact inForce_good h
    · obtain ⟨hr, hc⟩ := startCommit_rsto s c p false 0 (by rw [h]) (by rw [h])
      exact ⟨(startCommit_marks s c p hr).2.1, hc⟩
  case cut =>
    intro s k c b h
    unfold State.cutCommit
    rw [h]
    exact ⟨rfl, rfl, fld_put_self s _ _ 0 (by decide)⟩
  case force =>
    intro s c
    unfold State.inForce
    refine ⟨fun h1 h2 => ?_, fun h1 h2 => ?_, fun h1 h2 => ?_, fun h1 h2 => ?_⟩ <;> rw [h1, h2] <;> rfl
  case valid =>
    intro c b x
    unfold bankValid bankWord
    simp only [Bool.and_eq_true, Bool.or_eq_true, decide_eq_true_eq, and_assoc, ← imp_iff_not_or]
  case host =>
    intro ok s u k hc hk hm ha hu
    have hu' : u = s.commitOver 1 := hu
    obtain ⟨v, hv⟩ : ∃ v, v = if ok = true then
      ((u.setBank 1 k.bankB (bankRecord 1 k.bankB k.seq k.payload)).put (pgRSTO + 0x068) 30 28 1).put (rstoKey 1) 27 27 0
      else (u.raise pgRSTO 1).put (pgRSTO + 0x068) 30 28 3 := ⟨_, rfl⟩
    obtain ⟨h1, h2⟩ := hostCommit_over u k.bankB ok _ hv
    obtain ⟨h3, h4⟩ := commitEnds_last v
    have h0 : KeepRegs modeWord s u := hu' ▸ commitOver_keepMode s (by decide)
    rw [← hv]
    refine exec_commitDone hc ((endCommit_host hk hu' ok).trans (by rw [← hv])) (fun a hc => ?_) (fun hc => hm ?_)
    · have hn : u.att = none := by rw [hu]; exact ha
      exact absurd ((h4.trans h2).trans hn ▸ hc) (Option.some_ne_none a).symm
    · exact (mode_of_keep (h0.trans (h1.trans h3))).1 ▸ hc.1
  case reserve =>
    intro ok s u k a hc hk hm ha hrep hres hu
    have hu' : u = s.commitOver 0 := hu
    have h0 : KeepRegs modeWord s u := hu' ▸ commitOver_keepMode s (by decide)
    obtain ⟨h1, h2⟩ := reservationOver_keeps u k ok
    have hatt : (u.reservationOver k ok).att = some a := h2.trans (by rw [hu]; exact ha)
    have hmode : ¬ (u.reservationOver k ok).mode = 4 := (mode_of_keep (h0.trans h1)).1 ▸ hm
    have he := endCommit_reservation (s := s) hk ok
    rw [← hu', reservedNow_eq hatt, if_neg hmode] at he
    cases ok with
    | true =>
      refine exec_commitDone hc he (fun a' h' => ?_) (fun h' => hm ?_)
      · rw [(commitEnds_last _).2] at h'
        rw [← Option.some.inj h']
      · have hk (t : State) : KeepRegs modeWord t { t with att := some { a with reserved := true } } := .of_regs rfl
        exact (mode_of_keep (h0.trans (h1.trans ((hk _).trans (commitEnds_last _).1)))).1 ▸ h'.1
    | false =>
      refine exec_commitDone hc he (fun a' h' => ?_) (fun h' => hm ?_)
      · rw [(commitEnds_last _).2, if_neg Bool.false_ne_true, attRefuse_att] at h'
        exact absurd h'.symm (Option.some_ne_none _)
      · exact (mode_of_keep (h0.trans (h1.trans ((attRefuse_keepMode _ 4).trans (commitEnds_last _).1)))).1 ▸ h'.1
  case drain =>
    intro s u k a hc hk hm hd ha hrep hres hu
    have hu' : u = s.commitOver 0 := hu
    have h0 : KeepRegs modeWord s u := hu' ▸ commitOver_keepMode s (by decide)
    obtain ⟨h1, h2⟩ := reservationOver_keeps u k true
    have hatt : (u.reservationOver k true).att = some a := h2.trans (by rw [hu]; exact ha)
    have hmode : (u.reservationOver k true).mode = 4 := (mode_of_keep (h0.trans h1)).1.trans hm
    have he := endCommit_reservation (s := s) hk true
    rw [← hu', reservedNow_eq hatt, if_pos hmode] at he
    refine exec_commitDone hc he (fun a' h' => ?_) (fun h' => hd ?_)
    · rw [(commitEnds_last _).2, attRefuse_att] at h'
      exact absurd h'.symm (Option.some_ne_none _)
    · exact (mode_of_keep (h0.trans (h1.trans ((attRefuse_keepMode _ 2).trans (commitEnds_last _).1)))).2 ▸ h'.2
  case examines =>
    intro s
    have hany : [(0, false), (0, true), (1, false), (1, true)].any (fun p => s.bankUsed p.1 p.2 && !s.bankGood p.1 p.2) = true
        ↔ ∃ c < 2, ∃ b, s.bankUsed c b = true ∧ s.bankGood c b = false := by
      rw [List.any_eq_true]
      constructor
      · rintro ⟨⟨c, b⟩, hm, h⟩
        rw [Bool.and_eq_true, Bool.not_eq_true'] at h
        exact ⟨c, by revert hm; simp; omega, b, h⟩
      · rintro ⟨c, hc, b, h⟩
        refine ⟨(c, b), ?_, by rw [h.1, h.2]; rfl⟩
        obtain rfl | rfl : c = 0 ∨ c = 1 := by omega
        · cases b <;> simp
        · cases b <;> simp
    refine ⟨fun h => if_pos (hany.2 h), fun h => if_neg fun hc => ?_⟩
    obtain ⟨c, hlt, b, h1, h2⟩ := hany.1 hc
    exact absurd ((h c hlt b h1).symm.trans h2) (by decide)

end Sys2Proof.Machine
end

section
/-! Fuse burns and attestation (R420, R428 to R432). -/

namespace Sys2Proof.Machine

open Sys2Proof

/-! ## Burns -/

/-- FUSE_CMD reached: the condition of the OP decides. -/
theorem writeFuseCmd_keyed {s : State} (hb : s.fld fuseStat 31 31 ≠ 1) (op arg : Nat) : s.writeFuseCmd 0x4655 op arg =
    if s.mode = 2 ∧ s.burnOk op arg = true then { s.put fuseStat 31 31 1 with burn := some ⟨op, arg, s.stagedHash⟩ }
    else (s.put fuseStat 30 28 2).raise pgFUSE 0 := if_neg fun hc => hc.elim (· rfl) hb

theorem writeFuseCmd_bad {s : State} {key : W16} (h : key ≠ 0x4655 ∨ s.fld fuseStat 31 31 = 1) (op arg : Nat) :
    s.writeFuseCmd key op arg = s.badAccess fuseCmd := if_pos h

/-- The five burns are writes of FUSE_CMD. -/
theorem exec_burns (key : W16) (arg : W7) {s : State} (hr : s.reaches fuseCmd = true) :
    exec (.burnOwner key) s = .next (s.writeFuseCmd key 1 0) ∧ exec (.revokeOwner key) s = .next (s.writeFuseCmd key 2 0)
    ∧ exec (.advanceSvn key arg) s = .next (s.writeFuseCmd key 3 arg.toNat) ∧ exec (.revokeVendor key arg) s = .next (s.writeFuseCmd key 4 arg.toNat)
    ∧ exec (.vendorBootDis key) s = .next (s.writeFuseCmd key 5 0) :=
  ⟨next_congr (access_reaches _ hr), next_congr (access_reaches _ hr), next_congr (access_reaches _ hr), next_congr (access_reaches _ hr),
    next_congr (access_reaches _ hr)⟩

/-! ## Reports -/

theorem regBytes_length (s : State) (k n : Nat) : (s.regBytes k n).length = 4 * n := by
  unfold State.regBytes
  rw [List.length_flatMap]
  simp [bytesLE_length, Nat.mul_comm]

theorem reportHead_length (s : State) (n : Nat) : (s.reportHead n).length = 256 := by
  unfold State.reportHead
  simp only [List.length_append, bytesLE_length, regBytes_length, List.length_replicate, List.length_cons, List.length_nil]

theorem writeAttCtrl_free {s : State} (hb : s.fld attStat 31 31 ≠ 1) : s.writeAttCtrl true 1 = s.attReport ∧ s.writeAttCtrl true 2 = s.attIdentity :=
  ⟨(if_neg (by decide)).trans ((if_neg (by decide)).trans ((if_neg hb).trans (if_pos rfl))),
    (if_neg (by decide)).trans ((if_neg (by decide)).trans ((if_neg hb).trans (if_neg (by decide))))⟩

theorem writeAttCtrl_busy {s : State} (hb : s.fld attStat 31 31 = 1) :
    s.writeAttCtrl true 1 = s.badAccess attCtrl ∧ s.writeAttCtrl true 2 = s.badAccess attCtrl :=
  ⟨(if_neg (by decide)).trans ((if_neg (by decide)).trans (if_pos hb)), (if_neg (by decide)).trans ((if_neg (by decide)).trans (if_pos hb))⟩

/-- The words the end of an attestation command writes, before its interrupt. -/
def State.attOver (s : State) (res : Nat) : State := { (s.put attStat 31 31 0).put attStat 30 28 res with att := none }

theorem pageOf_pgBTU : pageOf pgBTU = some ⟨.btu, 0, 0, 4⟩ := by decide +kernel

theorem attEnd_shows (s : State) {res : Nat} (h : res < 8) : (s.attEnd res).fld attStat 31 31 = 0 ∧ (s.attEnd res).fld attStat 30 28 = res
    ∧ (s.attEnd res).att = none ∧ bit ((s.attEnd res).reg (pgBTU + 0x02C)) 0 = true := by
  have he : s.attEnd res = (s.attOver res).irqBit pgBTU 0 := rfl
  have hs : (s.attEnd res).reg attStat = ((s.put attStat 31 31 0).put attStat 30 28 res).reg attStat := by
    rw [he, irqBit_regs _ 0 (by decide) _ (by decide +kernel)]
    rfl
  refine ⟨?_, ?_, ?_, ?_⟩
  · unfold State.fld
    rw [hs]
    exact (fld_put_other _ _ _ (by decide) (.inr (by decide))).trans (fld_put_self _ _ _ _ (by decide))
  · unfold State.fld
    rw [hs]
    exact (fld_put_self _ _ _ _ (by decide)).trans (Nat.mod_eq_of_lt h)
  · rw [he, (State.irqBit_frame ..).att rfl]
    rfl
  · rw [he]
    exact irqBit_bit _ pageOf_pgBTU (by decide) (by decide)

theorem exec_attDone {s : State} {a : AttJob} (ha : s.att = some a) (hr : a.report = true → a.reserved = true) (ok : Bool) :
    exec (.attDone ok) s = .next (
      if ok = true ∧ s.canWrite pf0 = true then (hostSend 6068 (if a.report then s.setHssNext (a.index + 1) else s) pf0 a.dst (attBytes a)).attEnd 1
      else (if s.canWrite pf0 then (if a.report then s.setHssNext (a.index + 1) else s)
        else (if a.report then s.setHssNext (a.index + 1) else s).countDrop.raise pgPCIE 2).attEnd 4) := by
  show execAttDone ok s = _
  unfold execAttDone
  rw [ha]
  dsimp only
  rw [if_neg (fun hc => absurd ((hr hc.1).symm.trans hc.2) (by decide))]

/-- Settles O57: FUSE_CMD by its condition, a report by its mode and its index, and the bytes sent by their lengths. -/
theorem fusesAndReports : Obligations.FusesAndReports := by
  unfold Obligations.FusesAndReports
  refine ⟨?burn, ?rejected, ?bad, ?done, ?report, ?reserve, ?identity, ?ends, ?sent, fun s res h => attEnd_shows s h⟩
  case burn =>
    rintro arg s go hr hb rfl hm
    obtain ⟨h1, h2, h3, h4, h5⟩ := exec_burns 0x4655 arg hr
    rw [h1, h2, h3, h4, h5]
    simp only [writeFuseCmd_keyed hb]
    refine ⟨fun h => next_congr (if_pos ⟨hm, decide_eq_true h⟩), fun h h' => next_congr (if_pos ⟨hm, ?_⟩),
      fun h h' => next_congr (if_pos ⟨hm, ?_⟩), fun h h' => next_congr (if_pos ⟨hm, ?_⟩), fun h => next_congr (if_pos ⟨hm, decide_eq_true h⟩)⟩
    · simp [State.burnOk, h, h']
    · simp only [State.burnOk, decide_eq_true h, decide_eq_true h', Bool.and_self]
    · simp only [State.burnOk, h, Bool.not_false, Bool.true_and, Bool.or_eq_true, decide_eq_true_eq, List.any_eq_true, List.mem_range]
      refine h'.imp_right fun ⟨k, hk, hne, hv⟩ => ⟨k, hk, ?_⟩
      rw [decide_eq_true hne, hv]
      rfl
  case rejected =>
    rintro arg s r hr hb rfl
    obtain ⟨h1, h2, h3, h4, h5⟩ := exec_burns 0x4655 arg hr
    rw [h1, h2, h3, h4, h5]
    simp only [writeFuseCmd_keyed hb]
    refine ⟨fun h => ⟨next_congr (if_neg fun hc => h hc.1), next_congr (if_neg fun hc => h hc.1), next_congr (if_neg fun hc => h hc.1),
      next_congr (if_neg fun hc => h hc.1), next_congr (if_neg fun hc => h hc.1)⟩, fun h => next_congr (if_neg fun hc => h (of_decide_eq_true hc.2)),
      fun h => next_congr (if_neg fun hc => ?_), fun h => next_congr (if_neg fun hc => ?_), fun h => next_congr (if_neg fun hc => h (of_decide_eq_true hc.2))⟩
    · obtain ⟨-, hc⟩ := hc
      simp only [State.burnOk, Bool.and_eq_true, decide_eq_true_eq, Bool.not_eq_true'] at hc
      exact h.elim (· hc.1) (fun h => absurd (hc.2.symm.trans h) (by decide))
    · obtain ⟨-, hc⟩ := hc
      simp only [State.burnOk, Bool.and_eq_true, decide_eq_true_eq] at hc
      omega
  case bad =>
    rintro key arg s b hr rfl h
    obtain ⟨h1, h2, h3, h4, h5⟩ := exec_burns key arg hr
    rw [h1, h2, h3, h4, h5]
    simp only [writeFuseCmd_bad h, and_self]
  case done =>
    rintro s u v b hb rfl rfl
    have hx (ok : Bool) : exec (.burnDone ok) s = .next
        ((if ok then State.burnt { (s.put fuseStat 31 31 0).put fuseStat 30 28 (if ok then 1 else 3) with burn := none } b
          else State.raise { (s.put fuseStat 31 31 0).put fuseStat 30 28 (if ok then 1 else 3) with burn := none } pgFUSE 1).irqBit pgFUSE 0) := by
      show execBurnDone ok s = _
      unfold execBurnDone
      rw [hb]
    refine ⟨hx false, ?_⟩
    rw [hx true, if_pos rfl, if_pos rfl]
    unfold State.burnt
    refine ⟨fun h => ?_, fun h => ?_, fun h => ?_, fun h => ?_, fun h => ?_⟩ <;> rw [h] <;> rfl
  case report =>
    rintro s n rfl hr hb
    have hx : exec .attReport s = .next s.attReport := next_congr ((access_reaches _ hr).trans (writeAttCtrl_free hb).1)
    rw [hx]
    have hmode (hf : s.kept.factorySeen = false) (hm : s.mode = 2 ∨ s.mode = 3) : ¬ (s.kept.factorySeen = true ∨ (s.mode ≠ 2 ∧ s.mode ≠ 3)) := fun hc =>
      hc.elim (fun hc => absurd (hf.symm.trans hc) (by decide)) (fun hc => hm.elim hc.1 hc.2)
    refine ⟨fun h => next_congr (if_pos h), fun hf hm h => next_congr ((if_neg (hmode hf hm)).trans (if_pos h)),
      fun hf hm h1 h2 => next_congr ((if_neg (hmode hf hm)).trans (if_neg fun hc => ?_))⟩
    obtain hc | ⟨hc1, hc2⟩ := hc
    · omega
    · exact h2.elim (fun h => absurd (h.symm.trans hc1) (by decide)) (· hc2)
  case reserve =>
    intro s a ha hc
    unfold State.reserve
    rw [ha, hc]
    exact ⟨fun h1 h2 => if_pos ⟨h1, h2⟩, fun h => if_neg fun hc => absurd (h.symm.trans hc.2) (by decide)⟩
  case identity =>
    intro s hr
    exact ⟨fun hb => next_congr ((access_reaches _ hr).trans (writeAttCtrl_free hb).2), fun hb =>
      ⟨next_congr ((access_reaches _ hr).trans (writeAttCtrl_busy hb).2), next_congr ((access_reaches _ hr).trans (writeAttCtrl_busy hb).1)⟩⟩
  case ends =>
    rintro s u a ha hr rfl
    refine ⟨fun hw => ⟨(exec_attDone ha hr true).trans (next_congr (if_pos ⟨rfl, hw⟩)), (exec_attDone ha hr false).trans (next_congr ?_)⟩,
      fun hw => (exec_attDone ha hr true).trans (next_congr ?_)⟩
    · rw [if_neg (fun hc => Bool.false_ne_true hc.1), if_pos hw]
    · rw [hw, if_neg (fun hc => Bool.false_ne_true hc.2), if_neg Bool.false_ne_true]
  case sent =>
    intro a s
    refine ⟨fun h hl => ?_, fun h => ?_, reportHead_length s _⟩
    · unfold attBytes
      rw [if_pos h]
      refine ⟨?_, ?_⟩
      · rw [List.length_append, List.length_append, bytesLE_length, bytesLE_length, hl]
      · rw [List.append_assoc, ← hl, List.take_left']
        rfl
    · unfold attBytes
      rw [if_neg (by rw [h]; decide), List.length_append, bytesLE_length, bytesLE_length]

end Sys2Proof.Machine
end

section
/-! The wide resets (R434, R438, R442 to R448). -/

namespace Sys2Proof.Machine

open Sys2Proof

/-! ## Registers after a reset -/

/-- A register a reset returned reads as it does in the state after reset. -/
theorem fld_resetWord {t : State} {k : Nat} (h : t.reg k = resetWord k) (hi lo : Nat) : t.fld k hi lo = State.reset.fld k hi lo := by
  obtain ⟨-, -, hr, -⟩ := resetState
  unfold State.fld
  rw [h, hr k]

theorem mode_reset {t : State} (h : t.reg (pgDEV + 0x040) = resetWord (pgDEV + 0x040)) : t.mode = 1 ∧ t.inTransition = false := by
  obtain ⟨-, -, -, hm, hi, -⟩ := resetState
  exact ⟨(fld_resetWord h 2 0).trans hm, (congrArg (fun x => decide (x = 1)) (fld_resetWord h 7 7)).trans hi⟩

theorem cgPhase_reset {t : State} {g : Nat} (hg : g < 64) (h : t.reg (pgCG g + 0x048) = resetWord (pgCG g + 0x048)) : t.cgPhase g = 3 := by
  obtain ⟨-, -, -, -, -, -, hc, -⟩ := resetState
  exact (fld_resetWord h 2 0).trans (hc g hg)

theorem reg_dropRegs (s : State) (p : Nat → Bool) (k : Nat) : (s.dropRegs p).reg k = if p (k % barSize) = true then resetWord k else s.reg k :=
  tabGet_drop resetWord s.regs (fun k => p (k % barSize)) k

theorem lanesOff_regs (s : State) : s.lanesOff.regs = s.regs := (State.lanesOff_frame s).regs rfl

/-! ## What a reset takes -/

theorem deviceReset_reg (s : State) (k : Nat) :
    s.deviceReset.reg k = if keptByDevice (k % barSize) = true ∨ keptAlways (k % barSize) = true then s.reg k else resetWord k := by
  have h : s.deviceReset.reg k = (s.lanesOff.dropRegs (fun a => !keptByDevice a && !keptAlways a)).reg k := reg_of_regs rfl k
  rw [h, reg_dropRegs, reg_of_regs (lanesOff_regs s)]
  cases keptByDevice (k % barSize) <;> cases keptAlways (k % barSize) <;> rfl

/-- The work of a SYSTEM reset, before presented time. -/
def State.systemWork (s : State) : State :=
  { (s.lanesOff.dropRegs (fun a => !keptBySystem a)).resetWork with pmb := [], bmon := {}, stage := [] }

theorem systemReset_eq (s : State) : s.systemReset = s.systemWork.resetTime := rfl

theorem systemReset_reg (s : State) (k : Nat) : s.systemReset.reg k = if keptBySystem (k % barSize) = true then s.reg k else resetWord k := by
  have h : s.systemWork.reg k = (s.lanesOff.dropRegs (fun a => !keptBySystem a)).reg k := reg_of_regs rfl k
  rw [systemReset_eq, reg_of_regs ((State.resetTime_frame _).regs rfl), h, reg_dropRegs, reg_of_regs (lanesOff_regs s)]
  cases keptBySystem (k % barSize) <;> rfl

/-- Registers neither reset keeps. -/
theorem deviceReset_word (s : State) {k : Nat} (h1 : keptByDevice (k % barSize) = false) (h2 : keptAlways (k % barSize) = false) :
    s.deviceReset.reg k = resetWord k := by
  rw [deviceReset_reg, h1, h2, if_neg (by decide)]

theorem systemReset_word (s : State) {k : Nat} (h : keptBySystem (k % barSize) = false) : s.systemReset.reg k = resetWord k := by
  rw [systemReset_reg, h, if_neg (by decide)]

theorem cg_not_kept : ∀ g < 64, keptByDevice ((pgCG g + 0x048) % barSize) = false ∧ keptAlways ((pgCG g + 0x048) % barSize) = false
    ∧ keptBySystem ((pgCG g + 0x048) % barSize) = false := by decide +kernel

/-- What a state that a reset left holds beside its registers. -/
structure WorkGone (s t : State) : Prop where
  tasks : t.tasks = []
  kept : t.kept = s.kept
  rsto : t.rsto = s.rsto
  khash : t.khash = s.khash
  quad : t.quad = []
  hbm : t.mem.hbm = []
  valid : t.mem.valid = []
  links : t.links = []

theorem lanesOff_kept (s : State) : s.lanesOff.kept = s.kept ∧ s.lanesOff.rsto = s.rsto ∧ s.lanesOff.khash = s.khash :=
  ⟨(State.lanesOff_frame s).same .kept rfl, (State.lanesOff_frame s).same .rsto rfl, (State.lanesOff_frame s).same .khash rfl⟩

theorem deviceReset_gone (s : State) : WorkGone s s.deviceReset := by
  obtain ⟨h1, h2, h3⟩ := lanesOff_kept s
  exact ⟨rfl, h1, h2, h3, rfl, rfl, rfl, rfl⟩

theorem systemReset_gone (s : State) : WorkGone s s.systemReset := by
  obtain ⟨h1, h2, h3⟩ := lanesOff_kept s
  have hf := State.resetTime_frame s.systemWork
  rw [systemReset_eq]
  have ht : s.systemWork.resetTime.sluice = s.systemWork.sluice := hf.sluice rfl
  have hm : s.systemWork.resetTime.mem = s.systemWork.mem := hf.mem rfl
  have hk : s.systemWork.resetTime.kept = s.systemWork.kept := hf.same .kept rfl
  have hr : s.systemWork.resetTime.rsto = s.systemWork.rsto := hf.same .rsto rfl
  have hh : s.systemWork.resetTime.khash = s.systemWork.khash := hf.same .khash rfl
  exact ⟨congrArg SluiceSt.tasks ht, hk.trans h1, hr.trans h2, hh.trans h3, hf.quad rfl,
    congrArg MemSt.hbm hm, congrArg MemSt.valid hm, hf.same .links rfl⟩

/-- A reset's registers, work and mode together. -/
theorem reset_all {s t : State} (hg : WorkGone s t) (hm : t.reg (pgDEV + 0x040) = resetWord (pgDEV + 0x040))
    (hc : ∀ g < 64, t.reg (pgCG g + 0x048) = resetWord (pgCG g + 0x048)) :
    t.mode = 1 ∧ t.inTransition = false ∧ t.tasks = [] ∧ t.kept = s.kept ∧ t.rsto = s.rsto ∧ t.khash = s.khash
    ∧ (∀ g < 64, t.cgPhase g = 3) ∧ (∀ q < 4, t.quadOn q = false) ∧ t.mem.hbm = [] ∧ (∀ k, tabGet (fun _ => false) t.mem.valid k = false) ∧ t.links = [] := by
  obtain ⟨h1, h2, h3, h4, h5, h6, h7, h8⟩ := hg
  obtain ⟨m1, m2⟩ := mode_reset hm
  refine ⟨m1, m2, h1, h2, h3, h4, fun g h => cgPhase_reset h (hc g h), fun q _ => ?_, h6, fun k => by rw [h7]; rfl, h8⟩
  unfold State.quadOn
  rw [quadSt_congr (s := { t with quad := [] }) h5]
  rfl

/-! ## The loss of VDD_WELL -/

/-- What the loss turns off first. -/
def State.wellOff (s : State) : State :=
  if s.thermtrip then (if s.time.ppsOut then s.lanesOff.emit (.pps false) else s.lanesOff).emit (.thermtrip false)
  else if s.time.ppsOut then s.lanesOff.emit (.pps false) else s.lanesOff

theorem wellOff_frame (s : State) : Frame 0x40 s s.wellOff := by
  have h : Frame 0x40 s (if s.time.ppsOut then s.lanesOff.emit (.pps false) else s.lanesOff) :=
    Frame.ite ((State.emit_frame ..).step rfl (State.lanesOff_frame s)) (State.lanesOff_frame s)
  exact Frame.ite ((State.emit_frame ..).step rfl h) h

theorem wellReset_reg (s : State) (k : Nat) : s.wellReset.reg k = if isFuse k = true then s.reg k else resetWord k := by
  have h : s.wellReset.regs = tabDrop s.wellOff.regs (fun k => !isFuse k) := rfl
  rw [State.reg, h, tabGet_drop, (wellOff_frame s).regs rfl]
  cases isFuse k <;> rfl

theorem wellReset_store (s : State) : s.wellReset.rsto = s.rsto ∧ s.wellReset.khash = s.khash :=
  ⟨(wellOff_frame s).same .rsto rfl, (wellOff_frame s).same .khash rfl⟩

theorem examine_good {s : State} (h : ∀ c < 2, ∀ b, s.bankUsed c b = true → s.bankGood c b = true) : s.examine = s := by
  obtain ⟨-, -, -, -, -, -, -, -, -, -, he⟩ := retentionStore
  exact (he s).2 h

theorem wellReset_examine {s : State} (h : ∀ c < 2, ∀ b, s.bankUsed c b = true → s.bankGood c b = true) : s.wellReset.examine = s.wellReset := by
  refine examine_good fun c hc b hu => ?_
  have hb : s.wellReset.bankOf c b = s.bankOf c b := bankOf_congr (wellReset_store s).1 c b
  unfold State.bankUsed at hu h
  rw [hb] at hu
  rw [bankGood_congr hb]
  exact h c hc b hu

/-! ## The record of a reset -/

theorem bitsOf_ofNat {n : Nat} (h : n < 2 ^ 32) (hi lo : Nat) : bitsOf (BitVec.ofNat 32 n) hi lo = n / 2 ^ lo % 2 ^ (hi + 1 - lo) := by
  unfold bitsOf
  rw [BitVec.toNat_ofNat, Nat.mod_eq_of_lt h, Nat.shiftRight_eq_div_pow]

theorem drainStep_lt (s : State) : s.drainStep < 16 := Nat.mod_lt _ (by decide)

theorem satAdd_one {n : Nat} (h : n < 2 ^ 16) : satAdd 16 n 1 = min (n + 1) 65535 := by
  unfold satAdd
  split <;> omega

/-- WELL_RST_STAT, field by field. -/
theorem recordReset_word {ty src d st n : Nat} (h1 : ty < 4) (h2 : src < 4) (h3 : d < 2) (h4 : st < 16) (h5 : n < 65536) {w : W32}
    (hw : w = BitVec.ofNat 32 (ty * 2 ^ 28 + src * 2 ^ 26 + d * 2 ^ 25 + st * 2 ^ 20 + n)) :
    bitsOf w 31 28 = ty ∧ bitsOf w 27 26 = src ∧ bitsOf w 25 25 = d ∧ bitsOf w 24 24 = 0 ∧ bitsOf w 23 20 = st ∧ bitsOf w 15 0 = n := by
  have hb (hi lo : Nat) : bitsOf w hi lo = (ty * 2 ^ 28 + src * 2 ^ 26 + d * 2 ^ 25 + st * 2 ^ 20 + n) / 2 ^ lo % 2 ^ (hi + 1 - lo) := by
    rw [hw]
    exact bitsOf_ofNat (by omega) hi lo
  simp only [hb]
  refine ⟨?_, ?_, ?_, ?_, ?_, ?_⟩ <;> omega

/-! ## The obligation -/

/-- Settles O59: a reset's registers are those its predicate keeps, and everything else is read from the work it clears. -/
theorem wideResets : Obligations.WideResets := by
  unfold Obligations.WideResets
  refine ⟨?well, fun s => ⟨rfl, rfl⟩, ?record, ?system, ?device, ?takes, ?release, ?noReset, ?perst, fun s => rfl⟩
  case well =>
    intro s h
    have he := wellReset_examine h
    refine ⟨s.wellReset, next_congr he, wellReset_reg s, rfl, ?_, rfl, rfl, rfl, rfl, fun _ => rfl, (wellReset_store s).1, (wellReset_store s).2⟩
    refine (mode_reset ?_).1
    rw [wellReset_reg, if_neg (by decide +kernel)]
  case record =>
    rintro s t ty src h1 h2 rfl
    have hd : b2n (decide (s.mode = 4)) < 2 := by cases decide (s.mode = 4) <;> decide
    have hn : s.fld (pgWELL + 0x048) 15 0 < 2 ^ 16 := Nat.mod_lt _ (by decide)
    have hst : (if s.mode = 4 then s.drainStep else 0) < 16 := by
      split
      · exact drainStep_lt s
      · decide
    have hw : (s.recordReset ty src).reg (pgWELL + 0x048) = BitVec.ofNat 32 (ty * 2 ^ 28 + src * 2 ^ 26 + b2n (decide (s.mode = 4)) * 2 ^ 25
        + (if s.mode = 4 then s.drainStep else 0) * 2 ^ 20 + min (s.fld (pgWELL + 0x048) 15 0 + 1) 65535) := by
      rw [← satAdd_one hn]
      unfold State.recordReset
      dsimp only
      rw [reg_setReg_self]
      by_cases h4 : s.mode = 4
      · rw [decide_eq_true h4, if_pos rfl, if_pos h4]
      · rw [decide_eq_false h4, if_neg Bool.false_ne_true, if_neg h4]
    obtain ⟨f1, f2, f3, f4, f5, f6⟩ := recordReset_word h1 h2 hd hst (by omega) hw
    exact ⟨f1, f2, f3, f4, f5, f6, fun k hk => reg_setReg_ne _ _ hk⟩
  case system =>
    rintro key s sys rfl
    have hfree (hw : s.wide = none) (src : Nat) : s.assertSystem src = { (s.recordReset 1 src).systemReset with wide := some .system, commit := none, ejectHeld := false } := by
      unfold State.assertSystem
      rw [hw]
    refine ⟨fun h => next_congr ?_, fun h => next_congr ?_, fun hr hk => next_congr ((access_reaches _ hr).trans ?_),
      fun hr hk => next_congr ((access_reaches _ hr).trans (if_pos (.inl hk)))⟩
    · obtain h | h := h
      · exact hfree h 0
      · unfold State.assertSystem
        rw [h]
    · unfold State.assertSystem
      obtain h | h := h <;> rw [h]
    · exact (if_neg (fun hc => hc.elim (· hk) (by decide))).trans ((if_pos rfl).trans (hfree (reaches_wide hr) 1))
  case device =>
    intro key s hr
    refine ⟨fun hk => next_congr ((access_reaches _ hr).trans ?_), fun hk => next_congr ((access_reaches _ hr).trans (if_pos (.inl hk)))⟩
    refine (if_neg (fun hc => hc.elim (· hk) (by decide))).trans ((if_neg (by decide)).trans ?_)
    unfold State.assertDevice
    rw [reaches_wide hr]
  case takes =>
    intro s
    refine ⟨deviceReset_reg s, systemReset_reg s, fun t ht => ?_⟩
    obtain rfl | rfl := ht
    · exact reset_all (deviceReset_gone s) (deviceReset_word s (by decide +kernel) (by decide +kernel))
        fun g hg => deviceReset_word s (cg_not_kept g hg).1 (cg_not_kept g hg).2.1
    · exact reset_all (systemReset_gone s) (systemReset_word s (by decide +kernel)) fun g hg => systemReset_word s (cg_not_kept g hg).2.2
  case release =>
    intro s
    refine ⟨fun h => next_congr (if_pos h), fun h hc => next_congr ((if_pos h).trans (if_neg ?_)), fun h hc => next_congr ((if_pos h).trans (if_pos hc))⟩
    rw [hc]
    decide
  case noReset =>
    intro s
    exact ⟨fun h => next_congr (if_neg h), fun h => next_congr (if_neg h)⟩
  case perst =>
    rintro s u rfl
    have hfree (h1 : s.pcie.perstLow = false) (h2 : s.wide = none) : ¬ (s.pcie.perstLow = true ∨ s.wide.isSome = true) := by
      rw [h1, h2]
      decide
    refine ⟨fun h1 h2 h3 => next_congr ((if_neg (hfree h1 h2)).trans (if_pos h3)), fun h1 h2 h3 => next_congr ((if_neg (hfree h1 h2)).trans (if_neg h3)),
      fun h => next_congr (if_pos (h.imp_right Option.isSome_iff_ne_none.2))⟩

end Sys2Proof.Machine
end

section
/-! The steps of BOOT (R61, R187, R375, R421 to R427, R431, R441). -/

namespace Sys2Proof.Machine

open Sys2Proof

theorem Frame.boot {m : Nat} {s t : State} (h : Frame m s t) (hm : m.testBit 50 = false) : t.boot = s.boot := h.same .boot hm

/-! ## A transition's end -/

/-- The mode word a transition's end writes. -/
def State.modeEnds (s : State) (m res : Nat) : State := ((s.setMode m).put (pgDEV + 0x040) 7 7 0).put (pgDEV + 0x040) 11 8 res

theorem modeEnds_shows (s : State) {m res : Nat} (h1 : m < 8) (h2 : res < 16) : (s.modeEnds m res).fld (pgDEV + 0x040) 2 0 = m
    ∧ (s.modeEnds m res).fld (pgDEV + 0x040) 7 7 = 0 ∧ (s.modeEnds m res).fld (pgDEV + 0x040) 11 8 = res := by
  have ho (u : State) (hi lo v hi' lo' : Nat) (h : hi' < 32) (c : hi' < lo ∨ hi < lo') :
    (u.put (pgDEV + 0x040) hi lo v).fld (pgDEV + 0x040) hi' lo' = u.fld (pgDEV + 0x040) hi' lo' := fld_put_other u _ v h c
  unfold State.modeEnds State.setMode
  refine ⟨?_, ?_, ?_⟩
  · rw [ho _ 11 8 res 2 0 (by decide) (.inl (by decide)), ho _ 7 7 0 2 0 (by decide) (.inl (by decide)), ho _ 6 4 m 2 0 (by decide) (.inl (by decide)),
      fld_put_self _ _ _ _ (by decide)]
    exact Nat.mod_eq_of_lt h1
  · rw [ho _ 11 8 res 7 7 (by decide) (.inl (by decide))]
    exact fld_put_self _ _ _ _ (by decide)
  · exact (fld_put_self _ _ _ _ (by decide)).trans (Nat.mod_eq_of_lt h2)

theorem endTransition_eq (s : State) (m res : Nat) : s.endTransition m res = (s.modeEnds m res).irqBit pgDEV 0 := rfl

theorem fld_event {s t : State} (h : EventRegs s t) {k : Nat} (hk : eventReg k = false) (hi lo : Nat) : t.fld k hi lo = s.fld k hi lo := by
  unfold State.fld; rw [h k hk]

theorem endTransition_shows (s : State) {m res : Nat} (h1 : m < 8) (h2 : res < 16) : (s.endTransition m res).mode = m
    ∧ (s.endTransition m res).inTransition = false ∧ (s.endTransition m res).fld (pgDEV + 0x040) 11 8 = res := by
  have he := irqBit_regs (s.modeEnds m res) (pg := pgDEV) 0 (by decide)
  have hk : eventReg (pgDEV + 0x040) = false := by decide +kernel
  obtain ⟨e1, e2, e3⟩ := modeEnds_shows s h1 h2
  rw [endTransition_eq]
  refine ⟨(fld_event he hk 2 0).trans e1, ?_, (fld_event he hk 11 8).trans e3⟩
  unfold State.inTransition
  rw [fld_event he hk, e2]
  rfl

/-! ## A failure of BOOT -/

/-- The words of BTU_BOOT_STAT a failure leaves. -/
def State.failWord (s : State) (code : Nat) : State :=
  (({ s with boot := none } : State).coreOff.put (pgBTU + 0x040) 23 20 code).put (pgBTU + 0x040) 19 19 0

theorem bootFail_eq (s : State) (code : Nat) : s.bootFail code = ((s.failWord code).raise pgBTU 0).endTransition 0 3 := rfl

theorem failWord_boot (s : State) (code : Nat) : (s.failWord code).boot = none := rfl

theorem bootFail_btu (s : State) (code : Nat) (hi lo : Nat) : (s.bootFail code).fld (pgBTU + 0x040) hi lo = (s.failWord code).fld (pgBTU + 0x040) hi lo := by
  have hk : eventReg (pgBTU + 0x040) = false := by decide +kernel
  have hm (u : State) (m res : Nat) : (u.modeEnds m res).fld (pgBTU + 0x040) hi lo = u.fld (pgBTU + 0x040) hi lo := by
    unfold State.modeEnds State.setMode
    repeat rw [fld_put_ne _ _ _ _ _ _ (by decide)]
  rw [bootFail_eq, endTransition_eq, fld_event (irqBit_regs _ 0 (by decide)) hk, hm, fld_event (raise_regs _ _ _ (by decide)) hk]

theorem failWord_shows (s : State) {code : Nat} (h : code < 16) : (s.failWord code).fld (pgBTU + 0x040) 23 20 = code
    ∧ (s.failWord code).fld (pgBTU + 0x040) 19 19 = 0 := by
  unfold State.failWord
  refine ⟨?_, ?_⟩
  · rw [fld_put_other _ _ _ (by decide) (.inr (by decide)), fld_put_self _ _ _ _ (by decide)]
    exact Nat.mod_eq_of_lt h
  · exact fld_put_self _ _ _ _ (by decide)

theorem bootFail_boot (s : State) (code : Nat) : (s.bootFail code).boot = none := by
  have hm (u : State) (m res : Nat) : (u.modeEnds m res).boot = u.boot := rfl
  rw [bootFail_eq, endTransition_eq, (State.irqBit_frame ..).boot rfl, hm, (State.raise_frame ..).boot rfl, failWord_boot]

/-! ## The next HSS index -/

theorem takeHssIndex_force {s : State} {b : Bool} (h : s.inForce 0 = some b) :
    s.takeHssIndex = s.setHssNext (s.nextFree + (if s.bankPending 0 (!b) then 64 else 0)) := by
  unfold State.takeHssIndex
  rw [h]

theorem nextFree_none {s : State} (h : s.inForce 0 = none) : s.nextFree = 0 := by
  unfold State.nextFree State.forcePayload
  rw [h]
  rfl

theorem takeHssIndex_none {s : State} (h : s.inForce 0 = none) :
    s.takeHssIndex = s.setHssNext (if s.bankPending 0 false = true ∨ s.bankPending 0 true = true then 64 else 0) := by
  unfold State.takeHssIndex
  rw [nextFree_none h, h]
  dsimp only
  rw [Nat.zero_add]
  simp only [Bool.or_eq_true]

/-! ## Checks of a manifest -/

/-- The code of the first of the checks that fails, by their outcomes in order. -/
def failCode (readOk fmt key ecdsa lms svn fac : Bool) : Nat :=
  if readOk = false then 8 else if fmt = false then 2 else if key = false then 3 else if ecdsa = false then 4 else if lms = false then 5
  else if svn = false then 6 else if fac = false then 11 else 0

theorem manifestFail_eq (s : State) (r : ManifestRead) {fac : Bool} (hf : fac = (!(parseManifest r.bytes).factory || (!(parseManifest r.bytes).ownerKey
      && !s.factoryDis && decide (sha384 ((r.bytes.drop 0x20).take 32) = s.fuseHash 5)))) :
    s.manifestFail r = failCode r.readOk (mFormatOk r.bytes) (s.keyOk r.bytes) r.ecdsaOk r.lmsOk
      (decide (s.fuseSvn ≤ (parseManifest r.bytes).svn.toNat)) fac := by
  have h1 : (parseManifest r.bytes).svn.toNat < s.fuseSvn ↔ decide (s.fuseSvn ≤ (parseManifest r.bytes).svn.toNat) = false := by
    rw [decide_eq_false_iff_not, Nat.not_le]
  have h2 : ((parseManifest r.bytes).factory = true ∧ ((parseManifest r.bytes).ownerKey = true ∨ s.factoryDis = true
      ∨ sha384 ((r.bytes.drop 0x20).take 32) ≠ s.fuseHash 5)) ↔ fac = false := by
    rw [hf]
    generalize sha384 ((r.bytes.drop 0x20).take 32) = d
    cases (parseManifest r.bytes).factory <;> cases (parseManifest r.bytes).ownerKey <;> cases s.factoryDis <;> simp
  unfold State.manifestFail failCode
  dsimp only
  simp only [h1, h2]

/-! ## What check 1 lets through -/

theorem mFormatOk_parts {x : Bytes} (h : mFormatOk x = true) : mfld x 0 4 = 0x3156584D ∧ mfld x 4 2 = 1 ∧ 1 ≤ mImages x ∧ mImages x ≤ 32
    ∧ (∀ i < mImages x, mEntryOk x i = true) ∧ (∀ i < mImages x, ∀ k < i, overlaps (mEntry x i) (mEntry x k) = false) := by
  unfold mFormatOk at h
  simp only [Bool.and_eq_true, decide_eq_true_eq, List.all_eq_true, List.mem_range, Bool.not_eq_true'] at h
  obtain ⟨⟨⟨⟨⟨⟨⟨⟨⟨⟨⟨h1, h2⟩, -⟩, h4⟩, h5⟩, -⟩, -⟩, -⟩, -⟩, h6⟩, -⟩, h7⟩ := h
  exact ⟨h1, h2, h4, h5, h6, h7⟩

theorem mEntryOk_parts {x : Bytes} {i : Nat} (h : mEntryOk x i = true) : (mEntry x i).len ≠ 0 ∧ (mEntry x i).len % 64 = 0 ∧ (mEntry x i).srcOff % 64 = 0
    ∧ ((mEntry x i).load = true → hbmBase ≤ (mEntry x i).dest ∧ (mEntry x i).dest + (mEntry x i).len ≤ tileDataBase) := by
  unfold mEntryOk at h
  simp only [Bool.and_eq_true, decide_eq_true_eq] at h
  obtain ⟨⟨⟨⟨⟨-, h1⟩, h2⟩, h3⟩, -⟩, h4⟩ := h
  refine ⟨h1, h2, h3, fun hl => ?_⟩
  rw [if_pos hl] at h4
  simp only [Bool.and_eq_true, decide_eq_true_eq] at h4
  obtain ⟨⟨-, h5⟩, h6⟩ := h4
  exact ⟨h5, h6⟩

theorem overlaps_false {a b : ImageEntry} (h : overlaps a b = false) (ha : a.load = true) (hb : b.load = true) :
    a.dest + a.len ≤ b.dest ∨ b.dest + b.len ≤ a.dest := by
  unfold overlaps at h
  rw [ha, hb] at h
  simp only [Bool.true_and, Bool.and_eq_false_iff, decide_eq_false_iff_not] at h
  omega

/-! ## The obligation -/

/-- Settles O56: each step is one branch, and the checks of a manifest are read from their outcomes in order. -/
theorem bootSequence : Obligations.BootSequence := by
  unfold Obligations.BootSequence
  refine ⟨?begin, ?fail, ?fuses, ?index, ?window, ?checks, ?format, ?accepted, ?failed, ?trained, ?loaded, ?images, ?ends⟩
  case begin =>
    rintro src s u hm hw hb rfl
    have h0 : ¬ (s.mode ≠ 1 ∨ s.wide.isSome = true ∨ s.boot.isSome = true) := by
      rw [hm, hw, hb]
      decide
    exact ⟨fun h => next_congr ((if_neg h0).trans (if_neg h)), fun h => next_congr ((if_neg h0).trans (if_pos h))⟩
  case fail =>
    rintro s t code hc rfl
    obtain ⟨h1, h2⟩ := failWord_shows s hc
    obtain ⟨e1, e2, e3⟩ := endTransition_shows ((s.failWord code).raise pgBTU 0) (m := 0) (res := 3) (by decide) (by decide)
    exact ⟨e1, e2, e3, (bootFail_btu s code 23 20).trans h1, (bootFail_btu s code 19 19).trans h2, bootFail_boot s code⟩
  case fuses =>
    intro s b hb h1 h2
    have hx : exec .fuseReadDone s = .next (if b.src = 1 then (s.takeHssIndex.modBoot (fun x => { x with opened := true })).openWindow
        else s.takeHssIndex.setBootStep 2) := by
      show execFuseReadDone s = _
      unfold execFuseReadDone
      rw [hb]
      dsimp only
      rw [if_pos ⟨h1, h2⟩]
    rw [hx]
    exact ⟨fun h => next_congr (if_pos h), fun h => next_congr (if_neg h)⟩
  case index =>
    intro s
    refine ⟨fun b h hp => ?_, fun b h hp => ?_, fun h => ⟨nextFree_none h, takeHssIndex_none h⟩⟩
    · rw [takeHssIndex_force h, hp]; rfl
    · rw [takeHssIndex_force h, hp]; rfl
  case window =>
    intro s
    exact ⟨fun hr h => next_congr ((access_reaches _ hr).trans (if_pos h)), fun hr h => next_congr ((access_reaches _ hr).trans (if_neg h)),
      fun h => next_congr (if_pos h), fun h => next_congr (if_neg h)⟩
  case checks =>
    intro s r m key fac hm hkey hfac
    have hk : s.keyOk r.bytes = key := by
      rw [hkey, hm]
      rfl
    have hf := manifestFail_eq s r (fac := fac) (by rw [hfac, hm])
    rw [hk, ← hm] at hf
    obtain ⟨svn, hs⟩ : ∃ svn, svn = decide (s.fuseSvn ≤ m.svn.toNat) := ⟨_, rfl⟩
    have hsvn : s.fuseSvn ≤ m.svn.toNat ↔ svn = true := by rw [hs, decide_eq_true_eq]
    have hsvn' : m.svn.toNat < s.fuseSvn ↔ svn = false := by rw [hs, decide_eq_false_iff_not, Nat.not_le]
    rw [← hs] at hf
    rw [hf, hsvn, hsvn']
    generalize mFormatOk r.bytes = fmt
    unfold failCode
    clear hf hk hkey hfac hsvn hsvn' hs
    cases r.readOk
    · simp
    cases fmt
    · simp
    cases key
    · simp
    cases r.ecdsaOk
    · simp
    cases r.lmsOk
    · simp
    cases svn <;> cases fac <;> simp
  case format =>
    intro x i k h
    obtain ⟨h1, h2, h3, h4, h5, h6⟩ := mFormatOk_parts h
    exact ⟨h1, h2, h3, h4, fun hi => mEntryOk_parts (h5 i hi), fun hk hi ha hb => overlaps_false (h6 i hi k hk) ha hb⟩
  case accepted =>
    intro r m s b hb h1 h2 hs hf hm
    show execManifestReadDone r s = _
    unfold execManifestReadDone
    rw [hb]
    dsimp only
    rw [if_pos ⟨h1, h2⟩, if_pos hs, hf, if_neg (not_not.2 rfl), hm]
  case failed =>
    intro m s b code hb h1 h2 hc hn
    have hx : exec (.manifestReadDone m) s = .next (s.manifestBad b code) := by
      show execManifestReadDone m s = _
      unfold execManifestReadDone
      rw [hb]
      dsimp only
      rw [if_pos ⟨h1, h2⟩, ← hc, if_pos hn]
    rw [hx]
    have h0 (h : b.push = false) : ¬ b.push = true := by rw [h]; decide
    have hB (h : b.slotB = true) : ¬ b.slotB = false := by rw [h]; decide
    exact ⟨fun h => next_congr (if_pos h), fun h h' => next_congr ((if_neg (h0 h)).trans (if_pos h')),
      fun h h' h3 => next_congr ((if_neg (h0 h)).trans ((if_neg (hB h')).trans (if_pos h3))),
      fun h h' h3 => next_congr ((if_neg (h0 h)).trans ((if_neg (hB h')).trans (if_neg h3)))⟩
  case trained =>
    rintro n h s u b hb h1 h2 rfl
    have hx : exec (.hbmStackTrained n h) s = .next (if s.heightsBad b n h.toNat then s.bootFail 9 else
        if b.trained = [] then ((s.put (pgHBMC n + 0x044) 31 31 1).put (pgHBMC n + 0x044) 29 28 h.toNat).modBoot (fun x => { x with trained := n.val :: x.trained })
        else (((s.put (pgHBMC n + 0x044) 31 31 1).put (pgHBMC n + 0x044) 29 28 h.toNat).modBoot (fun x => { x with trained := n.val :: x.trained })).setBootStep 5) := by
      show execHbmStackTrained n h s = _
      unfold execHbmStackTrained
      rw [hb]
      dsimp only
      rw [if_pos ⟨h1, h2⟩]
    rw [hx]
    refine ⟨fun h => next_congr (if_pos h), fun h => next_congr (if_neg ?_)⟩
    rw [h]
    decide
  case loaded =>
    rintro xs s b m r hb hm h5 rfl
    have hx : exec (.imagesLoaded xs) s = .next (if s.sourceOk b = false then (s.loadImages m.images xs).1.bootFail 8
        else if (s.loadImages m.images xs).2 ≠ 0 then (s.loadImages m.images xs).1.bootFail (s.loadImages m.images xs).2
        else ((s.loadImages m.images xs).1.setBootStep 6).startTransition (if m.factory then 5 else 2)) := by
      show execImagesLoaded xs s = _
      unfold execImagesLoaded
      rw [hb]
      dsimp only
      rw [hm]
      dsimp only
      rw [if_pos h5]
    rw [hx]
    have hs (h : s.sourceOk b = true) : ¬ s.sourceOk b = false := by rw [h]; decide
    exact ⟨fun h h' => next_congr ((if_neg (hs h)).trans (if_neg (not_not.2 h'))), fun h => next_congr (if_pos h),
      fun h h' => next_congr ((if_neg (hs h)).trans (if_pos h'))⟩
  case images =>
    rintro s t e es x xs rfl
    have hx : s.loadImages (e :: es) (x :: xs) = (if x.length < e.len then ((if e.load then (s.devWrite {} e.dest (plain (x.take e.len))).1 else s), 8)
        else if sha384 (x.take e.len) ≠ e.hash then ((if e.load then (s.devWrite {} e.dest (plain (x.take e.len))).1 else s), 7)
        else (if e.load then (s.devWrite {} e.dest (plain (x.take e.len))).1 else s).loadImages es xs) := by
      rw [State.loadImages]
    rw [hx]
    refine ⟨by rw [State.loadImages], by rw [State.loadImages], fun h => if_pos h, fun h h' => (if_neg (Nat.not_lt.2 h)).trans (if_pos h'),
      fun h h' => (if_neg (Nat.not_lt.2 h)).trans (if_neg (not_not.2 h'))⟩
  case ends =>
    rintro s u v b m hb hm h6 rfl rfl
    have hx : exec .bootEnd s = .next (s.endBoot b m) := by
      show execBootEnd s = _
      unfold execBootEnd
      rw [hb]
      dsimp only
      rw [hm]
      dsimp only
      rw [if_pos h6]
    rw [hx]
    refine ⟨fun h => next_congr (if_neg fun hc => ?_), fun h h' => next_congr (if_pos ⟨h, h'⟩)⟩
    exact h.elim (fun h => absurd (h.symm.trans hc.1) (by decide)) (fun h => absurd (h.symm.trans hc.2) (by decide))

end Sys2Proof.Machine
end

section
/-! Jobs of the engines (R244 to R247, R270, R301, R303). -/

namespace Sys2Proof.Machine

open Sys2Proof

/-! ## The work of an operation -/

theorem engJob_setEng (s : State) (q u : Nat) (j : Option EngJob) : (s.setEng q u j).engJob q u = j := tabGet_set_self ..

/-- An operation of a unit that holds its job, not done yet. -/
theorem runOp_holds {s : State} {q u op : Nat} {j : EngJob} (units : EngJob → Nat) (work : EngJob → Nat → State → State × Nat × List Nat)
    (hq : s.quadDark q = false) (hr : j.ran = false) (hj : s.engJob q u = some j) (ho : j.op = op) {b : Bool} (hb : s.jobAbandoned j = b)
    {r : State × Nat × List Nat} (hw : r = work { j with abandoned := b } (if b then s.freeVal.toNat % (units j + 1) else units j) (if b then s.drawn 1 else s)) :
    s.runOp q u op units work = r.1.jobRan q u { j with abandoned := b } (if r.2.1 = 0 ∧ b = true then 5 else r.2.1) r.2.2 := by
  subst hw hb
  unfold State.runOp
  rw [hj]
  refine if_neg fun hc => ?_
  obtain hc | hc | hc := hc
  · exact hc ho
  · exact absurd (hr.symm.trans hc) (by decide)
  · exact absurd (hq.symm.trans hc) (by decide)

/-- The whole of the work, of a job that was not abandoned. -/
theorem runOp_whole {s : State} {q u op : Nat} {j : EngJob} {units : EngJob → Nat} {work : EngJob → Nat → State → State × Nat × List Nat}
    (hq : s.quadDark q = false) (hr : j.ran = false) (ha : s.jobAbandoned j = false) (hj : s.engJob q u = some j) (ho : j.op = op)
    {r : State × Nat × List Nat} (hw : r = work { j with abandoned := false } (units j) s) :
    s.runOp q u op units work = r.1.jobRan q u { j with abandoned := false } r.2.1 r.2.2 := by
  rw [runOp_holds units work hq hr hj ho ha hw, if_neg (fun hc => Bool.false_ne_true hc.2)]

/-- A free number of units, of an abandoned one. -/
theorem runOp_part {s : State} {q u op : Nat} {j : EngJob} {units : EngJob → Nat} {work : EngJob → Nat → State → State × Nat × List Nat}
    (hq : s.quadDark q = false) (hr : j.ran = false) (ha : s.jobAbandoned j = true) (hj : s.engJob q u = some j) (ho : j.op = op) :
    ∃ m r, m ≤ units j ∧ r = work { j with abandoned := true } m (s.drawn 1)
      ∧ s.runOp q u op units work = r.1.jobRan q u { j with abandoned := true } (if r.2.1 = 0 then 5 else r.2.1) r.2.2 := by
  refine ⟨s.freeVal.toNat % (units j + 1), _, Nat.lt_succ_iff.1 (Nat.mod_lt _ (Nat.succ_pos _)), rfl, ?_⟩
  rw [runOp_holds units work hq hr hj ho ha rfl]
  simp only [and_true, if_true]

/-! ## The offer -/

theorem exec_jobOffer {q : Quad} {e : Eng} {s : State} {t : Task} (hq : s.quadDark q = false) (hs : s.slotState (engSlot q e) < 2)
    (hp : s.engPick q e = some t) : exec (.engineJobOffer q e) s = .next (
      if (s.checkMarks t).2 then s.endWaiting t (s.waitStatus (s.checkMarks t).1)
      else (s.mapTask t.ring t.seq (fun x => { x with place := .engine q (s.headUnit q e t) })).acceptJob q e (s.headUnit q e t) t) := by
  refine next_congr ((if_neg fun hc => ?_).trans ?_)
  · exact hc.elim (fun hc => absurd (hq.symm.trans hc) (by decide)) (by omega)
  · rw [hp]

theorem checkMarks_kept {s : State} {t : Task} (h : ¬ (t.dlMode = 2 ∧ t.missed s.pt = true)) : s.checkMarks t = (t, t.marked) := by
  unfold State.checkMarks
  rw [if_neg h]

theorem checkMarks_expired {s : State} {t : Task} (h : t.dlMode = 2 ∧ t.missed s.pt = true) :
    s.checkMarks t = ({ t with expired := true }, true) := by
  unfold State.checkMarks
  rw [if_pos h]
  refine Prod.ext rfl ?_
  unfold Task.marked
  simp

/-- A job whose descriptor is not aligned does no work. -/
theorem acceptJob_misaligned (s : State) (q e u : Nat) {t : Task} (h : t.argp.toNat % 64 ≠ 0) : (s.acceptJob q e u t).engJob q u
    = some { s.jobOf q e t (BitVec.ofNat 384 (natLE [])) with cause := 1, ran := true, soft := (0, 0) } := by
  unfold State.acceptJob
  rw [if_neg h]
  dsimp only
  rw [if_pos (show (1 : Nat) ≠ 0 by decide), if_neg (show (1 : Nat) ≠ 0 by decide), engJob_setEng]

/-! ## The finish -/

theorem exec_jobFinish {q : Quad} {u : JobUnit} {s : State} {j : EngJob} (hj : s.engJob q u = some j) (hr : j.ran = true)
    (hq : s.quadDark q = false) (hf : s.fenced q = false) {r : State × EngJob} (h : r = if unitEng u = 4 then s.gsmLate q j else (s, j)) :
    exec (.engineJobFinish q u) s = .next (r.1.finishJob q u r.2) := by
  show execEngineJobFinish q u s = _
  unfold execEngineJobFinish
  rw [hj]
  dsimp only
  rw [if_pos ⟨hr, hq, hf⟩, h]

/-- A finish, by whether its result words were written. -/
theorem finishJob_eq {s : State} {q u : Nat} {j : EngJob} {c b : Nat} {w v : State × Bool} {n : State}
    (hc : c = (if j.cause = 0 ∧ s.jobAbandoned j = true then 5 else j.cause))
    (hw : w = s.devWrite j.who (j.argp + 48) (plain (resultBytes c (if j.res = [] then s.idleRes q u j else j.res))))
    (hv : v = if w.2 then w else (w.1.smudge (j.argp + 48) 16, false))
    (hn : n = (v.1.setEng q u none).inc (engPg q (unitEng u) + 0x080) 31 0 1)
    (hb : b = if 1 ≤ c ∧ c ≤ 4 then c else if v.2 then 0 else 3) {m : State} (hm : m = if b = 0 then n else n.poisonReport q u j b)
    {t : Task} (ht : m.findTask j.ring j.seq = some t) : s.finishJob q u j = m.reportTask t (locQuad q) := by
  subst hm hb hn hv hw hc
  unfold State.finishJob
  dsimp only
  rw [ht]

theorem gsmLate_idle {s : State} {q : Nat} {u : Nat} {j : EngJob} (h : unitEng u = 4 → s.gsmLate q j = (s, j)) :
    (s, j) = if unitEng u = 4 then s.gsmLate q j else (s, j) := by
  by_cases hu : unitEng u = 4
  · rw [if_pos hu, h hu]
  · rw [if_neg hu]

theorem gsmSt_congr {s t : State} (h : t.gsm = s.gsm) (q c : Nat) : t.gsmSt q c = s.gsmSt q c := by
  unfold State.gsmSt; rw [h]

theorem gsmSt_setGsm (s : State) (q c : Nat) (x : GsmSt) : (s.setGsm q c x).gsmSt q c = x := tabGet_set_self ..

/-- A job abandoned after its work leaves its context as RESTART does. -/
theorem gsmLate_fresh {s : State} {q : Nat} {j : EngJob} (h : j.op = 1 ∧ j.cause = 0 ∧ j.ran = true ∧ j.abandoned = false ∧ s.jobAbandoned j = true) :
    (s.gsmLate q j).1.gsmSt q (j.f 0 27 24) = j.gsmFresh := by
  unfold State.gsmLate
  rw [if_pos h]
  dsimp only
  rw [gsmSt_congr ((State.abdCount_frame ..).gsm rfl), gsmSt_setGsm]

/-! ## The obligation -/

/-- Settles O47: every operation is the same run of its unit's job, and the finish is read by its cause and its write. -/
theorem engineJobs : Obligations.EngineJobs := by
  unfold Obligations.EngineJobs
  refine ⟨?whole, ?part, ?leaves, ?offer, ?noOffer, ?misaligned, ?finish, ?failed, ?gsm⟩
  case whole =>
    rintro q s j k done hq hr ha rfl rfl
    have hx (u op : Nat) (n : EngJob → Nat) (w : EngJob → Nat → State → State × Nat × List Nat) (hj : s.engJob q u = some j) (ho : j.op = op)
        (r : State × Nat × List Nat) (h : r = w { j with abandoned := false } (n j) s) :
        Host.Outcome.next (s.runOp q u op n w) = (.next (r.1.jobRan q u { j with abandoned := false } r.2.1 r.2.2) : Host.Outcome State Fault Refusal) :=
      next_congr (runOp_whole hq hr ha hj ho h)
    and_intros <;> exact fun hj ho r h => hx _ _ _ _ hj ho r h
  case part =>
    rintro q s j k some_ hq hr ha rfl rfl
    have hx (u op : Nat) (n : EngJob → Nat) (w : EngJob → Nat → State → State × Nat × List Nat) (hj : s.engJob q u = some j) (ho : j.op = op) :
        ∃ m r, m ≤ n j ∧ r = w { j with abandoned := true } m (s.drawn 1) ∧ Host.Outcome.next (s.runOp q u op n w)
          = (.next (r.1.jobRan q u { j with abandoned := true } (if r.2.1 = 0 then 5 else r.2.1) r.2.2) : Host.Outcome State Fault Refusal) := by
      obtain ⟨m, r, hm, hw, he⟩ := runOp_part (units := n) (work := w) hq hr ha hj ho
      exact ⟨m, r, hm, hw, next_congr he⟩
    and_intros <;> exact fun hj ho => hx _ _ _ _ hj ho
  case leaves =>
    intro q u j cause res s
    exact ⟨engJob_setEng .., (State.jobRan_frame ..).parts (by decide)⟩
  case offer =>
    rintro q e s t u hq hs hp rfl
    rw [exec_jobOffer hq hs hp]
    refine ⟨fun hm h => ?_, fun hm h => ?_, fun h h' => ?_⟩
    · rw [checkMarks_kept h, hm]
      rfl
    · rw [checkMarks_kept h, hm]
      rfl
    · rw [checkMarks_expired ⟨h, h'⟩]
      rfl
  case noOffer =>
    intro q e s h
    refine next_congr ?_
    by_cases hd : s.quadDark q = true ∨ 2 ≤ s.slotState (engSlot q e)
    · rw [if_pos hd]
    · rw [if_neg hd, h.resolve_right fun hc => hd (.inl hc)]
  case misaligned =>
    intro q e u t s h
    exact ⟨_, acceptJob_misaligned s q e u h, rfl, rfl, rfl, rfl, rfl⟩
  case finish =>
    intro q u s j c w n t hj hr hq hf hg hc hw hw2 hn
    rw [exec_jobFinish hj hr hq hf (gsmLate_idle hg)]
    have hv : w = if w.2 then w else (w.1.smudge (j.argp + 48) 16, false) := by rw [if_pos hw2]
    refine ⟨fun h0 ht => next_congr (finishJob_eq (b := 0) (n := n) (v := w) hc hw hv hn ?_ (if_pos rfl).symm ht),
      fun h1 h4 ht => next_congr (finishJob_eq (b := c) (n := n) (v := w) hc hw hv hn (if_pos ⟨h1, h4⟩).symm (if_neg (by omega)).symm ht)⟩
    rw [if_neg (by omega), if_pos hw2]
  case failed =>
    intro q u s j c b w n t hj hr hq hf hg hc hb hb4 hw hw2 hn ht
    rw [exec_jobFinish hj hr hq hf (gsmLate_idle hg)]
    have hv : (w.1.smudge (j.argp + 48) 16, false) = if w.2 then w else (w.1.smudge (j.argp + 48) 16, false) := by
      rw [if_neg (by rw [hw2]; decide)]
    have hb0 : b ≠ 0 := by
      rw [hb]
      split <;> omega
    refine next_congr (finishJob_eq (b := b) (v := (w.1.smudge (j.argp + 48) 16, false)) hc hw hv rfl ?_ (hn.trans (if_neg hb0).symm) ht)
    by_cases h : c = 0 ∨ c = 5
    · rw [hb, if_pos h, if_neg (by omega)]
      rfl
    · rw [if_neg h] at hb
      rw [if_pos (by omega), hb]
  case gsm =>
    intro q u s j hj hr hq hf hu
    exact ⟨exec_jobFinish hj hr hq hf (if_pos hu).symm, fun h1 h2 h3 h4 => gsmLate_fresh ⟨h1, h2, hr, h3, h4⟩⟩

end Sys2Proof.Machine
end

section
/-! PROOF: what the engines compute (R251 to R304). -/

namespace Sys2Proof.Machine

open Sys2Proof

/-! ## The filter (R255, R256) -/

theorem clamp16_fst (x : Int) : (clamp16 x).1 = clampI (-32768) 32767 x := by
  unfold clamp16 clampI
  split
  · rfl
  · split <;> rfl

theorem clamp16_of_fits {x : Int} (hlo : -32768 ≤ x) (hhi : x ≤ 32767) : clamp16 x = (x, 0) :=
  (if_neg (by omega)).trans (if_neg (by omega))

/-- The samples newest first: those of the block at or before i, and behind them the history. -/
def pastSample (hist xs : List W32) (i t : Nat) : W32 := if t ≤ i then xs.getD (i - t) 0 else hist.getD (t - i - 1) 0

theorem pastSample_first (hist : List W32) (x : W32) (xs : List W32) (t : Nat) :
    (x :: hist).getD t 0 = pastSample hist (x :: xs) 0 t := by
  cases t <;> simp [pastSample]

/-- The window of a later sample, from the history that the first sample has joined. -/
theorem pastSample_next (hist : List W32) (x : W32) (xs : List W32) (i : Nat) {t : Nat} (ht : t < 256) :
    pastSample ((x :: hist).take 255) xs i t = pastSample hist (x :: xs) (i + 1) t := by
  unfold pastSample
  rcases Nat.lt_trichotomy t (i + 1) with h | rfl | h
  · obtain ⟨k, hk⟩ : ∃ k, i + 1 - t = k + 1 := ⟨i - t, by omega⟩
    simp [show t ≤ i by omega, show t ≤ i + 1 by omega, hk, show i - t = k by omega]
  · simp
  · obtain ⟨k, rfl⟩ : ∃ k, t = i + 2 + k := ⟨t - i - 2, by omega⟩
    simp [show ¬ i + 2 + k ≤ i by omega, show ¬ i + 2 + k ≤ i + 1 by omega, show i + 2 + k - i - 1 = k + 1 by omega,
      show i + 2 + k - (i + 1) - 1 = k by omega, show k < 254 by omega]

/-- The exact sum depends on the first TAPS samples of its window only. -/
def EngJob.tapSum (j : EngJob) (w : Nat → Int × Int) : Int × Int :=
  (List.range j.taps).foldl (fun (a : Int × Int) t =>
    (a.1 + (j.tap t).1 * (w t).1 - (j.tap t).2 * (w t).2, a.2 + (j.tap t).1 * (w t).2 + (j.tap t).2 * (w t).1)) (0, 0)

theorem tapSum_congr (j : EngJob) {v w : Nat → Int × Int} (h : ∀ t < j.taps, v t = w t) : j.tapSum v = j.tapSum w :=
  List.foldl_ext _ _ _ fun a t ht => by rw [h t (List.mem_range.mp ht)]

theorem firSum_eq (j : EngJob) (win : List W32) : j.firSum win = j.tapSum (fun t => cplx (win.getD t 0)) := rfl

theorem filter_length (j : EngJob) (hist xs : List W32) : (j.filter hist xs).1.length = xs.length := by
  induction xs generalizing hist with
  | nil => rfl
  | cons x xs ih => exact congrArg Nat.succ (ih _)

/-- An output sample of an exact sum (R256). -/
def firElem (a : Int × Int) : W32 := elemInt (firOut a.1).1 (firOut a.2).1

theorem filter_getD (j : EngJob) (hist xs : List W32) (i : Nat) (hi : i < xs.length) (ht : j.taps ≤ 256) :
    (j.filter hist xs).1.getD i 0 = firElem (j.tapSum (fun t => cplx (pastSample hist xs i t))) := by
  induction xs generalizing hist i with
  | nil => exact absurd hi (Nat.not_lt_zero i)
  | cons x xs ih =>
    cases i with
    | zero =>
      show firElem (j.firSum (x :: hist)) = _
      rw [firSum_eq, tapSum_congr j fun t _ => congrArg cplx (pastSample_first hist x xs t)]
    | succ i =>
      refine (ih ((x :: hist).take 255) i (Nat.lt_of_succ_lt_succ hi)).trans ?_
      rw [tapSum_congr j fun t h => congrArg cplx (pastSample_next hist x xs i (Nat.lt_of_lt_of_le h ht))]

theorem firElem_eq (a : Int × Int) :
    firElem a = elemInt (clampI (-32768) 32767 ((a.1 + 65536) / 131072)) (clampI (-32768) 32767 ((a.2 + 65536) / 131072)) := by
  simp only [firElem, firOut, clamp16_fst]
  norm_num

/-! ## Compressed blocks (R258, R259) -/

/-- The number that digits spell in base B, first digit most significant. -/
def spelled (B : Nat) (ds : List Nat) : Nat := ds.foldl (fun a d => a * B + d) 0

theorem spelled_concat (B : Nat) (ds : List Nat) (d : Nat) : spelled B (ds ++ [d]) = spelled B ds * B + d := by
  simp [spelled, List.foldl_append]

theorem spelled_lt {B : Nat} {ds : List Nat} (h : ∀ d ∈ ds, d < B) : spelled B ds < B ^ ds.length := by
  induction ds using List.reverseRecOn with
  | nil => simp [spelled]
  | append_singleton ds d ih =>
    have hd : d < B := h d (by simp)
    have hs := ih fun x hx => h x (List.mem_append_left _ hx)
    rw [spelled_concat, List.length_append, List.length_singleton, pow_succ]
    calc spelled B ds * B + d < spelled B ds * B + B := by omega
      _ = (spelled B ds + 1) * B := by ring
      _ ≤ B ^ ds.length * B := Nat.mul_le_mul_right B hs

theorem spelled_digit {B : Nat} {ds : List Nat} (h : ∀ d ∈ ds, d < B) {i : Nat} (hi : i < ds.length) :
    spelled B ds / B ^ (ds.length - 1 - i) % B = ds[i] := by
  induction ds using List.reverseRecOn with
  | nil => exact absurd hi (Nat.not_lt_zero i)
  | append_singleton ds d ih =>
    have hd : d < B := h d (by simp)
    have hlen : (ds ++ [d]).length = ds.length + 1 := by simp
    have hdiv : (spelled B ds * B + d) / B = spelled B ds := by
      rw [Nat.mul_comm, Nat.mul_add_div (by omega), Nat.div_eq_of_lt hd, Nat.add_zero]
    rw [spelled_concat]
    rcases Nat.lt_or_ge i ds.length with hlt | hge
    · have hk : (ds ++ [d]).length - 1 - i = (ds.length - 1 - i) + 1 := by omega
      rw [hk, pow_succ', ← Nat.div_div_eq_div_mul, hdiv, List.getElem_append_left hlt]
      exact ih (fun x hx => h x (List.mem_append_left _ hx)) hlt
    · have hk : (ds ++ [d]).length - 1 - i = 0 := by omega
      have hi' : i = ds.length := by omega
      subst hi'
      rw [hk, pow_zero, Nat.div_one, Nat.mul_comm, Nat.mul_add_mod, Nat.mod_eq_of_lt hd]
      simp

/-- A component lies within w bits. -/
def FitsBits (w : Nat) (x : Int) : Prop := -(2 ^ (w - 1) : Int) ≤ x ∧ x ≤ 2 ^ (w - 1) - 1

theorem blockExp_of_fits {xs : List Int} {w : Nat} (h : ∀ x ∈ xs, FitsBits w x) : blockExp xs w = 0 := by
  have hall : (xs.all fun x => fitsWidth (mantissa x 0) w) = true := by
    simpa [List.all_eq_true, fitsWidth, mantissa, FitsBits] using h
  unfold blockExp
  rw [show List.range 16 = 0 :: (List.range 15).map (· + 1) from rfl, List.find?_cons_of_pos (p := fun e => xs.all fun x => fitsWidth (mantissa x e) w) hall]
  rfl

/-- The digit a component takes in a block of width w at exponent 0. -/
def widthDigit (w : Nat) (x : Int) : Nat := (x % 2 ^ w).toNat

theorem widthDigit_lt (w : Nat) (x : Int) : widthDigit w x < 2 ^ w := by
  have h := Int.emod_lt_of_pos x (show (0 : Int) < 2 ^ w by positivity)
  have h0 := Int.emod_nonneg x (show (2 ^ w : Int) ≠ 0 by positivity)
  unfold widthDigit
  zify
  rw [Int.toNat_of_nonneg h0]
  exact h

theorem toInt_widthDigit {w : Nat} {x : Int} (hw : 4 ≤ w) (h : FitsBits w x) : (BitVec.ofNat w (widthDigit w x)).toInt = x := by
  have he : BitVec.ofNat w (widthDigit w x) = BitVec.ofInt w x := by
    apply BitVec.eq_of_toNat_eq
    rw [BitVec.toNat_ofNat, BitVec.toNat_ofInt, Nat.mod_eq_of_lt (widthDigit_lt w x), widthDigit]
    push_cast
    rfl
  rw [he]
  exact BitVec.toInt_ofInt_eq_self (by omega) h.1 (by have := h.2; omega)

theorem packBlock_of_fits {xs : List Int} {w : Nat} (h : ∀ x ∈ xs, FitsBits w x) :
    packBlock xs w = BitVec.ofNat 8 (w - 1) :: bytesBE (3 * w) (spelled (2 ^ w) (xs.map (widthDigit w))) := by
  unfold packBlock
  simp [blockExp_of_fits h, mantissa, spelled, List.foldl_map, widthDigit]

theorem bitString_bytesBE {n v : Nat} (h : v < 256 ^ n) : bitString (bytesBE n v) = v := by
  unfold bitString bytesBE
  rw [List.reverse_reverse, natLE_bytesLE, Nat.mod_eq_of_lt h]

/-- The mantissas that the spelled digits of 24 components give back. -/
theorem mantissas_spelled {xs : List Int} {w : Nat} (hlen : xs.length = 24) (hw : 4 ≤ w) (h : ∀ x ∈ xs, FitsBits w x) :
    (List.range 24).map (fun i => (BitVec.ofNat w (spelled (2 ^ w) (xs.map (widthDigit w)) / 2 ^ (w * (23 - i)))).toInt) = xs := by
  apply List.ext_getElem
  · simp [hlen]
  · intro i hi hx
    have hd : ∀ d ∈ xs.map (widthDigit w), d < 2 ^ w := by
      intro d hd
      obtain ⟨x, -, rfl⟩ := List.mem_map.mp hd
      exact widthDigit_lt w x
    have hdig := spelled_digit hd (i := i) (by simpa using hx)
    simp only [List.length_map, hlen, ← pow_mul, List.getElem_map] at hdig
    have hof : BitVec.ofNat w (spelled (2 ^ w) (xs.map (widthDigit w)) / 2 ^ (w * (24 - 1 - i))) = BitVec.ofNat w (widthDigit w xs[i]) := by
      apply BitVec.eq_of_toNat_eq
      rw [BitVec.toNat_ofNat, BitVec.toNat_ofNat, hdig, Nat.mod_eq_of_lt (widthDigit_lt w _)]
    rw [List.getElem_map, List.getElem_range, hof]
    exact toInt_widthDigit hw (h _ (List.getElem_mem hx))

theorem fits_int16 {w : Nat} (hw : w ≤ 16) {x : Int} (h : FitsBits w x) : -32768 ≤ x ∧ x ≤ 32767 := by
  have hp : (2 : Int) ^ (w - 1) ≤ 2 ^ 15 := pow_le_pow_right₀ (by norm_num) (by omega)
  obtain ⟨hlo, hhi⟩ := h
  norm_num at hp
  omega

/-- A block of width w and exponent 0 expands to its mantissas, each clamped. -/
theorem expandBlock_unshifted {h : W8} {w : Nat} (hw : bitsOf h 3 0 + 1 = w) (hz : bitsOf h 7 4 = 0) (bs : Bytes) :
    expandBlock h bs = ((((List.range 24).map (fun i => (BitVec.ofNat w (bitString bs / 2 ^ (w * (23 - i)))).toInt)).map clamp16).map (·.1),
      ((((List.range 24).map (fun i => (BitVec.ofNat w (bitString bs / 2 ^ (w * (23 - i)))).toInt)).map clamp16).map (·.2)).sum) := by
  subst hw
  simp [expandBlock, hz]

theorem expandBlock_plain {xs : List Int} {w : Nat} (hlen : xs.length = 24) (hw : 4 ≤ w) (hw' : w ≤ 16)
    (h : ∀ x ∈ xs, FitsBits w x) :
    expandBlock (BitVec.ofNat 8 (w - 1)) (bytesBE (3 * w) (spelled (2 ^ w) (xs.map (widthDigit w)))) = (xs, 0) := by
  have hlt : spelled (2 ^ w) (xs.map (widthDigit w)) < 256 ^ (3 * w) := by
    have hs := spelled_lt (B := 2 ^ w) (ds := xs.map (widthDigit w))
      (fun d hd => by obtain ⟨x, -, rfl⟩ := List.mem_map.mp hd; exact widthDigit_lt w x)
    rw [List.length_map, hlen, ← pow_mul] at hs
    rwa [show (256 : Nat) = 2 ^ 8 from rfl, ← pow_mul, show 8 * (3 * w) = w * 24 by ring]
  have hw3 : bitsOf (BitVec.ofNat 8 (w - 1)) 3 0 + 1 = w := by interval_cases w <;> rfl
  have hw7 : bitsOf (BitVec.ofNat 8 (w - 1)) 7 4 = 0 := by interval_cases w <;> rfl
  rw [expandBlock_unshifted hw3 hw7, bitString_bytesBE hlt, mantissas_spelled hlen hw h]
  have hc : xs.map clamp16 = xs.map fun x => (x, 0) :=
    List.map_congr_left fun x hx => clamp16_of_fits (fits_int16 hw' (h x hx)).1 (fits_int16 hw' (h x hx)).2
  simp [hc, Function.comp_def]

/-! ## Widths and symbols (R262, R263) -/

theorem clampI_bounds {lo hi : Int} (h : lo ≤ hi) (x : Int) : lo ≤ clampI lo hi x ∧ clampI lo hi x ≤ hi := by
  unfold clampI
  split
  · exact ⟨le_refl _, h⟩
  · split <;> omega

theorem width_of_fixed (j : EngJob) (x : NscState) (b : RbState) (h : j.c 1 14 10 ≠ 0) :
    j.width x b = max 4 (min 16 (j.c 1 14 10)) := if_pos h

theorem width_of_unmeasured (j : EngJob) (x : NscState) (b : RbState) (h : j.c 1 14 10 = 0) (hm : x.meas < 8 ∨ b.pEst = 0) :
    j.width x b = 16 := (if_neg (not_not.mpr h)).trans (if_pos hm)

theorem width_bounds (j : EngJob) (x : NscState) (b : RbState) : 4 ≤ j.width x b ∧ j.width x b ≤ 16 := by
  by_cases h : j.c 1 14 10 = 0
  · by_cases hm : x.meas < 8 ∨ b.pEst = 0
    · simp [width_of_unmeasured j x b h hm]
    · unfold EngJob.width
      dsimp only
      rw [if_neg (not_not.mpr h), if_neg hm]
      have := clampI_bounds (show (4 : Int) ≤ 16 by norm_num)
        (peakToNoise b.held b.pEst + (BitVec.ofNat 4 (j.c 1 21 18)).toInt + (b2n x.stale : Nat))
      omega
  · rw [width_of_fixed j x b h]
    omega

theorem symbol_of_ungated (j : EngJob) (x : NscState) (p : List Nat)
    (h : ¬ (x.fresh = true ∧ 0 < x.nrbLast ∧ j.c 2 31 0 * 24 * x.nrbLast < x.eLast)) :
    j.symbol x p = ({ x with
      heldSyms := min (x.heldSyms + 1) 255, stale := x.stale || decide (64 ≤ min (x.heldSyms + 1) 255), fresh := false }, false) :=
  if_neg h

/-! ## Prefixes and rate matching (R252, R277) -/

theorem withPrefix_ifft (j : EngJob) (k : Nat) (ys : List W32) (h : j.op = 1) : j.withPrefix k ys
    = (List.range (j.prefix k)).map (fun (i : Nat) => ys.getD ((((i : Int) - j.prefix k) % j.n).toNat) 0) ++ ys := if_pos h

/-- An index of a prefix lies in the tail. -/
theorem prefixIndex {i p n : Nat} (hi : i < p) (hp : p ≤ n) : (((i : Int) - p) % n).toNat = n - p + i := by
  have h : ((i : Int) - p) % n = (i : Int) - p + n := by
    rw [← Int.add_emod_right]
    exact Int.emod_eq_of_lt (by omega) (by omega)
  omega

theorem sum_map_threshold {c k : Nat} (hk : k ≤ c) (a b : Nat) :
    ((List.range c).map (fun r => if r < k then a else b)).sum = k * a + (c - k) * b := by
  obtain ⟨d, rfl⟩ := Nat.exists_eq_add_of_le hk
  have hlow : (List.range k).map (fun r => if r < k then a else b) = List.replicate k a :=
    List.eq_replicate_iff.mpr ⟨by simp, by simp +contextual⟩
  have hhigh : (List.range d).map ((fun r => if r < k then a else b) ∘ fun x => k + x) = List.replicate d b :=
    List.eq_replicate_iff.mpr ⟨by simp, by simp⟩
  rw [List.range_add, List.map_append, List.map_map, hlow, hhigh]
  simp

theorem sum_rateE {g nl qm c : Nat} (hc : 0 < c) (hg : g % (nl * qm) = 0) :
    ((List.range c).map (fun r => rateE g nl qm c r)).sum = g := by
  unfold rateE
  dsimp only
  obtain ⟨n, rfl⟩ := Nat.dvd_of_mod_eq_zero hg
  rcases Nat.eq_zero_or_pos (nl * qm) with h0 | hpos
  · simp [h0]
  rw [Nat.mul_div_cancel_left n hpos, sum_map_threshold (Nat.sub_le _ _)]
  have hm := Nat.mod_lt n hc
  have hn := Nat.div_add_mod n c
  generalize hq : n / c = q at *
  rcases Nat.eq_zero_or_pos (n % c) with hz | hp
  · rw [hz] at hn ⊢
    simp only [Nat.sub_zero, Nat.sub_self, Nat.zero_mul, Nat.add_zero] at hn ⊢
    rw [← hn]
    ring
  · have hceil : (n + c - 1) / c = q + 1 := by
      rw [show n + c - 1 = (n % c - 1) + c * (q + 1) by rw [Nat.mul_add]; omega, Nat.add_mul_div_left _ _ hc,
        Nat.div_eq_of_lt (by omega), Nat.zero_add]
    rw [hceil, Nat.sub_sub_self hm.le]
    generalize n % c = m at *
    obtain ⟨d, rfl⟩ := Nat.exists_eq_add_of_lt hm
    rw [show m + d + 1 - m = d + 1 by omega, ← hn]
    ring

/-! ## Soft values (R271, R287) -/

theorem softOf_eq (b : W8) : softOf b = if b.toInt = -128 then -127 else b.toInt := by
  have hlo : -128 ≤ b.toInt := by simpa using BitVec.le_toInt b
  unfold softOf
  split <;> omega

/-! ## Records and candidates (R301 to R304) -/

theorem putRec_of_stopped (j : EngJob) (x : AbdRun) (st pre : Nat) (m : Int) (pos w2 : Nat) (h : x.run.ok = false) :
    j.putRec x st pre m pos w2 = x := if_pos h

theorem putRec_of_full (j : EngJob) (x : AbdRun) (st pre : Nat) (m : Int) (pos w2 : Nat) (h : x.run.ok = true) (hn : j.maxRec ≤ x.n) :
    j.putRec x st pre m pos w2 = { x with n := x.n + 1, dropped := x.dropped + 1 } :=
  (if_neg (by simp [h])).trans (if_neg (by omega))

/-- A record with room: the run is that of its write, and only a write that succeeded counts it. -/
theorem putRec_of_room (j : EngJob) (x : AbdRun) (st pre : Nat) (m : Int) (pos w2 : Nat) (h : x.run.ok = true) (hn : x.n < j.maxRec) :
    ∃ w : JobRun, j.putRec x st pre m pos w2 = if w.ok then
        { x with run := w, n := x.n + 1, detected := x.detected + b2n (decide (st = 0))
                 preempted := x.preempted + b2n (decide (st = 1)), crcFail := x.crcFail + b2n (decide (st = 2)) }
      else { x with run := w } :=
  ⟨_, (if_neg (by simp [h])).trans (if_pos hn)⟩

/-- The three counts of a record grow by one together, for a status that is one of theirs. -/
theorem statusCounts (st : Nat) : b2n (decide (st = 0)) + b2n (decide (st = 1)) + b2n (decide (st = 2)) = if st < 3 then 1 else 0 := by
  match st with
  | 0 | 1 | 2 => rfl
  | n + 3 => simp [b2n]

theorem candidate_idle (j : EngJob) (r : AbdRun) (pre x : Nat) (at_ : Nat → Nat) (m : Int) (h : r.det = none) :
    j.candidate r pre at_ x m = if j.thresh ≤ m then { r with det := some (x, m) } else r := by
  unfold EngJob.candidate
  rw [h]

theorem candidate_open (j : EngJob) (r : AbdRun) (pre x p : Nat) (at_ : Nat → Nat) (m q : Int) (h : r.det = some (p, q)) :
    j.candidate r pre at_ x m = if 0 < j.capMargin ∧ q + j.capMargin ≤ m then
        { j.putRec r 1 pre q (at_ p) ((BitVec.ofInt 16 m).toNat * 65536) with det := some (x, m) }
      else if q < m then { r with det := some (x, m) } else r := by
  unfold EngJob.candidate
  rw [h]

/-- Settles O48: the filter by induction on its samples, the block by the digits its bytes spell, the rest by the case of each function. -/
theorem engineArithmetic : Obligations.EngineArithmetic := by
  unfold Obligations.EngineArithmetic
  refine ⟨?filter, ?block, ?width, ?symbol, ?tail, fun g nl qm c hc _ hg => sum_rateE hc hg, ?soft, ?record, ?candidate⟩
  case filter =>
    rintro j hist xs i w a hi - ht rfl rfl
    exact ⟨filter_length j hist xs, (filter_getD j hist xs i hi ht).trans (firElem_eq _)⟩
  case block =>
    intro xs w h t hlen hw hw' hfit hpack
    rw [packBlock_of_fits hfit] at hpack
    obtain ⟨rfl, rfl⟩ := List.cons.inj hpack
    refine ⟨?_, by simp [bytesBE], expandBlock_plain hlen hw hw' hfit⟩
    rw [BitVec.toNat_ofNat, Nat.mod_eq_of_lt (by omega)]
  case width =>
    intro j x b
    obtain ⟨hlo, hhi⟩ := width_bounds j x b
    refine ⟨hlo, hhi, fun h4 h16 => ?_, width_of_unmeasured j x b⟩
    rw [width_of_fixed j x b (by omega)]
    omega
  case symbol =>
    rintro j x y p h rfl
    rw [symbol_of_ungated j x p (by rcases h with h | h | h <;> simp [h])]
    refine ⟨rfl, rfl, rfl, rfl, ?_⟩
    simp only [Bool.or_eq_true, decide_eq_true_eq]
    exact or_congr_right (by omega)
  case tail =>
    intro j k i ys hop hlen hp hi
    rw [withPrefix_ifft j k ys hop]
    refine ⟨by simp [hlen], ?_, ?_⟩
    · simp [List.getD_eq_getElem?_getD, List.getElem?_append, hi, prefixIndex hi hp]
    · exact List.drop_left' (by simp)
  case soft =>
    intro b x
    exact ⟨softOf_eq b, clampI_bounds (by norm_num) _⟩
  case record =>
    rintro j x y st pre m pos w2 rfl
    refine ⟨putRec_of_stopped j x st pre m pos w2, fun h hn => ?_, fun h hn => ?_⟩
    · obtain ⟨w, hw⟩ := putRec_of_room j x st pre m pos w2 h hn
      rw [hw, ← statusCounts st]
      by_cases hok : w.ok = true
      · rw [if_pos hok]
        exact ⟨rfl, fun _ => ⟨rfl, by dsimp only; omega⟩, fun hf => absurd (hok.symm.trans hf) (by simp)⟩
      · rw [if_neg hok]
        exact ⟨rfl, fun ht => absurd ht hok, fun _ => ⟨rfl, rfl, rfl, rfl⟩⟩
    · rw [putRec_of_full j x st pre m pos w2 h hn]
      exact ⟨rfl, rfl, rfl, rfl⟩
  case candidate =>
    intro j r pre x p at_ m q
    refine ⟨fun h => ?_, fun h hc hm => ?_, fun h hq hm => ?_, fun h hq => ?_⟩
    · rw [candidate_idle j r pre x at_ m h]
      split
      · rfl
      · exact h
    · rw [candidate_open j r pre x p at_ m q h, if_pos ⟨hc, hm⟩]
      exact ⟨rfl, rfl⟩
    · rw [candidate_open j r pre x p at_ m q h, if_neg (by omega), if_pos hq]
      exact ⟨rfl, rfl⟩
    · rw [candidate_open j r pre x p at_ m q h, if_neg (by omega), if_neg (by omega)]
      exact ⟨h, rfl⟩

end Sys2Proof.Machine
end

section
/-! PROOF: the rules of links: what reads one, what a frame, a comma or a mask change leaves of it (R218 to R230). -/

namespace Sys2Proof.Machine

open Sys2Proof

/-! ## The links of the state -/

theorem Frame.links {m : Nat} {s t : State} (h : Frame m s t) (hm : m.testBit 27 = false) : t.links = s.links := h.same .links hm

theorem Frame.out {m : Nat} {s t : State} (h : Frame m s t) (hm : m.testBit 6 = false) : t.out = s.out := h.same .out hm

theorem link_congr {s t : State} (h : t.links = s.links) (e : Nat) : t.link e = s.link e := by
  unfold State.link; rw [h]

theorem link_setLink (s : State) (e k : Nat) (x : LinkSt) : (s.setLink e x).link k = if k = e then x else s.link k := tabGet_set ..

@[simp] theorem link_setLink_self (s : State) (e : Nat) (x : LinkSt) : (s.setLink e x).link e = x := tabGet_set_self ..

@[simp] theorem link_modLink_self (s : State) (e : Nat) (f : LinkSt → LinkSt) : (s.modLink e f).link e = f (s.link e) := tabGet_set_self ..

@[simp] theorem link_put (s : State) (k hi lo v e : Nat) : (s.put k hi lo v).link e = s.link e := rfl

@[simp] theorem reg_setLink (s : State) (e : Nat) (x : LinkSt) (k : Nat) : (s.setLink e x).reg k = s.reg k := rfl

/-! ## What the registers say of a link -/

section
variable {s t : State}

theorem laneMode_congr (h : t.regs = s.regs) (e : Nat) : t.laneMode e = s.laneMode e := by
  unfold State.laneMode; exact fld_congr h ..

theorem linkOf_congr (h : t.regs = s.regs) (l : Nat) : t.linkOf l = s.linkOf l := by
  unfold State.linkOf State.linkCfg; rw [reg_of_regs h]

theorem isLink_congr (h : t.regs = s.regs) (e : Nat) : t.isLink e = s.isLink e := by
  unfold State.isLink; rw [linkOf_congr h]

theorem ptPresent_congr (h : t.regs = s.regs) (e : Nat) : t.ptPresent e = s.ptPresent e := by
  unfold State.ptPresent; rw [fld_congr h]

theorem fencePhase_congr (h : t.regs = s.regs) (q : Nat) : t.fencePhase q = s.fencePhase q := by
  unfold State.fencePhase; exact fld_congr h ..

theorem quadDark_congr {q : Nat} (hf : t.fencePhase q = s.fencePhase q) (hq : t.quad = s.quad) : t.quadDark q = s.quadDark q := by
  unfold State.quadDark State.fenced State.quadOn
  rw [hf, quadSt_congr hq]

theorem portUpAt_congr (h : t.regs = s.regs) (hq : t.quad = s.quad) (e : Nat) : t.portUpAt e = s.portUpAt e := by
  unfold State.portUpAt
  rw [laneMode_congr h, fld_congr h, quadDark_congr (fencePhase_congr h _) hq]

theorem slotState_of_parts {k : Nat} (hm : t.reg (pgDEV + 0x040) = s.reg (pgDEV + 0x040)) (hp : t.power = s.power) (hq : t.quad = s.quad) :
    t.slotState k = s.slotState k := by
  unfold State.slotState State.slotDormant State.mode State.fld
  rw [hm, slot_congr hp, quadSt_congr hq]

/-- The link layer of a quadrant runs by the mode, the fence, the domain and its slot. -/
theorem blnkOn_congr {q : Nat} (hm : t.reg (pgDEV + 0x040) = s.reg (pgDEV + 0x040))
    (hf : t.reg (pgDWEIR + 0x140 + 4 * q) = s.reg (pgDWEIR + 0x140 + 4 * q)) (hp : t.power = s.power) (hq : t.quad = s.quad) :
    t.blnkOn q = s.blnkOn q := by
  have hph : t.fencePhase q = s.fencePhase q := congrArg (fun v : W32 => bitsOf v 26 24) hf
  unfold State.blnkOn
  rw [quadDark_congr hph hq, slotState_of_parts hm hp hq]

/-- A link sends by its masks and the link layer of its quadrant. -/
theorem txRuns_congr {e : Nat} (hrx : (t.link e).rx = (s.link e).rx) (htx : (t.link e).tx = (s.link e).tx)
    (hat : (t.link e).txAt = (s.link e).txAt) (hb : t.blnkOn (e / 16) = s.blnkOn (e / 16)) : t.txRuns e = s.txRuns e := by
  unfold State.txRuns
  rw [hrx, htx, hat, hb]

end

/-- No register of a quadrant's link layer says whether that layer runs. -/
theorem blnkOn_put (s : State) (q o hi lo v : Nat) : (s.put (pgBLNK q + o) hi lo v).blnkOn q = s.blnkOn q := by
  refine blnkOn_congr (reg_put_ne _ _ _ _ ?_) (reg_put_ne _ _ _ _ ?_) ((State.put_frame ..).power rfl)
    ((State.put_frame ..).quad rfl)
  · unfold pgDEV devPg pgBLNK quadPg; omega
  · unfold pgDWEIR devPg pgBLNK quadPg; omega

/-! ## A frame on the line (R220, R221, R242) -/

theorem mapIdx_const {α β : Type} (g : α → β) (l : List α) : l.mapIdx (fun _ x => g x) = l.map g := by
  apply List.ext_getElem <;> simp

theorem putFrame_plain (s : State) (e : Nat) (f : TxFrame) :
    s.putFrame e f false = s.sendStriped e ((frameBlocks f.seq.toNat f.stream f.payload).map (fun x => (x, 0))) := by
  unfold State.putFrame
  simp only [Bool.false_eq_true, false_and, if_false, mapIdx_const]

theorem sendFrame_held {s : State} {e : Nat} {f h : TxFrame} (hh : (s.link e).held = some h) (hn : h.seq ≠ f.seq) : s.sendFrame e f
    = (((s.putFrame e f false).putFrame e h false).modLink e (fun k => { k with held := none })).injDone e := by
  unfold State.sendFrame
  rw [hh]
  exact if_neg hn

/-- With no frame held back the injection that is armed decides. -/
theorem sendFrame_free {s : State} {e : Nat} (f : TxFrame) (hh : (s.link e).held = none) :
    (s.injOn e = 0 → s.sendFrame e f = s.putFrame e f false)
    ∧ (s.injOn e = 1 → s.sendFrame e f = s.injDone e)
    ∧ (s.injOn e = 2 → s.sendFrame e f = (s.putFrame e f true).injDone e)
    ∧ (s.injOn e = 3 → s.sendFrame e f = s.modLink e (fun k => { k with held := some f })) := by
  refine ⟨?_, ?_, ?_, ?_⟩
  all_goals
    intro hi
    unfold State.sendFrame
    rw [hh]
    dsimp only
    rw [hi]
    rfl

end Sys2Proof.Machine
end

section
/-! PROOF: the Tailrace and the injected faults (R230, R241, R242, R325). -/

namespace Sys2Proof.Machine

open Sys2Proof

/-! ## Requests (R325) -/

section
variable {q : Quad} {k : W10} {n : W16} {s : State} {x : SendReq}

theorem entry_of_find (h : (s.sendsOf q).find? (fun r => decide (r.entry = k.toNat) && s.sendTurn q r) = some x) : x.entry = k.toNat := by
  have := List.find?_some h
  simp only [Bool.and_eq_true, decide_eq_true_eq] at this
  exact this.1

/-- A request whose turn it is, and whose frame the link's store takes or no store holds, is taken and sent. -/
theorem exec_tailraceFrameSend (hon : s.traceOn q = true)
    (hf : (s.sendsOf q).find? (fun r => decide (r.entry = k.toNat) && s.sendTurn q r) = some x) (hn : x.n = n.toNat)
    (hroom : ¬ (s.laneMode (16 * q + bitsOf (s.reg (traceKey 0x844 q k.toNat)) 23 20) = 0
      ∧ s.ptPresent (16 * q + bitsOf (s.reg (traceKey 0x844 q k.toNat)) 23 20) = true
      ∧ s.storeRoom (16 * q + bitsOf (s.reg (traceKey 0x844 q k.toNat)) 23 20) n.toNat = false)) :
    exec (.tailraceFrameSend q k n) s = .next ((s.takeSend q x).traceSend q k.toNat n.toNat) := by
  show execTailraceFrameSend q k n s = _
  unfold execTailraceFrameSend
  dsimp only
  rw [hf]
  dsimp only
  rw [entry_of_find hf, hn, if_neg (by simp [hon]), if_neg hroom]

/-- Nothing is sent without a request whose turn it is. -/
theorem exec_tailraceFrameSend_none (h : (s.sendsOf q).find? (fun r => decide (r.entry = k.toNat) && s.sendTurn q r) = none) :
    exec (.tailraceFrameSend q k n) s = .next s := by
  show execTailraceFrameSend q k n s = _
  unfold execTailraceFrameSend
  dsimp only
  rw [h]

theorem exec_tailraceFrameSend_full
    (h : (s.laneMode (16 * q + bitsOf (s.reg (traceKey 0x844 q k.toNat)) 23 20) = 0
      ∧ s.ptPresent (16 * q + bitsOf (s.reg (traceKey 0x844 q k.toNat)) 23 20) = true
      ∧ s.storeRoom (16 * q + bitsOf (s.reg (traceKey 0x844 q k.toNat)) 23 20) n.toNat = false) ∨ s.traceOn q = false) :
    exec (.tailraceFrameSend q k n) s = .next s := by
  show execTailraceFrameSend q k n s = _
  unfold execTailraceFrameSend
  dsimp only
  split
  · rfl
  next r _ =>
    by_cases hc : s.traceOn q = false ∨ r.n ≠ n.toNat
    · rw [if_pos hc]
    · obtain ⟨hon, hn⟩ := not_or.mp hc
      rw [if_neg hc, if_pos]
      rw [not_not.mp hn]
      exact h.resolve_right hon

end

/-! ## One frame (R234, R241) -/

section
variable {s : State} {q k n : Nat} {a : W32} {e : Nat} (ha : a = s.reg (traceKey 0x844 q k)) (he : e = 16 * q + bitsOf a 23 20)
include ha

theorem traceSend_invalid (hv : bit a 31 = false) : s.traceSend q k n = s := by
  subst ha
  exact if_pos hv

include he

theorem traceSend_birlis (hv : bit a 31 = true) (hm : s.laneMode e = 0) (hp : s.ptPresent e = true) (hl : s.isLink e = true) :
    s.traceSend q k n = (s.sourceBytes q k n).1.sendBirlis e a k (s.sourceBytes q k n).2 := by
  subst ha he
  exact (if_neg (by simp [hv])).trans ((if_neg (by simp [hm])).trans (if_pos (by simp [hp, hl])))

theorem traceSend_port (hv : bit a 31 = true) (hm : s.laneMode e = 1) (hp : s.portUpAt e = true) (hl : s.isLink e = true) :
    s.traceSend q k n = (s.sourceBytes q k n).1.sendEth e a q k (s.sourceBytes q k n).2 := by
  subst ha he
  exact (if_neg (by simp [hv])).trans ((if_pos hm).trans (if_pos (by simp [hp, hl])))

/-- A frame for a port that is down, or for no partner, is lost. -/
theorem traceSend_lost (hv : bit a 31 = true) (h : s.laneMode e = 1 ∧ s.portUpAt e = false ∨ s.laneMode e = 0 ∧ s.ptPresent e = false) :
    s.traceSend q k n = (s.sourceBytes q k n).1.inc (pgTRACE q + 0x060) 31 0 1 := by
  subst ha he
  refine (if_neg (by simp [hv])).trans ?_
  rcases h with ⟨hm, hp⟩ | ⟨hm, hp⟩
  · exact (if_pos hm).trans (if_neg (by simp [hp]))
  · exact (if_neg (by simp [hm])).trans (if_neg (by simp [hp]))

end

/-! ## A frame of a link (R230, R328) -/

/-- The frame that an entry's link sends next. -/
def State.nextFrame (s : State) (e : Nat) (a : W32) (pay : Bytes) : TxFrame := ⟨(s.link e).txSeq, bitsOf a 9 0, pay, false⟩

/-- That frame stands in the replay store under the next number. -/
def State.stored (s : State) (e : Nat) (f : TxFrame) : State :=
  (s.setLink e { s.link e with txSeq := (s.link e).txSeq + 1, store := (s.link e).store ++ [f] }).showUnacked e

/-- A frame whose entry asks for it waits for its timestamp. -/
def State.stamped (s : State) (e k : Nat) (a : W32) (f : TxFrame) : State :=
  if bit a 30 then s.setTsWaiting (e / 16) (s.tsWaiting (e / 16) ++ [⟨0, e, k, f.seq⟩]) else s

theorem sendBirlis_eq (s : State) (e : Nat) (a : W32) (k : Nat) (pay : Bytes) : s.sendBirlis e a k pay
    = if ((s.stored e (s.nextFrame e a pay)).stamped e k a (s.nextFrame e a pay)).txRuns e
      then ((s.stored e (s.nextFrame e a pay)).stamped e k a (s.nextFrame e a pay)).firstSend e (s.nextFrame e a pay)
      else (s.stored e (s.nextFrame e a pay)).stamped e k a (s.nextFrame e a pay) := rfl

theorem txRuns_stored (s : State) (e : Nat) (f : TxFrame) : (s.stored e f).txRuns e = s.txRuns e := by
  unfold State.stored State.showUnacked
  rw [Nat.add_assoc]
  refine txRuns_congr ?_ ?_ ?_ ((blnkOn_put ..).trans (blnkOn_congr rfl rfl rfl rfl)) <;> rw [link_put, link_setLink_self]

theorem txRuns_stamped (s : State) (e k : Nat) (a : W32) (f : TxFrame) : (s.stamped e k a f).txRuns e = s.txRuns e := by
  unfold State.stamped
  split <;> rfl

/-- A link that is DOWN, has nothing to send on, or waits for a mask change sends no frame. -/
theorem txRuns_stopped {s : State} {e : Nat} (h : (s.link e).rx = 0 ∨ (s.link e).tx = 0 ∨ (s.link e).txAt ≠ none) : s.txRuns e = false := by
  unfold State.txRuns
  rcases h with h | h | h <;> simp [h]

theorem firstSend_eq (s : State) (e : Nat) (f : TxFrame) : s.firstSend e f = (s.sendFrame e f).modLink e (fun k => { k with
    store := k.store.map (fun g => if g.seq = f.seq then { g with sent := true } else g) }) := by
  unfold State.firstSend State.markSent
  simp only [decide_eq_true_eq]

/-! ## Injection (R242) -/

/-- BLNK_INJ of a quadrant: one register, all of whose fields open in FACTORY. -/
theorem reg_inj (i q : Nat) : (⟨.blnk, i, 0, q⟩ : Page).reg 0x140
    = some (reg 0x140 [rwf 31 31, rwf 26 24, rwf 23 20, rwf 19 16, rwf 7 0]) := by
  have hh : (headerRegs ⟨.blnk, i, 0, q⟩).find? (fun r => r.at 0 0x140) = none := by
    simp [headerRegs, List.find?, RegDesc.at, reg]
  have hb : (blockRegs .blnk i).find? (fun r => r.at 0 0x140)
    = some (reg 0x140 [rwf 31 31, rwf 26 24, rwf 23 20, rwf 19 16, rwf 7 0]) := rfl
  unfold Page.reg Page.regs
  rw [if_pos rfl, if_neg (fun h => Block.noConfusion h.1), List.find?_append, hh, hb]
  rfl

theorem pageOf_blnk {q : Nat} (hq : q < 4) : pageOf (pgBLNK q) = some ⟨.blnk, q, 0, q⟩ := by
  unfold pgBLNK
  rw [pageOf_quadPg hq (by omega)]
  rfl

theorem regAt_inj {q : Nat} (hq : q < 4) {p : Page} {d : RegDesc} (h : regAt (pgBLNK q + 0x140) = some (p, d)) :
    d = reg 0x140 [rwf 31 31, rwf 26 24, rwf 23 20, rwf 19 16, rwf 7 0] := by
  obtain ⟨hp, hd⟩ := regAt_some.1 h
  have hm := pgBLNK_mod q
  rw [pageOf_offset hm (by decide), pageOf_blnk hq] at hp
  rw [show (pgBLNK q + 0x140) % 0x1000 = 0x140 by omega, ← Option.some.inj hp] at hd
  exact (Option.some.inj ((reg_inj q q).symm.trans hd)).symm

/-- In FACTORY a write of BLNK_INJ is taken whole. -/
theorem writeInj_factory {s : State} {q : Nat} (hq : q < 4) {p : Page} {d : RegDesc} (h : regAt (pgBLNK q + 0x140) = some (p, d))
    (hf : s.factory = true) {v : W32} {u : State} (hu : u = s.setReg (pgBLNK q + 0x140) (d.newWord (s.reg (pgBLNK q + 0x140)) v)) :
    s.writeInj q v = if bit v 31 = true ∧ bitsOf v 26 24 = 4 then
        if bitsOf v 7 0 = 0 then u.put (pgBLNK q + 0x140) 31 31 0
        else (u.modLane (16 * q + bitsOf v 19 16) (fun x => { x with inj := bitsOf v 7 0 })).emit (.laneTx (16 * q + bitsOf v 19 16) false)
      else u := by
  have hd := regAt_inj hq h
  have hm := pgBLNK_mod q
  subst hu
  unfold State.writeInj
  refine scoped_open h (regKey_plain s (by rw [hd]; rfl) (by omega)) ?_
  simp [State.scopesOpen, hd, reg, rwf, State.scopeOpen, hf]

/-- The fields of the word that arms an injection. -/
theorem injWord_fields {act link lane count : Nat} (ha : act < 8) (hk : link < 16) (hl : lane < 16) (hc : count < 256) :
    bit (injWord act link lane count) 31 = true ∧ bitsOf (injWord act link lane count) 26 24 = act
      ∧ bitsOf (injWord act link lane count) 19 16 = lane ∧ bitsOf (injWord act link lane count) 7 0 = count := by
  have hn : (injWord act link lane count).toNat = 2 ^ 31 + act * 2 ^ 24 + link * 2 ^ 20 + lane * 2 ^ 16 + count := by
    unfold injWord
    rw [BitVec.toNat_ofNat, Nat.mod_eq_of_lt (by omega)]
  refine ⟨?_, ?_, ?_, ?_⟩
  · unfold bit
    rw [BitVec.getLsbD, hn, Nat.testBit_eq_decide_div_mod_eq]
    simp only [decide_eq_true_eq]
    omega
  all_goals
    unfold bitsOf
    rw [hn, Nat.shiftRight_eq_div_pow]
    omega

/-- Settles O46: each frame by the branch its entry, its link and its request take; an injection by the fields of its word. -/
theorem tailraceAndInjection : Obligations.TailraceAndInjection := by
  unfold Obligations.TailraceAndInjection
  refine ⟨?birlis, ?nothing, ?stored, fun s e => txRuns_stopped, ?turn, fun e f s => putFrame_plain s e f, ?port, ?invalid, ?arm, ?lane⟩
  case birlis =>
    rintro q k n s a e x r hon hf hn ha hv he hm hp hl hroom rfl
    have hr := (State.takeSend_frame s q x).regs rfl
    rw [exec_tailraceFrameSend hon hf hn (by rw [← ha, ← he, hroom]; simp)]
    exact next_congr (traceSend_birlis (ha.trans (reg_of_regs hr _).symm) he hv ((laneMode_congr hr e).trans hm)
      ((ptPresent_congr hr e).trans hp) ((isLink_congr hr e).trans hl))
  case nothing =>
    rintro q k n s a e rfl rfl (h | h | h)
    · exact exec_tailraceFrameSend_none h
    · exact exec_tailraceFrameSend_full (.inl h)
    · exact exec_tailraceFrameSend_full (.inr h)
  case stored =>
    rintro e k a pay s f u v rfl rfl rfl
    have hv : ((s.stored e (s.nextFrame e a pay)).stamped e k a (s.nextFrame e a pay)).txRuns e = s.txRuns e :=
      (txRuns_stamped ..).trans (txRuns_stored ..)
    constructor
    · intro h
      rw [sendBirlis_eq, hv, h]
      rfl
    · intro h
      rw [sendBirlis_eq, hv, h]
      rfl
  case turn =>
    intro e f s
    refine ⟨fun hh => (sendFrame_free f hh).1, fun hh => (sendFrame_free f hh).2.1, fun hh => (sendFrame_free f hh).2.2.1,
      fun hh => (sendFrame_free f hh).2.2.2, fun h => sendFrame_held, firstSend_eq s e f⟩
  case port =>
    rintro q k n s a e x r hon hf hn ha hv he rfl
    have hr := (State.takeSend_frame s q x).regs rfl
    have hq := (State.takeSend_frame s q x).quad rfl
    have hat := ha.trans (reg_of_regs hr _).symm
    refine ⟨fun hm hl hp => ?_, fun hm hp => ?_, fun hm hp => ?_⟩
    · rw [exec_tailraceFrameSend hon hf hn (by rw [← ha, ← he, hm]; simp)]
      exact next_congr (traceSend_port hat he hv ((laneMode_congr hr e).trans hm) ((portUpAt_congr hr hq e).trans hp)
        ((isLink_congr hr e).trans hl))
    · rw [exec_tailraceFrameSend hon hf hn (by rw [← ha, ← he, hm]; simp)]
      exact next_congr (traceSend_lost hat he hv (.inl ⟨(laneMode_congr hr e).trans hm, (portUpAt_congr hr hq e).trans hp⟩))
    · rw [exec_tailraceFrameSend hon hf hn (by rw [← ha, ← he, hp]; simp)]
      exact next_congr (traceSend_lost hat he hv (.inr ⟨(laneMode_congr hr e).trans hm, (ptPresent_congr hr e).trans hp⟩))
  case invalid =>
    intro q k n s x hon hf hn hv hp
    have hr := (State.takeSend_frame s q x).regs rfl
    rw [exec_tailraceFrameSend hon hf hn (by rw [hp]; simp)]
    exact next_congr (traceSend_invalid rfl (by rw [reg_of_regs hr]; exact hv))
  case arm =>
    rintro q link s a p d w rfl hreach hr rfl hf
    have harm (act : Nat) (h1 : act < 4) : s.writeInj q (injWord act link.toNat 0 0)
        = s.setReg (pgBLNK q + 0x140) (d.newWord (s.reg (pgBLNK q + 0x140)) (BitVec.ofNat 32 (2 ^ 31 + act * 2 ^ 24 + link.toNat * 2 ^ 20))) := by
      obtain ⟨-, hact, -, -⟩ := injWord_fields (show act < 8 by omega) link.isLt (show 0 < 16 by omega) (show 0 < 256 by omega)
      refine (writeInj_factory q.isLt hr hf rfl).trans ((if_neg fun h => ?_).trans ?_)
      · omega
      · simp [injWord]
    exact ⟨next_congr ((access_reaches _ hreach).trans (harm 1 (by decide))), next_congr ((access_reaches _ hreach).trans (harm 2 (by decide))),
      next_congr ((access_reaches _ hreach).trans (harm 3 (by decide)))⟩
  case lane =>
    rintro q link lane count s a p d w rfl hreach hr rfl hc hf
    obtain ⟨hgo, hact, hlane, hcount⟩ := injWord_fields (show 4 < 8 by omega) link.isLt lane.isLt count.isLt
    have hc' : count.toNat ≠ 0 := fun h => hc (BitVec.eq_of_toNat_eq h)
    refine next_congr ((access_reaches _ hreach).trans ((writeInj_factory q.isLt hr hf rfl).trans ((if_pos ⟨hgo, hact⟩).trans
      ((if_neg (by rw [hcount]; exact hc')).trans ?_))))
    rw [hlane, hcount]
    rfl

end Sys2Proof.Machine
end

section
/-! PROOF: frames that arrive: the Headrace, its rings and windows, and eCPRI (R102, R221, R229, R234 to R239). -/

namespace Sys2Proof.Machine

open Sys2Proof

/-! ## The lookup of a header (R235, R237) -/

/-- What the live map entry of a stream says of a frame that takes it, bound for its ring. -/
def State.mapAnswer (s : State) (e : Nat) (seq : W16) (stream : Nat) (found : Bool) : Landing :=
  ⟨seq, stream, s.reg (hraceKey 0x844 (e / 16) stream), s.reg (hraceKey 0x848 (e / 16) stream), s.reg (hraceKey 0x84C (e / 16) stream), none, false,
    found, 0, s.kept.raw⟩

section
variable {s : State} {e stream : Nat} (seq : W16)

theorem lookup_missing (h : s.hraceFinds e stream = false) :
    s.lookup e seq stream = (s.noMap (e / 16), s.mapAnswer e seq stream false) := by
  unfold State.lookup
  dsimp only
  rw [h, if_pos rfl]
  rfl

theorem lookup_ring (h : s.hraceFinds e stream = true) (hw : bit (s.reg (hraceKey 0x844 (e / 16) stream)) 30 = false) :
    s.lookup e seq stream = (s, s.mapAnswer e seq stream true) := by
  unfold State.lookup
  dsimp only
  rw [h, if_neg (by decide), if_pos hw]
  rfl

/-- A frame bound for an armed window that is not full. -/
theorem lookup_window {a : W32} {d tw : Nat} (h : s.hraceFinds e stream = true) (ha : a = s.reg (hraceKey 0x844 (e / 16) stream))
    (hw : bit a 30 = true) (hc : bitsOf a 17 15 < 6) (hd : d = 6 * (e / 16) + bitsOf a 17 15)
    (hf : s.findWindow d (bitsOf a 11 0) = some tw) (hn : (s.windowAt d tw).full = false) :
    s.lookup e seq stream = (s, { s.mapAnswer e seq stream true with win := some tw, gen := (s.windowAt d tw).gen }) := by
  subst ha hd
  unfold State.lookup
  dsimp only
  rw [h, if_neg (by decide), if_neg (by rw [hw]; decide), if_pos hc, hf]
  dsimp only
  rw [if_neg (by rw [hn]; decide)]
  rfl

end

/-! ## Delivery (R235 to R238) -/

theorem deliver_unfound (s : State) (e : Nat) {x : Landing} (replayed : Bool) (seqField : Nat) (pay : Bytes) (h : x.found = false) :
    s.deliver e x replayed seqField pay = s := if_pos h

theorem deliver_ring (s : State) (e : Nat) {x : Landing} (replayed : Bool) (seqField : Nat) (pay : Bytes) (h : x.found = true)
    (hw : x.win = none) : s.deliver e x replayed seqField pay
      = (s.toRing (e / 16) x (statusWord replayed seqField x.stream pay.length) pay).queueEvent e x := by
  unfold State.deliver
  dsimp only
  rw [if_neg (by rw [h]; decide), hw]

theorem padTo_length (k n : Nat) : (padTo k n).length = (k - n % k) % k := List.length_replicate

theorem ringWrite_hraceAt (s : State) (who : Req) (base size pos : Nat) (bs : Bytes) : (s.ringWrite who base size pos bs).hraceAt = s.hraceAt :=
  (State.ringWrite_frame ..).same .hraceAt rfl

theorem toRing_position (s : State) (q : Nat) (x : Landing) (st : Nat) (pay : Bytes) :
    tabGet (fun _ => 0) (s.toRing q x st pay).hraceAt (1024 * q + x.stream)
      = (tabGet (fun _ => 0) s.hraceAt (1024 * q + x.stream) + (bytesLE 8 st ++ pay ++ padTo 64 (8 + pay.length)).length)
        % (mapRing q x.mapB).2 := by
  have hl : (bytesLE 8 st ++ pay).length = 8 + pay.length := by simp
  unfold State.toRing
  dsimp only
  rw [tabGet_set_self, hl]

/-! ## A frame of the group stream (R229) -/

/-- The link a frame's line errors leave. -/
theorem link_lineErrors (s : State) (l : Nat) (f : FrameIn) (e : Nat) : (s.lineErrors l f).link e = s.link e :=
  link_congr ((State.lineErrors_frame ..).links rfl) e

section
variable {l : Lane} {f : FrameIn} {s : State} {e : Nat} (he : e = (s.linkOf l).1)
include he

/-- A good frame in sequence is accepted. -/
theorem exec_frameReceive_good (hr : s.streamRuns l = true) (ho : s.hraceOn (l / 16) = true) (hg : frameGood f = true)
    (hs : f.seq = (s.link e).rxSeq) : exec (.frameReceive l f) s = .next ((s.lineErrors l f).acceptFrame e f) := by
  subst he
  refine next_congr ((if_neg (by rw [hr, ho]; decide)).trans (if_pos ⟨hg, hs⟩))

theorem exec_frameReceive_other (hr : s.streamRuns l = true) (ho : s.hraceOn (l / 16) = true)
    (hb : frameGood f = false ∨ f.seq ≠ (s.link e).rxSeq) : exec (.frameReceive l f) s
      = .next (if 0 ≤ (f.seq - (s.link e).rxSeq).toInt then
          ((s.lineErrors l f).setLink e { s.link e with
            seen := if (s.link e).seen.contains f.seq then (s.link e).seen else (s.link e).seen ++ [f.seq] }).sendNak e
        else (s.lineErrors l f).sendNak e) := by
  subst he
  refine next_congr ((if_neg (by rw [hr, ho]; decide)).trans ((if_neg fun h => ?_).trans ?_))
  · rcases hb with hb | hb
    · exact absurd (hb.symm.trans h.1) (by decide)
    · exact hb h.2
  · unfold State.modLink
    rw [link_lineErrors]

end

section
variable {s : State} {e : Nat} {f : FrameIn} {k : LinkSt} {u : State} (hk : k = s.link e)
  (hu : u = s.setLink e { k with rxSeq := k.rxSeq + 1, seen := k.seen.filter (fun n => decide (n ≠ f.seq)), landing := none })
include hk hu

theorem acceptFrame_looked {x : Landing} (hl : k.landing = some x) :
    s.acceptFrame e f = u.deliver e x (k.seen.contains f.seq) f.seq.toNat (f.payload.take f.len.toNat) := by
  subst hk hu
  unfold State.acceptFrame
  dsimp only
  rw [hl]

theorem acceptFrame_new (hl : k.landing = none) : s.acceptFrame e f = (u.lookup e f.seq f.stream.toNat).1.deliver e
    (u.lookup e f.seq f.stream.toNat).2 (k.seen.contains f.seq) f.seq.toNat (f.payload.take f.len.toNat) := by
  subst hk hu
  unfold State.acceptFrame
  dsimp only
  rw [hl]

end

/-- The map and its groups are registers. -/
theorem hraceFinds_setLink (s : State) (e k : Nat) (x : LinkSt) (stream : Nat) : (s.setLink k x).hraceFinds e stream = s.hraceFinds e stream := rfl

theorem mapAnswer_setLink (s : State) (e k : Nat) (x : LinkSt) (seq : W16) (stream : Nat) (b : Bool) :
    (s.setLink k x).mapAnswer e seq stream b = s.mapAnswer e seq stream b := rfl

theorem mapAnswer_lineErrors (s : State) (l : Nat) (f : FrameIn) (e : Nat) (seq : W16) (stream : Nat) (b : Bool) :
    (s.lineErrors l f).mapAnswer e seq stream b = { (s.lineErrors l f).mapAnswer e seq stream b with raw := s.kept.raw } := by
  have hk : (s.lineErrors l f).kept = s.kept := (State.lineErrors_frame ..).same .kept rfl
  unfold State.mapAnswer
  rw [hk]

/-! ## A header in sequence (R235, R237) -/

section
variable {l : Lane} {f : FrameIn} {s : State} {e : Nat} (he : e = (s.linkOf l).1) (hr : s.streamRuns l = true) (ho : s.hraceOn (l / 16) = true)
  (hs : f.seq = (s.link e).rxSeq) (hl : (s.link e).landing = none)
include he hr ho hs hl

/-- A header whose frame is bound for no window: the answer of its lookup stands. -/
theorem exec_frameHdrReceive_stands {t : State} {x : Landing} (hx : s.lookup e f.seq f.stream.toNat = (t, x)) (hw : x.win = none) :
    exec (.frameHdrReceive l f) s = .next (t.setLink e { t.link e with landing := some x }) := by
  subst he
  refine next_congr ((if_neg ?_).trans ?_)
  · rw [hr, ho]
    simp [hs]
  · rw [hl]
    dsimp only
    rw [hx]
    dsimp only
    rw [hw]
    rfl

theorem exec_frameHdrReceive_lands {t : State} {x : Landing} {tw : Nat} (hx : s.lookup e f.seq f.stream.toNat = (t, x)) (hw : x.win = some tw)
    {y : State × Bool} (hy : y = t.landBytes (6 * (e / 16) + bitsOf x.mapA 17 15) x.gen tw 8 (f.payload.take f.len.toNat)) :
    exec (.frameHdrReceive l f) s = .next (y.1.modLink e (fun k => { k with landing := some { x with torn := !y.2 } })) := by
  subst he hy
  refine next_congr ((if_neg ?_).trans ?_)
  · rw [hr, ho]
    simp [hs]
  · rw [hl]
    dsimp only
    rw [hx]
    dsimp only
    rw [hw]

end

/-! ## Negative acknowledgement (R227, R229) -/

section
variable {s : State} {e : Nat}

theorem sendNak_quiet {r : W64} (h : (s.link e).nak = some ((s.link e).rxSeq, r)) (hr : s.nsSince r < 8000) : s.sendNak e = s := by
  unfold State.sendNak
  dsimp only
  rw [h]
  simp [hr]

theorem sendNak_due (h : (s.link e).nak = none ∨ ∃ n r, (s.link e).nak = some (n, r) ∧ (n ≠ (s.link e).rxSeq ∨ 8000 ≤ s.nsSince r)) :
    s.sendNak e = if s.txRuns e = false then s.setLink e { s.link e with nakDue := true }
      else (s.setLink e { s.link e with nak := some ((s.link e).rxSeq, s.kept.raw), nakDue := false }).sendStriped e
        [(ackBlock true (s.link e).rxSeq, 0)] := by
  unfold State.sendNak State.modLink
  dsimp only
  rcases h with h | ⟨n, r, h, hn⟩
  · rw [h]
    rfl
  · rw [h]
    dsimp only
    rw [if_neg]
    rcases hn with hn | hn
    · simp [hn]
    · simp [hn]

end

/-! ## Landing writes (R102) -/

section
variable {s : State} {d g tw off : Nat} {bs : Bytes} {w : Window} (hw : w = s.windowAt d tw)
include hw

theorem landBytes_disarmed (h : w.armed = false ∨ w.gen ≠ g) (hb : bs ≠ []) :
    s.landBytes d g tw off bs = (s.raise (pgCLU d) 11, false) := by
  subst hw
  unfold State.landBytes
  dsimp only
  rw [if_pos h, if_neg (by simpa using hb)]

theorem landBytes_armed (ha : w.armed = true) (hg : w.gen = g) : s.landBytes d g tw off bs
    = if (bs.take (w.len - off)).length < bs.length
      then ((s.chipWrite (tileAddr d (tw / 32) (w.base + off)) (plain (bs.take (w.len - off)))).raise (pgCLU d) 11, true)
      else (s.chipWrite (tileAddr d (tw / 32) (w.base + off)) (plain (bs.take (w.len - off))), true) := by
  subst hw hg
  unfold State.landBytes
  dsimp only
  rw [if_neg (by rw [ha]; simp)]

end

/-! ## eCPRI (R234) -/

section
variable {s : State} {e stream : Nat} {seq : W8}

/-- The last number of a stream is the one received. -/
def State.setEthLast (s : State) (e stream : Nat) (seq : W8) : State :=
  { s with ethLast := tabSet (fun _ => none) s.ethLast (1024 * (e / 16) + stream) (some seq) }

/-- A counter on a lane's page does not say whether its quadrant's Headrace runs. -/
theorem hraceOn_inc (s : State) (l o hi lo n : Nat) : (s.inc (pgLANE l + o) hi lo n).hraceOn (l / 16) = s.hraceOn (l / 16) := by
  have hp : (s.inc (pgLANE l + o) hi lo n).power = s.power := (State.inc_frame ..).power rfl
  have hq : (s.inc (pgLANE l + o) hi lo n).quad = s.quad := (State.inc_frame ..).quad rfl
  have hm : (s.inc (pgLANE l + o) hi lo n).reg (pgDEV + 0x040) = s.reg (pgDEV + 0x040) :=
    reg_inc_ne _ _ _ _ (by unfold pgDEV devPg pgLANE quadPg; omega)
  have hf : (s.inc (pgLANE l + o) hi lo n).fencePhase (l / 16) = s.fencePhase (l / 16) := by
    unfold State.fencePhase State.fld
    rw [reg_inc_ne _ _ _ _ (by unfold pgDWEIR devPg pgLANE quadPg; omega)]
  unfold State.hraceOn
  rw [quadDark_congr hf hq, slotState_of_parts hm hp hq]

theorem ethGap_cases (s : State) (e stream : Nat) (seq : W8) : s.ethGap e stream seq = (s.setEthLast e stream seq).inc (pgLANE e + 0x20C) 31 0 1
    ∨ s.ethGap e stream seq = s.setEthLast e stream seq := by
  unfold State.ethGap
  dsimp only
  split
  · split
    · exact .inl rfl
    · exact .inr rfl
  · exact .inr rfl

theorem hraceOn_setEthLast (s : State) (e stream : Nat) (seq : W8) (q : Nat) : (s.setEthLast e stream seq).hraceOn q = s.hraceOn q := by
  unfold State.hraceOn
  rw [quadDark_congr (s := s) (t := s.setEthLast e stream seq) rfl rfl, slotState_of_parts (s := s) (t := s.setEthLast e stream seq) rfl rfl rfl]

theorem hraceOn_ethGap (s : State) (e stream : Nat) (seq : W8) : (s.ethGap e stream seq).hraceOn (e / 16) = s.hraceOn (e / 16) := by
  rcases ethGap_cases s e stream seq with h | h
  · rw [h, hraceOn_inc, hraceOn_setEthLast]
  · rw [h, hraceOn_setEthLast]

theorem ethGap_none (h : tabGet (fun _ => none) s.ethLast (1024 * (e / 16) + stream) = none
    ∨ tabGet (fun _ => none) s.ethLast (1024 * (e / 16) + stream) = some (seq - 1)) : s.ethGap e stream seq = s.setEthLast e stream seq := by
  unfold State.ethGap
  dsimp only
  rcases h with h | h
  · rw [h]
    rfl
  · rw [h]
    dsimp only
    rw [if_neg (by simp)]
    rfl

theorem ethGap_some {y : W8} (h : tabGet (fun _ => none) s.ethLast (1024 * (e / 16) + stream) = some y) (hy : seq ≠ y + 1) :
    s.ethGap e stream seq = (s.setEthLast e stream seq).inc (pgLANE e + 0x20C) 31 0 1 := by
  unfold State.ethGap
  dsimp only
  rw [h]
  dsimp only
  rw [if_pos (by simpa using hy)]
  rfl

end

section
variable {l : Lane} {f : EcpriIn} {s : State} {e : Nat} (he : e = (s.linkOf l).1) (hp : s.portUpAt e = true)
include he hp

theorem exec_ecpriReceive_bad (h : s.ecpriOk e f = false) : exec (.ecpriReceive l f) s = .next (s.inc (pgLANE e + 0x208) 31 0 1) := by
  subst he
  exact next_congr ((if_neg (by rw [hp]; decide)).trans (if_pos h))

theorem exec_ecpriReceive_ptp (h : s.ecpriOk e f = true) (hm : f.msg = 5) :
    exec (.ecpriReceive l f) s = .next ((s.inc (pgLANE e + 0x204) 31 0 1).ptpDeliver e f.raw true) := by
  subst he
  exact next_congr ((if_neg (by rw [hp]; decide)).trans ((if_neg (by rw [h]; decide)).trans (if_pos hm)))

theorem exec_ecpriReceive_stream (h : s.ecpriOk e f = true) (hm : f.msg ≠ 5) {v : State}
    (hv : v = (s.inc (pgLANE e + 0x204) 31 0 1).ethGap e (bitsOf f.id 9 0) f.seq) (ho : v.hraceOn (e / 16) = true) :
    exec (.ecpriReceive l f) s
      = .next ((v.lookup e 0 (bitsOf f.id 9 0)).1.deliver e (v.lookup e 0 (bitsOf f.id 9 0)).2 false f.seq.toNat f.payload) := by
  subst he
  have hs : s.hraceOn ((s.linkOf l).1 / 16) = true := by
    rw [← ho, hv, hraceOn_ethGap, hraceOn_inc]
  subst hv
  exact next_congr ((if_neg (by rw [hp]; decide)).trans ((if_neg (by rw [h]; decide)).trans ((if_neg hm).trans
    (if_neg (by rw [hs]; decide)))))

end

/-! ## Events of delivered frames (R239) -/

theorem exec_frameDeliveredEvent {l : Lane} {stream : W10} {s : State} {e v w : Nat} {ws : List Nat} (he : e = (s.linkOf l).1)
    (hv : v = bitsOf (s.reg (hraceKey 0x84C (e / 16) stream.toNat)) 7 0) (hws : tabGet (fun _ => []) s.events e = ws)
    (h : (ws.contains v = true ∧ w = v) ∨ (ws.contains v = false ∧ ws.head? = some w)) : exec (.frameDeliveredEvent l stream) s
      = .next (({ s with events := tabSet (fun _ => []) s.events e (ws.erase w) } : State).evtAdd w 1).settle := by
  subst he hv
  show execFrameDeliveredEvent l stream s = _
  unfold execFrameDeliveredEvent
  dsimp only
  rw [hws]
  cases ws with
  | nil => simp at h
  | cons x rest =>
    dsimp only
    rcases h with ⟨hc, rfl⟩ | ⟨hc, hx⟩
    · rw [if_pos hc]
    · rw [if_neg (by rw [hc]; decide), Option.some.inj hx]

/-- Settles O45: each frame by the branch its number, its check and the lookup of its header take. -/
theorem headraceAndEcpri : Obligations.HeadraceAndEcpri := by
  unfold Obligations.HeadraceAndEcpri
  refine ⟨?unmapped, ?ring, ?looked, ?toRing, ?other, ?nak, ?hdrRing, ?hdrUnmapped, ?hdrWindow, ?land, ?event, ?ecpri, ?gap, ?unknown⟩
  case unmapped =>
    rintro l f s u e k he rfl hr ho hg hs hl hf rfl
    rw [exec_frameReceive_good he hr ho hg hs, acceptFrame_new (link_lineErrors s l f e).symm rfl hl,
      lookup_missing f.seq ((hraceFinds_setLink ..).trans hf)]
    exact next_congr (deliver_unfound _ e _ _ _ rfl)
  case ring =>
    rintro l f s u e k x he rfl hr ho hg hs hl hf rfl hw rfl
    have hx := mapAnswer_lineErrors s l f e f.seq f.stream.toNat true
    rw [exec_frameReceive_good he hr ho hg hs, acceptFrame_new (link_lineErrors s l f e).symm rfl hl,
      lookup_ring f.seq ((hraceFinds_setLink ..).trans hf) hw, mapAnswer_setLink, hx]
    exact next_congr (deliver_ring _ e _ _ _ rfl rfl)
  case looked =>
    rintro l f s u e k x he rfl hr ho hg hs hl rfl
    rw [exec_frameReceive_good he hr ho hg hs, acceptFrame_looked (link_lineErrors s l f e).symm rfl hl]
    exact ⟨fun h => next_congr (deliver_unfound _ e _ _ _ h), fun _ => rfl⟩
  case toRing =>
    rintro q x st pay s t r all rfl rfl rfl
    have hfr := State.toRing_frame s q x st pay
    refine ⟨toRing_position s q x st pay, ?_, hfr.links rfl, hfr.lanes rfl, hfr.tiles rfl⟩
    simp only [List.length_append, bytesLE_length, padTo_length]
    omega
  case other =>
    rintro l f s u e k he rfl hr ho rfl hb
    rw [exec_frameReceive_other he hr ho hb]
    exact ⟨fun h => next_congr (if_pos h), fun h => next_congr (if_neg (by omega))⟩
  case nak =>
    rintro s e k rfl
    refine ⟨fun h => ⟨fun ht => ?_, fun ht => ?_⟩, fun r h => sendNak_quiet h⟩
    · rw [sendNak_due h, if_neg (by rw [ht]; decide)]
      rfl
    · rw [sendNak_due h, if_pos ht]
  case hdrRing =>
    rintro l f s e k he rfl hr ho hs hl hf hw
    exact exec_frameHdrReceive_stands he hr ho hs hl (lookup_ring f.seq hf hw) rfl
  case hdrUnmapped =>
    rintro l f s u e he hr ho hs hl hf rfl
    exact exec_frameHdrReceive_stands he hr ho hs hl (lookup_missing f.seq hf) rfl
  case hdrWindow =>
    rintro l f s e d tw k x t he rfl hr ho hs hl hf hd rfl hw hc hfind hn rfl
    exact exec_frameHdrReceive_lands he hr ho hs hl (lookup_window f.seq hf rfl hw hc hd hfind hn) rfl
      (congrArg (fun i => s.landBytes i (s.windowAt d tw).gen tw 8 (f.payload.take f.len.toNat)) hd)
  case land =>
    rintro d g tw off bs s w hw
    refine ⟨fun ha hg hin => ?_, fun ha hg hoff hout => ?_, fun h hb => landBytes_disarmed hw h hb⟩
    · rw [landBytes_armed hw ha hg, List.take_of_length_le (by omega), if_neg (lt_irrefl _)]
    · rw [landBytes_armed hw ha hg, if_pos (by rw [List.length_take]; omega)]
  case event =>
    intro l stream s e v w ws he hv hws h
    exact exec_frameDeliveredEvent he hv hws h
  case ecpri =>
    rintro l f s u v e he hp rfl hv
    refine ⟨exec_ecpriReceive_bad he hp, exec_ecpriReceive_ptp he hp, fun h hm ho hf => ?_, fun h hm ho _ => ?_⟩
    · rw [exec_ecpriReceive_stream he hp h hm hv ho, lookup_missing 0 hf]
      exact next_congr (deliver_unfound _ e _ _ _ rfl)
    · exact exec_ecpriReceive_stream he hp h hm hv ho
  case gap =>
    rintro e stream seq s w rfl
    exact ⟨ethGap_none, fun y h hy => ethGap_some h hy⟩
  case unknown =>
    intro l type s ho hr h3 h5
    exact ⟨fun h => next_congr (if_pos ⟨ho, hr, h3, h5, h⟩), fun h => next_congr (if_neg fun hc => absurd (h.symm.trans hc.2.2.2.2) (by decide))⟩

end Sys2Proof.Machine
end

section
/-! PROOF: links, commas, masks, acknowledgement and replay (R194, R218 to R230). -/

namespace Sys2Proof.Machine

open Sys2Proof

/-! ## Link widths (R218) -/

/-- Each lane belongs to a link of a power of two of lanes that starts at a multiple of its width. -/
theorem linkIn_aligned (v : W32) (i : Nat) :
    ∃ w, (linkIn v i).2 = w ∧ (w = 1 ∨ w = 2 ∨ w = 4 ∨ w = 8) ∧ (linkIn v i).1 = i / w * w := by
  unfold linkIn
  split
  · exact ⟨8, rfl, by decide, rfl⟩
  · split
    · exact ⟨4, rfl, by decide, rfl⟩
    · split
      · exact ⟨2, rfl, by decide, rfl⟩
      · exact ⟨1, rfl, by decide, by simp⟩

/-! ### The replay stores and the masks of links that send nothing -/

/-- Each link keeps its replay store, and one that has no lane to send on gets none. -/
def SameStores (s t : State) : Prop := ∀ e, (t.link e).store = (s.link e).store ∧ ((s.link e).tx = 0 → (t.link e).tx = 0)

section
variable {s t u : State}

theorem SameStores.of_links (h : t.links = s.links) : SameStores s t := fun e => by rw [link_congr h]; exact ⟨rfl, id⟩

theorem SameStores.refl (s : State) : SameStores s s := .of_links rfl

theorem SameStores.trans (h : SameStores s t) (k : SameStores t u) : SameStores s u := fun e =>
  ⟨(k e).1.trans (h e).1, fun h0 => (k e).2 ((h e).2 h0)⟩

theorem SameStores.ite {a b : State} {c : Prop} [Decidable c] (ha : SameStores s a) (hb : SameStores s b) : SameStores s (if c then a else b) := by
  split <;> assumption

theorem SameStores.foldl {α : Type} {l : List α} {f : State → α → State} (hf : ∀ t a, SameStores t (f t a)) (h : SameStores s t) :
    SameStores s (l.foldl f t) := by
  induction l generalizing t with
  | nil => exact h
  | cons a l ih => exact ih (h.trans (hf t a))

theorem SameStores.setLink (s : State) (e : Nat) {x : LinkSt} (hs : x.store = (s.link e).store) (ht : (s.link e).tx = 0 → x.tx = 0) :
    SameStores s (s.setLink e x) := fun k => by
  rw [link_setLink]
  by_cases hk : k = e
  · subst hk
    rw [if_pos rfl]
    exact ⟨hs, ht⟩
  · rw [if_neg hk]
    exact ⟨rfl, id⟩

end

theorem linkStops_stores (s : State) (e : Nat) : SameStores s (s.linkStops e) := .setLink s e rfl fun _ => rfl

theorem showLink_stores (s : State) (e : Nat) : SameStores s (s.showLink e) := .of_links ((State.showLink_frame s e).links rfl)

theorem showMembers_stores (s : State) (e : Nat) : SameStores s (s.showMembers e) := .of_links ((State.showMembers_frame s e).links rfl)

theorem sendLstate_stores (s : State) (e : Nat) : SameStores s (s.sendLstate e) := .of_links ((State.sendLstate_frame s e).links rfl)

theorem excludeLanes_stores (s : State) (e : Nat) : SameStores s (s.excludeLanes e) := .of_links ((State.excludeLanes_frame s e).links rfl)

theorem noGroup_stores (s : State) (e : Nat) : SameStores s (s.noGroup e) := by
  unfold State.noGroup
  refine .ite (showLink_stores s e) (.trans (.trans (.trans ?_ (linkStops_stores _ e)) (showMembers_stores _ e)) (showLink_stores _ e))
  exact .setLink s e rfl id

theorem regroup_stores (s : State) (e : Nat) : SameStores s (s.regroup e) := by
  unfold State.regroup
  refine .ite (noGroup_stores s e) ?_
  dsimp only
  refine .ite ((excludeLanes_stores s e).trans (showLink_stores _ e)) (.trans ?_ (showLink_stores _ e))
  have hstop (u : State) (c : Prop) [Decidable c] : SameStores u (if c then u.linkStops e else u) := .ite (linkStops_stores u e) (.refl u)
  have hback (u : State) (c : Prop) [Decidable c] : SameStores u (if c then u.raise (pgBLNK (e / 16)) 4 else u) :=
    .ite (.of_links ((State.raise_frame ..).links rfl)) (.refl u)
  refine .trans (.trans (.trans (.trans ?_ (hback _ _)) (showMembers_stores _ e)) (sendLstate_stores _ e)) (hstop _ _)
  exact (excludeLanes_stores s e).trans (.trans (.of_links rfl) (.setLink _ e rfl id))

theorem portRate_stores (s : State) (e : Nat) : SameStores s (s.portRate e) := .of_links ((State.portRate_frame s e).links rfl)

theorem portCheck_stores (s : State) (e : Nat) : SameStores s (s.portCheck e) := .of_links ((State.portCheck_frame s e).links rfl)

/-! ### The partners of lanes -/

/-- Each lane holds the partner it held. -/
def SamePartners (s t : State) : Prop := ∀ l, (t.lane l).partner = (s.lane l).partner

section
variable {s t u : State}

theorem SamePartners.of_lanes (h : t.lanes = s.lanes) : SamePartners s t := fun l => by rw [lane_congr h]

theorem SamePartners.refl (s : State) : SamePartners s s := fun _ => rfl

theorem SamePartners.trans (h : SamePartners s t) (k : SamePartners t u) : SamePartners s u := fun l => (k l).trans (h l)

theorem SamePartners.ite {a b : State} {c : Prop} [Decidable c] (ha : SamePartners s a) (hb : SamePartners s b) :
    SamePartners s (if c then a else b) := by split <;> assumption

theorem SamePartners.foldl {α : Type} {l : List α} {f : State → α → State} (hf : ∀ t a, SamePartners t (f t a)) (h : SamePartners s t) :
    SamePartners s (l.foldl f t) := by
  induction l generalizing t with
  | nil => exact h
  | cons a l ih => exact ih (h.trans (hf t a))

theorem SamePartners.modLane (h : SamePartners s t) (l : Nat) {f : LaneSt → LaneSt} (hf : ∀ x, (f x).partner = x.partner) :
    SamePartners s (t.modLane l f) := fun k => by
  rw [lane_modLane]
  by_cases hk : k = l
  · subst hk
    rw [if_pos rfl, hf, h]
  · rw [if_neg hk, h]

theorem SamePartners.setReg (h : SamePartners s t) (k : Nat) (v : W32) : SamePartners s (t.setReg k v) := h.trans (.of_lanes rfl)

theorem SamePartners.put (h : SamePartners s t) (k hi lo v : Nat) : SamePartners s (t.put k hi lo v) := h.setReg _ _

theorem SamePartners.irqBit (h : SamePartners s t) (k n : Nat) : SamePartners s (t.irqBit k n) := h.trans (.of_lanes ((State.irqBit_frame ..).lanes rfl))

theorem SamePartners.raise (h : SamePartners s t) (k n : Nat) : SamePartners s (t.raise k n) := h.trans (.of_lanes ((State.raise_frame ..).lanes rfl))

theorem SamePartners.showLink (h : SamePartners s t) (e : Nat) : SamePartners s (t.showLink e) :=
  h.trans (.of_lanes ((State.showLink_frame ..).lanes rfl))

end

theorem eyeEnd_partners (s : State) (l : Nat) (ok : Bool) : SamePartners s (s.eyeEnd l ok) := by
  unfold State.eyeEnd
  split
  · exact .refl s
  · refine .irqBit (.put (.put (.modLane (.refl s) l ?_) _ _ _ _) _ _ _ _) _ _
    exact fun _ => rfl

theorem setLaneState_partners (s : State) (l st : Nat) : SamePartners s (s.setLaneState l st) := by
  unfold State.setLaneState
  exact .put (.ite (eyeEnd_partners s l false) (.refl s)) _ _ _ _

theorem applyEq_partners (s : State) (l : Nat) : SamePartners s (s.applyEq l) := by
  unfold State.applyEq
  dsimp only
  refine .ite (.raise (.modLane (.refl s) l ?_) _ _) (.modLane (.refl s) l ?_)
  all_goals exact fun _ => rfl

theorem portDown_partners (s : State) (e : Nat) : SamePartners s (s.portDown e) := by
  have hwait (t : State) (l : Nat) : SamePartners t
      (if t.laneState l = 7 then ((t.setLaneState l 6).put (pgLANE l + 0x044) 25 25 0).applyEq l else t) :=
    .ite (((setLaneState_partners t l 6).put _ _ _ _).trans (applyEq_partners _ l)) (.refl t)
  unfold State.portDown
  refine .showLink (.modLane (.put (.foldl hwait (.refl s)) _ _ _ _) e ?_) e
  exact fun _ => rfl

theorem laneDeparts_alone {s : State} {l : Nat} (h : (s.lane l).partner = none) : s.laneDeparts l = s := by
  unfold State.laneDeparts
  dsimp only
  rw [h]

/-! ### A write of BLNK_LINK_CFG -/

/-- The word of a quadrant's link widths. -/
def linkCfgReg (k : Nat) : Prop := ∃ q < 4, k = pgBLNK q + 0x040

theorem linkCfgReg_event {k : Nat} (h : linkCfgReg k) : eventReg k = false := by
  obtain ⟨q, hq, rfl⟩ := h
  interval_cases q <;> rfl

theorem linkCfgReg_stat (e : Nat) : ¬ linkCfgReg (linkStatKey e) := by
  rintro ⟨q, _, h⟩
  unfold linkStatKey pgBLNK quadPg at h
  omega

theorem linkCfgReg_lane (l : Nat) {o : Nat} (ho : o < 0x1000) : ¬ linkCfgReg (pgLANE l + o) := by
  rintro ⟨q, _, h⟩
  exact lane_ne_blnk l q ho (by decide) h

theorem keepCfg_event {s t : State} (h : EventRegs s t) : KeepRegs linkCfgReg s t := (KeepRegs.of_event h).mono fun _ => linkCfgReg_event

theorem keepCfg_put (s : State) (l o hi lo v : Nat) (ho : o < 0x1000) : KeepRegs linkCfgReg s (s.put (pgLANE l + o) hi lo v) :=
  (KeepRegs.refl s).setReg _ (linkCfgReg_lane l ho)

theorem showLink_linkCfg (s : State) (e : Nat) : KeepRegs linkCfgReg s (s.showLink e) :=
  showLink_keeps s e (fun _ => linkCfgReg_event) (linkCfgReg_stat e)

theorem regroup_linkCfg (s : State) (e : Nat) : KeepRegs linkCfgReg s (s.regroup e) :=
  regroup_keeps (fun _ => linkCfgReg_event) linkCfgReg_stat (fun l => linkCfgReg_lane l (by decide)) s e

theorem eyeEnd_linkCfg (s : State) (l : Nat) (ok : Bool) : KeepRegs linkCfgReg s (s.eyeEnd l ok) := by
  unfold State.eyeEnd
  split
  · exact .refl s
  · refine KeepRegs.trans (KeepRegs.trans (KeepRegs.trans (.of_regs ((State.modLane_frame ..).regs rfl)) (keepCfg_put _ l 0x078 31 31 0 (by decide)))
      (keepCfg_put _ l 0x078 30 30 _ (by decide))) (keepCfg_event (irqBit_regs _ 3 (pgLANE_mod l)))

theorem setLaneState_linkCfg (s : State) (l st : Nat) : KeepRegs linkCfgReg s (s.setLaneState l st) := by
  unfold State.setLaneState
  exact KeepRegs.trans (.ite (eyeEnd_linkCfg s l false) (.refl s)) (keepCfg_put _ l 0x044 31 28 st (by decide))

theorem applyEq_linkCfg (s : State) (l : Nat) : KeepRegs linkCfgReg s (s.applyEq l) := by
  have hm (f : LaneSt → LaneSt) : KeepRegs linkCfgReg s (s.modLane l f) := .of_regs ((State.modLane_frame ..).regs rfl)
  unfold State.applyEq
  dsimp only
  exact .ite ((hm _).trans (keepCfg_event (raise_regs _ 5 none (pgLANE_mod l)))) (hm _)

theorem portDown_linkCfg (s : State) (e : Nat) : KeepRegs linkCfgReg s (s.portDown e) := by
  have hwait (t : State) (l : Nat) : KeepRegs linkCfgReg t
      (if t.laneState l = 7 then ((t.setLaneState l 6).put (pgLANE l + 0x044) 25 25 0).applyEq l else t) :=
    .ite ((setLaneState_linkCfg t l 6).trans ((keepCfg_put _ l 0x044 25 25 0 (by decide)).trans (applyEq_linkCfg _ l))) (.refl t)
  have hm (u : State) (f : LaneSt → LaneSt) : KeepRegs linkCfgReg u (u.modLane e f) := .of_regs ((State.modLane_frame ..).regs rfl)
  unfold State.portDown
  exact KeepRegs.trans (KeepRegs.trans (KeepRegs.trans (.foldl (fun t l _ => hwait t l) (.refl s)) (keepCfg_put _ e 0x200 31 31 0 (by decide)))
    (hm _ _)) (showLink_linkCfg _ e)

theorem portRate_linkCfg (s : State) (e : Nat) : KeepRegs linkCfgReg s (s.portRate e) := by
  unfold State.portRate
  refine .ite (.refl s) (.foldl (fun t l _ => .ite ?_ (.refl t)) (.refl s))
  exact (keepCfg_put t l 0x044 22 20 _ (by decide)).trans (keepCfg_put _ l 0x044 24 24 _ (by decide))

theorem portCheck_linkCfg (s : State) (e : Nat) : KeepRegs linkCfgReg s (s.portCheck e) := by
  unfold State.portCheck
  exact .ite (KeepRegs.trans (.ite (portDown_linkCfg s e) (.refl s)) (keepCfg_event (raise_regs _ 3 none (pgBLNK_mod _)))) (.refl s)

/-- The links of a quadrant that a change of its widths moves. -/
def movedLanes (old v : W32) : List Nat := (List.range 16).filter (fun i => decide (linkIn old i ≠ linkIn v i))

theorem mem_movedLanes {old v : W32} {i : Nat} (hi : i < 16) : i ∈ movedLanes old v ↔ linkIn old i ≠ linkIn v i := by
  simp [movedLanes, hi]

/-- The lanes that leave their links, under the widths as they were. -/
def State.leaveLinks (s : State) (q : Nat) (old : W32) (ls : List Nat) : State :=
  ls.foldl (fun u i =>
    let w := u.setReg (pgBLNK q + 0x040) old
    if w.laneState (16 * q + i) = 7 then w.portDown (w.linkOf (16 * q + i)).1 else w.laneDeparts (16 * q + i)) s

/-- Lanes without a partner leave their links with nothing of a link's own changed. -/
theorem leaveLinks_links {q : Nat} (old : W32) {ls : List Nat} {s : State} (h : ∀ i ∈ ls, (s.lane (16 * q + i)).partner = none) :
    (s.leaveLinks q old ls).links = s.links := by
  induction ls generalizing s with
  | nil => rfl
  | cons i ls ih =>
    obtain ⟨w, hw⟩ : ∃ w, w = s.setReg (pgBLNK q + 0x040) old := ⟨_, rfl⟩
    have hwp : SamePartners s w := hw ▸ (SamePartners.refl s).setReg _ _
    have hwl : w.links = s.links := hw ▸ (State.setReg_frame ..).links rfl
    have hstep : (if w.laneState (16 * q + i) = 7 then w.portDown (w.linkOf (16 * q + i)).1 else w.laneDeparts (16 * q + i)).links = s.links
        ∧ SamePartners s (if w.laneState (16 * q + i) = 7 then w.portDown (w.linkOf (16 * q + i)).1 else w.laneDeparts (16 * q + i)) := by
      split
      · exact ⟨((State.portDown_frame ..).links rfl).trans hwl, hwp.trans (portDown_partners w _)⟩
      · rw [laneDeparts_alone ((hwp _).trans (h i List.mem_cons_self))]
        exact ⟨hwl, hwp⟩
    unfold State.leaveLinks
    rw [List.foldl_cons]
    dsimp only
    rw [← hw]
    exact (ih fun j hj => (hstep.2 _).trans (h j (List.mem_cons_of_mem i hj))).trans hstep.1

/-- The links that moved start afresh. -/
def State.freshLinks (s : State) (q : Nat) (ls : List Nat) : State := ls.foldl (fun u i => u.setLink (16 * q + i) {}) s

theorem link_setReg (s : State) (k : Nat) (v : W32) (e : Nat) : (s.setReg k v).link e = s.link e := rfl

theorem freshLinks_regs (s : State) (q : Nat) (ls : List Nat) : (s.freshLinks q ls).regs = s.regs := by
  unfold State.freshLinks
  induction ls generalizing s with
  | nil => rfl
  | cons i ls ih => exact ih _

theorem freshLinks_link (s : State) (q i : Nat) (ls : List Nat) :
    (s.freshLinks q ls).link (16 * q + i) = if i ∈ ls then {} else s.link (16 * q + i) := by
  unfold State.freshLinks
  induction ls generalizing s with
  | nil => simp
  | cons j ls ih =>
    rw [List.foldl_cons, ih, link_setLink]
    by_cases hj : i = j
    · simp [hj]
    · simp [hj]

/-- Every link of a quadrant shows its new state. -/
def State.showLinks (s : State) (ls : List Nat) : State :=
  ls.foldl (fun u e => if u.isLink e then ((u.regroup e).portRate e).portCheck e else u.showLink e) s

theorem showLinks_stores (s : State) (ls : List Nat) : SameStores s (s.showLinks ls) :=
  .foldl (fun t e => .ite ((regroup_stores t e).trans ((portRate_stores _ e).trans (portCheck_stores _ e))) (showLink_stores t e)) (.refl s)

theorem showLinks_linkCfg (s : State) (ls : List Nat) : KeepRegs linkCfgReg s (s.showLinks ls) :=
  .foldl (fun t e _ => .ite ((regroup_linkCfg t e).trans ((portRate_linkCfg _ e).trans (portCheck_linkCfg _ e))) (showLink_linkCfg t e)) (.refl s)

/-- The word a change of widths leaves, with its lanes moved. -/
def State.rewidened (s : State) (q : Nat) (old v : W32) : State :=
  ((s.leaveLinks q old (movedLanes old v)).setReg (pgBLNK q + 0x040) v).freshLinks q (movedLanes old v)

theorem rewidened_reg (s : State) (q : Nat) (old v : W32) : (s.rewidened q old v).reg (pgBLNK q + 0x040) = v :=
  (reg_of_regs (freshLinks_regs ..) _).trans (reg_setReg_self ..)

theorem rewidened_link {s : State} {q : Nat} {old v : W32} (h : ∀ i < 16, (s.lane (16 * q + i)).partner = none) {i : Nat} (hi : i < 16) :
    (s.rewidened q old v).link (16 * q + i) = if linkIn old i ≠ linkIn v i then {} else s.link (16 * q + i) := by
  have hl := leaveLinks_links (q := q) old (ls := movedLanes old v) (s := s) fun j hj =>
    h j (List.mem_range.mp (List.mem_of_mem_filter hj))
  unfold State.rewidened
  rw [freshLinks_link, if_congr (mem_movedLanes hi) rfl rfl]
  split
  · rfl
  · rw [link_setReg]
    exact link_congr hl _

/-- BLNK_LINK_CFG of a quadrant is one register. -/
theorem reg_linkCfg (i q : Nat) : (⟨.blnk, i, 0, q⟩ : Page).reg 0x040
    = some (reg 0x040 ((List.range 16).map (fun l => qua (2 * l + 1) (2 * l)))) := by
  have hh : (headerRegs ⟨.blnk, i, 0, q⟩).find? (fun r => r.at 0 0x040) = none := by
    simp [headerRegs, List.find?, RegDesc.at, reg]
  have hb : (blockRegs .blnk i).find? (fun r => r.at 0 0x040)
    = some (reg 0x040 ((List.range 16).map (fun l => qua (2 * l + 1) (2 * l)))) := rfl
  unfold Page.reg Page.regs
  rw [if_pos rfl, if_neg (fun h => Block.noConfusion h.1), List.find?_append, hh, hb]
  rfl

theorem regKey_linkCfg (s : State) {q : Nat} (hq : q < 4) {p : Page} {d : RegDesc} (h : regAt (pgBLNK q + 0x040) = some (p, d)) :
    s.regKey (pgBLNK q + 0x040) d = pgBLNK q + 0x040 := by
  obtain ⟨hp, hd⟩ := regAt_some.1 h
  have hm := pgBLNK_mod q
  rw [pageOf_offset hm (by decide), pageOf_blnk hq] at hp
  rw [show (pgBLNK q + 0x040) % 0x1000 = 0x040 by omega, ← Option.some.inj hp] at hd
  have he := Option.some.inj ((reg_linkCfg q q).symm.trans hd)
  exact regKey_plain s (by rw [← he]; rfl) (by omega)

/-- A write of widths that R218 allows, of a word whose bits are all open: its lanes move, and every link shows its state. -/
theorem writeLinkCfg_open {s : State} {q : Nat} (hq : q < 4) {p : Page} {d : RegDesc} {v : W32} (hr : regAt (pgBLNK q + 0x040) = some (p, d))
    (hc : linkCfgOk v = true) (ho : s.scopesOpen p 0x040 d (s.reg (pgBLNK q + 0x040)) v = true)
    (hn : d.newWord (s.reg (pgBLNK q + 0x040)) v = v) (hv : v ≠ s.reg (pgBLNK q + 0x040)) {w : State}
    (hw : w = (s.setReg (pgBLNK q + 0x040) v).rewidened q (s.reg (pgBLNK q + 0x040)) v) :
    ∃ c : Bool, s.writeLinkCfg q v = (if c then w.raise (pgBLNK q) 0 else w).showLinks ((List.range 16).map (fun i => 16 * q + i)) := by
  have hm := pgBLNK_mod q
  have hcfg : ¬ (s.setReg (pgBLNK q + 0x040) v).linkCfg q = s.reg (pgBLNK q + 0x040) := fun h => hv ((reg_setReg_self ..).symm.trans h)
  subst hw
  unfold State.writeLinkCfg
  dsimp only
  rw [if_neg (by rw [hc]; decide), scoped_open hr (regKey_linkCfg s hq hr) (by rw [show (pgBLNK q + 0x040) % 0x1000 = 0x040 by omega]; exact ho),
    hn, if_neg hcfg]
  exact ⟨_, rfl⟩

/-- What a write of widths leaves, the lanes of the quadrant alone. -/
theorem writeLinkCfg_leaves {s : State} {q : Nat} (hq : q < 4) {v : W32} {w : State}
    (hw : w = (s.setReg (pgBLNK q + 0x040) v).rewidened q (s.reg (pgBLNK q + 0x040)) v) (c : Bool)
    (hp : ∀ i < 16, (s.lane (16 * q + i)).partner = none) {t : State}
    (ht : t = (if c then w.raise (pgBLNK q) 0 else w).showLinks ((List.range 16).map (fun i => 16 * q + i))) :
    t.reg (pgBLNK q + 0x040) = v ∧ ∀ i < 16,
      (linkIn (s.reg (pgBLNK q + 0x040)) i = linkIn v i → (t.link (16 * q + i)).store = (s.link (16 * q + i)).store)
      ∧ (linkIn (s.reg (pgBLNK q + 0x040)) i ≠ linkIn v i → (t.link (16 * q + i)).store = [] ∧ (t.link (16 * q + i)).tx = 0) := by
  have hregs : KeepRegs linkCfgReg w t := ht ▸ KeepRegs.trans (.ite (keepCfg_event (raise_regs w 0 none (pgBLNK_mod q))) (.refl w)) (showLinks_linkCfg _ _)
  have hstores : SameStores w t := ht ▸ SameStores.trans (.ite (.of_links ((State.raise_frame ..).links rfl)) (.refl w)) (showLinks_stores _ _)
  have hp' : ∀ i < 16, ((s.setReg (pgBLNK q + 0x040) v).lane (16 * q + i)).partner = none :=
    fun i hi => (((SamePartners.refl s).setReg _ _) _).trans (hp i hi)
  refine ⟨(hregs _ ⟨q, hq, rfl⟩).trans (hw ▸ rewidened_reg ..), fun i hi => ?_⟩
  obtain ⟨hst, htx⟩ := hstores (16 * q + i)
  have hl := rewidened_link (old := s.reg (pgBLNK q + 0x040)) (v := v) hp' hi
  rw [← hw, link_setReg] at hl
  refine ⟨fun h => ?_, fun h => ?_⟩
  · rw [if_neg (not_not.mpr h)] at hl
    rw [hst, hl]
  · rw [if_pos h] at hl
    exact ⟨by rw [hst, hl], htx (by rw [hl])⟩

end Sys2Proof.Machine
end

section
/-! PROOF: commas, masks, acknowledgement, replay and departures (R194, R220, R224, R227 to R230). -/

namespace Sys2Proof.Machine

open Sys2Proof

/-! ## Commas (R194, R220, R242) -/

section
variable (s : State) (l : Nat)

theorem out_modLane (f : LaneSt → LaneSt) : (s.modLane l f).out = s.out := rfl

/-- One comma on a lane: nothing of the scrambler is in it. -/
theorem sendCommas_one : s.sendCommas [l] = (s.sendBlocks [(l, commaBlock, 0)]).modLane l (fun x => { x with blocks := 0 }) := rfl

theorem sendBlocks_one (b : LineWord) : s.sendBlocks [(l, b, 0)]
    = if s.txOpen l then ((s.modLane l (fun x => { x with blocks := x.blocks + 1 })).drawn 16).emit
        (.blocks [⟨l, b.hdr, b.pay, (b.onLine ((Config.freeWord (s.free + l % 16)).setWidth 58)).1 ^^^ 0⟩])
      else (s.modLane l (fun x => { x with blocks := x.blocks + 1 })).drawn 16 := by
  unfold State.sendBlocks
  by_cases h : s.txOpen l = true
  · simp [h, tabGet]
  · simp [h]

theorem commaBlock_onLine (h : BitVec 58) : (commaBlock.onLine h).1 = 0xF0E1D2C3B4A59687 := congrArg Prod.fst (if_pos rfl)

theorem sendCommas_open (h : s.txOpen l = true) :
    (s.sendCommas [l]).out = s.out ++ [.blocks [⟨l, 0, 0xF0E1D2C3B4A59687, 0xF0E1D2C3B4A59687⟩]] := by
  rw [sendCommas_one, out_modLane, sendBlocks_one, if_pos h, commaBlock_onLine]
  rfl

theorem sendCommas_closed (h : s.txOpen l = false) : (s.sendCommas [l]).out = s.out := by
  rw [sendCommas_one, out_modLane, sendBlocks_one, if_neg (by rw [h]; decide)]
  rfl

theorem sendCommas_blocks : ((s.sendCommas [l]).lane l).blocks = 0 := by
  rw [sendCommas_one, lane_modLane_self]

end

section
variable {s : State} {l : Lane} {idle : BitVec 14}

theorem exec_commaSend_early (h : s.commasRun l = false ∨ ((s.lane l).blocks + idle.toNat + 1) % 16384 ≠ 0) :
    exec (.commaSend ⟨l, idle⟩) s = .next s := by
  have hd : s.commaDue l idle = false := by
    unfold State.commaDue commaEvery
    rcases h with h | h <;> simp [h]
  exact next_congr (if_pos hd)

theorem exec_commaSend_due (hr : s.commasRun l = true) (hb : ((s.lane l).blocks + idle.toNat + 1) % 16384 = 0) {e : Nat} (he : e = (s.linkOf l).1)
    {ls : List Nat} (hls : ls = if (s.members e).contains l.val then s.members e else [l.val]) {u : State}
    (hu : u = (ls.foldl (fun t i => t.injTick i) s).sendCommas ls) : exec (.commaSend ⟨l, idle⟩) s
      = .next (if (s.members e).contains l.val then
          (u.setLink e { u.link e with comma := (u.link e).comma + 1, striped := 0 }).sendLstate e else u) := by
  have hd : s.commaDue l idle = true := by
    unfold State.commaDue commaEvery
    simp [hr, hb]
  subst he hls hu
  exact next_congr (if_neg (by rw [hd]; decide))

end

/-! ## Masks (R227, R228) -/

section
variable {s : State} {e : Nat} {k : LinkSt} (hk : k = s.link e)
include hk

theorem rxApply_none (h : k.rxAt = none) : s.rxApply e = s := by
  subst hk
  unfold State.rxApply
  dsimp only
  rw [h]

theorem rxApply_some {a : W8} (h : k.rxAt = some a) :
    s.rxApply e = if commaPast k.peerComma a then s.setLink e { k with rxAt := none, discard := false } else s := by
  subst hk
  unfold State.rxApply
  dsimp only
  rw [h]

theorem txApply_none (h : k.txAt = none) : s.txApply e = s := by
  subst hk
  unfold State.txApply
  dsimp only
  rw [h]

theorem txApply_some {m a : W8} (h : k.txAt = some (m, a)) {u : State}
    (hu : u = ((s.setLink e { k with tx := m, txAt := none }).showLink e).resendFrom e (fun _ => decide (m ≠ 0))) :
    s.txApply e = if commaPast k.comma a then (if k.nakDue then u.sendNak e else u) else s := by
  subst hk hu
  unfold State.txApply
  dsimp only
  rw [h]
  rfl

end

theorem exec_maskApply {l : Lane} {s : State} {e : Nat} (he : e = (s.linkOf l).1) (hm : s.laneMode e = 0) :
    exec (.maskApply l) s = .next ((s.rxApply e).txApply e) := by
  subst he
  exact next_congr (if_neg (by rw [hm]; decide))

theorem commaPast_iff (now at_ : W8) : commaPast now at_ = true ↔ 0 ≤ (now - at_).toInt := decide_eq_true_iff

/-! ## The replay store goes again (R230) -/

theorem injOn_congr {s t : State} (h : t.regs = s.regs) (e : Nat) : t.injOn e = s.injOn e := by
  unfold State.injOn State.factory State.mode
  rw [reg_of_regs h, fld_congr h]

theorem putFrame_regs (s : State) (e : Nat) (f : TxFrame) (b : Bool) : (s.putFrame e f b).regs = s.regs := (State.putFrame_frame ..).regs rfl

/-- A frame on the line moves the link's place in its stripes alone. -/
theorem putFrame_link (s : State) (e : Nat) (f : TxFrame) : ∃ n, (s.putFrame e f false).link e = { s.link e with striped := n } := by
  rw [putFrame_plain]
  unfold State.sendStriped
  dsimp only
  split
  · exact ⟨_, rfl⟩
  · exact ⟨_, (link_congr ((State.sendBlocks_frame ..).links rfl) e).trans (link_modLink_self ..)⟩

/-- Frames on the line, one behind another. -/
def State.putFrames (s : State) (e : Nat) (fs : List TxFrame) : State := fs.foldl (fun u f => u.putFrame e f false) s

theorem putFrames_regs (s : State) (e : Nat) (fs : List TxFrame) : (s.putFrames e fs).regs = s.regs := by
  unfold State.putFrames
  induction fs generalizing s with
  | nil => rfl
  | cons f fs ih => exact (ih _).trans (putFrame_regs ..)

theorem putFrames_link (s : State) (e : Nat) (fs : List TxFrame) : ∃ n, (s.putFrames e fs).link e = { s.link e with striped := n } := by
  unfold State.putFrames
  induction fs generalizing s with
  | nil => exact ⟨_, rfl⟩
  | cons f fs ih =>
    obtain ⟨n, hn⟩ := ih (s.putFrame e f false)
    obtain ⟨m, hm⟩ := putFrame_link s e f
    exact ⟨n, by rw [List.foldl_cons, hn, hm]⟩

/-- With no frame held back and no injection armed each frame goes on the line. -/
theorem sendFrames_plain {s : State} {e : Nat} (fs : List TxFrame) (hh : (s.link e).held = none) (hi : s.injOn e = 0) :
    fs.foldl (fun t f => t.sendFrame e f) s = s.putFrames e fs := by
  unfold State.putFrames
  induction fs generalizing s with
  | nil => rfl
  | cons f fs ih =>
    obtain ⟨n, hn⟩ := putFrame_link s e f
    rw [List.foldl_cons, List.foldl_cons, (sendFrame_free f hh).1 hi]
    exact ih (by rw [hn]; exact hh) ((injOn_congr (putFrame_regs ..) e).trans hi)

/-- The count of frames sent again. -/
def replayReg (e : Nat) : Nat := pgBLNK (e / 16) + 0x0C0 + 4 * (e % 16)

theorem resendFrom_all {s : State} {e : Nat} (hh : (s.link e).held = none) (hi : s.injOn e = 0) : s.resendFrom e (fun _ => true)
    = ((s.putFrames e (s.link e).store).markSent e (fun _ => true)).inc (replayReg e) 31 16 ((s.link e).store.filter (fun f => f.sent)).length := by
  unfold State.resendFrom
  rw [List.filter_true]
  dsimp only
  rw [sendFrames_plain _ hh hi]
  rfl

theorem markSent_store (s : State) (e : Nat) : ((s.markSent e (fun _ => true)).link e).store = (s.link e).store.map (fun f => { f with sent := true }) := by
  unfold State.markSent
  rw [link_modLink_self]
  simp

theorem satAdd_min (w a b : Nat) (h : 0 < 2 ^ w) : satAdd w a b = min (a + b) (2 ^ w - 1) := by
  unfold satAdd
  split <;> omega

theorem fld_inc_min (s : State) (k n : Nat) {hi lo : Nat} (h : hi < 32) :
    (s.inc k hi lo n).fld k hi lo = min (s.fld k hi lo + n) (2 ^ (hi + 1 - lo) - 1) := by
  have hp : 0 < 2 ^ (hi + 1 - lo) := Nat.two_pow_pos _
  rw [fld_inc_self _ _ _ _ h, satAdd_min _ _ _ hp]
  exact Nat.mod_eq_of_lt (by omega)

/-! ## Acknowledgement (R229, R230) -/

section
variable {l : Lane} {s : State} {e : Nat} (he : e = (s.linkOf l).1)
include he

theorem exec_ackReceive (nxt : W16) (h : s.streamRuns l = true) : exec (.ackReceive l nxt) s = .next (s.acked e nxt) := by
  subst he
  exact next_congr (if_pos h)

theorem exec_nakReceive (nxt : W16) (h : s.streamRuns l = true) (ht : (s.acked e nxt).txRuns e = true) :
    exec (.nakReceive l nxt) s = .next ((s.acked e nxt).resendFrom e (fun _ => true)) := by
  subst he
  exact next_congr ((if_neg (by rw [h]; decide)).trans (if_pos ht))

theorem exec_ackSend (h : s.streamRuns l = true) (ht : s.txRuns e = true) :
    exec (.ackSend l) s = .next (s.sendStriped e [(ackBlock false (s.link e).rxSeq, 0)]) := by
  subst he
  exact next_congr (if_pos (by rw [h, ht]; rfl))

theorem exec_ackSend_stopped (ht : s.txRuns e = false) : exec (.ackSend l) s = .next s := by
  subst he
  exact next_congr (if_neg (by rw [ht, Bool.and_false]; decide))

theorem exec_replayTimeout (ht : s.txRuns e = true) (hm : s.laneMode e = 0) :
    exec (.replayTimeout l) s = .next (s.resendFrom e (fun _ => true)) := by
  subst he
  exact next_congr (if_pos ⟨ht, hm⟩)

theorem exec_replayTimeout_stopped (ht : s.txRuns e = false) : exec (.replayTimeout l) s = .next s := by
  subst he
  exact next_congr (if_neg fun h => absurd (ht.symm.trans h.1) (by decide))

end

theorem txRuns_acked (s : State) (e : Nat) (nxt : W16) : (s.acked e nxt).txRuns e = s.txRuns e := by
  unfold State.acked State.showUnacked State.modLink
  rw [Nat.add_assoc]
  refine txRuns_congr ?_ ?_ ?_ ((blnkOn_put ..).trans (blnkOn_congr rfl rfl rfl rfl)) <;> rw [link_put, link_setLink_self]

theorem ackBlock_false (n : W16) : ackBlock false n = ⟨2, BitVec.ofNat 64 (0x4B + 65536 * n.toNat)⟩ := by
  unfold ackBlock ctlBlock
  congr 2
  simp [b2n]
  omega

/-- Settles O44: a change of widths by what each of its stages leaves of a link, the others by the branch the link's masks and numbers take. -/
theorem linksMasksReplay : Obligations.LinksMasksReplay := by
  unfold Obligations.LinksMasksReplay
  refine ⟨?badWidths, ?widths, fun v i _ => linkIn_aligned v i, ?comma,
    fun l s => ⟨sendCommas_open s l, sendCommas_closed s l, sendCommas_blocks s l⟩, ?lstate, ?own, ?partner, ?resend, ?ack, ?nak, ?sends, ?depart⟩
  case badWidths =>
    intro q v s hr hv
    exact next_congr ((access_reaches _ hr).trans (if_pos hv))
  case widths =>
    rintro q v s a p d rfl hreach hr hc ho hn hv hl
    obtain ⟨c, hw⟩ := writeLinkCfg_open q.isLt hr hc ho hn hv rfl
    obtain ⟨t, ht, hfr⟩ := execLinkCfgWrite_frame q v s
    have hx : t = s.writeLinkCfg q v := by
      have h := ht.symm.trans (next_congr (access_reaches _ hreach))
      injection h
    obtain ⟨hreg, hlinks⟩ := writeLinkCfg_leaves q.isLt rfl c (fun i hi => (hl i hi).1) (hx.trans hw)
    exact ⟨t, ht, hreg, fun i hi => (hlinks i hi).1, fun i hi => (hlinks i hi).2, hfr.parts (by decide)⟩
  case comma =>
    intro l idle s u e ls he hls hu
    refine ⟨exec_commaSend_early, fun hr hb => ⟨fun h => ?_, fun h => ?_⟩⟩
    · rw [exec_commaSend_due hr hb he hls hu, if_neg (by rw [h]; decide)]
    · rw [exec_commaSend_due hr hb he hls hu, if_pos h]
  case lstate =>
    rintro l num mask at_ s e rfl ho hs hm
    exact next_congr (if_pos ⟨ho, hs, hm⟩)
  case own =>
    rintro l s u e k a he hm hk rfl
    rw [exec_maskApply he hm]
    refine ⟨fun ha hpast => ?_, fun ha hnot ht => ?_, fun ha ht => ?_⟩
    · rw [exec_maskApply (s := s.setLink e { k with rxAt := none, discard := false }) he hm, rxApply_some hk ha, if_pos ((commaPast_iff ..).2 hpast),
        rxApply_none (link_setLink_self s e _).symm rfl]
    · rw [rxApply_some hk ha, if_neg (fun h => absurd ((commaPast_iff ..).1 h) (by omega)), txApply_none hk ht]
    · rw [rxApply_none hk ha, txApply_none hk ht]
  case partner =>
    intro l s u e k m a he hm hk ha ht hu
    rw [exec_maskApply he hm, rxApply_none hk ha, txApply_some hk ht hu]
    refine ⟨fun hpast hn => ?_, fun hpast hn => ?_, fun hnot => ?_⟩
    · rw [if_pos ((commaPast_iff ..).2 hpast), if_neg (by rw [hn]; decide)]
    · rw [if_pos ((commaPast_iff ..).2 hpast), if_pos hn]
    · rw [if_neg (fun h => absurd ((commaPast_iff ..).1 h) (by omega))]
  case resend =>
    rintro s t e rfl hh hi
    obtain ⟨n, hn⟩ := putFrames_link s e (s.link e).store
    rw [resendFrom_all hh hi]
    refine ⟨?_, ?_, ?_⟩
    · exact ((State.inc_frame ..).out rfl).trans ((State.markSent_frame ..).out rfl)
    · rw [link_congr ((State.inc_frame ..).links rfl), markSent_store, hn]
    · have hf : ((s.putFrames e (s.link e).store).markSent e (fun _ => true)).fld (replayReg e) 31 16 = s.fld (replayReg e) 31 16 :=
        fld_congr (((State.markSent_frame ..).regs rfl).trans (putFrames_regs ..)) ..
      exact (fld_inc_min _ _ _ (by decide)).trans (by rw [hf]; rfl)
  case ack =>
    rintro l nxt s u e he hr rfl
    exact exec_ackReceive he nxt hr
  case nak =>
    rintro l nxt s u e he hr rfl ht
    exact exec_nakReceive he nxt hr ((txRuns_acked ..).trans ht)
  case sends =>
    intro l s e he
    refine ⟨fun hr ht => ?_, exec_replayTimeout he, fun h => ?_⟩
    · rw [exec_ackSend he hr ht, ackBlock_false]
    · have ht : s.txRuns e = false := txRuns_stopped (.inr (.inr h))
      exact ⟨exec_ackSend_stopped he ht, exec_replayTimeout_stopped he ht⟩
  case depart =>
    intro l s r
    refine ⟨fun ho h1 h5 => next_congr (if_pos ⟨ho, h1, h5⟩), fun p ht hp => ?_, fun ht hp => ?_⟩
    all_goals
      show execPartnerTimeout l s = _
      unfold execPartnerTimeout
      rw [ht]
      dsimp only
      rw [hp]

end Sys2Proof.Machine
end
